-- ==== Sys2Proof/Word.lean ====
section
/-!
DEFINITION. Word.lean: the word types of the model. A line is 64 bytes (R6), a control-space register is 32 or 64
bits (R11), a key is an AES-256-XTS pair of 512 bits.
-/
namespace Sys2Proof

/-- A byte. -/
abbrev Byte := BitVec 8
/-- A 64-bit control-space word; a 32-bit register is held in its low half (R11). -/
abbrev Word64 := BitVec 64
/-- A 64-byte line (R6); byte j stands in bits 8j+7 to 8j (R11). -/
abbrev Line := BitVec 512
/-- A byte mask of a line, bit j for byte j. -/
abbrev LMask := BitVec 64
/-- An XTS key pair, key 1 in the low half. -/
abbrev Key := BitVec 512

/-- A sparse map in one canonical form: keys strictly rising and no entry equal to what an unlisted key reads as. -/
abbrev SMap (α : Type) := List (Nat × α)

end Sys2Proof
end

