-- ==== Sys2Proof/Syntax.lean ====
section
/-!
DEFINITION. Syntax.lean: the commands the block takes and the events that befall it, one constructor per row of
spec/opcode_table.json, with what each needs to be whole: who made an access, the addresses and values it carries,
and, for an event of the world outside the model (a link that trains, a medium that answers), what that world did.
-/
namespace Sys2Proof

/-- A requester of control space: a Headland core or the sideband (R16, R17). -/
inductive Agent where
  | h0 | h1 | h2 | h3 | sb
  deriving DecidableEq, Repr

/-- The size of a control-space access in bytes (R16). -/
inductive AccSize where
  | b1 | b2 | b4 | b8
  deriving DecidableEq, Repr

/-- What an array check of the near cache found (R168). `word` and `bit` locate a corrected bit. -/
inductive NcErr where
  | none
  | ce (word : Fin 8) (bit : Fin 72)
  | due (word : Fin 8)
  | tag
  deriving DecidableEq, Repr

/-- What the on-chip arrays and queues did while a request ran: the heat queue was full (R222), the line's
combining-buffer check bits were bad (R128), the near-cache array erred (R168), a lock-table way was outvoted (R600). -/
structure FabEnv where
  heatFull : Bool := false
  cbBad : Bool := false
  nc : NcErr := .none
  voted : Option (Fin 16) := none
  deriving DecidableEq, Repr

/-- What the world outside answers to a register write that starts something there, where the register has no row of its own for it: the
levels of PWR_FLT_N and TEST_MODE, whether what is checked is in order, the lanes that match, the alarm sources present, the outcome on the
PMBus, the data a device returns. -/
structure BusEnv where
  flt : Bool := true
  test : Bool := false
  ok : Bool := true
  pass : BitVec 40 := 0
  present : BitVec 7 := 0
  res : Fin 4 := 0
  data : List Byte := []
  deriving DecidableEq, Repr

/-- The ECC outcome of a DRAM read (R189, R190): no error, corrected in device `dev`, good or corrected on the second
read, or uncorrectable twice. -/
inductive Ecc where
  | good
  | corrected (dev : Fin 10)
  | reread (dev : Fin 10)
  | ueTwice
  deriving DecidableEq, Repr

/-- What a DRAM read was for (R190): a tine request by its number, a move of a tier page, a line of the metadata
reserve (a tier-map line by its first page, a frame-table line by its first frame, with the DRAM frame and line where it
lies), a line of a Granary buffer, or a line of the Granary's descriptor table by the first of its eight buffers (R415). -/
inductive DramTgt where
  | req (id : Nat)
  | move (page : BitVec 34) (line : Fin 64)
  | tierLine (page : BitVec 34) (f : BitVec 31) (i : Fin 64)
  | frameLine (frame : BitVec 31) (f : BitVec 31) (i : Fin 64)
  | gran (buf : BitVec 20) (i : Fin 64)
  | grnTable (first : BitVec 20) (f : BitVec 31) (i : Fin 64)
  deriving DecidableEq, Repr

/-- How a flash slot read ended (R264): decoded hard with so many bits corrected, decoded after a retry, reconstructed from
its stripe, or uncorrectable. -/
inductive SlotOut where
  | hard (bits : Nat)
  | retry
  | recon
  | bad
  deriving DecidableEq, Repr

/-- Which ingress raises panic (R188). -/
inductive PanicSrc where
  | yoke | drill
  deriving DecidableEq, Repr

/-- What a host asks of an HDM decoder when it commits it (R99): base, size and DPA skip in bytes, interleave ways and
granularity in bytes, this device's position in the interleave, and lock on commit. -/
structure HdmReq where
  base : Nat
  size : Nat
  ways : Nat
  gran : Nat
  pos : Nat
  skip : Nat
  lock : Bool
  deriving DecidableEq, Repr

/-- An entry of a Yoke DATA frame (R331). `count` of a zero run is the lines minus 1. -/
inductive YokeEntry where
  | full (line : BitVec 40) (data : List Line)
  | part (line : BitVec 40) (mask : LMask) (data : Line)
  | zero (line : BitVec 40) (count : Fin 64)
  | pageUnwritten (page : BitVec 34)
  | pagePoison (page : BitVec 34) (psrc : Fin 4)
  | role (region : Fin 256) (action : Fin 3) (cls : Fin 4) (role : Fin 2) (epoch : BitVec 24) (size : Nat)
  | heal (req : BitVec 32) (line : BitVec 40) (data : List Line)
  | checkpoint (page : BitVec 34)
  | genEnd
  deriving DecidableEq, Repr

/-- What a received Yoke frame carries in its header, and whether its tag verifies (R328 to R330): pair, path, key
generation, FSN or CSN, the applied point it acknowledges and the generation that names. -/
structure YokeHdr where
  pair : Fin 2
  path : Fin 2
  gen : Bool
  seq : BitVec 48
  ack : BitVec 48
  akgen : Bool
  auth : Bool
  deriving DecidableEq, Repr

/-- A received Drill packet (R360, R371): its header fields, the port it arrived on, the fill of the ingress FIFO in KiB once
it had arrived (4,096: it found the FIFO full), and what the checks of R371 find: `fmt` magic, version, length and class
agree, `addr` it came from the named path's endpoint, `auth` its tag verifies. -/
structure DrlHdr where
  conn : BitVec 12
  path : Fin 2
  attempt : Byte
  seq : BitVec 48
  ack : BitVec 48
  final : Bool := false
  off : BitVec 16 := 0
  port : Fin 8
  fifo : BitVec 13 := 0
  fmt : Bool := true
  addr : Bool := true
  auth : Bool := true
  deriving DecidableEq, Repr

/-- What a hardware sender presents to a mailbox slot (R454): a command that a host writes into an LD's primary mailbox, or
one that waits there; the MBX request of a connection; the twin's message for a relay channel. -/
inductive HwSend where
  | cxl (link ld : Fin 16) (op : BitVec 16) (pay : List Byte)
  | cxlWaiting (link ld : Fin 16)
  | drill (conn : BitVec 12) (psn : BitVec 48)
  | relay (c : Fin 64)
  deriving DecidableEq, Repr

/-- Why a network port discards a received frame (R359, R389). -/
inductive MacDrop where
  | fcs
  | length
  | notDrill
  deriving DecidableEq, Repr

/-- A PROGRAM call that the watchdog cuts off (R545): the bank, the first word, the words, how many of them are programmed when
the next one is cut off. -/
structure EflCut where
  bank : Bool
  word : BitVec 19
  data : List (BitVec 256)
  done : Nat
  deriving DecidableEq, Repr

/-- The commands and events of the block: one constructor per row of spec/opcode_table.json. -/
inductive Instr where
  /-- CTRL_REG_WRITE (R12): A write to a control-space register that has no row of its own stores its fields by access code. -/
  | ctrlRegWrite (a : Agent) (addr : BitVec 32) (wide : Bool) (v : Word64) (env : BusEnv)
  /-- BAD_WIDTH_ACCESS (R16): An 8/16-bit, misaligned or wrongly sized access is ignored or read as zero and recorded as a width or alignment violation. -/
  | badWidthAccess (a : Agent) (wr : Bool) (addr : BitVec 32) (size : AccSize) (v : Word64)
  /-- LOW_HALF_READ (R17): A 32-bit read of the low half of a 64-bit register latches the high half into the requester's shadow. -/
  | lowHalfRead (a : Agent) (addr : BitVec 32)
  /-- HIGH_HALF_READ (R17): A 32-bit read of the high half returns the requester's shadow if still held, otherwise the live value. -/
  | highHalfRead (a : Agent) (addr : BitVec 32)
  /-- UNASSIGNED_ACCESS (R38): An access to an unassigned address or undefined offset reads zero or is ignored and is recorded. -/
  | unassignedAccess (a : Agent) (wr : Bool) (addr : BitVec 32) (wide : Bool) (v : Word64)
  /-- SIDEBAND_WINDOW_DENIED (R39): A sideband access beyond the headers of a window it may not reach reads zero, performs no write and is recorded. -/
  | sidebandWindowDenied (wr : Bool) (addr : BitVec 32) (wide : Bool) (v : Word64)
  /-- POWERED_OFF_WINDOW_ACCESS (R42): An access above the header of a window whose domain is off reads zero or is ignored, is recorded and wakes nothing. -/
  | poweredOffWindowAccess (a : Agent) (wr : Bool) (addr : BitVec 32) (wide : Bool) (v : Word64)
  /-- MEM_WR (R102): A CXL MemWr is region-checked, merged into a combining buffer and completed at its class's completion point. -/
  | memWr (link : Fin 16) (ld : Fin 16) (tag : BitVec 16) (hpa : BitVec 52) (data : Line) (poison : Bool) (env : FabEnv)
  /-- MEM_WR_PTL (R101): A CXL MemWrPtl merges its enabled bytes into a combining buffer, or only checks the region when no byte is enabled. -/
  | memWrPtl (link : Fin 16) (ld : Fin 16) (tag : BitVec 16) (hpa : BitVec 52) (data : Line) (mask : LMask) (poison : Bool) (env : FabEnv)
  /-- MEM_RD (R101): A CXL MemRd or MemRdData reads the line through the lock table, combining buffer, near cache, DRAM or flash. -/
  | memRd (link : Fin 16) (ld : Fin 16) (tag : BitVec 16) (hpa : BitVec 52) (env : FabEnv)
  /-- MEM_INV (R101): A MemInv or MemInvNT does nothing and returns NDR Cmp. -/
  | memInv (link : Fin 16) (ld : Fin 16) (tag : BitVec 16)
  /-- MEM_CLN_EVCT (R101): A MemClnEvct does nothing and returns NDR Cmp. -/
  | memClnEvct (link : Fin 16) (ld : Fin 16) (tag : BitVec 16)
  /-- MEM_SPEC_RD (R101): A MemSpecRd prefetches a DRAM-resident line into the side buffer after a passing region check, with no response. -/
  | memSpecRd (link : Fin 16) (ld : Fin 16) (hpa : BitVec 52)
  /-- UNSUPPORTED_M2S_OPCODE (R101): MemRdFwd, MemWrFwd, BIConflict, TEE and other opcodes are not executed and are logged as protocol errors. -/
  | unsupportedM2sOpcode (link : Fin 16) (ld : Fin 16) (op : BitVec 8)
  /-- TIER_ENTRY_RETURN (R130): The authoritative tier-map entry returns and the tine uses or discards speculative data and acts on the entry state. -/
  | tierEntryReturn (req : Nat)
  /-- SPEC_DATA_RETURN (R130): Speculative DRAM data returns and is used or discarded against the authoritative entry. -/
  | specDataReturn (req : Nat)
  /-- LOCK_WAY_FREED (R121): An access waiting for a free lock-table way takes the freed way and proceeds. -/
  | lockWayFreed (req : Nat) (env : FabEnv)
  /-- MODIFY_AFTER_READS (R121): A modifying access waiting for earlier reads in lock order proceeds once they have captured their data. -/
  | modifyAfterReads (req : Nat) (env : FabEnv)
  /-- MIRROR_WAIT_READ_RESUME (R124): A read waiting at a MIRROR_WAIT entry proceeds when the entry becomes HELD. -/
  | mirrorWaitReadResume (req : Nat) (env : FabEnv)
  /-- CB_LINE_FREED_WRITE (R127): A write waiting for a free combining-buffer line in its tine takes the line once one drains. -/
  | cbLineFreedWrite (req : Nat) (env : FabEnv)
  /-- WORK_STEAL (R117): An idle tine takes the head request of the deepest qualifying queue of its cluster neighbours. -/
  | workSteal (thief : Fin 256) (env : FabEnv)
  /-- DRAIN_AGE_EXPIRY (R125): A combining-buffer line unwritten for TIN_DRAIN.AGE is drained. -/
  | drainAgeExpiry (line : BitVec 40) (env : FabEnv)
  /-- FRAME_READY_FOR_DRAIN (R126): A drain waiting for a frame allocation or promotion proceeds once the page has a frame. -/
  | frameReadyForDrain (page : BitVec 34) (frame : BitVec 31)
  /-- WRITE_QUEUE_ACCEPT (R181): A drained line is encrypted and accepted into a DRAM write queue, freeing or demoting its lock entry. -/
  | writeQueueAccept (line : BitVec 40)
  /-- TINE_FENCE (R142): TIN_TINE_FENCE fences tines: held requests, queue move, new homes, drain of started work. -/
  | tineFence (a : Agent) (c : Fin 8) (m : BitVec 32)
  /-- CLUSTER_FENCE (R142): TIN_CL_CTL.FENCE fences a whole cluster through DRAINING to FENCED. -/
  | clusterFence (a : Agent) (c : Fin 8)
  /-- FENCE_DRAIN_END (R142): When started requests and combining lines of a fenced unit have drained, TIN_TINE_UP clears or STATE becomes FENCED. -/
  | fenceDrainEnd (c : Fin 8)
  /-- REQUEST_ABANDON (R143): A started request not complete 1 ms after a fence trigger is abandoned with no completion. -/
  | requestAbandon (req : Nat)
  /-- TINE_UNFENCE (R145): TIN_TINE_UNFENCE returns tines to service and moves buckets back. -/
  | tineUnfence (a : Agent) (c : Fin 8) (m : BitVec 32)
  /-- CLUSTER_UNFENCE (R145): TIN_CL_CTL.UNFENCE returns a fenced cluster to service. -/
  | clusterUnfence (a : Agent) (c : Fin 8)
  /-- HINT_FLUSH (R147): TIN_HINT_CTL.FLUSH invalidates the cluster's tier hint table within 10 µs. -/
  | hintFlush (a : Agent) (c : Fin 8)
  /-- ALT_PEAK_CLR (R146): TIN_ALT_STS.PEAK_CLR sets PEAK to IN_USE. -/
  | altPeakClr (a : Agent)
  /-- CB_USE_PEAK_CLR (R147): TIN_CB_USE.PEAK_CLR sets PEAK to IN_USE. -/
  | cbUsePeakClr (a : Agent) (c : Fin 8)
  /-- DPA_LIMIT_WRITE (R45): A write to TIN_DPA_LIMIT is stored only while no region is valid or releasing, otherwise ignored and recorded. -/
  | dpaLimitWrite (a : Agent) (v : BitVec 32)
  /-- WORLD_LOCK_SET (R56): Setting TIN_WORLD_LOCK.LOCK fixes every world field until power-on and lets requests and host commands be admitted. -/
  | worldLockSet (a : Agent)
  /-- CHK_LAST_CLEAR (R58): A W1C of TIN_CHK_LAST.VALID clears it, unless a non-secure core writes while it names a secure region. -/
  | chkLastClear (a : Agent)
  /-- RGN_OP_NONE (R65): TIN_RGN_COMMIT with OP NONE has no effect. -/
  | rgnOpNone (a : Agent) (r : Fin 256)
  /-- RGN_LOAD (R65): TIN_RGN_COMMIT LOAD copies a live entry into the staging registers. -/
  | rgnLoad (a : Agent) (r : Fin 256)
  /-- RGN_COMMIT (R66): TIN_RGN_COMMIT COMMIT validates staging and replaces the live entry at the switch point, or refuses with a result. -/
  | rgnCommit (a : Agent) (r : Fin 256)
  /-- RGN_DESTROY (R65): TIN_RGN_COMMIT DESTROY clears VALID and sets RELEASING at the switch point. -/
  | rgnDestroy (a : Agent) (r : Fin 256)
  /-- RGN_DRAIN_END (R68): When all requests checked under the old entry finish, RESULT is set, BUSY clears and any release starts. -/
  | rgnDrainEnd
  /-- RGN_RELEASE_END (R69): When Winnow has released the range, RELEASING clears and the entry takes reset values. -/
  | rgnReleaseEnd
  /-- BIFUR_MODE_WRITE (R78): A write of HPT_BIFUR.MODE applies at once if all sub-links are disabled, else sets PENDING. -/
  | bifurModeWrite (a : Agent) (p : Fin 4) (m : BitVec 2)
  /-- SUBLINK_ENABLE_CHANGE (R77): A write of HPT_LCTL_s.ENABLE starts or stops training of a sub-link and applies a pending bifurcation when the last is disabled. -/
  | sublinkEnableChange (a : Agent) (p : Fin 4) (q : Fin 4) (on : Bool)
  /-- LINK_RETRAIN (R83): HPT_LCTL_s.RETRAIN forces the link through Recovery. -/
  | linkRetrain (a : Agent) (p : Fin 4) (q : Fin 4)
  /-- LINK_TRAIN_DONE (R81): Training ends with the link up at a rate and width, as SLD or MLD, possibly down-trained. -/
  | linkTrainDone (p : Fin 4) (q : Fin 4) (rate : Fin 4) (width : Fin 17) (peerSwitch : Bool) (mldOk : Bool)
  /-- LINK_MODE_FAIL (R82): Training that fails to negotiate CXL 256-byte flits or ends below 8 GT/s sets MODE_FAIL and counts a failure. -/
  | linkModeFail (p : Fin 4) (q : Fin 4)
  /-- LINK_TRAIN_RETRY_TIMER (R82): One second after a training failure the sub-link starts training again. -/
  | linkTrainRetryTimer (p : Fin 4) (q : Fin 4)
  /-- LINK_RECOVERY (R83): A link passes through Recovery, replays unacknowledged flits and may down-train. -/
  | linkRecovery (p : Fin 4) (q : Fin 4) (rate : Fin 4) (width : Fin 17) (replays : BitVec 16)
  /-- LINK_DOWN (R84): A link goes down: crossed requests finish with responses discarded, ingress requests are dropped. -/
  | linkDown (p : Fin 4) (q : Fin 4)
  /-- SUBLINK_FENCE (R85): HPT_FENCE_CTL.FENCE fences a sub-link into electrical idle. -/
  | sublinkFence (a : Agent) (p : Fin 4) (m : BitVec 4)
  /-- SUBLINK_UNFENCE (R85): HPT_FENCE_CTL.UNFENCE returns a fenced sub-link to DISABLED. -/
  | sublinkUnfence (a : Agent) (p : Fin 4) (m : BitVec 4)
  /-- DEVLOAD_WRITE (R110): A write of HPT_DEVLOAD is stored only if T1 < T2 < T3, otherwise ignored and recorded. -/
  | devloadWrite (a : Agent) (p : Fin 4) (v : BitVec 32)
  /-- LDMBX_WRITE (R88): A write of HPT_LDMBX_n naming a channel of another world is ignored and recorded. -/
  | ldmbxWrite (a : Agent) (n : Fin 64) (v : BitVec 32)
  /-- PERST_ASSERT (R111): A PERST input held low for 100 µs resets the sub-link conventionally. -/
  | perstAssert (p : Fin 4) (q : Fin 4)
  /-- HOT_RESET (R111): A hot reset, link disable or surprise link-down resets configuration space and uncommits decoders. -/
  | hotReset (p : Fin 4) (q : Fin 4)
  /-- FUNCTION_LEVEL_RESET (R111): An FLR resets an LD's configuration registers and aborts a queued mailbox command. -/
  | functionLevelReset (link : Fin 16) (ld : Fin 16)
  /-- CXL_RESET (R111): A CXL Reset uncommits the LD's decoders and refuses new requests until it ends. -/
  | cxlReset (link : Fin 16) (ld : Fin 16)
  /-- CXL_RESET_END (R111): A CXL Reset ends once the LD's in-flight requests complete, within 10 ms. -/
  | cxlResetEnd (link : Fin 16) (ld : Fin 16)
  /-- GET_LD_INFO (R87): The FM-owned LD answers Get LD Info. -/
  | getLdInfo (link : Fin 16)
  /-- GET_LD_ALLOCATIONS (R87): The FM-owned LD reports one range covering the whole host capacity per LD. -/
  | getLdAllocations (link : Fin 16)
  /-- FM_API_UNSUPPORTED (R87): Any other FM API command is rejected with Unsupported. -/
  | fmApiUnsupported (link : Fin 16) (op : BitVec 16)
  /-- HDM_DECODER_COMMIT (R99): An HDM decoder commit is accepted or reports Commit Error for bad ways, overlap or Memory_Active 0. -/
  | hdmDecoderCommit (link : Fin 16) (ld : Fin 16) (idx : Fin 8) (r : HdmReq)
  /-- DC_EVENT_RAISE (R97): After a commit's BUSY clears Headland raises Add Capacity, Forced Release or Region Configuration Updated events. -/
  | dcEventRaise (n : Fin 64)
  /-- GPF_PHASE2 (R107): A Global Persistent Flush completes without moving data within 1 µs. -/
  | gpfPhase2 (link : Fin 16) (ld : Fin 16)
  /-- MISS_FILL_RETURN (R155): A miss entry's data returns, serves joined reads and is installed unless killed or excluded. -/
  | missFillReturn (line : BitVec 40)
  /-- PREFETCH_RETURN (R163): Unkilled prefetch data enters the side buffer, displacing the oldest entry. -/
  | prefetchReturn (line : BitVec 40)
  /-- RANGE_INVALIDATE (R165): NCH_INV_CTL.GO queues a range invalidation of tier pages in all banks. -/
  | rangeInvalidate (a : Agent)
  /-- WHOLE_CACHE_INVALIDATE (R167): NCH_INV_CTL.ALL clears every valid bit, kills miss entries and starts the zero sweep. -/
  | wholeCacheInvalidate (a : Agent)
  /-- RANGE_INV_END (R165): A bank finishes a range invalidation by probe or walk and the next queued one starts. -/
  | rangeInvEnd (b : Fin 16)
  /-- ZERO_SWEEP_END (R167): A bank's zero-line sweep after a whole-cache clear completes. -/
  | zeroSweepEnd (b : Fin 16)
  /-- CACHE_EN_WRITE (R174): A write of NCH_CTL.CACHE_EN disables or resumes the bank's cache with every line invalid. -/
  | cacheEnWrite (a : Agent) (b : Fin 16) (on : Bool)
  /-- NC_BANK_FENCE (R169): NCH_FENCE_CTL.FENCE fences the bank's cache and side buffer. -/
  | ncBankFence (a : Agent) (b : Fin 16)
  /-- NC_BANK_UNFENCE (R174): NCH_FENCE_CTL.UNFENCE returns a fenced bank to service with every line invalid. -/
  | ncBankUnfence (a : Agent) (b : Fin 16)
  /-- DRAM_READ_RETURN (R190): A DRAM read returns and is decrypted, corrected, reread, recovered or poisoned by its ECC outcome. -/
  | dramReadReturn (t : DramTgt) (ecc : Ecc)
  /-- REFRESH_INTERVAL (R184): A refresh interval falls due for a rank and issues or postpones four REFsb commands. -/
  | refreshInterval (c : Fin 16) (rank : Fin 4) (postpone : Bool)
  /-- MR4_POLL (R184): Every 1 ms the channel reads MR4 and sets double-rate refresh where called for. -/
  | mr4Poll (c : Fin 16) (hot : BitVec 4)
  /-- REFRESH_MAKEUP_BURST (R185): Owed refresh intervals are made up in a burst when the count reaches POSTPONE_MAX or the rank idles. -/
  | refreshMakeupBurst (c : Fin 16) (rank : Fin 4)
  /-- REQUEST_AGED (R187): A request reaching AGE_NS in a queue moves to the aged class and is issued within YIELD_NS. -/
  | requestAged (c : Fin 16) (idx : Nat)
  /-- ROW_IDLE_PRECHARGE (R186): A row left open for PAGE_IDLE with no request is precharged. -/
  | rowIdlePrecharge (c : Fin 16) (bank : BitVec 10)
  /-- CA_PARITY_ALERT (R192): ALERT_n for CA parity stops the subchannel, clears the RCD and replays the retry buffer. -/
  | caParityAlert (c : Fin 16) (sub : Fin 2)
  /-- PANIC_RAISE (R188): Yoke or Drill ingress raises panic to all channels, reclassing requests of its origin. -/
  | panicRaise (src : PanicSrc)
  /-- PANIC_FALL (R188): Ingress panic falls when its buffer drops below threshold. -/
  | panicFall (src : PanicSrc)
  /-- SR_ENTER_REQUEST (R195): DRM_SR.ENTER starts self-refresh entry when the queues are empty. -/
  | srEnterRequest (a : Agent) (c : Fin 16)
  /-- SR_IDLE_ENTRY (R195): With AUTO set and no request for IDLE_US, the channel enters self-refresh. -/
  | srIdleEntry (c : Fin 16)
  /-- SR_EXIT_REQUEST (R196): DRM_SR.EXIT, or a request arriving, brings the channel out of self-refresh. -/
  | srExitRequest (a : Agent) (c : Fin 16)
  /-- MR_WRITE (R197): DRM_MR_CMD OP 0 issues a mode-register write. -/
  | mrWrite (a : Agent) (c : Fin 16) (v : BitVec 28)
  /-- MR_READ (R197): DRM_MR_CMD OP 1 issues a mode-register read into DRM_MR_DATA. -/
  | mrRead (a : Agent) (c : Fin 16) (v : BitVec 28) (data : Byte)
  /-- MPC_COMMAND (R197): DRM_MR_CMD OP 2 issues a multi-purpose command. -/
  | mpcCommand (a : Agent) (c : Fin 16) (v : BitVec 28)
  /-- TRAINING_READ_COMPARE (R197): DRM_MR_CMD OP 3 runs a training read compare into DRM_TRN. -/
  | trainingReadCompare (a : Agent) (c : Fin 16) (v : BitVec 28) (pass : BitVec 40)
  /-- DELAY_APPLY (R198): DRM_DLY_CTL.APPLY requests loading of every delay shadow. -/
  | delayApply (a : Agent) (c : Fin 16)
  /-- DELAY_SHADOW_LOAD (R198): The shadows are loaded during a REFsb window and PENDING clears. -/
  | delayShadowLoad (c : Fin 16)
  /-- CHANNEL_ACTIVATE (R210): DRM_CFG.ACTIVE admits traffic once training is complete. -/
  | channelActivate (a : Agent) (c : Fin 16)
  /-- OSCILLATOR_DRIFT_CHECK (R199): Every 250 ms firmware reads DQS oscillators and reapplies write delays on drift. -/
  | oscillatorDriftCheck (c : Fin 16) (rank : Fin 4) (drift : Bool) (dly : (List (BitVec 12)))
  /-- HARROW_PATROL_READ (R204): Harrow, paced over PASS_H, reads the next line of its pass and handles its errors. -/
  | harrowPatrolRead (ecc : Ecc)
  /-- RANK_FENCE (R208): DRM_FENCE_CTL.RANK_FENCE fences ranks, substituting the reserve and evacuating or dropping pages. -/
  | rankFence (a : Agent) (c : Fin 16) (m : BitVec 4)
  /-- CHANNEL_FENCE (R208): DRM_FENCE_CTL.CH_FENCE fences the channel in the mode set. -/
  | channelFence (a : Agent) (c : Fin 16)
  /-- EVACUATION_END (R208): An evacuation ends; frames are retired and STATE becomes FENCED or RANKS_UP clears. -/
  | evacuationEnd (c : Fin 16) (dst : BitVec 28)
  /-- DRAM_UNFENCE (R209): DRM_FENCE_CTL.UNFENCE returns fenced units to OFF with all frames free. -/
  | dramUnfence (a : Agent) (c : Fin 16)
  /-- EPOCH_START (R221): An epoch starts a sweep of the frame table decaying heat. -/
  | epochStart
  /-- EPOCH_END (R221): An epoch ends once EPOCH_S has passed and its sweep finished, setting STRETCH if late. -/
  | epochEnd
  /-- FLASH_DATA_STAGED (R229): Furrow delivers a page into staging and waiting reads are served. -/
  | flashDataStaged (page : BitVec 34)
  /-- DEMOTION_START (R230): The demoter takes a candidate page and starts a demotion. -/
  | demotionStart
  /-- CEILING_DEMOTION (R230): A ceiling or a waiting drain makes Winnow scan the region and demote an eligible page. -/
  | ceilingDemotion (r : Fin 256)
  /-- CLEANING_START (R231): The dirty count reaching START starts cleaning of the coldest dirty pages. -/
  | cleaningStart
  /-- FRAME_MOVE_START (R233): An evacuation, retirement or substitution starts a frame-to-frame move. -/
  | frameMoveStart (page : BitVec 34) (dest : BitVec 31)
  /-- MOVE_COPY_DONE (R235): The copy reaches its destination, tracked lines are replayed and drains are held for the switch. -/
  | moveCopyDone (page : BitVec 34) (dest : BitVec 38) (clean : Bool)
  /-- MOVE_SWITCH (R236): The entry is written through with the move's result, hints invalidated and drains released. -/
  | moveSwitch (page : BitVec 34)
  /-- POISON_PAGE_FINALIZE (R239): After the invalidation ends the page is healed or written POISONED and waiting reads released. -/
  | poisonPageFinalize (page : BitVec 34)
  /-- META_REBUILD_DONE (R243): A rebuild finishes and waiting requests proceed. -/
  | metaRebuildDone
  /-- PIN_OP (R225): WIN_PIN_CTL OP PIN checks and pins a range, or refuses with PIN_FULL. -/
  | pinOp (a : Agent)
  /-- UNPIN_OP (R225): WIN_PIN_CTL OP UNPIN clears PINNED on a range. -/
  | unpinOp (a : Agent)
  /-- PIN_OP_NONE (R244): WIN_PIN_CTL GO with OP 0 or 3 does nothing. -/
  | pinOpNone (a : Agent) (three : Bool)
  /-- PIN_OP_DONE (R225): The pin operation has written its last entry and BUSY clears. -/
  | pinOpDone
  /-- PIN_LOAD_DONE (R227): The last pinned FLASH_ONLY page is in DRAM and LOADING clears. -/
  | pinLoadDone (r : Fin 256)
  /-- REGION_POLICY_WRITE (R224): A write of WIN_RGN_POL_n is stored unless it breaks the ceiling or floor rules. -/
  | regionPolicyWrite (a : Agent) (r : Fin 256) (v : Word64)
  /-- GOVERNOR_ADMIT (R276): A page waiting for governor allowance is admitted once the allowance reaches 4,096. -/
  | governorAdmit (page : BitVec 34)
  /-- GOVERNOR_RECOMPUTE (R276): Every hour Furrow recomputes the governor rate G. -/
  | governorRecompute
  /-- STRIPE_PROGRAM_DONE (R260): A stripe row's programs report status and the stripe leaves the write buffer or is rewritten on failure. -/
  | stripeProgramDone (loc : BitVec 38) (fails : (List (Fin 32))) (re : (List (BitVec 38)))
  /-- SLOT_READ_RETURN (R264): A slot read returns and is decoded by hard LDPC, retries or reconstruction. -/
  | slotReadReturn (loc : BitVec 38) (out : SlotOut) (re : BitVec 38)
  /-- DEMAND_SUSPEND (R263): A demand read suspends a program or erase once MIN_RUN_US has run. -/
  | demandSuspend (lun : Fin 512)
  /-- SUSPENDED_OP_RESUME (R263): A suspended operation resumes when no demand read waits. -/
  | suspendedOpResume (lun : Fin 512)
  /-- GC_START (R267): Free superblocks below LOW start collection of the victim with fewest valid slots. -/
  | gcStart (meta_ : Bool)
  /-- RELOCATION_CAS (R267): A relocated slot's compare-and-set updates the map or counts a lost race. -/
  | relocationCas (page : BitVec 34)
  /-- SUPERBLOCK_ERASE (R268): A superblock with no outstanding captured reads is erased and becomes FREE. -/
  | superblockErase (sb : BitVec 18)
  /-- WEAR_LEVEL (R270): An erase-count spread over SPREAD relocates the lowest-count closed superblock. -/
  | wearLevel
  /-- RETENTION_SCAN (R271): Every SCAN_H hours a page of each block is read and superblocks refreshed as needed. -/
  | retentionScan (need : (List (BitVec 18)))
  /-- LUN_READY_TIMEOUT (R272): A LUN not ready within 4 × tBERS after Reset LUN is retired. -/
  | lunReadyTimeout (lun : Fin 512)
  /-- LUN_RETIRE (R272): FUR_CH_LUN_FENCE.FENCE retires a LUN and starts rebuild. -/
  | lunRetire (a : Agent) (c : Fin 32) (m : BitVec 16)
  /-- REBUILD_DONE (R272): The last superblock of a retired LUN is relocated and REBUILDING clears. -/
  | rebuildDone
  /-- FLASH_CHANNEL_FENCE (R273): FUR_CH_CTL.FENCE fences an ONFI channel and retires its LUNs. -/
  | flashChannelFence (a : Agent) (c : Fin 32)
  /-- FLASH_CHANNEL_UNFENCE (R274): FUR_CH_CTL.UNFENCE returns a channel to INIT with blocks erased. -/
  | flashChannelUnfence (a : Agent) (c : Fin 32)
  /-- LUN_UNFENCE (R274): FUR_CH_LUN_FENCE.UNFENCE returns a LUN to service. -/
  | lunUnfence (a : Agent) (c : Fin 32) (m : BitVec 16)
  /-- ONFI_COMMAND_BYTE (R281): FUR_CH_CMD OP 0 issues a command byte. -/
  | onfiCommandByte (a : Agent) (c : Fin 32) (ce : Fin 4) (b : Byte)
  /-- ONFI_ADDRESS_BYTE (R281): FUR_CH_CMD OP 1 issues an address byte. -/
  | onfiAddressByte (a : Agent) (c : Fin 32) (ce : Fin 4) (b : Byte)
  /-- ONFI_DATA_OUT (R281): FUR_CH_CMD OP 2 sends data from XBUF. -/
  | onfiDataOut (a : Agent) (c : Fin 32) (ce : Fin 4) (len : BitVec 13)
  /-- ONFI_DATA_IN (R281): FUR_CH_CMD OP 3 reads data into XBUF. -/
  | onfiDataIn (a : Agent) (c : Fin 32) (ce : Fin 4) (len : BitVec 13) (data : (List (BitVec 32)))
  /-- ONFI_WAIT_READY (R281): FUR_CH_CMD OP 4 waits for ready. -/
  | onfiWaitReady (a : Agent) (c : Fin 32) (ce : Fin 4)
  /-- ONFI_DELAY_APPLY (R281): FUR_CH_DLY_CTL.APPLY loads delay shadows when no transfer is in flight. -/
  | onfiDelayApply (a : Agent) (c : Fin 32)
  /-- FURROW_FORMAT (R247): FUR_CTL.ENABLE with geometry set formats the flash tier, checking population and vendor table. -/
  | furrowFormat (a : Agent) (ok : Bool)
  /-- HARVEST_START (R295): Harvest stops traffic, drains queues and buffers, yields channels and dumps the save set and dirty pages. -/
  | harvestStart (bad : (List (BitVec 40)))
  /-- PLOSS_DEGLITCHED (R654): PLOSS_N low for DEGLITCH_US starts Harvest, powers down, stops a power-up or does nothing by state. -/
  | plossDeglitched
  /-- HARVEST_COMMAND_START (R294): HRV_CTL.START starts a Harvest with cause COMMAND while armed. -/
  | harvestCommandStart (a : Agent)
  /-- HARVEST_SEAL (R295): When every stripe passes, both manifests are written, Fallow entered and HRV_BUSY falls. -/
  | harvestSeal (ue : (List (BitVec 40))) (lost : (List (BitVec 34))) (fails : (List (BitVec 23))) (used : (List (BitVec 18)))
  /-- HARVEST_STORE_FAIL (R302): A HARVEST rail losing power-good stops Harvest with no manifest. -/
  | harvestStoreFail (n : Nat) (saveOk : Bool) (used : (List (BitVec 18)))
  /-- FALLOW_END (R304): HRV_CTL.FALLOW_END clears FALLOW_HELD. -/
  | fallowEnd (a : Agent)
  /-- HARVEST_CONFIG_WRITE (R314): A change to HRV_CAP, HRV_BOARD, HRV_STORE or HRV_NAND updates EFF_GIB within 10 µs, or is ignored during Harvest. -/
  | harvestConfigWrite (a : Agent) (r : Fin 4) (v : BitVec 32)
  /-- HARVEST_ARMED (R292): Harvest arms when all arming conditions hold. -/
  | harvestArmed (sb : BitVec 18)
  /-- RESOW_START (R306): With Furrow trained, Resow reads the arm record and manifests and restores by path. -/
  | resowStart (manifest : Bool) (tokens : Bool) (scan : Bool) (bad : (List (BitVec 34))) (ue : (List (BitVec 40)))
  /-- RESOW_SWEEP (R310): Winnow's Resow sweep rewrites DRAM_CLEAN entries lacking a frame as FLASH_ONLY. -/
  | resowSweep
  /-- YOKE_FRAME_SEND (R333): A DATA frame leaves on every usable path of its pair once a path is free. -/
  | yokeFrameSend (p : Fin 2)
  /-- YOKE_DATA_RECEIVE (R334): A DATA frame is deduplicated, authenticated, ordered and applied to the tines. -/
  | yokeDataReceive (h : YokeHdr) (ents : List YokeEntry)
  /-- YOKE_ACK_RECEIVE (R336): An ACK covers frames, completes waiting writes, advances checkpoints and triggers NAK retransmissions. -/
  | yokeAckReceive (h : YokeHdr) (naks : (List (BitVec 48 × BitVec 16))) (errs : (List (BitVec 48 × Byte × Byte)))
  /-- YOKE_GAP_TIMER (R335): A gap held for GAP_US sends an ACK naming it as NAK records. -/
  | yokeGapTimer (p : Fin 2)
  /-- YOKE_RTO_EXPIRY (R336): An unacknowledged frame past RTO is retransmitted with ATTEMPT incremented. -/
  | yokeRtoExpiry (p : Fin 2) (fsn : BitVec 48) (gen : Bool)
  /-- YOKE_HEARTBEAT (R330): A path silent for HB_US sends an HB frame. -/
  | yokeHeartbeat (p : Fin 2) (path : Fin 2)
  /-- PATH_DOWN_TIMER (R338): No authenticated frame for DOWN_US puts a path DOWN. -/
  | pathDownTimer (p : Fin 2) (path : Fin 2)
  /-- PATH_REJOIN (R338): A path clean in PROBATION for REJOIN_S becomes UP. -/
  | pathRejoin (p : Fin 2) (path : Fin 2)
  /-- YOKE_STALL_TIMER (R339): A DATA frame unacknowledged for STALL_US loses the twin. -/
  | yokeStallTimer (p : Fin 2)
  /-- YOKE_HELLO_RECEIVE (R343): The responder checks a HELLO and answers HELLO_RSP with new keys. -/
  | yokeHelloReceive (p : Fin 2) (path : Fin 2) (serial : BitVec 128) (nonce : BitVec 256) (gen : Bool) (pairs : Fin 4)
  /-- YOKE_HELLO_RSP_RECEIVE (R343): The initiator checks HELLO_RSP, derives keys and sends CONFIRM. -/
  | yokeHelloRspReceive (p : Fin 2) (path : Fin 2) (serial : BitVec 128) (nonce : BitVec 256) (gen : Bool) (pairs : Fin 4) (tag : Bool)
  /-- YOKE_CONFIRM_RECEIVE (R343): The responder checks CONFIRM and the new key generation is in force. -/
  | yokeConfirmReceive (p : Fin 2) (path : Fin 2) (tag : Bool)
  /-- YOKE_HELLO_REPEAT (R343): The initiator repeats HELLO every 1 ms until HELLO_RSP arrives. -/
  | yokeHelloRepeat (p : Fin 2)
  /-- YOKE_CLOSE_RECEIVE (R330): A CLOSE frame ends the handshake in error. -/
  | yokeCloseReceive (p : Fin 2) (path : Fin 2) (reason : Byte)
  /-- KEYGEN_ROLLOVER (R345): An FSN reaching 2^47 or 24 h passing starts a handshake of the other KEYGEN. -/
  | keygenRollover (p : Fin 2)
  /-- HEAL_REQ_RECEIVE (R348): The MIRROR side waits for its applied point and answers with HEAL_RSP. -/
  | healReqReceive (h : YokeHdr) (num : BitVec 32) (page : Bool) (line : BitVec 40) (g0 : Bool) (g1 : Bool) (n0 : BitVec 48) (n1 : BitVec 48)
  /-- HEAL_RSP_RECEIVE (R348): A HEAL_RSP delivers healed data as an internal write or fails the heal. -/
  | healRspReceive (h : YokeHdr) (num : BitVec 32) (status : Byte) (data : List Line) (frame : BitVec 31)
  /-- HEAL_TIMEOUT (R349): A heal unanswered within TMO_US fails and its requester poisons. -/
  | healTimeout (num : BitVec 32)
  /-- YOKE_MBX_RECEIVE (R355): An MBX frame is written into the twin-relay IN slot once and acknowledged. -/
  | yokeMbxReceive (h : YokeHdr) (c : Fin 64) (hdr : Word64) (msg : List Byte)
  /-- YOKE_MBX_ACK_RECEIVE (R355): An MBX_ACK empties the twin-relay OUT slot. -/
  | yokeMbxAckReceive (h : YokeHdr) (csn : BitVec 48)
  /-- YOKE_MBX_REPEAT (R355): An unacknowledged MBX frame is repeated every RTO. -/
  | yokeMbxRepeat (c : Fin 64)
  /-- ROLE_RESOLVE (R321): When the twin returns, ANNOUNCE entries resolve each region's roles and start resyncs. -/
  | roleResolve (r : Fin 256) (marks : (List (BitVec 20)))
  /-- LAG_LIMIT_RESUME (R325): Writes held by a TWIN_LAG lag limit resume when both measures fall below limits. -/
  | lagLimitResume (req : Nat) (env : FabEnv)
  /-- GRANULE_CLEAR_TIMER (R341): A TWIN_LAG granule is cleared after its lines are acknowledged and 1 s idle. -/
  | granuleClearTimer (g : BitVec 20)
  /-- RESILVER_GO (R350): YOK_RSV_CTL.GO starts or resumes the resilver of a region. -/
  | resilverGo (a : Agent) (v : BitVec 30)
  /-- RESILVER_STOP (R350): YOK_RSV_CTL.STOP stops the resilver at the next checkpoint. -/
  | resilverStop (a : Agent)
  /-- YOKE_PAIRS_WRITE (R316): A write of YOK_CTL.PAIRS is applied only while every region is NONE or SPLIT. -/
  | yokePairsWrite (a : Agent) (on : Bool)
  /-- DRL_WRITE (R373): A Drill WRITE packet is placed and presented and completes at its class's point. -/
  | drlWrite (h : DrlHdr) (ext : BitVec 128) (data : List Byte)
  /-- DRL_READ (R372): A Drill READ is executed and answered with READ_RSP. -/
  | drlRead (h : DrlHdr) (ext : BitVec 128)
  /-- DRL_ATOMIC (R383): A Drill ATOMIC performs FETCH_ADD, SWAP or COMPARE_SWAP and returns ATOMIC_RSP. -/
  | drlAtomic (h : DrlHdr) (ext : BitVec 128) (operand : Word64) (cmp : Word64)
  /-- DRL_JOB (R398): A JOB packet is checked whole and its descriptors enter the queue ring or are refused. -/
  | drlJob (h : DrlHdr) (ext : BitVec 128) (descs : List Byte)
  /-- DRL_JQ_READ (R407): A JQ_READ samples the completion count and answers or waits. -/
  | drlJqRead (h : DrlHdr) (ext : BitVec 128)
  /-- DRL_MBX_RECEIVE (R373): An MBX packet on a CONTROL connection is written into its mailbox channel. -/
  | drlMbxReceive (h : DrlHdr) (msg : List Byte)
  /-- DRL_ERROR_RECEIVE (R373): An ERROR packet from the endpoint is recorded. -/
  | drlErrorReceive (h : DrlHdr) (ext : BitVec 128) (recs : List Byte)
  /-- DRL_ACK_RECEIVE (R380): An endpoint ACK releases retained device packets and triggers NAK retransmissions. -/
  | drlAckReceive (h : DrlHdr) (sacks : (List (BitVec 48 × BitVec 16))) (naks : (List (BitVec 48 × BitVec 16))) (nobuf : Bool)
  /-- DRL_KEEPALIVE_RECEIVE (R370): A KEEPALIVE refreshes the connection's idle timer. -/
  | drlKeepaliveReceive (h : DrlHdr)
  /-- DRL_CLOSE_RECEIVE (R369): An authenticated endpoint CLOSE closes the connection. -/
  | drlCloseReceive (h : DrlHdr) (reason : Byte)
  /-- DRL_HELLO_RECEIVE (R367): A HELLO on an OPENING connection is checked and answered with HELLO_RSP. -/
  | drlHelloReceive (h : DrlHdr) (id : BitVec 128) (ne : BitVec 128) (code : Byte) (mode : Byte)
  /-- DRL_CONFIRM_RECEIVE (R367): A verified CONFIRM places the connection in OPEN. -/
  | drlConfirmReceive (h : DrlHdr) (ne : BitVec 128) (nd : BitVec 128)
  /-- ORDERED_PRESENT (R374): A waiting ORDERED packet is presented once every lower PSN has been presented. -/
  | orderedPresent (n : BitVec 12) (psn : BitVec 48)
  /-- FINAL_PRESENT (R375): A FINAL packet's lines are presented once every earlier request of its message completes. -/
  | finalPresent (n : BitVec 12)
  /-- DRL_ACK_SEND (R378): An ACK held by the ACK_MIN limit leaves when the limit allows. -/
  | drlAckSend (n : BitVec 12)
  /-- DRL_GAP_TIMER (R378): A missing PSN for GAP_US sends an ACK with NAK runs. -/
  | drlGapTimer (n : BitVec 12)
  /-- DRL_RTO_EXPIRY (R380): A device packet's timer expires; it is retransmitted or the connection closes after RETRY_MAX. -/
  | drlRtoExpiry (n : BitVec 12) (psn : BitVec 48)
  /-- DRL_IDLE_TIMEOUT (R369): No authenticated packet for IDLE_S closes the connection with TIMEOUT. -/
  | drlIdleTimeout (n : BitVec 12)
  /-- DRL_OPENING_TIMEOUT (R367): A connection still OPENING after IDLE_S returns to CLOSED. -/
  | drlOpeningTimeout (n : BitVec 12)
  /-- DRL_KEEPALIVE_TIMER (R370): A path silent for IDLE_S ÷ 4 sends a KEEPALIVE. -/
  | drlKeepaliveTimer (n : BitVec 12) (path : Fin 2)
  /-- DRL_CLOSE_REPEAT (R369): The device sends CLOSE three times 10 µs apart before closing. -/
  | drlCloseRepeat (n : BitVec 12)
  /-- CONN_OPEN (R365): DRL_CONN_CMD OP OPEN checks the staging descriptor and places the connection in OPENING. -/
  | connOpen (a : Agent) (n : BitVec 12)
  /-- CONN_CLOSE_OP (R369): DRL_CONN_CMD OP CLOSE closes a connection with ADMIN. -/
  | connCloseOp (a : Agent) (n : BitVec 12)
  /-- CONN_SNAPSHOT (R392): DRL_CONN_CMD OP SNAPSHOT copies a connection's state into DRL_SNAP registers. -/
  | connSnapshot (a : Agent) (n : BitVec 12)
  /-- DRILL_PORT_REMOVE (R393): A port removed from DRL_CTL.PORTS closes its connections with ADMIN. -/
  | drillPortRemove (a : Agent) (v : BitVec 32)
  /-- ADDRESS_RESOLUTION_RX (R359): A Drill port answers ARP or Neighbour Solicitation for its address. -/
  | addressResolutionRx (n : Fin 8) (sub : Fin 4) (vlan : BitVec 12)
  /-- NET_PORT_MODE_WRITE (R388): A write of NPT_CTL.MODE is refused on a Yoke port or while enabled. -/
  | netPortModeWrite (a : Agent) (n : Fin 8) (v : BitVec 32)
  /-- NET_PORT_RETRAIN (R390): NPT_CTL.RETRAIN forces every link of the port through training. -/
  | netPortRetrain (a : Agent) (n : Fin 8)
  /-- NET_LINK_UP (R389): A network link or sub-link finishes training and sets SUB_UP. -/
  | netLinkUp (n : Fin 8) (k : Fin 4) (lanes : BitVec 4)
  /-- NET_LINK_DOWN (R389): A network link goes down, losing frames in flight, and retrains. -/
  | netLinkDown (n : Fin 8) (k : Fin 4)
  /-- NET_TRAIN_FAIL (R389): A failed network training is counted and retried 1 s later. -/
  | netTrainFail (n : Fin 8) (k : Fin 4)
  /-- PFC_FRAME_RECEIVE (R387): A received priority flow-control frame pauses or resumes transmission at its priority. -/
  | pfcFrameReceive (n : Fin 8) (pause : BitVec 8) (resume : BitVec 8)
  /-- JQ_BIND (R394): DRL_JQ_CMD OP BIND binds a queue to an OPEN connection and makes it ACTIVE. -/
  | jqBind (a : Agent) (q : Fin 1024) (n : BitVec 12)
  /-- JQ_UNBIND (R396): DRL_JQ_CMD OP UNBIND places a queue in CLOSING. -/
  | jqUnbind (a : Agent) (q : Fin 1024)
  /-- JQ_UNBOUND_REACHED (R396): A CLOSING queue with no running job becomes UNBOUND and BUSY clears. -/
  | jqUnboundReached (q : Fin 1024)
  /-- JOB_START (R400): A job whose start conditions hold takes a slot and presents its accesses. -/
  | jobStart (q : Fin 1024)
  /-- JOB_COMPLETE (R404): A job completes, advancing its queue's count and releasing dependent waits. -/
  | jobComplete
  /-- JOB_WAIT_TIMEOUT (R405): A job waiting longer than WAIT_TMO_MS fails with WAIT_TIMEOUT. -/
  | jobWaitTimeout (q : Fin 1024)
  /-- JQ_READ_TIMEOUT (R407): A waiting JQ_READ is answered with the count when TIMEOUT_US passes. -/
  | jqReadTimeout (n : BitVec 12) (psn : BitVec 48)
  /-- PUSH_PACKET_SEND (R403): A PUSH job sends its next packet once retention has room. -/
  | pushPacketSend (q : Fin 1024)
  /-- JOB_ALLOC_RETRY (R414): A job whose ALLOC failed retries every 1 µs. -/
  | jobAllocRetry
  /-- GRANARY_ALLOC (R411): An ALLOC returns a buffer charged to an owner or fails under the minima. -/
  | granaryAlloc (o : Fin 64)
  /-- GRANARY_ADDREF (R411): An ADDREF adds a reference or is refused at 255. -/
  | granaryAddref (b : BitVec 20)
  /-- GRANARY_RELEASE (R411): A RELEASE drops a reference, returning or withdrawing the buffer at zero. -/
  | granaryRelease (b : BitVec 20)
  /-- GRANARY_ENABLE (R410): GRN_CTL.ENABLE threads every buffer onto the free list. -/
  | granaryEnable (a : Agent) (on : Bool)
  /-- GRANARY_READY (R410): The free list is built and READY is set. -/
  | granaryReady
  /-- GRANARY_COUNT_WRITE (R409): A write of GRN_CFG.COUNT_KI is applied only while disabled with no region. -/
  | granaryCountWrite (a : Agent) (v : BitVec 32)
  /-- GRANARY_MIN_WRITE (R413): A write of GRN_OWN_o.MIN breaking the pool sum is ignored and recorded. -/
  | granaryMinWrite (a : Agent) (o : Fin 64) (m : BitVec 21)
  /-- KEY_SLOT_LOAD (R428): CPH_SLOT_CMD LOAD checks and loads a key from staging, reporting result and KCV. -/
  | keySlotLoad (a : Agent) (cls : Fin 4) (idx : BitVec 12)
  /-- KEY_SLOT_ERASE (R429): CPH_SLOT_CMD ERASE empties a slot keeping KCV_SET and KCV. -/
  | keySlotErase (a : Agent) (cls : Fin 4) (idx : BitVec 12)
  /-- KEY_SLOT_FORGET (R429): CPH_SLOT_CMD FORGET empties a region slot and clears KCV_SET. -/
  | keySlotForget (a : Agent) (cls : Fin 4) (idx : BitVec 12)
  /-- SLOT_CMD_NONE (R441): CPH_SLOT_CMD with any other OP does nothing. -/
  | slotCmdNone (a : Agent) (op : Fin 5) (cls : Fin 4) (idx : BitVec 12)
  /-- CIPHER_ALARM (R433): An alarm source ends operations, invalidates caches, zeroises every key store and verifies it. -/
  | cipherAlarm (src : Fin 7)
  /-- CIPHER_FORCE (R432): CPH_CTL.FORCE raises an alarm with source FORCE. -/
  | cipherForce (a : Agent)
  /-- DEVICE_KEY_REDERIVED (R433): The device key is derived again and STATE becomes READY. -/
  | deviceKeyRederived
  /-- ALARM_STATUS_CLEAR (R438): A W1C of CPH_ALARM_STS clears a source bit only after its cause has gone. -/
  | alarmStatusClear (a : Agent) (v : BitVec 7) (present : BitVec 7)
  /-- CIPHER_SELFTEST (R440): CPH_CTL.SELFTEST runs known-answer tests lane by lane. -/
  | cipherSelftest (a : Agent)
  /-- LANE_TEST_END (R440): A lane's self-test ends, fencing it on failure or returning it on pass. -/
  | laneTestEnd (pass : Bool)
  /-- FIRMWARE_JOB (R422): CPH_FJ_CTL.GO queues a firmware cipher job on the firmware lane. -/
  | firmwareJob (a : Agent) (mode : Fin 4) (dec : Bool) (slot : Fin 16)
  /-- FIRMWARE_JOB_END (R424): A firmware job ends with a result, writing its destination only on success. -/
  | firmwareJobEnd
  /-- MBX_SEND (R452): MBX_SEND checks and copies a staged message into a slot, stamping and raising interrupts and wakes. -/
  | mbxSend (a : Agent) (dir : Bool) (c : Fin 64)
  /-- MBX_ACK (R455): MBX_ACK empties a slot whose SEQ matches, or reports STALE or EMPTY. -/
  | mbxAck (a : Agent) (dir : Bool) (c : Fin 64) (seq : BitVec 32)
  /-- HW_SENDER_PRESENT (R454): A CXL front end, Drill or Yoke presents its waiting message when the slot empties. -/
  | hwSenderPresent (h : HwSend)
  /-- OUT_SLOT_DELIVER (R457): A host OUT message is taken by the CXL front end or Drill, or discarded. -/
  | outSlotDeliver (c : Fin 64)
  /-- MBX_POLL_TIMER (R459): Firmware polls channels with IRQ_EN 0 at least every 1 ms. -/
  | mbxPollTimer
  /-- SEM_READ (R461): A 32-bit read of a semaphore acquires it if free. -/
  | semRead (a : Agent) (k : Fin 32)
  /-- SEM_RELEASE (R463): A write to a semaphore by its holder releases it, otherwise is recorded. -/
  | semRelease (a : Agent) (k : Fin 32)
  /-- SEM_FORCE (R463): MBX_SEM_FORCE from a secure core releases a semaphore. -/
  | semForce (a : Agent) (k : Fin 32)
  /-- CORE_SLEEP (R445): A core with SLEEP_EN goes to sleep and its domain enters retention. -/
  | coreSleep (n : Fin 4)
  /-- CORE_WAKE (R445): A sleeping core wakes on a routed IN send and runs its handler. -/
  | coreWake (n : Fin 4)
  /-- CORE_FENCE (R446): HDL_CORE_CTL_n.FENCE fences a core and moves its routes. -/
  | coreFence (a : Agent) (n : Fin 4)
  /-- CORE_SELF_CHECK_FAIL (R446): A core's self-check error fences it. -/
  | coreSelfCheckFail (n : Fin 4)
  /-- CORE_UNFENCE (R446): HDL_CORE_CTL_n.UNFENCE restarts a fenced core through the ROM. -/
  | coreUnfence (a : Agent) (n : Fin 4)
  /-- IDENTIFY (R477): IDENTIFY returns part number, firmware, serial and configuration. -/
  | identify (c : Fin 64)
  /-- HEALTH (R478): HEALTH returns the fault summary and health figures. -/
  | health (c : Fin 64) (temp : BitVec 16)
  /-- BG_STATUS (R479): BG_STATUS returns the channel's background command state. -/
  | bgStatus (c : Fin 64)
  /-- ACCESS_SET (R480): ACCESS_SET sets and journals the admin mask. -/
  | accessSet (c : Fin 64)
  /-- WORLD_CONFIG (R481): WORLD_CONFIG sets or journals resource worlds and the lock. -/
  | worldConfig (c : Fin 64)
  /-- CAPACITY_SET (R482): CAPACITY_SET sets the host capacity and relays out the reserve. -/
  | capacitySet (c : Fin 64)
  /-- REGION_CREATE (R483): REGION_CREATE commits a new LOCAL region. -/
  | regionCreate (c : Fin 64)
  /-- REGION_RIGHTS (R484): REGION_RIGHTS commits new owner masks. -/
  | regionRights (c : Fin 64)
  /-- REGION_ATTR (R485): REGION_ATTR changes placement or tenant. -/
  | regionAttr (c : Fin 64)
  /-- REGION_DESTROY (R486): REGION_DESTROY destroys a region. -/
  | regionDestroy (c : Fin 64)
  /-- REGION_INFO (R487): REGION_INFO returns a region's attributes. -/
  | regionInfo (c : Fin 64)
  /-- LD_BIND (R488): LD_BIND writes an LD index's binding and mailbox route. -/
  | ldBind (c : Fin 64)
  /-- CG_SET (R489): CG_SET validates a connection group and sets its Granary owner. -/
  | cgSet (c : Fin 64)
  /-- DURABILITY_SET (R490): DURABILITY_SET changes a region's class in coordination with the twin. -/
  | durabilitySet (c : Fin 64)
  /-- PLACEMENT_SET (R491): PLACEMENT_SET writes bias, floor and ceiling. -/
  | placementSet (c : Fin 64)
  /-- PIN_COMMAND (R492): PIN runs WIN_PIN_CTL as a background command. -/
  | pinCommand (c : Fin 64)
  /-- SESSION_OPEN (R494): SESSION_OPEN loads a clear or wrapped session key. -/
  | sessionOpen (c : Fin 64)
  /-- SESSION_CLOSE (R493): SESSION_CLOSE ends a session. -/
  | sessionClose (c : Fin 64)
  /-- KEY_LOAD (R496): KEY_LOAD unwraps and loads a region, connection or pairing key. -/
  | keyLoad (c : Fin 64)
  /-- KEY_ERASE (R497): KEY_ERASE erases or forgets a key slot or session. -/
  | keyErase (c : Fin 64)
  /-- KEY_STATUS (R498): KEY_STATUS returns a slot's state and KCV. -/
  | keyStatus (c : Fin 64)
  /-- PAIR_SET (R499): PAIR_SET sets Yoke enable, pairs, twin serial and path descriptors. -/
  | pairSet (c : Fin 64)
  /-- ROLE_HANDOVER (R500): ROLE_HANDOVER moves the ACTIVE role to the twin. -/
  | roleHandover (c : Fin 64)
  /-- ROLE_TAKE (R501): ROLE_TAKE forces this side ACTIVE and SPLIT. -/
  | roleTake (c : Fin 64)
  /-- ROLE_SPLIT (R502): ROLE_SPLIT moves a STALLED region to SPLIT. -/
  | roleSplit (c : Fin 64)
  /-- RESILVER (R503): RESILVER queues or stops a region's resilver. -/
  | resilver (c : Fin 64)
  /-- YOKE_STATUS (R504): YOKE_STATUS returns device or region mirroring state. -/
  | yokeStatus (c : Fin 64)
  /-- PORT_SET (R505): PORT_SET writes a Drill port descriptor and flags. -/
  | portSet (c : Fin 64)
  /-- CONN_OPEN_COMMAND (R506): CONN_OPEN writes a staging descriptor and runs OPEN. -/
  | connOpenCommand (c : Fin 64)
  /-- CONN_CLOSE_COMMAND (R507): CONN_CLOSE runs CLOSE on a connection. -/
  | connCloseCommand (c : Fin 64)
  /-- CONN_INFO (R508): CONN_INFO returns a connection snapshot. -/
  | connInfo (c : Fin 64)
  /-- JQ_BIND_COMMAND (R509): JQ_BIND binds a job queue to a connection. -/
  | jqBindCommand (c : Fin 64)
  /-- JQ_UNBIND_COMMAND (R509): JQ_UNBIND unbinds a queue and replies once UNBOUND. -/
  | jqUnbindCommand (c : Fin 64)
  /-- JQ_INFO (R508): JQ_INFO returns a queue's state, count and failure. -/
  | jqInfo (c : Fin 64)
  /-- HARVEST_SET (R510): HARVEST_SET writes the Harvest configuration. -/
  | harvestSet (c : Fin 64)
  /-- STORE_DECLARE (R511): STORE_DECLARE declares STORE_J and records the time. -/
  | storeDeclare (c : Fin 64)
  /-- HARVEST_STATUS (R512): HARVEST_STATUS returns Harvest state and figures. -/
  | harvestStatus (c : Fin 64)
  /-- HARVEST_START_COMMAND (R513): HARVEST_START replies OK then starts a Harvest with cause COMMAND. -/
  | harvestStartCommand (c : Fin 64)
  /-- POWER_CAP (R514): POWER_CAP reads, sets or clears the power cap. -/
  | powerCap (c : Fin 64)
  /-- FAULT_LIST (R515): FAULT_LIST returns windows' unit and fault registers. -/
  | faultList (c : Fin 64)
  /-- FENCE_COMMAND (R516): FENCE fences or unfences a unit through its registers. -/
  | fenceCommand (c : Fin 64)
  /-- FAULT_CLEAR (R517): FAULT_CLEAR clears named status bits whose cause has gone. -/
  | faultClear (c : Fin 64)
  /-- TRAIN (R518): TRAIN retrains an OFF or FENCED DRAM or NAND channel. -/
  | train (c : Fin 64) (ok : Bool) (rate : Fin 5)
  /-- HEAL (R519): HEAL fetches a POISONED page whole from the twin. -/
  | heal (c : Fin 64)
  /-- RECORDER_READ (R520): RECORDER_READ returns bytes of the event recorder. -/
  | recorderRead (c : Fin 64)
  /-- RECORDER_CLEAR (R520): RECORDER_CLEAR clears the recorder for the epoch named. -/
  | recorderClear (c : Fin 64)
  /-- TITHE_READ (R521): TITHE_READ returns signed Tithe records. -/
  | titheRead (c : Fin 64)
  /-- TITHE_INFO (R521): TITHE_INFO returns the ROM hash and record counts. -/
  | titheInfo (c : Fin 64)
  /-- SANITISE (R522): SANITISE destroys regions naming a key slot and forgets the slot. -/
  | sanitise (c : Fin 64)
  /-- COMMAND_UNSUPPORTED (R468): An unlisted opcode or disallowed sender is answered UNSUPPORTED. -/
  | commandUnsupported (c : Fin 64)
  /-- CXL_IDENTIFY (R525): The standard Identify command is answered as CXL 3.1. -/
  | cxlIdentify (c : Fin 64)
  /-- BACKGROUND_OPERATION_STATUS (R525): Background Operation Status reports under R473. -/
  | backgroundOperationStatus (c : Fin 64)
  /-- GET_EVENT_RECORDS (R525): Get Event Records returns the LD's event log records. -/
  | getEventRecords (c : Fin 64)
  /-- CLEAR_EVENT_RECORDS (R525): Clear Event Records clears the LD's event log records. -/
  | clearEventRecords (c : Fin 64)
  /-- GET_EVENT_INTERRUPT_POLICY (R525): Get Event Interrupt Policy returns the MSI-X policy. -/
  | getEventInterruptPolicy (c : Fin 64)
  /-- SET_EVENT_INTERRUPT_POLICY (R525): Set Event Interrupt Policy sets the MSI-X policy. -/
  | setEventInterruptPolicy (c : Fin 64)
  /-- GET_FW_INFO (R523): Get FW Info reports firmware slots and the running bank. -/
  | getFwInfo (c : Fin 64)
  /-- TRANSFER_FW (R523): Transfer FW initiates, programs a part or ends and verifies an image transfer. -/
  | transferFw (c : Fin 64) (bad : List Nat)
  /-- ACTIVATE_FW (R524): Activate FW activates online or for the next cold reset. -/
  | activateFw (c : Fin 64)
  /-- GET_TIMESTAMP (R525): Get Timestamp returns the device timestamp. -/
  | getTimestamp (c : Fin 64)
  /-- SET_TIMESTAMP (R525): Set Timestamp sets the device timestamp. -/
  | setTimestamp (c : Fin 64)
  /-- GET_SUPPORTED_LOGS (R525): Get Supported Logs lists the Command Effects Log. -/
  | getSupportedLogs (c : Fin 64)
  /-- GET_LOG (R525): Get Log returns the Command Effects Log. -/
  | getLog (c : Fin 64)
  /-- IDENTIFY_MEMORY_DEVICE (R525): Identify Memory Device reports zero static capacity and limits. -/
  | identifyMemoryDevice (c : Fin 64)
  /-- GET_HEALTH_INFO (R525): Get Health Info reports health, life, temperature and counts. -/
  | getHealthInfo (c : Fin 64) (temp : BitVec 16)
  /-- GET_ALERT_CONFIGURATION (R525): Get Alert Configuration returns thresholds. -/
  | getAlertConfiguration (c : Fin 64)
  /-- SET_ALERT_CONFIGURATION (R525): Set Alert Configuration sets thresholds. -/
  | setAlertConfiguration (c : Fin 64)
  /-- GET_SHUTDOWN_STATE (R525): Get Shutdown State returns the LD's shutdown state. -/
  | getShutdownState (c : Fin 64)
  /-- SET_SHUTDOWN_STATE (R108): Set Shutdown State stores the LD's shutdown state without effect on saving. -/
  | setShutdownState (c : Fin 64)
  /-- GET_POISON_LIST (R525): Get Poison List reports POISONED pages the LD may read. -/
  | getPoisonList (c : Fin 64)
  /-- INJECT_POISON (R525): Inject Poison places a page in POISONED with PSRC injected. -/
  | injectPoison (c : Fin 64)
  /-- CLEAR_POISON (R525): Clear Poison rewrites one line of a POISONED page. -/
  | clearPoison (c : Fin 64) (env : FabEnv)
  /-- GET_DC_CONFIGURATION (R95): Get Dynamic Capacity Configuration reports DC regions. -/
  | getDcConfiguration (c : Fin 64)
  /-- GET_DC_EXTENT_LIST (R96): Get Dynamic Capacity Extent List reports the LD's extents. -/
  | getDcExtentList (c : Fin 64)
  /-- ADD_DC_RESPONSE (R98): Add Dynamic Capacity Response decides whether an offered extent is listed. -/
  | addDcResponse (c : Fin 64)
  /-- RELEASE_DC (R98): Release Dynamic Capacity removes an extent from the list. -/
  | releaseDc (c : Fin 64)
  /-- EFL_PROGRAM (R530): ROM PROGRAM programs and verifies 1–124 flash words. -/
  | eflProgram (n : Fin 4) (bank : Nat) (word : Nat) (data : (List (BitVec 256))) (bad : List Nat)
  /-- EFL_ERASE (R530): ROM ERASE starts a sector erase. -/
  | eflErase (n : Fin 4) (self : Option Bool) (bank : Nat) (sector : Nat)
  /-- EFL_SUSPEND (R530): ROM SUSPEND suspends the erase in progress. -/
  | eflSuspend (n : Fin 4)
  /-- EFL_RESUME (R530): ROM RESUME resumes a suspended erase with a fresh pulse. -/
  | eflResume (n : Fin 4)
  /-- EFL_STATUS (R530): ROM STATUS returns EFL_STS and EFL_ERASE_STS. -/
  | eflStatus (n : Fin 4)
  /-- EFL_ABORT (R530): ROM ABORT ends an erase and marks its sector INCOMPLETE. -/
  | eflAbort (n : Fin 4)
  /-- OTP_PROGRAM (R538): ROM OTP_PROGRAM programs an OTP word under the OTP rules. -/
  | otpProgram (n : Fin 4) (w : Nat) (v : Word64) (ok : Bool)
  /-- OTP_GEN_ROOT (R538): ROM OTP_GEN_ROOT fills the root secret words from the random generator. -/
  | otpGenRoot (n : Fin 4)
  /-- ERASE_PULSE_END (R534): An erase pulse ends and its verify passes, fails or continues. -/
  | erasePulseEnd (pass : Bool)
  /-- ROM_BOOT (R542): The ROM verifies and boots the newest image or stays in recovery. -/
  | romBoot (otp : (List (Fin 64))) (dram : Fin 6) (nand : Fin 6)
  /-- WDT_KICK (R545): EFL_WDT_CTL.KICK restarts the period and ends the absence window. -/
  | wdtKick (a : Agent)
  /-- WDT_EXPIRY (R545): The watchdog expires and resets the Headland cluster. -/
  | wdtExpiry (cut : Option EflCut)
  /-- WDT_ESCALATION (R546): No kick 60 s after a Headland reset starts a Harvest with cause RESET. -/
  | wdtEscalation
  /-- IMAGE_FLAG_ACTIVATION (R544): After 600 s of running, firmware raises the rollback floor or revokes key A. -/
  | imageFlagActivation
  /-- PWR_CTL_ON (R557): PWR_CTL.ON starts a power-up when the table is valid. -/
  | pwrCtlOn (a : Agent) (flt : Bool) (test : Bool)
  /-- PWR_CTL_OFF (R564): PWR_CTL.OFF starts a Harvest or an orderly power-down. -/
  | pwrCtlOff (a : Agent)
  /-- PLOSS_RISE (R557): PLOSS_N rising powers up under AUTO_ON from STANDBY or FALLOW. -/
  | plossRise
  /-- RAIL_PG_CHANGE (R559): A power-good transition starts or restarts a slot's stable window and counts chatter. -/
  | railPgChange (n : Fin 24) (level : Bool)
  /-- RAIL_STABLE (R559): A slot's stable window passes and it becomes GOOD. -/
  | railStable (n : Fin 24)
  /-- RAIL_ON_TIMEOUT (R560): A slot not GOOD within ON_TMO_MS aborts the power-up. -/
  | railOnTimeout (n : Fin 24)
  /-- RAIL_PG_LOST (R564): A GOOD slot losing power-good aborts, starts a Harvest or powers down. -/
  | railPgLost (n : Fin 24)
  /-- PWR_FLT_N_FALL (R560): PWR_FLT_N falling from outside aborts, starts a Harvest or powers down. -/
  | pwrFltNFall
  /-- RAIL_OFF_DELAY (R566): At a slot's turn, OFF_DLY passes and its enable is driven low. -/
  | railOffDelay (n : Fin 24)
  /-- RAIL_OFF_TIMEOUT (R566): A slot whose power-good does not fall within OFF_TMO_MS is passed over. -/
  | railOffTimeout (n : Fin 24)
  /-- PWR_FAULT_CLEAR (R561): A write of PWR_STS.FAULT after shutdown releases PWR_FLT_N and enters STANDBY. -/
  | pwrFaultClear (a : Agent)
  /-- PD_ON (R551): PWR_PD_ON switches a domain on. -/
  | pdOn (a : Agent) (v : BitVec 36)
  /-- PD_OFF (R551): PWR_PD_OFF switches an idle domain off. -/
  | pdOff (a : Agent) (v : BitVec 36)
  /-- VOLTAGE_LOOP_STEP (R568): Every 100 µs the loop may step VDD_CORE by 5 mV towards its target. -/
  | voltageLoopStep (want : BitVec 10) (read : BitVec 10)
  /-- POWER_MEASURE (R569): Every 1 ms the loop sums READ_POUT and checks the cap. -/
  | powerMeasure (w : BitVec 10) (floor : BitVec 10)
  /-- PMBUS_TRANSACTION (R571): PWR_PMB_CMD.GO runs a PMBus transaction, refusing protected writes. -/
  | pmbusTransaction (a : Agent) (v : BitVec 31) (res : Fin 4) (data : List Byte)
  /-- VDDIO_SB_LOW (R651): VDDIO_SB below 1.55 V for 1 µs is treated as PLOSS_N low. -/
  | vddioSbLow
  /-- GROUP_RESET_REQUEST (R578): RST_GRP_CTL.GROUPS requests a group reset, pending, latched or ignored. -/
  | groupResetRequest (a : Agent) (v : BitVec 28)
  /-- GROUP_RESET_RELEASE (R577): After quiesce and assertion the groups are released, fences reapplied and IN_RESET clears. -/
  | groupResetRelease
  /-- ADMIT (R581): RST_GRP_CTL.ADMIT ends the tines' hold after a CORE reset. -/
  | admitTines (a : Agent)
  /-- POWER_ON_RESET (R582): VDD_AON rising or RST_POR_N low outside ON resets every group. -/
  | powerOnReset (aon : Bool)
  /-- AON_RESET_RELEASE (R583): The always-on island releases its reset once RST_POR_N is high and the crystal stable. -/
  | aonResetRelease (strap : Fin 4)
  /-- DEVICE_RESET (R582): RST_POR_N low while ON starts a Harvest with cause RESET, or resets without one before arming. -/
  | deviceReset
  /-- TAP_RESET (R582): TRST_N low resets the TAP controller only. -/
  | tapReset
  /-- MEMORY_ACTIVE_SET (R586): After arming, Memory_Active becomes 1 and Drill and DC events follow. -/
  | memoryActiveSet
  /-- PULSE_OVERRUN (R589): A pulse arriving mid-handshake is not carried and sets its RST_XOVR bit. -/
  | pulseOverrun (k : Fin 8)
  /-- FLT_STS_CLEAR (R597): A W1C of FLT_STS clears bits whose cause is not live. -/
  | fltStsClear (a : Agent) (w : Fin 100) (v : BitVec 32)
  /-- FLT_INFO_CLEAR (R597): A W1C of FLT_INFO.VALID clears the capture. -/
  | fltInfoClear (a : Agent) (w : Fin 100)
  /-- FLT_INJECT (R593): FLT_INJ raises causes as kind E with no block reaction. -/
  | fltInject (a : Agent) (w : Fin 100) (v : BitVec 32)
  /-- RECORD_WRITE (R617): The recorder writes the next queued record, a DROPPED record or FULL. -/
  | recordWrite
  /-- REC_CLEAR (R620): REC_CLEAR with the current epoch clears the recorder and writes CLEAR. -/
  | recClear (a : Agent) (epoch : BitVec 32)
  /-- REC_TIME_SET (R619): A 64-bit write of REC_TIME_SET sets the timestamp and writes TIME_SET. -/
  | recTimeSet (a : Agent) (v : Word64)
  /-- REC_FW_RECORD (R625): REC_FW_CTL.GO queues a firmware record from the core's bank. -/
  | recFwRecord (a : Agent) (ty : Byte) (len : BitVec 6)
  /-- TITHE_COUNTER_SAMPLE (R627): Every 1 ms Tithe reads cluster counters and samples residency. -/
  | titheCounterSample (uj : Nat)
  /-- TITHE_INTERVAL_CLOSE (R630): An interval closes and usage and device records are signed and stored, or is extended. -/
  | titheIntervalClose
  /-- TITHE_RELEASE (R631): TTH_REL from the sideband releases held records. -/
  | titheRelease (a : Agent) (upto : BitVec 32)
  /-- TITHE_CFG_WRITE (R638): A sideband write of TTH_CFG changes INTERVAL_S, closing the interval and writing CONFIG. -/
  | titheCfgWrite (a : Agent) (v : BitVec 32)
  /-- TITHE_LIFE_START (R634): The Tithe core starts a life, burns a life bit and writes START. -/
  | titheLifeStart
  /-- TITHE_WATCHDOG_RESTART (R634): Tithe's watchdog restarts its core after 100 ms without progress. -/
  | titheWatchdogRestart
  /-- SB_WRITE32 (R656): A sideband WRITE32 performs one 32-bit control-space write. -/
  | sbWrite32 (pec : Bool) (addr : BitVec 32) (v : BitVec 32) (env : BusEnv)
  /-- SB_WRITE64 (R656): A sideband WRITE64 performs one 64-bit control-space write. -/
  | sbWrite64 (pec : Bool) (addr : BitVec 32) (v : Word64) (env : BusEnv)
  /-- SB_READ32 (R656): A sideband READ32 performs one 32-bit read with status. -/
  | sbRead32 (w : (Option (BitVec 32))) (pec : Bool) (read : Bool)
  /-- SB_READ64 (R656): A sideband READ64 performs one 64-bit read with status. -/
  | sbRead64 (w : (Option (BitVec 32))) (pec : Bool) (read : Bool)
  /-- I3C_DYNAMIC_ADDRESS (R655): ENTDAA or SETDASA moves the target into I3C mode. -/
  | i3cDynamicAddress (addr : BitVec 7)
  /-- I3C_RSTDAA (R655): RSTDAA returns the target to SMBus mode. -/
  | i3cRstdaa
  /-- SMBUS_SCL_TIMEOUT (R656): SCL low for 25 ms resets the target's protocol state. -/
  | smbusSclTimeout
  /-- ALERT_RESPONSE (R657): The target answers the Alert Response Address with its address. -/
  | alertResponse
  /-- DDR_REFCLK_LOSS (R660): A DDR reference lost for 1 µs switches its PLLs to crystal holdover. -/
  | ddrRefclkLoss (h : Fin 2)
  /-- DDR_REFCLK_RETURN (R660): A reference back for 1 ms is switched back when no command is in flight. -/
  | ddrRefclkReturn (h : Fin 2)
  /-- PERST_RELEASE (R111): Release of a sub-link's PERST input lets the link retrain after a conventional reset. -/
  | perstRelease (p : Fin 4) (q : Fin 4)
  /-- YOKE_HB_RECEIVE (R338): An authenticated HB frame arrives on a Yoke path, refreshing its silence timer and moving a DOWN path to PROBATION. -/
  | yokeHbReceive (h : YokeHdr)
  /-- PATH_PROBATION_GAP (R338): A path in PROBATION that goes longer than 3 × HB_US with no frame returns to DOWN. -/
  | pathProbationGap (p : Fin 2) (path : Fin 2)
  /-- TINE_SELF_CHECK_FAIL (R603): A tine fails its self-check and the CN-6400B fences it, with SELF_CHECK present and DEV_FENCE raised. -/
  | tineSelfCheckFail (t : Fin 256) (ok : Bool)
  /-- SEQUENCER_SELF_CHECK_FAIL (R273): An ONFI sequencer fails its self-check and the CN-6400B fences the channel and retires its LUNs. -/
  | sequencerSelfCheckFail (c : Fin 32) (ok : Bool)
  /-- SUPERBLOCK_ERASE_DONE (R269): Every member of a superblock finishes erasing, and the superblock becomes FREE, or a failing block is retired. -/
  | superblockEraseDone (sb : BitVec 18) (fails : (List (Fin 32)))
  /-- MAC_FRAME_DISCARD (R389): A received frame with a bad FCS, an oversized frame or a non-Drill frame is discarded and counted, raising MAC_DROP. -/
  | macFrameDiscard (n : Fin 8) (why : MacDrop)
  /-- FEC_UNCORRECTABLE_CODEWORD (R389): An uncorrectable RS-FEC codeword discards the frames it carries, is counted and raises FEC_UE. -/
  | fecUncorrectableCodeword (n : Fin 8)
  /-- VDDIO_SB_RETURN (R651): VDDIO_SB back above 1.65 V for 1 ms makes the sideband inputs trusted again. -/
  | vddioSbReturn
  /-- STORE_DECLARATION_STALE (R291): When 24 hours pass with no declaration of STORE_J, HEALTH bit 8 and the HRV STORE_STALE condition are raised. -/
  | storeDeclarationStale
  /-- ENERGY_MONITOR_FAIL (R628): A Tithe energy monitor fails its self-check, raising MON_FAIL and excluding its supply from the device energy. -/
  | energyMonitorFail
  /-- RELAY_REPLY_TIMEOUT (R490): No twin reply to a relayed step arrives within 10 ms, and Headland answers TWIN_UNREACHABLE with byte 0 of the reply set to 2. -/
  | relayReplyTimeout
  deriving DecidableEq, Repr

end Sys2Proof
end

