-- ==== Sys2Proof/Config.lean ====
section
/-!
DEFINITION. Config.lean: the values the spec leaves open or names without giving their computation. Each is an opaque
constant: nothing can evaluate it, so whatever is proved holds for every value (notes/assumptions/2.md).
-/
namespace Sys2Proof

/-- A free line: data that the spec leaves undefined, the n-th one drawn. -/
opaque Config.freeLine : Nat → Line
/-- A free 64-bit word, the n-th one drawn. -/
opaque Config.freeWord : Nat → Word64
/-- What a line of DRAM that nothing has written gives under a key at a line address: power-on leaves DRAM undefined. -/
opaque Config.neverWritten : Key → Nat → Line
/-- CRC-32 of a byte string: the spec names no polynomial. -/
opaque Config.crc32 : List Byte → BitVec 32
/-- Does an ECDSA P-384 signature check (R541): the public key, the message, the signature? The spec names no hash for it. -/
opaque Config.ecdsaOk : List Byte → List Byte → List Byte → Bool
/-- A signature of the Tithe island's identity key over a byte string (R632). -/
opaque Config.titheSign : List Byte → BitVec 768
/-- The bytes of Tithe's public key, 25 words (R633): made by the island at its first start. -/
opaque Config.tithePub : Nat → BitVec 32
/-- A byte of a CXL payload or event record whose value the spec leaves open (R525): the opcode, the byte. -/
opaque Config.cxlByte : Nat → Nat → Byte
/-- The health status (0) and the media status (1) that Get Health Info gives for HEALTH bits 0 to 11 (R525). -/
opaque Config.cxlHealth : Nat → Nat → Byte
/-- NEED_J for a cap in GiB while r_f is 0 (R289, R290): the spec states no energy for a dump that no channel carries. -/
opaque Config.needNoRate : Nat → BitVec 32

end Sys2Proof
end

