-- ==== Sys2Proof/Machine/Fields.lean ====
section
/-!
DEFINITION. Machine/Fields.lean: the name of every control-space register and of every field of it, as the
register tables of spec/ give them (R10, R11): the register's absolute address, the field's low bit and its width.
A register array takes its index, a block with several instances its instance number n, a register that every
window has (R40, R41, R593) its window index w. RSVD fields have no name: they read as zero (R15).
-/
namespace Sys2Proof.Machine

/-- A field of a control-space register: the register's absolute address (R10), the field's lowest bit and its width. -/
structure Fld where
  addr : Nat
  lo : Nat
  width : Nat
  deriving DecidableEq, Repr

/-- Register TIN_DPA_LIMIT, 32 bits (R74). -/
def TIN_DPA_LIMIT : Nat := 0x400C0800
def TIN_DPA_LIMIT_CAP_GIB : Fld := ⟨TIN_DPA_LIMIT, 0, 17⟩
/-- Register TIN_WORLD_LOCK, 32 bits (R74). -/
def TIN_WORLD_LOCK : Nat := 0x400C0808
def TIN_WORLD_LOCK_LOCK : Fld := ⟨TIN_WORLD_LOCK, 0, 1⟩
/-- Register TIN_WORLD_HDL, 32 bits (R74). -/
def TIN_WORLD_HDL : Nat := 0x400C080C
def TIN_WORLD_HDL_HS : Fld := ⟨TIN_WORLD_HDL, 1, 3⟩
def TIN_WORLD_HDL_H0_S : Fld := ⟨TIN_WORLD_HDL, 0, 1⟩
/-- Register TIN_WORLD_MBX, 64 bits (R74). -/
def TIN_WORLD_MBX : Nat := 0x400C0810
def TIN_WORLD_MBX_INT_S : Fld := ⟨TIN_WORLD_MBX, 48, 16⟩
def TIN_WORLD_MBX_HOST_S : Fld := ⟨TIN_WORLD_MBX, 0, 32⟩
/-- Register TIN_WORLD_KEYS, 32 bits (R74). -/
def TIN_WORLD_KEYS : Nat := 0x400C0818
def TIN_WORLD_KEYS_S_SLOTS : Fld := ⟨TIN_WORLD_KEYS, 0, 9⟩
/-- Register TIN_RGN_COMMIT, 32 bits (R74). -/
def TIN_RGN_COMMIT : Nat := 0x400C0820
def TIN_RGN_COMMIT_OP : Fld := ⟨TIN_RGN_COMMIT, 8, 2⟩
def TIN_RGN_COMMIT_REGION : Fld := ⟨TIN_RGN_COMMIT, 0, 8⟩
/-- Register TIN_RGN_STATUS, 32 bits (R74). -/
def TIN_RGN_STATUS : Nat := 0x400C0824
def TIN_RGN_STATUS_BUSY : Fld := ⟨TIN_RGN_STATUS, 31, 1⟩
def TIN_RGN_STATUS_RESULT : Fld := ⟨TIN_RGN_STATUS, 16, 4⟩
def TIN_RGN_STATUS_REGION : Fld := ⟨TIN_RGN_STATUS, 0, 8⟩
/-- Register TIN_CHK_COUNT, 64 bits (R74). -/
def TIN_CHK_COUNT : Nat := 0x400C0828
def TIN_CHK_COUNT_COUNT : Fld := ⟨TIN_CHK_COUNT, 0, 64⟩
/-- Register TIN_CHK_LAST, 64 bits (R74). -/
def TIN_CHK_LAST : Nat := 0x400C0830
def TIN_CHK_LAST_VALID : Fld := ⟨TIN_CHK_LAST, 63, 1⟩
def TIN_CHK_LAST_DPA_GIB : Fld := ⟨TIN_CHK_LAST, 32, 16⟩
def TIN_CHK_LAST_REGION : Fld := ⟨TIN_CHK_LAST, 24, 8⟩
def TIN_CHK_LAST_REASON : Fld := ⟨TIN_CHK_LAST, 20, 4⟩
def TIN_CHK_LAST_KIND : Fld := ⟨TIN_CHK_LAST, 18, 2⟩
def TIN_CHK_LAST_SOURCE : Fld := ⟨TIN_CHK_LAST, 0, 18⟩
/-- Register TIN_STG_EXT, 32 bits (R74). -/
def TIN_STG_EXT : Nat := 0x400C0840
def TIN_STG_EXT_SIZE_M1 : Fld := ⟨TIN_STG_EXT, 16, 16⟩
def TIN_STG_EXT_BASE_GIB : Fld := ⟨TIN_STG_EXT, 0, 16⟩
/-- Register TIN_STG_ATTR, 32 bits (R74). -/
def TIN_STG_ATTR : Nat := 0x400C0844
def TIN_STG_ATTR_VALID : Fld := ⟨TIN_STG_ATTR, 31, 1⟩
def TIN_STG_ATTR_RELEASING : Fld := ⟨TIN_STG_ATTR, 30, 1⟩
def TIN_STG_ATTR_TENANT : Fld := ⟨TIN_STG_ATTR, 16, 8⟩
def TIN_STG_ATTR_KEY_SLOT : Fld := ⟨TIN_STG_ATTR, 8, 8⟩
def TIN_STG_ATTR_PLACE : Fld := ⟨TIN_STG_ATTR, 4, 1⟩
def TIN_STG_ATTR_CLASS : Fld := ⟨TIN_STG_ATTR, 2, 2⟩
def TIN_STG_ATTR_WORLD : Fld := ⟨TIN_STG_ATTR, 0, 1⟩
/-- Register TIN_STG_LDRD, 64 bits (R74). -/
def TIN_STG_LDRD : Nat := 0x400C0848
def TIN_STG_LDRD_MASK : Fld := ⟨TIN_STG_LDRD, 0, 64⟩
/-- Register TIN_STG_LDWR, 64 bits (R74). -/
def TIN_STG_LDWR : Nat := 0x400C0850
def TIN_STG_LDWR_MASK : Fld := ⟨TIN_STG_LDWR, 0, 64⟩
/-- Register TIN_STG_CGRD, 64 bits (R74). -/
def TIN_STG_CGRD : Nat := 0x400C0858
def TIN_STG_CGRD_MASK : Fld := ⟨TIN_STG_CGRD, 0, 64⟩
/-- Register TIN_STG_CGWR, 64 bits (R74). -/
def TIN_STG_CGWR : Nat := 0x400C0860
def TIN_STG_CGWR_MASK : Fld := ⟨TIN_STG_CGWR, 0, 64⟩
/-- Register TIN_LDB, 32 bits (R74). -/
def TIN_LDB (i : Nat) : Nat := 0x400C0900 + 0x8*i
def TIN_LDB_VALID (i : Nat) : Fld := ⟨TIN_LDB i, 31, 1⟩
def TIN_LDB_WORLD (i : Nat) : Fld := ⟨TIN_LDB i, 16, 1⟩
def TIN_LDB_LINK (i : Nat) : Fld := ⟨TIN_LDB i, 4, 4⟩
def TIN_LDB_LD (i : Nat) : Fld := ⟨TIN_LDB i, 0, 4⟩
/-- Register TIN_CGB, 32 bits (R74). -/
def TIN_CGB (i : Nat) : Nat := 0x400C0C00 + 0x8*i
def TIN_CGB_VALID (i : Nat) : Fld := ⟨TIN_CGB i, 31, 1⟩
def TIN_CGB_WORLD (i : Nat) : Fld := ⟨TIN_CGB i, 16, 1⟩
/-- Register HPT_BIFUR, 32 bits (R112). -/
def HPT_BIFUR (n : Nat) : Nat := 0x40000100 + 0x10000*n
def HPT_BIFUR_PENDING (n : Nat) : Fld := ⟨HPT_BIFUR n, 31, 1⟩
def HPT_BIFUR_MODE (n : Nat) : Fld := ⟨HPT_BIFUR n, 0, 2⟩
/-- Register HPT_FENCE_CTL, 32 bits (R112). -/
def HPT_FENCE_CTL (n : Nat) : Nat := 0x40000104 + 0x10000*n
def HPT_FENCE_CTL_LIMIT (n : Nat) : Fld := ⟨HPT_FENCE_CTL n, 24, 8⟩
def HPT_FENCE_CTL_WINDOW_S (n : Nat) : Fld := ⟨HPT_FENCE_CTL n, 8, 16⟩
def HPT_FENCE_CTL_UNFENCE (n : Nat) : Fld := ⟨HPT_FENCE_CTL n, 4, 4⟩
def HPT_FENCE_CTL_FENCE (n : Nat) : Fld := ⟨HPT_FENCE_CTL n, 0, 4⟩
/-- Register HPT_DEVLOAD, 32 bits (R112). -/
def HPT_DEVLOAD (n : Nat) : Nat := 0x40000108 + 0x10000*n
def HPT_DEVLOAD_T3 (n : Nat) : Fld := ⟨HPT_DEVLOAD n, 16, 8⟩
def HPT_DEVLOAD_T2 (n : Nat) : Fld := ⟨HPT_DEVLOAD n, 8, 8⟩
def HPT_DEVLOAD_T1 (n : Nat) : Fld := ⟨HPT_DEVLOAD n, 0, 8⟩
/-- Register HPT_LCTL, 32 bits (R112). -/
def HPT_LCTL (n : Nat) (i : Nat) : Nat := 0x40000110 + 0x10000*n + 0x20*i
def HPT_LCTL_ENABLE (n : Nat) (i : Nat) : Fld := ⟨HPT_LCTL n i, 31, 1⟩
def HPT_LCTL_RETRAIN (n : Nat) (i : Nat) : Fld := ⟨HPT_LCTL n i, 30, 1⟩
def HPT_LCTL_LDCNT (n : Nat) (i : Nat) : Fld := ⟨HPT_LCTL n i, 24, 4⟩
def HPT_LCTL_MAX_RATE (n : Nat) (i : Nat) : Fld := ⟨HPT_LCTL n i, 16, 4⟩
def HPT_LCTL_MLD_EN (n : Nat) (i : Nat) : Fld := ⟨HPT_LCTL n i, 8, 1⟩
/-- Register HPT_LSTS, 32 bits (R112). -/
def HPT_LSTS (n : Nat) (i : Nat) : Nat := 0x40000114 + 0x10000*n + 0x20*i
def HPT_LSTS_STATE (n : Nat) (i : Nat) : Fld := ⟨HPT_LSTS n i, 28, 4⟩
def HPT_LSTS_RATE (n : Nat) (i : Nat) : Fld := ⟨HPT_LSTS n i, 24, 4⟩
def HPT_LSTS_WIDTH (n : Nat) (i : Nat) : Fld := ⟨HPT_LSTS n i, 19, 5⟩
def HPT_LSTS_MLD (n : Nat) (i : Nat) : Fld := ⟨HPT_LSTS n i, 18, 1⟩
def HPT_LSTS_PEER_SWITCH (n : Nat) (i : Nat) : Fld := ⟨HPT_LSTS n i, 17, 1⟩
def HPT_LSTS_DEGRADED (n : Nat) (i : Nat) : Fld := ⟨HPT_LSTS n i, 16, 1⟩
def HPT_LSTS_LDS_UP (n : Nat) (i : Nat) : Fld := ⟨HPT_LSTS n i, 8, 5⟩
/-- Register HPT_LCNT, 64 bits (R112). -/
def HPT_LCNT (n : Nat) (i : Nat) : Nat := 0x40000118 + 0x10000*n + 0x20*i
def HPT_LCNT_DOWN_EVT (n : Nat) (i : Nat) : Fld := ⟨HPT_LCNT n i, 48, 16⟩
def HPT_LCNT_TRAIN_FAIL (n : Nat) (i : Nat) : Fld := ⟨HPT_LCNT n i, 32, 16⟩
def HPT_LCNT_REPLAY (n : Nat) (i : Nat) : Fld := ⟨HPT_LCNT n i, 0, 32⟩
/-- Register HPT_POIS, 64 bits (R112). -/
def HPT_POIS (n : Nat) (i : Nat) : Nat := 0x40000120 + 0x10000*n + 0x20*i
def HPT_POIS_DMISS_CNT (n : Nat) (i : Nat) : Fld := ⟨HPT_POIS n i, 32, 32⟩
def HPT_POIS_POIS_CNT (n : Nat) (i : Nat) : Fld := ⟨HPT_POIS n i, 0, 32⟩
/-- Register HPT_DMISS, 64 bits (R112). -/
def HPT_DMISS (n : Nat) (i : Nat) : Nat := 0x40000128 + 0x10000*n + 0x20*i
def HPT_DMISS_VALID (n : Nat) (i : Nat) : Fld := ⟨HPT_DMISS n i, 63, 1⟩
def HPT_DMISS_WRITE (n : Nat) (i : Nat) : Fld := ⟨HPT_DMISS n i, 62, 1⟩
def HPT_DMISS_LD (n : Nat) (i : Nat) : Fld := ⟨HPT_DMISS n i, 52, 4⟩
def HPT_DMISS_HPA (n : Nat) (i : Nat) : Fld := ⟨HPT_DMISS n i, 6, 46⟩
/-- Register HPT_LDMBX, 32 bits (R112). -/
def HPT_LDMBX (i : Nat) : Nat := 0x40000200 + 0x4*i
def HPT_LDMBX_VALID (i : Nat) : Fld := ⟨HPT_LDMBX i, 31, 1⟩
def HPT_LDMBX_CHANNEL (i : Nat) : Fld := ⟨HPT_LDMBX i, 0, 5⟩
/-- Register TIN_STEAL, 32 bits (R146). -/
def TIN_STEAL : Nat := 0x400C0100
def TIN_STEAL_ENABLE : Fld := ⟨TIN_STEAL, 31, 1⟩
def TIN_STEAL_REACH : Fld := ⟨TIN_STEAL, 8, 5⟩
def TIN_STEAL_THRESH : Fld := ⟨TIN_STEAL, 0, 4⟩
/-- Register TIN_DRAIN, 32 bits (R146). -/
def TIN_DRAIN : Nat := 0x400C0104
def TIN_DRAIN_AGE : Fld := ⟨TIN_DRAIN, 16, 16⟩
def TIN_DRAIN_HIGH : Fld := ⟨TIN_DRAIN, 0, 5⟩
/-- Register TIN_RUNAHEAD, 32 bits (R146). -/
def TIN_RUNAHEAD : Nat := 0x400C0108
def TIN_RUNAHEAD_ENABLE : Fld := ⟨TIN_RUNAHEAD, 0, 1⟩
/-- Register TIN_ALT_STS, 32 bits (R146). -/
def TIN_ALT_STS : Nat := 0x400C0110
def TIN_ALT_STS_PEAK_CLR : Fld := ⟨TIN_ALT_STS, 31, 1⟩
def TIN_ALT_STS_PEAK : Fld := ⟨TIN_ALT_STS, 16, 14⟩
def TIN_ALT_STS_IN_USE : Fld := ⟨TIN_ALT_STS, 0, 14⟩
/-- Register TIN_ALT_CNT, 64 bits (R146). -/
def TIN_ALT_CNT : Nat := 0x400C0118
def TIN_ALT_CNT_SET_STALL : Fld := ⟨TIN_ALT_CNT, 32, 32⟩
def TIN_ALT_CNT_MW_WAIT : Fld := ⟨TIN_ALT_CNT, 0, 32⟩
/-- Register TIN_HOME, 32 bits (R146). -/
def TIN_HOME (i : Nat) : Nat := 0x400C0400 + 0x4*i
def TIN_HOME_MOVED (i : Nat) : Fld := ⟨TIN_HOME i, 8, 1⟩
def TIN_HOME_TINE (i : Nat) : Fld := ⟨TIN_HOME i, 0, 8⟩
/-- Register TIN_CL_CTL, 32 bits (R147). -/
def TIN_CL_CTL (n : Nat) : Nat := 0x400D0100 + 0x10000*n
def TIN_CL_CTL_UNFENCE (n : Nat) : Fld := ⟨TIN_CL_CTL n, 1, 1⟩
def TIN_CL_CTL_FENCE (n : Nat) : Fld := ⟨TIN_CL_CTL n, 0, 1⟩
/-- Register TIN_CL_STS, 32 bits (R147). -/
def TIN_CL_STS (n : Nat) : Nat := 0x400D0104 + 0x10000*n
def TIN_CL_STS_STATE (n : Nat) : Fld := ⟨TIN_CL_STS n, 28, 4⟩
def TIN_CL_STS_CAUSE (n : Nat) : Fld := ⟨TIN_CL_STS n, 24, 4⟩
def TIN_CL_STS_TINES_UP (n : Nat) : Fld := ⟨TIN_CL_STS n, 0, 6⟩
/-- Register TIN_TINE_FENCE, 32 bits (R147). -/
def TIN_TINE_FENCE (n : Nat) : Nat := 0x400D0108 + 0x10000*n
def TIN_TINE_FENCE_TINE (n : Nat) : Fld := ⟨TIN_TINE_FENCE n, 0, 32⟩
/-- Register TIN_TINE_UNFENCE, 32 bits (R147). -/
def TIN_TINE_UNFENCE (n : Nat) : Nat := 0x400D010C + 0x10000*n
def TIN_TINE_UNFENCE_TINE (n : Nat) : Fld := ⟨TIN_TINE_UNFENCE n, 0, 32⟩
/-- Register TIN_TINE_UP, 32 bits (R147). -/
def TIN_TINE_UP (n : Nat) : Nat := 0x400D0110 + 0x10000*n
def TIN_TINE_UP_UP (n : Nat) : Fld := ⟨TIN_TINE_UP n, 0, 32⟩
/-- Register TIN_CB_USE, 32 bits (R147). -/
def TIN_CB_USE (n : Nat) : Nat := 0x400D0114 + 0x10000*n
def TIN_CB_USE_PEAK_CLR (n : Nat) : Fld := ⟨TIN_CB_USE n, 31, 1⟩
def TIN_CB_USE_PEAK (n : Nat) : Fld := ⟨TIN_CB_USE n, 16, 10⟩
def TIN_CB_USE_IN_USE (n : Nat) : Fld := ⟨TIN_CB_USE n, 0, 10⟩
/-- Register TIN_REQ_CNT, 64 bits (R147). -/
def TIN_REQ_CNT (n : Nat) : Nat := 0x400D0118 + 0x10000*n
def TIN_REQ_CNT_COUNT (n : Nat) : Fld := ⟨TIN_REQ_CNT n, 0, 64⟩
/-- Register TIN_STEAL_CNT, 64 bits (R147). -/
def TIN_STEAL_CNT (n : Nat) : Nat := 0x400D0120 + 0x10000*n
def TIN_STEAL_CNT_COUNT (n : Nat) : Fld := ⟨TIN_STEAL_CNT n, 0, 64⟩
/-- Register TIN_SPEC_USED, 64 bits (R147). -/
def TIN_SPEC_USED (n : Nat) : Nat := 0x400D0128 + 0x10000*n
def TIN_SPEC_USED_COUNT (n : Nat) : Fld := ⟨TIN_SPEC_USED n, 0, 64⟩
/-- Register TIN_SPEC_DISC, 64 bits (R147). -/
def TIN_SPEC_DISC (n : Nat) : Nat := 0x400D0130 + 0x10000*n
def TIN_SPEC_DISC_COUNT (n : Nat) : Fld := ⟨TIN_SPEC_DISC n, 0, 64⟩
/-- Register TIN_HINT_CTL, 32 bits (R147). -/
def TIN_HINT_CTL (n : Nat) : Nat := 0x400D0138 + 0x10000*n
def TIN_HINT_CTL_FLUSH (n : Nat) : Fld := ⟨TIN_HINT_CTL n, 0, 1⟩
/-- Register NCH_CTL, 32 bits (R174). -/
def NCH_CTL (n : Nat) : Nat := 0x40150100 + 0x10000*n
def NCH_CTL_ZERO_FILL (n : Nat) : Fld := ⟨NCH_CTL n, 3, 1⟩
def NCH_CTL_SPEC_EN (n : Nat) : Fld := ⟨NCH_CTL n, 2, 1⟩
def NCH_CTL_PF_EN (n : Nat) : Fld := ⟨NCH_CTL n, 1, 1⟩
def NCH_CTL_CACHE_EN (n : Nat) : Fld := ⟨NCH_CTL n, 0, 1⟩
/-- Register NCH_PF, 32 bits (R174). -/
def NCH_PF (n : Nat) : Nat := 0x40150104 + 0x10000*n
def NCH_PF_DEPTH (n : Nat) : Fld := ⟨NCH_PF n, 8, 4⟩
def NCH_PF_TRIG (n : Nat) : Fld := ⟨NCH_PF n, 0, 3⟩
/-- Register NCH_STS, 32 bits (R174). -/
def NCH_STS (n : Nat) : Nat := 0x40150108 + 0x10000*n
def NCH_STS_INV_BUSY (n : Nat) : Fld := ⟨NCH_STS n, 31, 1⟩
def NCH_STS_INV_QUEUED (n : Nat) : Fld := ⟨NCH_STS n, 28, 3⟩
def NCH_STS_WAYDIS_USED (n : Nat) : Fld := ⟨NCH_STS n, 18, 7⟩
def NCH_STS_LINES (n : Nat) : Fld := ⟨NCH_STS n, 0, 18⟩
/-- Register NCH_FENCE_CTL, 32 bits (R174). -/
def NCH_FENCE_CTL (n : Nat) : Nat := 0x4015010C + 0x10000*n
def NCH_FENCE_CTL_WINDOW_S (n : Nat) : Fld := ⟨NCH_FENCE_CTL n, 8, 16⟩
def NCH_FENCE_CTL_UNFENCE (n : Nat) : Fld := ⟨NCH_FENCE_CTL n, 1, 1⟩
def NCH_FENCE_CTL_FENCE (n : Nat) : Fld := ⟨NCH_FENCE_CTL n, 0, 1⟩
/-- Register NCH_INV_BASE, 64 bits (R174). -/
def NCH_INV_BASE : Nat := 0x40150110
def NCH_INV_BASE_PAGE : Fld := ⟨NCH_INV_BASE, 0, 34⟩
/-- Register NCH_INV_LEN, 64 bits (R174). -/
def NCH_INV_LEN : Nat := 0x40150118
def NCH_INV_LEN_PAGES : Fld := ⟨NCH_INV_LEN, 0, 35⟩
/-- Register NCH_INV_CTL, 32 bits (R174). -/
def NCH_INV_CTL : Nat := 0x40150120
def NCH_INV_CTL_GO : Fld := ⟨NCH_INV_CTL, 31, 1⟩
def NCH_INV_CTL_ALL : Fld := ⟨NCH_INV_CTL, 30, 1⟩
def NCH_INV_CTL_BUSY : Fld := ⟨NCH_INV_CTL, 29, 1⟩
/-- Register NCH_HIT_CNT, 64 bits (R174). -/
def NCH_HIT_CNT (n : Nat) : Nat := 0x40150128 + 0x10000*n
def NCH_HIT_CNT_COUNT (n : Nat) : Fld := ⟨NCH_HIT_CNT n, 0, 64⟩
/-- Register NCH_SB_HIT_CNT, 64 bits (R174). -/
def NCH_SB_HIT_CNT (n : Nat) : Nat := 0x40150130 + 0x10000*n
def NCH_SB_HIT_CNT_COUNT (n : Nat) : Fld := ⟨NCH_SB_HIT_CNT n, 0, 64⟩
/-- Register NCH_MISS_CNT, 64 bits (R174). -/
def NCH_MISS_CNT (n : Nat) : Nat := 0x40150138 + 0x10000*n
def NCH_MISS_CNT_COUNT (n : Nat) : Fld := ⟨NCH_MISS_CNT n, 0, 64⟩
/-- Register NCH_NOFILL_CNT, 64 bits (R174). -/
def NCH_NOFILL_CNT (n : Nat) : Nat := 0x40150140 + 0x10000*n
def NCH_NOFILL_CNT_COUNT (n : Nat) : Fld := ⟨NCH_NOFILL_CNT n, 0, 64⟩
/-- Register NCH_PF_ISSUED_CNT, 64 bits (R174). -/
def NCH_PF_ISSUED_CNT (n : Nat) : Nat := 0x40150148 + 0x10000*n
def NCH_PF_ISSUED_CNT_COUNT (n : Nat) : Fld := ⟨NCH_PF_ISSUED_CNT n, 0, 64⟩
/-- Register NCH_PF_UNUSED_CNT, 64 bits (R174). -/
def NCH_PF_UNUSED_CNT (n : Nat) : Nat := 0x40150150 + 0x10000*n
def NCH_PF_UNUSED_CNT_COUNT (n : Nat) : Fld := ⟨NCH_PF_UNUSED_CNT n, 0, 64⟩
/-- Register NCH_FILL_DROP_CNT, 64 bits (R174). -/
def NCH_FILL_DROP_CNT (n : Nat) : Nat := 0x40150158 + 0x10000*n
def NCH_FILL_DROP_CNT_COUNT (n : Nat) : Fld := ⟨NCH_FILL_DROP_CNT n, 0, 64⟩
/-- Register NCH_ERR_CNT, 64 bits (R174). -/
def NCH_ERR_CNT (n : Nat) : Nat := 0x40150160 + 0x10000*n
def NCH_ERR_CNT_CB_PAR (n : Nat) : Fld := ⟨NCH_ERR_CNT n, 48, 16⟩
def NCH_ERR_CNT_TAG_PAR (n : Nat) : Fld := ⟨NCH_ERR_CNT n, 32, 16⟩
def NCH_ERR_CNT_DUE (n : Nat) : Fld := ⟨NCH_ERR_CNT n, 16, 16⟩
def NCH_ERR_CNT_CE (n : Nat) : Fld := ⟨NCH_ERR_CNT n, 0, 16⟩
/-- Register NCH_ERR_LAST, 64 bits (R174). -/
def NCH_ERR_LAST (n : Nat) : Nat := 0x40150168 + 0x10000*n
def NCH_ERR_LAST_VALID (n : Nat) : Fld := ⟨NCH_ERR_LAST n, 63, 1⟩
def NCH_ERR_LAST_KIND (n : Nat) : Fld := ⟨NCH_ERR_LAST n, 59, 4⟩
def NCH_ERR_LAST_INDEX (n : Nat) : Fld := ⟨NCH_ERR_LAST n, 45, 14⟩
def NCH_ERR_LAST_WAY (n : Nat) : Fld := ⟨NCH_ERR_LAST n, 41, 4⟩
def NCH_ERR_LAST_WORD (n : Nat) : Fld := ⟨NCH_ERR_LAST n, 38, 3⟩
def NCH_ERR_LAST_BIT (n : Nat) : Fld := ⟨NCH_ERR_LAST n, 31, 7⟩
/-- Register NCH_WAYDIS, 32 bits (R174). -/
def NCH_WAYDIS (n : Nat) (i : Nat) : Nat := 0x40150200 + 0x10000*n + 0x4*i
def NCH_WAYDIS_VALID (n : Nat) (i : Nat) : Fld := ⟨NCH_WAYDIS n i, 31, 1⟩
def NCH_WAYDIS_SB (n : Nat) (i : Nat) : Fld := ⟨NCH_WAYDIS n i, 30, 1⟩
def NCH_WAYDIS_WAY (n : Nat) (i : Nat) : Fld := ⟨NCH_WAYDIS n i, 16, 4⟩
def NCH_WAYDIS_SET (n : Nat) (i : Nat) : Fld := ⟨NCH_WAYDIS n i, 0, 14⟩
/-- Register DRM_CFG, 32 bits (R210). -/
def DRM_CFG (n : Nat) : Nat := 0x40250100 + 0x10000*n
def DRM_CFG_ENABLE (n : Nat) : Fld := ⟨DRM_CFG n, 31, 1⟩
def DRM_CFG_ACTIVE (n : Nat) : Fld := ⟨DRM_CFG n, 30, 1⟩
def DRM_CFG_DPC (n : Nat) : Fld := ⟨DRM_CFG n, 28, 2⟩
def DRM_CFG_SPEED (n : Nat) : Fld := ⟨DRM_CFG n, 27, 1⟩
def DRM_CFG_NPOP (n : Nat) : Fld := ⟨DRM_CFG n, 26, 1⟩
def DRM_CFG_POS (n : Nat) : Fld := ⟨DRM_CFG n, 16, 4⟩
/-- Register DRM_GEOM, 32 bits (R210). -/
def DRM_GEOM (n : Nat) : Nat := 0x40250104 + 0x10000*n
def DRM_GEOM_RANKS (n : Nat) : Fld := ⟨DRM_GEOM n, 28, 2⟩
def DRM_GEOM_HEIGHT (n : Nat) : Fld := ⟨DRM_GEOM n, 26, 2⟩
def DRM_GEOM_WIDTH (n : Nat) : Fld := ⟨DRM_GEOM n, 25, 1⟩
def DRM_GEOM_ROW_BITS (n : Nat) : Fld := ⟨DRM_GEOM n, 20, 5⟩
/-- Register DRM_STS, 32 bits (R210). -/
def DRM_STS (n : Nat) : Nat := 0x40250108 + 0x10000*n
def DRM_STS_STATE (n : Nat) : Fld := ⟨DRM_STS n, 28, 4⟩
def DRM_STS_RANKS_UP (n : Nat) : Fld := ⟨DRM_STS n, 24, 4⟩
def DRM_STS_WQ_USE (n : Nat) : Fld := ⟨DRM_STS n, 8, 8⟩
def DRM_STS_RQ_USE (n : Nat) : Fld := ⟨DRM_STS n, 0, 8⟩
/-- Register DRM_SCHED, 32 bits (R210). -/
def DRM_SCHED (n : Nat) : Nat := 0x4025010C + 0x10000*n
def DRM_SCHED_AGE_NS (n : Nat) : Fld := ⟨DRM_SCHED n, 24, 8⟩
def DRM_SCHED_YIELD_NS (n : Nat) : Fld := ⟨DRM_SCHED n, 16, 8⟩
def DRM_SCHED_WR_HIGH (n : Nat) : Fld := ⟨DRM_SCHED n, 10, 6⟩
def DRM_SCHED_WR_LOW (n : Nat) : Fld := ⟨DRM_SCHED n, 4, 6⟩
def DRM_SCHED_PAGE_IDLE (n : Nat) : Fld := ⟨DRM_SCHED n, 0, 4⟩
/-- Register DRM_RT, 32 bits (R210). -/
def DRM_RT (n : Nat) : Nat := 0x40250110 + 0x10000*n
def DRM_RT_YOKE_PANIC (n : Nat) : Fld := ⟨DRM_RT n, 31, 1⟩
def DRM_RT_DRILL_PANIC (n : Nat) : Fld := ⟨DRM_RT n, 30, 1⟩
def DRM_RT_DRILL_EN (n : Nat) : Fld := ⟨DRM_RT n, 1, 1⟩
def DRM_RT_YOKE_EN (n : Nat) : Fld := ⟨DRM_RT n, 0, 1⟩
/-- Register DRM_REF, 32 bits (R210). -/
def DRM_REF (n : Nat) : Nat := 0x40250114 + 0x10000*n
def DRM_REF_OWED (n : Nat) : Fld := ⟨DRM_REF n, 28, 4⟩
def DRM_REF_POSTPONE_MAX (n : Nat) : Fld := ⟨DRM_REF n, 24, 4⟩
def DRM_REF_HOT (n : Nat) : Fld := ⟨DRM_REF n, 23, 1⟩
def DRM_REF_TRFCSB (n : Nat) : Fld := ⟨DRM_REF n, 9, 10⟩
/-- Register DRM_SR, 32 bits (R210). -/
def DRM_SR (n : Nat) : Nat := 0x40250118 + 0x10000*n
def DRM_SR_AUTO (n : Nat) : Fld := ⟨DRM_SR n, 31, 1⟩
def DRM_SR_ENTER (n : Nat) : Fld := ⟨DRM_SR n, 30, 1⟩
def DRM_SR_EXIT (n : Nat) : Fld := ⟨DRM_SR n, 29, 1⟩
def DRM_SR_TXS_NS (n : Nat) : Fld := ⟨DRM_SR n, 10, 10⟩
def DRM_SR_IDLE_US (n : Nat) : Fld := ⟨DRM_SR n, 0, 10⟩
/-- Register DRM_CAP, 32 bits (R210). -/
def DRM_CAP (n : Nat) : Nat := 0x4025011C + 0x10000*n
def DRM_CAP_LIMIT (n : Nat) : Fld := ⟨DRM_CAP n, 24, 8⟩
def DRM_CAP_WINDOW_NS (n : Nat) : Fld := ⟨DRM_CAP n, 8, 8⟩
/-- Register DRM_FENCE_CTL, 32 bits (R210). -/
def DRM_FENCE_CTL (n : Nat) : Nat := 0x40250120 + 0x10000*n
def DRM_FENCE_CTL_UE_LIMIT (n : Nat) : Fld := ⟨DRM_FENCE_CTL n, 24, 8⟩
def DRM_FENCE_CTL_WINDOW_S (n : Nat) : Fld := ⟨DRM_FENCE_CTL n, 8, 16⟩
def DRM_FENCE_CTL_MODE (n : Nat) : Fld := ⟨DRM_FENCE_CTL n, 7, 1⟩
def DRM_FENCE_CTL_UNFENCE (n : Nat) : Fld := ⟨DRM_FENCE_CTL n, 6, 1⟩
def DRM_FENCE_CTL_CH_FENCE (n : Nat) : Fld := ⟨DRM_FENCE_CTL n, 5, 1⟩
def DRM_FENCE_CTL_RANK_FENCE (n : Nat) : Fld := ⟨DRM_FENCE_CTL n, 0, 4⟩
/-- Register DRM_RMP_CTL, 32 bits (R210). -/
def DRM_RMP_CTL (n : Nat) : Nat := 0x40250124 + 0x10000*n
def DRM_RMP_CTL_CE_THRESH (n : Nat) : Fld := ⟨DRM_RMP_CTL n, 24, 8⟩
def DRM_RMP_CTL_WINDOW_S (n : Nat) : Fld := ⟨DRM_RMP_CTL n, 8, 16⟩
def DRM_RMP_CTL_USED (n : Nat) : Fld := ⟨DRM_RMP_CTL n, 0, 4⟩
/-- Register DRM_SUBST_SRC, 64 bits (R210). -/
def DRM_SUBST_SRC (n : Nat) : Nat := 0x40250128 + 0x10000*n
def DRM_SUBST_SRC_VALID (n : Nat) : Fld := ⟨DRM_SUBST_SRC n, 63, 1⟩
def DRM_SUBST_SRC_LEN (n : Nat) : Fld := ⟨DRM_SUBST_SRC n, 32, 28⟩
def DRM_SUBST_SRC_BASE (n : Nat) : Fld := ⟨DRM_SUBST_SRC n, 0, 28⟩
/-- Register DRM_SUBST_DST, 64 bits (R210). -/
def DRM_SUBST_DST (n : Nat) : Nat := 0x40250130 + 0x10000*n
def DRM_SUBST_DST_CHANNEL (n : Nat) : Fld := ⟨DRM_SUBST_DST n, 32, 4⟩
def DRM_SUBST_DST_BASE (n : Nat) : Fld := ⟨DRM_SUBST_DST n, 0, 28⟩
/-- Register DRM_ERR_LAST, 64 bits (R210). -/
def DRM_ERR_LAST (n : Nat) : Nat := 0x40250138 + 0x10000*n
def DRM_ERR_LAST_VALID (n : Nat) : Fld := ⟨DRM_ERR_LAST n, 63, 1⟩
def DRM_ERR_LAST_KIND (n : Nat) : Fld := ⟨DRM_ERR_LAST n, 60, 3⟩
def DRM_ERR_LAST_SUB (n : Nat) : Fld := ⟨DRM_ERR_LAST n, 59, 1⟩
def DRM_ERR_LAST_DEVICE (n : Nat) : Fld := ⟨DRM_ERR_LAST n, 55, 4⟩
def DRM_ERR_LAST_LINE (n : Nat) : Fld := ⟨DRM_ERR_LAST n, 0, 33⟩
/-- Register DRM_ERR_CNT, 64 bits (R210). -/
def DRM_ERR_CNT (n : Nat) : Nat := 0x40250140 + 0x10000*n
def DRM_ERR_CNT_CAP (n : Nat) : Fld := ⟨DRM_ERR_CNT n, 48, 16⟩
def DRM_ERR_CNT_REMAP (n : Nat) : Fld := ⟨DRM_ERR_CNT n, 32, 16⟩
def DRM_ERR_CNT_UE (n : Nat) : Fld := ⟨DRM_ERR_CNT n, 16, 16⟩
def DRM_ERR_CNT_CE (n : Nat) : Fld := ⟨DRM_ERR_CNT n, 0, 16⟩
/-- Register DRM_RD_CNT, 64 bits (R210). -/
def DRM_RD_CNT (n : Nat) : Nat := 0x40250148 + 0x10000*n
def DRM_RD_CNT_COUNT (n : Nat) : Fld := ⟨DRM_RD_CNT n, 0, 64⟩
/-- Register DRM_WR_CNT, 64 bits (R210). -/
def DRM_WR_CNT (n : Nat) : Nat := 0x40250150 + 0x10000*n
def DRM_WR_CNT_COUNT (n : Nat) : Fld := ⟨DRM_WR_CNT n, 0, 64⟩
/-- Register DRM_PANIC_CNT, 64 bits (R210). -/
def DRM_PANIC_CNT (n : Nat) : Nat := 0x40250158 + 0x10000*n
def DRM_PANIC_CNT_COUNT (n : Nat) : Fld := ⟨DRM_PANIC_CNT n, 0, 64⟩
/-- Register DRM_REFB_CNT, 64 bits (R210). -/
def DRM_REFB_CNT (n : Nat) : Nat := 0x40250160 + 0x10000*n
def DRM_REFB_CNT_COUNT (n : Nat) : Fld := ⟨DRM_REFB_CNT n, 0, 64⟩
/-- Register DRM_MR_CMD, 32 bits (R210). -/
def DRM_MR_CMD (n : Nat) : Nat := 0x40250180 + 0x10000*n
def DRM_MR_CMD_GO (n : Nat) : Fld := ⟨DRM_MR_CMD n, 31, 1⟩
def DRM_MR_CMD_DONE (n : Nat) : Fld := ⟨DRM_MR_CMD n, 30, 1⟩
def DRM_MR_CMD_OP (n : Nat) : Fld := ⟨DRM_MR_CMD n, 28, 2⟩
def DRM_MR_CMD_SUB (n : Nat) : Fld := ⟨DRM_MR_CMD n, 27, 1⟩
def DRM_MR_CMD_RANK (n : Nat) : Fld := ⟨DRM_MR_CMD n, 25, 2⟩
def DRM_MR_CMD_CID (n : Nat) : Fld := ⟨DRM_MR_CMD n, 23, 2⟩
def DRM_MR_CMD_DEV (n : Nat) : Fld := ⟨DRM_MR_CMD n, 19, 4⟩
def DRM_MR_CMD_ADDR (n : Nat) : Fld := ⟨DRM_MR_CMD n, 8, 8⟩
def DRM_MR_CMD_DATA (n : Nat) : Fld := ⟨DRM_MR_CMD n, 0, 8⟩
/-- Register DRM_MR_DATA, 32 bits (R210). -/
def DRM_MR_DATA (n : Nat) : Nat := 0x40250184 + 0x10000*n
def DRM_MR_DATA_DATA (n : Nat) : Fld := ⟨DRM_MR_DATA n, 0, 8⟩
/-- Register DRM_DLY_CTL, 32 bits (R210). -/
def DRM_DLY_CTL (n : Nat) : Nat := 0x40250188 + 0x10000*n
def DRM_DLY_CTL_APPLY (n : Nat) : Fld := ⟨DRM_DLY_CTL n, 31, 1⟩
def DRM_DLY_CTL_PENDING (n : Nat) : Fld := ⟨DRM_DLY_CTL n, 30, 1⟩
/-- Register DRM_TRN, 64 bits (R210). -/
def DRM_TRN (n : Nat) : Nat := 0x40250190 + 0x10000*n
def DRM_TRN_PASS (n : Nat) : Fld := ⟨DRM_TRN n, 0, 40⟩
/-- Register DRM_RMP, 64 bits (R210). -/
def DRM_RMP (n : Nat) (i : Nat) : Nat := 0x40250200 + 0x10000*n + 0x8*i
def DRM_RMP_VALID (n : Nat) (i : Nat) : Fld := ⟨DRM_RMP n i, 63, 1⟩
def DRM_RMP_SPARE (n : Nat) (i : Nat) : Fld := ⟨DRM_RMP n i, 56, 6⟩
def DRM_RMP_LINE (n : Nat) (i : Nat) : Fld := ⟨DRM_RMP n i, 0, 33⟩
/-- Register HRW_CTL, 32 bits (R211). -/
def HRW_CTL : Nat := 0x40350100
def HRW_CTL_ENABLE : Fld := ⟨HRW_CTL, 31, 1⟩
def HRW_CTL_PASS_H : Fld := ⟨HRW_CTL, 0, 16⟩
/-- Register HRW_STS, 64 bits (R211). -/
def HRW_STS : Nat := 0x40350108
def HRW_STS_BEHIND : Fld := ⟨HRW_STS, 63, 1⟩
def HRW_STS_PHASE : Fld := ⟨HRW_STS, 61, 2⟩
def HRW_STS_PASSES : Fld := ⟨HRW_STS, 34, 16⟩
def HRW_STS_POS : Fld := ⟨HRW_STS, 0, 34⟩
/-- Register HRW_CNT, 64 bits (R211). -/
def HRW_CNT : Nat := 0x40350110
def HRW_CNT_HEALED : Fld := ⟨HRW_CNT, 48, 16⟩
def HRW_CNT_POISONED : Fld := ⟨HRW_CNT, 32, 16⟩
def HRW_CNT_CORRECTED : Fld := ⟨HRW_CNT, 0, 32⟩
/-- Register WIN_CTL, 32 bits (R244). -/
def WIN_CTL : Nat := 0x40360100
def WIN_CTL_SWEEP_EN : Fld := ⟨WIN_CTL, 1, 1⟩
def WIN_CTL_HEAT_MOVES : Fld := ⟨WIN_CTL, 0, 1⟩
/-- Register WIN_EPOCH, 32 bits (R244). -/
def WIN_EPOCH : Nat := 0x40360104
def WIN_EPOCH_DECAY : Fld := ⟨WIN_EPOCH, 8, 3⟩
def WIN_EPOCH_EPOCH_S : Fld := ⟨WIN_EPOCH, 0, 8⟩
/-- Register WIN_HEAT, 32 bits (R244). -/
def WIN_HEAT : Nat := 0x40360108
def WIN_HEAT_PROMO_THRESH : Fld := ⟨WIN_HEAT, 24, 8⟩
def WIN_HEAT_PROMO_HEAT : Fld := ⟨WIN_HEAT, 16, 8⟩
def WIN_HEAT_WR_INC : Fld := ⟨WIN_HEAT, 8, 8⟩
def WIN_HEAT_RD_INC : Fld := ⟨WIN_HEAT, 0, 8⟩
/-- Register WIN_FREE, 32 bits (R244). -/
def WIN_FREE : Nat := 0x4036010C
def WIN_FREE_HIGH : Fld := ⟨WIN_FREE, 16, 16⟩
def WIN_FREE_LOW : Fld := ⟨WIN_FREE, 0, 16⟩
/-- Register WIN_CLEAN, 32 bits (R244). -/
def WIN_CLEAN : Nat := 0x40360110
def WIN_CLEAN_STOP : Fld := ⟨WIN_CLEAN, 8, 8⟩
def WIN_CLEAN_START : Fld := ⟨WIN_CLEAN, 0, 8⟩
/-- Register WIN_STS, 32 bits (R244). -/
def WIN_STS : Nat := 0x40360114
def WIN_STS_STRETCH : Fld := ⟨WIN_STS, 31, 1⟩
def WIN_STS_STARVED : Fld := ⟨WIN_STS, 30, 1⟩
def WIN_STS_DIRTY_FULL : Fld := ⟨WIN_STS, 29, 1⟩
def WIN_STS_GOV_LIMIT : Fld := ⟨WIN_STS, 28, 1⟩
def WIN_STS_MOVES : Fld := ⟨WIN_STS, 16, 10⟩
def WIN_STS_EPOCH : Fld := ⟨WIN_STS, 0, 16⟩
/-- Register WIN_PIN_CTL, 32 bits (R244). -/
def WIN_PIN_CTL : Nat := 0x40360118
def WIN_PIN_CTL_GO : Fld := ⟨WIN_PIN_CTL, 31, 1⟩
def WIN_PIN_CTL_BUSY : Fld := ⟨WIN_PIN_CTL, 30, 1⟩
def WIN_PIN_CTL_OP : Fld := ⟨WIN_PIN_CTL, 28, 2⟩
def WIN_PIN_CTL_RESULT : Fld := ⟨WIN_PIN_CTL, 24, 4⟩
/-- Register WIN_PIN_BASE, 64 bits (R244). -/
def WIN_PIN_BASE : Nat := 0x40360120
def WIN_PIN_BASE_PAGE : Fld := ⟨WIN_PIN_BASE, 0, 34⟩
/-- Register WIN_PIN_LEN, 64 bits (R244). -/
def WIN_PIN_LEN : Nat := 0x40360128
def WIN_PIN_LEN_PAGES : Fld := ⟨WIN_PIN_LEN, 0, 35⟩
/-- Register WIN_FRAME_CNT, 64 bits (R244). -/
def WIN_FRAME_CNT : Nat := 0x40360130
def WIN_FRAME_CNT_FREE : Fld := ⟨WIN_FRAME_CNT, 32, 32⟩
def WIN_FRAME_CNT_RETIRED : Fld := ⟨WIN_FRAME_CNT, 0, 32⟩
/-- Register WIN_PAGE_CNT, 64 bits (R244). -/
def WIN_PAGE_CNT : Nat := 0x40360138
def WIN_PAGE_CNT_PINNED : Fld := ⟨WIN_PAGE_CNT, 32, 32⟩
def WIN_PAGE_CNT_RESIDENT : Fld := ⟨WIN_PAGE_CNT, 0, 32⟩
/-- Register WIN_PROMO_CNT, 64 bits (R244). -/
def WIN_PROMO_CNT : Nat := 0x40360140
def WIN_PROMO_CNT_COUNT : Fld := ⟨WIN_PROMO_CNT, 0, 64⟩
/-- Register WIN_DEMO_CNT, 64 bits (R244). -/
def WIN_DEMO_CNT : Nat := 0x40360148
def WIN_DEMO_CNT_COUNT : Fld := ⟨WIN_DEMO_CNT, 0, 64⟩
/-- Register WIN_CLEAN_CNT, 64 bits (R244). -/
def WIN_CLEAN_CNT : Nat := 0x40360150
def WIN_CLEAN_CNT_COUNT : Fld := ⟨WIN_CLEAN_CNT, 0, 64⟩
/-- Register WIN_COLD_CNT, 64 bits (R244). -/
def WIN_COLD_CNT : Nat := 0x40360158
def WIN_COLD_CNT_COUNT : Fld := ⟨WIN_COLD_CNT, 0, 64⟩
/-- Register WIN_ABANDON_CNT, 64 bits (R244). -/
def WIN_ABANDON_CNT : Nat := 0x40360160
def WIN_ABANDON_CNT_COUNT : Fld := ⟨WIN_ABANDON_CNT, 0, 64⟩
/-- Register WIN_HEAT_DROP, 64 bits (R244). -/
def WIN_HEAT_DROP : Nat := 0x40360168
def WIN_HEAT_DROP_COUNT : Fld := ⟨WIN_HEAT_DROP, 0, 64⟩
/-- Register WIN_ERR_LAST, 64 bits (R244). -/
def WIN_ERR_LAST : Nat := 0x40360170
def WIN_ERR_LAST_VALID : Fld := ⟨WIN_ERR_LAST, 63, 1⟩
def WIN_ERR_LAST_KIND : Fld := ⟨WIN_ERR_LAST, 60, 3⟩
def WIN_ERR_LAST_WHERE : Fld := ⟨WIN_ERR_LAST, 0, 35⟩
/-- Register WIN_RGN_POL, 64 bits (R244). -/
def WIN_RGN_POL (i : Nat) : Nat := 0x40361000 + 0x10*i
def WIN_RGN_POL_LOADING (i : Nat) : Fld := ⟨WIN_RGN_POL i, 63, 1⟩
def WIN_RGN_POL_BIAS (i : Nat) : Fld := ⟨WIN_RGN_POL i, 34, 4⟩
def WIN_RGN_POL_CEIL_GIB (i : Nat) : Fld := ⟨WIN_RGN_POL i, 17, 17⟩
def WIN_RGN_POL_FLOOR_GIB (i : Nat) : Fld := ⟨WIN_RGN_POL i, 0, 17⟩
/-- Register WIN_RGN_RES, 64 bits (R244). -/
def WIN_RGN_RES (i : Nat) : Nat := 0x40361008 + 0x10*i
def WIN_RGN_RES_PINNED (i : Nat) : Fld := ⟨WIN_RGN_RES i, 32, 32⟩
def WIN_RGN_RES_RESIDENT (i : Nat) : Fld := ⟨WIN_RGN_RES i, 0, 32⟩
/-- Register FUR_CTL, 32 bits (R280). -/
def FUR_CTL : Nat := 0x40370100
def FUR_CTL_REBUILD_PCT : Fld := ⟨FUR_CTL, 24, 8⟩
def FUR_CTL_RET_EN : Fld := ⟨FUR_CTL, 4, 1⟩
def FUR_CTL_WL_EN : Fld := ⟨FUR_CTL, 2, 1⟩
def FUR_CTL_GC_EN : Fld := ⟨FUR_CTL, 1, 1⟩
def FUR_CTL_ENABLE : Fld := ⟨FUR_CTL, 0, 1⟩
/-- Register FUR_GEOM, 32 bits (R280). -/
def FUR_GEOM : Nat := 0x40370104
def FUR_GEOM_LOCKED : Fld := ⟨FUR_GEOM, 31, 1⟩
def FUR_GEOM_BPC : Fld := ⟨FUR_GEOM, 26, 2⟩
def FUR_GEOM_PLANES : Fld := ⟨FUR_GEOM, 24, 2⟩
def FUR_GEOM_CE_M1 : Fld := ⟨FUR_GEOM, 22, 2⟩
def FUR_GEOM_LUN_M1 : Fld := ⟨FUR_GEOM, 20, 2⟩
def FUR_GEOM_PAGES : Fld := ⟨FUR_GEOM, 0, 14⟩
/-- Register FUR_GEOM2, 32 bits (R280). -/
def FUR_GEOM2 : Nat := 0x40370108
def FUR_GEOM2_BLOCKS : Fld := ⟨FUR_GEOM2, 0, 15⟩
/-- Register FUR_ENDUR, 32 bits (R280). -/
def FUR_ENDUR : Nat := 0x4037010C
def FUR_ENDUR_SLC_KPE : Fld := ⟨FUR_ENDUR, 16, 16⟩
def FUR_ENDUR_NATIVE_PE : Fld := ⟨FUR_ENDUR, 0, 16⟩
/-- Register FUR_SUSP, 32 bits (R280). -/
def FUR_SUSP : Nat := 0x40370110
def FUR_SUSP_MIN_RUN_US : Fld := ⟨FUR_SUSP, 8, 8⟩
/-- Register FUR_GC, 32 bits (R280). -/
def FUR_GC : Nat := 0x40370114
def FUR_GC_HIGH : Fld := ⟨FUR_GC, 16, 16⟩
def FUR_GC_LOW : Fld := ⟨FUR_GC, 0, 16⟩
/-- Register FUR_WL, 32 bits (R280). -/
def FUR_WL : Nat := 0x40370118
def FUR_WL_SPREAD : Fld := ⟨FUR_WL, 0, 16⟩
/-- Register FUR_RDIST, 32 bits (R280). -/
def FUR_RDIST : Nat := 0x4037011C
def FUR_RDIST_RD_LIMIT_K : Fld := ⟨FUR_RDIST, 16, 16⟩
def FUR_RDIST_REF_BITS : Fld := ⟨FUR_RDIST, 0, 9⟩
/-- Register FUR_RET, 32 bits (R280). -/
def FUR_RET : Nat := 0x40370120
def FUR_RET_SCAN_H : Fld := ⟨FUR_RET, 0, 16⟩
/-- Register FUR_GOV, 32 bits (R280). -/
def FUR_GOV : Nat := 0x40370124
def FUR_GOV_MARGIN_PCT : Fld := ⟨FUR_GOV, 8, 8⟩
def FUR_GOV_FLOOR_PCT : Fld := ⟨FUR_GOV, 0, 8⟩
/-- Register FUR_META, 32 bits (R280). -/
def FUR_META : Nat := 0x40370128
def FUR_META_DIRTY_MAX : Fld := ⟨FUR_META, 0, 8⟩
/-- Register FUR_STS, 32 bits (R280). -/
def FUR_STS : Nat := 0x4037012C
def FUR_STS_STATE : Fld := ⟨FUR_STS, 28, 4⟩
def FUR_STS_GC_ACTIVE : Fld := ⟨FUR_STS, 27, 1⟩
def FUR_STS_GOV_LIMIT : Fld := ⟨FUR_STS, 26, 1⟩
def FUR_STS_WEAR_OVER : Fld := ⟨FUR_STS, 25, 1⟩
def FUR_STS_SHORT : Fld := ⟨FUR_STS, 24, 1⟩
def FUR_STS_REBUILDING : Fld := ⟨FUR_STS, 23, 1⟩
def FUR_STS_FREE_SB : Fld := ⟨FUR_STS, 0, 18⟩
/-- Register FUR_GOV_RATE, 64 bits (R280). -/
def FUR_GOV_RATE : Nat := 0x40370130
def FUR_GOV_RATE_INIT_MBPS : Fld := ⟨FUR_GOV_RATE, 32, 32⟩
def FUR_GOV_RATE_RATE_MBPS : Fld := ⟨FUR_GOV_RATE, 0, 32⟩
/-- Register FUR_GOV_ALLOW, 64 bits (R280). -/
def FUR_GOV_ALLOW : Nat := 0x40370138
def FUR_GOV_ALLOW_BYTES : Fld := ⟨FUR_GOV_ALLOW, 0, 64⟩
/-- Register FUR_LIFE, 64 bits (R280). -/
def FUR_LIFE : Nat := 0x40370140
def FUR_LIFE_X_MILLI : Fld := ⟨FUR_LIFE, 32, 32⟩
def FUR_LIFE_HOURS_LEFT : Fld := ⟨FUR_LIFE, 0, 32⟩
/-- Register FUR_WEAR, 64 bits (R280). -/
def FUR_WEAR : Nat := 0x40370148
def FUR_WEAR_MAX_PE : Fld := ⟨FUR_WEAR, 48, 16⟩
def FUR_WEAR_MIN_PE : Fld := ⟨FUR_WEAR, 32, 16⟩
def FUR_WEAR_MEAN_PE : Fld := ⟨FUR_WEAR, 16, 16⟩
def FUR_WEAR_RSVD_PE : Fld := ⟨FUR_WEAR, 0, 16⟩
/-- Register FUR_BLK_CNT, 64 bits (R280). -/
def FUR_BLK_CNT : Nat := 0x40370150
def FUR_BLK_CNT_BAD : Fld := ⟨FUR_BLK_CNT, 32, 32⟩
def FUR_BLK_CNT_SPARE_LEFT : Fld := ⟨FUR_BLK_CNT, 0, 32⟩
/-- Register FUR_ERR_LAST, 64 bits (R280). -/
def FUR_ERR_LAST : Nat := 0x40370158
def FUR_ERR_LAST_VALID : Fld := ⟨FUR_ERR_LAST, 63, 1⟩
def FUR_ERR_LAST_KIND : Fld := ⟨FUR_ERR_LAST, 60, 3⟩
def FUR_ERR_LAST_WHERE : Fld := ⟨FUR_ERR_LAST, 0, 40⟩
/-- Register FUR_VSEQ, 64 bits (R280). -/
def FUR_VSEQ (i : Nat) : Nat := 0x40370800 + 0x8*i
def FUR_VSEQ_KIND (i : Nat) : Fld := ⟨FUR_VSEQ i, 60, 4⟩
def FUR_VSEQ_LEN (i : Nat) : Fld := ⟨FUR_VSEQ i, 57, 3⟩
def FUR_VSEQ_TYPE (i : Nat) : Fld := ⟨FUR_VSEQ i, 47, 10⟩
def FUR_VSEQ_BYTES (i : Nat) : Fld := ⟨FUR_VSEQ i, 0, 40⟩
/-- Register FUR_CH_CTL, 32 bits (R281). -/
def FUR_CH_CTL (n : Nat) : Nat := 0x40380100 + 0x10000*n
def FUR_CH_CTL_ENABLE (n : Nat) : Fld := ⟨FUR_CH_CTL n, 31, 1⟩
def FUR_CH_CTL_FENCE (n : Nat) : Fld := ⟨FUR_CH_CTL n, 30, 1⟩
def FUR_CH_CTL_UNFENCE (n : Nat) : Fld := ⟨FUR_CH_CTL n, 29, 1⟩
def FUR_CH_CTL_MAX_RATE (n : Nat) : Fld := ⟨FUR_CH_CTL n, 16, 4⟩
/-- Register FUR_CH_STS, 32 bits (R281). -/
def FUR_CH_STS (n : Nat) : Nat := 0x40380104 + 0x10000*n
def FUR_CH_STS_STATE (n : Nat) : Fld := ⟨FUR_CH_STS n, 28, 4⟩
def FUR_CH_STS_RATE (n : Nat) : Fld := ⟨FUR_CH_STS n, 24, 4⟩
def FUR_CH_STS_LUNS_UP (n : Nat) : Fld := ⟨FUR_CH_STS n, 0, 16⟩
/-- Register FUR_CH_LUN_FENCE, 32 bits (R281). -/
def FUR_CH_LUN_FENCE (n : Nat) : Nat := 0x40380108 + 0x10000*n
def FUR_CH_LUN_FENCE_UNFENCE (n : Nat) : Fld := ⟨FUR_CH_LUN_FENCE n, 16, 16⟩
def FUR_CH_LUN_FENCE_FENCE (n : Nat) : Fld := ⟨FUR_CH_LUN_FENCE n, 0, 16⟩
/-- Register FUR_CH_CNT, 64 bits (R281). -/
def FUR_CH_CNT (n : Nat) : Nat := 0x40380110 + 0x10000*n
def FUR_CH_CNT_PROG_FAIL (n : Nat) : Fld := ⟨FUR_CH_CNT n, 48, 16⟩
def FUR_CH_CNT_ERASE_FAIL (n : Nat) : Fld := ⟨FUR_CH_CNT n, 32, 16⟩
def FUR_CH_CNT_TIMEOUT (n : Nat) : Fld := ⟨FUR_CH_CNT n, 16, 16⟩
def FUR_CH_CNT_SUSPENDS (n : Nat) : Fld := ⟨FUR_CH_CNT n, 0, 16⟩
/-- Register FUR_CH_ERR_LAST, 64 bits (R281). -/
def FUR_CH_ERR_LAST (n : Nat) : Nat := 0x40380118 + 0x10000*n
def FUR_CH_ERR_LAST_VALID (n : Nat) : Fld := ⟨FUR_CH_ERR_LAST n, 63, 1⟩
def FUR_CH_ERR_LAST_KIND (n : Nat) : Fld := ⟨FUR_CH_ERR_LAST n, 60, 3⟩
def FUR_CH_ERR_LAST_WHERE (n : Nat) : Fld := ⟨FUR_CH_ERR_LAST n, 0, 40⟩
/-- Register FUR_CH_CMD, 32 bits (R281). -/
def FUR_CH_CMD (n : Nat) : Nat := 0x40380180 + 0x10000*n
def FUR_CH_CMD_GO (n : Nat) : Fld := ⟨FUR_CH_CMD n, 31, 1⟩
def FUR_CH_CMD_DONE (n : Nat) : Fld := ⟨FUR_CH_CMD n, 30, 1⟩
def FUR_CH_CMD_OP (n : Nat) : Fld := ⟨FUR_CH_CMD n, 27, 3⟩
def FUR_CH_CMD_CE (n : Nat) : Fld := ⟨FUR_CH_CMD n, 25, 2⟩
def FUR_CH_CMD_LEN (n : Nat) : Fld := ⟨FUR_CH_CMD n, 12, 13⟩
def FUR_CH_CMD_BYTE (n : Nat) : Fld := ⟨FUR_CH_CMD n, 0, 8⟩
/-- Register FUR_CH_DLY_CTL, 32 bits (R281). -/
def FUR_CH_DLY_CTL (n : Nat) : Nat := 0x40380188 + 0x10000*n
def FUR_CH_DLY_CTL_APPLY (n : Nat) : Fld := ⟨FUR_CH_DLY_CTL n, 31, 1⟩
def FUR_CH_DLY_CTL_PENDING (n : Nat) : Fld := ⟨FUR_CH_DLY_CTL n, 30, 1⟩
/-- Register FUR_CH_DQ, 32 bits (R281). -/
def FUR_CH_DQ (n : Nat) (i : Nat) : Nat := 0x40380200 + 0x10000*n + 0x4*i
def FUR_CH_DQ_VREF (n : Nat) (i : Nat) : Fld := ⟨FUR_CH_DQ n i, 16, 8⟩
def FUR_CH_DQ_WR_DLY (n : Nat) (i : Nat) : Fld := ⟨FUR_CH_DQ n i, 8, 8⟩
def FUR_CH_DQ_RD_DLY (n : Nat) (i : Nat) : Fld := ⟨FUR_CH_DQ n i, 0, 8⟩
/-- Register FUR_CH_DQS, 32 bits (R281). -/
def FUR_CH_DQS (n : Nat) : Nat := 0x40380220 + 0x10000*n
def FUR_CH_DQS_WR_DLY (n : Nat) : Fld := ⟨FUR_CH_DQS n, 8, 8⟩
def FUR_CH_DQS_RD_DLY (n : Nat) : Fld := ⟨FUR_CH_DQS n, 0, 8⟩
/-- Register HRV_CTL, 32 bits (R313). -/
def HRV_CTL : Nat := 0x40580100
def HRV_CTL_ENABLE : Fld := ⟨HRV_CTL, 31, 1⟩
def HRV_CTL_START : Fld := ⟨HRV_CTL, 30, 1⟩
def HRV_CTL_FALLOW_EN : Fld := ⟨HRV_CTL, 29, 1⟩
def HRV_CTL_FALLOW_END : Fld := ⟨HRV_CTL, 28, 1⟩
def HRV_CTL_DEGLITCH_US : Fld := ⟨HRV_CTL, 0, 8⟩
/-- Register HRV_CAP, 32 bits (R313). -/
def HRV_CAP : Nat := 0x40580104
def HRV_CAP_EFF_GIB : Fld := ⟨HRV_CAP, 16, 9⟩
def HRV_CAP_CAP_GIB : Fld := ⟨HRV_CAP, 0, 9⟩
/-- Register HRV_STS, 32 bits (R313). -/
def HRV_STS : Nat := 0x40580108
def HRV_STS_STATE : Fld := ⟨HRV_STS, 28, 4⟩
def HRV_STS_ARMED : Fld := ⟨HRV_STS, 27, 1⟩
def HRV_STS_FALLOW_HELD : Fld := ⟨HRV_STS, 26, 1⟩
def HRV_STS_RESET_LATCHED : Fld := ⟨HRV_STS, 25, 1⟩
def HRV_STS_OVER_CAP : Fld := ⟨HRV_STS, 24, 1⟩
def HRV_STS_FORCED_CLEAN : Fld := ⟨HRV_STS, 23, 1⟩
def HRV_STS_NOARM : Fld := ⟨HRV_STS, 20, 3⟩
/-- Register HRV_BOARD, 32 bits (R313). -/
def HRV_BOARD : Nat := 0x4058010C
def HRV_BOARD_RUN_W : Fld := ⟨HRV_BOARD, 16, 16⟩
def HRV_BOARD_HARV_W : Fld := ⟨HRV_BOARD, 0, 16⟩
/-- Register HRV_STORE, 32 bits (R313). -/
def HRV_STORE : Nat := 0x40580110
def HRV_STORE_EFF_PCT : Fld := ⟨HRV_STORE, 24, 8⟩
def HRV_STORE_STORE_J : Fld := ⟨HRV_STORE, 0, 24⟩
/-- Register HRV_NAND, 32 bits (R313). -/
def HRV_NAND : Nat := 0x40580114
def HRV_NAND_TPROG_SLC_US : Fld := ⟨HRV_NAND, 0, 16⟩
/-- Register HRV_NEED, 32 bits (R313). -/
def HRV_NEED : Nat := 0x40580118
def HRV_NEED_NEED_J : Fld := ⟨HRV_NEED, 0, 32⟩
/-- Register HRV_REPLAY, 32 bits (R313). -/
def HRV_REPLAY : Nat := 0x4058011C
def HRV_REPLAY_PENDING : Fld := ⟨HRV_REPLAY, 0, 13⟩
/-- Register HRV_DIRTY, 64 bits (R313). -/
def HRV_DIRTY : Nat := 0x40580120
def HRV_DIRTY_PEAK : Fld := ⟨HRV_DIRTY, 32, 32⟩
def HRV_DIRTY_PAGES : Fld := ⟨HRV_DIRTY, 0, 32⟩
/-- Register HRV_LIMITS, 64 bits (R313). -/
def HRV_LIMITS : Nat := 0x40580128
def HRV_LIMITS_CAP_RESERVE_GIB : Fld := ⟨HRV_LIMITS, 32, 16⟩
def HRV_LIMITS_CAP_STORE_GIB : Fld := ⟨HRV_LIMITS, 16, 16⟩
def HRV_LIMITS_RATE_F : Fld := ⟨HRV_LIMITS, 0, 16⟩
/-- Register HRV_SEQ, 64 bits (R313). -/
def HRV_SEQ : Nat := 0x40580130
def HRV_SEQ_DSEQ : Fld := ⟨HRV_SEQ, 0, 48⟩
/-- Register HRV_LAST, 64 bits (R313). -/
def HRV_LAST : Nat := 0x40580138
def HRV_LAST_CAUSE : Fld := ⟨HRV_LAST, 60, 4⟩
def HRV_LAST_OUTCOME : Fld := ⟨HRV_LAST, 56, 4⟩
def HRV_LAST_DUR_MS : Fld := ⟨HRV_LAST, 32, 24⟩
def HRV_LAST_PAGES : Fld := ⟨HRV_LAST, 0, 32⟩
/-- Register HRV_RESOW, 64 bits (R313). -/
def HRV_RESOW : Nat := 0x40580140
def HRV_RESOW_PATH : Fld := ⟨HRV_RESOW, 60, 4⟩
def HRV_RESOW_DUR_MS : Fld := ⟨HRV_RESOW, 32, 24⟩
def HRV_RESOW_PAGES : Fld := ⟨HRV_RESOW, 0, 32⟩
/-- Register HRV_LOSS, 64 bits (R313). -/
def HRV_LOSS : Nat := 0x40580148
def HRV_LOSS_PAGES : Fld := ⟨HRV_LOSS, 32, 32⟩
def HRV_LOSS_LINES : Fld := ⟨HRV_LOSS, 0, 32⟩
/-- Register HRV_CNT, 64 bits (R313). -/
def HRV_CNT : Nat := 0x40580150
def HRV_CNT_COMPLETE : Fld := ⟨HRV_CNT, 48, 16⟩
def HRV_CNT_INCOMPLETE : Fld := ⟨HRV_CNT, 32, 16⟩
def HRV_CNT_FALLOW : Fld := ⟨HRV_CNT, 16, 16⟩
def HRV_CNT_FORCED_CLEANS : Fld := ⟨HRV_CNT, 0, 16⟩
/-- Register YOK_CTL, 32 bits (R356). -/
def YOK_CTL : Nat := 0x40590100
def YOK_CTL_ENABLE : Fld := ⟨YOK_CTL, 31, 1⟩
def YOK_CTL_PAIRS : Fld := ⟨YOK_CTL, 30, 1⟩
/-- Register YOK_STS, 32 bits (R356). -/
def YOK_STS : Nat := 0x40590104
def YOK_STS_TWIN : Fld := ⟨YOK_STS, 28, 4⟩
def YOK_STS_RSV_BUSY : Fld := ⟨YOK_STS, 27, 1⟩
def YOK_STS_MARKED : Fld := ⟨YOK_STS, 0, 21⟩
/-- Register YOK_TMR, 32 bits (R356). -/
def YOK_TMR : Nat := 0x40590108
def YOK_TMR_STALL_US : Fld := ⟨YOK_TMR, 16, 16⟩
def YOK_TMR_RTO_MIN_US : Fld := ⟨YOK_TMR, 8, 8⟩
def YOK_TMR_GAP_US : Fld := ⟨YOK_TMR, 0, 8⟩
/-- Register YOK_PATH_TMR, 32 bits (R356). -/
def YOK_PATH_TMR : Nat := 0x4059010C
def YOK_PATH_TMR_HB_US : Fld := ⟨YOK_PATH_TMR, 24, 8⟩
def YOK_PATH_TMR_DOWN_US : Fld := ⟨YOK_PATH_TMR, 8, 16⟩
def YOK_PATH_TMR_REJOIN_S : Fld := ⟨YOK_PATH_TMR, 0, 8⟩
/-- Register YOK_RX, 32 bits (R356). -/
def YOK_RX : Nat := 0x40590110
def YOK_RX_PANIC_PCT : Fld := ⟨YOK_RX, 24, 8⟩
def YOK_RX_SPILL_MAX : Fld := ⟨YOK_RX, 0, 20⟩
/-- Register YOK_HEAL, 32 bits (R356). -/
def YOK_HEAL : Nat := 0x40590114
def YOK_HEAL_OUTSTANDING : Fld := ⟨YOK_HEAL, 16, 7⟩
def YOK_HEAL_TMO_US : Fld := ⟨YOK_HEAL, 0, 16⟩
/-- Register YOK_RSV_CTL, 32 bits (R356). -/
def YOK_RSV_CTL : Nat := 0x40590118
def YOK_RSV_CTL_GO : Fld := ⟨YOK_RSV_CTL, 31, 1⟩
def YOK_RSV_CTL_STOP : Fld := ⟨YOK_RSV_CTL, 30, 1⟩
def YOK_RSV_CTL_BUSY : Fld := ⟨YOK_RSV_CTL, 29, 1⟩
def YOK_RSV_CTL_KEYWAIT : Fld := ⟨YOK_RSV_CTL, 28, 1⟩
def YOK_RSV_CTL_RESYNC : Fld := ⟨YOK_RSV_CTL, 27, 1⟩
def YOK_RSV_CTL_REGION : Fld := ⟨YOK_RSV_CTL, 16, 8⟩
def YOK_RSV_CTL_RATE_PCT : Fld := ⟨YOK_RSV_CTL, 8, 8⟩
/-- Register YOK_RSV_POS, 64 bits (R356). -/
def YOK_RSV_POS : Nat := 0x40590120
def YOK_RSV_POS_PAGE : Fld := ⟨YOK_RSV_POS, 0, 34⟩
/-- Register YOK_CNT, 64 bits (R356). -/
def YOK_CNT : Nat := 0x40590128
def YOK_CNT_RETX : Fld := ⟨YOK_CNT, 32, 32⟩
def YOK_CNT_LOST : Fld := ⟨YOK_CNT, 0, 32⟩
/-- Register YOK_HEAL_CNT, 64 bits (R356). -/
def YOK_HEAL_CNT : Nat := 0x40590130
def YOK_HEAL_CNT_FAILED : Fld := ⟨YOK_HEAL_CNT, 32, 32⟩
def YOK_HEAL_CNT_HEALED : Fld := ⟨YOK_HEAL_CNT, 0, 32⟩
/-- Register YOK_RX_CNT, 64 bits (R356). -/
def YOK_RX_CNT : Nat := 0x40590138
def YOK_RX_CNT_WINDOW_DROP : Fld := ⟨YOK_RX_CNT, 32, 32⟩
def YOK_RX_CNT_SPILLED : Fld := ⟨YOK_RX_CNT, 0, 32⟩
/-- Register YOK_ERR_LAST, 64 bits (R356). -/
def YOK_ERR_LAST : Nat := 0x40590140
def YOK_ERR_LAST_VALID : Fld := ⟨YOK_ERR_LAST, 63, 1⟩
def YOK_ERR_LAST_CODE : Fld := ⟨YOK_ERR_LAST, 56, 7⟩
def YOK_ERR_LAST_REGION : Fld := ⟨YOK_ERR_LAST, 48, 8⟩
def YOK_ERR_LAST_FSN : Fld := ⟨YOK_ERR_LAST, 0, 48⟩
/-- Register YOK_PAIR, 32 bits (R356). -/
def YOK_PAIR (i : Nat) : Nat := 0x40590180 + 0x4*i
def YOK_PAIR_STATE_A (i : Nat) : Fld := ⟨YOK_PAIR i, 30, 2⟩
def YOK_PAIR_STATE_B (i : Nat) : Fld := ⟨YOK_PAIR i, 28, 2⟩
def YOK_PAIR_KEYGEN (i : Nat) : Fld := ⟨YOK_PAIR i, 27, 1⟩
def YOK_PAIR_HANDSHAKE (i : Nat) : Fld := ⟨YOK_PAIR i, 26, 1⟩
/-- Register YOK_PATH_CNT, 64 bits (R356). -/
def YOK_PATH_CNT (i : Nat) : Nat := 0x40590200 + 0x8*i
def YOK_PATH_CNT_DOWN_EVT (i : Nat) : Fld := ⟨YOK_PATH_CNT i, 48, 16⟩
def YOK_PATH_CNT_AUTH_FAIL (i : Nat) : Fld := ⟨YOK_PATH_CNT i, 32, 16⟩
def YOK_PATH_CNT_MISS (i : Nat) : Fld := ⟨YOK_PATH_CNT i, 0, 32⟩
/-- Register YOK_RGN, 64 bits (R356). -/
def YOK_RGN (i : Nat) : Nat := 0x40591000 + 0x10*i
def YOK_RGN_STATE (i : Nat) : Fld := ⟨YOK_RGN i, 61, 3⟩
def YOK_RGN_ROLE (i : Nat) : Fld := ⟨YOK_RGN i, 60, 1⟩
def YOK_RGN_ON_LOSS (i : Nat) : Fld := ⟨YOK_RGN i, 59, 1⟩
def YOK_RGN_EPOCH (i : Nat) : Fld := ⟨YOK_RGN i, 32, 24⟩
def YOK_RGN_LIM_US (i : Nat) : Fld := ⟨YOK_RGN i, 22, 10⟩
def YOK_RGN_LIM_KIB (i : Nat) : Fld := ⟨YOK_RGN i, 5, 17⟩
/-- Register YOK_RGN_LAG, 64 bits (R356). -/
def YOK_RGN_LAG (i : Nat) : Nat := 0x40591008 + 0x10*i
def YOK_RGN_LAG_AGE_US (i : Nat) : Fld := ⟨YOK_RGN_LAG i, 40, 12⟩
def YOK_RGN_LAG_BYTES (i : Nat) : Fld := ⟨YOK_RGN_LAG i, 0, 40⟩
/-- Register NPT_CTL, 32 bits (R390). -/
def NPT_CTL (n : Nat) : Nat := 0x40040100 + 0x10000*n
def NPT_CTL_ENABLE (n : Nat) : Fld := ⟨NPT_CTL n, 31, 1⟩
def NPT_CTL_RETRAIN (n : Nat) : Fld := ⟨NPT_CTL n, 30, 1⟩
def NPT_CTL_MODE (n : Nat) : Fld := ⟨NPT_CTL n, 28, 2⟩
def NPT_CTL_MEDIA (n : Nat) : Fld := ⟨NPT_CTL n, 26, 2⟩
def NPT_CTL_LANE_REV (n : Nat) : Fld := ⟨NPT_CTL n, 25, 1⟩
def NPT_CTL_TX_POL (n : Nat) : Fld := ⟨NPT_CTL n, 20, 4⟩
def NPT_CTL_RX_POL (n : Nat) : Fld := ⟨NPT_CTL n, 16, 4⟩
/-- Register NPT_STS, 32 bits (R390). -/
def NPT_STS (n : Nat) : Nat := 0x40040104 + 0x10000*n
def NPT_STS_STATE (n : Nat) : Fld := ⟨NPT_STS n, 28, 4⟩
def NPT_STS_SUB_UP (n : Nat) : Fld := ⟨NPT_STS n, 24, 4⟩
def NPT_STS_FEC_LOCK (n : Nat) : Fld := ⟨NPT_STS n, 20, 4⟩
/-- Register NPT_LCNT, 32 bits (R390). -/
def NPT_LCNT (n : Nat) : Nat := 0x40040108 + 0x10000*n
def NPT_LCNT_DOWN_EVT (n : Nat) : Fld := ⟨NPT_LCNT n, 16, 16⟩
def NPT_LCNT_TRAIN_FAIL (n : Nat) : Fld := ⟨NPT_LCNT n, 0, 16⟩
/-- Register NPT_FEC_CNT, 64 bits (R390). -/
def NPT_FEC_CNT (n : Nat) : Nat := 0x40040110 + 0x10000*n
def NPT_FEC_CNT_CORRECTED (n : Nat) : Fld := ⟨NPT_FEC_CNT n, 32, 32⟩
def NPT_FEC_CNT_UNCORRECTED (n : Nat) : Fld := ⟨NPT_FEC_CNT n, 0, 32⟩
/-- Register NPT_MAC_CNT, 64 bits (R390). -/
def NPT_MAC_CNT (n : Nat) : Nat := 0x40040118 + 0x10000*n
def NPT_MAC_CNT_RX_GOOD (n : Nat) : Fld := ⟨NPT_MAC_CNT n, 32, 32⟩
def NPT_MAC_CNT_FCS_ERR (n : Nat) : Fld := ⟨NPT_MAC_CNT n, 16, 16⟩
def NPT_MAC_CNT_LEN_ERR (n : Nat) : Fld := ⟨NPT_MAC_CNT n, 0, 16⟩
/-- Register NPT_PFC_CNT, 64 bits (R390). -/
def NPT_PFC_CNT (n : Nat) : Nat := 0x40040120 + 0x10000*n
def NPT_PFC_CNT_SENT (n : Nat) : Fld := ⟨NPT_PFC_CNT n, 32, 32⟩
def NPT_PFC_CNT_RECEIVED (n : Nat) : Fld := ⟨NPT_PFC_CNT n, 0, 32⟩
/-- Register DRL_CTL, 32 bits (R392). -/
def DRL_CTL : Nat := 0x405A0100
def DRL_CTL_ENABLE : Fld := ⟨DRL_CTL, 31, 1⟩
def DRL_CTL_PFC_EN : Fld := ⟨DRL_CTL, 8, 1⟩
def DRL_CTL_PORTS : Fld := ⟨DRL_CTL, 0, 6⟩
/-- Register DRL_STS, 32 bits (R392). -/
def DRL_STS : Nat := 0x405A0104
def DRL_STS_OPEN : Fld := ⟨DRL_STS, 16, 13⟩
def DRL_STS_PANIC : Fld := ⟨DRL_STS, 14, 1⟩
def DRL_STS_PFC : Fld := ⟨DRL_STS, 13, 1⟩
def DRL_STS_FIFO_KIB : Fld := ⟨DRL_STS, 0, 13⟩
/-- Register DRL_TMR, 32 bits (R392). -/
def DRL_TMR : Nat := 0x405A0108
def DRL_TMR_RTO_MIN_US : Fld := ⟨DRL_TMR, 24, 8⟩
def DRL_TMR_GAP_US : Fld := ⟨DRL_TMR, 16, 8⟩
def DRL_TMR_RETRY_MAX : Fld := ⟨DRL_TMR, 8, 8⟩
def DRL_TMR_ACK_MIN : Fld := ⟨DRL_TMR, 0, 8⟩
/-- Register DRL_LIMITS, 32 bits (R392). -/
def DRL_LIMITS : Nat := 0x405A010C
def DRL_LIMITS_IDLE_S : Fld := ⟨DRL_LIMITS, 16, 16⟩
def DRL_LIMITS_BACKOFF_US : Fld := ⟨DRL_LIMITS, 0, 16⟩
/-- Register DRL_RX, 32 bits (R392). -/
def DRL_RX : Nat := 0x405A0110
def DRL_RX_PANIC_PCT : Fld := ⟨DRL_RX, 24, 8⟩
def DRL_RX_PFC_PCT : Fld := ⟨DRL_RX, 16, 8⟩
def DRL_RX_PFC_PRIO : Fld := ⟨DRL_RX, 8, 3⟩
/-- Register DRL_RX_CNT, 64 bits (R392). -/
def DRL_RX_CNT : Nat := 0x405A0118
def DRL_RX_CNT_PACKETS : Fld := ⟨DRL_RX_CNT, 32, 32⟩
def DRL_RX_CNT_AUTH_FAIL : Fld := ⟨DRL_RX_CNT, 16, 16⟩
def DRL_RX_CNT_FIFO_FULL : Fld := ⟨DRL_RX_CNT, 0, 16⟩
/-- Register DRL_DROP_CNT, 64 bits (R392). -/
def DRL_DROP_CNT : Nat := 0x405A0120
def DRL_DROP_CNT_DUP : Fld := ⟨DRL_DROP_CNT, 48, 16⟩
def DRL_DROP_CNT_WINDOW : Fld := ⟨DRL_DROP_CNT, 32, 16⟩
def DRL_DROP_CNT_NOBUF : Fld := ⟨DRL_DROP_CNT, 16, 16⟩
def DRL_DROP_CNT_FINAL_BUSY : Fld := ⟨DRL_DROP_CNT, 0, 16⟩
/-- Register DRL_TX_CNT, 64 bits (R392). -/
def DRL_TX_CNT : Nat := 0x405A0128
def DRL_TX_CNT_RETX : Fld := ⟨DRL_TX_CNT, 32, 32⟩
def DRL_TX_CNT_ERRORS : Fld := ⟨DRL_TX_CNT, 0, 32⟩
/-- Register DRL_ERR_LAST, 64 bits (R392). -/
def DRL_ERR_LAST : Nat := 0x405A0130
def DRL_ERR_LAST_VALID : Fld := ⟨DRL_ERR_LAST, 63, 1⟩
def DRL_ERR_LAST_CODE : Fld := ⟨DRL_ERR_LAST, 56, 7⟩
def DRL_ERR_LAST_CONN : Fld := ⟨DRL_ERR_LAST, 44, 12⟩
def DRL_ERR_LAST_KIND : Fld := ⟨DRL_ERR_LAST, 40, 4⟩
def DRL_ERR_LAST_PSN_LO : Fld := ⟨DRL_ERR_LAST, 0, 40⟩
/-- Register DRL_CONN_CMD, 32 bits (R392). -/
def DRL_CONN_CMD : Nat := 0x405A0880
def DRL_CONN_CMD_GO : Fld := ⟨DRL_CONN_CMD, 31, 1⟩
def DRL_CONN_CMD_OP : Fld := ⟨DRL_CONN_CMD, 24, 4⟩
def DRL_CONN_CMD_CONN : Fld := ⟨DRL_CONN_CMD, 0, 12⟩
/-- Register DRL_CONN_STATUS, 32 bits (R392). -/
def DRL_CONN_STATUS : Nat := 0x405A0884
def DRL_CONN_STATUS_BUSY : Fld := ⟨DRL_CONN_STATUS, 31, 1⟩
def DRL_CONN_STATUS_RESULT : Fld := ⟨DRL_CONN_STATUS, 16, 8⟩
def DRL_CONN_STATUS_CONN : Fld := ⟨DRL_CONN_STATUS, 0, 12⟩
/-- Register DRL_SNAP_STATE, 64 bits (R392). -/
def DRL_SNAP_STATE : Nat := 0x405A0888
def DRL_SNAP_STATE_STATE : Fld := ⟨DRL_SNAP_STATE, 60, 4⟩
def DRL_SNAP_STATE_LAST_CLOSE : Fld := ⟨DRL_SNAP_STATE, 52, 8⟩
def DRL_SNAP_STATE_TX_PSN : Fld := ⟨DRL_SNAP_STATE, 0, 48⟩
/-- Register DRL_SNAP_SEQ, 64 bits (R392). -/
def DRL_SNAP_SEQ : Nat := 0x405A0890
def DRL_SNAP_SEQ_C : Fld := ⟨DRL_SNAP_SEQ, 0, 48⟩
/-- Register DRL_SNAP_CNT, 64 bits (R392). -/
def DRL_SNAP_CNT : Nat := 0x405A0898
def DRL_SNAP_CNT_RETX : Fld := ⟨DRL_SNAP_CNT, 48, 16⟩
def DRL_SNAP_CNT_DUP : Fld := ⟨DRL_SNAP_CNT, 32, 16⟩
def DRL_SNAP_CNT_ERRORS : Fld := ⟨DRL_SNAP_CNT, 16, 16⟩
def DRL_SNAP_CNT_BUFFERS : Fld := ⟨DRL_SNAP_CNT, 0, 16⟩
/-- Register DRL_JQ_CTL, 32 bits (R417). -/
def DRL_JQ_CTL : Nat := 0x405A0900
def DRL_JQ_CTL_ENABLE : Fld := ⟨DRL_JQ_CTL, 31, 1⟩
def DRL_JQ_CTL_WAIT_TMO_MS : Fld := ⟨DRL_JQ_CTL, 0, 16⟩
/-- Register DRL_JQ_STS, 32 bits (R417). -/
def DRL_JQ_STS : Nat := 0x405A0904
def DRL_JQ_STS_READS_WAITING : Fld := ⟨DRL_JQ_STS, 16, 9⟩
def DRL_JQ_STS_SLOTS_USED : Fld := ⟨DRL_JQ_STS, 0, 7⟩
/-- Register DRL_JQ_CMD, 32 bits (R417). -/
def DRL_JQ_CMD : Nat := 0x405A0908
def DRL_JQ_CMD_GO : Fld := ⟨DRL_JQ_CMD, 31, 1⟩
def DRL_JQ_CMD_OP : Fld := ⟨DRL_JQ_CMD, 24, 4⟩
def DRL_JQ_CMD_CONN : Fld := ⟨DRL_JQ_CMD, 10, 12⟩
def DRL_JQ_CMD_QUEUE : Fld := ⟨DRL_JQ_CMD, 0, 10⟩
/-- Register DRL_JQ_CMD_STS, 32 bits (R417). -/
def DRL_JQ_CMD_STS : Nat := 0x405A090C
def DRL_JQ_CMD_STS_BUSY : Fld := ⟨DRL_JQ_CMD_STS, 31, 1⟩
def DRL_JQ_CMD_STS_RESULT : Fld := ⟨DRL_JQ_CMD_STS, 16, 8⟩
def DRL_JQ_CMD_STS_QUEUE : Fld := ⟨DRL_JQ_CMD_STS, 0, 10⟩
/-- Register DRL_JQ_CNT, 64 bits (R417). -/
def DRL_JQ_CNT : Nat := 0x405A0910
def DRL_JQ_CNT_JOBS : Fld := ⟨DRL_JQ_CNT, 32, 32⟩
def DRL_JQ_CNT_FAILED : Fld := ⟨DRL_JQ_CNT, 16, 16⟩
def DRL_JQ_CNT_NOBUF_WAIT : Fld := ⟨DRL_JQ_CNT, 0, 16⟩
/-- Register DRL_JQ_LAST, 64 bits (R417). -/
def DRL_JQ_LAST : Nat := 0x405A0918
def DRL_JQ_LAST_VALID : Fld := ⟨DRL_JQ_LAST, 63, 1⟩
def DRL_JQ_LAST_CAUSE : Fld := ⟨DRL_JQ_LAST, 59, 4⟩
def DRL_JQ_LAST_CONN : Fld := ⟨DRL_JQ_LAST, 44, 12⟩
def DRL_JQ_LAST_QUEUE : Fld := ⟨DRL_JQ_LAST, 34, 10⟩
def DRL_JQ_LAST_PSN_LO : Fld := ⟨DRL_JQ_LAST, 0, 34⟩
/-- Register DRL_JQ_STATE, 64 bits (R417). -/
def DRL_JQ_STATE (i : Nat) : Nat := 0x405A2000 + 0x20*i
def DRL_JQ_STATE_STATE (i : Nat) : Fld := ⟨DRL_JQ_STATE i, 61, 3⟩
def DRL_JQ_STATE_CONN (i : Nat) : Fld := ⟨DRL_JQ_STATE i, 46, 12⟩
def DRL_JQ_STATE_USED (i : Nat) : Fld := ⟨DRL_JQ_STATE i, 37, 9⟩
/-- Register DRL_JQ_COUNT, 64 bits (R417). -/
def DRL_JQ_COUNT (i : Nat) : Nat := 0x405A2008 + 0x20*i
def DRL_JQ_COUNT_COUNT (i : Nat) : Fld := ⟨DRL_JQ_COUNT i, 0, 64⟩
/-- Register DRL_JQ_FAIL, 64 bits (R417). -/
def DRL_JQ_FAIL (i : Nat) : Nat := 0x405A2010 + 0x20*i
def DRL_JQ_FAIL_STATUS (i : Nat) : Fld := ⟨DRL_JQ_FAIL i, 56, 8⟩
def DRL_JQ_FAIL_OPCODE (i : Nat) : Fld := ⟨DRL_JQ_FAIL i, 48, 8⟩
/-- Register DRL_JQ_TAG, 64 bits (R417). -/
def DRL_JQ_TAG (i : Nat) : Nat := 0x405A2018 + 0x20*i
def DRL_JQ_TAG_TAG (i : Nat) : Fld := ⟨DRL_JQ_TAG i, 0, 64⟩
/-- Register GRN_CTL, 32 bits (R418). -/
def GRN_CTL : Nat := 0x405B0100
def GRN_CTL_ENABLE : Fld := ⟨GRN_CTL, 0, 1⟩
/-- Register GRN_CFG, 32 bits (R418). -/
def GRN_CFG : Nat := 0x405B0104
def GRN_CFG_YOKE_OWNER : Fld := ⟨GRN_CFG, 24, 6⟩
def GRN_CFG_COUNT_KI : Fld := ⟨GRN_CFG, 0, 11⟩
/-- Register GRN_STS, 32 bits (R418). -/
def GRN_STS : Nat := 0x405B0108
def GRN_STS_READY : Fld := ⟨GRN_STS, 31, 1⟩
def GRN_STS_MINIMA : Fld := ⟨GRN_STS, 30, 1⟩
def GRN_STS_FREE : Fld := ⟨GRN_STS, 0, 21⟩
/-- Register GRN_UNMET, 32 bits (R418). -/
def GRN_UNMET : Nat := 0x405B010C
def GRN_UNMET_UNMET : Fld := ⟨GRN_UNMET, 0, 21⟩
/-- Register GRN_CNT, 64 bits (R418). -/
def GRN_CNT : Nat := 0x405B0110
def GRN_CNT_ALLOC_FAIL : Fld := ⟨GRN_CNT, 32, 32⟩
def GRN_CNT_WITHDRAWN : Fld := ⟨GRN_CNT, 16, 16⟩
def GRN_CNT_REF_ERR : Fld := ⟨GRN_CNT, 0, 16⟩
/-- Register GRN_ERR_LAST, 64 bits (R418). -/
def GRN_ERR_LAST : Nat := 0x405B0118
def GRN_ERR_LAST_VALID : Fld := ⟨GRN_ERR_LAST, 63, 1⟩
def GRN_ERR_LAST_KIND : Fld := ⟨GRN_ERR_LAST, 60, 3⟩
def GRN_ERR_LAST_OWNER : Fld := ⟨GRN_ERR_LAST, 26, 6⟩
def GRN_ERR_LAST_BUFFER : Fld := ⟨GRN_ERR_LAST, 0, 20⟩
/-- Register GRN_GMAP, 32 bits (R418). -/
def GRN_GMAP (i : Nat) : Nat := 0x405B0200 + 0x4*i
def GRN_GMAP_OWNER (i : Nat) : Fld := ⟨GRN_GMAP i, 0, 6⟩
/-- Register GRN_OWN, 64 bits (R418). -/
def GRN_OWN (i : Nat) : Nat := 0x405B0400 + 0x8*i
def GRN_OWN_HELD (i : Nat) : Fld := ⟨GRN_OWN i, 32, 21⟩
def GRN_OWN_MIN (i : Nat) : Fld := ⟨GRN_OWN i, 0, 21⟩
/-- Register CPH_CTL, 32 bits (R441). -/
def CPH_CTL : Nat := 0x405C0100
def CPH_CTL_SELFTEST : Fld := ⟨CPH_CTL, 31, 1⟩
def CPH_CTL_FORCE : Fld := ⟨CPH_CTL, 30, 1⟩
def CPH_CTL_CB_ZERO : Fld := ⟨CPH_CTL, 0, 1⟩
/-- Register CPH_STS, 32 bits (R441). -/
def CPH_STS : Nat := 0x405C0104
def CPH_STS_STATE : Fld := ⟨CPH_STS, 28, 4⟩
def CPH_STS_ALARM_ACTIVE : Fld := ⟨CPH_STS, 27, 1⟩
def CPH_STS_SELFTEST_BUSY : Fld := ⟨CPH_STS, 26, 1⟩
def CPH_STS_FW_UP : Fld := ⟨CPH_STS, 16, 1⟩
def CPH_STS_XTS_UP : Fld := ⟨CPH_STS, 8, 8⟩
def CPH_STS_GCM_UP : Fld := ⟨CPH_STS, 0, 8⟩
/-- Register CPH_ALARM_EN, 32 bits (R441). -/
def CPH_ALARM_EN : Nat := 0x405C0108
def CPH_ALARM_EN_LOCK : Fld := ⟨CPH_ALARM_EN, 31, 1⟩
def CPH_ALARM_EN_TEMP_EN : Fld := ⟨CPH_ALARM_EN, 3, 1⟩
def CPH_ALARM_EN_VOLT_EN : Fld := ⟨CPH_ALARM_EN, 2, 1⟩
def CPH_ALARM_EN_PIN_EN : Fld := ⟨CPH_ALARM_EN, 1, 1⟩
/-- Register CPH_ALARM_STS, 32 bits (R441). -/
def CPH_ALARM_STS : Nat := 0x405C010C
def CPH_ALARM_STS_SOURCE : Fld := ⟨CPH_ALARM_STS, 0, 7⟩
/-- Register CPH_SLOT_CMD, 32 bits (R441). -/
def CPH_SLOT_CMD : Nat := 0x405C0114
def CPH_SLOT_CMD_GO : Fld := ⟨CPH_SLOT_CMD, 31, 1⟩
def CPH_SLOT_CMD_OP : Fld := ⟨CPH_SLOT_CMD, 28, 3⟩
def CPH_SLOT_CMD_CLASS : Fld := ⟨CPH_SLOT_CMD, 26, 2⟩
def CPH_SLOT_CMD_INDEX : Fld := ⟨CPH_SLOT_CMD, 0, 12⟩
/-- Register CPH_SLOT_STS, 64 bits (R441). -/
def CPH_SLOT_STS : Nat := 0x405C0118
def CPH_SLOT_STS_BUSY : Fld := ⟨CPH_SLOT_STS, 63, 1⟩
def CPH_SLOT_STS_RESULT : Fld := ⟨CPH_SLOT_STS, 56, 4⟩
def CPH_SLOT_STS_KCV : Fld := ⟨CPH_SLOT_STS, 0, 32⟩
/-- Register CPH_CNT, 64 bits (R441). -/
def CPH_CNT : Nat := 0x405C0120
def CPH_CNT_ALARMS : Fld := ⟨CPH_CNT, 48, 16⟩
def CPH_CNT_KEY_LOST : Fld := ⟨CPH_CNT, 32, 16⟩
def CPH_CNT_LOADS : Fld := ⟨CPH_CNT, 0, 32⟩
/-- Register CPH_ERR_LAST, 64 bits (R441). -/
def CPH_ERR_LAST : Nat := 0x405C0128
def CPH_ERR_LAST_VALID : Fld := ⟨CPH_ERR_LAST, 63, 1⟩
def CPH_ERR_LAST_KIND : Fld := ⟨CPH_ERR_LAST, 60, 3⟩
def CPH_ERR_LAST_SOURCE : Fld := ⟨CPH_ERR_LAST, 56, 4⟩
def CPH_ERR_LAST_INDEX : Fld := ⟨CPH_ERR_LAST, 44, 12⟩
def CPH_ERR_LAST_CLASS : Fld := ⟨CPH_ERR_LAST, 42, 2⟩
/-- Register CPH_KLD, 32 bits (R441). -/
def CPH_KLD (i : Nat) : Nat := 0x405C0140 + 0x4*i
def CPH_KLD_KEY (i : Nat) : Fld := ⟨CPH_KLD i, 0, 32⟩
/-- Register CPH_FJ_CTL, 32 bits (R441). -/
def CPH_FJ_CTL : Nat := 0x405C0180
def CPH_FJ_CTL_GO : Fld := ⟨CPH_FJ_CTL, 31, 1⟩
def CPH_FJ_CTL_BUSY : Fld := ⟨CPH_FJ_CTL, 30, 1⟩
def CPH_FJ_CTL_RESULT : Fld := ⟨CPH_FJ_CTL, 26, 4⟩
def CPH_FJ_CTL_MODE : Fld := ⟨CPH_FJ_CTL, 24, 2⟩
def CPH_FJ_CTL_DECRYPT : Fld := ⟨CPH_FJ_CTL, 23, 1⟩
def CPH_FJ_CTL_SLOT : Fld := ⟨CPH_FJ_CTL, 0, 4⟩
/-- Register CPH_FJ_LEN, 32 bits (R441). -/
def CPH_FJ_LEN : Nat := 0x405C0184
def CPH_FJ_LEN_AAD_LEN : Fld := ⟨CPH_FJ_LEN, 24, 8⟩
def CPH_FJ_LEN_LEN : Fld := ⟨CPH_FJ_LEN, 0, 24⟩
/-- Register CPH_FJ_SRC, 64 bits (R441). -/
def CPH_FJ_SRC : Nat := 0x405C0188
def CPH_FJ_SRC_OFFSET : Fld := ⟨CPH_FJ_SRC, 0, 40⟩
/-- Register CPH_FJ_DST, 64 bits (R441). -/
def CPH_FJ_DST : Nat := 0x405C0190
def CPH_FJ_DST_OFFSET : Fld := ⟨CPH_FJ_DST, 0, 40⟩
/-- Register CPH_FJ_IV_LO, 64 bits (R441). -/
def CPH_FJ_IV_LO : Nat := 0x405C0198
def CPH_FJ_IV_LO_IV : Fld := ⟨CPH_FJ_IV_LO, 0, 64⟩
/-- Register CPH_FJ_IV_HI, 64 bits (R441). -/
def CPH_FJ_IV_HI : Nat := 0x405C01A0
def CPH_FJ_IV_HI_IV : Fld := ⟨CPH_FJ_IV_HI, 0, 64⟩
/-- Register CPH_FJ_TAG_LO, 64 bits (R441). -/
def CPH_FJ_TAG_LO : Nat := 0x405C01A8
def CPH_FJ_TAG_LO_TAG : Fld := ⟨CPH_FJ_TAG_LO, 0, 64⟩
/-- Register CPH_FJ_TAG_HI, 64 bits (R441). -/
def CPH_FJ_TAG_HI : Nat := 0x405C01B0
def CPH_FJ_TAG_HI_TAG : Fld := ⟨CPH_FJ_TAG_HI, 0, 64⟩
/-- Register CPH_RSLOT, 64 bits (R441). -/
def CPH_RSLOT (i : Nat) : Nat := 0x405C0800 + 0x8*i
def CPH_RSLOT_LOADED (i : Nat) : Fld := ⟨CPH_RSLOT i, 63, 1⟩
def CPH_RSLOT_KCV_SET (i : Nat) : Fld := ⟨CPH_RSLOT i, 62, 1⟩
def CPH_RSLOT_SECURE (i : Nat) : Fld := ⟨CPH_RSLOT i, 61, 1⟩
def CPH_RSLOT_NAMED (i : Nat) : Fld := ⟨CPH_RSLOT i, 47, 9⟩
def CPH_RSLOT_KCV (i : Nat) : Fld := ⟨CPH_RSLOT i, 0, 32⟩
/-- Register CPH_CLOAD, 32 bits (R441). -/
def CPH_CLOAD (i : Nat) : Nat := 0x405C1000 + 0x4*i
def CPH_CLOAD_BITS (i : Nat) : Fld := ⟨CPH_CLOAD i, 0, 32⟩
/-- Register CPH_CUSED, 32 bits (R441). -/
def CPH_CUSED (i : Nat) : Nat := 0x405C1200 + 0x4*i
def CPH_CUSED_BITS (i : Nat) : Fld := ⟨CPH_CUSED i, 0, 32⟩
/-- Register CPH_CSEC, 32 bits (R441). -/
def CPH_CSEC (i : Nat) : Nat := 0x405C1400 + 0x4*i
def CPH_CSEC_BITS (i : Nat) : Fld := ⟨CPH_CSEC i, 0, 32⟩
/-- Register CPH_PFSLOT, 32 bits (R441). -/
def CPH_PFSLOT : Nat := 0x405C1600
def CPH_PFSLOT_FW_LOADED : Fld := ⟨CPH_PFSLOT, 8, 16⟩
def CPH_PFSLOT_PATH_LOADED : Fld := ⟨CPH_PFSLOT, 0, 8⟩
/-- Register HDL_CORE_CTL, 32 bits (R464). -/
def HDL_CORE_CTL (i : Nat) : Nat := 0x405D0100 + 0x4*i
def HDL_CORE_CTL_FENCE (i : Nat) : Fld := ⟨HDL_CORE_CTL i, 31, 1⟩
def HDL_CORE_CTL_UNFENCE (i : Nat) : Fld := ⟨HDL_CORE_CTL i, 30, 1⟩
def HDL_CORE_CTL_SLEEP_EN (i : Nat) : Fld := ⟨HDL_CORE_CTL i, 0, 1⟩
/-- Register HDL_CORE_STS, 32 bits (R464). -/
def HDL_CORE_STS (i : Nat) : Nat := 0x405D0110 + 0x4*i
def HDL_CORE_STS_STATE (i : Nat) : Fld := ⟨HDL_CORE_STS i, 28, 4⟩
def HDL_CORE_STS_SECURE (i : Nat) : Fld := ⟨HDL_CORE_STS i, 27, 1⟩
def HDL_CORE_STS_CAUSE (i : Nat) : Fld := ⟨HDL_CORE_STS i, 24, 3⟩
def HDL_CORE_STS_WAKES (i : Nat) : Fld := ⟨HDL_CORE_STS i, 0, 16⟩
/-- Register HDL_IRQ_ROUTE, 32 bits (R464). -/
def HDL_IRQ_ROUTE (i : Nat) : Nat := 0x405D0200 + 0x4*i
def HDL_IRQ_ROUTE_ENABLE (i : Nat) : Fld := ⟨HDL_IRQ_ROUTE i, 31, 1⟩
def HDL_IRQ_ROUTE_PENDING (i : Nat) : Fld := ⟨HDL_IRQ_ROUTE i, 30, 1⟩
def HDL_IRQ_ROUTE_CORE (i : Nat) : Fld := ⟨HDL_IRQ_ROUTE i, 0, 2⟩
/-- Register MBX_SEND, 32 bits (R465). -/
def MBX_SEND : Nat := 0x405E0100
def MBX_SEND_GO : Fld := ⟨MBX_SEND, 31, 1⟩
def MBX_SEND_DIR : Fld := ⟨MBX_SEND, 30, 1⟩
def MBX_SEND_CHANNEL : Fld := ⟨MBX_SEND, 0, 6⟩
/-- Register MBX_OP_STS, 32 bits (R465). -/
def MBX_OP_STS : Nat := 0x405E0104
def MBX_OP_STS_OP : Fld := ⟨MBX_OP_STS, 28, 4⟩
def MBX_OP_STS_RESULT : Fld := ⟨MBX_OP_STS, 24, 4⟩
def MBX_OP_STS_CHANNEL : Fld := ⟨MBX_OP_STS, 0, 6⟩
/-- Register MBX_DEST, 32 bits (R465). -/
def MBX_DEST : Nat := 0x405E0108
def MBX_DEST_DKIND : Fld := ⟨MBX_DEST, 29, 3⟩
def MBX_DEST_DEST : Fld := ⟨MBX_DEST, 0, 12⟩
/-- Register MBX_APER_SEL, 32 bits (R465). -/
def MBX_APER_SEL : Nat := 0x405E010C
def MBX_APER_SEL_DIR : Fld := ⟨MBX_APER_SEL, 31, 1⟩
def MBX_APER_SEL_CHANNEL : Fld := ⟨MBX_APER_SEL, 0, 6⟩
/-- Register MBX_ACK, 64 bits (R465). -/
def MBX_ACK : Nat := 0x405E0110
def MBX_ACK_GO : Fld := ⟨MBX_ACK, 63, 1⟩
def MBX_ACK_DIR : Fld := ⟨MBX_ACK, 62, 1⟩
def MBX_ACK_CHANNEL : Fld := ⟨MBX_ACK, 32, 6⟩
def MBX_ACK_SEQ : Fld := ⟨MBX_ACK, 0, 32⟩
/-- Register MBX_STG, 64 bits (R465). -/
def MBX_STG (i : Nat) : Nat := 0x405E0140 + 0x8*i
def MBX_STG_BYTES (i : Nat) : Fld := ⟨MBX_STG i, 0, 64⟩
/-- Register MBX_CNT, 64 bits (R465). -/
def MBX_CNT : Nat := 0x405E0180
def MBX_CNT_SENT : Fld := ⟨MBX_CNT, 32, 32⟩
def MBX_CNT_COLLIDED : Fld := ⟨MBX_CNT, 16, 16⟩
def MBX_CNT_DISCARD : Fld := ⟨MBX_CNT, 0, 16⟩
/-- Register MBX_SEM, 32 bits (R465). -/
def MBX_SEM (i : Nat) : Nat := 0x405E0800 + 0x4*i
def MBX_SEM_ACQUIRED (i : Nat) : Fld := ⟨MBX_SEM i, 31, 1⟩
def MBX_SEM_HELD_F (i : Nat) : Fld := ⟨MBX_SEM i, 30, 1⟩
def MBX_SEM_OWNER (i : Nat) : Fld := ⟨MBX_SEM i, 0, 3⟩
/-- Register MBX_SEM_FORCE, 32 bits (R465). -/
def MBX_SEM_FORCE : Nat := 0x405E0880
def MBX_SEM_FORCE_GO : Fld := ⟨MBX_SEM_FORCE, 31, 1⟩
def MBX_SEM_FORCE_SEM : Fld := ⟨MBX_SEM_FORCE, 0, 5⟩
/-- Register MBX_SEM_HELD, 32 bits (R465). -/
def MBX_SEM_HELD : Nat := 0x405E0884
def MBX_SEM_HELD_HELD : Fld := ⟨MBX_SEM_HELD, 0, 32⟩
/-- Register MBX_CH_CTL, 32 bits (R465). -/
def MBX_CH_CTL (i : Nat) : Nat := 0x405E4000 + 0x100*i
def MBX_CH_CTL_IRQ_EN (i : Nat) : Fld := ⟨MBX_CH_CTL i, 31, 1⟩
def MBX_CH_CTL_CORE (i : Nat) : Fld := ⟨MBX_CH_CTL i, 0, 2⟩
/-- Register MBX_CH_STS, 32 bits (R465). -/
def MBX_CH_STS (i : Nat) : Nat := 0x405E4004 + 0x100*i
def MBX_CH_STS_IN_FULL (i : Nat) : Fld := ⟨MBX_CH_STS i, 31, 1⟩
def MBX_CH_STS_OUT_FULL (i : Nat) : Fld := ⟨MBX_CH_STS i, 30, 1⟩
def MBX_CH_STS_IN_COLL (i : Nat) : Fld := ⟨MBX_CH_STS i, 29, 1⟩
def MBX_CH_STS_OUT_COLL (i : Nat) : Fld := ⟨MBX_CH_STS i, 28, 1⟩
def MBX_CH_STS_COLL_CNT (i : Nat) : Fld := ⟨MBX_CH_STS i, 0, 16⟩
/-- Register MBX_IN_HDR, 64 bits (R465). -/
def MBX_IN_HDR (i : Nat) : Nat := 0x405E4008 + 0x100*i
def MBX_IN_HDR_HEADER (i : Nat) : Fld := ⟨MBX_IN_HDR i, 0, 64⟩
/-- Register MBX_OUT_HDR, 64 bits (R465). -/
def MBX_OUT_HDR (i : Nat) : Nat := 0x405E4010 + 0x100*i
def MBX_OUT_HDR_HEADER (i : Nat) : Fld := ⟨MBX_OUT_HDR i, 0, 64⟩
/-- Register EFL_CMD, 32 bits (R547). -/
def EFL_CMD : Nat := 0x405F0100
def EFL_CMD_GO : Fld := ⟨EFL_CMD, 31, 1⟩
def EFL_CMD_FUNC : Fld := ⟨EFL_CMD, 24, 4⟩
/-- Register EFL_ADDR, 32 bits (R547). -/
def EFL_ADDR : Nat := 0x405F0104
def EFL_ADDR_BANK : Fld := ⟨EFL_ADDR, 31, 1⟩
def EFL_ADDR_WORD : Fld := ⟨EFL_ADDR, 0, 19⟩
/-- Register EFL_STS, 32 bits (R547). -/
def EFL_STS : Nat := 0x405F0108
def EFL_STS_STATE : Fld := ⟨EFL_STS, 28, 4⟩
def EFL_STS_RESULT : Fld := ⟨EFL_STS, 24, 4⟩
def EFL_STS_FUNC : Fld := ⟨EFL_STS, 20, 4⟩
def EFL_STS_ERASE_BANK : Fld := ⟨EFL_STS, 19, 1⟩
def EFL_STS_ERASE_SECTOR : Fld := ⟨EFL_STS, 11, 8⟩
/-- Register EFL_BOOT, 32 bits (R547). -/
def EFL_BOOT : Nat := 0x405F010C
def EFL_BOOT_RECOVERY : Fld := ⟨EFL_BOOT, 31, 1⟩
def EFL_BOOT_BANK_RUN : Fld := ⟨EFL_BOOT, 30, 1⟩
def EFL_BOOT_VERIFIED_B : Fld := ⟨EFL_BOOT, 29, 1⟩
def EFL_BOOT_VERIFIED_A : Fld := ⟨EFL_BOOT, 28, 1⟩
def EFL_BOOT_FAILS_B : Fld := ⟨EFL_BOOT, 26, 2⟩
def EFL_BOOT_FAILS_A : Fld := ⟨EFL_BOOT, 24, 2⟩
def EFL_BOOT_FLOOR : Fld := ⟨EFL_BOOT, 16, 8⟩
/-- Register EFL_ERASE_STS, 64 bits (R547). -/
def EFL_ERASE_STS : Nat := 0x405F0110
def EFL_ERASE_STS_STARVED : Fld := ⟨EFL_ERASE_STS, 63, 1⟩
def EFL_ERASE_STS_PULSES : Fld := ⟨EFL_ERASE_STS, 40, 8⟩
def EFL_ERASE_STS_SUSPENDS : Fld := ⟨EFL_ERASE_STS, 24, 16⟩
def EFL_ERASE_STS_ELAPSED_MS : Fld := ⟨EFL_ERASE_STS, 0, 24⟩
/-- Register EFL_CNT, 64 bits (R547). -/
def EFL_CNT : Nat := 0x405F0118
def EFL_CNT_PROGRAMS : Fld := ⟨EFL_CNT, 32, 32⟩
def EFL_CNT_ERASES : Fld := ⟨EFL_CNT, 16, 16⟩
def EFL_CNT_ABORTS : Fld := ⟨EFL_CNT, 0, 16⟩
/-- Register EFL_WDT_CTL, 32 bits (R547). -/
def EFL_WDT_CTL : Nat := 0x405F0120
def EFL_WDT_CTL_ENABLE : Fld := ⟨EFL_WDT_CTL, 31, 1⟩
def EFL_WDT_CTL_KICK : Fld := ⟨EFL_WDT_CTL, 30, 1⟩
def EFL_WDT_CTL_LOCK : Fld := ⟨EFL_WDT_CTL, 29, 1⟩
def EFL_WDT_CTL_PERIOD_MS : Fld := ⟨EFL_WDT_CTL, 0, 16⟩
/-- Register EFL_WDT_STS, 32 bits (R547). -/
def EFL_WDT_STS : Nat := 0x405F0124
def EFL_WDT_STS_ESCALATED : Fld := ⟨EFL_WDT_STS, 31, 1⟩
def EFL_WDT_STS_WINDOW : Fld := ⟨EFL_WDT_STS, 30, 1⟩
def EFL_WDT_STS_ABSENT_S : Fld := ⟨EFL_WDT_STS, 16, 8⟩
def EFL_WDT_STS_EXPIRIES : Fld := ⟨EFL_WDT_STS, 0, 16⟩
/-- Register EFL_WDATA, 64 bits (R547). -/
def EFL_WDATA (i : Nat) : Nat := 0x405F0140 + 0x8*i
def EFL_WDATA_DATA (i : Nat) : Fld := ⟨EFL_WDATA i, 0, 64⟩
/-- Register EFL_INCMP, 32 bits (R547). -/
def EFL_INCMP (i : Nat) : Nat := 0x405F0180 + 0x4*i
def EFL_INCMP_SECTOR (i : Nat) : Fld := ⟨EFL_INCMP i, 0, 32⟩
/-- Register EFL_OTP, 64 bits (R547). -/
def EFL_OTP (i : Nat) : Nat := 0x405F0200 + 0x8*i
def EFL_OTP_VALUE (i : Nat) : Fld := ⟨EFL_OTP i, 0, 64⟩
/-- Register PWR_CTL, 32 bits (R573). -/
def PWR_CTL : Nat := 0x40600100
def PWR_CTL_ON : Fld := ⟨PWR_CTL, 31, 1⟩
def PWR_CTL_OFF : Fld := ⟨PWR_CTL, 30, 1⟩
/-- Register PWR_STS, 32 bits (R573). -/
def PWR_STS : Nat := 0x40600104
def PWR_STS_STATE : Fld := ⟨PWR_STS, 28, 4⟩
def PWR_STS_FAULT : Fld := ⟨PWR_STS, 27, 1⟩
def PWR_STS_FLT_DRIVEN : Fld := ⟨PWR_STS, 26, 1⟩
def PWR_STS_FLT_IN : Fld := ⟨PWR_STS, 25, 1⟩
def PWR_STS_PLOSS : Fld := ⟨PWR_STS, 24, 1⟩
def PWR_STS_TABLE_ERR : Fld := ⟨PWR_STS, 20, 4⟩
/-- Register PWR_CFG, 32 bits (R573). -/
def PWR_CFG : Nat := 0x40600108
def PWR_CFG_AUTO_ON : Fld := ⟨PWR_CFG, 31, 1⟩
def PWR_CFG_FLT_IN_EN : Fld := ⟨PWR_CFG, 30, 1⟩
def PWR_CFG_PMB_1MHZ : Fld := ⟨PWR_CFG, 29, 1⟩
def PWR_CFG_PMB_PEC : Fld := ⟨PWR_CFG, 28, 1⟩
/-- Register PWR_MEAS, 32 bits (R573). -/
def PWR_MEAS : Nat := 0x4060010C
def PWR_MEAS_SLOTS : Fld := ⟨PWR_MEAS, 0, 24⟩
/-- Register PWR_VLOOP, 32 bits (R573). -/
def PWR_VLOOP : Nat := 0x40600110
def PWR_VLOOP_ENABLE : Fld := ⟨PWR_VLOOP, 31, 1⟩
def PWR_VLOOP_TARGET_MRPS : Fld := ⟨PWR_VLOOP, 18, 9⟩
def PWR_VLOOP_VMAX_MV : Fld := ⟨PWR_VLOOP, 9, 9⟩
def PWR_VLOOP_VMIN_MV : Fld := ⟨PWR_VLOOP, 0, 9⟩
/-- Register PWR_VLOOP_STS, 32 bits (R573). -/
def PWR_VLOOP_STS : Nat := 0x40600114
def PWR_VLOOP_STS_OVER_CAP : Fld := ⟨PWR_VLOOP_STS, 31, 1⟩
def PWR_VLOOP_STS_HELD : Fld := ⟨PWR_VLOOP_STS, 30, 1⟩
def PWR_VLOOP_STS_VDD_MV : Fld := ⟨PWR_VLOOP_STS, 20, 10⟩
def PWR_VLOOP_STS_FLOOR_W : Fld := ⟨PWR_VLOOP_STS, 10, 10⟩
def PWR_VLOOP_STS_POWER_W : Fld := ⟨PWR_VLOOP_STS, 0, 10⟩
/-- Register PWR_CAP, 32 bits (R573). -/
def PWR_CAP : Nat := 0x40600118
def PWR_CAP_CAP_W : Fld := ⟨PWR_CAP, 0, 10⟩
/-- Register PWR_PMB_CMD, 32 bits (R573). -/
def PWR_PMB_CMD : Nat := 0x4060011C
def PWR_PMB_CMD_GO : Fld := ⟨PWR_PMB_CMD, 31, 1⟩
def PWR_PMB_CMD_BUSY : Fld := ⟨PWR_PMB_CMD, 30, 1⟩
def PWR_PMB_CMD_RESULT : Fld := ⟨PWR_PMB_CMD, 27, 3⟩
def PWR_PMB_CMD_KIND : Fld := ⟨PWR_PMB_CMD, 24, 3⟩
def PWR_PMB_CMD_LEN : Fld := ⟨PWR_PMB_CMD, 16, 6⟩
def PWR_PMB_CMD_ADDR : Fld := ⟨PWR_PMB_CMD, 8, 7⟩
def PWR_PMB_CMD_CODE : Fld := ⟨PWR_PMB_CMD, 0, 8⟩
/-- Register PWR_PMB_DATA, 64 bits (R573). -/
def PWR_PMB_DATA (i : Nat) : Nat := 0x40600120 + 0x8*i
def PWR_PMB_DATA_BYTES (i : Nat) : Fld := ⟨PWR_PMB_DATA i, 0, 64⟩
/-- Register PWR_PD_ON, 64 bits (R573). -/
def PWR_PD_ON : Nat := 0x40600140
def PWR_PD_ON_DOMAIN : Fld := ⟨PWR_PD_ON, 0, 36⟩
/-- Register PWR_PD_OFF, 64 bits (R573). -/
def PWR_PD_OFF : Nat := 0x40600148
def PWR_PD_OFF_DOMAIN : Fld := ⟨PWR_PD_OFF, 0, 36⟩
/-- Register PWR_EVT_LAST, 64 bits (R573). -/
def PWR_EVT_LAST : Nat := 0x40600158
def PWR_EVT_LAST_VALID : Fld := ⟨PWR_EVT_LAST, 63, 1⟩
def PWR_EVT_LAST_CAUSE : Fld := ⟨PWR_EVT_LAST, 59, 4⟩
def PWR_EVT_LAST_SLOT : Fld := ⟨PWR_EVT_LAST, 54, 5⟩
def PWR_EVT_LAST_STATE : Fld := ⟨PWR_EVT_LAST, 51, 3⟩
/-- Register PWR_RAIL, 64 bits (R573). -/
def PWR_RAIL (i : Nat) : Nat := 0x40600200 + 0x8*i
def PWR_RAIL_USED (i : Nat) : Fld := ⟨PWR_RAIL i, 63, 1⟩
def PWR_RAIL_CORE (i : Nat) : Fld := ⟨PWR_RAIL i, 62, 1⟩
def PWR_RAIL_HARVEST (i : Nat) : Fld := ⟨PWR_RAIL i, 61, 1⟩
def PWR_RAIL_FALLOW (i : Nat) : Fld := ⟨PWR_RAIL i, 60, 1⟩
def PWR_RAIL_DEPS (i : Nat) : Fld := ⟨PWR_RAIL i, 36, 24⟩
def PWR_RAIL_STABLE_10US (i : Nat) : Fld := ⟨PWR_RAIL i, 26, 10⟩
def PWR_RAIL_CHATTER_LIM (i : Nat) : Fld := ⟨PWR_RAIL i, 22, 4⟩
def PWR_RAIL_ON_TMO_MS (i : Nat) : Fld := ⟨PWR_RAIL i, 14, 8⟩
def PWR_RAIL_OFF_TMO_MS (i : Nat) : Fld := ⟨PWR_RAIL i, 6, 8⟩
def PWR_RAIL_OFF_DLY_100US (i : Nat) : Fld := ⟨PWR_RAIL i, 0, 6⟩
/-- Register PWR_RSTS, 32 bits (R573). -/
def PWR_RSTS (i : Nat) : Nat := 0x40600300 + 0x4*i
def PWR_RSTS_STATE (i : Nat) : Fld := ⟨PWR_RSTS i, 28, 4⟩
def PWR_RSTS_EN (i : Nat) : Fld := ⟨PWR_RSTS i, 27, 1⟩
def PWR_RSTS_PG (i : Nat) : Fld := ⟨PWR_RSTS i, 26, 1⟩
def PWR_RSTS_STEP_CHAT (i : Nat) : Fld := ⟨PWR_RSTS i, 8, 4⟩
/-- Register PWR_RADDR, 32 bits (R573). -/
def PWR_RADDR (i : Nat) : Nat := 0x40600380 + 0x4*i
def PWR_RADDR_PRESENT (i : Nat) : Fld := ⟨PWR_RADDR i, 31, 1⟩
def PWR_RADDR_PAGE (i : Nat) : Fld := ⟨PWR_RADDR i, 8, 8⟩
def PWR_RADDR_ADDR (i : Nat) : Fld := ⟨PWR_RADDR i, 0, 7⟩
/-- Register PWR_PD, 32 bits (R573). -/
def PWR_PD (i : Nat) : Nat := 0x40600400 + 0x4*i
def PWR_PD_STATE (i : Nat) : Fld := ⟨PWR_PD i, 30, 2⟩
def PWR_PD_FW_OFF (i : Nat) : Fld := ⟨PWR_PD i, 29, 1⟩
def PWR_PD_WAKES (i : Nat) : Fld := ⟨PWR_PD i, 0, 16⟩
/-- Register PWR_RCNT, 64 bits (R573). -/
def PWR_RCNT (i : Nat) : Nat := 0x40600500 + 0x8*i
def PWR_RCNT_CHATTER (i : Nat) : Fld := ⟨PWR_RCNT i, 48, 16⟩
def PWR_RCNT_ON_FAIL (i : Nat) : Fld := ⟨PWR_RCNT i, 32, 16⟩
def PWR_RCNT_LOST (i : Nat) : Fld := ⟨PWR_RCNT i, 16, 16⟩
def PWR_RCNT_OFF_STUCK (i : Nat) : Fld := ⟨PWR_RCNT i, 0, 16⟩
/-- Register RST_GRP_CTL, 32 bits (R591). -/
def RST_GRP_CTL : Nat := 0x40610100
def RST_GRP_CTL_ADMIT : Fld := ⟨RST_GRP_CTL, 31, 1⟩
def RST_GRP_CTL_GROUPS : Fld := ⟨RST_GRP_CTL, 0, 28⟩
/-- Register RST_GRP_STS, 32 bits (R591). -/
def RST_GRP_STS : Nat := 0x40610104
def RST_GRP_STS_BUSY : Fld := ⟨RST_GRP_STS, 31, 1⟩
def RST_GRP_STS_HOLD : Fld := ⟨RST_GRP_STS, 30, 1⟩
def RST_GRP_STS_IN_RESET : Fld := ⟨RST_GRP_STS, 0, 28⟩
/-- Register RST_CAUSE, 32 bits (R591). -/
def RST_CAUSE : Nat := 0x40610108
def RST_CAUSE_DEV_CAUSE : Fld := ⟨RST_CAUSE, 28, 4⟩
def RST_CAUSE_GRP_CAUSE : Fld := ⟨RST_CAUSE, 24, 4⟩
def RST_CAUSE_GRP_LAST : Fld := ⟨RST_CAUSE, 16, 5⟩
def RST_CAUSE_PENDING : Fld := ⟨RST_CAUSE, 0, 16⟩
/-- Register RST_XOVR, 32 bits (R591). -/
def RST_XOVR : Nat := 0x4061010C
def RST_XOVR_ALERT : Fld := ⟨RST_XOVR, 7, 1⟩
def RST_XOVR_MBX_IRQ : Fld := ⟨RST_XOVR, 3, 4⟩
def RST_XOVR_HRV_END : Fld := ⟨RST_XOVR, 2, 1⟩
def RST_XOVR_HRV_START : Fld := ⟨RST_XOVR, 1, 1⟩
def RST_XOVR_KICK : Fld := ⟨RST_XOVR, 0, 1⟩
/-- Register RST_CNT, 64 bits (R591). -/
def RST_CNT : Nat := 0x40610110
def RST_CNT_DEVICE : Fld := ⟨RST_CNT, 48, 16⟩
def RST_CNT_GROUP : Fld := ⟨RST_CNT, 32, 16⟩
def RST_CNT_IGNORED : Fld := ⟨RST_CNT, 16, 16⟩
def RST_CNT_LATCHED : Fld := ⟨RST_CNT, 0, 16⟩
/-- Register RST_MS, 32 bits (R591). -/
def RST_MS (i : Nat) : Nat := 0x40610140 + 0x4*i
def RST_MS_TIME (i : Nat) : Fld := ⟨RST_MS i, 0, 32⟩
/-- Register REC_CLEAR, 32 bits (R625). -/
def REC_CLEAR : Nat := 0x40620100
def REC_CLEAR_EPOCH : Fld := ⟨REC_CLEAR, 0, 32⟩
/-- Register REC_CLEAR_STS, 32 bits (R625). -/
def REC_CLEAR_STS : Nat := 0x40620104
def REC_CLEAR_STS_RESULT : Fld := ⟨REC_CLEAR_STS, 28, 4⟩
/-- Register REC_STS, 32 bits (R625). -/
def REC_STS : Nat := 0x40620108
def REC_STS_FULL : Fld := ⟨REC_STS, 31, 1⟩
def REC_STS_COPYING : Fld := ⟨REC_STS, 30, 1⟩
def REC_STS_QUEUED : Fld := ⟨REC_STS, 22, 8⟩
/-- Register REC_POS, 64 bits (R625). -/
def REC_POS : Nat := 0x40620110
def REC_POS_EPOCH : Fld := ⟨REC_POS, 32, 32⟩
def REC_POS_WPOS : Fld := ⟨REC_POS, 0, 21⟩
/-- Register REC_SEQ, 64 bits (R625). -/
def REC_SEQ : Nat := 0x40620118
def REC_SEQ_NEXT : Fld := ⟨REC_SEQ, 0, 32⟩
/-- Register REC_TIME, 64 bits (R625). -/
def REC_TIME : Nat := 0x40620120
def REC_TIME_TIME : Fld := ⟨REC_TIME, 0, 64⟩
/-- Register REC_TIME_SET, 64 bits (R625). -/
def REC_TIME_SET : Nat := 0x40620128
def REC_TIME_SET_TIME : Fld := ⟨REC_TIME_SET, 0, 64⟩
/-- Register REC_LOST, 64 bits (R625). -/
def REC_LOST : Nat := 0x40620130
def REC_LOST_LOST_FULL : Fld := ⟨REC_LOST, 32, 32⟩
def REC_LOST_LOST_QUEUE : Fld := ⟨REC_LOST, 0, 32⟩
/-- Register REC_FW_CTL, 32 bits (R625). -/
def REC_FW_CTL : Nat := 0x40620138
def REC_FW_CTL_GO : Fld := ⟨REC_FW_CTL, 31, 1⟩
def REC_FW_CTL_TYPE : Fld := ⟨REC_FW_CTL, 16, 8⟩
def REC_FW_CTL_LEN : Fld := ⟨REC_FW_CTL, 0, 6⟩
/-- Register REC_FW_DATA, 64 bits (R625). -/
def REC_FW_DATA (i : Nat) : Nat := 0x40620140 + 0x8*i
def REC_FW_DATA_BYTES (i : Nat) : Fld := ⟨REC_FW_DATA i, 0, 64⟩
/-- Register REC_APER_SEL, 32 bits (R625). -/
def REC_APER_SEL : Nat := 0x40620240
def REC_APER_SEL_PAGE : Fld := ⟨REC_APER_SEL, 0, 5⟩
/-- Register TTH_CFG, 32 bits (R640). -/
def TTH_CFG : Nat := 0x40630100
def TTH_CFG_INTERVAL_S : Fld := ⟨TTH_CFG, 0, 17⟩
/-- Register TTH_STS, 32 bits (R640). -/
def TTH_STS : Nat := 0x40630104
def TTH_STS_STATE : Fld := ⟨TTH_STS, 28, 4⟩
def TTH_STS_LIFE_SAT : Fld := ⟨TTH_STS, 27, 1⟩
def TTH_STS_USED : Fld := ⟨TTH_STS, 0, 15⟩
/-- Register TTH_REL, 32 bits (R640). -/
def TTH_REL : Nat := 0x40630108
def TTH_REL_UPTO : Fld := ⟨TTH_REL, 0, 32⟩
/-- Register TTH_LIFE, 64 bits (R640). -/
def TTH_LIFE : Nat := 0x40630110
def TTH_LIFE_LIFE : Fld := ⟨TTH_LIFE, 32, 32⟩
def TTH_LIFE_NEXT : Fld := ⟨TTH_LIFE, 0, 32⟩
/-- Register TTH_PUB, 32 bits (R640). -/
def TTH_PUB (i : Nat) : Nat := 0x40630140 + 0x4*i
def TTH_PUB_BYTES (i : Nat) : Fld := ⟨TTH_PUB i, 0, 32⟩
/-- Register TTH_HASH, 32 bits (R640). -/
def TTH_HASH (i : Nat) : Nat := 0x406301C0 + 0x4*i
def TTH_HASH_BYTES (i : Nat) : Fld := ⟨TTH_HASH i, 0, 32⟩
/-- Register TTH_RD_SEL, 32 bits (R640). -/
def TTH_RD_SEL : Nat := 0x40630200
def TTH_RD_SEL_FIRST : Fld := ⟨TTH_RD_SEL, 0, 32⟩
/-- Register PWR_GPIO_CFG, 32 bits (R658). -/
def PWR_GPIO_CFG : Nat := 0x40600600
def PWR_GPIO_CFG_PU : Fld := ⟨PWR_GPIO_CFG, 16, 16⟩
def PWR_GPIO_CFG_OE : Fld := ⟨PWR_GPIO_CFG, 0, 16⟩
/-- Register PWR_GPIO_OUT, 32 bits (R658). -/
def PWR_GPIO_OUT : Nat := 0x40600604
def PWR_GPIO_OUT_OUT : Fld := ⟨PWR_GPIO_OUT, 0, 16⟩
/-- Register PWR_GPIO_IN, 32 bits (R658). -/
def PWR_GPIO_IN : Nat := 0x40600608
def PWR_GPIO_IN_IN : Fld := ⟨PWR_GPIO_IN, 0, 16⟩
/-- Register TIN_RGN_EXT, 32 bits (R74). -/
def TIN_RGN_EXT (i : Nat) : Nat := 0x400C1000 + 0x40*i
def TIN_RGN_EXT_SIZE_M1 (i : Nat) : Fld := ⟨TIN_RGN_EXT i, 16, 16⟩
def TIN_RGN_EXT_BASE_GIB (i : Nat) : Fld := ⟨TIN_RGN_EXT i, 0, 16⟩
/-- Register TIN_RGN_ATTR, 32 bits (R74). -/
def TIN_RGN_ATTR (i : Nat) : Nat := 0x400C1004 + 0x40*i
def TIN_RGN_ATTR_VALID (i : Nat) : Fld := ⟨TIN_RGN_ATTR i, 31, 1⟩
def TIN_RGN_ATTR_RELEASING (i : Nat) : Fld := ⟨TIN_RGN_ATTR i, 30, 1⟩
def TIN_RGN_ATTR_TENANT (i : Nat) : Fld := ⟨TIN_RGN_ATTR i, 16, 8⟩
def TIN_RGN_ATTR_KEY_SLOT (i : Nat) : Fld := ⟨TIN_RGN_ATTR i, 8, 8⟩
def TIN_RGN_ATTR_PLACE (i : Nat) : Fld := ⟨TIN_RGN_ATTR i, 4, 1⟩
def TIN_RGN_ATTR_CLASS (i : Nat) : Fld := ⟨TIN_RGN_ATTR i, 2, 2⟩
def TIN_RGN_ATTR_WORLD (i : Nat) : Fld := ⟨TIN_RGN_ATTR i, 0, 1⟩
/-- Register TIN_RGN_LDRD, 64 bits (R74). -/
def TIN_RGN_LDRD (i : Nat) : Nat := 0x400C1008 + 0x40*i
def TIN_RGN_LDRD_MASK (i : Nat) : Fld := ⟨TIN_RGN_LDRD i, 0, 64⟩
/-- Register TIN_RGN_LDWR, 64 bits (R74). -/
def TIN_RGN_LDWR (i : Nat) : Nat := 0x400C1010 + 0x40*i
def TIN_RGN_LDWR_MASK (i : Nat) : Fld := ⟨TIN_RGN_LDWR i, 0, 64⟩
/-- Register TIN_RGN_CGRD, 64 bits (R74). -/
def TIN_RGN_CGRD (i : Nat) : Nat := 0x400C1018 + 0x40*i
def TIN_RGN_CGRD_MASK (i : Nat) : Fld := ⟨TIN_RGN_CGRD i, 0, 64⟩
/-- Register TIN_RGN_CGWR, 64 bits (R74). -/
def TIN_RGN_CGWR (i : Nat) : Nat := 0x400C1020 + 0x40*i
def TIN_RGN_CGWR_MASK (i : Nat) : Fld := ⟨TIN_RGN_CGWR i, 0, 64⟩
/-- Register DRM_DQ, 32 bits (R210). -/
def DRM_DQ (n : Nat) (s l : Nat) : Nat := 0x40250400 + 0x10000*n + 4*(40*s + l)
def DRM_DQ_VREF (n : Nat) (s l : Nat) : Fld := ⟨DRM_DQ n s l, 16, 8⟩
def DRM_DQ_WR_DLY (n : Nat) (s l : Nat) : Fld := ⟨DRM_DQ n s l, 8, 8⟩
def DRM_DQ_RD_DLY (n : Nat) (s l : Nat) : Fld := ⟨DRM_DQ n s l, 0, 8⟩
/-- Register DRM_DQS, 32 bits (R210). -/
def DRM_DQS (n : Nat) (s r g : Nat) : Nat := 0x40250600 + 0x10000*n + 4*(40*s + 10*r + g)
def DRM_DQS_RD_GATE (n : Nat) (s r g : Nat) : Fld := ⟨DRM_DQS n s r g, 20, 12⟩
def DRM_DQS_WR_LVL (n : Nat) (s r g : Nat) : Fld := ⟨DRM_DQS n s r g, 0, 12⟩
/-- Register DRM_CA, 32 bits (R210). -/
def DRM_CA (n : Nat) (s r : Nat) : Nat := 0x40250800 + 0x10000*n + 4*(4*s + r)
def DRM_CA_CS_DLY (n : Nat) (s r : Nat) : Fld := ⟨DRM_CA n s r, 8, 8⟩
def DRM_CA_CA_DLY (n : Nat) (s r : Nat) : Fld := ⟨DRM_CA n s r, 0, 8⟩
/-- Register FUR_HOST_WR_CNT, 64 bits (R280). -/
def FUR_HOST_WR_CNT : Nat := 0x40370160
def FUR_HOST_WR_CNT_COUNT : Fld := ⟨FUR_HOST_WR_CNT, 0, 64⟩
/-- Register FUR_PROG_CNT, 64 bits (R280). -/
def FUR_PROG_CNT : Nat := 0x40370168
def FUR_PROG_CNT_COUNT : Fld := ⟨FUR_PROG_CNT, 0, 64⟩
/-- Register FUR_RD_CNT, 64 bits (R280). -/
def FUR_RD_CNT : Nat := 0x40370170
def FUR_RD_CNT_COUNT : Fld := ⟨FUR_RD_CNT, 0, 64⟩
/-- Register FUR_GC_CNT, 64 bits (R280). -/
def FUR_GC_CNT : Nat := 0x40370178
def FUR_GC_CNT_COUNT : Fld := ⟨FUR_GC_CNT, 0, 64⟩
/-- Register FUR_REFRESH_CNT, 64 bits (R280). -/
def FUR_REFRESH_CNT : Nat := 0x40370180
def FUR_REFRESH_CNT_COUNT : Fld := ⟨FUR_REFRESH_CNT, 0, 64⟩
/-- Register FUR_RECON_CNT, 64 bits (R280). -/
def FUR_RECON_CNT : Nat := 0x40370188
def FUR_RECON_CNT_COUNT : Fld := ⟨FUR_RECON_CNT, 0, 64⟩
/-- Register FUR_UE_CNT, 64 bits (R280). -/
def FUR_UE_CNT : Nat := 0x40370190
def FUR_UE_CNT_COUNT : Fld := ⟨FUR_UE_CNT, 0, 64⟩
/-- Register YOK_TXSEQ, 64 bits (R356). -/
def YOK_TXSEQ (i : Nat) : Nat := 0x40590190 + 0x18*i
def YOK_TXSEQ_FSN (i : Nat) : Fld := ⟨YOK_TXSEQ i, 0, 48⟩
/-- Register YOK_ACKED, 64 bits (R356). -/
def YOK_ACKED (i : Nat) : Nat := 0x40590198 + 0x18*i
def YOK_ACKED_FSN (i : Nat) : Fld := ⟨YOK_ACKED i, 0, 48⟩
/-- Register YOK_RXSEQ, 64 bits (R356). -/
def YOK_RXSEQ (i : Nat) : Nat := 0x405901A0 + 0x18*i
def YOK_RXSEQ_FSN (i : Nat) : Fld := ⟨YOK_RXSEQ i, 0, 48⟩
/-- Register FUR_CH_XBUF, 32 bits (R281). -/
def FUR_CH_XBUF (n : Nat) (i : Nat) : Nat := 0x40381000 + 0x10000*n + 0x4*i
def FUR_CH_XBUF_DATA (n : Nat) (i : Nat) : Fld := ⟨FUR_CH_XBUF n i, 0, 32⟩
/-- Register YOK_PATHDESC, 32 bits (R356). -/
def YOK_PATHDESC (i : Nat) : Nat := 0x40590400 + 0x4*i
def YOK_PATHDESC_DATA (i : Nat) : Fld := ⟨YOK_PATHDESC i, 0, 32⟩
/-- Register DRL_PORTDESC, 32 bits (R392). -/
def DRL_PORTDESC (i : Nat) : Nat := 0x405A0400 + 0x4*i
def DRL_PORTDESC_DATA (i : Nat) : Fld := ⟨DRL_PORTDESC i, 0, 32⟩
/-- Register DRL_STG, 32 bits (R392). -/
def DRL_STG (i : Nat) : Nat := 0x405A0800 + 0x4*i
def DRL_STG_DATA (i : Nat) : Fld := ⟨DRL_STG i, 0, 32⟩
/-- Register {prefix}_ID, 32 bits (R40). -/
def ID (w : Nat) : Nat := 0x40000000 + 0x10000*w
def ID_BLOCK (w : Nat) : Fld := ⟨ID w, 24, 8⟩
def ID_INSTANCE (w : Nat) : Fld := ⟨ID w, 16, 8⟩
def ID_PDOM (w : Nat) : Fld := ⟨ID w, 8, 8⟩
def ID_LAYOUT (w : Nat) : Fld := ⟨ID w, 0, 8⟩
/-- Register {prefix}_UNIT, 32 bits (R41). -/
def UNIT (w : Nat) : Nat := 0x40000004 + 0x10000*w
def UNIT_HEALING (w : Nat) : Fld := ⟨UNIT w, 3, 1⟩
def UNIT_DEGRADED (w : Nat) : Fld := ⟨UNIT w, 2, 1⟩
def UNIT_FENCED (w : Nat) : Fld := ⟨UNIT w, 1, 1⟩
def UNIT_POWERED (w : Nat) : Fld := ⟨UNIT w, 0, 1⟩
/-- Register {prefix}_FLT_STS, 32 bits (R593). -/
def FLT_STS (w : Nat) : Nat := 0x40000040 + 0x10000*w
def FLT_STS_CAUSE (w : Nat) : Fld := ⟨FLT_STS w, 0, 32⟩
/-- Register {prefix}_FLT_MASK, 32 bits (R593). -/
def FLT_MASK (w : Nat) : Nat := 0x40000044 + 0x10000*w
def FLT_MASK_MASK (w : Nat) : Fld := ⟨FLT_MASK w, 0, 32⟩
/-- Register {prefix}_FLT_CNT, 32 bits (R593). -/
def FLT_CNT (w : Nat) : Nat := 0x40000048 + 0x10000*w
def FLT_CNT_COUNT (w : Nat) : Fld := ⟨FLT_CNT w, 0, 32⟩
/-- Register {prefix}_FLT_LIVE, 32 bits (R593). -/
def FLT_LIVE (w : Nat) : Nat := 0x4000004C + 0x10000*w
def FLT_LIVE_PRESENT (w : Nat) : Fld := ⟨FLT_LIVE w, 0, 32⟩
/-- Register {prefix}_FLT_INFO, 64 bits (R593). -/
def FLT_INFO (w : Nat) : Nat := 0x40000050 + 0x10000*w
def FLT_INFO_VALID (w : Nat) : Fld := ⟨FLT_INFO w, 63, 1⟩
def FLT_INFO_BIT (w : Nat) : Fld := ⟨FLT_INFO w, 58, 5⟩
def FLT_INFO_SUB (w : Nat) : Fld := ⟨FLT_INFO w, 45, 13⟩
def FLT_INFO_MERGED (w : Nat) : Fld := ⟨FLT_INFO w, 32, 13⟩
def FLT_INFO_TIME (w : Nat) : Fld := ⟨FLT_INFO w, 0, 32⟩
/-- Register {prefix}_FLT_INJ, 32 bits (R593). -/
def FLT_INJ (w : Nat) : Nat := 0x40000058 + 0x10000*w
def FLT_INJ_INJECT (w : Nat) : Fld := ⟨FLT_INJ w, 0, 32⟩
/-- MBX_IN_MSG_c, word k, 64 bits (R465). -/
def MBX_IN_MSG (c k : Nat) : Fld := ⟨0x405E4080 + 0x100*c + 8*k, 0, 64⟩
/-- MBX_OUT_MSG_c, word k, 64 bits (R465). -/
def MBX_OUT_MSG (c k : Nat) : Fld := ⟨0x405E40C0 + 0x100*c + 8*k, 0, 64⟩

end Sys2Proof.Machine
end

