-- ==== Sys2Proof/Machine/Map.lean ====
section
/-!
DEFINITION. Machine/Map.lean: sparse maps in their canonical form. What an unlisted key reads as is the function `d`
given with every use. Writing that value removes the entry, so equal maps are equal lists.
-/
namespace Sys2Proof.Machine

/-- The value at key k. -/
def mget {α : Type} (d : Nat → α) (m : SMap α) (k : Nat) : α :=
  match m with
  | [] => d k
  | (a, v) :: t => if a = k then v else mget d t k

/-- Puts (k, v) before the first larger key. -/
def minsert {α : Type} (k : Nat) (v : α) (m : SMap α) : SMap α :=
  match m with
  | [] => [(k, v)]
  | (a, w) :: t => if k < a then (k, v) :: (a, w) :: t else (a, w) :: minsert k v t

/-- Drops every entry at key k. -/
def merase {α : Type} (k : Nat) (m : SMap α) : SMap α :=
  match m with
  | [] => []
  | (a, w) :: t => if a = k then merase k t else (a, w) :: merase k t

/-- Sets key k to v. -/
def mset {α : Type} [DecidableEq α] (d : Nat → α) (m : SMap α) (k : Nat) (v : α) : SMap α :=
  if v = d k then merase k m else minsert k v (merase k m)

/-- The canonical form: keys strictly rising, no entry equal to the unlisted value. -/
def mwf {α : Type} [DecidableEq α] (d : Nat → α) : SMap α → Bool
  | [] => true
  | [(k, v)] => decide (v ≠ d k)
  | (k, v) :: (k', v') :: t => decide (v ≠ d k) && decide (k < k') && mwf d ((k', v') :: t)

end Sys2Proof.Machine
end

