-- ==== Sys2Proof/Machine/RegTable.lean ====
section
/-!
DEFINITION. Machine/RegTable.lean: what the register tables of spec/ say of every register of every window: its
offset and stride, its width, whether the register exists in instance 0 only, whether it is banked per requester,
which bits a write stores (RW, RWS), clears (W1C), sets (W1S) or only triggers (WO), which survive every reset but
power-on (RWS), and the Reset column (R10 to R13, R15). Bits in no mask are RO or RSVD.
-/
namespace Sys2Proof.Machine

/-- One row of an offset table with the access codes of its bit table (R12). `step` is added once per index to the
reset value (TIN_HOME_b resets to b). -/
structure RegDef where
  name : String
  off : Nat
  stride : Nat := 0
  count : Nat := 1
  w64 : Bool := false
  inst0 : Bool := false
  banked : Bool := false
  rw : Nat := 0
  w1c : Nat := 0
  w1s : Nat := 0
  wo : Nat := 0
  rws : Nat := 0
  reset : Nat := 0
  step : Nat := 0
  deriving DecidableEq, Repr, Inhabited

/-- The kinds of control-space window (R37). `tin` and `fur` are the common windows; `tc` and `fc` the windows of a
tine cluster and of an ONFI channel. -/
inductive Blk where
  | hpt | npt | tin | tc | nch | drm | hrw | win | fur | fc | hrv | yok | drl | grn | cph | hdl | mbx | efl | pwr | rst | recd | tth
  deriving DecidableEq, Repr, Inhabited

/-- The registers of every window: the header (R40, R41) and the fault registers (R593). -/
def regsCommon : List RegDef := [
  { name := "ID", off := 0x0, reset := 0x1 },
  { name := "UNIT", off := 0x4 },
  { name := "FLT_STS", off := 0x40, w1c := 0xFFFFFFFF, rws := 0xFFFFFFFF },
  { name := "FLT_MASK", off := 0x44, rw := 0xFFFFFFFF, rws := 0xFFFFFFFF },
  { name := "FLT_CNT", off := 0x48, rw := 0xFFFFFFFF, rws := 0xFFFFFFFF },
  { name := "FLT_LIVE", off := 0x4C },
  { name := "FLT_INFO", off := 0x50, w64 := true, rw := 0x7FFFFFFFFFFFFFFF, w1c := 0x8000000000000000, rws := 0xFFFFFFFFFFFFFFFF },
  { name := "FLT_INJ", off := 0x58, w1s := 0xFFFFFFFF }]

/-- The registers whose Reset column is not 0 throughout, of the HPT windows. -/
def regs_hpt_r : List RegDef := [
  { name := "HPT_FENCE_CTL", off := 0x104, rw := 0xFFFFFF00, w1s := 0xFF, reset := 0x8003C00 },
  { name := "HPT_DEVLOAD", off := 0x108, rw := 0xFFFFFF, reset := 0x553C19 },
  { name := "HPT_LCTL", off := 0x110, stride := 0x20, count := 4, rw := 0x8F0F0100, w1s := 0x40000000, reset := 0x30000 }]

/-- The registers of the HPT windows. -/
def regs_hpt : List RegDef := regs_hpt_r ++ [
  { name := "HPT_BIFUR", off := 0x100, rw := 0x3, rws := 0x3 },
  { name := "HPT_LSTS", off := 0x114, stride := 0x20, count := 4 },
  { name := "HPT_LCNT", off := 0x118, stride := 0x20, count := 4, w64 := true },
  { name := "HPT_POIS", off := 0x120, stride := 0x20, count := 4, w64 := true },
  { name := "HPT_DMISS", off := 0x128, stride := 0x20, count := 4, w64 := true, w1c := 0x8000000000000000 },
  { name := "HPT_LDMBX", off := 0x200, stride := 0x4, count := 64, inst0 := true, rw := 0x8000001F }]

/-- The registers of the NPT windows. -/
def regs_npt : List RegDef := [
  { name := "NPT_CTL", off := 0x100, rw := 0xBEFF0000, w1s := 0x40000000, rws := 0x3EFF0000 },
  { name := "NPT_STS", off := 0x104 },
  { name := "NPT_LCNT", off := 0x108 },
  { name := "NPT_FEC_CNT", off := 0x110, w64 := true },
  { name := "NPT_MAC_CNT", off := 0x118, w64 := true },
  { name := "NPT_PFC_CNT", off := 0x120, w64 := true }]

/-- The registers whose Reset column is not 0 throughout, of the TIN windows. -/
def regs_tin_r : List RegDef := [
  { name := "TIN_WORLD_HDL", off := 0x80C, rw := 0xE, rws := 0xE, reset := 0x1 },
  { name := "TIN_WORLD_MBX", off := 0x810, w64 := true, rw := 0xFFFF0000FFFFFFFF, rws := 0xFFFF0000FFFFFFFF, reset := 0xFFFF000000000000 },
  { name := "TIN_STEAL", off := 0x100, rw := 0x80001F0F, reset := 0x80000402 },
  { name := "TIN_DRAIN", off := 0x104, rw := 0xFFFF001F, reset := 0x14000C },
  { name := "TIN_RUNAHEAD", off := 0x108, rw := 0x1, reset := 0x1 },
  { name := "TIN_HOME", off := 0x400, stride := 0x4, count := 256, step := 1 }]

/-- The registers of the TIN windows. -/
def regs_tin : List RegDef := regs_tin_r ++ [
  { name := "TIN_DPA_LIMIT", off := 0x800, rw := 0x1FFFF },
  { name := "TIN_WORLD_LOCK", off := 0x808, w1s := 0x1, rws := 0x1 },
  { name := "TIN_WORLD_KEYS", off := 0x818, rw := 0x1FF, rws := 0x1FF },
  { name := "TIN_RGN_COMMIT", off := 0x820, wo := 0x3FF },
  { name := "TIN_RGN_STATUS", off := 0x824 },
  { name := "TIN_CHK_COUNT", off := 0x828, w64 := true },
  { name := "TIN_CHK_LAST", off := 0x830, w64 := true, w1c := 0x8000000000000000 },
  { name := "TIN_STG_EXT", off := 0x840, rw := 0xFFFFFFFF },
  { name := "TIN_STG_ATTR", off := 0x844, rw := 0xFFFF1D },
  { name := "TIN_STG_LDRD", off := 0x848, w64 := true, rw := 0xFFFFFFFFFFFFFFFF },
  { name := "TIN_STG_LDWR", off := 0x850, w64 := true, rw := 0xFFFFFFFFFFFFFFFF },
  { name := "TIN_STG_CGRD", off := 0x858, w64 := true, rw := 0xFFFFFFFFFFFFFFFF },
  { name := "TIN_STG_CGWR", off := 0x860, w64 := true, rw := 0xFFFFFFFFFFFFFFFF },
  { name := "TIN_LDB", off := 0x900, stride := 0x8, count := 64, rw := 0x800100FF, rws := 0x10000 },
  { name := "TIN_CGB", off := 0xC00, stride := 0x8, count := 64, rw := 0x80010000, rws := 0x10000 },
  { name := "TIN_ALT_STS", off := 0x110, w1s := 0x80000000 },
  { name := "TIN_ALT_CNT", off := 0x118, w64 := true },
  { name := "TIN_RGN_EXT", off := 0x1000, stride := 0x40, count := 256 },
  { name := "TIN_RGN_ATTR", off := 0x1004, stride := 0x40, count := 256 },
  { name := "TIN_RGN_LDRD", off := 0x1008, stride := 0x40, count := 256, w64 := true },
  { name := "TIN_RGN_LDWR", off := 0x1010, stride := 0x40, count := 256, w64 := true },
  { name := "TIN_RGN_CGRD", off := 0x1018, stride := 0x40, count := 256, w64 := true },
  { name := "TIN_RGN_CGWR", off := 0x1020, stride := 0x40, count := 256, w64 := true }]

/-- The registers whose Reset column is not 0 throughout, of the TC windows. -/
def regs_tc_r : List RegDef := [
  { name := "TIN_CL_STS", off := 0x104, reset := 0x20 },
  { name := "TIN_TINE_UP", off := 0x110, reset := 0xFFFFFFFF }]

/-- The registers of the TC windows. -/
def regs_tc : List RegDef := regs_tc_r ++ [
  { name := "TIN_CL_CTL", off := 0x100, w1s := 0x3 },
  { name := "TIN_TINE_FENCE", off := 0x108, w1s := 0xFFFFFFFF },
  { name := "TIN_TINE_UNFENCE", off := 0x10C, w1s := 0xFFFFFFFF },
  { name := "TIN_CB_USE", off := 0x114, w1s := 0x80000000 },
  { name := "TIN_REQ_CNT", off := 0x118, w64 := true },
  { name := "TIN_STEAL_CNT", off := 0x120, w64 := true },
  { name := "TIN_SPEC_USED", off := 0x128, w64 := true },
  { name := "TIN_SPEC_DISC", off := 0x130, w64 := true },
  { name := "TIN_HINT_CTL", off := 0x138, w1s := 0x1 }]

/-- The registers whose Reset column is not 0 throughout, of the NCH windows. -/
def regs_nch_r : List RegDef := [
  { name := "NCH_CTL", off := 0x100, rw := 0xF, reset := 0xF },
  { name := "NCH_PF", off := 0x104, rw := 0xF07, reset := 0x202 },
  { name := "NCH_FENCE_CTL", off := 0x10C, rw := 0xFFFF00, w1s := 0x3, reset := 0xE1000 },
  { name := "NCH_INV_LEN", off := 0x118, w64 := true, inst0 := true, rw := 0x7FFFFFFFF, reset := 0x1 }]

/-- The registers of the NCH windows. -/
def regs_nch : List RegDef := regs_nch_r ++ [
  { name := "NCH_STS", off := 0x108 },
  { name := "NCH_INV_BASE", off := 0x110, w64 := true, inst0 := true, rw := 0x3FFFFFFFF },
  { name := "NCH_INV_CTL", off := 0x120, inst0 := true, w1s := 0xC0000000 },
  { name := "NCH_HIT_CNT", off := 0x128, w64 := true },
  { name := "NCH_SB_HIT_CNT", off := 0x130, w64 := true },
  { name := "NCH_MISS_CNT", off := 0x138, w64 := true },
  { name := "NCH_NOFILL_CNT", off := 0x140, w64 := true },
  { name := "NCH_PF_ISSUED_CNT", off := 0x148, w64 := true },
  { name := "NCH_PF_UNUSED_CNT", off := 0x150, w64 := true },
  { name := "NCH_FILL_DROP_CNT", off := 0x158, w64 := true },
  { name := "NCH_ERR_CNT", off := 0x160, w64 := true },
  { name := "NCH_ERR_LAST", off := 0x168, w64 := true, w1c := 0x8000000000000000 },
  { name := "NCH_WAYDIS", off := 0x200, stride := 0x4, count := 64, rw := 0xC00F3FFF }]

/-- The registers whose Reset column is not 0 throughout, of the DRM windows. -/
def regs_drm_r : List RegDef := [
  { name := "DRM_GEOM", off := 0x104, rw := 0x3FF00000, rws := 0x3FF00000, reset := 0x1000000 },
  { name := "DRM_SCHED", off := 0x10C, rw := 0xFFFFFFFF, reset := 0xC878C104 },
  { name := "DRM_RT", off := 0x110, rw := 0x3, reset := 0x3 },
  { name := "DRM_REF", off := 0x114, rw := 0xF07FE00, reset := 0x8023000 },
  { name := "DRM_SR", off := 0x118, rw := 0x800FFFFF, w1s := 0x60000000, reset := 0x96064 },
  { name := "DRM_CAP", off := 0x11C, rw := 0xFF00FF00, reset := 0x4004000 },
  { name := "DRM_FENCE_CTL", off := 0x120, rw := 0xFFFFFF80, w1s := 0x6F, reset := 0x100E1000 },
  { name := "DRM_RMP_CTL", off := 0x124, rw := 0xFFFFFF00, reset := 0x80E1000 }]

/-- The registers of the DRM windows. -/
def regs_drm : List RegDef := regs_drm_r ++ [
  { name := "DRM_CFG", off := 0x100, rw := 0xFC0F0000, rws := 0x3C0F0000 },
  { name := "DRM_STS", off := 0x108 },
  { name := "DRM_SUBST_SRC", off := 0x128, w64 := true, rw := 0x8FFFFFFF0FFFFFFF },
  { name := "DRM_SUBST_DST", off := 0x130, w64 := true, rw := 0xF0FFFFFFF },
  { name := "DRM_ERR_LAST", off := 0x138, w64 := true, w1c := 0x8000000000000000 },
  { name := "DRM_ERR_CNT", off := 0x140, w64 := true },
  { name := "DRM_RD_CNT", off := 0x148, w64 := true },
  { name := "DRM_WR_CNT", off := 0x150, w64 := true },
  { name := "DRM_PANIC_CNT", off := 0x158, w64 := true },
  { name := "DRM_REFB_CNT", off := 0x160, w64 := true },
  { name := "DRM_MR_CMD", off := 0x180, rw := 0x3FF8FFFF, w1s := 0x80000000 },
  { name := "DRM_MR_DATA", off := 0x184 },
  { name := "DRM_DLY_CTL", off := 0x188, w1s := 0x80000000 },
  { name := "DRM_TRN", off := 0x190, w64 := true },
  { name := "DRM_RMP", off := 0x200, stride := 0x8, count := 8, w64 := true, rw := 0xBF000001FFFFFFFF },
  { name := "DRM_DQ", off := 0x400, stride := 0x4, count := 80, rw := 0xFFFFFF, rws := 0xFFFFFF },
  { name := "DRM_DQS", off := 0x600, stride := 0x4, count := 80, rw := 0xFFF00FFF, rws := 0xFFF00FFF },
  { name := "DRM_CA", off := 0x800, stride := 0x4, count := 8, rw := 0xFFFF, rws := 0xFFFF }]

/-- The registers whose Reset column is not 0 throughout, of the HRW windows. -/
def regs_hrw_r : List RegDef := [
  { name := "HRW_CTL", off := 0x100, rw := 0x8000FFFF, reset := 0x80000018 }]

/-- The registers of the HRW windows. -/
def regs_hrw : List RegDef := regs_hrw_r ++ [
  { name := "HRW_STS", off := 0x108, w64 := true },
  { name := "HRW_CNT", off := 0x110, w64 := true }]

/-- The registers whose Reset column is not 0 throughout, of the WIN windows. -/
def regs_win_r : List RegDef := [
  { name := "WIN_CTL", off := 0x100, rw := 0x3, reset := 0x3 },
  { name := "WIN_EPOCH", off := 0x104, rw := 0x7FF, reset := 0x104 },
  { name := "WIN_HEAT", off := 0x108, rw := 0xFFFFFFFF, reset := 0x100201 },
  { name := "WIN_FREE", off := 0x10C, rw := 0xFFFFFFFF, reset := 0x100008 },
  { name := "WIN_CLEAN", off := 0x110, rw := 0xFFFF, reset := 0x1E32 },
  { name := "WIN_PIN_LEN", off := 0x128, w64 := true, rw := 0x7FFFFFFFF, reset := 0x1 }]

/-- The registers of the WIN windows. -/
def regs_win : List RegDef := regs_win_r ++ [
  { name := "WIN_STS", off := 0x114, w1c := 0x80000000 },
  { name := "WIN_PIN_CTL", off := 0x118, rw := 0x30000000, w1s := 0x80000000 },
  { name := "WIN_PIN_BASE", off := 0x120, w64 := true, rw := 0x3FFFFFFFF },
  { name := "WIN_FRAME_CNT", off := 0x130, w64 := true },
  { name := "WIN_PAGE_CNT", off := 0x138, w64 := true },
  { name := "WIN_PROMO_CNT", off := 0x140, w64 := true },
  { name := "WIN_DEMO_CNT", off := 0x148, w64 := true },
  { name := "WIN_CLEAN_CNT", off := 0x150, w64 := true },
  { name := "WIN_COLD_CNT", off := 0x158, w64 := true },
  { name := "WIN_ABANDON_CNT", off := 0x160, w64 := true },
  { name := "WIN_HEAT_DROP", off := 0x168, w64 := true },
  { name := "WIN_ERR_LAST", off := 0x170, w64 := true, w1c := 0x8000000000000000 },
  { name := "WIN_RGN_POL", off := 0x1000, stride := 0x10, count := 256, w64 := true, rw := 0x3FFFFFFFFF },
  { name := "WIN_RGN_RES", off := 0x1008, stride := 0x10, count := 256, w64 := true }]

/-- The registers whose Reset column is not 0 throughout, of the FUR windows. -/
def regs_fur_r : List RegDef := [
  { name := "FUR_CTL", off := 0x100, rw := 0xFF000017, reset := 0x32000016 },
  { name := "FUR_SUSP", off := 0x110, rw := 0xFF00, reset := 0x3200 },
  { name := "FUR_GC", off := 0x114, rw := 0xFFFFFFFF, reset := 0x800040 },
  { name := "FUR_WL", off := 0x118, rw := 0xFFFF, reset := 0xC8 },
  { name := "FUR_RDIST", off := 0x11C, rw := 0xFFFF01FF, reset := 0x64006E },
  { name := "FUR_RET", off := 0x120, rw := 0xFFFF, reset := 0xA8 },
  { name := "FUR_GOV", off := 0x124, rw := 0xFFFF, reset := 0x500A },
  { name := "FUR_META", off := 0x128, rw := 0xFF, reset := 0x1C }]

/-- The registers of the FUR windows. -/
def regs_fur : List RegDef := regs_fur_r ++ [
  { name := "FUR_GEOM", off := 0x104, rw := 0xFF03FFF, rws := 0xFF03FFF },
  { name := "FUR_GEOM2", off := 0x108, rw := 0x7FFF, rws := 0x7FFF },
  { name := "FUR_ENDUR", off := 0x10C, rw := 0xFFFFFFFF, rws := 0xFFFFFFFF },
  { name := "FUR_STS", off := 0x12C },
  { name := "FUR_GOV_RATE", off := 0x130, w64 := true },
  { name := "FUR_GOV_ALLOW", off := 0x138, w64 := true },
  { name := "FUR_LIFE", off := 0x140, w64 := true },
  { name := "FUR_WEAR", off := 0x148, w64 := true },
  { name := "FUR_BLK_CNT", off := 0x150, w64 := true },
  { name := "FUR_ERR_LAST", off := 0x158, w64 := true, w1c := 0x8000000000000000 },
  { name := "FUR_VSEQ", off := 0x800, stride := 0x8, count := 16, w64 := true, rw := 0xFFFF80FFFFFFFFFF, rws := 0xFFFF80FFFFFFFFFF },
  { name := "FUR_HOST_WR_CNT", off := 0x160, w64 := true },
  { name := "FUR_PROG_CNT", off := 0x168, w64 := true },
  { name := "FUR_RD_CNT", off := 0x170, w64 := true },
  { name := "FUR_GC_CNT", off := 0x178, w64 := true },
  { name := "FUR_REFRESH_CNT", off := 0x180, w64 := true },
  { name := "FUR_RECON_CNT", off := 0x188, w64 := true },
  { name := "FUR_UE_CNT", off := 0x190, w64 := true }]

/-- The registers whose Reset column is not 0 throughout, of the FC windows. -/
def regs_fc_r : List RegDef := [
  { name := "FUR_CH_CTL", off := 0x100, rw := 0x800F0000, w1s := 0x60000000, reset := 0x40000 }]

/-- The registers of the FC windows. -/
def regs_fc : List RegDef := regs_fc_r ++ [
  { name := "FUR_CH_STS", off := 0x104 },
  { name := "FUR_CH_LUN_FENCE", off := 0x108, w1s := 0xFFFFFFFF },
  { name := "FUR_CH_CNT", off := 0x110, w64 := true },
  { name := "FUR_CH_ERR_LAST", off := 0x118, w64 := true, w1c := 0x8000000000000000 },
  { name := "FUR_CH_CMD", off := 0x180, rw := 0x3FFFF0FF, w1s := 0x80000000 },
  { name := "FUR_CH_DLY_CTL", off := 0x188, w1s := 0x80000000 },
  { name := "FUR_CH_DQ", off := 0x200, stride := 0x4, count := 8, rw := 0xFFFFFF, rws := 0xFFFFFF },
  { name := "FUR_CH_DQS", off := 0x220, rw := 0xFFFF, rws := 0xFFFF },
  { name := "FUR_CH_XBUF", off := 0x1000, stride := 0x4, count := 1024, rw := 0xFFFFFFFF }]

/-- The registers whose Reset column is not 0 throughout, of the HRV windows. -/
def regs_hrv_r : List RegDef := [
  { name := "HRV_CTL", off := 0x100, rw := 0xA00000FF, w1s := 0x50000000, rws := 0xA00000FF, reset := 0x2000000A },
  { name := "HRV_CAP", off := 0x104, rw := 0x1FF, rws := 0x1FF, reset := 0x10 },
  { name := "HRV_STORE", off := 0x110, rw := 0xFFFFFFFF, rws := 0xFFFFFFFF, reset := 0x5A000000 },
  { name := "HRV_NAND", off := 0x114, rw := 0xFFFF, rws := 0xFFFF, reset := 0x190 }]

/-- The registers of the HRV windows. -/
def regs_hrv : List RegDef := regs_hrv_r ++ [
  { name := "HRV_STS", off := 0x108 },
  { name := "HRV_BOARD", off := 0x10C, rw := 0xFFFFFFFF, rws := 0xFFFFFFFF },
  { name := "HRV_NEED", off := 0x118 },
  { name := "HRV_REPLAY", off := 0x11C },
  { name := "HRV_DIRTY", off := 0x120, w64 := true },
  { name := "HRV_LIMITS", off := 0x128, w64 := true },
  { name := "HRV_SEQ", off := 0x130, w64 := true },
  { name := "HRV_LAST", off := 0x138, w64 := true },
  { name := "HRV_RESOW", off := 0x140, w64 := true },
  { name := "HRV_LOSS", off := 0x148, w64 := true },
  { name := "HRV_CNT", off := 0x150, w64 := true, rw := 0xFFFFFFFFFFFFFFFF, rws := 0xFFFFFFFFFFFFFFFF }]

/-- The registers whose Reset column is not 0 throughout, of the YOK windows. -/
def regs_yok_r : List RegDef := [
  { name := "YOK_TMR", off := 0x108, rw := 0xFFFFFFFF, rws := 0xFFFFFFFF, reset := 0x1F41404 },
  { name := "YOK_PATH_TMR", off := 0x10C, rw := 0xFFFFFFFF, rws := 0xFFFFFFFF, reset := 0xA00640A },
  { name := "YOK_RX", off := 0x110, rw := 0xFF0FFFFF, rws := 0xFF0FFFFF, reset := 0x32004000 },
  { name := "YOK_HEAL", off := 0x114, rw := 0xFFFF, rws := 0xFFFF, reset := 0x7D0 },
  { name := "YOK_RSV_CTL", off := 0x118, rw := 0xFFFF00, w1s := 0xC0000000, rws := 0xFF00, reset := 0x3200 },
  { name := "YOK_RGN", off := 0x1000, stride := 0x10, count := 256, w64 := true, rw := 0x8000000FFFFFFE0, reset := 0xFA200000 }]

/-- The registers of the YOK windows. -/
def regs_yok : List RegDef := regs_yok_r ++ [
  { name := "YOK_CTL", off := 0x100, rw := 0xC0000000, rws := 0xC0000000 },
  { name := "YOK_STS", off := 0x104 },
  { name := "YOK_RSV_POS", off := 0x120, w64 := true, rw := 0x3FFFFFFFF, rws := 0x3FFFFFFFF },
  { name := "YOK_CNT", off := 0x128, w64 := true },
  { name := "YOK_HEAL_CNT", off := 0x130, w64 := true },
  { name := "YOK_RCNT", off := 0x138, w64 := true },
  { name := "YOK_ERR_LAST", off := 0x140, w64 := true, w1c := 0x8000000000000000 },
  { name := "YOK_PAIR", off := 0x180, stride := 0x4, count := 2 },
  { name := "YOK_PATH_CNT", off := 0x200, stride := 0x8, count := 4, w64 := true },
  { name := "YOK_RGN_LAG", off := 0x1008, stride := 0x10, count := 256, w64 := true },
  { name := "YOK_TXSEQ", off := 0x190, stride := 0x18, count := 2, w64 := true },
  { name := "YOK_ACKED", off := 0x198, stride := 0x18, count := 2, w64 := true },
  { name := "YOK_RXSEQ", off := 0x1A0, stride := 0x18, count := 2, w64 := true },
  { name := "YOK_PATHDESC", off := 0x400, stride := 0x4, count := 64, rw := 0xFFFFFFFF, rws := 0xFFFFFFFF }]

/-- The registers whose Reset column is not 0 throughout, of the DRL windows. -/
def regs_drl_r : List RegDef := [
  { name := "DRL_CTL", off := 0x100, rw := 0x8000013F, reset := 0x3F },
  { name := "DRL_TMR", off := 0x108, rw := 0xFFFFFFFF, reset := 0x1404100A },
  { name := "DRL_LIMITS", off := 0x10C, rw := 0xFFFFFFFF, reset := 0x1E0032 },
  { name := "DRL_RX", off := 0x110, rw := 0xFFFF0700, reset := 0x324B0300 },
  { name := "DRL_JQ_CTL", off := 0x900, rw := 0x8000FFFF, reset := 0x800003E8 }]

/-- The registers of the DRL windows. -/
def regs_drl : List RegDef := regs_drl_r ++ [
  { name := "DRL_STS", off := 0x104 },
  { name := "DRL_RCNT", off := 0x118, w64 := true },
  { name := "DRL_DROP_CNT", off := 0x120, w64 := true },
  { name := "DRL_TCNT", off := 0x128, w64 := true },
  { name := "DRL_ERR_LAST", off := 0x130, w64 := true, w1c := 0x8000000000000000 },
  { name := "DRL_CONN_CMD", off := 0x880, rw := 0xF000FFF, w1s := 0x80000000 },
  { name := "DRL_CONN_STATUS", off := 0x884 },
  { name := "DRL_SNAP_STATE", off := 0x888, w64 := true },
  { name := "DRL_SNAP_SEQ", off := 0x890, w64 := true },
  { name := "DRL_SNAP_CNT", off := 0x898, w64 := true },
  { name := "DRL_JQ_STS", off := 0x904 },
  { name := "DRL_JQ_CMD", off := 0x908, rw := 0xF3FFFFF, w1s := 0x80000000 },
  { name := "DRL_JQ_CMD_STS", off := 0x90C },
  { name := "DRL_JQ_CNT", off := 0x910, w64 := true },
  { name := "DRL_JQ_LAST", off := 0x918, w64 := true, w1c := 0x8000000000000000 },
  { name := "DRL_JQ_STATE", off := 0x2000, stride := 0x20, count := 1024, w64 := true },
  { name := "DRL_JQ_COUNT", off := 0x2008, stride := 0x20, count := 1024, w64 := true },
  { name := "DRL_JQ_FAIL", off := 0x2010, stride := 0x20, count := 1024, w64 := true },
  { name := "DRL_JQ_TAG", off := 0x2018, stride := 0x20, count := 1024, w64 := true },
  { name := "DRL_PORTDESC", off := 0x400, stride := 0x4, count := 96, rw := 0xFFFFFFFF, rws := 0xFFFFFFFF },
  { name := "DRL_STG", off := 0x800, stride := 0x4, count := 32, rw := 0xFFFFFFFF }]

/-- The registers whose Reset column is not 0 throughout, of the GRN windows. -/
def regs_grn_r : List RegDef := [
  { name := "GRN_CFG", off := 0x104, rw := 0x3F0007FF, rws := 0x3F0007FF, reset := 0x1000010 }]

/-- The registers of the GRN windows. -/
def regs_grn : List RegDef := regs_grn_r ++ [
  { name := "GRN_CTL", off := 0x100, rw := 0x1 },
  { name := "GRN_STS", off := 0x108 },
  { name := "GRN_UNMET", off := 0x10C },
  { name := "GRN_CNT", off := 0x110, w64 := true },
  { name := "GRN_ERR_LAST", off := 0x118, w64 := true, w1c := 0x8000000000000000 },
  { name := "GRN_GMAP", off := 0x200, stride := 0x4, count := 64, rw := 0x3F, rws := 0x3F },
  { name := "GRN_OWN", off := 0x400, stride := 0x8, count := 64, w64 := true, rw := 0x1FFFFF, rws := 0x1FFFFF }]

/-- The registers whose Reset column is not 0 throughout, of the CPH windows. -/
def regs_cph_r : List RegDef := [
  { name := "CPH_STS", off := 0x104, reset := 0x12420 },
  { name := "CPH_ALARM_EN", off := 0x108, rw := 0xE, w1s := 0x80000000, rws := 0x8000000E, reset := 0xE }]

/-- The registers of the CPH windows. -/
def regs_cph : List RegDef := regs_cph_r ++ [
  { name := "CPH_CTL", off := 0x100, rw := 0x1, w1s := 0xC0000000, rws := 0x1 },
  { name := "CPH_ALARM_STS", off := 0x10C, w1c := 0x7F, rws := 0x7F },
  { name := "CPH_SLOT_CMD", off := 0x114, banked := true, rw := 0x7C000FFF, w1s := 0x80000000 },
  { name := "CPH_SLOT_STS", off := 0x118, w64 := true, banked := true },
  { name := "CPH_CNT", off := 0x120, w64 := true, rw := 0xFFFF000000000000, rws := 0xFFFF000000000000 },
  { name := "CPH_ERR_LAST", off := 0x128, w64 := true, w1c := 0x8000000000000000 },
  { name := "CPH_KLD", off := 0x140, stride := 0x4, count := 16, banked := true, wo := 0xFFFFFFFF },
  { name := "CPH_FJ_CTL", off := 0x180, banked := true, rw := 0x380000F, w1s := 0x80000000 },
  { name := "CPH_FJ_LEN", off := 0x184, banked := true, rw := 0xFFFFFFFF },
  { name := "CPH_FJ_SRC", off := 0x188, w64 := true, banked := true, rw := 0xFFFFFFFFFF },
  { name := "CPH_FJ_DST", off := 0x190, w64 := true, banked := true, rw := 0xFFFFFFFFFF },
  { name := "CPH_FJ_IV_LO", off := 0x198, w64 := true, banked := true, rw := 0xFFFFFFFFFFFFFFFF },
  { name := "CPH_FJ_IV_HI", off := 0x1A0, w64 := true, banked := true, rw := 0xFFFFFFFFFFFFFFFF },
  { name := "CPH_FJ_TAG_LO", off := 0x1A8, w64 := true, banked := true, rw := 0xFFFFFFFFFFFFFFFF },
  { name := "CPH_FJ_TAG_HI", off := 0x1B0, w64 := true, banked := true, rw := 0xFFFFFFFFFFFFFFFF },
  { name := "CPH_RSLOT", off := 0x800, stride := 0x8, count := 256, w64 := true, rw := 0x40000000FFFFFFFF },
  { name := "CPH_CLOAD", off := 0x1000, stride := 0x4, count := 128 },
  { name := "CPH_CUSED", off := 0x1200, stride := 0x4, count := 128 },
  { name := "CPH_CSEC", off := 0x1400, stride := 0x4, count := 128 },
  { name := "CPH_PFSLOT", off := 0x1600 }]

/-- The registers whose Reset column is not 0 throughout, of the HDL windows. -/
def regs_hdl_r : List RegDef := [
  { name := "HDL_CORE_STS", off := 0x110, stride := 0x4, count := 4 },
  { name := "HDL_IRQ_ROUTE", off := 0x200, stride := 0x4, count := 100, rw := 0x80000003, reset := 0x80000000 }]

/-- The registers of the HDL windows. -/
def regs_hdl : List RegDef := regs_hdl_r ++ [
  { name := "HDL_CORE_CTL", off := 0x100, stride := 0x4, count := 4, rw := 0x1, w1s := 0xC0000000 }]

/-- The registers whose Reset column is not 0 throughout, of the MBX windows. -/
def regs_mbx_r : List RegDef := [
  { name := "MBX_CH_CTL", off := 0x4000, stride := 0x100, count := 64, rw := 0x80000003, reset := 0x80000000 }]

/-- The registers of the MBX windows. -/
def regs_mbx : List RegDef := regs_mbx_r ++ [
  { name := "MBX_SEND", off := 0x100, banked := true, rw := 0x4000003F, w1s := 0x80000000 },
  { name := "MBX_OP_STS", off := 0x104, banked := true },
  { name := "MBX_DEST", off := 0x108, banked := true, rw := 0xE0000FFF },
  { name := "MBX_APER_SEL", off := 0x10C, banked := true, rw := 0x8000003F },
  { name := "MBX_ACK", off := 0x110, w64 := true, banked := true, rw := 0x4000003FFFFFFFFF, w1s := 0x8000000000000000 },
  { name := "MBX_STG", off := 0x140, stride := 0x8, count := 8, w64 := true, banked := true, rw := 0xFFFFFFFFFFFFFFFF },
  { name := "MBX_CNT", off := 0x180, w64 := true },
  { name := "MBX_SEM", off := 0x800, stride := 0x4, count := 32 },
  { name := "MBX_SEM_FORCE", off := 0x880, rw := 0x1F, w1s := 0x80000000 },
  { name := "MBX_SEM_HELD", off := 0x884 },
  { name := "MBX_CH_STS", off := 0x4004, stride := 0x100, count := 64, w1c := 0x30000000 },
  { name := "MBX_IN_HDR", off := 0x4008, stride := 0x100, count := 64, w64 := true },
  { name := "MBX_OUT_HDR", off := 0x4010, stride := 0x100, count := 64, w64 := true },
  { name := "MBX_IN_MSG0", off := 0x4080, stride := 0x100, count := 64, w64 := true },
  { name := "MBX_OUT_MSG0", off := 0x40C0, stride := 0x100, count := 64, w64 := true },
  { name := "MBX_IN_MSG1", off := 0x4088, stride := 0x100, count := 64, w64 := true },
  { name := "MBX_OUT_MSG1", off := 0x40C8, stride := 0x100, count := 64, w64 := true },
  { name := "MBX_IN_MSG2", off := 0x4090, stride := 0x100, count := 64, w64 := true },
  { name := "MBX_OUT_MSG2", off := 0x40D0, stride := 0x100, count := 64, w64 := true },
  { name := "MBX_IN_MSG3", off := 0x4098, stride := 0x100, count := 64, w64 := true },
  { name := "MBX_OUT_MSG3", off := 0x40D8, stride := 0x100, count := 64, w64 := true },
  { name := "MBX_IN_MSG4", off := 0x40A0, stride := 0x100, count := 64, w64 := true },
  { name := "MBX_OUT_MSG4", off := 0x40E0, stride := 0x100, count := 64, w64 := true },
  { name := "MBX_IN_MSG5", off := 0x40A8, stride := 0x100, count := 64, w64 := true },
  { name := "MBX_OUT_MSG5", off := 0x40E8, stride := 0x100, count := 64, w64 := true },
  { name := "MBX_IN_MSG6", off := 0x40B0, stride := 0x100, count := 64, w64 := true },
  { name := "MBX_OUT_MSG6", off := 0x40F0, stride := 0x100, count := 64, w64 := true },
  { name := "MBX_IN_MSG7", off := 0x40B8, stride := 0x100, count := 64, w64 := true },
  { name := "MBX_OUT_MSG7", off := 0x40F8, stride := 0x100, count := 64, w64 := true }]

/-- The registers whose Reset column is not 0 throughout, of the EFL windows. -/
def regs_efl_r : List RegDef := [
  { name := "EFL_WDT_CTL", off := 0x120, rw := 0x8000FFFF, w1s := 0x60000000, rws := 0xA000FFFF, reset := 0x800007D0 }]

/-- The registers of the EFL windows. -/
def regs_efl : List RegDef := regs_efl_r ++ [
  { name := "EFL_CMD", off := 0x100, rw := 0xF000000, w1s := 0x80000000 },
  { name := "EFL_ADDR", off := 0x104, rw := 0x8007FFFF },
  { name := "EFL_STS", off := 0x108 },
  { name := "EFL_BOOT", off := 0x10C },
  { name := "EFL_ERASE_STS", off := 0x110, w64 := true },
  { name := "EFL_CNT", off := 0x118, w64 := true },
  { name := "EFL_WDT_STS", off := 0x124, w1c := 0x80000000, rws := 0x80000000 },
  { name := "EFL_WDATA", off := 0x140, stride := 0x8, count := 4, w64 := true, rw := 0xFFFFFFFFFFFFFFFF },
  { name := "EFL_INCMP", off := 0x180, stride := 0x4, count := 16 },
  { name := "EFL_OTP", off := 0x200, stride := 0x8, count := 64, w64 := true }]

/-- The registers whose Reset column is not 0 throughout, of the PWR windows. -/
def regs_pwr_r : List RegDef := [
  { name := "PWR_CFG", off := 0x108, rw := 0xF0000000, rws := 0xF0000000, reset := 0x50000000 },
  { name := "PWR_VLOOP", off := 0x110, rw := 0x87FFFFFF, rws := 0x87FFFFFF, reset := 0x143E8FA },
  { name := "PWR_RAIL", off := 0x200, stride := 0x8, count := 24, w64 := true, rw := 0xFFFFFFFFFFFFFFFF, rws := 0xFFFFFFFFFFFFFFFF, reset := 0x4828280 },
  { name := "PWR_PD", off := 0x400, stride := 0x4, count := 36 }]

/-- The registers of the PWR windows. -/
def regs_pwr : List RegDef := regs_pwr_r ++ [
  { name := "PWR_CTL", off := 0x100, w1s := 0xC0000000 },
  { name := "PWR_STS", off := 0x104, w1c := 0x8000000 },
  { name := "PWR_MEAS", off := 0x10C, rw := 0xFFFFFF, rws := 0xFFFFFF },
  { name := "PWR_VLOOP_STS", off := 0x114 },
  { name := "PWR_CAP", off := 0x118, rw := 0x3FF, rws := 0x3FF },
  { name := "PWR_PMB_CMD", off := 0x11C, rw := 0x73F7FFF, w1s := 0x80000000 },
  { name := "PWR_PMB_DATA", off := 0x120, stride := 0x8, count := 4, w64 := true, rw := 0xFFFFFFFFFFFFFFFF },
  { name := "PWR_PD_ON", off := 0x140, w64 := true, w1s := 0xFFFFFFFFF },
  { name := "PWR_PD_OFF", off := 0x148, w64 := true, w1s := 0xFFFFFFFFF },
  { name := "PWR_EVT_LAST", off := 0x158, w64 := true, rw := 0x7FF8000000000000, w1c := 0x8000000000000000, rws := 0xFFF8000000000000 },
  { name := "PWR_RSTS", off := 0x300, stride := 0x4, count := 24 },
  { name := "PWR_RADDR", off := 0x380, stride := 0x4, count := 24, rw := 0x8000FF7F, rws := 0x8000FF7F },
  { name := "PWR_RCNT", off := 0x500, stride := 0x8, count := 24, w64 := true, rw := 0xFFFFFFFFFFFFFFFF, rws := 0xFFFFFFFFFFFFFFFF },
  { name := "PWR_GPIO_CFG", off := 0x600, rw := 0xFFFFFFFF, rws := 0xFFFFFFFF },
  { name := "PWR_GPIO_OUT", off := 0x604, rw := 0xFFFF, rws := 0xFFFF },
  { name := "PWR_GPIO_IN", off := 0x608 }]

/-- The registers of the RST windows. -/
def regs_rst : List RegDef := [
  { name := "RST_GRP_CTL", off := 0x100, w1s := 0x8FFFFFFF },
  { name := "RST_GRP_STS", off := 0x104 },
  { name := "RST_CAUSE", off := 0x108 },
  { name := "RST_XOVR", off := 0x10C, w1c := 0xFF },
  { name := "RST_CNT", off := 0x110, w64 := true },
  { name := "RST_MS", off := 0x140, stride := 0x4, count := 8, rw := 0xFFFFFFFF }]

/-- The registers whose Reset column is not 0 throughout, of the REC windows. -/
def regs_recd_r : List RegDef := [
  { name := "REC_POS", off := 0x110, w64 := true, reset := 0x100000000 },
  { name := "REC_SEQ", off := 0x118, w64 := true, reset := 0x1 },
  { name := "REC_FW_CTL", off := 0x138, banked := true, rw := 0xFF003F, w1s := 0x80000000, reset := 0x2 }]

/-- The registers of the REC windows. -/
def regs_recd : List RegDef := regs_recd_r ++ [
  { name := "REC_CLEAR", off := 0x100, wo := 0xFFFFFFFF },
  { name := "REC_CLEAR_STS", off := 0x104, banked := true },
  { name := "REC_STS", off := 0x108 },
  { name := "REC_TIME", off := 0x120, w64 := true },
  { name := "REC_TIME_SET", off := 0x128, w64 := true, wo := 0xFFFFFFFFFFFFFFFF },
  { name := "REC_LOST", off := 0x130, w64 := true },
  { name := "REC_FW_DATA", off := 0x140, stride := 0x8, count := 30, w64 := true, banked := true, rw := 0xFFFFFFFFFFFFFFFF },
  { name := "REC_APER_SEL", off := 0x240, banked := true, rw := 0x1F }]

/-- The registers whose Reset column is not 0 throughout, of the TTH windows. -/
def regs_tth_r : List RegDef := [
  { name := "TTH_CFG", off := 0x100, rw := 0x1FFFF, reset := 0xE10 },
  { name := "TTH_LIFE", off := 0x110, w64 := true, reset := 0x2 },
  { name := "TTH_RD_SEL", off := 0x200, banked := true, rw := 0xFFFFFFFF, reset := 0x1 }]

/-- The registers of the TTH windows. -/
def regs_tth : List RegDef := regs_tth_r ++ [
  { name := "TTH_STS", off := 0x104 },
  { name := "TTH_REL", off := 0x108, wo := 0xFFFFFFFF },
  { name := "TTH_PUB", off := 0x140, stride := 0x4, count := 25 },
  { name := "TTH_HASH", off := 0x1C0, stride := 0x4, count := 12 }]

/-- The registers of a kind of window. -/
def blkRegs : Blk → List RegDef
  | .hpt => regs_hpt
  | .npt => regs_npt
  | .tin => regs_tin
  | .tc => regs_tc
  | .nch => regs_nch
  | .drm => regs_drm
  | .hrw => regs_hrw
  | .win => regs_win
  | .fur => regs_fur
  | .fc => regs_fc
  | .hrv => regs_hrv
  | .yok => regs_yok
  | .drl => regs_drl
  | .grn => regs_grn
  | .cph => regs_cph
  | .hdl => regs_hdl
  | .mbx => regs_mbx
  | .efl => regs_efl
  | .pwr => regs_pwr
  | .rst => regs_rst
  | .recd => regs_recd
  | .tth => regs_tth

/-- The registers of a kind of window whose Reset column is not 0 throughout. -/
def blkReset : Blk → List RegDef
  | .hpt => regs_hpt_r
  | .npt => []
  | .tin => regs_tin_r
  | .tc => regs_tc_r
  | .nch => regs_nch_r
  | .drm => regs_drm_r
  | .hrw => regs_hrw_r
  | .win => regs_win_r
  | .fur => regs_fur_r
  | .fc => regs_fc_r
  | .hrv => regs_hrv_r
  | .yok => regs_yok_r
  | .drl => regs_drl_r
  | .grn => regs_grn_r
  | .cph => regs_cph_r
  | .hdl => regs_hdl_r
  | .mbx => regs_mbx_r
  | .efl => regs_efl_r
  | .pwr => regs_pwr_r
  | .rst => []
  | .recd => regs_recd_r
  | .tth => regs_tth_r

end Sys2Proof.Machine
end

