-- ==== Sys2Proof/Machine/State.lean ====
section
/-!
DEFINITION. Machine/State.lean: all the state that spec/ gives the CN-6400B, as plain data, and its value right after
the always-on island's power-on (R582). Every register of the control-space map stands in `csr`, by address
(Machine/Fields.lean names each field, Machine/RegTable.lean gives access codes and reset values); what the chapters
give the blocks beside their registers stands in one structure per block.
-/
namespace Sys2Proof.Machine
open Sys2Proof

/-! ## Common -/

/-- The high-half shadow of one requester (R17): the register it was latched from and the latched half. -/
structure Shadow where
  a : Agent
  addr : Nat
  hi : Nat
  deriving DecidableEq, Repr

/-- A class of event that is counted within a window of time. -/
inductive StampKind where
  | linkEvt      -- a link-down or failed-training event of a sub-link (R85)
  | ncErr        -- an uncorrectable or tag error of a near-cache way or entry (R169)
  | ncCe         -- a corrected error of a near-cache way or entry (R169)
  | vote         -- an outvoted copy of a lock-table way (R600)
  | rankUe       -- a twice-uncorrectable line of a DRAM rank (R207)
  deriving DecidableEq, Repr

/-- One such event: what it counts against, and when it came about (`State.clk`). -/
structure Stamp where
  kind : StampKind
  unit : Nat
  t : Nat
  deriving DecidableEq, Repr

/-- A record of the event recorder before it is written to memory (R613): the header's TYPE, SOURCE and TIME and the
payload bytes from byte 16 on. LEN follows from the payload, SEQ is given when the record is written (R614). -/
structure Rec where
  ty : Nat
  src : Nat
  time : Nat
  pay : List Byte
  deriving DecidableEq, Repr

/-- The event recorder beside its registers (R612, R617, R623, R624). `queue` is the input queue, oldest first.
`lostSince` counts the drops that the next DROPPED record will carry; `written` the records written in this epoch; `mem` is
the 1 MiB memory; `image` the dumped image of R624. -/
structure Recorder where
  queue : List Rec := []
  lostSince : Nat := 0
  written : Nat := 0
  mem : SMap Byte := []
  image : SMap Byte := []
  deriving DecidableEq, Repr

/-- The contents of a 4 KiB page: its bytes by offset, and the key that each of its 64 lines is encrypted under. -/
structure PageImg where
  data : SMap Byte := []
  key : SMap Key := []
  deriving DecidableEq, Repr

/-! ## Tines (chapters 02 and 04) -/

/-- Who made a memory access: an LD of a link with the CXL tag, a multi-line operation of Drill, of a job queue or of
Yoke by its number, or an internal write (R131). -/
inductive Src where
  | ld (link ld tag : Nat)
  | conn (conn op : Nat)
  | job (queue op : Nat)
  | yoke (op : Nat)
  | intern
  deriving DecidableEq, Repr

/-- The atomics of Drill and of job queues (R383). -/
inductive AtomOp where
  | fetchAdd | swap | compareSwap
  deriving DecidableEq, Repr

/-- The kind of an access. An atomic acts on the aligned 8 bytes at word `w` of the line. -/
inductive AccKind where
  | read
  | write
  | zero
  | atomic (op : AtomOp) (w : Nat) (x y : Word64)
  deriving DecidableEq, Repr

/-- Where a request stands. -/
inductive Phase where
  | xbar                 -- in the central crossbar, before its home queue (R115) or held (R142, R581)
  | queued               -- in its home tine's input queue (R115)
  | way                  -- waits for a free way of the lock table (R121)
  | order                -- waits its turn in the line's lock order (R121)
  | mirror               -- a read waits while the entry is MIRROR_WAIT (R124)
  | cbLine               -- a write waits for a free combining-buffer line (R127)
  | handed               -- a write waits for the draining line (R122)
  | entry                -- waits for the authoritative tier-map entry (R129)
  | dram (frame : Nat)   -- waits for a DRAM read (R130)
  | page                 -- waits for its page: a promotion, a cold read, a heal or poisoning (R228, R239, R241)
  | joined               -- joined an outstanding miss entry (R153)
  | lag                  -- waits for its region's lag to fall below its limits (R325)
  | twin (left : Nat)    -- accepted; `left` frames await the twin's acknowledgement (R23, R119)
  deriving DecidableEq, Repr

/-- One line access in the tines. `spec` is the frame a speculative read was issued to (R129), `specBack` whether its
data has returned; `fill` whether it owns a miss entry of its near-cache bank; `poison` marks a host write that
carries poison (R104). -/
structure Req where
  id : Nat
  src : Src
  kind : AccKind
  line : Nat
  mask : LMask := 0
  data : Line := 0
  poison : Bool := false
  region : Nat := 0
  tenant : Nat := 0
  tine : Nat := 0
  phase : Phase := .queued
  spec : Option Nat := none
  specBack : Bool := false
  fill : Bool := false
  deriving DecidableEq, Repr

/-- The modes of a lock-table entry (R119). -/
inductive AltMode where
  | shared | excl | held | mirrorWait
  deriving DecidableEq, Repr

/-- A lock-table entry: its line, its way in the line's set, its mode, the reads outstanding. -/
structure AltEnt where
  line : Nat
  way : Nat
  mode : AltMode
  readers : List Nat := []
  deriving DecidableEq, Repr

/-- What a line handed to its drain waits for (R125, R126, R219, R240). -/
inductive DrainWait where
  | none        -- not handed to the drain
  | ready       -- may be accepted into a write queue
  | frame       -- waits for a frame and headroom
  | promo       -- waits for a promotion
  | headroom    -- waits for dirty headroom
  | hold        -- held for a move's switch (R235)
  deriving DecidableEq, Repr

/-- A combining-buffer line: the tine and the slot it lies in, its bytes and mask, its region, whether it has been
handed to the drain, and how many TWIN_SYNC writes merged into it await the twin. -/
structure CbLine where
  tine : Nat
  slot : Nat
  line : Nat
  data : Line
  mask : LMask
  region : Nat
  drain : DrainWait := .none
  twin : Nat := 0
  deriving DecidableEq, Repr

/-- An entry of a cluster's tier hint table: its index, the page and the frame. -/
structure Hint where
  cluster : Nat
  idx : Nat
  page : Nat
  frame : Nat
  deriving DecidableEq, Repr

/-- The TIN_RGN_COMMIT operation whose drain is running (R68): its region, the requests checked under the old entry,
and whether it is a DESTROY. -/
structure RgnOp where
  region : Nat
  old : List Nat
  destroy : Bool
  deriving DecidableEq, Repr

/-- A fence of tines in progress (R142): the cluster, the positions concerned and whether it is the whole cluster. -/
structure TineFencing where
  cluster : Nat
  tines : List Nat
  whole : Bool
  deriving DecidableEq, Repr

/-- A multi-line operation of Drill, of a job queue or of Yoke: the line accesses still outstanding, the first failure (0
none, else the reason of R60, 0x10 for poison, 0x11 for a modifying access with an empty key slot, 0x12 for an abandoned
access), the data of the lines read with their poison, and the old words of atomics. `group` is the connection group it is
checked under, `buf` its Granary buffer, `hold` the modifying lines not yet accepted: at the last one the buffer goes back
(R371, R414). -/
structure MemOp where
  id : Nat
  left : Nat
  status : Nat := 0
  data : List (Nat × Line × Bool) := []
  old : List Word64 := []
  group : Nat := 0
  buf : Option Nat := none
  hold : Nat := 0
  deriving DecidableEq, Repr

/-- The tines, the crossbar, the lock table and the combining buffers. `xbar`, `queue` and `act` hold requests oldest
first: waiting in the crossbar, in the input queues, and started. `cb` holds lines least recently written first.
`releasing` lists the regions whose range Winnow is releasing (R69); `selfBad` the tines whose last self-check failed (R599). -/
structure Fabric where
  nextId : Nat := 0
  xbar : List Req := []
  queue : List Req := []
  act : List Req := []
  alt : List AltEnt := []
  waysOut : List (Nat × Nat) := []
  cb : List CbLine := []
  hints : List Hint := []
  rgnOp : Option RgnOp := none
  releasing : List Nat := []
  fencing : List TineFencing := []
  hold : Bool := false
  ops : List MemOp := []
  selfBad : List Nat := []
  deriving DecidableEq, Repr

/-! ## Near cache (chapter 05) -/

/-- A valid cache way. -/
structure NcWay where
  set : Nat
  way : Nat
  line : Nat
  data : Line
  deriving DecidableEq, Repr

/-- A valid side-buffer entry, `slot` 0 to 511. -/
structure SbEnt where
  slot : Nat
  line : Nat
  data : Line
  deriving DecidableEq, Repr

/-- A miss entry: its line, whether it is a prefetch, the reads it serves, whether it was killed (R157), whether
nothing may be installed for it (R155), and the data once returned, with its poison. -/
structure MissEnt where
  line : Nat
  prefetch : Bool
  reads : List Nat
  killed : Bool := false
  noInstall : Bool := false
  data : Option (Line × Bool) := none
  deriving DecidableEq, Repr

/-- A page of the page tracker with the distinct lines that missed (R161). -/
structure TrackEnt where
  page : Nat
  lines : List Nat
  deriving DecidableEq, Repr

/-- Who issued a range invalidation (R165). -/
inductive InvSrc where
  | release (region : Nat)
  | poison (page : Nat)
  | sanitise
  | firmware
  deriving DecidableEq, Repr

/-- A range invalidation of `len` tier pages from page `base`. -/
structure InvReq where
  base : Nat
  len : Nat
  src : InvSrc
  deriving DecidableEq, Repr

/-- One near-cache bank. `sb`, `track` and `inv` are oldest first; `invNow` is the invalidation in progress, `invWait`
the sources waiting outside the queue of four; `plru` lists the sets whose pseudo-LRU bits are not all 0. -/
structure NcBank where
  ways : List NcWay := []
  plru : SMap (BitVec 15) := []
  sb : List SbEnt := []
  miss : List MissEnt := []
  track : List TrackEnt := []
  invNow : Option InvReq := none
  inv : List InvReq := []
  invWait : List InvReq := []
  sweeping : Bool := false
  deriving DecidableEq, Repr

/-! ## DRAM (chapter 06) -/

/-- The classes of a DRAM request (R186). -/
inductive DqClass where
  | panic | aged | batch | demand | background | patrol
  deriving DecidableEq, Repr

/-- A request in a channel's queue: which queue, the line address frame × 64 + line, its class and, for a read, the
tine request it serves; `origin` is the ingress it carries (R186). -/
structure DqEnt where
  sub : Nat
  write : Bool
  line : Nat
  cls : DqClass
  req : Nat := 0
  origin : Option PanicSrc := none
  deriving DecidableEq, Repr

/-- An entry of a channel's corrected-error tracker (R200). -/
structure CeEnt where
  line : Nat
  first : Nat
  last : Nat
  count : Nat
  deriving DecidableEq, Repr

/-- The phases of self-refresh entry (R195, R196). -/
inductive SrPhase where
  | awake | asked | inSr
  deriving DecidableEq, Repr

/-- A channel's fence in progress (R208): rank, or none for the whole channel; DROP mode; whether firmware asked. -/
structure DramFencing where
  rank : Option Nat
  drop : Bool
  deriving DecidableEq, Repr

/-- One DRAM channel beside its registers. `shadow` holds the delay shadows by register address (R198); `spareBad` the
spare lines that have erred (R202); `openRows` the open row of a bank; `owed` the intervals each rank owes; `hot` the ranks at double rate; `caps` the
alerts in a row (R193); `fencedRanks` the ranks out of service. -/
structure DramCh where
  q : List DqEnt := []
  shadow : SMap Word64 := []
  trained : Bool := false
  owed : SMap Nat := []
  hot : List Nat := []
  track : List CeEnt := []
  spareBad : List Nat := []
  caps : Nat := 0
  sr : SrPhase := .awake
  fencing : List DramFencing := []
  fencedRanks : List Nat := []
  holdover : Bool := false
  openRows : List (Nat × Nat) := []
  deriving DecidableEq, Repr

/-- DRAM: the bytes of every line at line × 64 + offset, where line is frame × 64 + line, the key each line was last
written under, the channels; `hrwLine` is Harrow's line within its page or frame, `hrwStart` when its pass began. -/
structure Dram where
  mem : SMap Byte := []
  key : SMap Key := []
  ch : List DramCh := List.replicate 16 {}
  yokePanic : Bool := false
  drillPanic : Bool := false
  hrwLine : Nat := 0
  hrwStart : Nat := 0
  deriving DecidableEq, Repr

/-! ## Winnow (chapter 07) -/

/-- The states of a tier page (R213). -/
inductive TierState where
  | unwritten | dramOnly | dramClean | dramDirty | flashOnly | poisoned
  deriving DecidableEq, Repr

/-- A tier-map entry (R213). `frame` none is the value 0x7FFF_FFFF. -/
structure TierEnt where
  state : TierState := .unwritten
  heat : Nat := 0
  frame : Option Nat := none
  dirty : Bool := false
  poison : Bool := false
  migrating : Bool := false
  pinned : Bool := false
  region : Nat := 0
  psrc : Nat := 0
  deriving DecidableEq, Repr

/-- What the frame table says of a frame (R216). -/
inductive FrameUse where
  | free
  | page (p : Nat)
  | retired
  | quarantined
  deriving DecidableEq, Repr

/-- A poison-table record (R216): the PSRC and the lines rewritten since the page entered POISONED. -/
structure PoisonRec where
  psrc : Nat
  mask : LMask
  deriving DecidableEq, Repr

/-- The kinds of move (R233) and the cold read of R228, which uses a staging buffer but switches nothing. -/
inductive MoveKind where
  | promotion | demotion | cleaning
  | frameMove (retire : Bool)
  | cold
  deriving DecidableEq, Repr

/-- A move of a tier page (R235): its kind, the destination frame if it has one, the lines drained since they were
copied, the page as it stands in staging, whether the copy has reached its destination, whether drains are held, and
whether a requester waits on it. -/
structure Move where
  kind : MoveKind
  page : Nat
  dest : Option Nat := none
  mask : LMask := 0
  staged : Option PageImg := none
  admitted : Bool := false
  copied : Bool := false
  hold : Bool := false
  demand : Bool := false
  deriving DecidableEq, Repr

/-- A page on its way into POISONED (R239): the source, the cause and lines of the data-loss record (none for a host's
own poison), whether a heal is under way. -/
structure Poisoning where
  page : Nat
  psrc : Nat
  cause : Nat
  lines : LMask
  invEnded : Bool := false
  healing : Bool := false
  deriving DecidableEq, Repr

/-- A rebuild of a damaged reserve line (R243). -/
inductive Rebuild where
  | tierLine (page : Nat)
  | frameLine (frame : Nat)
  deriving DecidableEq, Repr

/-- The pin operation in progress (R225). -/
structure PinOp where
  pin : Bool
  base : Nat
  len : Nat
  deriving DecidableEq, Repr

/-- Winnow beside its registers. `dirtyAge` lists DIRTY pages in the order they became dirty (R231); `frameWait` the
frames promised to waiting drains; `cut` and `ring` are the demoter's (R230); `curs` the ceiling scan's cursor and k
per region; `unswept` the DRAM_CLEAN pages whose frame did not survive, which count as FLASH_ONLY until the Resow sweep
rewrites them (R310). -/
structure Winnow where
  tier : SMap TierEnt := []
  frames : SMap FrameUse := []
  poisonT : List (Nat × PoisonRec) := []
  moves : List Move := []
  poisoning : List Poisoning := []
  rebuild : List Rebuild := []
  pinOp : Option PinOp := none
  ring : List Nat := []
  cut : Nat := 0
  curs : List (Nat × Nat × Nat) := []
  epochOn : Bool := false
  epochAt : Nat := 0
  sweepDone : Bool := true
  dirtyAge : List Nat := []
  cleaning : Bool := false
  demoting : Bool := false
  retire : List Nat := []
  unswept : List Nat := []
  deriving DecidableEq, Repr

/-! ## Furrow (chapter 08) -/

/-- The streams that Furrow writes (R259). -/
inductive FStream where
  | fresh | reloc | metadata
  deriving DecidableEq, Repr

/-- A written slot: its location in the layout of R256, the logical page, region and write sequence number of its
header (R252), its contents, whether it holds metadata, and whether it still stands in the write buffer (R260). -/
structure FSlot where
  loc : Nat
  page : Nat
  region : Nat
  wseq : Nat
  img : PageImg
  isMeta : Bool := false
  inBuf : Bool := true
  deriving DecidableEq, Repr

/-- The roles of a superblock (R254). -/
inductive SbRole where
  | free | data | metadata | reserve
  deriving DecidableEq, Repr

/-- A superblock that is not as format left it: its role, its mean erase count, the stream it is open for, its place in the
order of closing (0: not closed), whether it is being relocated, whether as a victim of collection, whether its members are
erasing; the channels of the members it was built with (R253, R272), and those of members erased under it by an unfence (R274). -/
structure FSuper where
  role : SbRole := .free
  erases : Nat := 0
  stream : Option FStream := none
  closed : Nat := 0
  relocating : Bool := false
  gc : Bool := false
  erasing : Bool := false
  members : List Nat := []
  gone : List Nat := []
  deriving DecidableEq, Repr

/-- An operation of a LUN: a program or an erase, on a superblock, running or suspended. -/
structure LunOp where
  lun : Nat
  erase : Bool
  sb : Nat
  suspended : Bool := false
  deriving DecidableEq, Repr

/-- Why a slot is read. -/
inductive FReadWhy where
  | promote | cold | reloc | scan
  deriving DecidableEq, Repr

/-- A slot read in progress: its page, the location it captured, why, and, once decoded, whether it succeeded. -/
structure FRead where
  page : Nat
  loc : Nat
  why : FReadWhy
  done : Option Bool := none
  deriving DecidableEq, Repr

/-- A relocation: the page, the slot it came from and the slot it was written into. -/
structure Reloc where
  page : Nat
  src : Nat
  dst : Option Nat := none
  deriving DecidableEq, Repr

/-- Furrow beside its registers. `map` gives 1 + location for a mapped page and 0 for one that is not (R256); `sbs` the
superblocks by (CE position × 4 + LUN position) × 16384 + block group; `reads` the reads since erase of a block, by
LUN × 16384 + block; `retired` the retired LUNs; `bad` the retired blocks, `failing` those to retire once their superblock
is relocated (R271); `spares` the spare blocks used by LUN × 4 + plane; `reserve` the RESERVE superblocks. `g0` and `g` are
the governor's rate at format and now in bytes per second, `govAt` when the allowance last grew; `admitted` and
`programmed` the bytes of this hour, `week` those of the hours before, newest first; `capFmt` HRV_CAP.CAP_GIB at format;
`lost` the relocations that lost their race (R267); `formatted` whether the flash tier has been formatted. `shadow` holds the delay shadows by register address. -/
structure Furrow where
  map : SMap Nat := []
  slots : List FSlot := []
  sbs : SMap FSuper := []
  ops : List LunOp := []
  rds : List FRead := []
  relocs : List Reloc := []
  reads : SMap Nat := []
  retired : List Nat := []
  bad : List Nat := []
  failing : List Nat := []
  reserve : Nat := 0
  spares : SMap Nat := []
  wseq : Nat := 0
  closeSeq : Nat := 0
  g0 : Nat := 0
  g : Nat := 0
  govAt : Nat := 0
  admitted : Nat := 0
  programmed : Nat := 0
  week : List (Nat × Nat) := []
  lost : Nat := 0
  formatAt : Nat := 0
  capFmt : Nat := 0
  shadow : SMap Word64 := []
  formatted : Bool := false
  deriving DecidableEq, Repr

/-! ## Cipher engine (chapter 13) -/

/-- A job on the firmware lane (R430): the core whose bank it came from, MODE, DECRYPT, slot, offsets, lengths, the IV and the
tag offered; its key once it has started, none in it where the slot was EMPTY. -/
structure FwJob where
  agent : Agent
  mode : Nat
  dec : Bool
  slot : Nat
  src : Nat
  dst : Nat
  len : Nat
  aad : Nat
  iv : BitVec 128
  tag : BitVec 128
  key : Option (Option Key) := none
  deriving DecidableEq, Repr

/-- The keys of the cipher engine: region, connection, path and firmware slots, and the device key; the firmware jobs, the
first one running; Headland working memory (2 GiB); the lanes out of service and those whose self-test is still to end, the
first one running. Lanes 0 to 31 are XTS, 32 to 35 XTS service, 36 to 67 GCM, 68 the firmware lane; `fwBad`: the firmware
lane has failed its self-test. -/
structure Cipher where
  fwq : List FwJob := []
  work : SMap Byte := []
  lanesOut : List Nat := []
  fwBad : Bool := false
  testing : List Nat := []
  rkey : SMap Key := []
  ckey : SMap Key := []
  pkey : SMap Key := []
  fkey : SMap Key := []
  devKey : Key := 0
  deriving DecidableEq, Repr

/-! ## Harvest (chapter 09) -/

/-- A line record (R299): the line, the byte mask, the data, MIRROR_WAIT and POISON flags, and its region. -/
structure LineRec where
  line : Nat
  mask : LMask
  data : Line
  mw : Bool := false
  poison : Bool := false
  region : Nat
  deriving DecidableEq, Repr

/-- What starts a Harvest, and a Harvest that runs (R294, R563): CAUSE of R300, whether it is BEST_EFFORT, whether a lost
power-good or PWR_FLT_N started it, whether a watchdog escalation did (R546); when it began, as time since power-on and as
timestamp, and the line records of step 2. -/
structure HvRun where
  cause : Nat
  best : Bool := false
  fault : Bool := false
  escal : Bool := false
  t0 : Nat := 0
  ts : Nat := 0
  recs : List LineRec := []
  deriving DecidableEq, Repr

/-- A tier page in the dump (R298): the page, its contents, its entry and the MASK of its slot. -/
structure DumpPage where
  page : Nat
  img : PageImg
  ent : TierEnt
  mask : LMask
  deriving DecidableEq, Repr

/-- What the manifest says beside the dump (R300): EFF_GIB, host capacity, the stripe width, the lines found uncorrectable, the blocks that
failed to program, the masks of fenced DRAM channels, tine clusters and NAND channels, the LUNs retired, the serial number, and the number
of its first free value. -/
structure DumpInfo where
  eff : Nat := 0
  cap : Nat := 0
  width : Nat := 0
  ue : Nat := 0
  fails : List Nat := []
  drm : Nat := 0
  tc : Nat := 0
  fc : Nat := 0
  luns : List Nat := []
  serial : List Byte := []
  free : Nat := 0
  deriving DecidableEq, Repr

/-- A dump in the reserve (R297 to R300): its sequence number, cause and outcome, the timestamps of its start and its seal,
whether a manifest stands, whether the save set is whole, the tier pages, the pages whose slot was not written, the line
records, the journal and the recorder's copy, the superblocks it lies in, and what else its manifest says. -/
structure Dump where
  dseq : Nat
  cause : Nat
  outcome : Nat
  start : Nat
  sealAt : Nat := 0
  sealed : Bool
  saveSet : Bool := true
  pages : List DumpPage := []
  lost : List Nat := []
  lines : List LineRec := []
  journal : SMap Word64 := []
  image : SMap Byte := []
  used : List Nat := []
  info : DumpInfo := {}
  deriving DecidableEq, Repr

/-- Harvest and Resow beside their registers. `replay` holds the line records that wait for their region's key (R308); `pend`
a Harvest that has been started and whose first step is still to come, `run` one that runs; `armed` whether Resow has armed
Harvest since the power-up (R311); `resown` whether Resow has finished; `dump` the last dump; `armSeq` and `armSb` the arm
record in embedded flash (the next DSEQ and the start of the erased space); `latched` the groups whose reset waits for the
end of the Harvest (R302); `journal` the journalled registers as last written; `dirtyShut` the dirty-shutdown count of R108;
`world` the journalled world configuration, by register, none on a device never commissioned (R481);
`failSlot` the HARVEST slot whose loss stops the Harvest; `declared` when STORE_J was last declared; `resowAt` when Resow
began. -/
structure Harvest where
  replay : List LineRec := []
  pend : Option HvRun := none
  run : Option HvRun := none
  armed : Bool := false
  resown : Bool := false
  dump : Option Dump := none
  armSeq : Nat := 0
  armSb : Nat := 0
  latched : Nat := 0
  journal : SMap Word64 := []
  dirtyShut : Nat := 0
  world : Option (SMap Word64) := none
  failSlot : Option Nat := none
  declared : Nat := 0
  resowAt : Nat := 0
  deriving DecidableEq, Repr

/-! ## Power and reset (chapters 17 and 18) -/

/-- The write phase of a sideband read that awaits its read phase (R656): READ64, whether its PEC was good, the address. -/
structure SbPhase where
  wide : Bool
  pec : Bool
  addr : Nat
  deriving DecidableEq, Repr

/-- The power sequencer beside its registers: the slots that are being taken down, the state that the power-down leads to
(0 STANDBY, 5 FALLOW, 6 FAULT), the slots whose power-good has risen since they were enabled, when the power-up began;
whether VDDIO_SB is too low for its inputs to be trusted (R651), whether the always-on island is held in reset (R583), and
the last VOUT_COMMAND of the voltage loop in mV (R568). -/
structure Power where
  taking : List Nat := []
  goal : Option Nat := none
  risen : List Nat := []
  upAt : Nat := 0
  sbBad : Bool := false
  held : Bool := false
  vset : Nat := 750
  strap : Nat := 0
  i3c : Option Nat := none
  sbRead : Option SbPhase := none
  holdover : List Nat := []
  deriving DecidableEq, Repr

/-- A fence that waits until Harvest, or the group's reset, ends (R605): its window, sub-unit, the device's fault bit or 0xFF
for firmware, mode, and whether the device asks. -/
structure HeldFence where
  win : Nat
  sub : Nat
  bit : Nat
  mode : Nat
  dev : Bool
  deriving DecidableEq, Repr

/-- The reset controller beside its registers: the groups in reset, the groups that wait, the requester's cause
(RST_CAUSE.GRP_CAUSE), the fences held. -/
structure Resets where
  groups : Nat := 0
  pend : Nat := 0
  cause : Nat := 0
  pendCause : Nat := 0
  held : List HeldFence := []
  deriving DecidableEq, Repr

/-! ## Yoke (chapter 10) -/

/-- An entry handed to Yoke: what it carries, its region, the request whose completion waits for it, its class of R333
(1 mirror write, 2 heal or role, 3 resilver or resync) and when it was handed over. -/
structure YSent where
  ent : YokeEntry
  region : Nat
  req : Option Nat
  cls : Nat
  t : Nat
  deriving DecidableEq, Repr

/-- A sent frame in the transmit log (R336): its FSN and generation, its entries, the retransmissions so far. -/
structure YFrame where
  fsn : Nat
  gen : Bool
  ents : List YSent
  attempt : Nat := 0
  deriving DecidableEq, Repr

/-- A received DATA frame that is held or being applied, with the Granary buffers it spilled into (R337). -/
structure YRx where
  fsn : Nat
  gen : Bool
  ents : List YokeEntry
  bufs : List Nat := []
  deriving DecidableEq, Repr

/-- The handshake of a pair (R343): idle, HELLO sent (initiator), HELLO_RSP sent (responder). -/
inductive YHand where
  | idle | hello | rsp
  deriving DecidableEq, Repr

/-- A pair. `queue`: entries handed over and not yet framed. `log`: frames not acknowledged. `txFsn`: the next FSN. `held`:
frames received above the applied point; `rxIdx` and `rxOp`: the entry of the next frame that is being applied, and its
multi-line operation; `rxGen`: the generation of the applied point. `csn`: control sequence numbers sent and accepted, per
path. `hand`, `handGen` and the nonces: a handshake. `keyed`: keys are in force; `oldTx`: a GEN_END is not acknowledged.
`errs`: error records to send. `seen`: frames that one path alone has carried so far (R356 MISS). -/
structure YPair where
  queue : List YSent := []
  log : List YFrame := []
  txFsn : Nat := 1
  held : List YRx := []
  applied : Nat := 0
  rxGen : Bool := false
  rxIdx : Nat := 0
  rxOp : Option Nat := none
  csnTxA : Nat := 0
  csnTxB : Nat := 0
  csnA : Nat := 0
  csnB : Nat := 0
  hand : YHand := .idle
  handGen : Bool := false
  nonceI : BitVec 256 := 0
  nonceR : BitVec 256 := 0
  keyed : Bool := false
  oldTx : Bool := false
  errs : List (Nat × Nat × Nat) := []
  seen : List (Nat × Nat) := []
  deriving DecidableEq, Repr

/-- Why a heal was asked for: a line lost in a combining buffer (R128), a line lost in DRAM (R190), a page on its way
into POISONED (R239), an uncorrectable flash page (R241), a POISONED page by command (R519), a dump loss (R309). -/
inductive HealWhy where
  | cbLine | dramLine | poison | flash | command | resow
  deriving DecidableEq, Repr

/-- A heal outstanding or waiting (R348, R349): its number, line (a page's first line), kind, cause; the window whose
HEALING bit it holds; whether a write has overtaken lines of it. -/
structure Heal where
  num : Nat
  line : Nat
  page : Bool
  why : HealWhy
  win : Nat
  overw : LMask := 0
  deriving DecidableEq, Repr

/-- The resilver or resync running (R350, R342): its region, whether it is a resync, the next page, the end of the granule
being copied (a resync), whether it is to stop at the next checkpoint. -/
structure Resilver where
  region : Nat
  resync : Bool
  page : Nat
  stop : Bool := false
  deriving DecidableEq, Repr

/-- A HEAL_REQ of the twin that waits for the applied points it names (R348): number, line, page or line, and per pair the
generation and FSN. -/
structure HealIn where
  num : Nat
  line : Nat
  page : Bool
  need : List (Bool × Nat)
  deriving DecidableEq, Repr

/-- Yoke beside its registers. `marks` is the change map by granule of 64 MiB; `prior` the state a STALLED region held;
`owesRsv` the regions that owe a resilver when they leave SPLIT (R322); `twinSaid` the twin's announced role and epoch by
region; `lagT` when a TWIN_LAG granule last had a line handed over, `lagOnly` the granules marked for that alone (R341); `healQ` heals waiting for one of the 64; `healDone`
heals answered by a HEAL entry; `healIn` the twin's heals that wait; `rsvQ` the regions that need a resilver or a resync
(R503); `relay` the messages of the twin-relay channels that await their MBX_ACK: channel, and the paths and CSNs they were
sent under; `relaySeen` the header word last delivered to a channel. -/
structure Yoke where
  pairs : List YPair := [{}, {}]
  marks : List Nat := []
  prior : SMap Nat := []
  owesRsv : List Nat := []
  heals : List Heal := []
  healQ : List Heal := []
  healNum : Nat := 0
  healDone : List (Nat × Nat × List Line) := []
  healEnded : List (Nat × Nat) := []
  healIn : List HealIn := []
  rsv : Option Resilver := none
  rsvQ : List Nat := []
  lagT : List (Nat × Nat) := []
  lagOnly : List Nat := []
  twinSaid : List (Nat × Nat × Nat) := []
  relay : List (Nat × List (Nat × Nat)) := []
  relaySeen : List (Nat × Nat) := []
  serialTwin : Nat := 0
  deriving DecidableEq, Repr

/-! ## Drill (chapters 11 and 12) -/

/-- The opcodes of the endpoint's sequenced stream (R362). -/
inductive DOp where
  | write | read | atomic | job | jqRead | mbx | error
  deriving DecidableEq, Repr

/-- Where a received request stands: it waits for lower PSNs (R374), stands in the final slot (R375), runs as an operation
over lines, waits for its mailbox slot (R454), is a waiting JQ_READ (R407), or has failed and waits for the endpoint to
acknowledge the ERROR packet (R373). -/
inductive DPhase where
  | wait
  | final
  | run (op : Nat)
  | slot
  | jq
  | failed
  deriving DecidableEq, Repr

/-- A received request that has not completed: its PSN, opcode, FINAL and MSG_OFF, extension, the bytes after it, its Granary
buffer; `again` marks a READ or JQ_READ executed again (R372). -/
structure DReq where
  psn : Nat
  op : DOp
  final : Bool
  off : Nat
  ext : BitVec 128
  data : List Byte
  phase : DPhase := .wait
  buf : Option Nat := none
  again : Bool := false
  deriving DecidableEq, Repr

/-- A packet of the device's sequenced stream, retained until it is acknowledged (R380): its PSN (0 while it waits for room),
opcode, FINAL, MSG_OFF, payload, retransmissions, Granary buffer; the PUSH job it belongs to; the request that an
ERROR packet reports. -/
structure DSent where
  psn : Nat := 0
  op : Nat
  final : Bool := false
  off : Nat := 0
  pay : List Byte
  attempt : Nat := 0
  buf : Option Nat := none
  job : Option Nat := none
  err : Option Nat := none
  deriving DecidableEq, Repr

/-- A connection. `state` 0 CLOSED, 1 OPENING, 2 OPEN; `desc` the 128 bytes of its descriptor; the device nonce, the N_E
answered, the MAXPL code agreed; the completion point, the PSNs completed above it in ascending order, the requests, the
lowest PSN not presented (R374); the cached atomics, newest first, as PSN, status, old value (R383); the next PSN and RSN;
packets retained and packets that wait for room; the time of the last ACK, whether one waits (R378) and its flags; the CLOSE
packets still to send and their code; counts. -/
structure DConn where
  state : Nat := 0
  desc : Nat := 0
  nd : BitVec 128 := 0
  ne : Option (BitVec 128) := none
  code : Nat := 0
  c : Nat := 0
  done : List Nat := []
  reqs : List DReq := []
  next : Nat := 1
  atoms : List (Nat × Nat × Word64) := []
  txPsn : Nat := 1
  rsn : Nat := 1
  sent : List DSent := []
  txWait : List DSent := []
  ackAt : Option Nat := none
  ackWait : Bool := false
  ackNobuf : Bool := false
  ackWindow : Bool := false
  closing : Option (Nat × Nat) := none
  lastClose : Nat := 0
  retx : Nat := 0
  dup : Nat := 0
  errors : Nat := 0
  deriving DecidableEq, Repr

/-- A descriptor in a ring that has not started: its job number and its 64 bytes. -/
structure JDesc where
  num : Nat
  d : Line
  deriving DecidableEq, Repr

/-- A started job (R400 to R405). `next` is the first chunk or packet not presented; `parts` those in flight, by number and
operation; `noBuf`: an ALLOC failed; `stop`: nothing more is presented; `pois`: a COPY met poison; `unacked` the PUSH packets
sent and not acknowledged; `ended`: it has completed or failed and
awaits JOB_COMPLETE; `orphan`: it has failed and been counted, with accesses outstanding. -/
structure JRun where
  id : Nat
  queue : Nat
  num : Nat
  d : Line
  next : Nat := 0
  parts : List (Nat × Nat) := []
  status : Nat := 0
  noBuf : Bool := false
  stop : Bool := false
  pois : Bool := false
  unacked : Nat := 0
  orphan : Bool := false
  ended : Bool := false
  deriving DecidableEq, Repr

/-- A job queue beside its registers: whether it is bound, its owner's connection group, the next job number, the ring's descriptors not started,
the numbers completed above the count, the failed job, whether DRL_JQ_CMD_STS.BUSY waits for it. -/
structure JQueue where
  bound : Bool := false
  group : Nat := 0
  nextNum : Nat := 1
  ring : List JDesc := []
  done : List Nat := []
  failed : Option Nat := none
  unbind : Bool := false
  deriving DecidableEq, Repr

/-- Drill beside its registers: connections, queues, the jobs started in order, the queue served last (R400), the waiting
JQ_READs as connection and PSN (R407). -/
structure Drill where
  conns : SMap DConn := []
  jqs : SMap JQueue := []
  jobs : List JRun := []
  turn : Nat := 0
  waits : List (Nat × Nat) := []
  deriving DecidableEq, Repr

/-! ## Headland and the mailboxes (chapter 14) -/

/-- A command in an LD's primary mailbox that waits for its slot (R454, R458): link, LD, opcode, input payload. -/
structure FeCmd where
  link : Nat
  ld : Nat
  op : Nat
  pay : List Byte
  deriving DecidableEq, Repr

/-- A message of the twin that waits for its IN slot: channel, its stamped header word, its bytes, and the pair, path and CSN
of the frame to acknowledge. -/
structure RelayIn where
  chan : Nat
  hdr : Nat
  msg : List Byte
  pair : Nat
  path : Nat
  csn : Nat
  deriving DecidableEq, Repr

/-- The mailboxes beside their registers. `bulk` holds the bulk buffers, slot by slot (channel × 2 + direction, 0 IN); `told`
the channels whose message raised its core's interrupt; `arrived` the channels whose IN slot is FULL, in the order in which their
messages entered, each with its bit of the admin mask at that time (R480); `wakes` the sleeping cores that a message has woken; `fe` the LDs'
commands that wait for a slot; `relay` the twin's messages that wait for theirs. -/
structure Mbx where
  bulk : SMap Byte := []
  told : List Nat := []
  arrived : List (Nat × Bool) := []
  wakes : List Nat := []
  fe : List FeCmd := []
  relay : List RelayIn := []
  deriving DecidableEq, Repr

/-- What ends a background command (R473): the Granary is ready again, the pin operation has ended, the fence (or unfence) of a
window's unit is done, a DRAM or NAND channel is trained, a key slot is sanitised, a firmware bank is erased. -/
inductive BgJob where
  | granary
  | pin
  | fence (w sub : Nat) (un : Bool)
  | train (nand : Bool) (ch : Nat)
  | sanitise (slot : Nat)
  | erase
  deriving DecidableEq, Repr

/-- A channel's last background command (R473): its opcode, what ends it, whether it has ended, its final status, when it began
and ended, and the index of the LD that sent it, if one did. -/
structure BgCmd where
  op : Nat
  job : BgJob
  done : Bool := false
  final : Nat := 0
  since : Nat := 0
  til : Nat := 0
  ld : Option Nat := none
  deriving DecidableEq, Repr

/-- The open firmware transfer (R523): its channel, the bank, the offset that the next part must have, the next sector to erase
(192: all are erased), whether its erase has begun, the data of the first part, which is programmed once the bank is erased, and whether
that part is the whole image. -/
structure FwXfer where
  chan : Nat
  bank : Nat
  next : Nat := 0
  sector : Nat := 0
  busy : Bool := false
  data : List Byte := []
  full : Bool := false
  deriving DecidableEq, Repr

/-- What Headland firmware keeps for the command set (chapter 15): the admin mask (R480); the background commands by channel; the
channels whose request has been applied and waits for the hardware or the twin, with the stage reached (R472); the highest IV
accepted by session (R495); the firmware transfer; the TAG of the last relayed step, and the channel, opcode and TAG of a relayed step
that awaits the twin's reply (R490); the SEQ last read by channel; the regions that the twin has handed over and whose
rights are to come (R484); those that ROLE_TAKE has taken and that are still in SPLIT (R501); the channel and the time of an answered
HARVEST_START (R513); the time of an answered online activation (R524); the health status last told to the LDs (R106); the causes of HEALTH bits 0 and 1 (R478). -/
structure Cmds where
  admin : Nat := 0
  bg : List (Nat × BgCmd) := []
  stage : List (Nat × Nat) := []
  ivs : SMap Nat := []
  fw : Option FwXfer := none
  tag : Nat := 0
  relay : Option (Nat × Nat × Nat) := none
  seqs : List (Nat × Nat) := []
  handed : List Nat := []
  taken : List Nat := []
  start : Option (Nat × Nat) := none
  activate : Option Nat := none
  health : Nat := 0
  popCause : Nat := 0
  nandCause : Nat := 0
  deriving DecidableEq, Repr

/-- A HELD Granary buffer: its index, the owner charged, its references, whether its data is lost (R410, R415). -/
structure GBuf where
  idx : Nat
  owner : Nat
  refs : Nat
  bad : Bool := false
  deriving DecidableEq, Repr

/-- The Granary beside its registers (R410): `stack` holds the free indices released since the list was built, top first;
below them lie the indices from `next` on that are not withdrawn, in ascending order. -/
structure Granary where
  building : Bool := false
  stack : List Nat := []
  next : Nat := 0
  held : List GBuf := []
  withdrawn : List Nat := []
  deriving DecidableEq, Repr

/-! ## Tithe (chapter 21) -/

/-- A signed record in the ring: its life, its number, its 256 bytes. -/
structure TRec where
  life : Nat
  num : Nat
  bytes : List Byte
  deriving DecidableEq, Repr

/-- A record that waits until the ring has room (R631): its kind, tenant, time and body. -/
structure TWait where
  kind : Nat
  tenant : Nat
  t : Nat
  body : List Byte
  deriving DecidableEq, Repr

/-- The Tithe island beside its registers. `rdc` and `wrc` are the clusters' counters by cluster × 256 + tenant, `rds` and
`wrs` what Tithe last read of them; `held` and `dram` the tenants' KiB-milliseconds, `rd` and `wr` their bytes of the
interval; `uj` the energy drawn in µJ; `ms` Tithe's own time; `from` the interval's start in seconds; `ring` the records
held, oldest first; `wait` the queue of R631; `res` the RESIDENT last sampled, by region; `fuse` the set bits of the life counter; `hasKey` whether the identity
key has been made; `last` the SHA-384 of the life's last record. -/
structure Tithe where
  started : Bool := false
  rdc : SMap Nat := []
  wrc : SMap Nat := []
  rds : SMap Nat := []
  wrs : SMap Nat := []
  held : SMap Nat := []
  dram : SMap Nat := []
  rd : SMap Nat := []
  wr : SMap Nat := []
  uj : Nat := 0
  ms : Nat := 0
  since : Nat := 0
  ring : List TRec := []
  wait : List TWait := []
  res : SMap Nat := []
  fuse : Nat := 0
  hasKey : Bool := false
  monFail : Bool := false
  dramHeld : Bool := false
  last : BitVec 384 := 0
  deriving DecidableEq, Repr

/-! ## Embedded flash and OTP (chapter 16) -/

/-- The erase in progress: bank, sector, when it was called, whether it is suspended, pulses so far, resumes without a pulse. -/
structure EraseOp where
  bank : Nat
  sector : Nat
  since : Nat := 0
  suspended : Bool := false
  pulses : Nat := 0
  resumes : Nat := 0
  deriving DecidableEq, Repr

/-- The embedded flash and OTP beside the registers: `words` of 256 bits by bank × 524288 + word, erased words reading as
all ones; the OTP words and those of them that have been programmed; the erase in progress; the bank that runs and whether key
B signed its image; when it was booted and whether a core has kicked since; when the watchdog was kicked; when the window of
R546 opened. -/
structure Efl where
  words : SMap (BitVec 256) := []
  otp : SMap Word64 := []
  otpDone : List Nat := []
  erase : Option EraseOp := none
  running : Option Nat := none
  keyB : Bool := false
  bootAt : Nat := 0
  kicked : Bool := false
  wdtAt : Nat := 0
  resetAt : Option Nat := none
  deriving DecidableEq, Repr

/-! ## Host ports (chapter 03) -/

/-- A committed HDM decoder of an LD, or none. -/
structure Decoder where
  base : Nat
  size : Nat
  ways : Nat
  gran : Nat
  pos : Nat
  skip : Nat
  locked : Bool
  deriving DecidableEq, Repr

/-- A Dynamic Capacity extent an LD has been offered or has accepted (R96): region, DPA and length in GiB, rights. -/
structure Extent where
  region : Nat
  base : Nat
  len : Nat
  write : Bool
  accepted : Bool
  deriving DecidableEq, Repr

/-- A Dynamic Capacity event (R97). -/
inductive DcEvent where
  | add (e : Extent)
  | forcedRelease (e : Extent)
  | configUpdated (e : Extent)
  deriving DecidableEq, Repr

/-- An event record of an LD's log (R105, R106): what it names (1 a write under an erased key, 2 a DIMM or NAND channel fenced, 3 a
change of health status, 4 a dirty shutdown, 5 the twin lost), its log (1 Informational, 2 Warning, 3 Failure, 4 Fatal), the DPA line or
none, the timestamp. -/
structure LdEvent where
  kind : Nat
  log : Nat
  dpaLine : Option Nat
  time : Nat := 0
  deriving DecidableEq, Repr

/-- One LD of one link, beside its registers: its HDM decoders (none: not committed) and their Commit Error bits, a CXL
Reset in progress, its mailbox command (queued or started in a channel, its result to be discarded, or aborted), the protocol error of its RAS Capability, its
poison list, event logs, the number of records cleared from each log (5: Dynamic Capacity), interrupt policy, alert configuration, shutdown state and DC state. -/
structure LdSt where
  dec : SMap (Option Decoder) := []
  commitErr : List Nat := []
  cxlReset : Bool := false
  mbxQueued : Bool := false
  mbxStarted : Bool := false
  mbxDiscard : Bool := false
  mbxAborted : Bool := false
  protoErr : Bool := false
  poisonList : List Nat := []
  events : List LdEvent := []
  cleared : SMap Nat := []
  policy : Word64 := 0
  alert : Word64 := 0
  shutdown : Nat := 0
  extents : List Extent := []
  dcLog : List (Nat × DcEvent) := []
  dcOverflow : Bool := false
  cdatChanged : Bool := false
  deriving DecidableEq, Repr

/-- The host ports beside their registers: the LDs by link × 16 + LD, the MODE in force per port, the sub-links whose
PERST is asserted, the links in Recovery, the Dynamic Capacity events still owed per LD index, Memory_Active (R586), and
whether the ports have stopped accepting (R295). -/
structure HostPorts where
  ld : SMap LdSt := []
  mode : SMap Nat := []
  perst : List Nat := []
  recov : List Nat := []
  owed : List (Nat × DcEvent) := []
  memActive : Bool := false
  stopped : Bool := false
  deriving DecidableEq, Repr

/-! ## What leaves the device -/

/-- A Drill packet that leaves on a path (R360): header fields and payload. -/
structure DrillPkt where
  conn : Nat
  path : Nat
  op : Nat
  attempt : Nat
  seq : Nat
  ack : Nat
  final : Bool
  off : Nat
  pay : List Byte
  deriving DecidableEq, Repr

/-- What the device sends to the world outside, newest first in `State.out`. -/
inductive Out where
  | ctrl (a : Agent) (v : Word64)                                          -- data of a control-space read
  | ndr (link ld tag load : Nat)                                           -- CXL NDR Cmp with its DevLoad
  | drs (link ld tag : Nat) (data : Line) (poison : Bool) (load : Nat)     -- CXL DRS MemData
  | fm (link : Nat) (code : Nat) (words : List Nat)                        -- FM API response of the FM-owned LD
  | gpf (link ld : Nat)                                                    -- the end of GPF Phase 2
  | yokeData (pair path : Nat) (fsn : Nat) (gen : Bool) (attempt : Nat) (ents : List YokeEntry) (ack : Nat) (akgen : Bool)
  | yokeCtl (pair path op csn ack : Nat) (akgen : Bool) (payload : List Byte)   -- control and handshake frames of Yoke (R330)
  | drill (port sub : Nat) (p : DrillPkt)                                       -- a Drill packet on a port's sub-port
  | ldMbx (link ld op code : Nat) (pay : List Byte)                             -- the end of a command in an LD's mailbox
  | neigh (port sub vlan : Nat)                                                 -- the answer to an ARP or Neighbour Solicitation
  | pfc (port prio : Nat) (on : Bool)                                           -- a pause or resume frame (R381)
  | msi (link ld vec : Nat)                                                     -- an MSI-X message of an LD (R90)
  | sb (status : Nat) (data : List Byte)                                        -- the read phase of a sideband transfer (R656)
  | pmbus (addr code kind : Nat) (data : List Byte)                             -- a software transaction of the PMBus master (R571)
  | sbNack                                                                      -- the sideband target NACKs a PEC byte (R656)
  | sbAra (addr : Nat)                                                          -- its answer to the Alert Response Address (R657)
  | sbIbi                                                                       -- its in-band interrupt with mandatory byte 0x01 (R657)
  deriving DecidableEq, Repr

/-- The network ports beside their registers: the ports and priorities that a received frame has paused (R387), what waits for
them, oldest first, and whether the ports send pause frames. -/
structure Net where
  paused : List (Nat × Nat) := []
  held : List (Nat × Nat × Out) := []
  deriving DecidableEq, Repr

/-- The state of the CN-6400B. `clk` is the time since power-on in ns, which nothing sets (the device timestamp of R614 can
be set). -/
structure State where
  pending : List Instr := []
  clk : Nat := 0
  csr : SMap Word64 := []
  shadow : List Shadow := []
  fresh : Nat := 0
  out : List Out := []
  stamps : List Stamp := []
  rcd : Recorder := {}
  fab : Fabric := {}
  nc : List NcBank := List.replicate 16 {}
  dr : Dram := {}
  win : Winnow := {}
  hp : HostPorts := {}
  fur : Furrow := {}
  hv : Harvest := {}
  cph : Cipher := {}
  pw : Power := {}
  rs : Resets := {}
  yk : Yoke := {}
  dl : Drill := {}
  mb : Mbx := {}
  cs : Cmds := {}
  net : Net := {}
  grn : Granary := {}
  th : Tithe := {}
  efl : Efl := {}
  deriving DecidableEq, Repr

/-- Why a step ends in a fault. -/
inductive Fault where
  /-- Raised by no meaning of this model: every command of the table has a next state. Kept so that the type is not
  empty; safe. -/
  | none
  deriving DecidableEq, Repr

/-- Why a step has no meaning. -/
inductive Refusal where
  /-- Raised by an arm of `exec` whose command has no meaning yet; safe. -/
  | notModelled (mnemonic : String)
  deriving DecidableEq, Repr

/-- The machine at the always-on island's power-on (R582): every register at its Reset column, nothing on but PD00 and
PD01, nothing waiting anywhere. -/
def State.reset : State := {}

end Sys2Proof.Machine
end

