-- ==== Sys2Proof/Machine/Windows.lean ====
section
/-!
DEFINITION. Machine/Windows.lean: the control-space map (R37, R38): which window an address lies in, which register
holds an offset, and what a register takes at reset (R13, R40, R41).
-/
namespace Sys2Proof.Machine
open Sys2Proof

/-- The window index of an address, or none where no window lies (R37, R38). -/
def winIdx (addr : Nat) : Option Nat :=
  if 0x40000000 ≤ addr ∧ addr < 0x40640000 then some ((addr - 0x40000000) / 0x10000) else none

/-- The kind and instance of a window (R37). -/
def winBlk (i : Nat) : Blk × Nat :=
  if i < 4 then (.hpt, i)
  else if i < 12 then (.npt, i - 4)
  else if i = 12 then (.tin, 0)
  else if i < 21 then (.tc, i - 13)
  else if i < 37 then (.nch, i - 21)
  else if i < 53 then (.drm, i - 37)
  else if i = 53 then (.hrw, 0)
  else if i = 54 then (.win, 0)
  else if i = 55 then (.fur, 0)
  else if i < 88 then (.fc, i - 56)
  else if i = 88 then (.hrv, 0)
  else if i = 89 then (.yok, 0)
  else if i = 90 then (.drl, 0)
  else if i = 91 then (.grn, 0)
  else if i = 92 then (.cph, 0)
  else if i = 93 then (.hdl, 0)
  else if i = 94 then (.mbx, 0)
  else if i = 95 then (.efl, 0)
  else if i = 96 then (.pwr, 0)
  else if i = 97 then (.rst, 0)
  else if i = 98 then (.recd, 0)
  else (.tth, 0)

/-- BLOCK and INSTANCE of a window's identity register (R37, R40). -/
def winId (i : Nat) : Nat × Nat :=
  match winBlk i with
  | (.hpt, n) => (0x01, n) | (.npt, n) => (0x02, n) | (.tin, _) => (0x03, 0x80) | (.tc, n) => (0x03, n)
  | (.nch, n) => (0x04, n) | (.drm, n) => (0x05, n) | (.hrw, _) => (0x06, 0) | (.win, _) => (0x07, 0)
  | (.fur, _) => (0x08, 0x80) | (.fc, n) => (0x08, n) | (.hrv, _) => (0x09, 0) | (.yok, _) => (0x0A, 0)
  | (.drl, _) => (0x0B, 0) | (.grn, _) => (0x0C, 0) | (.cph, _) => (0x0D, 0) | (.hdl, _) => (0x0E, 0)
  | (.mbx, _) => (0x0F, 0) | (.efl, _) => (0x10, 0) | (.pwr, _) => (0x11, 0) | (.rst, _) => (0x12, 0)
  | (.recd, _) => (0x13, 0) | (.tth, _) => (0x14, 0)

/-- The power domain of a window's instance (R548, R667). -/
def winPdom (i : Nat) : Nat :=
  match winBlk i with
  | (.hpt, n) => 12 + n
  | (.npt, n) => if n < 4 then 32 else 33
  | (.tin, _) | (.tc, _) | (.nch, _) | (.mbx, _) => 2
  | (.drm, n) => 16 + n
  | (.hrw, _) | (.win, _) | (.hrv, _) => 4
  | (.fur, _) => 5
  | (.fc, n) => if n < 16 then 34 else 35
  | (.yok, _) => 6
  | (.drl, _) | (.grn, _) => 7
  | (.cph, _) => 3
  | (.hdl, _) => 8
  | (.efl, _) | (.pwr, _) | (.rst, _) | (.recd, _) => 0
  | (.tth, _) => 1

/-- Does the register row hold the offset? Answers its index. -/
def regIndex (d : RegDef) (off : Nat) : Option Nat :=
  let w := if d.w64 then 8 else 4
  if off < d.off then none
  else if d.stride = 0 then (if off - d.off < w then some 0 else none)
  else
    let i := (off - d.off) / d.stride
    if i < d.count ∧ (off - d.off) % d.stride < w then some i else none

/-- The row of a list that holds an offset of instance `inst`, the register's index and the byte within the register. -/
def findIn (l : List RegDef) (inst off : Nat) : Option (RegDef × Nat × Nat) :=
  l.findSome? fun d =>
    match regIndex d off with
    | some k => if d.inst0 ∧ inst ≠ 0 then none else some (d, k, off - d.off - d.stride * k)
    | none => none

/-- The register row that holds an offset of a window, its index and the byte within the register (R38). -/
def findReg (i off : Nat) : Option (RegDef × Nat × Nat) :=
  let (b, inst) := winBlk i
  findIn (if off < 0x100 then regsCommon else blkRegs b) inst off

/-- The bank of a requester in a banked register's key (R427, R456, R621). -/
def bankOf : Agent → Nat
  | .h0 => 1 | .h1 => 2 | .h2 => 3 | .h3 => 4 | .sb => 5

/-- The key in `csr` of a banked register for a requester. -/
def bankKey (a : Agent) (addr : Nat) : Nat := addr + 0x100000000 * bankOf a

/-- What a register reads as while nothing else has been written to it: its Reset column (R13), its identity (R40),
the POWERED bit and domain state at the always-on power-on, H0's SECURE. -/
def csrDefault (key : Nat) : Word64 :=
  let addr := key % 0x100000000
  match winIdx addr with
  | none => 0
  | some i =>
    let off := addr % 0x10000
    if off = 0 then
      BitVec.ofNat 64 ((winId i).1 * 0x1000000 + (winId i).2 * 0x10000 + winPdom i * 0x100 + 1)
    else if off = 4 then (if winPdom i = 0 ∨ winPdom i = 1 then 1 else 0)
    else
      let (b, inst) := winBlk i
      match findIn (if off < 0x100 then [] else blkReset b) inst off with
      | none => 0
      | some (d, k, _) =>
        if i = 93 ∧ d.name = "HDL_CORE_STS" then (if k = 0 then BitVec.ofNat 64 d.reset ||| 0x8000000 else BitVec.ofNat 64 d.reset)
        else if i = 96 ∧ d.name = "PWR_PD" then (if k = 0 ∨ k = 1 then BitVec.ofNat 64 d.reset ||| 0x80000000 else BitVec.ofNat 64 d.reset)
        else BitVec.ofNat 64 (d.reset + k * d.step)

end Sys2Proof.Machine
end

