-- ==== Sys2Proof/Machine/Ops.lean ====
section
/-!
DEFINITION. Machine/Ops.lean: the named operations over the registers, the device timestamp, what leaves the device,
the event recorder's input queue (R613 to R617), the fault registers of a window (R593 to R597), windows of time, free
values, and the byte memories.
-/
namespace Sys2Proof.Machine
open Sys2Proof

/-- What a meaning answers. -/
abbrev Res := Host.Outcome State Fault Refusal

/-! ## Register fields -/

/-- Bits lo to lo + w - 1 of a word. -/
def getBits (x lo w : Nat) : Nat := x / 2 ^ lo % 2 ^ w

/-- x with bits lo to lo + w - 1 replaced by v. -/
def putBits (x lo w v : Nat) : Nat := x % 2 ^ lo + 2 ^ lo * (v % 2 ^ w + 2 ^ w * (x / 2 ^ (lo + w)))

/-- The word at a register key. -/
def State.rdW (s : State) (k : Nat) : Word64 := mget csrDefault s.csr k

/-- Stores the word at a register key. -/
def State.wrW (s : State) (k : Nat) (v : Word64) : State := { s with csr := mset csrDefault s.csr k v }

/-- The value of a field. -/
def State.rd (s : State) (f : Fld) : Nat := getBits (s.rdW f.addr).toNat f.lo f.width

/-- Sets a field, as the hardware does. -/
def State.wr (s : State) (f : Fld) (v : Nat) : State :=
  s.wrW f.addr (BitVec.ofNat 64 (putBits (s.rdW f.addr).toNat f.lo f.width v))

/-- The field in the requester's bank (R427, R456, R621). -/
def Fld.bank (f : Fld) (a : Agent) : Fld := { f with addr := bankKey a f.addr }

/-- Is a one-bit field set? -/
def State.on (s : State) (f : Fld) : Bool := s.rd f == 1

/-- Advances a counter field, which holds at its maximum. -/
def State.bumpBy (s : State) (f : Fld) (n : Nat) : State := s.wr f (min (s.rd f + n) (2 ^ f.width - 1))

/-- Advances a counter field by one, holding at its maximum. -/
def State.bump (s : State) (f : Fld) : State := s.bumpBy f 1

/-- Is bit b of a field set? -/
def State.bitOf (s : State) (f : Fld) (b : Nat) : Bool := (s.rd f).testBit b

/-- Sets or clears bit b of a field. -/
def State.wrBit (s : State) (f : Fld) (b : Nat) (v : Bool) : State :=
  let x := s.rd f
  s.wr f (putBits x b 1 (if v then 1 else 0))

/-! ## Time, output, free values -/

/-- The device timestamp in ns (R614). -/
def State.stampTime (s : State) : Nat := s.rd REC_TIME_TIME
/-- The time since power-on in ns. -/
def State.now (s : State) : Nat := s.clk

/-- One tick of the 25 MHz crystal (R614). -/
def State.tick (s : State) : State := { s with clk := s.clk + 40 }.wr REC_TIME_TIME (s.stampTime + 40)

/-- Sends something out of the device. -/
def State.emit (s : State) (o : Out) : State := { s with out := o :: s.out }

/-- Takes the next free-value number. -/
def State.draw (s : State) : State := { s with fresh := s.fresh + 1 }

/-- Notes an event that is counted within a window of time. -/
def State.stamp (s : State) (k : StampKind) (u : Nat) : State :=
  { s with stamps := ⟨k, u, s.now⟩ :: s.stamps }

/-- How many such events lie within the last `sec` seconds. -/
def State.stampsIn (s : State) (k : StampKind) (u sec : Nat) : Nat :=
  (s.stamps.filter fun e => e.kind == k && e.unit == u && decide (s.now ≤ e.t + sec * 1000000000)).length

/-- Forgets the events of a unit. -/
def State.unstamp (s : State) (k : StampKind) (u : Nat) : State :=
  { s with stamps := s.stamps.filter fun e => !(e.kind == k && e.unit == u) }

/-! ## Bytes -/

/-- The k low bytes of n, least significant first (R11). -/
def leBytes (n k : Nat) : List Byte :=
  match k with
  | 0 => []
  | k + 1 => BitVec.ofNat 8 n :: leBytes (n / 256) k

/-- The number whose bytes these are, least significant first. -/
def ofBytes : List Byte → Nat
  | [] => 0
  | b :: t => b.toNat + 256 * ofBytes t

/-- What an unlisted byte of a byte memory reads as. -/
def byte0 : Nat → Byte := fun _ => 0

/-- n bytes of a byte memory from address a. -/
def rdBytes (m : SMap Byte) (a : Nat) : Nat → List Byte
  | 0 => []
  | n + 1 => mget byte0 m a :: rdBytes m (a + 1) n

/-- Writes bytes from address a. -/
def wrBytes (m : SMap Byte) (a : Nat) : List Byte → SMap Byte
  | [] => m
  | b :: t => wrBytes (mset byte0 m a b) (a + 1) t

/-- Byte j of a line. -/
def lineByte (d : Line) (j : Nat) : Byte := BitVec.ofNat 8 (d.toNat / 2 ^ (8 * j))

/-- Pads bytes with zeros to a length. -/
def padTo (n : Nat) (l : List Byte) : List Byte := l.take n ++ List.replicate (n - l.length) 0

/-- The line at byte address a of a byte memory. -/
def rdLine (m : SMap Byte) (a : Nat) : Line := BitVec.ofNat 512 (ofBytes (rdBytes m a 64))

/-- Writes the bytes of d that the mask enables at byte address a, bytes j to 63. -/
def wrLineFrom (m : SMap Byte) (a : Nat) (d : Line) (mask : LMask) : List Nat → SMap Byte
  | [] => m
  | j :: t => wrLineFrom (if mask.getLsbD j then mset byte0 m (a + j) (lineByte d j) else m) a d mask t

/-- Writes the bytes of d that the mask enables at byte address a. -/
def wrLine (m : SMap Byte) (a : Nat) (d : Line) (mask : LMask) : SMap Byte :=
  wrLineFrom m a d mask (List.range 64)

/-- The full byte mask. -/
def fullMask : LMask := 0xFFFFFFFFFFFFFFFF

/-- The bits of a line that a byte mask covers. -/
def maskBits (mask : LMask) : Line :=
  BitVec.ofNat 512 ((List.range 64).foldl (fun n j => if mask.getLsbD j then n + 255 * 2 ^ (8 * j) else n) 0)

/-- d over the bytes of `base` that the mask enables. -/
def mergeLine (base d : Line) (mask : LMask) : Line :=
  (base &&& ~~~ maskBits mask) ||| (d &&& maskBits mask)

/-- Drops every entry from address a to a + n - 1. -/
def clearRange {α : Type} (m : SMap α) (a n : Nat) : SMap α := m.filter fun e => decide (e.1 < a ∨ a + n ≤ e.1)

/-- Copies n bytes from address a of one memory to address b of another. -/
def copyRange (src dst : SMap Byte) (a b n : Nat) : SMap Byte :=
  (src.filter fun e => decide (a ≤ e.1 ∧ e.1 < a + n)).foldl (fun m e => mset byte0 m (e.1 - a + b) e.2) (clearRange dst b n)

/-! ## The event recorder's input queue -/

/-- A record enters the recorder's input queue with the timestamp of that instant, or finds all 128 places taken, and
is dropped and counted (R614, R617). -/
def State.record (s : State) (ty src : Nat) (pay : List Byte) : State :=
  if s.rcd.queue.length < 128 then
    let r : Rec := ⟨ty, src, s.stampTime, pay⟩
    ({ s with rcd := { s.rcd with queue := s.rcd.queue ++ [r] } }).wr REC_STS_QUEUED (s.rcd.queue.length + 1)
  else
    ({ s with rcd := { s.rcd with lostSince := s.rcd.lostSince + 1 } }).bump REC_LOST_LOST_QUEUE

/-! ## Fault registers of a window -/

/-- SUB when no sub-unit is concerned (R593). -/
def noSub : Nat := 0x1FFF

/-- Everything a raise does but its record (R595). -/
def State.raiseQuiet (s : State) (w bit sub : Nat) : State :=
  let s1 := (s.wrBit (FLT_STS_CAUSE w) bit true).bump (FLT_CNT_COUNT w)
  if s.on (FLT_INFO_VALID w) then s1.bump (FLT_INFO_MERGED w)
  else
    ((((s1.wr (FLT_INFO_BIT w) bit).wr (FLT_INFO_SUB w) sub).wr (FLT_INFO_MERGED w) 0).wr (FLT_INFO_TIME w)
      (s.stampTime % 2 ^ 32)).wr (FLT_INFO_VALID w) 1

/-- A raise that writes a record of the given type unless it merges (R595, R596, R616). -/
def State.raiseAs (s : State) (w bit sub ty : Nat) (pay : List Byte) : State :=
  let s1 := s.raiseQuiet w bit sub
  if s.bitOf (FLT_STS_CAUSE w) bit then s1 else s1.record ty w pay

/-- A raise that writes a FAULT record unless it merges (R595, R596, R615). -/
def State.raise (s : State) (w bit sub : Nat) : State :=
  let s1 := s.raiseQuiet w bit sub
  if s.bitOf (FLT_STS_CAUSE w) bit then s1
  else s1.record 0x01 w ([BitVec.ofNat 8 bit, 0] ++ leBytes sub 2 ++ leBytes (s1.rd (FLT_CNT_COUNT w)) 4)

/-- A cause of kind C begins or ends (R594, R595): it is raised when its condition begins. -/
def State.cond (s : State) (w bit sub : Nat) (present : Bool) : State :=
  if present && !s.bitOf (FLT_LIVE_PRESENT w) bit then (s.wrBit (FLT_LIVE_PRESENT w) bit true).raise w bit sub
  else if present then s
  else s.wrBit (FLT_LIVE_PRESENT w) bit false

/-- The requester number of a BAD_ACCESS record (R615). -/
def agentNum : Agent → Nat
  | .h0 => 0 | .h1 => 1 | .h2 => 2 | .h3 => 3 | .sb => 4

/-- An access that is ignored and recorded: BAD_ACCESS of the window is raised and one BAD_ACCESS record is written,
whether or not the raise merges (R599, R615, R616). Reasons: 1 width or alignment, 2 unassigned, 3 sideband window,
4 domain off, 5 write ignored under its chapter, 6 world field locked. An access in no window is recorded with
SOURCE 0xFF and raised in the recorder's window (R38). -/
def State.badAccess (s : State) (a : Agent) (wr wide : Bool) (reason addr : Nat) (v : Word64) : State :=
  let pay := [BitVec.ofNat 8 (agentNum a), BitVec.ofNat 8 ((if wr then 1 else 0) + (if wide then 2 else 0)),
    BitVec.ofNat 8 reason, 0] ++ leBytes addr 4 ++ leBytes v.toNat 8
  match winIdx addr with
  | some w => (s.raiseQuiet w 0 noSub).record 0x04 w pay
  | none => (s.raiseQuiet 98 0 noSub).record 0x04 0xFF pay

/-- A 32-bit write that its chapter says is ignored and recorded. -/
def State.ignored (s : State) (a : Agent) (addr v : Nat) : State :=
  s.badAccess a true false 5 addr (BitVec.ofNat 64 v)

/-- Changes one LD (key link × 16 + LD). -/
def State.onLd (s : State) (k : Nat) (f : LdSt → LdSt) : State :=
  { s with hp := { s.hp with ld := mset (fun _ => {}) s.hp.ld k (f (mget (fun _ => {}) s.hp.ld k)) } }
/-- An LD (key link × 16 + LD). -/
def State.ldOf (s : State) (k : Nat) : LdSt := mget (fun _ => {}) s.hp.ld k

/-- The LD that an LD index binds, as link × 16 + LD. -/
def State.ldKey (s : State) (n : Nat) : Nat := s.rd (TIN_LDB_LINK n) * 16 + s.rd (TIN_LDB_LD n)

/-- The mailbox interrupt that ends a background command of an LD (R90, R473); a command of any other sender gives none. -/
def State.bgTell (s : State) (ld : Option Nat) : State :=
  match ld with
  | none => s
  | some n => s.emit (.msi (s.ldKey n / 16) (s.ldKey n % 16) 0)

/-- The MSI-X vector of an event log (R90). -/
def logVec (log : Nat) : Nat := if log ≤ 2 then 1 else if log ≤ 4 then 2 else 3

/-- An LD's interrupt for a log leaves where its policy asks for MSI-X (R90, R525). -/
def State.ldMsi (s : State) (key log : Nat) : State :=
  if getBits (s.ldOf key).policy.toNat (8 * (log - 1)) 2 = 1 then s.emit (.msi (key / 16) (key % 16) (logVec log)) else s

/-- An event record enters a log of an LD (R105, R106). -/
def State.ldEvent (s : State) (key kind log : Nat) (line : Option Nat) : State :=
  (s.onLd key fun l => { l with events := l.events ++ [⟨kind, log, line, s.stampTime⟩] }).ldMsi key log

/-- A record that names no DPA enters the log of every bound LD (R106). -/
def State.ldEventAll (s : State) (kind log : Nat) : State :=
  (List.range 64).foldl (fun (t : State) n =>
    if t.on (TIN_LDB_VALID n) then t.ldEvent (t.rd (TIN_LDB_LINK n) * 16 + t.rd (TIN_LDB_LD n)) kind log none else t) s

/-- A fence record, written for every fence (R596, R602, R615). `dev` when the device itself fences, which also raises
DEV_FENCE (R599). Actions: 1 fence, 2 unfence, 3 held, 4 refused as the last unit. -/
def State.fenceRec (s : State) (w action : Nat) (dev : Bool) (sub bit mode : Nat) : State :=
  let s0 := if action = 1 && (decide (37 ≤ w ∧ w ≤ 52) || decide (56 ≤ w ∧ w ≤ 87)) then s.ldEventAll 2 2 else s
  let s1 := if dev && action == 1 then s0.raiseQuiet w 1 sub else s0
  s1.record 0x02 w ([BitVec.ofNat 8 action, if dev then 0 else 1] ++ leBytes sub 2 ++ [BitVec.ofNat 8 bit, BitVec.ofNat 8 mode])

/-- A data loss: WIN DATA_LOSS is raised and a DATA_LOSS record is written for every occurrence (R596, R600, R615). -/
def State.dataLoss (s : State) (page region psrc cause : Nat) (lines : LMask) : State :=
  (s.raiseQuiet 54 2 noSub).record 0x03 54
    (leBytes page 8 ++ [BitVec.ofNat 8 region, BitVec.ofNat 8 psrc, BitVec.ofNat 8 cause, 0, 0, 0, 0, 0] ++ leBytes lines.toNat 8)

/-- The device serial number: OTP words 0 and 1 (R537). -/
def State.serial (s : State) : Nat :=
  (mget (fun _ => (0 : Word64)) s.efl.otp 0).toNat + 2 ^ 64 * (mget (fun _ => (0 : Word64)) s.efl.otp 1).toNat

/-! ## Lists of plain data -/

/-- Replaces the n-th element by its image. -/
def modNth {α : Type} (l : List α) (n : Nat) (f : α → α) : List α :=
  match l, n with
  | [], _ => []
  | x :: t, 0 => f x :: t
  | x :: t, n + 1 => x :: modNth t n f

/-- Changes the tines' part of the state. -/
def State.onFab (s : State) (f : Fabric → Fabric) : State := { s with fab := f s.fab }
/-- Changes one near-cache bank. -/
def State.onNc (s : State) (b : Nat) (f : NcBank → NcBank) : State := { s with nc := modNth s.nc b f }
/-- Changes the DRAM. -/
def State.onDr (s : State) (f : Dram → Dram) : State := { s with dr := f s.dr }
/-- Changes one DRAM channel. -/
def State.onCh (s : State) (c : Nat) (f : DramCh → DramCh) : State := { s with dr := { s.dr with ch := modNth s.dr.ch c f } }
/-- Changes Winnow. -/
def State.onWin (s : State) (f : Winnow → Winnow) : State := { s with win := f s.win }

end Sys2Proof.Machine
end

