-- ==== Sys2Proof/Machine/Operands.lean ====
section
/-!
DEFINITION. Machine/Operands.lean: what an operand of a command names: lines, pages and buckets of a DPA (R113, R119,
R149), the home tine of a bucket (R114), regions and requesters (R44, R52 to R55, R60), DRAM frames and where they
live (R179, R180), the worlds of agents, channels and key slots (R55), and HDM translation (R99, R100).
-/
namespace Sys2Proof.Machine
open Sys2Proof

/-! ## Lines and pages -/

/-- The tier page of a line. -/
def pageOf (line : Nat) : Nat := line / 64
/-- The GiB of a line. -/
def gibOf (line : Nat) : Nat := line / 0x1000000
/-- The bucket of a line (R113): the exclusive-OR of the five 8-bit slices of DPA[45:6]. -/
def bucketOf (line : Nat) : Nat :=
  (line % 256) ^^^ (line / 256 % 256) ^^^ (line / 65536 % 256) ^^^ (line / 16777216 % 256) ^^^ (line / 4294967296 % 256)
/-- The lock-table set of a line (R119). -/
def altSetOf (line : Nat) : Nat :=
  (line % 512) ^^^ (line / 512 % 512) ^^^ (line / 262144 % 512) ^^^ (line / 134217728 % 512) ^^^ (line / 68719476736 % 16)
/-- The near-cache bank of a line (R149). -/
def bankOfLine (line : Nat) : Nat := bucketOf line % 16
/-- The near-cache set of a line: DPA[45:10] modulo 12,272 (R149). -/
def setOfLine (line : Nat) : Nat := line / 16 % 12272

/-! ## Tines -/

/-- The window index of cluster c. -/
def tcWin (c : Nat) : Nat := 13 + c
/-- Is the tine up (TIN_TINE_UP)? -/
def State.tineUp (s : State) (t : Nat) : Bool := s.bitOf (TIN_TINE_UP_UP (t / 32)) (t % 32)
/-- Is the cluster out of service, or on its way out (R142)? -/
def State.clusterOut (s : State) (c : Nat) : Bool := s.rd (TIN_CL_STS_STATE c) != 0
/-- A tine may take requests: its cluster is not fenced, it is up and it is not being fenced. -/
def State.tineOk (s : State) (t : Nat) : Bool :=
  !s.clusterOut (t / 32) && s.tineUp t && !s.fab.fencing.any fun f => f.cluster == t / 32 && f.tines.contains (t % 32)
/-- The home tine of a bucket (R114). -/
def State.homeTine (s : State) (b : Nat) : Nat :=
  let c := b / 32
  let t := b % 32
  match (List.range 8).find? fun i => !s.clusterOut ((c + i) % 8) with
  | none => b
  | some i =>
    let c' := (c + i) % 8
    match (List.range 32).find? fun j => s.tineOk (c' * 32 + (t + j) % 32) with
    | none => c' * 32 + t
    | some j => c' * 32 + (t + j) % 32

/-! ## Worlds -/

/-- Is the Headland core or the sideband secure (R55)? The sideband's channels are non-secure. -/
def State.agentSecure (s : State) : Agent → Bool
  | .h0 => true
  | .h1 => s.bitOf TIN_WORLD_HDL_HS 0
  | .h2 => s.bitOf TIN_WORLD_HDL_HS 1
  | .h3 => s.bitOf TIN_WORLD_HDL_HS 2
  | .sb => false
/-- Is the mailbox channel secure (R55)? -/
def State.chanSecure (s : State) (c : Nat) : Bool :=
  if c < 32 then s.bitOf TIN_WORLD_MBX_HOST_S c else if c < 48 then false else s.bitOf TIN_WORLD_MBX_INT_S (c - 48)
/-- Is the region key slot secure (R55)? -/
def State.slotSecure (s : State) (k : Nat) : Bool := decide (k < s.rd TIN_WORLD_KEYS_S_SLOTS)
/-- Is the connection group secure? -/
def State.cgSecure (s : State) (g : Nat) : Bool := s.on (TIN_CGB_WORLD g)
/-- Are the worlds locked (R56)? -/
def State.locked (s : State) : Bool := s.on TIN_WORLD_LOCK_LOCK

/-! ## Regions -/

/-- Is the region valid? -/
def State.rgnValid (s : State) (r : Nat) : Bool := s.on (TIN_RGN_ATTR_VALID r)
/-- Is its range being released? -/
def State.rgnReleasing (s : State) (r : Nat) : Bool := s.on (TIN_RGN_ATTR_RELEASING r)
/-- First GiB of the region. -/
def State.rgnBase (s : State) (r : Nat) : Nat := s.rd (TIN_RGN_EXT_BASE_GIB r)
/-- Size of the region in GiB. -/
def State.rgnSize (s : State) (r : Nat) : Nat := s.rd (TIN_RGN_EXT_SIZE_M1 r) + 1
/-- Does the region's range hold the GiB? -/
def State.rgnHas (s : State) (r g : Nat) : Bool := decide (s.rgnBase r ≤ g ∧ g < s.rgnBase r + s.rgnSize r)
/-- The regions that are valid, in ascending number. -/
def State.validRgns (s : State) : List Nat := (List.range 256).filter s.rgnValid
/-- The valid region that holds the GiB, below the host capacity (R44). -/
def State.rgnOfGib (s : State) (g : Nat) : Option Nat :=
  if g < s.rd TIN_DPA_LIMIT_CAP_GIB then (List.range 256).find? fun r => s.rgnValid r && s.rgnHas r g else none
/-- The valid region that holds the line. -/
def State.rgnOfLine (s : State) (line : Nat) : Option Nat := s.rgnOfGib (gibOf line)
/-- The region, valid or releasing, whose range holds the tier page. -/
def State.rgnOfPage (s : State) (p : Nat) : Option Nat :=
  (List.range 256).find? fun r => (s.rgnValid r || s.rgnReleasing r) && s.rgnHas r (gibOf (p * 64))
/-- Is the region in the secure world? -/
def State.rgnSecure (s : State) (r : Nat) : Bool := s.on (TIN_RGN_ATTR_WORLD r)
/-- CLASS: 0 LOCAL, 1 TWIN_SYNC, 2 TWIN_LAG. -/
def State.rgnClass (s : State) (r : Nat) : Nat := s.rd (TIN_RGN_ATTR_CLASS r)
/-- Is the region DRAM_PINNED (R48)? -/
def State.rgnPinned (s : State) (r : Nat) : Bool := s.on (TIN_RGN_ATTR_PLACE r)
/-- A live entry that R58 calls a secure region. -/
def State.secureRegion (s : State) (r : Nat) : Bool := (s.rgnValid r || s.rgnReleasing r) && s.rgnSecure r

/-- The LD index bound to an LD of a link: the lowest valid TIN_LDB_n that names it (R53). -/
def State.ldIndex (s : State) (link ld : Nat) : Option Nat :=
  (List.range 64).find? fun n => s.on (TIN_LDB_VALID n) && s.rd (TIN_LDB_LINK n) == link && s.rd (TIN_LDB_LD n) == ld

/-! ## The region key slot -/

/-- Does the region's key slot hold a key (R51)? -/
def State.keyLoaded (s : State) (slot : Nat) : Bool := s.on (CPH_RSLOT_LOADED slot)

/-! ## DRAM frames (R179, R180, R26) -/

/-- The populated channels in ascending number (R177, R179). -/
def State.popChans (s : State) : List Nat :=
  if s.on (DRM_CFG_NPOP 0) then (List.range 8).map (2 * ·) else List.range 16
/-- The channel of a frame. -/
def State.frameChan (s : State) (f : Nat) : Nat :=
  let p := s.popChans
  p.getD (f % p.length) 0
/-- The channel-local frame of a frame. -/
def State.frameLocal (s : State) (f : Nat) : Nat := f / s.popChans.length
/-- Local frames of a channel per package rank. -/
def State.framesPerRank (s : State) (c : Nat) : Nat :=
  (if s.on (DRM_GEOM_WIDTH c) then 2 else 4) * 32 * 2 ^ s.rd (DRM_GEOM_ROW_BITS c) * 2 ^ s.rd (DRM_GEOM_HEIGHT c)
/-- Package ranks of a channel. -/
def State.ranksOf (s : State) (c : Nat) : Nat := 2 ^ s.rd (DRM_GEOM_RANKS c)
/-- Local frames of a channel; the highest is its spare frame (R179). -/
def State.localFrames (s : State) (c : Nat) : Nat := s.framesPerRank c * s.ranksOf c
/-- The channel-wide rank of a frame (R180, R669). -/
def State.frameRank (s : State) (f : Nat) : Nat := s.frameLocal f / s.framesPerRank (s.frameChan f)
/-- DRAM frames in all, if the population has been set (DRM_CFG.DPC). -/
def State.totalFrames (s : State) : Nat :=
  (s.popChans.map fun c => if s.rd (DRM_CFG_DPC c) = 0 then 0 else s.localFrames c).sum
/-- The metadata reserve in GiB (R26). -/
def reserveGib (capGib : Nat) : Nat := 16 + (capGib * 262144 * 13 + 1073741823) / 1073741824
/-- Buffers in the Granary pool, values of COUNT_KI outside 16 to 1,024 acting as the nearer end (R409, R418). -/
def State.grnCount (s : State) : Nat := max 16 (min 1024 (s.rd GRN_CFG_COUNT_KI)) * 1024
/-- Frames of the reserve and of the Granary pool (R26). -/
def State.sysFrames (s : State) : Nat := reserveGib (s.rd TIN_DPA_LIMIT_CAP_GIB) * 262144 + s.grnCount
/-- Is the frame the spare frame of its channel (R179)? -/
def State.isSpare (s : State) (f : Nat) : Bool := s.frameLocal f + 1 == s.localFrames (s.frameChan f)
/-- The frame of a channel's local frame. -/
def State.frameOf (s : State) (c local_ : Nat) : Nat := local_ * s.popChans.length + s.popChans.idxOf c
/-- Is the frame in the block that stands in for the frames of a fenced unit, or is to (R208)? -/
def State.inSubst (s : State) (f : Nat) : Bool :=
  s.popChans.any fun c => s.rd (DRM_SUBST_SRC_LEN c) != 0 && s.frameChan f == s.rd (DRM_SUBST_DST_CHANNEL c) &&
    decide (s.rd (DRM_SUBST_DST_BASE c) ≤ s.frameLocal f ∧ s.frameLocal f < s.rd (DRM_SUBST_DST_BASE c) + s.rd (DRM_SUBST_SRC_LEN c))
/-- The valid remap entries of a channel: failing line, spare line (R201). -/
def State.remaps (s : State) (c : Nat) : List (Nat × Nat) :=
  (List.range 8).filterMap fun i => if s.on (DRM_RMP_VALID c i) then some (s.rd (DRM_RMP_LINE c i), s.rd (DRM_RMP_SPARE c i)) else none
/-- The frame that stands for a frame: itself, or its place in a substitution block (R208). -/
def State.physFrame (s : State) (f : Nat) : Nat :=
  let c := s.frameChan f
  let l := s.frameLocal f
  if s.on (DRM_SUBST_SRC_VALID c) && decide (s.rd (DRM_SUBST_SRC_BASE c) ≤ l ∧ l < s.rd (DRM_SUBST_SRC_BASE c) + s.rd (DRM_SUBST_SRC_LEN c)) then
    s.frameOf (s.rd (DRM_SUBST_DST_CHANNEL c)) (s.rd (DRM_SUBST_DST_BASE c) + (l - s.rd (DRM_SUBST_SRC_BASE c)))
  else f
/-- The DRAM line, frame × 64 + line, that an access to line i of a frame reaches: through the substitution and the remap
table. -/
def State.physLine (s : State) (f i : Nat) : Nat :=
  let g := s.physFrame f
  let c := s.frameChan g
  match (s.remaps c).find? fun x => x.1 == s.frameLocal g * 64 + i with
  | none => g * 64 + i
  | some x => s.frameOf c (s.localFrames c - 1) * 64 + x.2
/-- May the frame hold a tier page at all? -/
def State.tierFrame (s : State) (f : Nat) : Bool :=
  decide (s.sysFrames ≤ f ∧ f < s.totalFrames) && !s.isSpare f && !s.inSubst f
/-- The use of a frame (R216). -/
def State.frameUse (s : State) (f : Nat) : FrameUse := mget (fun _ => FrameUse.free) s.win.frames f
/-- Is the unit holding the frame fenced or being fenced (R208 step 1)? -/
def State.frameFenced (s : State) (f : Nat) : Bool :=
  match s.dr.ch[s.frameChan f]? with
  | none => true
  | some d => d.fencedRanks.contains (s.frameRank f) || d.fencing.any fun x =>
      match x.rank with | none => true | some r => r == s.frameRank f
/-- May Winnow allocate the frame? -/
def State.frameFree (s : State) (f : Nat) : Bool := s.tierFrame f && s.frameUse f == .free && !s.frameFenced f
/-- DRAM frames available under R26. -/
def State.framesAvail (s : State) : Nat := s.totalFrames - s.sysFrames - s.rd WIN_FRAME_CNT_RETIRED

/-- Placement of a line of a frame (R180): subchannel, rank, bank group, bank, row, column. -/
structure DramPlace where
  sub : Nat
  rank : Nat
  cid : Nat
  bg : Nat
  bk : Nat
  row : Nat
  col : Nat
  deriving DecidableEq, Repr

/-- Where line i of a frame lies in its channel (R180). -/
def State.place (s : State) (f i : Nat) : DramPlace :=
  let c := s.frameChan f
  let sl := if s.on (DRM_GEOM_WIDTH c) then 2 else 4
  let rows := 2 ^ s.rd (DRM_GEOM_ROW_BITS c)
  let h := 2 ^ s.rd (DRM_GEOM_HEIGHT c)
  let l := s.frameLocal f
  let slot := l % sl
  let t := l / sl
  let bg := t % 8
  let t := t / 8
  let bk := t % 4
  let t := t / 4
  let row := t % rows
  let t := t / rows
  { sub := i % 2, rank := t / h, cid := t % h, bg := bg ^^^ (row % 8), bk := bk ^^^ (row / 8 % 4), row := row,
    col := slot * 512 + i / 2 * 16 }

/-! ## Tier pages -/

/-- The tier-map entry of a page; an unlisted page is UNWRITTEN. A DRAM_CLEAN page whose frame did not survive counts as
FLASH_ONLY until the Resow sweep rewrites it (R310). -/
def State.tierOf (s : State) (p : Nat) : TierEnt :=
  let e := mget (fun _ => ({} : TierEnt)) s.win.tier p
  if s.win.unswept.contains p then { e with state := .flashOnly, frame := none } else e
/-- A page is DRAM-resident. -/
def TierState.inDram : TierState → Bool
  | .dramOnly | .dramClean | .dramDirty => true
  | _ => false

/-! ## HDM decoders (R99, R100) -/

/-- Does a committed decoder cover the HPA? -/
def Decoder.covers (d : Decoder) (hpa : Nat) : Bool := decide (d.base ≤ hpa ∧ hpa < d.base + d.size)
/-- The DPA offset of an HPA inside a decoder by the standard's translation: whole granules of `ways` targets are
taken out of the offset, and the offset within the granule stays. -/
def Decoder.offset (d : Decoder) (hpa : Nat) : Nat :=
  let o := hpa - d.base
  o / (d.gran * d.ways) * d.gran + o % d.gran
/-- The DPA space a decoder takes: its size over its ways. -/
def Decoder.dpaLen (d : Decoder) : Nat := d.size / d.ways
/-- The DPA base of decoder i of an LD: the skips and sizes of the decoders below it, and its own skip. -/
def dpaBase (l : LdSt) : Nat → Nat
  | 0 => match mget (fun _ => none) l.dec 0 with | none => 0 | some d => d.skip
  | i + 1 =>
    let below := match mget (fun _ => none) l.dec i with
      | none => 0
      | some d => d.dpaLen
    dpaBase l i + below + (match mget (fun _ => none) l.dec (i + 1) with | none => 0 | some d => d.skip)
/-- The DPA of an HPA for an LD, or none on a decode miss (R100). -/
def LdSt.translate (l : LdSt) (hpa : Nat) : Option Nat :=
  match (List.range 8).find? fun i => match mget (fun _ => none) l.dec i with | none => false | some d => d.covers hpa with
  | none => none
  | some i =>
    match mget (fun _ => none) l.dec i with
    | none => none
    | some d => some (dpaBase l i + d.offset hpa)

end Sys2Proof.Machine
end

