-- ==== Sys2Proof/Machine/Flags.lean ====
section
/-!
DEFINITION. Machine/Flags.lean: the status the block shows: the window numbers of the blocks (R37), the interrupt line
of a window (R598), DevLoad (R110), lock-table and combining-buffer occupancy (R146, R147), the unit bits of the window
headers (R41, R602).
-/
namespace Sys2Proof.Machine
open Sys2Proof

/-- Window indices (R37). -/
def wHPT (p : Nat) : Nat := p
def wNPT (n : Nat) : Nat := 4 + n
def wTIN : Nat := 12
def wTC (c : Nat) : Nat := 13 + c
def wNCH (b : Nat) : Nat := 21 + b
def wDRM (c : Nat) : Nat := 37 + c
def wHRW : Nat := 53
def wWIN : Nat := 54
def wFUR : Nat := 55
def wFC (c : Nat) : Nat := 56 + c
def wHRV : Nat := 88
def wYOK : Nat := 89
def wDRL : Nat := 90
def wGRN : Nat := 91
def wCPH : Nat := 92
def wHDL : Nat := 93
def wMBX : Nat := 94
def wEFL : Nat := 95
def wPWR : Nat := 96
def wRST : Nat := 97
def wREC : Nat := 98
def wTTH : Nat := 99

/-- The reset group of a power domain (R575). -/
def groupOfDom (d : Nat) : Option Nat :=
  if d = 2 then some 0 else if d = 3 then some 1 else if d = 4 then some 2
  else if d = 5 ∨ d = 34 ∨ d = 35 then some 3 else if d = 6 ∨ d = 7 then some 4
  else if 8 ≤ d ∧ d < 12 then some 5 else if d = 32 ∨ d = 33 then some 6
  else if 12 ≤ d ∧ d < 16 then some (d - 5) else if 16 ≤ d ∧ d < 32 then some (d - 4) else none

/-- Is HRV_BUSY high (R294)? -/
def State.hrvBusy (s : State) : Bool := s.hv.pend.isSome || s.hv.run.isSome

/-- Do fences of a window's units wait: during Harvest, and while its reset group is in reset (R605)? -/
def State.holds (s : State) (w : Nat) : Bool :=
  s.hv.run.isSome || (match groupOfDom (winPdom w) with | none => false | some g => s.rs.groups.testBit g)

/-- A fence is held in PD00 (R605); a second trigger for the same unit merges into it. -/
def State.holdFence (s : State) (w sub bit mode : Nat) (dev : Bool) : State :=
  if s.rs.held.any fun h => h.win == w && h.sub == sub then s
  else ({ s with rs := { s.rs with held := s.rs.held ++ [⟨w, sub, bit, mode, dev⟩] } } : State).fenceRec w 3 dev sub bit 0

/-- The device root in OTP words 4 to 7 (R431, R537). -/
def State.otpRoot (s : State) : BitVec 256 :=
  BitVec.ofNat 256 ((List.range 4).foldl (fun n i => n + (mget (fun _ => (0 : Word64)) s.efl.otp (4 + i)).toNat * 2 ^ (64 * i)) 0)
/-- Does every DRAM access wait: STATE stays INIT, for want of a root (R431)? -/
def State.dramHeld (s : State) : Bool := s.rd CPH_STS_STATE == 0 && s.otpRoot == 0

/-- The window's interrupt line is raised while any bit of FLT_STS & ~FLT_MASK is 1 (R598). -/
def State.irqLine (s : State) (w : Nat) : Bool :=
  (s.rdW (FLT_STS w) &&& ~~~ s.rdW (FLT_MASK w)) != 0

/-- Combining-buffer lines in use in the whole device. -/
def State.cbUse (s : State) : Nat := s.fab.cb.length
/-- Combining-buffer lines in use in a tine. -/
def State.cbUseTine (s : State) (t : Nat) : Nat := (s.fab.cb.filter fun l => l.tine == t).length
/-- Combining-buffer lines in use in a cluster. -/
def State.cbUseCl (s : State) (c : Nat) : Nat := (s.fab.cb.filter fun l => l.tine / 32 == c).length

/-- DevLoad of a response of port p: the share of the 4,096 lines in use against the thresholds (R110). 0 Light Load,
1 Optimal Load, 2 Moderate Overload, 3 Severe Overload. -/
def State.devLoad (s : State) (p : Nat) : Nat :=
  let u := s.cbUse * 100
  if u < s.rd (HPT_DEVLOAD_T1 p) * 4096 then 0
  else if u < s.rd (HPT_DEVLOAD_T2 p) * 4096 then 1
  else if u < s.rd (HPT_DEVLOAD_T3 p) * 4096 then 2
  else 3

/-- TIN_ALT_STS and TIN_CB_USE follow the tables they count (R146, R147). -/
def State.showAlt (s : State) : State :=
  let n := s.fab.alt.length
  let s1 := s.wr TIN_ALT_STS_IN_USE n
  if s1.rd TIN_ALT_STS_PEAK < n then s1.wr TIN_ALT_STS_PEAK n else s1

/-- TIN_CB_USE of one cluster follows its lines. -/
def State.showCb (s : State) (c : Nat) : State :=
  let n := s.cbUseCl c
  let s1 := s.wr (TIN_CB_USE_IN_USE c) n
  if s1.rd (TIN_CB_USE_PEAK c) < n then s1.wr (TIN_CB_USE_PEAK c) n else s1

/-- TIN_HOME_b shows the homes that R114 gives. -/
def State.showHomes (s : State) : State :=
  (List.range 256).foldl (fun t b =>
    let h := s.homeTine b
    (t.wr (TIN_HOME_TINE b) h).wr (TIN_HOME_MOVED b) (if h = b then 0 else 1)) s

/-- The window interrupts that are raised. -/
def State.irqs (s : State) : List Nat := (List.range 100).filter s.irqLine

end Sys2Proof.Machine
end

