-- ==== Sys2Proof/Machine/Access.lean ====
section
/-!
DEFINITION. Machine/Access.lean: whether a requester's access reaches a register (R38, R39, R42), the shadows (R17).
-/
namespace Sys2Proof.Machine
open Sys2Proof

/-- The windows that the sideband reaches whole (R39): power, recorder, Tithe, mailboxes. -/
def sbWindow (w : Nat) : Bool := w == 94 || w == 96 || w == 98 || w == 99

/-- Is the window's power domain on (R42)? -/
def State.powered (s : State) (w : Nat) : Bool := s.on (UNIT_POWERED w)

/-- A requester's other access discards its shadow (R17). -/
def State.dropShadow (s : State) (a : Agent) : State := { s with shadow := s.shadow.filter fun h => h.a != a }

/-- Is the register at the address 64 bits wide? A row that names a register and no width accesses all of it. -/
def wide64 (addr : Nat) : Bool :=
  match winIdx addr with
  | none => false
  | some w => match findReg w (addr % 0x10000) with | none => false | some (d, _, _) => d.w64

/-- A write of a register above the header: performed where the access reaches the window, else ignored and recorded. -/
def State.atReg (s : State) (a : Agent) (addr v : Nat) (op : State → State) : State :=
  let t := s.dropShadow a
  match winIdx addr with
  | none => t.badAccess a true (wide64 addr) 2 addr (BitVec.ofNat 64 v)
  | some w =>
    if a == .sb && !sbWindow w then t.badAccess a true (wide64 addr) 3 addr (BitVec.ofNat 64 v)
    else if !t.powered w then t.badAccess a true (wide64 addr) 4 addr (BitVec.ofNat 64 v)
    else op t

/-- A read of a register above the header: performed where the access reaches the window, else it returns zero and is
recorded. -/
def State.atRead (s : State) (a : Agent) (addr : Nat) (op : State → State) : State :=
  let t := s.dropShadow a
  let bad := fun r => (t.badAccess a false (wide64 addr) r addr 0).emit (.ctrl a 0)
  match winIdx addr with
  | none => bad 2
  | some w =>
    if a == .sb && !sbWindow w then bad 3
    else if !t.powered w then bad 4
    else op t

end Sys2Proof.Machine
end

