-- ==== Sys2Proof/Machine/Granary.lean ====
section
/-!
DEFINITION. Machine/Granary.lean: the Granary pool (R409 to R416): its free list, owners and minima, errors, and the
commands and register writes that act on it.
-/
namespace Sys2Proof.Machine
open Sys2Proof

/-- Changes the Granary. -/
def State.onGrn (s : State) (f : Granary → Granary) : State := { s with grn := f s.grn }
/-- Free buffers, F of R412. -/
def State.grnFree (s : State) : Nat :=
  if s.on GRN_STS_READY then
    s.grn.stack.length + (s.grnCount - s.grn.next - (s.grn.withdrawn.filter fun b => decide (s.grn.next ≤ b)).length)
  else 0
/-- Buffers charged to an owner. -/
def State.grnHeld (s : State) (o : Nat) : Nat := (s.grn.held.filter fun b => b.owner == o).length
/-- Are the minima in force (R412)? -/
def State.grnMinima (s : State) : Bool := decide (s.grnCount ≤ 262144)
/-- U of R412. -/
def State.grnUnmet (s : State) : Nat := ((List.range 64).map fun o => s.rd (GRN_OWN_MIN o) - s.grnHeld o).sum
/-- GRN_STS, GRN_UNMET and the HELD count of an owner follow the pool. -/
def State.showGrn (s : State) (o : Nat) : State :=
  let s1 := ((s.wr (GRN_OWN_HELD o) (s.grnHeld o)).wr GRN_STS_FREE s.grnFree).wr GRN_STS_MINIMA (if s.grnMinima then 1 else 0)
  s1.wr GRN_UNMET_UNMET (if s1.grnMinima then s1.grnUnmet else 0)

/-- GRN_ERR_LAST takes the first event since VALID was cleared. -/
def State.grnLast (s : State) (kind owner buf : Nat) : State :=
  if s.on GRN_ERR_LAST_VALID then s
  else (((s.wr GRN_ERR_LAST_KIND kind).wr GRN_ERR_LAST_OWNER owner).wr GRN_ERR_LAST_BUFFER buf).wr GRN_ERR_LAST_VALID 1

/-- The next free buffer of the list, none where it is empty. -/
def State.grnTop (s : State) : Option Nat :=
  match s.grn.stack with
  | b :: _ => some b
  | [] => (List.range (s.grnCount - s.grn.next)).findSome? fun i =>
      if s.grn.withdrawn.contains (s.grn.next + i) then none else some (s.grn.next + i)

/-- May the owner take a buffer (R412)? -/
def State.grnMay (s : State) (o : Nat) : Bool :=
  s.on GRN_CTL_ENABLE && s.on GRN_STS_READY && decide (1 ≤ s.grnFree) &&
    (!s.grnMinima || decide (s.grnHeld o < s.rd (GRN_OWN_MIN o)) || decide (s.grnUnmet < s.grnFree))

/-- ALLOC (R411, R412): the buffer, charged to the owner with one reference, or a counted failure. -/
def State.grnAlloc (s : State) (o : Nat) : State × Option Nat :=
  match (if s.grnMay o then s.grnTop else none) with
  | none => ((s.bump GRN_CNT_ALLOC_FAIL).raise wGRN 5 noSub, none)
  | some b =>
    ((s.onGrn fun g => { g with stack := g.stack.drop 1, next := (if g.stack.isEmpty then b + 1 else g.next),
                                held := g.held ++ [⟨b, o, 1, false⟩] }).showGrn o, some b)

/-- A reference operation is refused or ignored (R415). -/
def State.grnRefErr (s : State) (kind owner buf : Nat) : State :=
  ((s.bump GRN_CNT_REF_ERR).grnLast kind owner buf).raise wGRN 4 noSub

/-- ADDREF (R411): refused at 255. Answers whether the reference was added. -/
def State.grnAddref (s : State) (b : Nat) : State × Bool :=
  match s.grn.held.find? fun x => x.idx == b with
  | none => (s.grnRefErr 4 0 b, false)
  | some x =>
    if x.refs = 255 then (s.grnRefErr 4 x.owner b, false)
    else (s.onGrn fun g => { g with held := g.held.map fun y => if y.idx == b then { y with refs := y.refs + 1 } else y }, true)

/-- A buffer leaves the pool for good (R415, R603). -/
def State.grnWithdraw (s : State) (b owner : Nat) : State :=
  ((((s.onGrn fun g => { g with withdrawn := g.withdrawn ++ [b], stack := g.stack.filter fun x => x != b }).bump
    GRN_CNT_WITHDRAWN).grnLast 1 owner b).raise wGRN 2 noSub).fenceRec wGRN 1 true noSub 2 0 |>.wr (UNIT_DEGRADED wGRN) 1

/-- RELEASE (R411, R415): at no reference the buffer is free again, or withdrawn where its data was lost. -/
def State.grnRelease (s : State) (b : Nat) : State :=
  match s.grn.held.find? fun x => x.idx == b with
  | none => s.grnRefErr 3 0 b
  | some x =>
    if 1 < x.refs then
      s.onGrn fun g => { g with held := g.held.map fun y => if y.idx == b then { y with refs := y.refs - 1 } else y }
    else
      let s1 := s.onGrn fun g => { g with held := g.held.filter fun y => y.idx != b }
      if x.bad then (s1.grnWithdraw b x.owner).showGrn x.owner
      else (s1.onGrn fun g => { g with stack := b :: g.stack }).showGrn x.owner

/-- A buffer's data is uncorrectable twice (R190, R415): withdrawn at its last release, at once where it is free. -/
def State.grnLost (s : State) (b : Nat) : State :=
  if s.grn.held.any fun x => x.idx == b then
    s.onGrn fun g => { g with held := g.held.map fun y => if y.idx == b then { y with bad := true } else y }
  else if s.grn.withdrawn.contains b || decide (s.grnCount ≤ b) then s
  else (s.grnWithdraw b 0).showGrn 0

/-- A descriptor-table line is uncorrectable twice: its eight buffers are withdrawn (R415). -/
def State.grnDescLost (s : State) (first : Nat) : State :=
  let s1 := (s.grnLast 2 0 (first / 8 * 8)).raise wGRN 3 noSub
  (List.range 8).foldl (fun t i =>
    let b := first / 8 * 8 + i
    if t.grn.withdrawn.contains b || decide (t.grnCount ≤ b) then t
    else
      let o := match t.grn.held.find? fun x => x.idx == b with | none => 0 | some x => x.owner
      ((t.onGrn fun g => { g with held := g.held.filter fun y => y.idx != b }).grnWithdraw b o).showGrn o) s1

/-- The free list is built of every buffer that is not withdrawn; nothing is held (R410, R416). -/
def State.grnBuild (s : State) : State :=
  let s1 := s.onGrn fun g => { g with building := false, stack := [], next := 0, held := [] }
  (List.range 64).foldl (fun t o => t.showGrn o) (s1.wr GRN_STS_READY 1)

/-- A write of GRN_CTL.ENABLE (R410). -/
def State.writeGrnEnable (s : State) (on : Bool) : State :=
  let was := s.on GRN_CTL_ENABLE
  let s1 := s.wr GRN_CTL_ENABLE (if on then 1 else 0)
  if on && !was then (s1.onGrn fun g => { g with building := true }).wr GRN_STS_READY 0
  else if !on then (s1.onGrn fun g => { g with building := false }).wr GRN_STS_READY 0
  else s1

/-- A write of GRN_CFG (R409): COUNT_KI is stored only while the pool is off and no region is valid or releasing. -/
def State.writeGrnCfg (s : State) (a : Agent) (v : Nat) : State :=
  let s1 := s.wr GRN_CFG_YOKE_OWNER (getBits v 24 6)
  let n := getBits v 0 11
  if n = s.rd GRN_CFG_COUNT_KI then s1
  else if s.on GRN_CTL_ENABLE || (List.range 256).any fun r => s.rgnValid r || s.rgnReleasing r then s1.ignored a GRN_CFG v
  else (s1.wr GRN_CFG_COUNT_KI n).wr GRN_STS_MINIMA (if max 16 (min 1024 n) ≤ 256 then 1 else 0)

/-- A write of GRN_OWN_o.MIN (R413). -/
def State.writeGrnMin (s : State) (a : Agent) (o m : Nat) : State :=
  let others := ((List.range 64).map fun x => if x == o then 0 else s.rd (GRN_OWN_MIN x)).sum
  if s.grnCount < others + m then s.ignored a (GRN_OWN o) m
  else (s.wr (GRN_OWN_MIN o) m).showGrn o

/-- GRANARY_ALLOC (R411, R412). -/
def execGranaryAlloc (o : Fin 64) (s : State) : Res := .next (s.grnAlloc o).1

/-- GRANARY_ADDREF (R411, R415). -/
def execGranaryAddref (b : BitVec 20) (s : State) : Res := .next (s.grnAddref b.toNat).1

/-- GRANARY_RELEASE (R411, R415). -/
def execGranaryRelease (b : BitVec 20) (s : State) : Res := .next (s.grnRelease b.toNat)

/-- GRANARY_ENABLE (R410). -/
def execGranaryEnable (a : Agent) (on : Bool) (s : State) : Res :=
  .next (s.atReg a GRN_CTL (if on then 1 else 0) fun t => t.writeGrnEnable on)

/-- GRANARY_READY (R410). -/
def execGranaryReady (s : State) : Res := .next (if s.grn.building then s.grnBuild else s)

/-- GRANARY_COUNT_WRITE (R409). -/
def execGranaryCountWrite (a : Agent) (v : BitVec 32) (s : State) : Res :=
  .next (s.atReg a GRN_CFG v.toNat fun t => t.writeGrnCfg a v.toNat)

/-- GRANARY_MIN_WRITE (R413). -/
def execGranaryMinWrite (a : Agent) (o : Fin 64) (m : BitVec 21) (s : State) : Res :=
  .next (s.atReg a (GRN_OWN o) m.toNat fun t => t.writeGrnMin a o m.toNat)

end Sys2Proof.Machine
end

