-- ==== Sys2Proof/Machine/Aes.lean ====
section
/-!
DEFINITION. Machine/Aes.lean: the ciphers and the hash that R421, R633 and R637 name by their standards: AES-256 (FIPS 197) with the modes
CBC, CTR, XTS and GCM, and SHA-384 (FIPS 180-4); the key check value (R428), the device key (R431). The standards' own tables and steps stand
outside spec/ (notes/assumptions/32.md). A block is a number whose byte i stands in bits 8i+7 to 8i.
-/
namespace Sys2Proof.Machine
open Sys2Proof

/-! ## AES-256 (FIPS 197), on numbers -/

/-- The S-box, 32 entries a row, the first one lowest. -/
def sboxRows : List Nat := [
   0xC072A49CAFA2D4ADF04759FA7DC982CA76ABD7FE2B670130C56F6BF27B777C63,
   0x75B227EBE28012079A059618C323C7041531D871F1E5A534CCF73F362693FDB7,
   0xCF584C4A39BECB6A5BB1FC20ED00D153842FE329B3D63B52A05A6E1B1A2C8309,
   0xD2F3FF1021DAB6BCF5389D928F40A351A89F3C507F02F94585334D43FBAAEFD0,
   0xDB0B5EDE14B8EE4688902A22DC4F816073195D643D7EA7C41744975FEC130CCD,
   0x08AE7A65EAF4566CA94ED58D6D37C8E779E4959162ACD3C25C2406490A3A32E0,
   0x9E1DC186B95735610EF6034866B53E708A8BBD4B1F74DDE8C6B4A61C2E2578BA,
   0x16BB54B00F2D99416842E6BF0D89A18CDF2855CEE9871E9B948ED9691198F8E1]

/-- The inverse S-box. -/
def invRows : List Nat := [
   0xCBE9DEC444438E3487FF2F9B8239E37CFBD7F3819EA340BF38A53630D56A0952,
   0x25D18B6D49A25B76B224D92866A12E084EC3FA420B954CEE3D23C2A632947B54,
   0x849D8DA75746155EDAB9EDFD5048706C92B6655DCC5CA4D41698688664F6F872,
   0x6B8A130103BDAFC1020F3FCA8F1E2CD00645B3B80558E4F70AD3BC8C00ABD890,
   0x6EDF751CE837F9E28535ADE72274AC9673E6B4F0CECFF297EADC674F4111913A,
   0xF45ACD78FEC0DB9A2079D2C64B3E56FC1BBE18AA0E62B76F89C5291D711AF147,
   0xEF9CC9939F7AE52D0D4AB519A97F51605FEC8027591012B131C7078833A8DD1F,
   0x7D0C2155631469E126D677BA7E042B17619953833CBBEBC8B0F52AAE4D3BE0A0]

/-- Byte i of a number. -/
def byteN (s i : Nat) : Nat := s / 2 ^ (8 * i) % 256
/-- The number whose byte i is f i, for n bytes. -/
def mapBytes (n : Nat) (f : Nat → Nat) : Nat := (List.range n).foldl (fun a i => a + f i * 2 ^ (8 * i)) 0
/-- An entry of a byte table. -/
def lookup (t : List Nat) (x : Nat) : Nat := byteN (t.getD (x / 32) 0) (x % 32)

/-- A 32-bit word through the S-box. -/
def subWord (w : Nat) : Nat := mapBytes 4 fun i => lookup sboxRows (byteN w i)

/-- The next eight words of the key schedule, given as two round keys. -/
def nextKeys (rc : Nat) (k : Nat × Nat) : Nat × Nat :=
  let w := fun (x i : Nat) => x / 2 ^ (32 * i) % 2 ^ 32
  let grow := fun (x t : Nat) =>
    let w0 := w x 0 ^^^ t
    let w1 := w x 1 ^^^ w0
    let w2 := w x 2 ^^^ w1
    w0 + 2 ^ 32 * w1 + 2 ^ 64 * w2 + 2 ^ 96 * (w x 3 ^^^ w2)
  let last := w k.2 3
  let a := grow k.1 (subWord (last / 256 + last % 256 * 2 ^ 24) ^^^ rc)
  (a, grow k.2 (subWord (w a 3)))

/-- The round keys from a pair on. -/
def keysFrom (k : Nat × Nat) : List Nat → List Nat
  | [] => [k.1]
  | rc :: t => k.1 :: k.2 :: keysFrom (nextKeys rc k) t

/-- The 15 round keys. -/
def roundKeys (k : BitVec 256) : List Nat :=
  keysFrom (k.toNat % 2 ^ 128, k.toNat / 2 ^ 128) [1, 2, 4, 8, 16, 32, 64]

/-- Twice a byte in the field of AES. -/
def xtime (x : Nat) : Nat := if x < 128 then 2 * x else (2 * x) ^^^ 0x11B

/-- SubBytes and ShiftRows. -/
def subShift (s : Nat) : Nat := mapBytes 16 fun i => lookup sboxRows (byteN s ((i + 4 * (i % 4)) % 16))
/-- Their inverse. -/
def invSubShift (s : Nat) : Nat := mapBytes 16 fun i => lookup invRows (byteN s ((i + 12 * (i % 4)) % 16))

/-- The byte of a column k places below byte i. -/
def colByte (s i k : Nat) : Nat := byteN s (i / 4 * 4 + (i + k) % 4)

/-- MixColumns. -/
def mixCols (s : Nat) : Nat := mapBytes 16 fun i =>
  let x := colByte s i
  xtime (x 0 ^^^ x 1) ^^^ x 1 ^^^ x 2 ^^^ x 3

/-- InvMixColumns. -/
def invMixCols (s : Nat) : Nat := mapBytes 16 fun i =>
  let x := colByte s i
  let a := x 0 ^^^ x 1 ^^^ x 2 ^^^ x 3
  let b := xtime (xtime (xtime a)) ^^^ a
  b ^^^ xtime (xtime (x 0 ^^^ x 2)) ^^^ xtime (x 0 ^^^ x 1) ^^^ x 0

/-- The rounds of encryption after the first key. -/
def encRounds (s : Nat) : List Nat → Nat
  | [] => s
  | [k] => subShift s ^^^ k
  | k :: t => encRounds (mixCols (subShift s) ^^^ k) t

/-- The rounds of decryption after the last key. -/
def decRounds (s : Nat) : List Nat → Nat
  | [] => s
  | [k] => invSubShift s ^^^ k
  | k :: t => decRounds (invMixCols (invSubShift s ^^^ k)) t

/-- AES-256 encryption of a block. -/
def aes (k : BitVec 256) (b : BitVec 128) : BitVec 128 :=
  match roundKeys k with
  | [] => b
  | k0 :: t => BitVec.ofNat 128 (encRounds (b.toNat ^^^ k0) t)

/-- AES-256 decryption of a block. -/
def aesInv (k : BitVec 256) (b : BitVec 128) : BitVec 128 :=
  match (roundKeys k).reverse with
  | [] => b
  | k0 :: t => BitVec.ofNat 128 (decRounds (b.toNat ^^^ k0) t)

/-! ## CBC and CTR (NIST SP 800-38A) -/

/-- The first 16 bytes of a list as a block. -/
def blockOf (l : List Byte) : BitVec 128 := BitVec.ofNat 128 (ofBytes (l.take 16))

/-- CBC encryption of n blocks: the output, and the last cipher block. -/
def cbcEnc (k : BitVec 256) : Nat → BitVec 128 → List Byte → List Byte × BitVec 128
  | 0, iv, _ => ([], iv)
  | n + 1, iv, l =>
    let c := aes k (blockOf l ^^^ iv)
    let (r, f) := cbcEnc k n c (l.drop 16)
    (leBytes c.toNat 16 ++ r, f)

/-- CBC decryption of n blocks: the output, and the last cipher block. -/
def cbcDec (k : BitVec 256) : Nat → BitVec 128 → List Byte → List Byte × BitVec 128
  | 0, iv, _ => ([], iv)
  | n + 1, iv, l =>
    let c := blockOf l
    let (r, f) := cbcDec k n c (l.drop 16)
    (leBytes (aesInv k c ^^^ iv).toNat 16 ++ r, f)

/-- The bytes of a block in reverse: its value as a big-endian number. -/
def flipBlock (c : BitVec 128) : BitVec 128 := blockOf (leBytes c.toNat 16).reverse

/-- The next counter block: a big-endian integer (R421). -/
def ctrNext (c : BitVec 128) : BitVec 128 := flipBlock (flipBlock c + 1)

/-- CTR over n blocks: the output, and the next counter block. -/
def ctrRun (k : BitVec 256) : Nat → BitVec 128 → List Byte → List Byte × BitVec 128
  | 0, c, _ => ([], c)
  | n + 1, c, l =>
    let ks := leBytes (aes k c).toNat 16
    let (r, f) := ctrRun k n (ctrNext c) (l.drop 16)
    ((l.take 16).zipWith (fun a b => a ^^^ b) ks ++ r, f)

/-! ## XTS (IEEE 1619, R423) -/

/-- The tweak of the next block: multiplied by α. -/
def xtsNext (t : BitVec 128) : BitVec 128 := (t + t) ^^^ (if t.msb then 0x87 else 0)

/-- One block under key 1 and a tweak. -/
def xtsBlock (k1 : BitVec 256) (dec : Bool) (t : BitVec 128) (l : List Byte) : List Byte :=
  let x := blockOf l ^^^ t
  leBytes (((if dec then aesInv k1 x else aes k1 x) ^^^ t)).toNat 16

/-- A data unit from a block on, `n` whole blocks; a short last block of `r` bytes takes ciphertext stealing. -/
def xtsRun (k1 : BitVec 256) (dec : Bool) (r : Nat) : Nat → BitVec 128 → List Byte → List Byte
  | 0, _, _ => []
  | 1, t, l =>
    if r = 0 then xtsBlock k1 dec t l
    else
      let t1 := xtsNext t
      let cc := xtsBlock k1 dec (if dec then t1 else t) l
      xtsBlock k1 dec (if dec then t else t1) ((l.drop 16).take r ++ cc.drop r) ++ cc.take r
  | n + 1, t, l => xtsBlock k1 dec t l ++ xtsRun k1 dec r n (xtsNext t) (l.drop 16)

/-- XTS over a data unit of at least 16 bytes: the key pair, decrypt, the tweak, the unit. -/
def xts (k : Key) (dec : Bool) (tweak : BitVec 128) (d : List Byte) : List Byte :=
  xtsRun (k.setWidth 256) dec (d.length % 16) (d.length / 16) (aes ((k >>> 256).setWidth 256) tweak) d

/-! ## GCM (NIST SP 800-38D) with a 96-bit IV -/

/-- The counter block n of an IV: byte 12 to 15 hold n, big-endian. -/
def gcmCtr (iv : BitVec 96) (n : Nat) : BitVec 128 := blockOf (leBytes iv.toNat 12 ++ (leBytes n 4).reverse)

/-- GCM's encryption and decryption, from counter n on, of m blocks. -/
def gcmFrom (k : BitVec 256) (iv : BitVec 96) (n : Nat) : Nat → List Byte → List Byte
  | 0, _ => []
  | m + 1, l => (l.take 16).zipWith (fun a b => a ^^^ b) (leBytes (aes k (gcmCtr iv n)).toNat 16) ++ gcmFrom k iv (n + 1) m (l.drop 16)

/-- GCM's output: encryption and decryption are the same exclusive or. -/
def gcm (k : BitVec 256) (iv : BitVec 96) (d : List Byte) : List Byte := gcmFrom k iv 2 ((d.length + 15) / 16) d

/-- The product of two blocks in GCM's field, both as big-endian numbers. -/
def gfMul (x y : Nat) : Nat :=
  ((List.range 128).foldl (fun (z : Nat × Nat) i =>
    (if x.testBit (127 - i) then z.1 ^^^ z.2 else z.1, if z.2 % 2 = 1 then z.2 / 2 ^^^ 0xE1 * 2 ^ 120 else z.2 / 2)) (0, y)).1

/-- GHASH of n blocks onto a value; a short last block is filled with zeros. -/
def ghash (h : Nat) : Nat → Nat → List Byte → Nat
  | 0, y, _ => y
  | n + 1, y, l => ghash h n (gfMul (y ^^^ (flipBlock (blockOf l)).toNat) h) (l.drop 16)

/-- GCM's tag over additional data and ciphertext. -/
def gcmTag (k : BitVec 256) (iv : BitVec 96) (aad ct : List Byte) : BitVec 128 :=
  let h := (flipBlock (aes k 0)).toNat
  let y := ghash h ((ct.length + 15) / 16) (ghash h ((aad.length + 15) / 16) 0 aad) ct
  flipBlock (BitVec.ofNat 128 (gfMul (y ^^^ (aad.length * 8 * 2 ^ 64 + ct.length * 8)) h)) ^^^ aes k (gcmCtr iv 1)

/-! ## SHA-384 (FIPS 180-4) -/

/-- Round constants 0 to 15 (FIPS 180-4). -/
def shaK0 : List Nat := [
  0x428A2F98D728AE22, 0x7137449123EF65CD, 0xB5C0FBCFEC4D3B2F, 0xE9B5DBA58189DBBC,
  0x3956C25BF348B538, 0x59F111F1B605D019, 0x923F82A4AF194F9B, 0xAB1C5ED5DA6D8118,
  0xD807AA98A3030242, 0x12835B0145706FBE, 0x243185BE4EE4B28C, 0x550C7DC3D5FFB4E2,
  0x72BE5D74F27B896F, 0x80DEB1FE3B1696B1, 0x9BDC06A725C71235, 0xC19BF174CF692694]

/-- Round constants 16 to 31 (FIPS 180-4). -/
def shaK1 : List Nat := [
  0xE49B69C19EF14AD2, 0xEFBE4786384F25E3, 0x0FC19DC68B8CD5B5, 0x240CA1CC77AC9C65,
  0x2DE92C6F592B0275, 0x4A7484AA6EA6E483, 0x5CB0A9DCBD41FBD4, 0x76F988DA831153B5,
  0x983E5152EE66DFAB, 0xA831C66D2DB43210, 0xB00327C898FB213F, 0xBF597FC7BEEF0EE4,
  0xC6E00BF33DA88FC2, 0xD5A79147930AA725, 0x06CA6351E003826F, 0x142929670A0E6E70]

/-- Round constants 32 to 47 (FIPS 180-4). -/
def shaK2 : List Nat := [
  0x27B70A8546D22FFC, 0x2E1B21385C26C926, 0x4D2C6DFC5AC42AED, 0x53380D139D95B3DF,
  0x650A73548BAF63DE, 0x766A0ABB3C77B2A8, 0x81C2C92E47EDAEE6, 0x92722C851482353B,
  0xA2BFE8A14CF10364, 0xA81A664BBC423001, 0xC24B8B70D0F89791, 0xC76C51A30654BE30,
  0xD192E819D6EF5218, 0xD69906245565A910, 0xF40E35855771202A, 0x106AA07032BBD1B8]

/-- Round constants 48 to 63 (FIPS 180-4). -/
def shaK3 : List Nat := [
  0x19A4C116B8D2D0C8, 0x1E376C085141AB53, 0x2748774CDF8EEB99, 0x34B0BCB5E19B48A8,
  0x391C0CB3C5C95A63, 0x4ED8AA4AE3418ACB, 0x5B9CCA4F7763E373, 0x682E6FF3D6B2B8A3,
  0x748F82EE5DEFB2FC, 0x78A5636F43172F60, 0x84C87814A1F0AB72, 0x8CC702081A6439EC,
  0x90BEFFFA23631E28, 0xA4506CEBDE82BDE9, 0xBEF9A3F7B2C67915, 0xC67178F2E372532B]

/-- Round constants 64 to 79 (FIPS 180-4). -/
def shaK4 : List Nat := [
  0xCA273ECEEA26619C, 0xD186B8C721C0C207, 0xEADA7DD6CDE0EB1E, 0xF57D4F7FEE6ED178,
  0x06F067AA72176FBA, 0x0A637DC5A2C898A6, 0x113F9804BEF90DAE, 0x1B710B35131C471B,
  0x28DB77F523047D84, 0x32CAAB7B40C72493, 0x3C9EBE0A15C9BEBC, 0x431D67C49C100D4C,
  0x4CC5D4BECB3E42B6, 0x597F299CFC657E2A, 0x5FCB6FAB3AD6FAEC, 0x6C44198C4A475817]

/-- The first hash value of SHA-384 (FIPS 180-4). -/
def shaH0 : List Nat := [
  0xCBBB9D5DC1059ED8, 0x629A292A367CD507, 0x9159015A3070DD17, 0x152FECD8F70E5939,
  0x67332667FFC00B31, 0x8EB44A8768581511, 0xDB0C2E0D64F98FA7, 0x47B5481DBEFA4FA4]

/-- The number that big-endian bytes spell. -/
def beNum (l : List Byte) : Nat := l.foldl (fun n b => n * 256 + b.toNat) 0

/-- A 64-bit word rotated to the right. -/
def rotR (x n : Nat) : Nat := x / 2 ^ n + x % 2 ^ n * 2 ^ (64 - n)

/-- The message schedule, newest word first, from its first 16 words on. -/
def shaSched : Nat → List Nat → List Nat
  | 0, w => w
  | n + 1, w =>
    let s1 := fun x => rotR x 19 ^^^ rotR x 61 ^^^ x / 2 ^ 6
    let s0 := fun x => rotR x 1 ^^^ rotR x 8 ^^^ x / 2 ^ 7
    shaSched n ((s1 (w.getD 1 0) + w.getD 6 0 + s0 (w.getD 14 0) + w.getD 15 0) % 2 ^ 64 :: w)

/-- One round on the eight working variables. -/
def shaRound (v : List Nat) (kw : Nat × Nat) : List Nat :=
  match v with
  | [a, b, c, d, e, f, g, h] =>
    let t1 := h + (rotR e 14 ^^^ rotR e 18 ^^^ rotR e 41) + ((e &&& f) ^^^ ((2 ^ 64 - 1 - e) &&& g)) + kw.1 + kw.2
    let t2 := (rotR a 28 ^^^ rotR a 34 ^^^ rotR a 39) + ((a &&& b) ^^^ (a &&& c) ^^^ (b &&& c))
    [(t1 + t2) % 2 ^ 64, a, b, c, (d + t1) % 2 ^ 64, e, f, g]
  | _ => v

/-- One block of 128 bytes onto a hash value. -/
def shaBlock (h : List Nat) (l : List Byte) : List Nat :=
  let w := (List.range 16).map fun i => beNum ((l.drop (8 * i)).take 8)
  let ks := shaK0 ++ shaK1 ++ shaK2 ++ shaK3 ++ shaK4
  h.zipWith (fun a b => (a + b) % 2 ^ 64) ((ks.zip (shaSched 64 w.reverse).reverse).foldl shaRound h)

/-- n blocks onto a hash value. -/
def shaRun : Nat → List Nat → List Byte → List Nat
  | 0, h, _ => h
  | n + 1, h, l => shaRun n (shaBlock h (l.take 128)) (l.drop 128)

/-- SHA-384 of a byte string: its 48 bytes in the order in which the standard produces them. -/
def sha384 (m : List Byte) : List Byte :=
  let z := (239 - m.length % 128) % 128
  let p := m ++ [0x80] ++ List.replicate z 0 ++ (leBytes (8 * m.length) 16).reverse
  ((shaRun (p.length / 128) shaH0 p).take 6).flatMap fun w => (leBytes w 8).reverse

/-! ## Keys -/

/-- The key check value of a key, or of key 1 of a pair (R428). -/
def kcv (k : Key) : BitVec 32 := (aes (k.setWidth 256) 0).setWidth 32

/-- The device key of a root (R431). -/
def deviceKey (root : BitVec 256) : Key :=
  let name := fun (d last : Nat) => blockOf ([0x47, 0x45, 0x4C, 0x54, 0x49, 0x41, 0x2D, 0x44, 0x4B].map (BitVec.ofNat 8) ++
    [BitVec.ofNat 8 (0x30 + d), 0, 0, 0, 0, 0, BitVec.ofNat 8 last])
  let half := fun d => (aes root (name d 0)).toNat + 2 ^ 128 * (aes root (name d 1)).toNat
  BitVec.ofNat 512 (half 1 + 2 ^ 256 * half 2)

end Sys2Proof.Machine
end

