-- ==== Sys2Proof/Machine/Nc.lean ====
section
/-!
DEFINITION. Machine/Nc.lean: the near cache and the prefetch side buffer (chapter 05): lookups, fills, the pseudo-LRU
tree, errors and the way-disable table, prefetch, range and whole-cache invalidation.
-/
namespace Sys2Proof.Machine
open Sys2Proof

/-- One near-cache bank. -/
def State.ncOf (s : State) (b : Nat) : NcBank := s.nc.getD b {}

/-- May the bank's arrays be looked up and filled (R169, R174)? -/
def State.ncOn (s : State) (b : Nat) : Bool := s.on (NCH_CTL_CACHE_EN b) && !s.on (UNIT_FENCED (wNCH b))

/-- Does the range invalidation in progress in the bank cover the page (R165)? -/
def NcBank.blocks (k : NcBank) (page : Nat) : Bool :=
  match k.invNow with
  | none => false
  | some r => decide (r.base ≤ page ∧ page < r.base + r.len)

/-- NCH_STS follows the bank. -/
def State.showNc (s : State) (b : Nat) : State :=
  let k := s.ncOf b
  ((s.wr (NCH_STS_LINES b) k.ways.length).wr (NCH_STS_INV_QUEUED b) k.inv.length).wr (NCH_STS_INV_BUSY b)
    (if k.invNow.isSome then 1 else 0)

/-! ## The pseudo-LRU tree (R150) -/

/-- The path of a way: each node of it and the half, 0 lower and 1 upper, in which the way lies. -/
def plruPath (w : Nat) : List (Nat × Nat) :=
  [(0, w / 8), (1 + w / 8, w / 4 % 2), (3 + w / 4, w / 2 % 2), (7 + w / 2, w % 2)]

/-- Every node on the way's path is set to point away from it. -/
def plruTouch (b : BitVec 15) (w : Nat) : BitVec 15 :=
  BitVec.ofNat 15 ((plruPath w).foldl (fun n p => putBits n p.1 1 (1 - p.2)) b.toNat)

/-- The way found from a node over ways lo to lo + 2^fuel - 1, where `ok` tells the ways in service. -/
def plruVictim (b : BitVec 15) (ok : Nat → Bool) : Nat → Nat → Nat → Nat
  | 0, _, lo => lo
  | f + 1, node, lo =>
    let h := 2 ^ f
    let lower := (List.range h).any fun i => ok (lo + i)
    let upper := (List.range h).any fun i => ok (lo + h + i)
    let up := if b.getLsbD node then upper else !lower
    if up then plruVictim b ok f (2 * node + 2) (lo + h) else plruVictim b ok f (2 * node + 1) lo

/-! ## The way-disable table (R169) -/

/-- Does a valid entry list the way of the set, or the side-buffer entry? -/
def State.wayListed (s : State) (b : Nat) (sb : Bool) (idx way : Nat) : Bool :=
  (List.range 64).any fun i =>
    s.on (NCH_WAYDIS_VALID b i) && (s.on (NCH_WAYDIS_SB b i) == sb) && s.rd (NCH_WAYDIS_SET b i) == idx &&
      (sb || s.rd (NCH_WAYDIS_WAY b i) == way)

/-- Entries of the table in use. -/
def State.waydisUsed (s : State) (b : Nat) : Nat :=
  ((List.range 64).filter fun i => s.on (NCH_WAYDIS_VALID b i)).length

/-- Kills miss entries: those the predicate picks install nothing, counted (R157). -/
def State.ncKill (s : State) (b : Nat) (p : MissEnt → Bool) : State :=
  let n := ((s.ncOf b).miss.filter fun m => p m && !m.killed).length
  (s.onNc b fun k => { k with miss := k.miss.map fun m => if p m then { m with killed := true } else m }).bumpBy
    (NCH_FILL_DROP_CNT_COUNT b) n

/-- Every way and side-buffer entry of the bank is invalid. -/
def State.ncClear (s : State) (b : Nat) : State :=
  (s.onNc b fun k => { k with ways := [], sb := [] }).showNc b

/-- The bank's cache and side buffer are fenced (R169): nothing valid, nothing installed, every lookup a miss. -/
def State.ncFence (s : State) (b : Nat) (dev : Bool) : State :=
  if s.holds (wNCH b) then s.holdFence (wNCH b) noSub (if dev then 6 else 0xFF) 0 dev
  else (((s.ncClear b).ncKill b fun _ => true).wr (UNIT_FENCED (wNCH b)) 1).fenceRec (wNCH b) 1 dev noSub (if dev then 6 else 0xFF) 0

/-- A way or a side-buffer entry is disabled, or the bank fenced where the table is full (R169). -/
def State.wayDisable (s : State) (b : Nat) (sb : Bool) (idx way : Nat) : State :=
  match (List.range 64).find? fun i => !s.on (NCH_WAYDIS_VALID b i) with
  | none => s.ncFence b true
  | some i =>
    let s1 := ((((s.wr (NCH_WAYDIS_SB b i) (if sb then 1 else 0)).wr (NCH_WAYDIS_WAY b i) way).wr (NCH_WAYDIS_SET b i) idx).wr
      (NCH_WAYDIS_VALID b i) 1)
    let s2 := s1.onNc b fun k =>
      if sb then { k with sb := k.sb.filter fun e => e.slot != idx }
      else { k with ways := k.ways.filter fun e => !(e.set == idx && e.way == way) }
    ((((s2.wr (NCH_STS_WAYDIS_USED b) (s2.waydisUsed b)).showNc b).wr (UNIT_DEGRADED (wNCH b)) 1).raise (wNCH b) 6 i).fenceRec
      (wNCH b) 1 true i 6 0

/-! ## Errors (R168) -/

/-- NCH_ERR_LAST takes the first error since VALID was cleared. -/
def State.ncLast (s : State) (b kind idx way word bit : Nat) : State :=
  if s.on (NCH_ERR_LAST_VALID b) then s
  else (((((s.wr (NCH_ERR_LAST_KIND b) kind).wr (NCH_ERR_LAST_INDEX b) idx).wr (NCH_ERR_LAST_WAY b) way).wr
    (NCH_ERR_LAST_WORD b) word).wr (NCH_ERR_LAST_BIT b) bit).wr (NCH_ERR_LAST_VALID b) 1

/-- The unit number under which the events of a way or entry are counted in time. -/
def ncUnit (b : Nat) (sb : Bool) (idx way : Nat) : Nat := ((b * 2 + (if sb then 1 else 0)) * 16384 + idx) * 16 + way

/-- WINDOW_S of the bank, 0 acting as 1. -/
def State.ncWindow (s : State) (b : Nat) : Nat := max 1 (s.rd (NCH_FENCE_CTL_WINDOW_S b))

/-- The bank's reaction to an error of a way (sb false) or entry it hit: a corrected bit is counted; anything worse
invalidates the way or entry. A way or entry that errs too often is disabled. -/
def State.ncErr (s : State) (b : Nat) (sb : Bool) (idx way : Nat) (e : NcErr) : State :=
  let k := if sb then 3 else 0
  let u := ncUnit b sb idx way
  let drop := fun (t : State) => (t.onNc b fun n =>
    if sb then { n with sb := n.sb.filter fun x => x.slot != idx }
    else { n with ways := n.ways.filter fun x => !(x.set == idx && x.way == way) }).showNc b
  match e with
  | .none => s
  | .ce word bit =>
    let s1 := (((s.bump (NCH_ERR_CNT_CE b)).ncLast b (k + 1) idx way word.val bit.val).raise (wNCH b) 2 noSub).stamp .ncCe u
    if 16 ≤ s1.stampsIn .ncCe u (s.ncWindow b) then (s1.unstamp .ncCe u).wayDisable b sb idx way else s1
  | .due word =>
    let s1 := (drop (((s.bump (NCH_ERR_CNT_DUE b)).ncLast b (k + 2) idx way word.val 0).raise (wNCH b) 3 noSub)).stamp .ncErr u
    if 2 ≤ s1.stampsIn .ncErr u (s.ncWindow b) then (s1.unstamp .ncErr u).wayDisable b sb idx way else s1
  | .tag =>
    let s1 := (drop (((s.bump (NCH_ERR_CNT_TAG_PAR b)).ncLast b (k + 3) idx way 0 0).raise (wNCH b) 4 noSub)).stamp .ncErr u
    if 2 ≤ s1.stampsIn .ncErr u (s.ncWindow b) then (s1.unstamp .ncErr u).wayDisable b sb idx way else s1

/-- Does the error leave the data usable? -/
def ncUsable : NcErr → Bool
  | .none | .ce _ _ => true
  | _ => false

/-! ## Installing (R151, R156) -/

/-- Sets a set's pseudo-LRU bits. -/
def State.setPlru (s : State) (b set : Nat) (v : BitVec 15) : State :=
  s.onNc b fun k => { k with plru := mset (fun _ => 0) k.plru set v }

/-- Installs a line in its set: the lowest invalid way in service, else the pseudo-LRU victim among those in service. -/
def State.ncInstall (s : State) (b line : Nat) (d : Line) : State :=
  let set := setOfLine line
  let ok := fun w => decide (w < 16) && !s.wayListed b false set w
  let here := (s.ncOf b).ways.filter fun e => e.set == set
  let bits := mget (fun _ => (0 : BitVec 15)) (s.ncOf b).plru set
  let way := match (List.range 16).find? fun w => ok w && !here.any fun e => e.way == w with
    | some w => w
    | none => plruVictim bits ok 4 0 0
  if !(List.range 16).any ok then s
  else
    let s1 := s.onNc b fun k =>
      { k with ways := ⟨set, way, line, d⟩ :: k.ways.filter fun e => !(e.set == set && e.way == way) && e.line != line }
    (s1.setPlru b set (plruTouch bits way)).showNc b

/-- Puts unkilled prefetch data into the side buffer: the lowest free slot in service, else the oldest entry's place
(R163). `sb` is kept oldest first. -/
def State.sbInstall (s : State) (b line : Nat) (d : Line) : State :=
  let k := s.ncOf b
  match (List.range 512).find? fun i => !(k.sb.any fun e => e.slot == i) && !s.wayListed b true i 0 with
  | some i => s.onNc b fun n => { n with sb := n.sb ++ [⟨i, line, d⟩] }
  | none =>
    match k.sb with
    | [] => s
    | o :: t => (s.onNc b fun n => { n with sb := t ++ [⟨o.slot, line, d⟩] }).bump (NCH_PF_UNUSED_CNT_COUNT b)

/-! ## Writes (R158, R159) -/

/-- After a line's bytes are merged or drained, the cached copy takes them and a side-buffer copy goes. -/
def State.ncWrite (s : State) (line : Nat) (d : Line) (mask : LMask) : State :=
  s.onNc (bankOfLine line) fun k =>
    { k with ways := k.ways.map fun e => if e.line == line then { e with data := mergeLine e.data d mask } else e,
             sb := k.sb.filter fun e => e.line != line }

/-- A modifying access to the line entered lock order: its miss entry installs nothing (R157). -/
def State.ncModify (s : State) (line : Nat) : State := s.ncKill (bankOfLine line) fun m => m.line == line

/-! ## Lookups (R153) -/

/-- What a lookup found. -/
inductive NcHit where
  | hit (d : Line)
  | join
  | alloc
  | noFill
  deriving DecidableEq, Repr

/-- A demand read's lookup: hits serve, a side-buffer hit promotes the line; a miss joins the line's miss entry,
allocates one or finds all 64 in use. -/
def State.ncLookup (s : State) (line id : Nat) (env : NcErr) : State × NcHit :=
  let b := bankOfLine line
  let k := s.ncOf b
  let live := s.ncOn b && !k.blocks (pageOf line)
  let miss := fun (t : State) =>
    let t := t.bump (NCH_MISS_CNT_COUNT b)
    match (t.ncOf b).miss.find? fun m => m.line == line && !m.killed with
    | some _ =>
      (t.onNc b fun n => { n with miss := n.miss.map fun m =>
        if m.line == line && !m.killed then { m with prefetch := false, reads := m.reads ++ [id] } else m }, NcHit.join)
    | none =>
      if (t.ncOf b).miss.length < 64 then
        (t.onNc b fun n => { n with miss := n.miss ++
          [{ line := line, prefetch := false, reads := [id], noInstall := !live }] }, NcHit.alloc)
      else (t.bump (NCH_NOFILL_CNT_COUNT b), NcHit.noFill)
  if !live then miss s
  else
    match k.ways.find? fun e => e.line == line with
    | some e =>
      let s1 := s.ncErr b false e.set e.way env
      if ncUsable env then
        ((s1.bump (NCH_HIT_CNT_COUNT b)).setPlru b e.set (plruTouch (mget (fun _ => (0 : BitVec 15)) k.plru e.set) e.way),
          NcHit.hit e.data)
      else miss s1
    | none =>
      match k.sb.find? fun e => e.line == line with
      | some e =>
        let s1 := s.ncErr b true e.slot 0 env
        if ncUsable env then
          (((s1.onNc b fun n => { n with sb := n.sb.filter fun x => x.slot != e.slot }).bump (NCH_SB_HIT_CNT_COUNT b)).ncInstall
            b line e.data, NcHit.hit e.data)
        else miss s1
      | none => miss s

/-- Removes a line's miss entry that the request owns or has joined. -/
def State.ncDropMiss (s : State) (line id : Nat) : State :=
  s.onNc (bankOfLine line) fun k => { k with miss := k.miss.filter fun m => !(m.line == line && m.reads.contains id) }

/-! ## Prefetch (R161, R162) -/

/-- The bank's own lines of a tier page. -/
def bankLines (b page : Nat) : List Nat :=
  ((List.range 64).map fun i => page * 64 + i).filter fun l => bankOfLine l == b

/-- May the bank prefetch the line, for a page P of the given region (R162)? -/
def State.pfAllowed (s : State) (b line region : Nat) : Bool :=
  let k := s.ncOf b
  (s.rgnOfLine line == some region) && (s.tierOf (pageOf line)).state.inDram &&
    !(k.ways.any fun e => e.line == line) && !(k.sb.any fun e => e.line == line) && !(k.miss.any fun m => m.line == line) &&
    !(s.fab.alt.any fun e => e.line == line && e.mode != .shared) && s.ncOn b && !k.blocks (pageOf line)

/-- Issues a prefetch of a line where R162 allows it and a miss entry is free. -/
def State.pfIssue (s : State) (b region line : Nat) : State :=
  if s.pfAllowed b line region && decide ((s.ncOf b).miss.length < 64) then
    (s.onNc b fun k => { k with miss := k.miss ++ [{ line := line, prefetch := true, reads := [] }] }).bump
      (NCH_PF_ISSUED_CNT_COUNT b)
  else s

/-- The page tracker notes a demand miss; at TRIG distinct lines of a page the bank prefetches (R161). -/
def State.pfTrack (s : State) (line region : Nat) : State :=
  let b := bankOfLine line
  let p := pageOf line
  if !s.on (NCH_CTL_PF_EN b) then s
  else
    let tr := (s.ncOf b).track
    let old := match tr.find? fun e => e.page == p with | some e => e.lines | none => []
    let lines := if old.contains line then old else old ++ [line]
    let rest := tr.filter fun e => e.page != p
    let rest := if 32 ≤ rest.length then rest.drop 1 else rest
    let s1 := s.onNc b fun k => { k with track := rest ++ [⟨p, lines⟩] }
    let trig := min 4 (max 1 (s.rd (NCH_PF_TRIG b)))
    if lines.length == trig && !old.contains line then
      let pages := (List.range (min 8 (s.rd (NCH_PF_DEPTH b)) + 1)).map (p + ·)
      (pages.flatMap (bankLines b)).foldl (fun t l => t.pfIssue b region l) s1
    else s1

/-! ## Invalidation (R165, R167) -/

/-- An invalidation starts in a bank: nothing of the range hits or installs, its miss entries are killed. -/
def State.invStart (s : State) (b : Nat) (r : InvReq) : State :=
  ((s.onNc b fun k => { k with invNow := some r }).ncKill b fun m =>
    decide (r.base ≤ pageOf m.line ∧ pageOf m.line < r.base + r.len)).showNc b

/-- A bank admits waiting sources and starts the next queued invalidation. -/
def State.invPump (s : State) (b : Nat) : State :=
  let k := s.ncOf b
  let room := 4 - k.inv.length
  let s1 := s.onNc b fun k => { k with inv := k.inv ++ k.invWait.take room, invWait := k.invWait.drop room }
  match k.invNow, (s1.ncOf b).inv with
  | none, r :: t =>
    let s2 := (s1.onNc b fun k => { k with inv := t }).invStart b r
    (s2.onNc b fun k => { k with inv := k.inv ++ k.invWait.take (4 - k.inv.length), invWait := k.invWait.drop (4 - k.inv.length) }).showNc b
  | _, _ => s1.showNc b

/-- A source issues a range invalidation to all sixteen banks. -/
def State.invIssue (s : State) (r : InvReq) : State :=
  (List.range 16).foldl (fun t b => (t.onNc b fun k => { k with invWait := k.invWait ++ [r] }).invPump b) s

/-- Is the invalidation still queued or in progress anywhere? -/
def State.invPending (s : State) (src : InvSrc) : Bool :=
  s.nc.any fun k => (match k.invNow with | none => false | some r => r.src == src) || k.inv.any (·.src == src) ||
    k.invWait.any (·.src == src)

/-- A bank's invalidation ends: no line of the range is valid; the next one starts. -/
def State.invEnd (s : State) (b : Nat) : State :=
  match (s.ncOf b).invNow with
  | none => s
  | some r =>
    let inR := fun line => decide (r.base ≤ pageOf line ∧ pageOf line < r.base + r.len)
    (s.onNc b fun k => { k with ways := k.ways.filter (fun e => !inR e.line), sb := k.sb.filter (fun e => !inR e.line),
                                invNow := none }).invPump b

/-- NCH_INV_CTL.BUSY clears once firmware's operation has ended in all sixteen banks. -/
def State.invBusy (s : State) : State :=
  if !s.invPending .firmware && !(s.nc.any (·.sweeping)) then s.wr NCH_INV_CTL_BUSY 0 else s

/-- A whole-cache invalidation: every valid bit clears, every miss entry is killed, the sweeps begin (R167). -/
def State.ncClearAll (s : State) : State :=
  (List.range 16).foldl (fun t b => (((t.onNc b fun k => { k with sweeping := true }).ncClear b).ncKill b fun _ => true)) s

/-- The valid-bit clear of a reset of the bank's group (R172): nothing valid, no miss entry, no tracker, no queue. -/
def State.ncReset (s : State) (b : Nat) : State :=
  (s.onNc b fun _ => {}).showNc b

end Sys2Proof.Machine
end

