-- ==== Sys2Proof/Machine/Pages.lean ====
section
/-!
DEFINITION. Machine/Pages.lean: tier pages and DRAM frames (chapter 07): the tier map and the counts it drives (R213 to
R217, R285), the frame table (R216), heat (R220), pages in and out of frames, poison (R239, R240), moves and the bounds
they obey, and Furrow's map as far as Winnow's changes reach it (R257).
-/
namespace Sys2Proof.Machine
open Sys2Proof

/-- Adds to a count and takes from it. -/
def State.adj (s : State) (f : Fld) (up down : Bool) : State :=
  if up == down then s else if up then s.wr f (s.rd f + 1) else s.wr f (s.rd f - 1)

/-! ## The dirty cap and arming (R287, R288, R292) -/

/-- A HARVEST record (R615): what it reports, the cause, the outcome or path, the DSEQ. -/
def State.hvRecord (s : State) (kind cause out dseq : Nat) : State :=
  s.record 0x08 wHRV ([BitVec.ofNat 8 kind, BitVec.ofNat 8 cause, BitVec.ofNat 8 out, 0, 0, 0, 0, 0] ++ leBytes dseq 8)

/-- The first condition of R292 that fails, 0 where all hold. -/
def State.noArm (s : State) : Nat :=
  if !s.on HRV_CTL_ENABLE then 1
  else if s.rd FUR_STS_STATE != 2 && s.rd FUR_STS_STATE != 3 then 2
  else if !s.hv.resown then 3
  else if s.rd HRV_CAP_EFF_GIB < 16 then 4
  else if s.rd HRV_CAP_EFF_GIB * 262144 < s.rd HRV_DIRTY_PAGES then 5
  else 0

/-- NOARM and ARMED follow the conditions of R292; a condition that fails disarms Harvest. -/
def State.showArm (s : State) : State :=
  let n := s.noArm
  let s1 := s.wr HRV_STS_NOARM n
  let s2 := if n != 0 && s.rd HRV_STS_STATE == 3 then (s1.wr HRV_STS_STATE 2).wr HRV_STS_ARMED 0 else s1
  s2.cond wHRV 2 noSub (s2.hv.resown && !s2.on HRV_STS_ARMED && s2.rd HRV_STS_STATE != 4 && s2.rd HRV_STS_STATE != 5)

/-- OVER_CAP and FORCED_CLEAN while the dirty count is above the cap (R288). -/
def State.showDirty (s : State) : State :=
  let overCap := decide (s.rd HRV_CAP_EFF_GIB * 262144 < s.rd HRV_DIRTY_PAGES)
  let new := overCap && !s.on HRV_STS_FORCED_CLEAN
  let b := if overCap then 1 else 0
  let s1 := if new then (s.bump HRV_CNT_FORCED_CLEANS).hvRecord 4 0 0 (s.rd HRV_SEQ_DSEQ) else s
  (((s1.wr HRV_STS_OVER_CAP b).wr HRV_STS_FORCED_CLEAN b).cond wHRV 3 noSub overCap).showArm

/-! ## The tier map -/

/-- Writes an entry through (R215): the resident, pinned and dirty counts follow it (R224, R244, R285). -/
def State.setTier (s : State) (p : Nat) (e : TierEnt) : State :=
  let o := s.tierOf p
  let age := fun (l : List Nat) => if e.dirty == o.dirty then l else if e.dirty then l ++ [p] else l.filter fun x => x != p
  let s1 := s.onWin fun w => { w with tier := mset (fun _ => ({} : TierEnt)) w.tier p e, dirtyAge := age w.dirtyAge,
                                      unswept := w.unswept.filter fun x => x != p }
  let s2 := ((s1.adj (WIN_RGN_RES_RESIDENT o.region) false o.frame.isSome).adj (WIN_RGN_RES_RESIDENT e.region) e.frame.isSome
    false).adj WIN_PAGE_CNT_RESIDENT e.frame.isSome o.frame.isSome
  let s3 := (s2.adj (WIN_RGN_RES_PINNED o.region) false o.pinned).adj (WIN_RGN_RES_PINNED e.region) e.pinned false
  let s4 := s3.adj HRV_DIRTY_PAGES e.dirty o.dirty
  let s5 := if s4.rd HRV_DIRTY_PEAK < s4.rd HRV_DIRTY_PAGES then s4.wr HRV_DIRTY_PEAK (s4.rd HRV_DIRTY_PAGES) else s4
  if e.dirty == o.dirty then s5 else s5.showDirty

/-- Changes an entry. -/
def State.modTier (s : State) (p : Nat) (f : TierEnt → TierEnt) : State := s.setTier p (f (s.tierOf p))

/-- The tier hint tables lose the page (R236). -/
def State.dropHints (s : State) (p : Nat) : State :=
  s.onFab fun f => { f with hints := f.hints.filter fun h => h.page != p }

/-! ## Frames -/

/-- WIN_FRAME_CNT follows the frame table: the spare frames and the frames of fenced ranks count as retired. -/
def State.showFrames (s : State) : State :=
  let pop := s.popChans.filter fun c => s.rd (DRM_CFG_DPC c) != 0
  let ranks := (pop.map fun c => ((s.dr.ch.getD c {}).fencedRanks.length) * s.framesPerRank c).sum
  let listed := s.win.frames.filter fun e => !s.frameFenced e.1
  let retired := (listed.filter fun e => e.2 == .retired).length
  let used := listed.length - retired
  let subst := (pop.map fun c => s.rd (DRM_SUBST_SRC_LEN c)).sum
  (s.wr WIN_FRAME_CNT_RETIRED (pop.length + retired + ranks)).wr WIN_FRAME_CNT_FREE
    (s.totalFrames - s.sysFrames - pop.length - retired - ranks - subst - used)

/-- Sets what the frame table says of a frame. -/
def State.setFrame (s : State) (f : Nat) (u : FrameUse) : State :=
  (s.onWin fun w => { w with frames := mset (fun _ => FrameUse.free) w.frames f u }).showFrames

/-- The dirty cap in pages (R287). -/
def State.dirtyCap (s : State) : Nat := s.rd HRV_CAP_EFF_GIB * 262144

/-- Is there dirty headroom (R219)? -/
def State.headroom (s : State) : Bool := decide (s.rd HRV_DIRTY_PAGES < s.dirtyCap)

/-! ## Page contents -/

/-- The contents of a frame. -/
def State.frameImg (s : State) (f : Nat) : PageImg :=
  (List.range 64).foldl (fun im i =>
    let l := s.physLine f i
    { data := copyRange s.dr.mem im.data (l * 64) (i * 64) 64,
      key := mset (fun _ => (0 : Key)) im.key i (mget (fun _ => (0 : Key)) s.dr.key l) }) {}

/-- Puts line i of contents into line i of a frame as it stands, under the key it was written under. -/
def State.putLine (s : State) (f i : Nat) (im : PageImg) : State :=
  let l := s.physLine f i
  s.onDr fun d => { d with mem := copyRange im.data d.mem (i * 64) (l * 64) 64,
                           key := mset (fun _ => (0 : Key)) d.key l (mget (fun _ => (0 : Key)) im.key i) }

/-- Writes contents into a frame. -/
def State.putImg (s : State) (f : Nat) (im : PageImg) : State :=
  (List.range 64).foldl (fun t i => t.putLine f i im) s

/-- Empties a frame. -/
def State.clearFrame (s : State) (f : Nat) : State := s.putImg f {}

/-- Is the region's key slot loaded? -/
def State.rgnKeyed (s : State) (r : Nat) : Bool := s.keyLoaded (s.rd (TIN_RGN_ATTR_KEY_SLOT r))

/-- CPH_ERR_LAST captures the first event since VALID was cleared. -/
def State.cphLast (s : State) (kind src idx cls : Nat) : State :=
  if s.on CPH_ERR_LAST_VALID then s
  else ((((s.wr CPH_ERR_LAST_KIND kind).wr CPH_ERR_LAST_SOURCE src).wr CPH_ERR_LAST_INDEX idx).wr CPH_ERR_LAST_CLASS cls).wr CPH_ERR_LAST_VALID 1

/-- An operation on an EMPTY slot ends with KEY_LOST (R430, R599). -/
def State.keyLost (s : State) (cls idx : Nat) : State :=
  ((s.bump CPH_CNT_KEY_LOST).cphLast 3 0 idx cls).raise wCPH 4 noSub

/-- The key in a region's key slot. -/
def State.rgnKey (s : State) (r : Nat) : Key := mget (fun _ => (0 : Key)) s.cph.rkey (s.rd (TIN_RGN_ATTR_KEY_SLOT r))

/-- Stored data as it decrypts under a key (R183, R420, R423): itself under the key it was written under, and under another what XTS gives
for its ciphertext, each 16-byte block with its own address as the tweak. What was never written has no key, and reads as a free value. -/
def decrypt (tag key : Key) (line : Nat) (d : Line) : Line :=
  if tag = key then d
  else if tag = 0 then Config.neverWritten key line
  else BitVec.ofNat 512 (ofBytes ((List.range 4).flatMap fun i =>
    let tweak := BitVec.ofNat 128 (64 * line + 16 * i)
    xts key true tweak (xts tag false tweak ((leBytes d.toNat 64).drop (16 * i) |>.take 16))))

/-- Line i of contents, read under a key for the line address. -/
def PageImg.line (im : PageImg) (i : Nat) (key : Key) (addr : Nat) : Line :=
  decrypt (mget (fun _ => (0 : Key)) im.key i) key addr (rdLine im.data (i * 64))

/-- Contents with line i written under a key. -/
def PageImg.setLine (im : PageImg) (i : Nat) (key : Key) (d : Line) : PageImg :=
  { data := wrLine im.data (i * 64) d fullMask, key := mset (fun _ => (0 : Key)) im.key i key }

/-- A line of a frame, read under its region's key for its DPA. -/
def State.frameLine (s : State) (f line : Nat) (key : Key) : Line :=
  let l := s.physLine f (line % 64)
  decrypt (mget (fun _ => (0 : Key)) s.dr.key l) key line (rdLine s.dr.mem (l * 64))

/-- The enabled bytes of a line written into a frame under a key. -/
def State.writeLine (s : State) (f line : Nat) (key : Key) (d : Line) (mask : LMask) : State :=
  let old := s.frameLine f line key
  let l := s.physLine f (line % 64)
  s.onDr fun r =>
    { r with mem := wrLine r.mem (l * 64) (mergeLine old d mask) fullMask, key := mset (fun _ => (0 : Key)) r.key l key }

/-- Zero-lines the 64 lines of a frame under a key (R126, R217). -/
def State.zeroFrame (s : State) (f : Nat) (key : Key) : State :=
  let ls := (List.range 64).map fun i => s.physLine f i
  (s.clearFrame f).onDr fun d => { d with key := ls.foldl (fun m l => mset (fun _ => (0 : Key)) m l key) d.key }

/-! ## Furrow's map -/

/-- The location of a page's flash copy. -/
def State.furLoc (s : State) (p : Nat) : Option Nat :=
  match mget (fun _ => 0) s.fur.map p with
  | 0 => none
  | n + 1 => some n

/-- Sets or clears a map entry (R257). -/
def State.setFur (s : State) (p : Nat) (loc : Option Nat) : State :=
  { s with fur := { s.fur with map := mset (fun _ => 0) s.fur.map p (match loc with | none => 0 | some l => l + 1) } }

/-- The slot at a location. -/
def State.slotAt (s : State) (loc : Nat) : Option FSlot := s.fur.slots.find? fun x => x.loc == loc

/-- The contents of a page's flash copy. -/
def State.flashImg (s : State) (p : Nat) : Option PageImg :=
  match s.furLoc p with
  | none => none
  | some l => (s.slotAt l).map fun x => x.img

/-! ## Heat (R220, R222, R224) -/

/-- Adds to a page's heat, saturating, or drops the event where the heat queue is full. -/
def State.heat (s : State) (p inc : Nat) (full : Bool) : State :=
  if full then s.bump WIN_HEAT_DROP_COUNT
  else s.onWin fun w =>
    let e := mget (fun _ => ({} : TierEnt)) w.tier p
    { w with tier := mset (fun _ => ({} : TierEnt)) w.tier p { e with heat := min 255 (e.heat + inc) } }

/-- Effective heat of a page: HEAT + 8 × BIAS, clamped to 0–255. -/
def State.effHeat (s : State) (p : Nat) : Nat :=
  let e := s.tierOf p
  let b := s.rd (WIN_RGN_POL_BIAS e.region)
  if b < 8 then min 255 (e.heat + 8 * b) else e.heat - 8 * (16 - b)

/-! ## Bounds (R223, R224, R49) -/

/-- Pages of the region that hold a frame. -/
def State.resident (s : State) (r : Nat) : Nat := s.rd (WIN_RGN_RES_RESIDENT r)
/-- Moves of a kind under way on the region's pages. -/
def State.movesIn (s : State) (r : Nat) (k : MoveKind) : Nat :=
  (s.win.moves.filter fun m => m.kind == k && (s.tierOf m.page).region == r).length
/-- Is the region below its ceiling, the frames that promotions under way are to take counted? -/
def State.belowCeil (s : State) (r : Nat) : Bool :=
  s.rd (WIN_RGN_POL_CEIL_GIB r) == 0 ||
    decide (s.resident r + s.movesIn r .promotion < s.rd (WIN_RGN_POL_CEIL_GIB r) * 262144)
/-- The floor of the region in pages, no more than its size. -/
def State.floorPages (s : State) (r : Nat) : Nat := min (s.rd (WIN_RGN_POL_FLOOR_GIB r)) (s.rgnSize r) * 262144
/-- May heat demote the page (R230)? -/
def State.eligible (s : State) (p : Nat) : Bool :=
  let e := s.tierOf p
  e.state.inDram && !e.migrating && !e.poison && !e.pinned && !s.rgnPinned e.region &&
    decide (s.floorPages e.region < s.resident e.region)
/-- The R49 total in pages: DRAM_PINNED regions, pinned pages of TIERED regions, and the pages an accepted pin
operation has reserved. -/
def State.pinTotal (s : State) : Nat :=
  let live := (List.range 256).filter fun r => s.rgnValid r || s.rgnReleasing r
  (live.map fun r => if s.rgnPinned r && s.rgnValid r then s.rgnSize r * 262144 else s.rd (WIN_RGN_RES_PINNED r)).sum +
    (match s.win.pinOp with
     | some ⟨true, b, n⟩ => ((List.range 256).filter fun r => s.rgnValid r && !s.rgnPinned r).foldl (fun a r =>
         if s.rgnHas r (gibOf (b * 64)) then
           a + (n - (s.win.tier.filter fun e => decide (b ≤ e.1 ∧ e.1 < b + n) && e.2.pinned).length) else a) 0
     | _ => 0)
/-- WIN_PAGE_CNT.PINNED shows the R49 total, and WIN FLT bit 7 whether the frames fall short of it. -/
def State.showPins (s : State) : State :=
  let s1 := s.wr WIN_PAGE_CNT_PINNED s.pinTotal
  s1.cond wWIN 7 noSub (decide (s1.framesAvail < s1.pinTotal))

/-! ## Moves (R233 to R238) -/

/-- Move slots in use: a cold read is no move (R233, R244). -/
def State.slotsUsed (s : State) : Nat := (s.win.moves.filter fun m => m.kind != .cold).length
/-- Is there a slot for a move? 64 of the 512 are held for promotions that a requester waits on (R229). -/
def State.slotFree (s : State) (demand : Bool) : Bool := decide (s.slotsUsed < if demand then 512 else 448)
/-- WIN_STS.MOVES follows the moves. -/
def State.showMoves (s : State) : State := s.wr WIN_STS_MOVES s.slotsUsed
/-- The move of a page. -/
def State.moveOf (s : State) (p : Nat) : Option Move := s.win.moves.find? fun m => m.page == p && m.kind != .cold
/-- The move or cold read of a page. -/
def State.stagingOf (s : State) (p : Nat) : Option Move := s.win.moves.find? fun m => m.page == p
/-- Changes a page's moves. -/
def State.modMove (s : State) (p : Nat) (f : Move → Move) : State :=
  s.onWin fun w => { w with moves := w.moves.map fun m => if m.page == p then f m else m }
/-- Adds a move, taking the migration lock unless it is a cold read. -/
def State.addMove (s : State) (m : Move) : State :=
  let s1 := (s.onWin fun w => { w with moves := w.moves ++ [m] }).showMoves
  if m.kind == .cold then s1 else s1.modTier m.page fun e => { e with migrating := true }
/-- Ends a move: its slot is free, the lock clears. -/
def State.endMove (s : State) (p : Nat) : State :=
  ((s.onWin fun w => { w with moves := w.moves.filter fun m => !(m.page == p) }).showMoves).modTier p
    fun e => { e with migrating := false }
/-- A move ends without switching (R238): the destination frame returns to FREE. -/
def State.abandonMove (s : State) (p : Nat) : State :=
  match s.moveOf p with
  | none => s
  | some m =>
    let s1 := (s.endMove p).bump WIN_ABANDON_CNT_COUNT
    match m.dest with
    | none => s1
    | some f => s1.setFrame f .free

/-- The frames whose 5-byte frame-table entries share the 64-byte line of a frame's entry (R216). -/
def tableLine (f : Nat) : List Nat :=
  let l := f * 5 / 64
  (List.range 15).filterMap fun i =>
    let g := l * 64 / 5 + i
    if g * 5 / 64 = l ∨ (g * 5 + 4) / 64 = l then some g else none

/-- Is the page's tier-map line, or the frame-table line of its frame, being rebuilt (R243)? -/
def State.rebuilding (s : State) (page : Nat) : Bool :=
  s.win.rebuild.any fun x => match x with
    | .tierLine p => p / 8 == page / 8
    | .frameLine f => match (s.tierOf page).frame with | none => false | some g => (tableLine f).contains g

/-- Furrow starts to read a page's slot. -/
def State.furRead (s : State) (p : Nat) (why : FReadWhy) : State :=
  match s.furLoc p with
  | none => s
  | some l => { s with fur := { s.fur with rds := s.fur.rds ++ [{ page := p, loc := l, why := why }] } }

/-- A FLASH_ONLY page is wanted: it is promoted, or read cold into staging (R228). An access joins a promotion or a
cold read that is under way; a drain that finds only a cold read adds a promotion. -/
def State.wantPage (s : State) (p : Nat) (drain : Bool) : State :=
  let e := s.tierOf p
  let promote := s.belowCeil e.region && (drain || decide (s.rd WIN_HEAT_PROMO_THRESH ≤ s.effHeat p))
  if e.migrating then s.modMove p fun m => { m with demand := true }
  else if promote then
    if !s.slotFree true then s
    else (s.addMove { kind := .promotion, page := p, demand := true }).furRead p .promote
  else if drain || (s.win.moves.any fun m => m.page == p) then s
  else ((s.onWin fun w => { w with moves := w.moves ++ [{ kind := .cold, page := p, demand := true }] }).showMoves.furRead p
    .cold).bump WIN_COLD_CNT_COUNT

/-! ## Poison (R239, R240) -/

/-- A page is on its way into POISONED: POISON is set and a one-page range invalidation issued. The cause and lines are
those of the data-loss record. -/
def State.poisonStart (s : State) (p psrc cause : Nat) (lines : LMask) (heal : Bool) : State :=
  let e := s.tierOf p
  if e.state == .poisoned || (s.win.poisoning.any fun q => q.page == p) then s
  else
    ((s.onWin fun w => { w with poisoning := w.poisoning ++ [{ page := p, psrc := psrc, cause := cause, lines := lines, healing := heal }] }).modTier
      p fun e => { e with poison := true, region := (s.rgnOfPage p).getD e.region }).invIssue ⟨p, 1, .poison p⟩

/-- The page is written POISONED (R239 step 4): frame freed, flash copy dropped, a data loss recorded where the source
is internal. -/
def State.poisonWrite (s : State) (q : Poisoning) : State :=
  let e := s.tierOf q.page
  let s1 := (s.abandonMove q.page).onWin fun w => { w with poisoning := w.poisoning.filter fun x => x.page != q.page }
  let s2 := match e.frame with
    | none => s1
    | some f => (s1.setFrame f .free).clearFrame f
  let s3 := ((s2.setTier q.page { state := .poisoned, poison := true, psrc := q.psrc, region := e.region, pinned := e.pinned }).setFur
    q.page none).dropHints q.page
  if q.psrc = 1 && q.cause != 0 then s3.dataLoss q.page e.region 1 q.cause q.lines else s3

/-- The poison record of a page. -/
def State.poisonRec (s : State) (p : Nat) : Option PoisonRec :=
  match s.win.poisonT.find? fun x => x.1 == p with
  | none => none
  | some x => some x.2

/-- Sets or clears the bit of a line in a POISONED page's mask. With all 64 set the page becomes DRAM_ONLY (R240). -/
def State.poisonBit (s : State) (p i : Nat) (v : Bool) : State :=
  match s.poisonRec p with
  | none => s
  | some r =>
    let b : LMask := BitVec.ofNat 64 (2 ^ i)
    let m := if v then r.mask ||| b else r.mask &&& ~~~ b
    if m = fullMask then
      (s.onWin fun w => { w with poisonT := w.poisonT.filter fun x => x.1 != p }).modTier p
        fun e => { e with state := .dramOnly, poison := false, psrc := 0 }
    else s.onWin fun w => { w with poisonT := w.poisonT.map fun x => if x.1 == p then (p, ⟨r.psrc, m⟩) else x }

/-! ## Release (R69) -/

/-- Returns a page to UNWRITTEN: its move is abandoned, its frame and poison record freed, its flash copy dropped. -/
def State.releasePage (s : State) (p : Nat) : State :=
  let s1 := s.abandonMove p
  let s2 := match (s1.tierOf p).frame with
    | none => s1
    | some f => (s1.setFrame f .free).clearFrame f
  ((((s2.onWin fun w => { w with poisonT := w.poisonT.filter (fun x => x.1 != p), poisoning := w.poisoning.filter (fun x => x.page != p),
                                 moves := w.moves.filter fun m => m.page != p }).setTier p {}).setFur p none).dropHints p).showMoves

/-! ## The states Winnow shows -/

/-- WIN_STS.DIRTY_FULL, STARVED and GOV_LIMIT follow what waits. -/
def State.showWin (s : State) : State :=
  let starved := s.rd WIN_FRAME_CNT_FREE == 0 &&
    ((s.fab.cb.any fun l => l.drain == .frame) || s.win.moves.any fun m => m.kind == .promotion && m.dest.isNone)
  let full := s.fab.cb.any fun l => l.drain == .headroom
  let gov := s.on FUR_STS_GOV_LIMIT
  (((s.wr WIN_STS_STARVED (if starved then 1 else 0)).wr WIN_STS_DIRTY_FULL (if full then 1 else 0)).wr WIN_STS_GOV_LIMIT
    (if gov then 1 else 0)).cond wWIN 6 noSub starved

end Sys2Proof.Machine
end

