-- ==== Sys2Proof/Machine/DramQ.lean ====
section
/-!
DEFINITION. Machine/DramQ.lean: the read and write queues of a DRAM channel's subchannels (R181, R182) and the class of a
request (R186, R188).
-/
namespace Sys2Proof.Machine
open Sys2Proof

/-- One channel. -/
def State.chOf (s : State) (c : Nat) : DramCh := s.dr.ch.getD c {}

/-- DRM_STS shows the queue entries in use, both subchannels together, of which each has 64 (R181). -/
def State.showQ (s : State) (c : Nat) : State :=
  let n := fun (w : Bool) => ([0, 1].map fun k => min 64 ((s.chOf c).q.filter fun e => e.write == w && e.sub == k).length).sum
  (s.wr (DRM_STS_WQ_USE c) (n true)).wr (DRM_STS_RQ_USE c) (n false)

/-- Entries of a subchannel's write queue, or of its read queue. -/
def State.qLen (s : State) (c : Nat) (write : Bool) (sub : Nat) : Nat :=
  ((s.chOf c).q.filter fun e => e.write == write && e.sub == sub).length

/-- Is the origin's panic asserted and enabled in the channel (R188)? -/
def State.panicOn (s : State) (c : Nat) (o : PanicSrc) : Bool :=
  match o with
  | .yoke => s.on (DRM_RT_YOKE_PANIC c) && s.on (DRM_RT_YOKE_EN c)
  | .drill => s.on (DRM_RT_DRILL_PANIC c) && s.on (DRM_RT_DRILL_EN c)

/-- The class of a new request. -/
def State.qClass (s : State) (c : Nat) (base : DqClass) (o : Option PanicSrc) : DqClass :=
  match o with
  | none => base
  | some p => if s.panicOn c p then .panic else base

/-- A channel leaves, or does not enter, self-refresh when a request reaches it (R195, R196). -/
def State.wakeCh (s : State) (c : Nat) : State :=
  if (s.chOf c).sr == .awake then s
  else (s.onCh c fun d => { d with sr := .awake }).wr (DRM_STS_STATE c) 2

/-- A read of line i of a frame enters its channel's read queue. -/
def State.dqRead (s : State) (f i req : Nat) (cls : DqClass) (o : Option PanicSrc) : State :=
  let c := s.frameChan f
  let e : DqEnt := { sub := i % 2, write := false, line := f * 64 + i, cls := s.qClass c cls o, req := req, origin := o }
  ((s.wakeCh c).onCh c fun d => { d with q := d.q ++ [e] }).showQ c

/-- Issuing a command for a line opens its row, and a command that completes cleanly ends a run of CA parity alerts
(R186, R193). -/
def State.dqIssue (s : State) (c line : Nat) : State :=
  let p := s.place (line / 64) (line % 64)
  let bank := ((p.sub * 4 + p.rank) * 4 + p.cid) * 32 + p.bg * 4 + p.bk
  s.onCh c fun d => { d with caps := 0, openRows := (d.openRows.filter fun r => r.1 != bank) ++ [(bank, p.row)] }

/-- A read leaves its queue, issued or withdrawn. -/
def State.dqDone (s : State) (c req : Nat) (issued : Bool) : State :=
  if (s.chOf c).q.any fun e => !e.write && e.req == req then
    let s1 := (s.onCh c fun d => { d with q := d.q.filter fun e => e.write || e.req != req }).showQ c
    if issued then
      (((s.chOf c).q.filter fun e => !e.write && e.req == req).foldl (fun t e => t.dqIssue c e.line) s1).bump (DRM_RD_CNT_COUNT c)
    else s1
  else s

/-- Is there room in the write queue for line i of a frame? -/
def State.dqRoom (s : State) (f i : Nat) : Bool := decide (s.qLen (s.frameChan f) true (i % 2) < 64)

/-- Writes leave the queue down to WR_LOW once it holds WR_HIGH entries: a batch opens and closes (R186). -/
def State.dqBatch (s : State) (c sub : Nat) : State :=
  let n := s.qLen c true sub
  if s.rd (DRM_SCHED_WR_HIGH c) ≤ n then
    let k := n - s.rd (DRM_SCHED_WR_LOW c)
    let go := ((s.chOf c).q.filter fun e => e.write && e.sub == sub).take k
    ((go.foldl (fun t e => t.dqIssue c e.line) (s.onCh c fun d => { d with q := d.q.filter fun e => !go.contains e })).bumpBy
      (DRM_WR_CNT_COUNT c) k).showQ c
  else s

/-- A write of line i of a frame enters its channel's write queue. -/
def State.dqWrite (s : State) (f i : Nat) (o : Option PanicSrc) : State :=
  let c := s.frameChan f
  let e : DqEnt := { sub := i % 2, write := true, line := f * 64 + i, cls := s.qClass c .background o, origin := o }
  (((s.wakeCh c).onCh c fun d => { d with q := d.q ++ [e] }).showQ c).dqBatch c (i % 2)

end Sys2Proof.Machine
end

