-- ==== Sys2Proof/Machine/Net.lean ====
section
/-!
DEFINITION. Machine/Net.lean: what a network port does with a frame that the device sends: the priority it travels at and
a pause of that priority (R387), the sub-port it leaves on (R388), the port of a Yoke path (R315).
-/
namespace Sys2Proof.Machine
open Sys2Proof

/-- Has a network port a sub-port whose link is up? Frames arrive on no other port. -/
def State.portUp (s : State) (n : Nat) : Bool := s.rd (NPT_STS_SUB_UP n) != 0

/-- Sub-ports of a port in its mode (R388). -/
def State.subPorts (s : State) (n : Nat) : Nat :=
  match s.rd (NPT_CTL_MODE n) with
  | 1 => 2
  | 2 => 4
  | _ => 1

/-- The sub-port that carries a connection's packets: its number modulo the sub-ports, or the next in ascending order that is
up (R388). -/
def State.subPort (s : State) (n conn : Nat) : Option Nat :=
  let k := s.subPorts n
  ((List.range k).map fun i => (conn + i) % k).find? fun i => s.bitOf (NPT_STS_SUB_UP n) i

/-- The priority of a VLAN TCI: its PCP, or 0 for a frame sent untagged (R387). -/
def prioOf (tci : Nat) : Nat := getBits tci 13 3

/-- A frame leaves a port; with no sub-port up it is lost. -/
def State.netOut (s : State) (n conn : Nat) (o : Nat → Out) : State :=
  match s.subPort n conn with
  | none => s
  | some k => s.emit (o k)

/-- The frame as it leaves on a sub-port. -/
def Out.onSub (o : Out) (k : Nat) : Out :=
  match o with
  | .drill port _ p => .drill port k p
  | .neigh port _ v => .neigh port k v
  | o => o

/-- The connection number that chooses a frame's sub-port. -/
def Out.connOf : Out → Nat
  | .drill _ _ p => p.conn
  | _ => 0

/-- A frame is sent at a priority: while that is paused it waits (R387). -/
def State.netSend (s : State) (n prio : Nat) (o : Out) : State :=
  if s.net.paused.contains (n, prio) then { s with net := { s.net with held := s.net.held ++ [(n, prio, o)] } }
  else s.netOut n o.connOf o.onSub

/-- A priority of a port is resumed: what waited for it leaves in order. -/
def State.netResume (s : State) (n prio : Nat) : State :=
  let go := s.net.held.filter fun x => x.1 == n && x.2.1 == prio
  let s1 : State := { s with net := { s.net with paused := s.net.paused.filter (fun x => x != (n, prio)),
                                                 held := s.net.held.filter fun x => !(x.1 == n && x.2.1 == prio) } }
  go.foldl (fun t x => t.netOut n x.2.2.connOf x.2.2.onSub) s1

/-- The port of a path of a pair (R315). -/
def pathPort (p path : Nat) : Nat := 6 - 2 * p + path

/-- A Yoke frame leaves on a path's port at the priority of its descriptor's VLAN TCI. -/
def State.pathEmit (s : State) (p path : Nat) (o : Out) : State :=
  s.netSend (pathPort p path) (prioOf (getBits (s.rd (YOK_PATHDESC_DATA (32 * p + 16 * path + 1))) 16 16)) o

end Sys2Proof.Machine
end

