-- ==== Sys2Proof/Machine/Handoff.lean ====
section
/-!
DEFINITION. Machine/Handoff.lean: what the tines and Winnow hand to Yoke (chapter 10): which writes are mirrored (R318,
R322, R323, R325), the change map (R341), entries in a pair's queue (R331, R333), and heals asked of the twin (R347 to
R349).
-/
namespace Sys2Proof.Machine
open Sys2Proof

/-- Changes Yoke. -/
def State.onYk (s : State) (f : Yoke → Yoke) : State := { s with yk := f s.yk }
/-- Changes one pair. -/
def State.onPair (s : State) (p : Nat) (f : YPair → YPair) : State := s.onYk fun y => { y with pairs := modNth y.pairs p f }
/-- One pair. -/
def State.pairAt (s : State) (p : Nat) : YPair := s.yk.pairs.getD p {}
/-- The enabled pairs. -/
def State.pairsOn (s : State) : List Nat := if s.on YOK_CTL_PAIRS then [0, 1] else [0]
/-- The pair of a line (R316). -/
def State.pairOf (s : State) (line : Nat) : Nat := if s.on YOK_CTL_PAIRS then bucketOf line % 2 else 0
/-- Is the twin reachable (R339)? -/
def State.twinUp (s : State) : Bool := s.rd YOK_STS_TWIN == 2
/-- The granule of 64 MiB of a line (R341). -/
def granuleOf (line : Nat) : Nat := line / 1048576

/-- Is the region's write mirrored: role ACTIVE, in a state in which lines are handed over (R318, R323, R325)? -/
def State.mirrors (s : State) (r : Nat) : Bool :=
  s.rgnClass r != 0 && s.rd (YOK_RGN_ROLE r) == 0 &&
    (s.rd (YOK_RGN_STATE r) == 1 || s.rd (YOK_RGN_STATE r) == 2 || s.rd (YOK_RGN_STATE r) == 4 || s.rd (YOK_RGN_STATE r) == 5)

/-- Sets a granule's mark, or clears it; YOK_STS.MARKED counts the marks. -/
def State.mark (s : State) (g : Nat) (v : Bool) : State :=
  let m := s.yk.marks.filter fun x => x != g
  let s1 := s.onYk fun y => { y with marks := if v then m ++ [g] else m, lagOnly := y.lagOnly.filter fun x => x != g }
  s1.wr YOK_STS_MARKED s1.yk.marks.length

/-- Lag limits of a region, values outside their ranges acting as the nearer end. -/
def State.limBytes (s : State) (r : Nat) : Nat := max 64 (min 65536 (s.rd (YOK_RGN_LIM_KIB r))) * 1024
/-- The age limit of a region in µs. -/
def State.limUs (s : State) (r : Nat) : Nat := max 1 (min 1000 (s.rd (YOK_RGN_LIM_US r)))
/-- Line-data bytes of an entry. -/
def yokeBytes : YokeEntry → Nat
  | .full _ d => 64 * d.length
  | .part _ _ _ => 64
  | .zero _ c => 64 * (c.val + 1)
  | _ => 0

/-- The age in µs of the oldest handed-over line of a region not acknowledged. -/
def State.lagAge (s : State) (r : Nat) : Nat :=
  let of := fun (l : List YSent) => (l.filter fun e => e.region == r && e.cls == 1).map fun e => e.t
  let ts := s.yk.pairs.flatMap fun p => of p.queue ++ p.log.flatMap fun f => of f.ents
  match ts with
  | [] => 0
  | t :: l => (s.now - l.foldl min t) / 1000

/-- Lines of the region handed over and not acknowledged, in bytes. -/
def State.lagBytes (s : State) (r : Nat) : Nat :=
  let of := fun (l : List YSent) => ((l.filter fun e => e.region == r && e.cls == 1).map fun e => yokeBytes e.ent).sum
  (s.yk.pairs.map fun p => of p.queue + (p.log.map fun f => of f.ents).sum).sum

/-- Bytes of an entry on the wire (R331). -/
def entrySize : YokeEntry → Nat
  | .full _ d => 8 + 64 * d.length
  | .part _ _ _ => 80
  | .zero _ _ => 8
  | .pageUnwritten _ => 8
  | .pagePoison _ _ => 8
  | .role _ _ _ _ _ _ => 24
  | .heal _ _ d => 16 + 64 * d.length
  | .checkpoint _ => 16
  | .genEnd => 8

/-- Bytes that the frames of a pair's transmit log hold, and those of the entries that wait to enter it. -/
def YPair.logBytes (y : YPair) : Nat :=
  (y.log.map fun f => 48 + (f.ents.map fun e => entrySize e.ent).sum).sum

/-- Is the transmit log of a pair full (R336): 512 MiB, with no room for one more frame? -/
def State.logFull (s : State) (p : Nat) : Bool :=
  decide (536870912 < (s.pairAt p).logBytes + ((s.pairAt p).queue.map fun e => entrySize e.ent).sum + 9000)

/-- Has a modifying access to a line of a region to wait in its tine: for the region's lag (R325), or for the transmit log
(R336)? -/
def State.lagHeld (s : State) (r line : Nat) : Bool :=
  s.mirrors r && (s.logFull (s.pairOf line) ||
    (s.rgnClass r == 2 && (decide (s.limBytes r ≤ s.lagBytes r) || decide (s.limUs r ≤ s.lagAge r))))

/-- YOK_RGN_LAG follows the lines of a TWIN_LAG region. -/
def State.showLag (s : State) (r : Nat) : State :=
  if s.rgnClass r == 2 then
    (s.wr (YOK_RGN_LAG_BYTES r) (s.lagBytes r)).wr (YOK_RGN_LAG_AGE_US r) (min 4095 (s.lagAge r))
  else s

/-- Appends an entry to a pair's queue. -/
def State.yokeQueue (s : State) (p : Nat) (e : YSent) : State := s.onPair p fun y => { y with queue := y.queue ++ [e] }

/-- A mirror write is handed over: a TWIN_LAG granule is marked first (R341). -/
def State.handOver (s : State) (r line : Nat) (ent : YokeEntry) (req : Option Nat) : State :=
  let g := granuleOf line
  let s1 := if s.rgnClass r == 2 then
      (if s.yk.marks.contains g then s else (s.mark g true).onYk fun y => { y with lagOnly := y.lagOnly ++ [g] }).onYk fun y =>
        { y with lagT := (g, s.now) :: y.lagT.filter fun x => x.1 != g }
    else s
  (s1.yokeQueue (s1.pairOf line) ⟨ent, r, req, 1, s.now⟩).showLag r

/-- A modifying access to an ACTIVE region in SPLIT marks its granule first (R341). -/
def State.splitMark (s : State) (r line : Nat) : State :=
  if s.rgnClass r != 0 && s.rd (YOK_RGN_ROLE r) == 0 && s.rd (YOK_RGN_STATE r) == 3 && !s.yk.marks.contains (granuleOf line) then
    s.mark (granuleOf line) true
  else s

/-! ## Frames that leave (R327 to R332) -/

/-- The state of a path: 0 DOWN, 1 PROBATION, 2 UP. -/
def State.pathState (s : State) (p path : Nat) : Nat := if path = 0 then s.rd (YOK_PAIR_STATE_A p) else s.rd (YOK_PAIR_STATE_B p)
/-- Paths of a pair in PROBATION or UP. -/
def State.usable (s : State) (p : Nat) : List Nat := [0, 1].filter fun k => s.pathState p k != 0
/-- The applied point that a frame carries, and the generation it names (R346). -/
def State.ackOf (s : State) (p : Nat) : Nat × Bool := ((s.pairAt p).applied, (s.pairAt p).rxGen)

/-- A control frame leaves on a path under a new CSN. -/
def State.ctlSend (s : State) (p path op : Nat) (pay : List Byte) : State :=
  let y := s.pairAt p
  let csn := (if path = 0 then y.csnTxA else y.csnTxB) + 1
  let a := s.ackOf p
  (s.onPair p fun y => if path = 0 then { y with csnTxA := csn } else { y with csnTxB := csn }).pathEmit p path (.yokeCtl p path op csn a.1 a.2 pay)

/-- A control frame leaves on every usable path of a pair. -/
def State.ctlAll (s : State) (p op : Nat) (pay : List Byte) : State := (s.usable p).foldl (fun t k => t.ctlSend p k op pay) s

/-- A DATA frame leaves on every usable path (R333). -/
def State.dataSend (s : State) (p : Nat) (f : YFrame) : State :=
  let a := s.ackOf p
  if (s.usable p).isEmpty || !(s.pairAt p).keyed then s
  else (s.usable p).foldl (fun t k => t.pathEmit p k (.yokeData p k f.fsn f.gen f.attempt (f.ents.map fun e => e.ent) a.1 a.2)) s

/-! ## Lines as they stand -/

/-- The line as an internal reader finds it (R131): what is held in a combining buffer over what the page's tier holds, read
under the region's key. Answers poison where the page or line cannot be read. -/
def State.peek (s : State) (line : Nat) : Line × Bool :=
  let p := line / 64
  let e := s.tierOf p
  match s.rgnOfLine line with
  | none => (0, true)
  | some r =>
    let key := s.rgnKey r
    let base : Option Line := match e.state, e.frame with
      | .unwritten, _ => some 0
      | .poisoned, _ => none
      | .flashOnly, _ => (s.flashImg p).map fun im => im.line (line % 64) key line
      | _, some f => some (s.frameLine f line key)
      | _, none => none
    if e.poison || !s.keyLoaded (s.rd (TIN_RGN_ATTR_KEY_SLOT r)) then (0, true)
    else
      match base, s.fab.cb.find? fun l => l.line == line with
      | none, _ => (0, true)
      | some d, none => (d, false)
      | some d, some l => (mergeLine d l.data l.mask, false)

/-- A new access joins the crossbar. -/
def State.arrive (s : State) (r : Req) : State :=
  s.onFab fun f => { f with nextId := f.nextId + 1, xbar := f.xbar ++ [{ r with id := f.nextId, phase := .xbar }] }

/-! ## Heals -/

/-- The local conditions of R347 for a page of a region. -/
def State.healable (s : State) (page : Nat) : Bool :=
  match s.rgnOfPage page with
  | none => false
  | some r =>
    let st := s.rd (YOK_RGN_STATE r)
    let g := granuleOf (page * 64)
    s.rgnClass r != 0 && s.twinUp &&
      (st == 2 || (st == 1 && decide (page < s.rd YOK_RSV_POS_PAGE)) || (st == 4 && !s.yk.marks.contains g)) &&
      (s.rd (YOK_RGN_ROLE r) == 1 || !s.yk.marks.contains g)

/-- HEALING of a window is 1 while a heal for data it lost is outstanding (R608). -/
def State.showHeal (s : State) (w : Nat) : State :=
  s.wr (UNIT_HEALING w) (if (s.yk.heals ++ s.yk.healQ).any fun h => h.win == w then 1 else 0)

/-- Sends HEAL_REQ with the next FSN of each pair (R330, R348), on the first pair with a usable path. -/
def State.healSend (s : State) (h : Heal) : State :=
  let p := (s.pairsOn.find? fun p => !(s.usable p).isEmpty).getD 0
  let g := fun p => if s.on (YOK_PAIR_KEYGEN p) then 1 else 0
  s.ctlAll p 0x04 (leBytes h.num 4 ++ [if h.page then 2 else 1, BitVec.ofNat 8 (g 0 + 2 * g 1), 0, 0] ++ leBytes (h.line * 64) 8 ++
    leBytes (s.pairAt 0).txFsn 8 ++ leBytes (s.pairAt 1).txFsn 8)

/-- Asks the twin for a line or a page; with 64 outstanding the heal waits (R349). -/
def State.healAsk (s : State) (line : Nat) (page : Bool) (why : HealWhy) (w : Nat) : State :=
  let h : Heal := { num := s.yk.healNum, line := line, page := page, why := why, win := w }
  let s1 := s.onYk fun y =>
    if y.heals.length < 64 then { y with heals := y.heals ++ [h], healNum := y.healNum + 1 }
    else { y with healQ := y.healQ ++ [h], healNum := y.healNum + 1 }
  let s2 := (s1.wr YOK_HEAL_OUTSTANDING s1.yk.heals.length).showHeal w
  if s.yk.heals.length < 64 then s2.healSend h else s2

/-- A modifying access overtakes the heals of its line (R131, R348). -/
def State.healOver (s : State) (line : Nat) : State :=
  s.onYk fun y => { y with heals := y.heals.map fun h =>
    if h.line / 64 == line / 64 && (h.page || h.line == line) then { h with overw := h.overw ||| BitVec.ofNat 64 (2 ^ (line % 64)) } else h }

/-- A heal ends; a waiting one takes its place. -/
def State.healEnd (s : State) (h : Heal) : State :=
  let s1 := s.onYk fun y =>
    { y with heals := (y.heals.filter fun x => x.num != h.num) ++ y.healQ.take 1, healQ := y.healQ.drop 1 }
  let s2 := (s1.wr YOK_HEAL_OUTSTANDING s1.yk.heals.length).showHeal h.win
  match s.yk.healQ.head? with
  | none => s2
  | some q => s2.healSend q

end Sys2Proof.Machine
end

