-- ==== Sys2Proof/Machine/YokeRx.lean ====
section
/-!
DEFINITION. Machine/YokeRx.lean: how received Yoke frames are applied (R317, R318, R331, R334, R346, R354), and the
acknowledgements that follow (R332, R335).
-/
namespace Sys2Proof.Machine
open Sys2Proof

/-- YOK_RXSEQ and YOK_ACKED and YOK_TXSEQ follow a pair (R346). -/
def State.showSeq (s : State) (p : Nat) : State :=
  let y := s.pairAt p
  let low := (y.log.filter fun f => f.gen == s.on (YOK_PAIR_KEYGEN p)).foldl (fun m f => min m f.fsn) y.txFsn
  ((s.wr (YOK_TXSEQ_FSN p) y.txFsn).wr (YOK_ACKED_FSN p) (low - 1)).wr (YOK_RXSEQ_FSN p)
    (if y.rxGen == s.on (YOK_PAIR_KEYGEN p) then y.applied else 0)

/-- The missing runs below the frames held: first FSN and length, at most 32 (R332, R335). -/
def State.naks (s : State) (p : Nat) : List (Nat × Nat) :=
  let y := s.pairAt p
  let have_ := (y.held.filter fun f => f.gen == y.rxGen).map fun f => f.fsn
  let top := have_.foldl max y.applied
  let miss := (List.range (top - y.applied)).filterMap fun i => if have_.contains (y.applied + 1 + i) then none else some (y.applied + 1 + i)
  (miss.foldl (fun (l : List (Nat × Nat)) n => match l with
    | (a, k) :: t => if a + k = n then (a, k + 1) :: t else (n, 1) :: l
    | [] => [(n, 1)]) []).reverse.take 32

/-- An ACK on every usable path (R332, R335), with NAK records where asked, and the error records that are due. -/
def State.ackSend (s : State) (p : Nat) (nak : Bool) : State :=
  let n := if nak then s.naks p else []
  let e := (s.pairAt p).errs.take 32
  let pay := leBytes (s.pairAt p).applied 6 ++ leBytes n.length 2 ++ leBytes e.length 2 ++ leBytes 0 6 ++
    (n.flatMap fun x => leBytes x.1 6 ++ leBytes x.2 2) ++ e.flatMap fun x => leBytes x.1 6 ++ [BitVec.ofNat 8 x.2.1, BitVec.ofNat 8 x.2.2]
  (s.onPair p fun y => { y with errs := y.errs.drop 32 }).ctlAll p 0x02 pay

/-- Regions in SPLIT or STALLED raise SPLIT (R599). -/
def State.showSplit (s : State) : State :=
  s.cond wYOK 8 noSub ((List.range 256).any fun r => s.rd (YOK_RGN_STATE r) == 3 || s.rd (YOK_RGN_STATE r) == 5)

/-- Sets a region's Yoke state. -/
def State.setYok (s : State) (r st : Nat) : State :=
  let t := if st = 3 then s else { s with cs := { s.cs with taken := s.cs.taken.filter fun x => x != r } }
  (t.wr (YOK_RGN_STATE r) st).showSplit

/-- A ROLE entry of the twin (R317, R319, R322): the error code, or what it does. -/
def State.roleEntry (s : State) (r action cls role epoch size : Nat) : State × Nat :=
  if !s.rgnValid r || s.rgnClass r != cls || s.rgnSize r != size || cls = 0 then (s, 1)
  else
    let own := s.rd (YOK_RGN_EPOCH r)
    match action with
    | 0 => (s.onYk fun y => { y with twinSaid := (r, role, epoch) :: y.twinSaid.filter fun x => x.1 != r }, 0)
    | 1 =>
      if s.rd (YOK_RGN_STATE r) != 0 && s.rd (YOK_RGN_ROLE r) == 0 && decide (epoch ≤ own) then (s, 2)
      else if epoch < own then (s, 3)
      else (((s.wr (YOK_RGN_ROLE r) 1).wr (YOK_RGN_EPOCH r) epoch).setYok r 1, 0)
    | _ =>
      if epoch ≤ own then (s, 3)
      else ({ (s.wr (YOK_RGN_ROLE r) 0).wr (YOK_RGN_EPOCH r) epoch with cs := { s.cs with handed := s.cs.handed.filter (fun x => x != r) ++ [r] } }, 0)

/-- The first line of a line entry and its accesses: kind, data and mask, line by line. -/
def entryLines : YokeEntry → List (Nat × AccKind × Line × LMask)
  | .full l d => (List.range d.length).zip d |>.map fun x => (l.toNat + x.1, .write, x.2, fullMask)
  | .part l m d => [(l.toNat, .write, d, m)]
  | .zero l c => (List.range (c.val + 1)).map fun i => (l.toNat + i, .zero, 0, fullMask)
  | _ => []

/-- May a line or page entry of a region be applied (R318)? The error code. -/
def State.entryErr (s : State) (line : Nat) : Nat :=
  match s.rgnOfLine line with
  | none => 1
  | some r => if s.rgnClass r = 0 then 1 else if s.rd (YOK_RGN_ROLE r) = 0 then 2 else 0

/-- Notes an error record for the next ACK. -/
def State.rxErr (s : State) (p code : Nat) : State :=
  if code = 0 then s
  else s.onPair p fun y => { y with errs := y.errs ++ [(y.applied + 1, y.rxIdx, code)] }

/-- Applies one entry of the frame next in order (R331). Line entries become an operation of internal writes, the others act
at once. -/
def State.rxEntry (s : State) (p : Nat) (e : YokeEntry) : State :=
  match e with
  | .pageUnwritten g =>
    let c := s.entryErr (g.toNat * 64)
    if c = 0 then s.releasePage g.toNat else s.rxErr p c
  | .pagePoison g psrc =>
    let c := s.entryErr (g.toNat * 64)
    if c = 0 then s.poisonStart g.toNat psrc 0 fullMask false else s.rxErr p c
  | .role r act cls role epoch size =>
    let (s1, c) := s.roleEntry r act cls role epoch.toNat size
    s1.rxErr p c
  | .heal num l d => s.onYk fun y => { y with healDone := y.healDone ++ [(num.toNat, l.toNat, d)] }
  | .checkpoint _ => s
  | .genEnd => s
  | e =>
    let l := entryLines e
    match l with
    | [] => s
    | x :: _ =>
      let c := s.entryErr x.1
      if c = 0 then
        let op := s.fab.nextId
        let s1 := (s.onFab fun f => { f with nextId := f.nextId + 1, ops := f.ops ++ [{ id := op, left := l.length }] }).onPair p
          fun y => { y with rxOp := some op }
        l.foldl (fun t x => t.arrive { id := 0, src := .yoke op, kind := x.2.1, line := x.1, mask := x.2.2.2, data := x.2.2.1 }) s1
      else s.rxErr p c

/-- The frame next in order. -/
def State.rxNext (s : State) (p : Nat) : Option YRx :=
  let y := s.pairAt p
  y.held.find? fun f => f.fsn == y.applied + 1 && f.gen == y.rxGen

/-- The applied point passes a frame; past a GEN_END the next generation follows (R334, R335, R346). -/
def State.rxPassed (s : State) (p : Nat) (f : YRx) : State :=
  let last := f.ents.contains .genEnd
  let s1 := f.bufs.foldl (fun t b => t.grnRelease b) s
  let s2 := s1.onPair p fun y =>
    { y with held := y.held.filter (fun x => !(x.fsn == f.fsn && x.gen == f.gen)), rxIdx := 0, rxOp := none,
             applied := (if last then 0 else f.fsn), rxGen := (if last then !y.rxGen else y.rxGen) }
  (s2.showSeq p).ackSend p false

/-- Applies received frames in order until an entry has to wait. -/
def State.rxPumpFor : Nat → Nat → State → State
  | 0, _, s => s
  | n + 1, p, s =>
    let y := s.pairAt p
    match y.rxOp with
    | some op =>
      match s.fab.ops.find? fun o => o.id == op with
      | some o =>
        if o.left = 0 then
          let s1 := (s.onFab fun f => { f with ops := f.ops.filter fun x => x.id != op }).onPair p fun y => { y with rxOp := none, rxIdx := y.rxIdx + 1 }
          rxPumpFor n p s1
        else s
      | none => rxPumpFor n p (s.onPair p fun y => { y with rxOp := none, rxIdx := y.rxIdx + 1 })
    | none =>
      match s.rxNext p with
      | none => s
      | some f =>
        match f.ents[y.rxIdx]? with
        | none => rxPumpFor n p (s.rxPassed p f)
        | some e =>
          let s1 := s.rxEntry p e
          if (s1.pairAt p).rxOp.isSome then s1 else rxPumpFor n p (s1.onPair p fun y => { y with rxIdx := y.rxIdx + 1 })

/-- Lines and entries that received frames may yet bring to the tines. -/
def State.rxLines (s : State) : Nat :=
  (s.yk.pairs.map fun y => (y.held.map fun f => 1 + (f.ents.map fun e => 1 + (entryLines e).length).sum).sum).sum

/-- Applies received frames of a pair in order. -/
def State.rxPump (s : State) (p : Nat) : State := State.rxPumpFor (2 * s.rxLines + 2) p s

end Sys2Proof.Machine
end

