-- ==== Sys2Proof/Machine/DrillRx.lean ====
section
/-!
DEFINITION. Machine/DrillRx.lean: Drill's connections: their packets to the endpoint (R360 to R364, R380), acknowledgements
and completion (R373, R378), what follows when the lines of a request have ended (R377, R383, R384), and when the lines of
a job's chunk or packet have (R401 to R405).
-/
namespace Sys2Proof.Machine
open Sys2Proof

/-! ## Connections -/

/-- Changes Drill. -/
def State.onDl (s : State) (f : Drill → Drill) : State := { s with dl := f s.dl }
/-- A connection. -/
def State.connAt (s : State) (n : Nat) : DConn := mget (fun _ => ({} : DConn)) s.dl.conns n
/-- Changes a connection. -/
def State.onConn (s : State) (n : Nat) (f : DConn → DConn) : State :=
  s.onDl fun d => { d with conns := mset (fun _ => ({} : DConn)) d.conns n (f (mget (fun _ => ({} : DConn)) d.conns n)) }

/-- k bytes of the descriptor from byte b (R392). -/
def DConn.fld (c : DConn) (b k : Nat) : Nat := getBits c.desc (8 * b) (8 * k)
/-- RELAXED. -/
def DConn.relaxed (c : DConn) : Bool := (c.fld 0 1).testBit 0
/-- DUAL. -/
def DConn.dual (c : DConn) : Bool := (c.fld 0 1).testBit 1
/-- CONTROL. -/
def DConn.control (c : DConn) : Bool := (c.fld 0 1).testBit 2
/-- The connection group. -/
def DConn.group (c : DConn) : Nat := c.fld 1 1
/-- The mailbox channel of a CONTROL connection. -/
def DConn.chan (c : DConn) : Nat := c.fld 2 1
/-- The port of a path. -/
def DConn.port (c : DConn) (path : Nat) : Nat := c.fld (4 + path) 1
/-- The paths of the connection (R382). -/
def DConn.paths (c : DConn) : List Nat := if c.dual then [0, 1] else [0]
/-- MAXPL in bytes (R367). -/
def DConn.maxpl (c : DConn) : Nat := 512 * 2 ^ c.code

/-- The owner of a connection group's Granary buffers. -/
def State.groupOwner (s : State) (g : Nat) : Nat := s.rd (GRN_GMAP_OWNER g)

/-- DRL_ERR_LAST takes the first event since VALID was cleared. -/
def State.drlLast (s : State) (kind code conn psn : Nat) : State :=
  if s.on DRL_ERR_LAST_VALID then s
  else ((((s.wr DRL_ERR_LAST_CODE code).wr DRL_ERR_LAST_CONN conn).wr DRL_ERR_LAST_KIND kind).wr DRL_ERR_LAST_PSN_LO psn).wr
    DRL_ERR_LAST_VALID 1

/-! ## Packets to the endpoint -/

/-- A packet leaves on one path. Every device packet carries the completion point (R378). -/
def State.drlEmit (s : State) (n path op attempt seq off : Nat) (final : Bool) (pay : List Byte) : State :=
  let c := s.connAt n
  s.netSend (c.port path) (prioOf (c.fld 8 2)) (.drill (c.port path) 0 ⟨n, path, op, attempt, seq, c.c, final, off, pay⟩)

/-- A response-space packet leaves on the given paths under the next RSN (R361, R382). -/
def State.rspOn (s : State) (n : Nat) (paths : List Nat) (op : Nat) (pay : List Byte) : State :=
  let c := s.connAt n
  (paths.foldl (fun t k => t.drlEmit n k op 0 c.rsn 0 false pay) s).onConn n fun c => { c with rsn := c.rsn + 1 }

/-- A response-space packet leaves on every path. -/
def State.rspSend (s : State) (n op : Nat) (pay : List Byte) : State := s.rspOn n (s.connAt n).paths op pay

/-- A retained packet leaves on every path. -/
def State.sentEmit (s : State) (n : Nat) (p : DSent) : State :=
  (s.connAt n).paths.foldl (fun t k => t.drlEmit n k p.op p.attempt p.psn p.off p.final p.pay) s

/-- A packet enters the device's sequenced stream: it takes the next PSN and is retained, or waits for room among the 4,096
(R380). -/
def State.seqSend (s : State) (n : Nat) (p : DSent) : State :=
  let c := s.connAt n
  if c.sent.length < 4096 && c.txWait.isEmpty then
    let q := { p with psn := c.txPsn }
    (s.onConn n fun c => { c with sent := c.sent ++ [q], txPsn := c.txPsn + 1 }).sentEmit n q
  else s.onConn n fun c => { c with txWait := c.txWait ++ [p] }

/-- Waiting packets take the room there is. -/
def State.txFillFor : Nat → Nat → State → State
  | 0, _, s => s
  | k + 1, n, s =>
    match (s.connAt n).txWait with
    | [] => s
    | p :: t =>
      if (s.connAt n).sent.length < 4096 then txFillFor k n ((s.onConn n fun c => { c with txWait := [] }).seqSend n p |>.onConn n fun c => { c with txWait := t })
      else s

/-! ## Acknowledgement (R364, R378) -/

/-- Puts a number into an ascending list. -/
def insertAsc (x : Nat) : List Nat → List Nat
  | [] => [x]
  | a :: t => if x < a then x :: a :: t else if x = a then a :: t else a :: insertAsc x t

/-- The runs of an ascending list: first number and length. -/
def runsOf : List Nat → List (Nat × Nat)
  | [] => []
  | x :: t =>
    match runsOf t with
    | (a, k) :: r => if x + 1 = a then (x, k + 1) :: r else (x, 1) :: (a, k) :: r
    | [] => [(x, 1)]

/-- The runs missing below the numbers of an ascending list, above c. -/
def gapsOf (c : Nat) : List Nat → List (Nat × Nat)
  | [] => []
  | x :: t => if c + 1 < x then (c + 1, x - c - 1) :: gapsOf x t else gapsOf (max c x) t

/-- The PSNs received above the completion point, ascending. -/
def DConn.received (c : DConn) : List Nat := c.reqs.foldl (fun l r => if r.again then l else insertAsc r.psn l) c.done

/-- The missing runs (R378). -/
def DConn.naks (c : DConn) : List (Nat × Nat) := gapsOf c.c c.received

/-- An 8-byte record of an ACK: first PSN, run length less 1. -/
def ackRec (r : Nat × Nat) : List Byte := leBytes r.1 6 ++ leBytes (r.2 - 1) 2

/-- BACKOFF_US, 0 acting as 1. -/
def State.backoff (s : State) : Nat := max 1 (s.rd DRL_LIMITS_BACKOFF_US)

/-- An ACK leaves with the state of the instant (R364, R378, R379). -/
def State.drlAck (s : State) (n : Nat) (nak : Bool) : State :=
  let c := s.connAt n
  let sk := (runsOf c.done).take 16
  let nk := if nak then c.naks.take 16 else []
  let flags := (if c.ackNobuf then 1 else 0) + (if c.ackWindow then 2 else 0)
  let pay := [BitVec.ofNat 8 sk.length, BitVec.ofNat 8 nk.length, BitVec.ofNat 8 flags, 0] ++
    leBytes (if c.ackNobuf then s.backoff else 0) 2 ++ [0, 0] ++ sk.flatMap ackRec ++ nk.flatMap ackRec
  (s.rspSend n 0x21 pay).onConn n fun c => { c with ackAt := some s.now, ackWait := false, ackNobuf := false, ackWindow := false }

/-- ACK_MIN in ns, 0 acting as 1 unit. -/
def State.ackMin (s : State) : Nat := 10 * max 1 (s.rd DRL_TMR_ACK_MIN)

/-- An ACK is made due: it leaves at once, or waits for the limit of R378. -/
def State.ackDue (s : State) (n : Nat) : State :=
  let c := s.connAt n
  if c.state != 2 then s
  else
    match c.ackAt with
    | none => s.drlAck n false
    | some t => if t + s.ackMin ≤ s.now then s.drlAck n false else s.onConn n fun c => { c with ackWait := true }

/-! ## Completion (R373) -/

/-- The completion point passes what has completed. -/
def passDone (c : Nat) : List Nat → Nat × List Nat
  | [] => (c, [])
  | x :: t => if x = c + 1 then passDone x t else if x ≤ c then passDone c t else (c, x :: t)

/-- A request completes: it leaves the list, and the completion point follows; an ACK is due. -/
def State.reqDone (s : State) (n psn : Nat) : State :=
  (s.onConn n fun c =>
    let (p, d) := passDone c.c (if psn ≤ c.c then c.done else insertAsc psn c.done)
    { c with c := p, done := d, reqs := c.reqs.filter fun r => r.psn != psn }).ackDue n

/-- A READ or JQ_READ executed again ends; its PSN had completed before. -/
def State.againDone (s : State) (n : Nat) (r : DReq) : State := s.onConn n fun c => { c with reqs := c.reqs.erase r }

/-- Counts a failed request of a connection (R392). -/
def State.failCount (s : State) (n code psn : Nat) : State :=
  ((s.onConn n fun c => { c with errors := min 65535 (c.errors + 1) }).bump DRL_TX_CNT_ERRORS).drlLast 1 code n psn

/-- A WRITE, JOB, MBX or ERROR packet has failed: an ERROR packet names it, and the completion point waits for its
acknowledgement (R373). -/
def State.reqFail (s : State) (n psn code : Nat) : State :=
  let s1 := (s.failCount n code psn).onConn n fun c => { c with reqs := c.reqs.map fun r => if r.psn == psn then { r with phase := .failed } else r }
  s1.seqSend n { op := 0x08, pay := leBytes 1 2 ++ leBytes 0 14 ++ leBytes (psn + code * 2 ^ 48) 8, err := some psn }

/-- Releases a Granary buffer if there is one. -/
def State.bufBack (s : State) (b : Option Nat) : State := match b with | none => s | some x => s.grnRelease x

/-- A response's extension (R363): request PSN, status, the value of bytes 8 to 15. -/
def rspExt (psn status : Nat) (v : Word64) : List Byte := leBytes psn 6 ++ [BitVec.ofNat 8 status, 0] ++ leBytes v.toNat 8

/-- A READ, ATOMIC or JQ_READ is answered, and completes with its response (R373, R384). -/
def State.answer (s : State) (n : Nat) (r : DReq) (op status : Nat) (v : Word64) (data : List Byte) : State :=
  let s1 := if status = 0 then s else s.failCount n status r.psn
  let s2 := (s1.bufBack r.buf).rspSend n op (rspExt r.psn status v ++ data)
  if r.again then s2.againDone n r else s2.reqDone n r.psn

/-- The status of R384 and R405 for how an operation's accesses ended. -/
def memStatus (st : Nat) : Nat :=
  if st = 0 then 0 else if st = 0x10 then 2 else if st = 0x11 then 3 else if st = 0x12 then 6 else 1

/-- The lines a READ returned, in ascending order. -/
def sortLines (l : List (Nat × Line × Bool)) : List (Nat × Line × Bool) :=
  l.foldr (fun x acc => (acc.filter fun y => decide (y.1 < x.1)) ++ x :: (acc.filter fun y => decide (x.1 < y.1))) []

/-- The request of a connection that runs as an operation. -/
def State.reqOfOp (s : State) (n op : Nat) : Option DReq := (s.connAt n).reqs.find? fun r => r.phase == .run op

/-- The lines of a connection's request have ended. An abandoned write or read is received anew when it is sent again, an
abandoned atomic is answered from the cache (R377). -/
def State.connEnd (s : State) (n : Nat) (o : MemOp) : State :=
  let s0 := (s.onFab fun f => { f with ops := f.ops.filter fun x => x.id != o.id }).bufBack o.buf
  match s.reqOfOp n o.id with
  | none => s0
  | some r =>
    let st := memStatus o.status
    match r.op with
    | .read =>
      if st = 6 then s0.againDone n r
      else
        let l := sortLines o.data
        let mask := ((List.range l.length).zip l).foldl (fun m x => if x.2.2.2 then m + 2 ^ x.1 else m) 0
        if st = 0 || st = 2 then
          s0.answer n r 0x22 st (BitVec.ofNat 64 mask) (l.flatMap fun x => leBytes (if x.2.2 then 0 else x.2.1.toNat) 64)
        else s0.answer n r 0x22 st 0 []
    | .atomic =>
      let v := o.old.headD 0
      let s1 := s0.onConn n fun c => { c with atoms := ((r.psn, st, v) :: c.atoms).take 16 }
      if st = 6 then s1.reqDone n r.psn else s1.answer n r 0x23 st v []
    | _ =>
      if st = 0 then s0.reqDone n r.psn
      else if st = 6 then s0.againDone n r
      else s0.reqFail n r.psn st

/-! ## Jobs (R397 to R406) -/

/-- A byte range of a descriptor. -/
def jf (d : Line) (b k : Nat) : Nat := getBits d.toNat (8 * b) (8 * k)
/-- A queue. -/
def State.jqAt (s : State) (q : Nat) : JQueue := mget (fun _ => ({} : JQueue)) s.dl.jqs q
/-- Changes a queue. -/
def State.onJq (s : State) (q : Nat) (f : JQueue → JQueue) : State :=
  s.onDl fun d => { d with jqs := mset (fun _ => ({} : JQueue)) d.jqs q (f (mget (fun _ => ({} : JQueue)) d.jqs q)) }
/-- A started job. -/
def State.jobAt (s : State) (id : Nat) : Option JRun := s.dl.jobs.find? fun j => j.id == id
/-- Changes a started job. -/
def State.onJob (s : State) (id : Nat) (f : JRun → JRun) : State :=
  s.onDl fun d => { d with jobs := d.jobs.map fun j => if j.id == id then f j else j }

/-- Bytes of a part of a job: a chunk of 4 KiB, or a packet of the owner's MAXPL (R401, R403). -/
def State.partSize (s : State) (j : JRun) : Nat :=
  if jf j.d 0 1 = 3 then (s.connAt (s.rd (DRL_JQ_STATE_CONN j.queue))).maxpl else 4096
/-- Parts of a job. -/
def State.partCount (s : State) (j : JRun) : Nat := (jf j.d 4 4 + s.partSize j - 1) / s.partSize j
/-- Lines of a part. -/
def State.partLines (s : State) (j : JRun) (i : Nat) : Nat := min (s.partSize j / 64) (jf j.d 4 4 / 64 - i * (s.partSize j / 64))
/-- Parts that may be in flight: 16 chunks (R401), one packet being read. -/
def JRun.window (j : JRun) : Nat := if jf j.d 0 1 = 3 then 1 else 16
/-- Has the job presented every access? -/
def State.jobPresented (s : State) (j : JRun) : Bool := j.stop || decide (s.partCount j ≤ j.next)

/-- Presents the accesses of a job's next part; a chunk of a COPY or a packet of a PUSH takes a Granary buffer first, and the
job waits where there is none (R401, R414). -/
def State.jobPart (s : State) (job : Nat) : State :=
  match s.jobAt job with
  | none => s
  | some j =>
    if s.jobPresented j || j.noBuf || decide (j.window ≤ j.parts.length) then s
    else
      let op := jf j.d 0 1
      let g := (s.jqAt j.queue).group
      let n := s.partLines j j.next
      let first := j.next * (s.partSize j / 64)
      let (s1, b) := if op = 2 then (s, none) else s.grnAlloc (s.groupOwner g)
      if op != 2 && b.isNone then (s1.bump DRL_JQ_CNT_NOBUF_WAIT).onJob job fun j => { j with noBuf := true }
      else
        let id := s1.fab.nextId
        let o : MemOp := { id := id, left := (if op = 1 then 2 * n else n), group := g, buf := b, hold := if op = 3 then 0 else n }
        let s2 := (s1.onFab fun f => { f with nextId := f.nextId + 1, ops := f.ops ++ [o] }).onJob job fun j =>
          { j with next := j.next + 1, parts := j.parts ++ [(j.next, id)] }
        let base := if op = 2 then jf j.d 16 8 / 64 else jf j.d 8 8 / 64
        (List.range n).foldl (fun t i => t.arrive { id := 0, src := .job j.queue id, kind := (if op = 2 then .zero else .read), line := base + first + i }) s2

/-- Presents parts while the window has room. -/
def State.jobParts (s : State) (job : Nat) : State := (List.range 16).foldl (fun t _ => t.jobPart job) s

/-- A job with every access presented and none outstanding has ended, and JOB_COMPLETE follows; one that has failed and been
counted gives up its slot. -/
def State.jobIdle (s : State) (job : Nat) : State :=
  match s.jobAt job with
  | none => s
  | some j =>
    if j.orphan && j.parts.isEmpty then
      let s1 := s.onDl fun d => { d with jobs := d.jobs.filter fun j => j.id != job }
      s1.wr DRL_JQ_STS_SLOTS_USED s1.dl.jobs.length
    else if s.jobPresented j && j.parts.isEmpty && j.unacked == 0 then s.onJob job fun j => { j with ended := true }
    else s

/-- A modifying line of an operation has been accepted, or will not be: at the last one the Granary buffer goes back. -/
def State.opHold (s : State) (op : Nat) : State :=
  match s.fab.ops.find? fun o => o.id == op with
  | none => s
  | some o =>
    let free := o.hold = 1
    let s1 := s.onFab fun f => { f with ops := f.ops.map fun x =>
      if x.id == op then { x with hold := x.hold - 1, buf := (if free then none else x.buf) } else x }
    if free then s1.bufBack o.buf else s1

/-- One line of an operation has ended. -/
def State.opTake (s : State) (op line status : Nat) (d : Option (Line × Bool)) : State :=
  s.onFab fun f => { f with ops := f.ops.map fun o =>
    if o.id == op then
      { o with left := o.left - 1, status := (if o.status == 0 then status else o.status),
               data := (match d with | none => o.data | some x => o.data ++ [(line, x.1, x.2)]) }
    else o }

/-- A line of a job's part has ended. A COPY presents the write of a line it has read, a poisoned one where the line was
poisoned (R401, R405); an access that fails otherwise fails the job. A part that has ended makes room. -/
def State.jobLine (s : State) (op line status : Nat) (d : Option (Line × Bool)) : State :=
  match s.dl.jobs.find? fun j => j.parts.any fun p => p.2 == op with
  | none => s
  | some j =>
    let st := memStatus status
    let bad := st != 0 && !(st = 2 && jf j.d 0 1 = 1)
    let s1 := if bad then s.onJob j.id fun j => { j with status := (if j.status = 0 then st else j.status), stop := true, ended := true }
      else if st = 2 then s.onJob j.id fun j => { j with pois := true } else s
    let s2 := match d with
      | some (x, p) =>
        if jf j.d 0 1 = 1 then
          if bad || j.status != 0 then (s1.opTake op 0 0 none).opHold op
          else s1.arrive { id := 0, src := .job j.queue op, kind := .write, line := line - jf j.d 8 8 / 64 + jf j.d 16 8 / 64, mask := fullMask, data := x, poison := p }
        else s1
      | none => s1
    match s2.fab.ops.find? fun o => o.id == op with
    | none => s2
    | some o =>
      if o.left != 0 then s2
      else if jf j.d 0 1 = 3 && !bad && (s2.jobAt j.id).any (fun j => !j.stop) then s2
      else
        let s3 := s2.onFab fun f => { f with ops := f.ops.filter fun x => x.id != op }
        let s4 := (s3.bufBack o.buf).onJob j.id fun j => { j with parts := j.parts.filter fun p => p.2 != op }
        (s4.jobParts j.id).jobIdle j.id

/-- A PUSH packet has been acknowledged (R404). -/
def State.pushAcked (s : State) (job : Nat) : State := (s.onJob job fun j => { j with unacked := j.unacked - 1 }).jobIdle job

/-! ## Acknowledgements of the endpoint (R380) -/

/-- The endpoint's ACK field and SACK runs cover retained packets. -/
def State.drlTake (s : State) (n ack : Nat) (sacks : List (Nat × Nat)) : State :=
  let cov := fun (p : DSent) => decide (p.psn ≤ ack) || sacks.any fun r => decide (r.1 ≤ p.psn ∧ p.psn < r.1 + r.2)
  let gone := (s.connAt n).sent.filter cov
  let s1 := s.onConn n fun c => { c with sent := c.sent.filter fun p => !cov p }
  let s2 := gone.foldl (fun t p =>
    let t1 := t.bufBack p.buf
    let t2 := match p.err with | none => t1 | some psn => t1.reqDone n psn
    match p.job with
    | none => t2
    | some job => t2.pushAcked job) s1
  s2.txFillFor (s2.connAt n).txWait.length n

/-- What the lines of the started jobs may yet bring to the tines. -/
def State.jobWork (s : State) : Nat := (s.dl.jobs.map fun j => jf j.d 4 4 / 32 + 2).sum

end Sys2Proof.Machine
end

