-- ==== Sys2Proof/Machine/Tine.lean ====
section
/-!
DEFINITION. Machine/Tine.lean: what a tine does with a line access (chapters 02 and 04): the region check (R60 to R62),
the lock table and the lock order (R119 to R124), combining buffers and their drains (R122 to R128), reads through the
near cache and on the tier-map entry (R129, R130, R153), completion by requester (R61, R101 to R105), and the queues
that hold requests before they start (R115, R116).
-/
namespace Sys2Proof.Machine
open Sys2Proof

/-! ## Requests -/

/-- Does the access modify its line? -/
def AccKind.modifies : AccKind → Bool
  | .read => false
  | _ => true

/-- The stream of a request (R115), or none for an internal access. -/
def Req.stream (r : Req) (pair : Nat) : Option (Nat × Nat) :=
  match r.src with
  | .ld link ld _ => some (0, link * 16 + ld)
  | .conn n _ => some (1, n)
  | .job q _ => some (2, q)
  | .yoke _ => some (3, pair)
  | .intern => none

/-- A started request. -/
def State.reqOf (s : State) (id : Nat) : Option Req := s.fab.act.find? fun r => r.id == id
/-- Changes a started request. -/
def State.modReq (s : State) (id : Nat) (f : Req → Req) : State :=
  s.onFab fun b => { b with act := b.act.map fun r => if r.id == id then f r else r }
/-- Sets the phase of a started request. -/
def State.setPhase (s : State) (id : Nat) (p : Phase) : State := s.modReq id fun r => { r with phase := p }
/-- Requests started and outstanding in a tine. -/
def State.outstanding (s : State) (t : Nat) : Nat := (s.fab.act.filter fun r => r.tine == t).length
/-- The requests of a tine's input queue. -/
def State.queueOf (s : State) (t : Nat) : List Req := s.fab.queue.filter fun r => r.tine == t

/-! ## The region check (R57, R60) -/

/-- The connection group an operation is checked under. -/
def State.opGroup (s : State) (op : Nat) : Nat :=
  match s.fab.ops.find? fun o => o.id == op with | none => 0 | some o => o.group

/-- The requester as the region check sees it: its world and its bit in the owner masks, none where it is unbound. -/
def State.requester (s : State) (src : Src) : Option (Bool × Bool × Nat) :=
  let cg := fun g => if s.on (TIN_CGB_VALID g) then some (s.cgSecure g, true, g) else none
  if !s.locked then none
  else
    match src with
    | .ld link ld _ => (s.ldIndex link ld).map fun n => (s.on (TIN_LDB_WORLD n), false, n)
    | .conn _ op | .job _ op => cg (s.opGroup op)
    | _ => none

/-- The region check of a line access: the region, or the reason and the region found. Reasons: 1 UNBOUND, 2 NO_REGION,
3 WORLD, 4 NOT_OWNER, 5 READ_ONLY. -/
def State.check (s : State) (src : Src) (line : Nat) (modifies : Bool) : Except (Nat × Nat) Nat :=
  match s.requester src with
  | none => .error (1, 0xFF)
  | some (world, cg, n) =>
    match s.rgnOfLine line with
    | none => .error (2, 0xFF)
    | some r =>
      if world != s.rgnSecure r then .error (3, r)
      else if !s.bitOf (if cg then TIN_RGN_CGRD_MASK r else TIN_RGN_LDRD_MASK r) n then .error (4, r)
      else if modifies && (!s.bitOf (if cg then TIN_RGN_CGWR_MASK r else TIN_RGN_LDWR_MASK r) n ||
          (s.rgnClass r != 0 && s.rd (YOK_RGN_ROLE r) == 1)) then .error (5, r)
      else .ok r

/-- KIND and SOURCE of TIN_CHK_LAST. -/
def chkSource : Src → Nat × Nat
  | .ld link ld _ => (0, link * 16 + ld)
  | .conn n _ => (1, n)
  | .job q _ => (2, q)
  | _ => (0, 0)

/-- A failed check is counted; the first is captured and recorded (R62). -/
def State.chkFail (s : State) (src : Src) (line reason region : Nat) : State :=
  let s1 := (s.bump TIN_CHK_COUNT_COUNT).raiseQuiet wTIN 2 noSub
  if s.on TIN_CHK_LAST_VALID then s1
  else
    let k := chkSource src
    let s2 := (((((s1.wr TIN_CHK_LAST_DPA_GIB (gibOf line)).wr TIN_CHK_LAST_REGION region).wr TIN_CHK_LAST_REASON reason).wr
      TIN_CHK_LAST_KIND k.1).wr TIN_CHK_LAST_SOURCE k.2).wr TIN_CHK_LAST_VALID 1
    s2.record 0x05 wTIN (leBytes (s2.rdW TIN_CHK_LAST).toNat 8)

/-! ## Completion -/

/-- Is the link up? -/
def State.linkUp (s : State) (link : Nat) : Bool := s.rd (HPT_LSTS_STATE (link / 4) (link % 4)) == 3

/-- Sends a read's response to an LD, with poison counted (R103). A response to a link that is down is discarded (R84). -/
def State.sendDrs (s : State) (link ld tag : Nat) (d : Line) (poison : Bool) : State :=
  if s.linkUp link then
    let s1 := if poison then s.bump (HPT_POIS_POIS_CNT (link / 4) (link % 4)) else s
    s1.emit (.drs link ld tag d poison (s.devLoad (link / 4)))
  else s

/-- Sends a completion without data to an LD. -/
def State.sendNdr (s : State) (link ld tag : Nat) : State :=
  if s.linkUp link then s.emit (.ndr link ld tag (s.devLoad (link / 4))) else s

/-- A line of a multi-line operation ends, `early` where it had been accepted before: an operation of Yoke that has ended lets
its frame go on, one of a connection ends its request, one of a job its part. -/
def State.opLine (s : State) (src : Src) (op line status : Nat) (d : Option (Line × Bool)) (early : Bool) : State :=
  let s0 := s.opTake op line status d
  let s1 := if early || d.isSome then s0 else s0.opHold op
  match src with
  | .yoke _ => (s1.rxPump 0).rxPump 1
  | .conn n _ =>
    match s1.fab.ops.find? fun o => o.id == op with
    | some o => if o.left = 0 then s1.connEnd n o else s1
    | none => s1
  | .job _ _ => s1.jobLine op line status d
  | _ => s1

/-- A cluster's 48-bit counter of a tenant advances (R626, R627). -/
def cntAdd (m : SMap Nat) (k n : Nat) : SMap Nat := mset (fun _ => 0) m k ((mget (fun _ => 0) m k + n) % 2 ^ 48)

/-- Is the requester one that Tithe counts? -/
def Req.counted (r : Req) : Bool := match r.src with | .ld _ _ _ | .conn _ _ | .job _ _ => true | _ => false

/-- A line returned with data, unpoisoned, counts 64 bytes to its tenant (R626). -/
def State.countRead (s : State) (r : Req) : State :=
  if r.counted && r.kind == .read then { s with th := { s.th with rdc := cntAdd s.th.rdc (r.tine / 32 * 256 + r.tenant) 64 } } else s

/-- The enabled bytes of an accepted write count to its tenant (R626). -/
def State.countWrite (s : State) (r : Req) (bytes : Nat) : State :=
  if r.counted then { s with th := { s.th with wrc := cntAdd s.th.wrc (r.tine / 32 * 256 + r.tenant) bytes } } else s

/-- The outcome of a request reaches its requester: `status` 0, the reason of a failed check, 0x10 for poison, 0x11 for an
empty key slot, 0x12 abandoned. Tags from 65536 on are those of writes that Headland makes for an LD's command, which no CXL response
answers (R525). -/
def State.respond (s : State) (r : Req) (status : Nat) (d : Line) (poison : Bool) : State :=
  match r.src with
  | .ld link ld tag =>
    if 65536 ≤ tag then s
    else match r.kind with
    | .read => s.sendDrs link ld tag d poison
    | _ => s.sendNdr link ld tag
  | .conn _ op | .job _ op | .yoke op =>
    s.opLine r.src op r.line (if poison && status == 0 then 0x10 else status)
      (match r.kind with | .read => some (d, poison) | _ => none) (match r.phase with | .twin _ => true | _ => false)
  | .intern => s

/-- The data of a poisoned response, which the spec leaves open. -/
def State.junk (s : State) : Line := Config.freeLine s.fresh

/-- Frees lock-table entries that nothing holds: SHARED with no reader (R119). -/
def State.altTidy (s : State) : State :=
  (s.onFab fun f => { f with alt := f.alt.filter fun e => e.mode != .shared || !e.readers.isEmpty }).showAlt

/-- A request ends: it leaves its tine and its lock-table entry. -/
def State.finish (s : State) (id : Nat) : State :=
  (s.onFab fun f => { f with act := f.act.filter (fun r => r.id != id),
                             alt := f.alt.map fun e => { e with readers := e.readers.filter fun x => x != id } }).altTidy

/-- A request completes. -/
def State.complete (s : State) (r : Req) (status : Nat) (d : Line) (poison : Bool) : State :=
  ((if status == 0 && !poison then s.countRead r else s).respond r status d poison).finish r.id

/-- Completes with poison; the data beside it is open. -/
def State.completePoison (s : State) (r : Req) : State := (s.complete r 0 s.junk true).draw

/-! ## The lock table -/

/-- The entry of a line. -/
def State.altOf (s : State) (line : Nat) : Option AltEnt := s.fab.alt.find? fun e => e.line == line
/-- The lowest free way in service of the line's set. -/
def State.altWay (s : State) (line : Nat) : Option Nat :=
  let set := altSetOf line
  (List.range 16).find? fun w => !s.fab.waysOut.contains (set, w) &&
    !s.fab.alt.any fun e => altSetOf e.line == set && e.way == w
/-- Sets the mode of a line's entry. -/
def State.altMode (s : State) (line : Nat) (m : AltMode) : State :=
  s.onFab fun f => { f with alt := f.alt.map fun e => if e.line == line then { e with mode := m } else e }
/-- A reader joins a line's entry. -/
def State.altReader (s : State) (line id : Nat) : State :=
  s.onFab fun f => { f with alt := f.alt.map fun e =>
    if e.line == line && !e.readers.contains id then { e with readers := e.readers ++ [id] } else e }

/-- An outvoted copy of a lock-table way: corrected, and the way taken out of service at the second within 3,600 s
(R600). -/
def State.altVote (s : State) (line : Nat) (w : Nat) : State :=
  let set := altSetOf line
  let u := set * 16 + w
  let s1 := (s.raise wTIN 3 noSub).stamp .vote u
  if 2 ≤ s1.stampsIn .vote u 3600 && !s1.fab.waysOut.contains (set, w) then
    ((((s1.unstamp .vote u).onFab fun f => { f with waysOut := (set, w) :: f.waysOut }).raise wTIN 4 w).fenceRec wTIN 1 true w 4
      0).wr (UNIT_DEGRADED wTIN) 1
  else s1

/-- Has a started access to the line, earlier in lock order, to be waited for? A read waits for earlier modifying
accesses that have not merged, a modifying access also for earlier reads that have not captured their data (R121). -/
def State.blockedBy (s : State) (r : Req) : Bool :=
  (s.fab.act.takeWhile fun q => q.id != r.id).any fun q =>
    q.line == r.line && (match q.phase with | .twin _ => false | _ => true) && (r.kind.modifies || q.kind.modifies)

/-! ## Combining buffers -/

/-- The combining-buffer line of a line that is not yet drained. -/
def State.cbOf (s : State) (line : Nat) : Option CbLine := s.fab.cb.find? fun l => l.line == line
/-- The lowest free slot of a tine. -/
def State.cbSlot (s : State) (t : Nat) : Option Nat :=
  (List.range 16).find? fun i => !s.fab.cb.any fun l => l.tine == t && l.slot == i
/-- The near-cache bank and the line within it that hold a combining-buffer line (R149). -/
def cbBank (t : Nat) : Nat := 2 * (t / 32) + t % 32 / 16
/-- See `cbBank`. -/
def cbIndex (t slot : Nat) : Nat := t % 16 * 16 + slot
/-- Removes a combining-buffer line. -/
def State.cbDrop (s : State) (line : Nat) : State :=
  match s.cbOf line with
  | none => s
  | some l => (s.onFab fun f => { f with cb := f.cb.filter fun x => x.line != line }).showCb (l.tine / 32)
/-- Changes a combining-buffer line. -/
def State.modCb (s : State) (line : Nat) (g : CbLine → CbLine) : State :=
  s.onFab fun f => { f with cb := f.cb.map fun l => if l.line == line then g l else l }

/-- Does the page's frame stand ready for the drained line, and if not what does the line wait for (R126, R219, R228, R240)? -/
def State.drainNeeds (s : State) (l : CbLine) : DrainWait :=
  let p := pageOf l.line
  let e := s.tierOf p
  let held := match s.moveOf p with | none => false | some m => m.hold
  if held || s.rebuilding p || (e.poison && e.state != .poisoned) then .hold
  else
    match e.state, e.frame with
    | .flashOnly, _ => .promo
    | .unwritten, _ | .poisoned, none => if !s.belowCeil l.region then .promo else if s.headroom then .frame else .headroom
    | .dramClean, some _ => if s.headroom then .ready else .headroom
    | _, some _ => .ready
    | _, none => .frame

/-- Sets what the lines handed to the drain wait for; a drain to a FLASH_ONLY page asks for its promotion (R126, R228). -/
def State.drainSort (s : State) : State :=
  let s1 := s.fab.cb.foldl (fun (t : State) (l : CbLine) =>
    if l.drain == .none then t
    else
      let w := t.drainNeeds l
      let t1 := t.modCb l.line fun x => { x with drain := w }
      if w == .promo && (t1.tierOf (pageOf l.line)).state == .flashOnly then t1.wantPage (pageOf l.line) true else t1) s
  s1.showWin

/-! ## Fences of tines and clusters (R142, R144) -/

/-- Clusters in service. -/
def State.clustersUp (s : State) : List Nat := (List.range 8).filter fun c => !s.clusterOut c
/-- Tines in service. -/
def State.tinesUp (s : State) : List Nat := (List.range 256).filter s.tineOk

/-- Requests queued but not started move, in queue order, to the homes that R114 now gives (R142 steps 1 to 3). -/
def State.rehome (s : State) : State :=
  (s.onFab fun f => { f with queue := f.queue.map fun r => { r with tine := s.homeTine (bucketOf r.line) } }).showHomes

/-- The lines of a set of tines are handed to their drains, once no twin is waited for. -/
def State.drainTines (s : State) (p : Nat → Bool) : State :=
  (s.onFab fun f =>
    { f with cb := f.cb.map fun l => if p l.tine && l.drain == .none && l.twin == 0 then { l with drain := .ready } else l }).drainSort

/-- A cluster's fence begins; the last cluster is never fenced. `dev` names the cause bit of a fence by the device. -/
def State.clusterFence (s : State) (c cause : Nat) (dev : Option Nat) : State :=
  if s.clusterOut c then s
  else if s.holds (tcWin c) then s.holdFence (tcWin c) noSub (dev.getD 0xFF) cause dev.isSome
  else if s.clustersUp == [c] then s.fenceRec (tcWin c) 4 dev.isSome noSub (dev.getD 0xFF) 0
  else
    let s1 := ((s.wr (TIN_CL_STS_STATE c) 1).wr (TIN_CL_STS_CAUSE c) cause).onFab fun f =>
      { f with fencing := f.fencing ++ [⟨c, [], true⟩] }
    ((s1.rehome).drainTines fun t => t / 32 == c).fenceRec (tcWin c) 1 dev.isSome noSub (dev.getD 0xFF) 0

/-- A tine's fence begins; the last tine that is up is never fenced. -/
def State.tineFence (s : State) (t : Nat) (cause : Nat) (dev : Option Nat) : State :=
  if !s.tineOk t then s
  else if s.holds (tcWin (t / 32)) then s.holdFence (tcWin (t / 32)) (t % 32) (dev.getD 0xFF) cause dev.isSome
  else if s.tinesUp == [t] then s.fenceRec (tcWin (t / 32)) 4 dev.isSome (t % 32) (dev.getD 0xFF) 0
  else
    let s1 := (s.wr (TIN_CL_STS_CAUSE (t / 32)) cause).onFab fun f =>
      { f with fencing := f.fencing ++ [⟨t / 32, [t % 32], false⟩] }
    ((s1.rehome).drainTines fun x => x == t).fenceRec (tcWin (t / 32)) 1 dev.isSome (t % 32) (dev.getD 0xFF) 0

/-- A check-bit error in a combining-buffer line with unwritten data (R128, R171): the line is lost, its cluster is
fenced (its tine where the cluster is the last), and the line is healed from the twin or its page poisoned. -/
def State.cbLoss (s : State) (l : CbLine) : State :=
  let b := cbBank l.tine
  let c := l.tine / 32
  let s1 := ((((s.bump (NCH_ERR_CNT_CB_PAR b)).ncLast b 8 (cbIndex l.tine l.slot) 0 0 0).raise (wNCH b) 5 noSub).raise (tcWin c) 2
    noSub).cbDrop l.line
  let s2 := if l.twin == 0 then s1.altMode l.line .shared else s1.altMode l.line .mirrorWait
  let s3 := if s2.clustersUp == [c] then s2.tineFence l.tine 2 (some 2) else s2.clusterFence c 2 (some 2)
  let s4 := if s3.rgnClass l.region == 1 && s3.healable (pageOf l.line) then s3.healAsk l.line false .cbLine (tcWin c)
    else s3.poisonStart (pageOf l.line) 1 1 (BitVec.ofNat 64 (2 ^ (l.line % 64))) false
  s4.altTidy

/-- The line's tine drains its least recently written lines at TIN_DRAIN.HIGH (R125). -/
def State.highWater (s : State) (t : Nat) : State :=
  let h := s.rd TIN_DRAIN_HIGH
  let h := if 1 ≤ h ∧ h ≤ 16 then h else 16
  if h ≤ s.cbUseTine t then
    match s.fab.cb.find? fun l => l.tine == t && l.drain == .none && l.twin == 0 with
    | none => s
    | some l => (s.modCb l.line fun x => { x with drain := .ready }).drainSort
  else s

/-- The line with the bytes that a write enables. -/
def Req.bytes (r : Req) : Line := match r.kind with | .zero => 0 | _ => r.data
/-- The byte mask of a modifying access. -/
def Req.wmask (r : Req) : LMask := match r.kind with | .zero => fullMask | _ => r.mask
/-- The entry that mirrors a write. -/
def Req.mirrorEntry (r : Req) : YokeEntry :=
  let l := BitVec.ofNat 40 r.line
  match r.kind with
  | .zero => .zero l 0
  | _ => if r.mask = fullMask then .full l [r.data] else .part l r.mask r.data

/-- An accepted access whose twin has yet to acknowledge frees its operation's buffer (R371). -/
def State.heldBack (s : State) (r : Req) : State :=
  match r.src with
  | .conn _ op | .job _ op => s.opHold op
  | _ => s

/-- A requester's modifying access marks its granule before it is accepted in SPLIT (R341). -/
def State.splitMarkFor (s : State) (r : Req) : State :=
  match r.src with
  | .intern | .yoke _ => s
  | _ => s.splitMark r.region r.line

/-- An error of the cached copy found while a write's bytes are merged into it: an uncorrectable one invalidates the way, and nothing is
lost (R158, R168). -/
def State.ncMergeErr (s : State) (line : Nat) (e : NcErr) : State :=
  match (s.ncOf (bankOfLine line)).ways.find? fun x => x.line == line with
  | none => s
  | some x => s.ncErr (bankOfLine line) false x.set x.way e

/-- After acceptance: the entry's mode, the cached copy, heat, the hand-off to Yoke and the completion (R122, R23, R158,
R220, R323). -/
def State.accepted (s : State) (r : Req) (heatFull : Bool) : State :=
  let s := s.splitMarkFor r
  let n := ((List.range 64).filter fun j => r.wmask.getLsbD j).length
  let s1 := ((((s.ncWrite r.line r.bytes r.wmask).healOver r.line).altMode r.line .held).highWater r.tine).countWrite r n
  let s2 := match r.src with
    | .intern | .yoke _ => s1
    | _ => s1.heat (pageOf r.line) (s1.rd WIN_HEAT_WR_INC) heatFull
  let mir := s2.mirrors r.region && (match r.src with | .intern | .yoke _ => false | _ => true)
  if !mir then s2.complete r 0 0 false
  else if s2.rgnClass r.region == 1 then
    ((((s2.handOver r.region r.line r.mirrorEntry (some r.id)).modCb r.line fun l => { l with twin := l.twin + 1 }).altMode r.line
      .mirrorWait).setPhase r.id (.twin 1)).heldBack r
  else (s2.handOver r.region r.line r.mirrorEntry none).complete r 0 0 false

/-- A modifying access at the head of its line's order merges (R122, R125 to R127), or waits. -/
def State.merge (s : State) (r : Req) (env : FabEnv) : State :=
  match s.cbOf r.line with
  | some l =>
    if l.drain != .none then s.setPhase r.id .handed
    else if env.cbBad then (s.cbLoss l).setPhase r.id .order
    else
      ((s.onFab fun f =>
        { f with cb := (f.cb.filter fun x => x.line != r.line) ++
            [{ l with data := mergeLine l.data r.bytes r.wmask, mask := l.mask ||| r.wmask }] }).ncMergeErr r.line env.nc).accepted r env.heatFull
  | none =>
    match s.cbSlot r.tine with
    | none => s.setPhase r.id .cbLine
    | some i =>
      (((s.onFab fun f =>
        { f with cb := f.cb ++ [{ tine := r.tine, slot := i, line := r.line, data := mergeLine 0 r.bytes r.wmask,
                                  mask := r.wmask, region := r.region }] }).showCb (r.tine / 32)).ncMergeErr r.line env.nc).accepted r env.heatFull

/-- A write that carries poison lands no data and poisons its page (R104, R240); the twin is told (R104). -/
def State.poisonedWrite (s : State) (r : Req) : State :=
  let p := pageOf r.line
  let s := s.splitMarkFor r
  let s1 := if (s.tierOf p).state == .poisoned then s.poisonBit p (r.line % 64) false else s.poisonStart p 2 0 0 false
  let ent := YokeEntry.pagePoison (BitVec.ofNat 34 p) 2
  if !s1.mirrors r.region then s1.complete r 0 0 false
  else if s1.rgnClass r.region == 1 then ((s1.handOver r.region r.line ent (some r.id)).setPhase r.id (.twin 1)).heldBack r
  else (s1.handOver r.region r.line ent none).complete r 0 0 false

/-- A write whose region key slot is empty lands no data (R51, R105, R384); its LD is told where it holds the read right (R106). -/
def State.erasedWrite (s : State) (r : Req) : State :=
  match r.src with
  | .ld link ld _ =>
    if (s.ldIndex link ld).any fun n => s.bitOf (TIN_RGN_LDRD_MASK r.region) n then
      ((s.onLd (link * 16 + ld) fun l => { l with poisonList := l.poisonList ++ [r.line] }).ldEvent (link * 16 + ld) 1 3
        (some r.line)).complete r 0 0 false
    else s.complete r 0 0 false
  | _ => s.complete r 0x11 0 false

/-- The result of an atomic on a word, and the old word (R383). -/
def atomResult (op : AtomOp) (old x y : Word64) : Word64 :=
  match op with
  | .fetchAdd => old + x
  | .swap => x
  | .compareSwap => if old = x then y else old

/-- Word w of a line. -/
def lineWord (d : Line) (w : Nat) : Word64 := BitVec.ofNat 64 (d.toNat / 2 ^ (64 * w))

/-- A read's data has arrived at its tine: bytes held in a combining buffer are merged over it (R123), and the read is
served; an atomic computes its word and merges it. -/
def State.deliver (s : State) (r : Req) (d : Line) (heat : Bool) (full : Bool) : State :=
  let d := match s.cbOf r.line with | none => d | some l => mergeLine d l.data l.mask
  let s1 := if heat then s.heat (pageOf r.line) (s.rd WIN_HEAT_RD_INC) full else s
  match r.kind with
  | .atomic op w x y =>
    if s.lagHeld r.region r.line then s.setPhase r.id .lag
    else
    let old := lineWord d w
    let n := atomResult op old x y
    let s2 := match r.src with
      | .conn _ o | .job _ o | .yoke o => s1.onFab fun (f : Fabric) =>
          { f with ops := f.ops.map fun (m : MemOp) => if m.id == o then { m with old := m.old ++ [old] } else m }
      | _ => s1
    s2.merge { r with data := BitVec.ofNat 512 (n.toNat * 2 ^ (64 * w)), mask := BitVec.ofNat 64 (255 * 2 ^ (8 * w)) } {}
  | _ => s1.complete r 0 d false

/-- The ingress a tine request came through (R186). -/
def Req.origin (r : Req) : Option PanicSrc :=
  match r.src with
  | .conn _ _ => some .drill
  | .yoke _ => some .yoke
  | _ => none

/-- A speculative read is withdrawn or its data discarded (R129, R130). -/
def State.specDrop (s : State) (r : Req) : State :=
  match r.spec with
  | none => s
  | some f => ((s.dqDone (s.frameChan f) r.id false).modReq r.id fun q => { q with spec := none, specBack := false }).bump
      (TIN_SPEC_DISC_COUNT (r.tine / 32))

/-- A request proceeds to its tier (R123, R129): the near cache where no HELD data stands, else the authoritative
entry. -/
def State.fetch (s : State) (r : Req) (env : FabEnv) : State :=
  let held := (s.cbOf r.line).isSome
  if held || r.kind.modifies then s.setPhase r.id .entry
  else
    let hint := if s.on TIN_RUNAHEAD_ENABLE then
        s.fab.hints.find? fun h => h.cluster == r.tine / 32 && h.page == pageOf r.line else none
    let spec := hint.map fun h => h.frame
    let (s1, hit) := s.ncLookup r.line r.id env.nc
    let issue := fun (t : State) =>
      match spec with
      | none => t
      | some f => t.dqRead f (r.line % 64) r.id .demand r.origin
    let miss := fun (fill : Bool) =>
      issue ((s1.modReq r.id fun q => { q with phase := .entry, spec := spec, fill := fill }).pfTrack r.line r.region)
    match hit with
    | .hit d => (if spec.isSome then s1.bump (TIN_SPEC_DISC_COUNT (r.tine / 32)) else s1).deliver r d true env.heatFull
    | .join =>
      ((if spec.isSome then s1.bump (TIN_SPEC_DISC_COUNT (r.tine / 32)) else s1).setPhase r.id .joined).pfTrack r.line r.region
    | .alloc => miss true
    | .noFill => miss false

/-- A request holds its lock-table entry and acts (R51, R119, R122 to R125). -/
def State.act (s : State) (r : Req) (env : FabEnv) : State :=
  let keyed := s.keyLoaded (s.rd (TIN_RGN_ATTR_KEY_SLOT r.region)) || (match r.src with | .intern => true | _ => false)
  let pois := (s.tierOf (pageOf r.line)).state == .poisoned
  match r.kind with
  | .read =>
    match s.altOf r.line with
    | some e =>
      if e.mode == .mirrorWait then (s.bump TIN_ALT_CNT_MW_WAIT).setPhase r.id .mirror
      else
        let s := s.altReader r.line r.id
        if !keyed then s.completePoison r
        else
          match s.cbOf r.line with
          | some l =>
            if env.cbBad then ((s.cbLoss l).fetch r env)
            else if pois then s.completePoison r
            else if l.mask = fullMask then
              (s.heat (pageOf r.line) (s.rd WIN_HEAT_RD_INC) env.heatFull).complete r 0 l.data false
            else s.fetch r env
          | none => s.fetch r env
    | none => s
  | .atomic _ _ _ _ =>
    if !keyed then s.erasedWrite r
    else if s.lagHeld r.region r.line then s.setPhase r.id .lag
    else
      match s.cbOf r.line with
      | some l =>
        if l.drain != .none then s.setPhase r.id .handed
        else if env.cbBad then (s.cbLoss l).setPhase r.id .order
        else if l.mask = fullMask && !pois then s.deliver r l.data false env.heatFull
        else s.fetch r env
      | none =>
        if env.cbBad then
          let b := cbBank r.tine
          ((((s.bump (NCH_ERR_CNT_CB_PAR b)).ncLast b 7 (cbIndex r.tine 0) 0 0 0).raise (wNCH b) 5 noSub).raise
            (tcWin (r.tine / 32)) 3 noSub).fetch r env
        else s.fetch r env
  | _ =>
    if r.poison then s.poisonedWrite r
    else if !keyed then s.erasedWrite r
    else if s.lagHeld r.region r.line then s.setPhase r.id .lag
    else s.merge r env

/-- A started request takes or makes its lock-table entry, in lock order (R119 to R121). -/
def State.proceed (s : State) (r : Req) (env : FabEnv) : State :=
  let s := match env.voted with | none => s | some w => s.altVote r.line w.val
  if s.blockedBy r then s.setPhase r.id .order
  else
    match s.altOf r.line with
    | some _ => s.act r env
    | none =>
      match s.altWay r.line with
      | none =>
        if r.phase == .way then s else (s.bump TIN_ALT_CNT_SET_STALL).setPhase r.id .way
      | some w =>
        ((s.onFab fun f => { f with alt := f.alt ++
          [{ line := r.line, way := w, mode := if r.kind.modifies then .excl else .shared }] }).showAlt).act r env

/-- A modifying access that ended without merging leaves no EXCL entry behind. -/
def State.exclTidy (s : State) : State :=
  (s.onFab fun f => { f with alt := f.alt.map fun e =>
    if e.mode == .excl && !f.act.any fun r => r.line == e.line && r.kind.modifies then { e with mode := .shared } else e }).altTidy

/-- A tine starts a request: the region check, then the lock order (R60, R61). -/
def State.start (s : State) (r : Req) (env : FabEnv) : State :=
  let s1 := (s.onFab fun f => { f with queue := f.queue.filter fun q => q.id != r.id }).bump (TIN_REQ_CNT_COUNT (r.tine / 32))
  let go := fun (rg : Nat) =>
    let r := { r with region := rg, tenant := s1.rd (TIN_RGN_ATTR_TENANT rg), phase := .order }
    ((s1.onFab fun f => { f with act := f.act ++ [r] }).proceed r env).exclTidy
  match r.src with
  | .intern | .yoke _ =>
    match s.rgnOfLine r.line with
    | none => s1.respond r 2 0 false
    | some rg => go rg
  | _ =>
    match s.check r.src r.line r.kind.modifies with
    | .error (reason, rg) => ((s1.chkFail r.src r.line reason rg).respond r reason s1.junk (r.kind == .read)).draw
    | .ok rg =>
      if r.kind == .write && r.mask = 0 && !r.poison then s1.respond r 0 0 false
      else go rg

/-! ## Queues (R115, R116, R293) -/

/-- May a request in the crossbar enter its home queue? Until Resow has armed Harvest no host, Drill or job request is
admitted (R307). -/
def State.enterable (s : State) (r : Req) : Bool :=
  !s.fab.hold && (!r.kind.modifies || s.on HRV_STS_ARMED || r.src == .intern) && (s.hv.armed || !r.counted) &&
    decide ((s.queueOf (s.homeTine (bucketOf r.line))).length < 16)

/-- Is an earlier request of the same stream still in the crossbar? -/
def State.streamWaits (s : State) (r : Req) : Bool :=
  let p := s.pairOf r.line
  (s.fab.xbar.takeWhile fun q => q.id != r.id).any fun q => (r.stream p).isSome && q.stream p == r.stream p

/-- A request enters its home queue, and with it the line's lock order: a modifying access kills the line's miss entry
(R120, R157). -/
def State.enqueue (s : State) (r : Req) : State :=
  let t := s.homeTine (bucketOf r.line)
  let s1 := s.onFab fun f => { f with xbar := f.xbar.filter (fun q => q.id != r.id), queue := f.queue ++ [{ r with tine := t, phase := .queued }] }
  if r.kind.modifies then s1.ncModify r.line else s1

/-- The next request that can move on: into a queue, from the head of a queue, or a read whose earlier writes have
merged. -/
def State.advance (s : State) (env : Nat → FabEnv) : Option State :=
  match s.fab.act.find? fun r => r.phase == .order && r.kind == .read && !s.blockedBy r with
  | some r => some ((s.proceed r (env r.id)).exclTidy)
  | none =>
    match s.fab.queue.find? fun r => (match (s.queueOf r.tine).head? with | some h => h.id == r.id | none => false) &&
        decide (s.outstanding r.tine < 32) with
    | some r => some (s.start r (env r.id))
    | none =>
      match s.fab.xbar.find? fun r => s.enterable r && !s.streamWaits r with
      | some r => some (s.enqueue r)
      | none => none

/-- Moves requests on until nothing can move. -/
def State.settleFor (s : State) (env : Nat → FabEnv) : Nat → State
  | 0 => s
  | n + 1 =>
    match s.advance env with
    | none => s
    | some t => t.settleFor env n

/-- Moves requests on, none of them meeting an array error. -/
def State.settle (s : State) : State :=
  s.settleFor (fun _ => {}) (3 * (s.fab.xbar.length + s.fab.queue.length + s.fab.act.length + s.rxLines + s.jobWork) + 3)

/-- Makes an access and moves requests on; the environment is the new access's own. -/
def State.submit (s : State) (r : Req) (env : FabEnv) : State :=
  let id := s.fab.nextId
  (s.arrive r).settleFor (fun i => if i == id then env else {}) (3 * (s.fab.xbar.length + s.fab.queue.length + s.fab.act.length + s.rxLines + s.jobWork + 1) + 3)

end Sys2Proof.Machine
end

