-- ==== Sys2Proof/Machine/Serve.lean ====
section
/-!
DEFINITION. Machine/Serve.lean: how a read ends (R130, R153 to R157, R228, R241), and how a combining-buffer line reaches
DRAM (R125, R126, R181, R217 to R219, R240).
-/
namespace Sys2Proof.Machine
open Sys2Proof

/-! ## Miss entries -/

/-- The miss entry of a line that the request owns or has joined. -/
def State.missOf (s : State) (line id : Nat) : Option MissEnt :=
  (s.ncOf (bankOfLine line)).miss.find? fun m => m.line == line && m.reads.contains id

/-- Serves one read of a miss entry. -/
def State.serveOne (s : State) (d : Line) (poison heat : Bool) (id : Nat) : State :=
  match s.reqOf id with
  | none => s
  | some r => if poison then s.completePoison r else if !s.rgnKeyed r.region then (if r.kind.modifies then s.erasedWrite r else s.completePoison r) else s.deliver r d heat false

/-- A miss entry's data serves every read that joined it, and the line is installed unless the entry was killed, no
line may be installed, or the data is poisoned (R155, R157). -/
def State.missFill (s : State) (line : Nat) (m : MissEnt) (d : Line) (poison heat install : Bool) : State :=
  let b := bankOfLine line
  let s1 := s.onNc b fun k => { k with miss := k.miss.filter fun x => !(x == m) }
  let s2 := if install && !poison && !m.killed && !m.noInstall && s1.ncOn b then s1.ncInstall b line d else s1
  m.reads.foldl (fun t id => t.serveOne d poison heat id) s2

/-- The data of a read is there: through its miss entry where it owns or joined one, else for itself. -/
def State.served (s : State) (r : Req) (d : Line) (poison heat install : Bool) : State :=
  match s.missOf r.line r.id with
  | some m => s.missFill r.line m d poison heat install
  | none => s.serveOne d poison heat r.id

/-! ## On the tier-map entry -/

/-- The hint table of a cluster takes an authoritative entry in a DRAM state (16,384 entries, direct-mapped). -/
def State.hintFill (s : State) (c page frame : Nat) : State :=
  s.onFab fun f => { f with hints := [⟨c, page % 16384, page, frame⟩] ++
    (f.hints.filter fun h => !(h.cluster == c && h.idx == page % 16384)) }

/-- A read acts on the authoritative entry (R130). -/
def State.onEntry (s : State) (r : Req) : State :=
  let p := pageOf r.line
  let e := s.tierOf p
  let key := s.rgnKey r.region
  if e.poison && e.state != .poisoned then (s.specDrop r).setPhase r.id .page
  else
    match e.state, e.frame with
    | .unwritten, _ =>
      let zf := s.on (NCH_CTL_ZERO_FILL (bankOfLine r.line))
      (s.specDrop r).served r 0 false false zf
    | .poisoned, _ => (s.specDrop r).served r 0 true false false
    | .flashOnly, _ =>
      let s1 := (s.specDrop r).heat p (s.rd WIN_HEAT_RD_INC) false
      match s1.stagingOf p with
      | some m =>
        match m.staged with
        | some im => s1.served r (im.line (r.line % 64) key r.line) false false false
        | none => (s1.wantPage p false).setPhase r.id .page
      | none => (s1.wantPage p false).setPhase r.id .page
    | _, some f =>
      let s1 := s.hintFill (r.tine / 32) p f
      if r.spec == some f then
        let s2 := s1.bump (TIN_SPEC_USED_COUNT (r.tine / 32))
        if r.specBack then s2.served r (s2.frameLine f r.line key) false true true
        else s2.setPhase r.id (.dram f)
      else ((s1.specDrop r).dqRead f (r.line % 64) r.id .demand r.origin).setPhase r.id (.dram f)
    | _, none => s

/-- Requests waiting on a page act on its entry again. -/
def State.wakePage (s : State) (p : Nat) : State :=
  (s.fab.act.filter fun r => pageOf r.line == p && r.phase == .page).foldl (fun t r =>
    match t.reqOf r.id with
    | none => t
    | some q => t.onEntry q) s

/-- Reads that wait on a FLASH_ONLY page that is neither moved nor read, for want of a slot or because its move was abandoned, ask
again (R228, R234). -/
def State.retryPages (s : State) : State :=
  (s.fab.act.filter fun r => r.phase == .page).foldl (fun t r =>
    let e := t.tierOf (pageOf r.line)
    if e.state == .flashOnly && !e.poison && (t.stagingOf (pageOf r.line)).isNone && !t.fur.rds.any (fun x => x.page == pageOf r.line) then
      t.wantPage (pageOf r.line) false else t) s

/-- Requests waiting on a page are served from staging (R228, R229). -/
def State.serveStaged (s : State) (p : Nat) (im : PageImg) : State :=
  (s.fab.act.filter fun r => pageOf r.line == p && r.phase == .page).foldl (fun t r =>
    match t.reqOf r.id with
    | none => t
    | some q => t.served q (im.line (q.line % 64) (t.rgnKey q.region) q.line) false false false) s

/-! ## Drains -/

/-- The first drain to an UNWRITTEN or POISONED page takes a frame (R217, R240): zero-lined for an UNWRITTEN page, with
a poison record for a POISONED one. -/
def State.takeFrame (s : State) (p f r : Nat) : State :=
  let e := s.tierOf p
  let s1 := (s.setFrame f (.page p)).zeroFrame f (s.rgnKey r)
  if e.state == .poisoned then
    (s1.setTier p { e with frame := some f, dirty := true }).onWin fun w => { w with poisonT := w.poisonT ++ [(p, ⟨e.psrc, 0⟩)] }
  else s1.setTier p { e with state := .dramOnly, frame := some f, dirty := true, region := r }

/-- A drained line is accepted into its channel's write queue (R181): DIRTY is set first (R218), the move's mask follows
(R235), the cached copy is made equal (R159), and the lock-table entry is freed or returns to SHARED (R119). -/
def State.acceptDrain (s : State) (l : CbLine) (f : Nat) : State :=
  let p := pageOf l.line
  let i := l.line % 64
  let s1 := s.modTier p fun e => if e.state == .dramClean then { e with state := .dramDirty, dirty := true } else e
  let s2 := (s1.writeLine f l.line (s1.rgnKey l.region) l.data l.mask).dqWrite f i none
  let s3 := s2.modMove p fun m => { m with mask := m.mask ||| BitVec.ofNat 64 (2 ^ i) }
  let s4 := if (s3.tierOf p).state == .poisoned then s3.poisonBit p i true else s3
  (((s4.ncWrite l.line l.data l.mask).cbDrop l.line).altMode l.line .shared).altTidy

end Sys2Proof.Machine
end

