-- ==== Sys2Proof/Machine/TineCmds.lean ====
section
/-!
DEFINITION. Machine/TineCmds.lean: the meanings of the CXL.mem requests (R100 to R105), of the events of the tines and of
the writes to the tines' control registers (chapter 04).
-/
namespace Sys2Proof.Machine
open Sys2Proof

/-! ## CXL.mem requests -/

/-- Does the link carry the LD's requests? -/
def State.ldServed (s : State) (link ld : Nat) : Bool :=
  s.linkUp link && !s.hp.stopped && !s.hp.recov.contains link && decide (ld < s.rd (HPT_LSTS_LDS_UP (link / 4) (link % 4))) && !(s.ldOf (link * 16 + ld)).cxlReset

/-- A decode miss is counted and captured (R100). -/
def State.decodeMiss (s : State) (link ld hpa : Nat) (wr : Bool) : State :=
  let p := link / 4
  let q := link % 4
  let s1 := (s.bump (HPT_POIS_DMISS_CNT p q)).raise (wHPT p) 5 q
  if s.on (HPT_DMISS_VALID p q) then s1
  else (((s1.wr (HPT_DMISS_WRITE p q) (if wr then 1 else 0)).wr (HPT_DMISS_LD p q) ld).wr (HPT_DMISS_HPA p q) (hpa / 64)).wr
    (HPT_DMISS_VALID p q) 1

/-- A CXL.mem read or write of an LD: decoded, then taken to the tines. -/
def State.hostAccess (s : State) (link ld tag hpa : Nat) (r : Req) (env : FabEnv) : State :=
  if !s.ldServed link ld then s
  else
    match (s.ldOf (link * 16 + ld)).translate hpa with
    | some dpa => s.submit { r with src := .ld link ld tag, line := dpa / 64 } env
    | none =>
      let s1 := s.decodeMiss link ld hpa r.kind.modifies
      match r.kind with
      | .read => s1.sendDrs link ld tag 0 true
      | _ => s1.sendNdr link ld tag

/-- MEM_WR (R102). -/
def execMemWr (link ld : Fin 16) (tag : BitVec 16) (hpa : BitVec 52) (data : Line) (poison : Bool) (env : FabEnv)
    (s : State) : Res :=
  .next (s.hostAccess link ld tag.toNat hpa.toNat
    { id := 0, src := .intern, kind := .write, line := 0, mask := fullMask, data := data, poison := poison } env)

/-- MEM_WR_PTL (R101). -/
def execMemWrPtl (link ld : Fin 16) (tag : BitVec 16) (hpa : BitVec 52) (data : Line) (mask : LMask) (poison : Bool)
    (env : FabEnv) (s : State) : Res :=
  .next (s.hostAccess link ld tag.toNat hpa.toNat
    { id := 0, src := .intern, kind := .write, line := 0, mask := mask, data := data, poison := poison } env)

/-- MEM_RD (R101, R103). -/
def execMemRd (link ld : Fin 16) (tag : BitVec 16) (hpa : BitVec 52) (env : FabEnv) (s : State) : Res :=
  .next (s.hostAccess link ld tag.toNat hpa.toNat { id := 0, src := .intern, kind := .read, line := 0 } env)

/-- MEM_INV (R101): no metadata is held. -/
def execMemInv (link ld : Fin 16) (tag : BitVec 16) (s : State) : Res :=
  .next (if s.ldServed link ld then s.sendNdr link ld tag.toNat else s)

/-- MEM_CLN_EVCT (R101). -/
def execMemClnEvct (link ld : Fin 16) (tag : BitVec 16) (s : State) : Res :=
  .next (if s.ldServed link ld then s.sendNdr link ld tag.toNat else s)

/-- MEM_SPEC_RD (R101, R161, R162): no response whatever happens. -/
def execMemSpecRd (link ld : Fin 16) (hpa : BitVec 52) (s : State) : Res :=
  .next (
    if !s.ldServed link ld then s
    else
      match (s.ldOf (link * 16 + ld)).translate hpa.toNat with
      | none => s.decodeMiss link ld hpa.toNat false
      | some dpa =>
        let line := dpa / 64
        match s.check (.ld link ld 0) line false with
        | .error (reason, rg) => s.chkFail (.ld link ld 0) line reason rg
        | .ok rg => if s.on (NCH_CTL_SPEC_EN (bankOfLine line)) then s.pfIssue (bankOfLine line) rg line else s)

/-- UNSUPPORTED_M2S_OPCODE (R101): not executed, logged as an uncorrectable memory protocol error. -/
def execUnsupportedM2sOpcode (link ld : Fin 16) (_op : BitVec 8) (s : State) : Res :=
  .next (
    if s.ldServed link ld then (s.onLd (link * 16 + ld) fun l => { l with protoErr := true }).raise (wHPT (link / 4)) 6 (link % 4)
    else s)

/-! ## Requests that wait -/

/-- A started request goes on where the condition holds; requests it held back move on. -/
def State.resume (s : State) (id : Nat) (ok : Req → Bool) (go : State → Req → State) : State :=
  match s.reqOf id with
  | none => s
  | some r => if ok r then ((go s r).exclTidy).settle else s

/-- TIER_ENTRY_RETURN (R130): waits while the entry's line is being rebuilt (R243). -/
def execTierEntryReturn (req : Nat) (s : State) : Res :=
  .next (s.resume req (fun r => r.phase == .entry && !s.rebuilding (pageOf r.line)) fun t r => t.onEntry r)

/-- SPEC_DATA_RETURN (R130): used once the authoritative entry has named the frame; until then it waits at the tine. -/
def execSpecDataReturn (req : Nat) (s : State) : Res :=
  .next (s.resume req (fun r => r.spec.isSome && !r.specBack && !s.dramHeld) fun t r =>
    match r.spec with
    | none => t
    | some f =>
      let t1 := t.dqDone (t.frameChan f) r.id true
      if r.phase == .dram f then t1.served r (t1.frameLine f r.line (t1.rgnKey r.region)) false true true
      else t1.modReq r.id fun q => { q with specBack := true })

/-- LOCK_WAY_FREED (R121). -/
def execLockWayFreed (req : Nat) (env : FabEnv) (s : State) : Res :=
  .next (s.resume req (fun r => r.phase == .way) fun t r => t.proceed r env)

/-- MODIFY_AFTER_READS (R121). -/
def execModifyAfterReads (req : Nat) (env : FabEnv) (s : State) : Res :=
  .next (s.resume req (fun r => r.phase == .order && r.kind.modifies && !s.blockedBy r) fun t r => t.proceed r env)

/-- MIRROR_WAIT_READ_RESUME (R124). -/
def execMirrorWaitReadResume (req : Nat) (env : FabEnv) (s : State) : Res :=
  .next (s.resume req (fun r => r.phase == .mirror && (match s.altOf r.line with | none => true | some e => e.mode != .mirrorWait))
    fun t r => t.proceed r env)

/-- CB_LINE_FREED_WRITE (R122, R127). -/
def execCbLineFreedWrite (req : Nat) (env : FabEnv) (s : State) : Res :=
  .next (s.resume req (fun r =>
    (r.phase == .cbLine && (s.cbSlot r.tine).isSome) ||
      (r.phase == .handed && match s.cbOf r.line with | none => true | some l => l.drain == .none))
    fun t r => t.proceed r env)

/-- Distance of two positions around the ring of 32. -/
def ringDist (p q : Nat) : Nat := min ((p + 32 - q) % 32) ((q + 32 - p) % 32)

/-- The victim of a steal (R117): the deepest queue within reach, ties to the nearer and then to the lower position. -/
def State.stealVictim (s : State) (thief : Nat) : Option Nat :=
  let reach := max 1 (min 16 (s.rd TIN_STEAL_REACH))
  let thresh := max 1 (s.rd TIN_STEAL_THRESH)
  let p := thief % 32
  let base := thief / 32 * 32
  let cand := (List.range 32).filter fun q => q != p && decide (ringDist p q ≤ reach) &&
    decide (thresh ≤ (s.queueOf (base + q)).length)
  let better := fun q b =>
    let dq := (s.queueOf (base + q)).length
    let db := (s.queueOf (base + b)).length
    decide (db < dq) || (dq == db && decide (ringDist p q < ringDist p b))
  match cand with
  | [] => none
  | c :: t => some (base + t.foldl (fun b q => if better q b then q else b) c)

/-- WORK_STEAL (R117, R118). -/
def execWorkSteal (thief : Fin 256) (env : FabEnv) (s : State) : Res :=
  .next (
    if s.on TIN_STEAL_ENABLE && s.tineOk thief && (s.queueOf thief).isEmpty && decide (s.outstanding thief < 32) then
      match s.stealVictim thief with
      | none => s
      | some v =>
        match s.queueOf v with
        | [] => s
        | r :: _ => ((s.bump (TIN_STEAL_CNT_COUNT (thief.val / 32))).start { r with tine := thief } env).settle
    else s)

/-! ## Drains -/

/-- DRAIN_AGE_EXPIRY (R125): a line not written for TIN_DRAIN.AGE goes to its drain; a MIRROR_WAIT line does not. -/
def execDrainAgeExpiry (line : BitVec 40) (env : FabEnv) (s : State) : Res :=
  .next (
    match s.cbOf line.toNat with
    | none => s
    | some l =>
      if l.twin != 0 || l.drain != .none then s
      else if env.cbBad then (s.cbLoss l).settle
      else ((s.modCb l.line fun x => { x with drain := .ready }).drainSort))

/-- FRAME_READY_FOR_DRAIN (R126, R217, R219): the waiting drain's page takes a free frame, or has one now. -/
def execFrameReadyForDrain (page : BitVec 34) (frame : BitVec 31) (s : State) : Res :=
  .next (
    let p := page.toNat
    let waits := s.fab.cb.find? fun l => pageOf l.line == p && l.drain != .none
    match waits with
    | none => s
    | some l =>
      if s.drainNeeds l == .frame then
        if s.frameFree frame.toNat then (s.takeFrame p frame.toNat l.region).drainSort else s
      else s.drainSort)

/-- WRITE_QUEUE_ACCEPT (R181, R183): accepted where the page is ready, the region's key is loaded and the write queue has
room. -/
def execWriteQueueAccept (line : BitVec 40) (s : State) : Res :=
  .next (
    match s.cbOf line.toNat with
    | none => s
    | some l =>
      if s.dramHeld || l.drain == .none || l.twin != 0 || s.drainNeeds l != .ready || !s.keyLoaded (s.rd (TIN_RGN_ATTR_KEY_SLOT l.region)) then s
      else
        match (s.tierOf (pageOf l.line)).frame with
        | none => s
        | some f => if s.dqRoom f (l.line % 64) then ((s.acceptDrain l f).drainSort).settle else s)

/-! ## Fences -/

/-- The positions of a mask. -/
def bitsOf (m n : Nat) : List Nat := (List.range n).filter m.testBit

/-- A write of TIN_TINE_FENCE (R142, R144). -/
def State.writeTineFence (s : State) (a : Agent) (c m : Nat) : State :=
  ((bitsOf m 32).foldl (fun (u : State) i =>
    let n := c * 32 + i
    if u.tinesUp == [n] then (u.fenceRec (tcWin c) 4 false i 0xFF 0).ignored a (TIN_TINE_FENCE c) m else u.tineFence n 1 none) s).settle

/-- TIN_TINE_FENCE (R142, R144). -/
def execTineFence (a : Agent) (c : Fin 8) (m : BitVec 32) (s : State) : Res :=
  .next (s.atReg a (TIN_TINE_FENCE c) m.toNat fun t => t.writeTineFence a c m.toNat)

/-- A write of TIN_CL_CTL.FENCE (R142, R144). -/
def State.writeClusterFence (s : State) (a : Agent) (c : Nat) : State :=
  if s.clustersUp == [c] then (s.fenceRec (tcWin c) 4 false noSub 0xFF 0).ignored a (TIN_CL_CTL c) 1 else (s.clusterFence c 1 none).settle

/-- TIN_CL_CTL.FENCE (R142, R144). -/
def execClusterFence (a : Agent) (c : Fin 8) (s : State) : Res :=
  .next (s.atReg a (TIN_CL_CTL c) 1 fun t => t.writeClusterFence a c)

/-- The tines of a fence in progress. -/
def TineFencing.covers (f : TineFencing) (t : Nat) : Bool := t / 32 == f.cluster && (f.whole || f.tines.contains (t % 32))

/-- TINES_UP and the header bits of a cluster follow TIN_TINE_UP (R41, R142). -/
def State.showCluster (s : State) (c : Nat) : State :=
  let up := (bitsOf (s.rd (TIN_TINE_UP_UP c)) 32).length
  ((s.wr (TIN_CL_STS_TINES_UP c) up).wr (UNIT_DEGRADED (tcWin c)) (if up = 32 then 0 else 1)).wr (UNIT_FENCED (tcWin c))
    (if s.rd (TIN_CL_STS_STATE c) = 2 then 1 else 0)

/-- FENCE_DRAIN_END (R142 steps 5 and 6): once the fenced tines hold no started request and no combining-buffer line. -/
def execFenceDrainEnd (c : Fin 8) (s : State) : Res :=
  .next (
    match s.fab.fencing.find? fun f => f.cluster == c.val with
    | none => s
    | some f =>
      if (s.fab.act.any fun r => f.covers r.tine) || s.fab.cb.any fun l => f.covers l.tine then s
      else
        let s1 := s.onFab fun b => { b with fencing := b.fencing.filter fun x => !(x == f) }
        let s2 := if f.whole then (s1.wr (TIN_CL_STS_STATE c) 2).onFab fun b => { b with hints := b.hints.filter fun h => h.cluster != c.val }
          else f.tines.foldl (fun t i => t.wrBit (TIN_TINE_UP_UP c) i false) s1
        ((s2.showCluster c).rehome).settle)

/-- REQUEST_ABANDON (R143, R580): a started request of a tine under fence ends with no completion, and its cluster is fenced
with cause 4; in the quiesce of a reset of the CORE group it ends alone. Drill and the job engine act on it under R377 and R405. -/
def execRequestAbandon (req : Nat) (s : State) : Res :=
  .next (s.resume req (fun r => s.rs.groups.testBit 0 || s.fab.fencing.any fun f => f.covers r.tine) fun t r =>
    let c := r.tine / 32
    let t1 := ((t.specDrop r).finish r.id).onNc (bankOfLine r.line) fun k =>
      { k with miss := k.miss.map fun m => { m with reads := m.reads.filter fun x => x != r.id } }
    let t2 := (match r.src with
      | .conn _ op | .job _ op => t1.opLine r.src op r.line 0x12 (match r.kind with | .read => some (0, true) | _ => none)
          (match r.phase with | .twin _ => true | _ => false)
      | _ => t1).raise (tcWin c) 5 noSub
    if t2.fab.fencing.any fun f => f.covers r.tine then t2.clusterFence c 4 (some 5) else t2)

/-- A write of TIN_TINE_UNFENCE (R145); a tine whose fence has not ended stays (R605). -/
def State.writeTineUnfence (s : State) (a : Agent) (c m : Nat) : State :=
  ((((bitsOf m 32).foldl (fun (u : State) i =>
    if u.fab.fencing.any fun f => f.covers (c * 32 + i) then u.ignored a (TIN_TINE_UNFENCE c) m
    else if u.bitOf (TIN_TINE_UP_UP c) i then u
    else (u.wrBit (TIN_TINE_UP_UP c) i true).fenceRec (tcWin c) 2 false i 0xFF 0) s).showCluster c).rehome).settle

/-- TIN_TINE_UNFENCE (R145). -/
def execTineUnfence (a : Agent) (c : Fin 8) (m : BitVec 32) (s : State) : Res :=
  .next (s.atReg a (TIN_TINE_UNFENCE c) m.toNat fun t => t.writeTineUnfence a c m.toNat)

/-- A write of TIN_CL_CTL.UNFENCE (R145). -/
def State.writeClusterUnfence (s : State) (a : Agent) (c : Nat) : State :=
  if s.rd (TIN_CL_STS_STATE c) == 1 then s.ignored a (TIN_CL_CTL c) 2
  else if s.rd (TIN_CL_STS_STATE c) == 2 then
    (((((s.wr (TIN_CL_STS_STATE c) 0).fenceRec (tcWin c) 2 false noSub 0xFF 0).showCluster c).rehome).settle)
  else s

/-- TIN_CL_CTL.UNFENCE (R145). -/
def execClusterUnfence (a : Agent) (c : Fin 8) (s : State) : Res :=
  .next (s.atReg a (TIN_CL_CTL c) 2 fun t => t.writeClusterUnfence a c)

/-- TINE_SELF_CHECK_FAIL (R599, R603): SELF_CHECK is present and the CN-6400B fences the tine, unless it is the last (R604). The check
goes on every second on a fenced tine: `ok` says that it has passed, and then the condition ends with the cluster's last failing tine. -/
def execTineSelfCheckFail (t : Fin 256) (ok : Bool) (s : State) : Res :=
  .next (
    let c := t.val / 32
    let bad := s.fab.selfBad.filter fun x => x != t.val
    if ok then
      let u := s.onFab fun f => { f with selfBad := bad }
      if s.fab.selfBad.contains t.val && !bad.any (fun x => x / 32 == c) then u.cond (tcWin c) 4 (t.val % 32) false else u
    else (((s.onFab fun f => { f with selfBad := bad ++ [t.val] }).cond (tcWin c) 4 (t.val % 32) true).tineFence t 3 (some 4)).settle)

/-! ## Statistics -/

/-- A write of TIN_HINT_CTL.FLUSH (R147). -/
def State.writeFlush (s : State) (c : Nat) : State := s.onFab fun f => { f with hints := f.hints.filter fun h => h.cluster != c }

/-- TIN_HINT_CTL.FLUSH (R147). -/
def execHintFlush (a : Agent) (c : Fin 8) (s : State) : Res :=
  .next (s.atReg a (TIN_HINT_CTL c) 1 fun t => t.writeFlush c)

/-- TIN_ALT_STS.PEAK_CLR (R146). -/
def execAltPeakClr (a : Agent) (s : State) : Res :=
  .next (s.atReg a TIN_ALT_STS (2 ^ 31) fun t => t.wr TIN_ALT_STS_PEAK (t.rd TIN_ALT_STS_IN_USE))

/-- TIN_CB_USE.PEAK_CLR (R147). -/
def execCbUsePeakClr (a : Agent) (c : Fin 8) (s : State) : Res :=
  .next (s.atReg a (TIN_CB_USE c) (2 ^ 31) fun t => t.wr (TIN_CB_USE_PEAK c) (t.rd (TIN_CB_USE_IN_USE c)))

end Sys2Proof.Machine
end

