-- ==== Sys2Proof/Machine/DramCmds.lean ====
section
/-!
DEFINITION. Machine/DramCmds.lean: the DRAM channels (chapter 06): read returns and their ECC outcomes (R189 to R191),
failing lines and the remap table (R200 to R203), retirement of frames (R242), refresh, scheduling, self-refresh,
training and delays, Harrow, fences of ranks and channels.
-/
namespace Sys2Proof.Machine
open Sys2Proof

/-! ## Errors of a line -/

/-- DRM_ERR_LAST takes the first error since VALID was cleared. -/
def State.drmLast (s : State) (c kind sub dev line : Nat) : State :=
  if s.on (DRM_ERR_LAST_VALID c) then s
  else ((((s.wr (DRM_ERR_LAST_KIND c) kind).wr (DRM_ERR_LAST_SUB c) sub).wr (DRM_ERR_LAST_DEVICE c) dev).wr (DRM_ERR_LAST_LINE c)
    line).wr (DRM_ERR_LAST_VALID c) 1

/-- WIN_ERR_LAST takes the first event since VALID was cleared. -/
def State.winLast (s : State) (kind at_ : Nat) : State :=
  if s.on WIN_ERR_LAST_VALID then s
  else ((s.wr WIN_ERR_LAST_KIND kind).wr WIN_ERR_LAST_WHERE at_).wr WIN_ERR_LAST_VALID 1

/-- Retires a frame (R242): at once where it is free, by a frame move where it holds a page; a frame of the reserve or the
pool stays and is reported. -/
def State.frameRetire (s : State) (f : Nat) : State :=
  if f < s.sysFrames then (s.winLast 5 f).raise wWIN 5 noSub
  else
    match s.frameUse f with
    | .free => (((s.setFrame f .retired).winLast 4 f).raise wWIN 4 noSub).showPins
    | .page _ => s.onWin fun w => if w.retire.contains f then w else { w with retire := w.retire ++ [f] }
    | _ => s

/-- A remapped line errs in its spare line (R202): the spare is never chosen again. -/
def State.spareErr (s : State) (c sub spare line : Nat) : State :=
  (((s.onCh c fun d => { d with spareBad := if d.spareBad.contains spare then d.spareBad else d.spareBad ++ [spare] }).drmLast c 4 sub 0
    line).raise (wDRM c) 10 noSub)

/-- A failing line (R200 to R202): the lowest free remap entry and the lowest sound spare line take it, its current data
copied; with all eight entries valid its frame goes to Winnow. -/
def State.lineFailing (s : State) (f i : Nat) : State :=
  let c := s.frameChan f
  let line := s.frameLocal f * 64 + i
  let used := s.remaps c
  if used.any fun x => x.1 == line then s
  else
    let spare := (List.range 64).find? fun n => !(s.chOf c).spareBad.contains n && !used.any fun x => x.2 == n
    match (List.range 8).find? fun n => !s.on (DRM_RMP_VALID c n), spare with
    | some e, some sp =>
      let im := s.frameImg f
      let s1 := (((s.wr (DRM_RMP_LINE c e) line).wr (DRM_RMP_SPARE c e) sp).wr (DRM_RMP_VALID c e) 1).putLine f i im
      ((s1.wr (DRM_RMP_CTL_USED c) (s1.remaps c).length).bump (DRM_ERR_CNT_REMAP c)).raise (wDRM c) 5 noSub
    | _, _ => ((s.bump (DRM_ERR_CNT_REMAP c)).raise (wDRM c) 6 noSub).frameRetire f

/-- The corrected-error tracker of 32 entries (R200). Answers whether the line is failing. -/
def State.ceTrack (s : State) (c line : Nat) : State × Bool :=
  let win := max 1 (s.rd (DRM_RMP_CTL_WINDOW_S c)) * 1000000000
  let live := (s.chOf c).track.filter fun e => decide (s.now ≤ e.first + win)
  let mine := match live.find? fun e => e.line == line with
    | some e => { e with last := s.now, count := e.count + 1 }
    | none => ⟨line, s.now, s.now, 1⟩
  let rest := live.filter fun e => e.line != line
  let oldest := rest.foldl (fun m e => min m e.last) s.now
  let rest := if rest.length < 32 then rest else
    match rest.find? fun e => e.last == oldest with
    | none => rest.drop 1
    | some o => rest.filter fun e => !(e == o)
  (s.onCh c fun d => { d with track := rest ++ [mine] }, decide (max 1 (s.rd (DRM_RMP_CTL_CE_THRESH c)) ≤ mine.count))

/-! ## Fences of ranks and channels (R207 to R209) -/

/-- The local frames of a rank, or of the whole channel: first and number. -/
def State.unitLocals (s : State) (c : Nat) (rank : Option Nat) : Nat × Nat :=
  match rank with
  | some r => (r * s.framesPerRank c, s.framesPerRank c)
  | none => (0, s.localFrames c)

/-- Local frames of a channel below the end of the Granary pool. -/
def State.sysLocals (s : State) (c : Nat) : Nat :=
  let n := s.popChans.length
  (s.sysFrames + n - 1 - s.popChans.idxOf c) / n

/-- The tier pages on a unit, and their frames. -/
def State.pagesOn (s : State) (c : Nat) (rank : Option Nat) : List (Nat × Nat) :=
  s.win.frames.filterMap fun e => match e.2 with
    | .page p => if s.frameChan e.1 == c && (match rank with | none => true | some r => s.frameRank e.1 == r) then some (p, e.1) else none
    | _ => none

/-- A DRAM_CLEAN page becomes FLASH_ONLY, its frame free and its heat 0: no data moves (R217). -/
def State.dropClean (s : State) (p f : Nat) : State :=
  let e := s.tierOf p
  (((s.setFrame f .free).clearFrame f).setTier p { e with state := .flashOnly, frame := none, heat := 0 }).dropHints p

/-- Would the frames left without the unit no longer hold the metadata reserve and the Granary pool (R604)? -/
def State.lastDram (s : State) (c : Nat) (rank : Option Nat) : Bool :=
  let gone := ((s.popChans.filter fun x => s.rd (DRM_CFG_DPC x) != 0).map fun x => (s.dr.ch.getD x {}).fencedRanks.length * s.framesPerRank x).sum
  decide (s.totalFrames < gone + (s.unitLocals c rank).2 + s.sysFrames)

/-- Is the unit fenced, or its fence begun? -/
def State.dramFenced (s : State) (c : Nat) (rank : Option Nat) : Bool :=
  let d := s.chOf c
  s.rd (DRM_STS_STATE c) == 5 || d.fencing.any (fun x => x.rank == none || x.rank == rank) ||
    (match rank with | none => false | some r => d.fencedRanks.contains r)

/-- A Granary buffer is uncorrectable twice (R190, R377): the waiting packet in it is dropped for its sender to transmit again, a
held Yoke frame likewise, and the buffer withdrawn. -/
def State.packetLost (s : State) (b : Nat) : State :=
  let waits := fun (r : DReq) => r.buf == some b && (match r.phase with | .wait | .final | .slot | .jq => true | _ => false)
  let s1 := s.grnLost b
  let s2 := s1.dl.conns.foldl (fun (t : State) e =>
    if e.2.reqs.any waits then (t.bufBack (some b)).onConn e.1 fun c => { c with reqs := c.reqs.filter fun r => !waits r } else t) s1
  (List.range 2).foldl (fun (t : State) p =>
    match (t.pairAt p).held.find? fun f => f.bufs.contains b with
    | none => t
    | some f => (f.bufs.foldl (fun u x => u.bufBack (some x)) t).onPair p fun y => { y with held := y.held.filter fun x => x != f }) s2

/-- The holders of a buffer whose descriptor is lost are told (R415): the waiting packet or held Yoke frame in it is dropped, and no one
releases it any more. -/
def State.bufTold (s : State) (b : Nat) : State :=
  let waits := fun (r : DReq) => r.buf == some b && (match r.phase with | .wait | .final | .slot | .jq => true | _ => false)
  let no := fun (o : Option Nat) => if o == some b then none else o
  let s1 := (s.onFab fun f => { f with ops := f.ops.map fun o => { o with buf := no o.buf } }).onDl fun d =>
    { d with conns := d.conns.map fun e => (e.1, { e.2 with
        reqs := (e.2.reqs.filter fun r => !waits r).map fun r => { r with buf := no r.buf },
        sent := e.2.sent.map fun p => { p with buf := no p.buf }, txWait := e.2.txWait.map fun p => { p with buf := no p.buf } }) }
  (List.range 2).foldl (fun (t : State) p =>
    match (t.pairAt p).held.find? fun f => f.bufs.contains b with
    | none => t
    | some f => ((f.bufs.filter fun x => x != b).foldl (fun u x => u.bufBack (some x)) t).onPair p fun y =>
        { y with held := y.held.filter fun x => x != f }) s1

/-- A line of the Granary's descriptor table is uncorrectable twice (R415). -/
def State.descLost (s : State) (first : Nat) : State :=
  ((List.range 8).foldl (fun t i => if t.grn.held.any (fun x => x.idx == first / 8 * 8 + i) then t.bufTold (first / 8 * 8 + i) else t) s).grnDescLost first

/-- In DROP mode the unit's share of the metadata reserve is rebuilt and its share of the Granary pool lost (R208, R243). -/
def State.dropShare (s : State) (c : Nat) (rank : Option Nat) : State :=
  let pool := s.sysFrames - s.grnCount
  let on := fun (f : Nat) => s.frameChan f == c && (match rank with | none => true | some r => s.frameRank f == r)
  let lost := (s.grn.held.filter fun b => on (pool + b.idx)).map fun b => b.idx
  (lost.foldl (fun t b => t.packetLost b) s).onWin fun w =>
    { w with rebuild := w.rebuild ++ (w.tier.map fun e => Rebuild.tierLine (e.1 / 8 * 8)).eraseDups }

/-- A fence of a rank or a channel begins (R208 steps 1 to 3): no frame of it is allocated; DRAM_CLEAN pages become
FLASH_ONLY; in DROP mode the other pages are lost as uncorrectable lines are, the reserve share is rebuilt and the pool
share lost. The pages left migrate. -/
def State.dramFence (s : State) (c : Nat) (rank : Option Nat) (drop dev : Bool) (bit : Nat) : State :=
  let sub := rank.getD noSub
  if s.dramFenced c rank then s
  else if s.holds (wDRM c) then s.holdFence (wDRM c) sub bit (if drop then 1 else 0) dev
  else if s.lastDram c rank then s.fenceRec (wDRM c) 4 dev sub bit (if drop then 1 else 0)
  else
    let s1 := ((s.onCh c fun d => { d with fencing := d.fencing ++ [⟨rank, drop⟩] }).wr (DRM_STS_STATE c) 4).fenceRec (wDRM c) 1 dev sub
      bit (if drop then 1 else 0)
    let s2 := (s1.pagesOn c rank).foldl (fun t x =>
      let e := t.tierOf x.1
      if e.migrating then t
      else if e.state == .dramClean then t.dropClean x.1 x.2
      else if drop then t.poisonStart x.1 1 1 fullMask false
      else t) s1
    (if drop then s2.dropShare c rank else s2).showFrames

/-- More than the device's own trigger: the unit's last evacuation turns to DROP (R193). -/
def State.dropTurn (s : State) (c : Nat) : State :=
  let s1 := s.onCh c fun d => { d with fencing := d.fencing.map fun x => { x with drop := true } }
  ((s1.pagesOn c none).foldl (fun t x => if (t.tierOf x.1).migrating then t else t.poisonStart x.1 1 1 fullMask false) s1).dropShare c none

/-! ## Read returns (R190, R191) -/

/-- Does a write to line i of a frame wait in its channel's queue? -/
def State.writeQueued (s : State) (f i : Nat) : Bool :=
  (s.chOf (s.frameChan f)).q.any fun e => e.write && e.line == f * 64 + i

/-- The ECC outcome of line i of a frame: corrections are counted, tracked and written back (R191), a line uncorrectable
twice is counted, failing, and counts towards its rank's fence (R207). Answers whether the data is good. -/
def State.lineEcc (s : State) (f i : Nat) (ecc : Ecc) : State × Bool :=
  let c := s.frameChan f
  let line := s.frameLocal f * 64 + i
  let spare := (s.remaps c).find? fun x => x.1 == line
  let sp : State → State := fun t => match spare with | none => t | some x => t.spareErr c (i % 2) x.2 line
  let ce := fun (dev : Nat) =>
    let s1 := ((sp s).bump (DRM_ERR_CNT_CE c)).drmLast c 1 (i % 2) dev line
    let (s2, bad) := (s1.raise (wDRM c) 2 noSub).ceTrack c line
    let s3 := if s2.writeQueued f i then s2 else s2.dqWrite f i none
    (if bad then s3.lineFailing f i else s3, true)
  match ecc with
  | .good => (s, true)
  | .corrected dev => ce dev
  | .reread dev => ce dev
  | .ueTwice =>
    let r := s.frameRank f
    let u := c * 4 + r
    let s1 : State := (((((sp s).bump (DRM_ERR_CNT_UE c)).drmLast c 2 (i % 2) 0 line).raise (wDRM c) 3 noSub).stamp .rankUe u).lineFailing f i
    let s2 := if s1.rd (DRM_FENCE_CTL_UE_LIMIT c) ≤ s1.stampsIn .rankUe u (max 1 (s1.rd (DRM_FENCE_CTL_WINDOW_S c))) then
        (s1.unstamp .rankUe u).dramFence c (some r) false true 3
      else s1
    (s2, false)

/-- What became of a line uncorrectable twice. -/
inductive Recovery where
  | restored | waits | poisoned
  deriving DecidableEq, Repr

/-- Recovers line i of a page in a frame (R190): from the flash copy of a DRAM_CLEAN page, by a heal from the twin, or not
at all, and then the page goes on its way into POISONED. `w` is the window that asks. -/
def State.recover (s : State) (p f i w : Nat) : State × Recovery :=
  let e := s.tierOf p
  match e.state, s.flashImg p with
  | .dramClean, some im => ((s.putLine f i im), .restored)
  | .poisoned, _ => (s, .poisoned)
  | _, _ =>
    if s.healable p then (s.healAsk (p * 64 + i) false .dramLine w, .waits)
    else (s.poisonStart p 1 1 (BitVec.ofNat 64 (2 ^ i)) false, .poisoned)

/-- A DRAM read's data reaches the request that it serves: through its miss entry, or alone. -/
def State.dramServe (s : State) (r : Req) (d : Line) : State :=
  match s.missOf r.line r.id with
  | some m => s.onNc (bankOfLine r.line) fun k => { k with miss := k.miss.map fun x => if x == m then { x with data := some (d, false) } else x }
  | none => s.serveOne d false true r.id

/-- Does a read of DRAM wait: for the root (R431), or, a read of the metadata reserve or of the Granary pool, for the device key (R437)? -/
def State.readHeld (s : State) (t : DramTgt) : Bool :=
  s.dramHeld || (match t with
    | .req _ => false
    | .move _ _ => false
    | _ => s.rd CPH_STS_STATE != 1)

/-- DRAM_READ_RETURN (R190, R431, R437). Data for a miss entry waits there for MISS_FILL_RETURN. -/
def execDramReadReturn (t : DramTgt) (ecc : Ecc) (s : State) : Res :=
  .next (
    if s.readHeld t then s else
    match t with
    | .req id =>
      match s.reqOf id with
      | none => s
      | some r =>
        match r.phase with
        | .dram f =>
          let s1 := s.dqDone (s.frameChan f) r.id true
          let (s2, ok) := s1.lineEcc f (r.line % 64) ecc
          let data := fun (u : State) => u.frameLine f r.line (u.rgnKey r.region)
          if ok && !s2.rgnKeyed r.region then
            (((s2.keyLost 0 (s2.rd (TIN_RGN_ATTR_KEY_SLOT r.region))).served r 0 false false false).exclTidy).settle
          else if ok then ((s2.dramServe r (data s2)).exclTidy).settle
          else
            match s2.recover (pageOf r.line) f (r.line % 64) (wDRM (s.frameChan f)) with
            | (s3, .restored) => ((s3.dramServe r (data s3)).exclTidy).settle
            | (s3, .waits) => s3.setPhase r.id .page
            | (s3, .poisoned) => ((s3.served r 0 true false false).exclTidy).settle
        | _ => s
    | .move page i =>
      match s.moveOf page.toNat, (s.tierOf page.toNat).frame with
      | some _, some f =>
        let (s1, ok) := s.lineEcc f i ecc
        if ok then s1
        else
          match s1.recover page.toNat f i (wDRM (s.frameChan f)) with
          | (s2, .restored) => s2
          | (s2, _) => s2.abandonMove page.toNat
      | _, _ => s
    | .tierLine page f i =>
      let (s1, ok) := s.lineEcc f.toNat i ecc
      if ok then s1 else s1.onWin fun w => { w with rebuild := w.rebuild ++ [.tierLine (page.toNat / 8 * 8)] }
    | .frameLine frame f i =>
      let (s1, ok) := s.lineEcc f.toNat i ecc
      if ok then s1
      else
        (tableLine frame.toNat).foldl (fun t g => t.setFrame g .quarantined) (s1.onWin fun w =>
          { w with rebuild := w.rebuild ++ [.frameLine frame.toNat] })
    | .gran buf i =>
      let f := s.sysFrames - s.grnCount + buf.toNat
      let (s1, ok) := s.lineEcc f i ecc
      if ok then s1 else s1.packetLost buf.toNat
    | .grnTable first f i =>
      let (s1, ok) := s.lineEcc f.toNat i ecc
      if ok then s1 else s1.descLost first.toNat)

/-! ## Refresh, scheduling (R184 to R188) -/

/-- DRM_REF.OWED shows the largest count owed. -/
def State.showOwed (s : State) (c : Nat) : State :=
  s.wr (DRM_REF_OWED c) ((List.range 4).foldl (fun m r => max m (mget (fun _ => 0) (s.chOf c).owed r)) 0)
/-- Intervals a rank owes. -/
def State.owedOf (s : State) (c r : Nat) : Nat := mget (fun _ => 0) (s.chOf c).owed r
/-- Sets the intervals a rank owes. -/
def State.setOwed (s : State) (c r n : Nat) : State :=
  (s.onCh c fun d => { d with owed := mset (fun _ => 0) d.owed r n }).showOwed c
/-- Does a request to the rank wait? -/
def State.rankWaits (s : State) (c r : Nat) : Bool := (s.chOf c).q.any fun e => s.frameRank (e.line / 64) == r
/-- POSTPONE_MAX, values above 8 acting as 8. -/
def State.postponeMax (s : State) (c : Nat) : Nat := min 8 (s.rd (DRM_REF_POSTPONE_MAX c))

/-- REFRESH_INTERVAL (R184, R185): an interval's REFsb commands are issued, or postponed while requests to the rank wait. -/
def execRefreshInterval (c : Fin 16) (rank : Fin 4) (postpone : Bool) (s : State) : Res :=
  .next (
    if s.rd (DRM_STS_STATE c) != 2 || decide (s.ranksOf c ≤ rank.val) then s
    else if postpone && s.rankWaits c rank && decide (s.owedOf c rank < s.postponeMax c) then s.setOwed c rank (s.owedOf c rank + 1)
    else s)

/-- MR4_POLL (R184). -/
def execMr4Poll (c : Fin 16) (hot : BitVec 4) (s : State) : Res :=
  .next (
    let l := bitsOf hot.toNat 4
    ((s.onCh c fun d => { d with hot := l }).wr (DRM_REF_HOT c) (if l.isEmpty then 0 else 1)).cond (wDRM c) 9 noSub (!l.isEmpty))

/-- REFRESH_MAKEUP_BURST (R185). -/
def execRefreshMakeupBurst (c : Fin 16) (rank : Fin 4) (s : State) : Res :=
  .next (
    if decide (0 < s.owedOf c rank) && (s.owedOf c rank == s.postponeMax c || !s.rankWaits c rank) then
      (s.setOwed c rank 0).bump (DRM_REFB_CNT_COUNT c)
    else s)

/-- REQUEST_AGED (R186, R187). -/
def execRequestAged (c : Fin 16) (idx : Nat) (s : State) : Res :=
  .next (s.onCh c fun d => { d with q := modNth d.q idx fun e => if e.cls == .panic then e else { e with cls := .aged } })

/-- ROW_IDLE_PRECHARGE (R186). -/
def execRowIdlePrecharge (c : Fin 16) (bank : BitVec 10) (s : State) : Res :=
  .next (s.onCh c fun d => { d with openRows := d.openRows.filter fun r => r.1 != bank.toNat })

/-- CA_PARITY_ALERT (R192, R193): the replay changes no data; LIMIT alerts in a row fence the channel. -/
def execCaParityAlert (c : Fin 16) (sub : Fin 2) (s : State) : Res :=
  .next (
    let s1 := ((((s.bump (DRM_ERR_CNT_CAP c)).drmLast c 3 sub 0 0).raise (wDRM c) 4 noSub).onCh c fun d => { d with caps := d.caps + 1 })
    if (s1.chOf c).caps < max 1 (s1.rd (DRM_CAP_LIMIT c)) then s1
    else
      let s2 := s1.onCh c fun d => { d with caps := 0 }
      if (s2.chOf c).fencing.any fun x => x.rank == none then s2.dropTurn c else s2.dramFence c none false true 4)

/-- The class of every request queued in a channel follows the panic of the ingress it came through, as that is asserted and enabled
there (R188). -/
def State.reclass (s : State) (c : Nat) : State :=
  s.onCh c fun d => { d with q := d.q.map fun e =>
    match e.origin with
    | none => e
    | some o =>
      if s.panicOn c o then { e with cls := .panic }
      else if e.cls == .panic then { e with cls := if e.write then .background else .demand }
      else e }

/-- Panic of an ingress changes the class of the requests that carry its origin, and nothing else (R188). -/
def State.setPanic (s : State) (o : PanicSrc) (on : Bool) : State :=
  let v := if on then 1 else 0
  let s1 := match o with
    | .yoke => s.onDr fun d => { d with yokePanic := on }
    | .drill => (s.onDr fun d => { d with drillPanic := on }).wr DRL_STS_PANIC v
  (List.range 16).foldl (fun t c =>
    let t1 := match o with
      | .yoke => t.wr (DRM_RT_YOKE_PANIC c) v
      | .drill => t.wr (DRM_RT_DRILL_PANIC c) v
    let en := match o with | .yoke => t.on (DRM_RT_YOKE_EN c) | .drill => t.on (DRM_RT_DRILL_EN c)
    let t2 := if on && en then t1.bump (DRM_PANIC_CNT_COUNT c) else t1
    t2.reclass c) s1

/-- PANIC_RAISE (R188). -/
def execPanicRaise (src : PanicSrc) (s : State) : Res :=
  .next (if (match src with | .yoke => s.dr.yokePanic | .drill => s.dr.drillPanic) then s else s.setPanic src true)

/-- PANIC_FALL (R188). -/
def execPanicFall (src : PanicSrc) (s : State) : Res :=
  .next (if (match src with | .yoke => s.dr.yokePanic | .drill => s.dr.drillPanic) then s.setPanic src false else s)

/-! ## Self-refresh (R195, R196) -/

/-- Entry where all four queues are empty: banks precharged, owed intervals made up, SRE. -/
def State.srEnter (s : State) (c : Nat) : State :=
  if s.rd (DRM_STS_STATE c) == 2 && (s.chOf c).q.isEmpty then
    let owed := (List.range 4).any fun r => decide (0 < s.owedOf c r)
    let s1 := (s.onCh c fun d => { d with openRows := [], owed := [], sr := .inSr }).showOwed c
    (if owed then s1.bump (DRM_REFB_CNT_COUNT c) else s1).wr (DRM_STS_STATE c) 3
  else s

/-- A write of DRM_SR.ENTER: entry at once, or once the queues are empty. -/
def State.writeSrEnter (s : State) (c : Nat) : State :=
  if s.rd (DRM_STS_STATE c) == 2 then (s.onCh c fun d => { d with sr := .asked }).srEnter c else s

/-- A write of DRM_SR.EXIT. -/
def State.writeSrExit (s : State) (c : Nat) : State :=
  match (s.chOf c).sr with
  | .inSr => (s.onCh c fun d => { d with sr := .awake }).wr (DRM_STS_STATE c) 2
  | _ => s.onCh c fun d => { d with sr := .awake }

/-- SR_ENTER_REQUEST (R195). -/
def execSrEnterRequest (a : Agent) (c : Fin 16) (s : State) : Res :=
  .next (s.atReg a (DRM_SR c) (2 ^ 30) fun t => t.writeSrEnter c)

/-- SR_IDLE_ENTRY (R195): IDLE_US without a request, or the moment an entry asked for finds the queues empty. -/
def execSrIdleEntry (c : Fin 16) (s : State) : Res :=
  .next (if s.on (DRM_SR_AUTO c) || (s.chOf c).sr == .asked then s.srEnter c else s)

/-- SR_EXIT_REQUEST (R195). -/
def execSrExitRequest (a : Agent) (c : Fin 16) (s : State) : Res :=
  .next (s.atReg a (DRM_SR c) (2 ^ 29) fun t => t.writeSrExit c)

/-! ## Training and delays (R197 to R199) -/

/-- A command through DRM_MR_CMD: its fields are stored and DONE is set. -/
def State.mrCommand (s : State) (c op v : Nat) : State :=
  (s.wrW (DRM_MR_CMD c) (BitVec.ofNat 64 (op * 2 ^ 28 + v - getBits v 16 3 * 2 ^ 16))).wr (DRM_MR_CMD_DONE c) 1

/-- MR_WRITE (R178, R197). -/
def execMrWrite (a : Agent) (c : Fin 16) (v : BitVec 28) (s : State) : Res :=
  .next (s.atReg a (DRM_MR_CMD c) (2 ^ 31 + v.toNat) fun t => t.mrCommand c 0 v.toNat)

/-- MR_READ: the device's answer is returned in DRM_MR_DATA. -/
def execMrRead (a : Agent) (c : Fin 16) (v : BitVec 28) (data : Byte) (s : State) : Res :=
  .next (s.atReg a (DRM_MR_CMD c) (2 ^ 31 + 2 ^ 28 + v.toNat) fun t => (t.mrCommand c 1 v.toNat).wr (DRM_MR_DATA_DATA c) data.toNat)

/-- MPC_COMMAND. -/
def execMpcCommand (a : Agent) (c : Fin 16) (v : BitVec 28) (s : State) : Res :=
  .next (s.atReg a (DRM_MR_CMD c) (2 ^ 31 + 2 ^ 29 + v.toNat) fun t => t.mrCommand c 2 v.toNat)

/-- A training read: the lanes that matched are shown in DRM_TRN. With every lane matching, training is complete. -/
def State.trainCompare (s : State) (c v : Nat) (pass : BitVec 40) : State :=
  let t := (s.mrCommand c 3 v).wr (DRM_TRN_PASS c) pass.toNat
  if t.rd (DRM_STS_STATE c) == 1 then t.onCh c fun d => { d with trained := pass == 0xFFFFFFFFFF } else t

/-- TRAINING_READ_COMPARE. -/
def execTrainingReadCompare (a : Agent) (c : Fin 16) (v : BitVec 28) (pass : BitVec 40) (s : State) : Res :=
  .next (s.atReg a (DRM_MR_CMD c) (2 ^ 31 + 3 * 2 ^ 28 + v.toNat) fun t => t.trainCompare c v.toNat pass)

/-- A write of a delay register goes to its shadow (R198). -/
def State.writeDelay (s : State) (c addr v : Nat) : State :=
  s.onCh c fun d => { d with shadow := minsert addr (BitVec.ofNat 64 v) (merase addr d.shadow) }

/-- DELAY_APPLY (R198). -/
def execDelayApply (a : Agent) (c : Fin 16) (s : State) : Res :=
  .next (s.atReg a (DRM_DLY_CTL c) (2 ^ 31) fun t => t.wr (DRM_DLY_CTL_PENDING c) 1)

/-- DELAY_SHADOW_LOAD (R198): every shadow of the channel at one instant. -/
def execDelayShadowLoad (c : Fin 16) (s : State) : Res :=
  .next (
    if s.on (DRM_DLY_CTL_PENDING c) then ((s.chOf c).shadow.foldl (fun t e => t.wrW e.1 e.2) s).wr (DRM_DLY_CTL_PENDING c) 0 else s)

/-- The mask of a channel's ranks in service. -/
def State.ranksUp (s : State) (c : Nat) : Nat :=
  ((List.range (s.ranksOf c)).filter fun r => !(s.chOf c).fencedRanks.contains r).foldl (fun n r => n + 2 ^ r) 0

/-- A write of DRM_CFG.ACTIVE: admits traffic only from TRAINING with training complete (R210). -/
def State.writeActive (s : State) (c : Nat) (on : Bool) : State :=
  if on then
    if s.rd (DRM_STS_STATE c) == 1 && (s.chOf c).trained then
      ((((s.wr (DRM_CFG_ACTIVE c) 1).wr (DRM_STS_STATE c) 2).wr (DRM_STS_RANKS_UP c) (s.ranksUp c)).showFrames).showPins
    else s
  else
    let s1 := s.wr (DRM_CFG_ACTIVE c) 0
    if s1.rd (DRM_STS_STATE c) == 2 || s1.rd (DRM_STS_STATE c) == 3 then s1.wr (DRM_STS_STATE c) 1 else s1

/-- A write of DRM_CFG: ENABLE drives the DIMM clock and opens training; the population fields are stored. -/
def State.writeDrmCfg (s : State) (c v : Nat) : State :=
  let en := v.testBit 31
  let s1 := ((((s.wr (DRM_CFG_DPC c) (getBits v 28 2)).wr (DRM_CFG_SPEED c) (getBits v 27 1)).wr (DRM_CFG_NPOP c) (getBits v 26 1)).wr
    (DRM_CFG_POS c) (getBits v 16 4)).wr (DRM_CFG_ENABLE c) (if en then 1 else 0)
  let s2 :=
    if en && s1.rd (DRM_STS_STATE c) == 0 && s1.rd (DRM_CFG_DPC c) != 0 then s1.wr (DRM_STS_STATE c) 1
    else if !en && s1.rd (DRM_STS_STATE c) != 5 && s1.rd (DRM_STS_STATE c) != 4 then
      ((s1.onCh c fun d => { d with trained := false, sr := .awake }).wr (DRM_STS_STATE c) 0).wr (DRM_CFG_ACTIVE c) 0
    else s1
  ((if v.testBit 30 != s.on (DRM_CFG_ACTIVE c) then s2.writeActive c (v.testBit 30) else s2).showFrames).showPins

/-- CHANNEL_ACTIVATE (R210). -/
def execChannelActivate (a : Agent) (c : Fin 16) (s : State) : Res :=
  .next (s.atReg a (DRM_CFG c) (2 ^ 31 + 2 ^ 30) fun t => t.writeActive c true)

/-- A channel fails training (R197): STATE OFF, fenced. -/
def State.trainFailed (s : State) (c : Nat) : State :=
  let s1 := (s.raise (wDRM c) 7 noSub).wr (DRM_STS_STATE c) 0
  if s1.on (UNIT_FENCED (wDRM c)) then s1
  else ((((s1.onCh c fun d => { d with trained := false, fencedRanks := List.range (s1.ranksOf c) }).wr (UNIT_FENCED (wDRM c)) 1).fenceRec
    (wDRM c) 1 true noSub 7 0).showFrames).showPins

/-- OSCILLATOR_DRIFT_CHECK (R199): a drift of more than 1/16 UI makes new write delays of the rank, by subchannel and DQS
group, which are applied. -/
def execOscillatorDriftCheck (c : Fin 16) (rank : Fin 4) (drift : Bool) (dly : List (BitVec 12)) (s : State) : Res :=
  .next (
    if s.rd (DRM_STS_STATE c) == 2 && drift then
      let s1 := (s.raise (wDRM c) 8 noSub)
      let s2 := ((List.range 20).zip dly).foldl (fun t x =>
        let f := DRM_DQS_WR_LVL c (x.1 / 10) rank (x.1 % 10)
        t.writeDelay c f.addr (putBits (t.rdW f.addr).toNat f.lo f.width x.2.toNat)) s1
      s2.wr (DRM_DLY_CTL_PENDING c) 1
    else s)

/-! ## Harrow (R204 to R206) -/

/-- The first page at or above p that a DRAM frame holds. -/
def State.nextDramPage (s : State) (p : Nat) : Option (Nat × Nat) :=
  s.win.tier.findSome? fun e =>
    match e.2.frame with
    | some f => if p ≤ e.1 && e.2.state.inDram then some (e.1, f) else none
    | none => none

/-- Does Harrow's second phase read the frame: reserve, pool or free (R204)? -/
def State.patrols (s : State) (f : Nat) : Bool := decide (f < s.sysFrames) || s.frameFree f

/-- The first frame from f on that the second phase reads. -/
def State.nextPatrol (s : State) (f : Nat) : Nat → Option Nat
  | 0 => none
  | n + 1 => if s.patrols f then some f else s.nextPatrol (f + 1) n

/-- HRW_STS.BEHIND and its cause (R205). -/
def State.showHarrow (s : State) : State :=
  let h := max 1 (min 720 (s.rd HRW_CTL_PASS_H))
  let behind := decide (h * 4500 * 1000000000 < s.now - s.dr.hrwStart)
  (s.wr HRW_STS_BEHIND (if behind then 1 else 0)).cond wHRW 2 noSub behind

/-- Harrow's next line: the phase's next page or frame, or the next phase, or the next pass. -/
def State.harrowAdvance (s : State) (at_ : Nat) : State :=
  if s.dr.hrwLine < 63 then (s.onDr fun d => { d with hrwLine := d.hrwLine + 1 }).wr HRW_STS_POS at_
  else (s.onDr fun d => { d with hrwLine := 0 }).wr HRW_STS_POS (at_ + 1)

/-- A pass ends. -/
def State.harrowPass (s : State) : State :=
  (((s.bump HRW_STS_PASSES).wr HRW_STS_PHASE 0).wr HRW_STS_POS 0).onDr fun d => { d with hrwLine := 0, hrwStart := s.now }

/-- Counts what Harrow found. -/
def harrowCount (s : State) : Ecc → State
  | .corrected _ => s.bump HRW_CNT_CORRECTED
  | .reread _ => s.bump HRW_CNT_CORRECTED
  | _ => s

/-- HARROW_PATROL_READ (R204 to R206). -/
def execHarrowPatrolRead (ecc : Ecc) (s : State) : Res :=
  .next (
    if !s.on HRW_CTL_ENABLE || s.fab.hold || s.hrvBusy then s
    else
      let i := s.dr.hrwLine
      if s.rd HRW_STS_PHASE = 0 then
        match s.nextDramPage (s.rd HRW_STS_POS) with
        | none => (((s.wr HRW_STS_PHASE 1).wr HRW_STS_POS 0).onDr fun d => { d with hrwLine := 0 }).showHarrow
        | some (p, f) =>
          let i := if p = s.rd HRW_STS_POS then i else 0
          let (s1, ok) := (s.onDr fun d => { d with hrwLine := i }).lineEcc f i ecc
          let s2 := if ok then harrowCount s1 ecc
            else
              match s1.recover p f i wHRW with
              | (t, .restored) => t.bump HRW_CNT_HEALED
              | (t, .waits) => t
              | (t, .poisoned) => (t.bump HRW_CNT_POISONED).raise wHRW 3 noSub
          (s2.harrowAdvance p).showHarrow
      else
        match s.nextPatrol (s.rd HRW_STS_POS) (s.totalFrames - s.rd HRW_STS_POS) with
        | none => s.harrowPass.showHarrow
        | some f =>
          let i := if f = s.rd HRW_STS_POS then i else 0
          let (s1, ok) := (s.onDr fun d => { d with hrwLine := i }).lineEcc f i ecc
          let pool := s.sysFrames - s.grnCount
          let s2 := if ok then harrowCount s1 ecc
            else if f < pool then s1
            else if f < s.sysFrames then s1.packetLost (f - pool)
            else s1.putLine f i {}
          (s2.harrowAdvance f).showHarrow)

/-! ## Fences (R207 to R209) -/

/-- A write of RANK_FENCE or CH_FENCE: a fence of the last unit needed is ignored and recorded (R604). -/
def State.writeDramFence (s : State) (a : Agent) (c : Nat) (unit : Option Nat) (v : Nat) : State :=
  if s.dramFenced c unit then s
  else if s.lastDram c unit then (s.ignored a (DRM_FENCE_CTL c) v).fenceRec (wDRM c) 4 false (unit.getD noSub) 0xFF 0
  else s.dramFence c unit (s.on (DRM_FENCE_CTL_MODE c)) false 0xFF

/-- RANK_FENCE (R207, R208). -/
def execRankFence (a : Agent) (c : Fin 16) (m : BitVec 4) (s : State) : Res :=
  .next (s.atReg a (DRM_FENCE_CTL c) m.toNat fun t =>
    (bitsOf m.toNat (t.ranksOf c)).foldl (fun u r => u.writeDramFence a c (some r) m.toNat) t)

/-- CHANNEL_FENCE (R207, R208). -/
def execChannelFence (a : Agent) (c : Fin 16) (s : State) : Res :=
  .next (s.atReg a (DRM_FENCE_CTL c) 32 fun t => t.writeDramFence a c none 32)

/-- EVACUATION_END (R208 steps 4 and 5): once no page is left on the unit. Where the unit held frames of the reserve or the
pool, the substitution takes effect, its block at local frame `dst` of the channel that DRM_SUBST_DST names, vacated. -/
def execEvacuationEnd (c : Fin 16) (dst : BitVec 28) (s : State) : Res :=
  .next (
    match (s.chOf c).fencing with
    | [] => s
    | x :: _ =>
      let (lo, n) := s.unitLocals c x.rank
      let share := min (lo + n) (s.sysLocals c) - lo
      let dstCh := s.rd (DRM_SUBST_DST_CHANNEL c)
      let taken := s.win.frames.any fun e => (match e.2 with | .page _ => true | _ => false) && s.frameChan e.1 == dstCh &&
        decide (dst.toNat ≤ s.frameLocal e.1 ∧ s.frameLocal e.1 < dst.toNat + share)
      if !(s.pagesOn c x.rank).isEmpty || (decide (0 < share) && taken) then s
      else
        let s1 := s.onCh c fun d => { d with
          fencing := d.fencing.filter fun y => !(y == x)
          fencedRanks := (match x.rank with | none => List.range (s.ranksOf c) | some r => d.fencedRanks ++ [r]) }
        let s2 := if share = 0 then s1
          else (((s1.wr (DRM_SUBST_SRC_BASE c) lo).wr (DRM_SUBST_SRC_LEN c) share).wr (DRM_SUBST_DST_BASE c) dst.toNat).wr
            (DRM_SUBST_SRC_VALID c) 1
        let s3 := match x.rank with
          | none => ((s2.wr (DRM_STS_STATE c) 5).wr (DRM_STS_RANKS_UP c) 0).wr (UNIT_FENCED (wDRM c)) 1
          | some r =>
            let t := (s2.wrBit (DRM_STS_RANKS_UP c) r false).wr (UNIT_DEGRADED (wDRM c)) 1
            if (t.chOf c).fencing.isEmpty then t.wr (DRM_STS_STATE c) 2 else t
        (s3.showFrames).showPins)

/-- A write of DRM_FENCE_CTL.UNFENCE (R209): the fenced ranks, or the channel, return to STATE OFF with all frames free;
before a fence has ended it is ignored and recorded (R605). -/
def State.writeDramUnfence (s : State) (a : Agent) (c : Nat) : State :=
  let d := s.chOf c
  if !d.fencing.isEmpty then s.ignored a (DRM_FENCE_CTL c) 64
  else if d.fencedRanks.isEmpty && !s.on (UNIT_FENCED (wDRM c)) then s
  else
    let gone := fun (f : Nat) => s.frameChan f == c && d.fencedRanks.contains (s.frameRank f)
    let sub := if s.on (UNIT_FENCED (wDRM c)) then noSub else d.fencedRanks.headD noSub
    let s1 := (s.onCh c fun x => { x with fencedRanks := [], trained := false, sr := .awake }).onWin fun w =>
      { w with frames := w.frames.filter fun e => !gone e.1 }
    ((((((s1.wr (DRM_STS_STATE c) 0).wr (DRM_CFG_ACTIVE c) 0).wr (UNIT_FENCED (wDRM c)) 0).wr (UNIT_DEGRADED (wDRM c)) 0).fenceRec
      (wDRM c) 2 false sub 0xFF 0).showFrames).showPins

/-- DRAM_UNFENCE (R209). -/
def execDramUnfence (a : Agent) (c : Fin 16) (s : State) : Res :=
  .next (s.atReg a (DRM_FENCE_CTL c) 64 fun t => t.writeDramUnfence a c)

end Sys2Proof.Machine
end

