-- ==== Sys2Proof/Machine/Jobs.lean ====
section
/-!
DEFINITION. Machine/Jobs.lean: Drill's job queues (R394 to R408): binding, JOB packets, starting and completing jobs, halts,
JQ_READ, PUSH packets.
-/
namespace Sys2Proof.Machine
open Sys2Proof

/-- STATE of a queue: 0 UNBOUND, 1 ACTIVE, 2 HALTED, 3 CLOSING. -/
def State.jqState (s : State) (q : Nat) : Nat := s.rd (DRL_JQ_STATE_STATE q)
/-- The owner of a queue. -/
def State.jqConn (s : State) (q : Nat) : Nat := s.rd (DRL_JQ_STATE_CONN q)
/-- The completion count of a queue (R404). -/
def State.jqCount (s : State) (q : Nat) : Nat := s.rd (DRL_JQ_COUNT_COUNT q)
/-- The started jobs of a queue that have not completed. -/
def State.jqRuns (s : State) (q : Nat) : List JRun := s.dl.jobs.filter fun j => j.queue == q && !j.orphan
/-- USED and SLOTS_USED and READS_WAITING follow the rings, the slots and the reads. -/
def State.showJq (s : State) (q : Nat) : State :=
  ((s.wr (DRL_JQ_STATE_USED q) ((s.jqAt q).ring.length + (s.jqRuns q).length)).wr DRL_JQ_STS_SLOTS_USED s.dl.jobs.length).wr
    DRL_JQ_STS_READS_WAITING s.dl.waits.length

/-! ## JQ_READ (R407) -/

/-- WAIT of a JQ_READ. -/
def DReq.wait (r : DReq) : Nat := getBits r.ext.toNat 64 64
/-- The queue that a JQ_READ or a JOB names. -/
def DReq.queue (r : DReq) : Nat := getBits r.ext.toNat 0 16

/-- What a JQ_READ is answered at this instant, if anything: status and count. -/
def State.jqAnswer (s : State) (n : Nat) (r : DReq) : Option (Nat × Nat) :=
  let q := r.queue
  if s.jqState q = 0 || s.jqConn q != n then some (8, 0)
  else if s.jqState q = 2 then some (8, s.jqCount q)
  else if r.wait ≤ s.jqCount q then some (0, s.jqCount q)
  else none

/-- Answers the waiting JQ_READs that need wait no longer. -/
def State.jqPump (s : State) : State :=
  let s1 := s.dl.waits.foldl (fun t w =>
    match (t.connAt w.1).reqs.find? fun r => r.psn == w.2 && r.phase == .jq with
    | none => t.onDl fun d => { d with waits := d.waits.filter fun x => x != w }
    | some r =>
      match t.jqAnswer w.1 r with
      | none => t
      | some (st, c) => (t.onDl fun d => { d with waits := d.waits.filter fun x => x != w }).answer w.1 r 0x24 st (BitVec.ofNat 64 c) []) s
  s1.wr DRL_JQ_STS_READS_WAITING s1.dl.waits.length

/-- A JQ_READ is executed: answered at once, or one of at most 256 that wait. -/
def State.jqRead (s : State) (n : Nat) (r : DReq) : State :=
  match s.jqAnswer n r with
  | some (st, c) => s.answer n r 0x24 st (BitVec.ofNat 64 c) []
  | none =>
    if 256 ≤ s.dl.waits.length then s.answer n r 0x24 0 (BitVec.ofNat 64 (s.jqCount r.queue)) []
    else
      let s1 := (s.onConn n fun c => { c with reqs := c.reqs.map fun x => if x == r then { x with phase := .jq } else x }).onDl fun d =>
        { d with waits := d.waits ++ [(n, r.psn)] }
      s1.wr DRL_JQ_STS_READS_WAITING s1.dl.waits.length

/-! ## Completion and failure (R404 to R406) -/

/-- A job of a queue completes: the count follows; past a failed job it advances no further. -/
def State.jqPass (s : State) (q num : Nat) : State :=
  let k := s.jqAt q
  if k.failed.any fun f => decide (f < num) then s
  else
    let (c, d) := passDone (s.jqCount q) (insertAsc num k.done)
    (s.onJq q fun k => { k with done := d }).wr (DRL_JQ_COUNT_COUNT q) c

/-- A job fails (R405, R406): the queue is HALTED, the failure recorded. -/
def State.jobFail (s : State) (q num status : Nat) (d : Line) : State :=
  let s1 := (s.bump DRL_JQ_CNT_FAILED).raise wDRL 6 (s.jqConn q)
  let s2 := if s1.jqState q = 1 then
      ((((s1.wr (DRL_JQ_STATE_STATE q) 2).wr (DRL_JQ_FAIL_STATUS q) status).wr (DRL_JQ_FAIL_OPCODE q) (jf d 0 1)).wr
        (DRL_JQ_TAG_TAG q) (jf d 32 8)).onJq q fun k => { k with failed := some num, done := k.done.filter fun x => decide (x < num) }
    else s1
  (s2.jqPass q num).showJq q

/-- The number of the next job of a queue to start. -/
def State.jqNext (s : State) (q : Nat) : Option JDesc := (s.jqAt q).ring.head?
/-- WAIT of a descriptor: queue and value. -/
def jobWait (d : Line) : Option (Nat × Nat) := if (jf d 1 1).testBit 1 then some (jf d 2 2, jf d 24 8) else none

/-- Does the queue's next job wait on a queue that halted at or below the value it waits for (R405)? The count of that queue
ends at the failed job's number, so it does not tell a wait for the failed job itself from one that is met. -/
def State.depDead (s : State) (d : Line) : Bool :=
  match jobWait d with
  | none => false
  | some (w, v) => s.jqState w == 2 && (s.jqAt w).failed.any fun f => decide (f ≤ v)

/-- The queue's next job fails without starting. -/
def State.headFail (s : State) (q status : Nat) : State :=
  match s.jqNext q with
  | none => s
  | some j => (s.onJq q fun k => { k with ring := k.ring.drop 1 }).jobFail q j.num status j.d

/-- The jobs that wait on a queue which has halted fail, and so on (R405). -/
def State.depScanFor : Nat → State → State
  | 0, s => s
  | n + 1, s =>
    match (s.dl.jqs.map fun x => x.1).find? fun q => s.jqState q == 1 && (s.jqNext q).any fun j => s.depDead j.d with
    | none => s
    | some q => depScanFor n (s.headFail q 0x40)

/-- What a halt brings: dependent jobs fail, waiting reads are answered. -/
def State.depScan (s : State) : State := (s.depScanFor (s.dl.jqs.length + 1)).jqPump

/-- Frees a job's slot, or leaves it until its accesses have ended. -/
def State.jobFree (s : State) (j : JRun) : State :=
  if j.parts.isEmpty then s.onDl fun d => { d with jobs := d.jobs.filter fun x => x.id != j.id }
  else s.onJob j.id fun x => { x with orphan := true, ended := false, stop := true }

/-- A started job completes or fails, and its slot is free (R404 to R406). -/
def State.jobFinish (s : State) (j : JRun) : State :=
  let st := if j.status != 0 then j.status else if j.pois then 2 else 0
  let s1 := s.jobFree j
  let s2 := if st = 0 then ((s1.bump DRL_JQ_CNT_JOBS).jqPass j.queue j.num).showJq j.queue else s1.jobFail j.queue j.num st j.d
  s2.depScan

/-- JOB_COMPLETE (R399, R404, R406, R407): the first job that has ended. -/
def execJobComplete (s : State) : Res :=
  .next (match s.dl.jobs.find? fun j => j.ended with
    | none => s
    | some j => s.jobFinish j)

/-! ## JOB packets (R397, R398) -/

/-- Are all bits of bytes a to a + k - 1 zero? -/
def jz (d : Line) (a k : Nat) : Bool := jf d a k == 0

/-- Does a descriptor keep the constraints of R397 and R398? `resume` where it is the first of a packet to a HALTED queue. -/
def jobOk (d : Line) (maxpl : Nat) (resume : Bool) : Bool :=
  let op := jf d 0 1
  let len := jf d 4 4
  let src := jf d 8 8
  let dst := jf d 16 8
  let fl := jf d 1 1
  let a64 := fun x => x % 64 == 0
  let gib := decide (64 ≤ len ∧ len ≤ 0x40000000)
  let any := decide (fl < 8) && jz d 40 24 && (fl.testBit 1 || (jz d 2 2 && jz d 24 8)) && decide (jf d 2 2 < 1024) && (!fl.testBit 2 || op == 3)
  let dpa := fun x => decide (x < 2 ^ 46)
  any && (match op with
    | 1 => dpa src && dpa dst && a64 src && a64 dst && a64 len && gib && decide (src + len ≤ dst ∨ dst + len ≤ src)
    | 2 => jz d 8 8 && dpa dst && a64 dst && a64 len && gib
    | 3 => dpa src && a64 src && a64 len && decide (64 ≤ len ∧ len ≤ 65536 * maxpl)
    | 4 => jz d 4 4 && jz d 8 8 && jz d 16 8
    | 5 => resume && jf d 1 63 == 0
    | _ => false)

/-- Does a descriptor wait on its own queue for its own job or a later one? -/
def selfWait (d : Line) (q num : Nat) : Bool := match jobWait d with | some (w, v) => w == q && decide (num ≤ v) | none => false

/-- The descriptors of a JOB packet. -/
def jobDescs : List Byte → Nat → List Line
  | _, 0 => []
  | l, n + 1 => BitVec.ofNat 512 (ofBytes (l.take 64)) :: jobDescs (l.drop 64) n

/-- The cause for which a JOB packet is refused (R398), 0 for none. -/
def State.jobCause (s : State) (n q : Nat) (ds : List Line) : Nat :=
  let k := s.jqAt q
  let st := s.jqState q
  let resume := st == 2 && ds.any fun _ => (ds.head?.map fun d => jf d 0 1) == some 5
  let first := if resume then k.failed.getD 0 + 1 else k.nextNum
  let num := (List.range ds.length).zip ds
  if st = 0 || s.jqConn q != n then 1
  else if 256 < s.rd (DRL_JQ_STATE_USED q) + ds.length then 2
  else if st = 2 && !resume then 3
  else if st = 3 then 4
  else if !s.on DRL_JQ_CTL_ENABLE then 5
  else if num.any fun x => !jobOk x.2 (s.connAt n).maxpl (resume && x.1 == 0) then 6
  else if num.any fun x => selfWait x.2 q (first + x.1) then 7
  else 0

/-- DRL_JQ_LAST takes the first refusal since VALID was cleared. -/
def State.jqLast (s : State) (cause n q psn : Nat) : State :=
  if s.on DRL_JQ_LAST_VALID then s
  else ((((s.wr DRL_JQ_LAST_CAUSE cause).wr DRL_JQ_LAST_CONN n).wr DRL_JQ_LAST_QUEUE q).wr DRL_JQ_LAST_PSN_LO psn).wr DRL_JQ_LAST_VALID 1

/-- A JOB packet's descriptors enter the ring, or the packet is refused whole (R398, R399); a RESUME discards the jobs behind
the failed one and completes at once (R406). Answers the status of its ERROR record, 0 for none. -/
def State.jobAccept (s : State) (n q psn : Nat) (ds : List Line) : State × Nat :=
  let cause := s.jobCause n q ds
  if cause != 0 then (s.jqLast cause n q psn, if cause < 6 then 8 else 4)
  else
    let add := fun (t : State) (l : List Line) =>
      t.onJq q fun (k : JQueue) => { k with ring := k.ring ++ ((List.range l.length).zip l).map (fun x => ⟨k.nextNum + x.1, x.2⟩), nextNum := k.nextNum + l.length }
    if s.jqState q = 2 then
      let f := (s.jqAt q).failed.getD 0
      let s1 := (s.jqRuns q).foldl (fun t j => if f < j.num then
        t.onJob j.id fun x => { x with orphan := true, ended := false, stop := x.stop || jf x.d 0 1 = 3 } else t) s
      let s2 := s1.onJq q fun (k : JQueue) => { k with ring := [], failed := none, nextNum := f + 2 }
      let s3 := ((s2.wr (DRL_JQ_STATE_STATE q) 1).jqPass q (f + 1)).bump DRL_JQ_CNT_JOBS
      (((s3.jqRuns q).foldl (fun t j => t.jobIdle j.id) (add s3 (ds.drop 1))).showJq q, 0)
    else ((add s ds).showJq q, 0)

/-! ## Starting jobs (R400 to R403) -/

/-- Do the start conditions of R400 hold for the queue's next job, but for a wait that cannot be met? -/
def State.jobReady (s : State) (q : Nat) (j : JDesc) : Bool :=
  let runs := s.jqRuns q
  s.jqState q == 1 && s.on DRL_JQ_CTL_ENABLE && decide (s.dl.jobs.length < 64) && (runs.all fun r => s.jobPresented r || r.ended) &&
    (!(jf j.d 1 1).testBit 0 || runs.isEmpty) &&
    (match jobWait j.d with | none => true | some (w, v) => decide (v ≤ s.jqCount w))

/-- The first line of a range that would fail the region check as the queue's owner, with the reason (R402). -/
def State.rangeBad (s : State) (q op base len : Nat) (modifies : Bool) : Option (Nat × Nat × Nat) :=
  let first := base / 64
  let last := (base + len - 1) / 64
  let gs := (List.range (gibOf last - gibOf first + 1)).map fun i => max first ((gibOf first + i) * 0x1000000)
  gs.findSome? fun l => match s.check (.job q op) l modifies with
    | .error (r, g) => some (l, r, g)
    | .ok _ => none

/-- JOB_START (R400 to R402, R404): the queue's next job takes a slot, is checked over its whole ranges and presents its
accesses; a NOP completes at once. A wait that cannot be met fails the job (R405). -/
def execJobStart (q : Fin 1024) (s : State) : Res :=
  .next (
    match s.jqNext q with
    | none => s
    | some j =>
      if s.jqState q = 1 && s.depDead j.d then (s.headFail q 0x40).depScan
      else if !s.jobReady q j then s
      else
        let op := jf j.d 0 1
        let id := s.fab.nextId
        let s0 : State := ((s.onJq q fun k => { k with ring := k.ring.drop 1 }).onFab fun f =>
          { f with nextId := f.nextId + 1, ops := f.ops ++ [{ id := id, left := 0, group := (s.jqAt q).group }] }).onDl fun d =>
          { d with jobs := d.jobs ++ [{ id := id, queue := q, num := j.num, d := j.d }], turn := q }
        let bad := if op = 4 then none
          else match (if op = 2 then none else s0.rangeBad q id (jf j.d 8 8) (jf j.d 4 4) false) with
            | some x => some x
            | none => if op = 3 then none else s0.rangeBad q id (jf j.d 16 8) (jf j.d 4 4) true
        let s1 := s0.onFab fun f => { f with ops := f.ops.filter fun o => o.id != id }
        match bad with
        | some (l, r, g) =>
          let s2 := (s1.chkFail (.job q id) l r g).onJob id fun x => { x with status := 1, stop := true, ended := true }
          match s2.jobAt id with | none => s2 | some x => s2.jobFinish x
        | none =>
          if op = 4 then (match s1.jobAt id with | none => s1 | some x => s1.jobFinish x)
          else (((s1.showJq q).jobParts id).exclTidy).settle)

/-- JOB_WAIT_TIMEOUT (R405). -/
def execJobWaitTimeout (q : Fin 1024) (s : State) : Res :=
  .next (
    match s.jqNext q with
    | none => s
    | some j =>
      match jobWait j.d with
      | none => s
      | some (w, v) => if s.jqState q = 1 && decide (s.jqCount w < v) then (s.headFail q 0x41).depScan else s)

/-- JOB_ALLOC_RETRY (R414). -/
def execJobAllocRetry (s : State) : Res :=
  .next ((s.dl.jobs.foldl (fun t j =>
    if j.noBuf then (t.onJob j.id fun x => { x with noBuf := false }).jobParts j.id else t) s).settle)

/-- PUSH_PACKET_SEND (R403): the packet whose lines have been read is sent once the connection has room, and the next one is
read. -/
def execPushPacketSend (q : Fin 1024) (s : State) : Res :=
  .next (
    match (s.jqRuns q).find? fun j => jf j.d 0 1 == 3 && !j.stop && j.parts.any fun p => s.fab.ops.any fun o => o.id == p.2 && o.left == 0 with
    | none => s
    | some j =>
      match j.parts.head? with
      | none => s
      | some (i, op) =>
        match s.fab.ops.find? fun o => o.id == op with
        | none => s
        | some o =>
          let n := s.jqConn q
          let c := s.connAt n
          if c.state != 2 || !(decide (c.sent.length < 4096) && c.txWait.isEmpty) then s
          else
            let data := (sortLines o.data).flatMap fun x => leBytes x.2.1.toNat 64
            let last := i + 1 = s.partCount j
            let fin := last && (jf j.d 1 1).testBit 2
            let ext := leBytes (jf j.d 16 8 + i * s.partSize j) 8 ++ leBytes data.length 4 ++ leBytes q.val 2 ++ [0, 0]
            let s1 := (s.onFab fun f => { f with ops := f.ops.filter fun x => x.id != op }).onJob j.id fun x =>
              { x with parts := x.parts.filter (fun p => p.2 != op), unacked := x.unacked + 1 }
            let s2 := s1.seqSend n { op := 0x07, final := fin, off := (if fin then i else 0), pay := ext ++ data, buf := o.buf, job := some j.id }
            ((s2.jobParts j.id).settle))

/-! ## Binding (R394 to R396) -/

/-- A queue enters CLOSING: jobs not started are discarded, a started PUSH ends with PUSH_FAILED (R396, R405). -/
def State.jqClosing (s : State) (q : Nat) : State :=
  if s.jqState q = 0 || s.jqState q = 3 then s
  else
    let s1 := (s.wr (DRL_JQ_STATE_STATE q) 3).onJq q fun k => { k with ring := [] }
    let s2 := (s1.jqRuns q).foldl (fun t j => if jf j.d 0 1 = 3 && !j.ended then
      t.onJob j.id fun x => { x with status := (if x.status = 0 then 0x42 else x.status), stop := true, ended := true } else t) s1
    s2.showJq q

/-- Every queue of a connection enters CLOSING. -/
def State.jqCloseConn (s : State) (n : Nat) : State :=
  (s.dl.jqs.map fun x => x.1).foldl (fun t q => if t.jqState q != 0 && t.jqConn q == n then t.jqClosing q else t) s

/-- Queues that wait next on a queue which becomes UNBOUND below the value waited for fail (R405). -/
def State.depUnbound (s : State) (w : Nat) : State :=
  (s.dl.jqs.map fun x => x.1).foldl (fun t q =>
    match t.jqNext q with
    | none => t
    | some j => if t.jqState q = 1 && (match jobWait j.d with | some (x, v) => x == w && decide (t.jqCount w < v) | none => false)
        then t.headFail q 0x40 else t) s

/-- JQ_UNBOUND_REACHED (R396): no job of the queue runs. -/
def execJqUnboundReached (q : Fin 1024) (s : State) : Res :=
  .next (
    if s.jqState q != 3 || (s.dl.jobs.any fun j => j.queue == q.val) then s
    else
      let s1 := ((s.wr (DRL_JQ_STATE_STATE q) 0).wr (DRL_JQ_STATE_CONN q) 0).showJq q
      let s2 := if (s.jqAt q).unbind then (s1.wr DRL_JQ_CMD_STS_BUSY 0).wr DRL_JQ_CMD_STS_RESULT 0 else s1
      let s3 := s2.onJq q fun _ => {}
      (s3.depUnbound q).depScan)

/-- Answers of DRL_JQ_CMD. -/
def State.jqResult (s : State) (q r : Nat) : State := (s.wr DRL_JQ_CMD_STS_RESULT r).wr DRL_JQ_CMD_STS_QUEUE q

/-- BIND of DRL_JQ_CMD (R394). -/
def State.jqBind (s : State) (a : Agent) (q n : Nat) : State :=
  let g := (s.connAt n).group
  if s.jqState q != 0 then s.jqResult q 1
  else if (s.connAt n).state != 2 then s.jqResult q 2
  else if s.cgSecure g && !s.agentSecure a then s.jqResult q 4
  else
    ((((s.wr (DRL_JQ_STATE_STATE q) 1).wr (DRL_JQ_STATE_CONN q) n).wr (DRL_JQ_COUNT_COUNT q) 0).onJq q fun _ => { bound := true, group := g }).showJq q |>.jqResult q 0

/-- UNBIND of DRL_JQ_CMD (R396): BUSY until the queue is UNBOUND. -/
def State.jqUnbind (s : State) (q : Nat) : State :=
  if s.jqState q = 0 then s.jqResult q 3
  else (((s.jqClosing q).onJq q fun k => { k with unbind := true }).wr DRL_JQ_CMD_STS_BUSY 1).wr DRL_JQ_CMD_STS_QUEUE q

/-- A write of DRL_JQ_CMD with GO: ignored and recorded while BUSY is 1. -/
def State.jqCmd (s : State) (a : Agent) (op n q : Nat) : State :=
  if s.on DRL_JQ_CMD_STS_BUSY then s.ignored a DRL_JQ_CMD (2 ^ 31 + op * 2 ^ 24 + n * 1024 + q)
  else
    let s1 := ((s.wr DRL_JQ_CMD_OP op).wr DRL_JQ_CMD_CONN n).wr DRL_JQ_CMD_QUEUE q
    match op with
    | 1 => s1.jqBind a q n
    | 2 => s1.jqUnbind q
    | _ => s1

/-- JQ_BIND (R394). -/
def execJqBind (a : Agent) (q : Fin 1024) (n : BitVec 12) (s : State) : Res :=
  .next (s.atReg a DRL_JQ_CMD (2 ^ 31 + 2 ^ 24 + n.toNat * 1024 + q.val) fun t => t.jqCmd a 1 n.toNat q)

/-- JQ_UNBIND (R396). -/
def execJqUnbind (a : Agent) (q : Fin 1024) (s : State) : Res :=
  .next (s.atReg a DRL_JQ_CMD (2 ^ 31 + 2 ^ 25 + q.val) fun t => t.jqCmd a 2 (t.rd DRL_JQ_CMD_CONN) q)

/-- JQ_READ_TIMEOUT (R407): the read is answered with the count. -/
def execJqReadTimeout (n : BitVec 12) (psn : BitVec 48) (s : State) : Res :=
  .next (
    match (s.connAt n.toNat).reqs.find? fun r => r.psn == psn.toNat && r.phase == .jq with
    | none => s
    | some r =>
      let s1 := s.onDl fun d => { d with waits := d.waits.filter fun x => x != (n.toNat, r.psn) }
      (s1.answer n.toNat r 0x24 0 (BitVec.ofNat 64 (s1.jqCount r.queue)) []).wr DRL_JQ_STS_READS_WAITING s1.dl.waits.length)

end Sys2Proof.Machine
end

