-- ==== Sys2Proof/Machine/Mbx.lean ====
section
/-!
DEFINITION. Machine/Mbx.lean: the mailbox slots (R448 to R459), their hardware senders and takers, and the twin relay (R355,
R457).
-/
namespace Sys2Proof.Machine
open Sys2Proof

/-- Changes the mailboxes. -/
def State.onMb (s : State) (f : Mbx → Mbx) : State := { s with mb := f s.mb }

/-! ## Slots -/

/-- FULL bit of a slot. -/
def fFull (c : Nat) (out : Bool) : Fld := if out then MBX_CH_STS_OUT_FULL c else MBX_CH_STS_IN_FULL c
/-- COLL bit of a slot. -/
def fColl (c : Nat) (out : Bool) : Fld := if out then MBX_CH_STS_OUT_COLL c else MBX_CH_STS_IN_COLL c
/-- Header word of a slot. -/
def fHdr (c : Nat) (out : Bool) : Fld := if out then MBX_OUT_HDR_HEADER c else MBX_IN_HDR_HEADER c
/-- Message word k of a slot. -/
def fMsg (c : Nat) (out : Bool) (k : Nat) : Fld := if out then MBX_OUT_MSG c k else MBX_IN_MSG c k
/-- Is the slot FULL? -/
def State.mbxFull (s : State) (c : Nat) (out : Bool) : Bool := s.on (fFull c out)
/-- SEQ of the last message sent to the slot. -/
def State.mbxSeq (s : State) (c : Nat) (out : Bool) : Nat := getBits (s.rd (fHdr c out)) 0 32
/-- The slot's 64 message bytes. -/
def State.mbxMsg (s : State) (c : Nat) (out : Bool) : List Byte := (List.range 8).flatMap fun k => leBytes (s.rd (fMsg c out k)) 8
/-- First address of a slot's bulk buffer. -/
def bulkBase (c : Nat) (out : Bool) : Nat := (2 * c + if out then 1 else 0) * 4096
/-- BULK_LEN of a slot's message, at most 4,096 (R450). -/
def State.bulkLen (s : State) (c : Nat) (out : Bool) : Nat := min 4096 (getBits (s.rd (fMsg c out 0)) 48 16)
/-- The bulk bytes that belong to a slot's message. -/
def State.bulkOf (s : State) (c : Nat) (out : Bool) : List Byte := rdBytes s.mb.bulk (bulkBase c out) (s.bulkLen c out)

/-- The header word of R451 without its SEQ. -/
def mbxHdr (kind : Nat) (world : Bool) (source dkind dest : Nat) : Nat :=
  kind * 2 ^ 61 + (if world then 2 ^ 60 else 0) + source % 4096 * 2 ^ 48 + dkind * 2 ^ 45 + dest % 4096 * 2 ^ 33

/-- STATE of a core. -/
def State.coreState (s : State) (n : Nat) : Nat := s.rd (HDL_CORE_STS_STATE n)

/-- A message has entered an IN slot: its routed core is told of it while IRQ_EN is 1, and is woken if it sleeps (R459). -/
def State.mbxTell (s : State) (c : Nat) : State :=
  let core := s.rd (MBX_CH_CTL_CORE c)
  let s := s.onMb fun m => { m with arrived := m.arrived.filter (fun x => x.1 != c) ++ [(c, s.cs.admin.testBit c)] }
  let s1 := if s.on (MBX_CH_CTL_IRQ_EN c) then s.onMb fun m => { m with told := m.told.filter (fun x => x != c) ++ [c] } else s
  if s1.coreState core = 3 && !s1.mb.wakes.contains core then s1.onMb fun m => { m with wakes := m.wakes ++ [core] } else s1

/-- Copies a message into a slot, stamps its header and sets the slot FULL, at one instant (R451, R452); a FULL slot's message
is lost (R453). -/
def State.mbxPut (s : State) (c : Nat) (out : Bool) (hdr : Nat) (msg : List Byte) : State :=
  let was := s.mbxFull c out
  let seq := (s.mbxSeq c out + 1) % 2 ^ 32
  let s1 := (List.range 8).foldl (fun t k => t.wr (fMsg c out k) (ofBytes ((msg.drop (8 * k)).take 8))) s
  let s2 := (((s1.wr (fHdr c out) (hdr + seq)).wr (fFull c out) 1).bump MBX_CNT_SENT)
  let s3 := if was then
      (((s2.wr (fColl c out) 1).bump (MBX_CH_STS_COLL_CNT c)).bump MBX_CNT_COLLIDED).raise wMBX 2 c
    else s2
  if out then (if s.pw.i3c.isSome && decide (32 ≤ c ∧ c < 48) then s3.emit .sbIbi else s3) else s3.mbxTell c

/-- Empties a slot. -/
def State.mbxEmpty (s : State) (c : Nat) (out : Bool) : State :=
  let s1 := s.wr (fFull c out) 0
  if out then s1 else s1.onMb fun m => { m with told := m.told.filter (fun x => x != c), arrived := m.arrived.filter fun x => x.1 != c }

/-- Puts bytes into a slot's bulk buffer. -/
def State.bulkPut (s : State) (c : Nat) (out : Bool) (d : List Byte) : State :=
  s.onMb fun m => { m with bulk := wrBytes m.bulk (bulkBase c out) (d.take 4096) }

/-- An OUT message is discarded and counted (R457). -/
def State.mbxDiscard (s : State) (c : Nat) : State := (s.bump MBX_CNT_DISCARD).raise wMBX 3 c

/-- The sideband alert that the mailboxes assert: a BMC channel has a FULL OUT slot (R457). -/
def State.mbxAlert (s : State) : Bool := (List.range 16).any fun i => s.mbxFull (32 + i) true

/-! ## The twin relay (R355, R457) -/

/-- The pair whose paths carry the relay's frames: the first with a usable path. -/
def State.relayPair (s : State) : Nat := (s.pairsOn.find? fun p => !(s.usable p).isEmpty).getD 0

/-- An MBX frame of a relay channel's message leaves on every usable path, each time under new CSNs (R329, R355). -/
def State.relaySend (s : State) (c : Nat) : State :=
  let p := s.relayPair
  let pay := [BitVec.ofNat 8 c, 0, 0, 0, 0, 0, 0, 0] ++ leBytes (s.rd (fHdr c true)) 8 ++ s.mbxMsg c true
  if !(s.pairAt p).keyed then s
  else
    (s.usable p).foldl (fun t k =>
      let csn := (if k = 0 then (t.pairAt p).csnTxA else (t.pairAt p).csnTxB) + 1
      (t.ctlSend p k 0x06 pay).onYk fun y => { y with relay := y.relay.map fun r => if r.1 == c then (c, r.2 ++ [(k, csn)]) else r }) s

/-- A message has entered a relay channel's OUT slot: Yoke takes it up. -/
def State.relayNew (s : State) (c : Nat) : State :=
  (s.onYk fun y => { y with relay := (y.relay.filter fun r => r.1 != c) ++ [(c, [])] }).relaySend c

/-- A received relay message enters its IN slot, and its frame is acknowledged (R355, R457). One whose carried WORLD is not
the channel's is discarded. -/
def State.relayDeliver (s : State) (r : RelayIn) : State :=
  let world := decide (getBits r.hdr 60 1 = 1)
  let s1 := s.onYk fun y => { y with relaySeen := (r.chan, r.hdr) :: y.relaySeen.filter fun x => x.1 != r.chan }
  let s2 := if world != s.chanSecure r.chan then s1.mbxDiscard r.chan
    else s1.mbxPut r.chan false (mbxHdr 4 world (getBits r.hdr 48 12) 0 0) r.msg
  s2.ctlSend r.pair r.path 0x07 (leBytes r.csn 8)

/-! ## Messages of Drill's CONTROL connections (R373, R454) -/

/-- Presents an MBX request that waits for its slot: at an EMPTY slot the message enters it and the request completes. -/
def State.drlMbx (s : State) (n psn : Nat) : State :=
  match (s.connAt n).reqs.find? fun r => r.psn == psn && r.op == .mbx with
  | none => s
  | some r =>
    let c := (s.connAt n).chan
    if s.mbxFull c false then s.onConn n fun k => { k with reqs := k.reqs.map fun q => if q.psn == psn then { q with phase := .slot } else q }
    else ((s.mbxPut c false (mbxHdr 2 (s.cgSecure (s.connAt n).group) n 0 0) r.data).bufBack r.buf).reqDone n psn

/-! ## The CXL front end (R88, R89, R454, R458) -/

/-- Presents an LD's waiting command: at an EMPTY slot its payload enters the bulk buffer and its message the slot. -/
def State.feTry (s : State) (f : FeCmd) : State :=
  let k := f.link * 16 + f.ld
  match s.ldIndex f.link f.ld with
  | none => s
  | some n =>
    let c := s.rd (HPT_LDMBX_CHANNEL n)
    if s.mbxFull c false then s
    else
      let msg := leBytes f.op 2 ++ leBytes 0 4 ++ leBytes f.pay.length 2 ++ leBytes 0 56
      let s1 := (s.onMb fun m => { m with fe := m.fe.filter fun x => x != f }).bulkPut c false f.pay
      (s1.mbxPut c false (mbxHdr 1 (s.on (TIN_LDB_WORLD n)) n 0 0) msg).onLd k fun l => { l with mbxQueued := false, mbxStarted := true }

/-- A host writes a command into an LD's primary mailbox (R89): Busy before the worlds are locked, Unsupported where the LD
has no binding or no channel; else it waits for its slot. -/
def State.feNew (s : State) (link ld op : Nat) (pay : List Byte) : State :=
  let k := link * 16 + ld
  let l := s.ldOf k
  if l.mbxQueued || l.mbxStarted then s
  else if !s.locked then s.emit (.ldMbx link ld op 6 [])
  else
    match s.ldIndex link ld with
    | none => s.emit (.ldMbx link ld op 3 [])
    | some n =>
      if !s.on (HPT_LDMBX_VALID n) then s.emit (.ldMbx link ld op 3 [])
      else
        let f : FeCmd := ⟨link, ld, op, pay.take 4096⟩
        ((s.onLd k fun l => { l with mbxQueued := true, mbxAborted := false, mbxDiscard := false }).onMb fun m => { m with fe := m.fe ++ [f] }).feTry f

/-- A host channel's OUT message is taken (R457): by the CXL front end for an LD's command, by Drill for a connection. -/
def State.outTake (s : State) (c : Nat) : State :=
  let h := s.rd (fHdr c true)
  let dest := getBits h 33 12
  let msg := s.mbxMsg c true
  let s1 := s.mbxEmpty c true
  if getBits h 45 3 = 1 then
    let link := s.rd (TIN_LDB_LINK dest)
    let ld := s.rd (TIN_LDB_LD dest)
    let k := link * 16 + ld
    if s.on (TIN_LDB_VALID dest) && (s.ldOf k).mbxStarted then
      let s2 := s1.onLd k fun l => { l with mbxStarted := false, mbxDiscard := false }
      if (s.ldOf k).mbxDiscard then s2
      else s2.emit (.ldMbx link ld (ofBytes (msg.take 2)) (ofBytes ((msg.drop 4).take 2)) (s.bulkOf c true))
    else s1.mbxDiscard c
  else
    if (s.connAt dest).state = 2 then
      s1.seqSend dest { op := 0x06, pay := leBytes h 8 ++ leBytes 0 8 ++ msg }
    else s1.mbxDiscard c

/-! ## Semaphores -/

/-- Is a semaphore held? -/
def State.semHeld (s : State) (k : Nat) : Bool := s.on (MBX_SEM_HELD_F k)
/-- Releases a semaphore. -/
def State.semFree (s : State) (k : Nat) : State :=
  ((s.wr (MBX_SEM_HELD_F k) 0).wr (MBX_SEM_OWNER k) 0).wrBit MBX_SEM_HELD_HELD k false

/-- Is a semaphore held by core n? -/
def State.semHeldBy (s : State) (n k : Nat) : Bool := s.semHeld k && s.rd (MBX_SEM_OWNER k) == n

end Sys2Proof.Machine
end

