-- ==== Sys2Proof/Machine/DrillCmds.lean ====
section
/-!
DEFINITION. Machine/DrillCmds.lean: Drill's packets and connections (R358 to R393): what a received packet does, when a
request is presented, acknowledgements and timers, opening and closing.
-/
namespace Sys2Proof.Machine
open Sys2Proof

/-- Does the port carry Drill (R358)? -/
def State.drillPort (s : State) (p : Nat) : Bool := decide (p < if s.on YOK_CTL_PAIRS then 4 else 6) && s.bitOf DRL_CTL_PORTS p

/-- DRL_STS.OPEN counts the connections OPENING or OPEN. -/
def State.showDrl (s : State) : State := s.wr DRL_STS_OPEN (s.dl.conns.filter fun x => x.2.state != 0).length

/-! ## Closing (R369, R370) -/

/-- Empties connection key slot n. -/
def State.ckeyErase (s : State) (n : Nat) : State :=
  let s1 : State := { s with cph := { s.cph with ckey := mset (fun _ => (0 : Key)) s.cph.ckey n 0 } }
  s1.wrBit (CPH_CLOAD_BITS (n / 32)) (n % 32) false
/-- Does connection key slot n hold a key? -/
def State.ckeyed (s : State) (n : Nat) : Bool := s.bitOf (CPH_CLOAD_BITS (n / 32)) (n % 32)

/-- A connection becomes CLOSED: requests not presented are discarded with their buffers, those presented run on, its key slot
is erased, its queues enter CLOSING. -/
def State.connClosed (s : State) (n code : Nat) : State :=
  let c := s.connAt n
  if c.state = 0 then s
  else
    let s1 := c.reqs.foldl (fun t r => t.bufBack r.buf) s
    let s2 := (c.sent ++ c.txWait).foldl (fun t p => t.bufBack p.buf) s1
    let s3 := (s2.onConn n fun c => { c with state := 0, reqs := [], done := [], sent := [], txWait := [], closing := none, lastClose := code, ackWait := false, ne := none }).onDl
      fun d => { d with waits := d.waits.filter fun w => w.1 != n }
    let s4 := ((((s3.ckeyErase n).jqCloseConn n).showDrl).drlLast 2 code n 0).wr DRL_JQ_STS_READS_WAITING s3.dl.waits.length
    if code = 0x20 then s4.raise wDRL 5 n else s4

/-- The device closes a connection: the first of three CLOSE packets leaves on every path. -/
def State.connClose (s : State) (n code : Nat) : State :=
  let c := s.connAt n
  if c.state = 0 || c.closing.isSome then s
  else (s.rspSend n 0x26 (BitVec.ofNat 8 code :: leBytes 0 7)).onConn n fun c => { c with closing := some (code, 2) }

/-- Closes a connection whose next PSN or RSN has reached 2^47 (R369). -/
def State.seqLimit (s : State) (n psn : Nat) : State :=
  let c := s.connAt n
  if c.state = 2 && (decide (2 ^ 47 ≤ c.txPsn) || decide (2 ^ 47 ≤ c.rsn) || decide (2 ^ 47 ≤ psn + 1)) then s.connClose n 0x21 else s

/-! ## The checks of R371 -/

/-- A packet counted as AUTH_FAIL. -/
def State.drlAuthFail (s : State) (n : Nat) : State := ((s.bump DRL_RX_CNT_AUTH_FAIL).raise wDRL 2 n).drlLast 3 0 n 0

/-- The ingress FIFO's fill and what follows from it: panic to every DRAM channel and pause frames on every Drill port
(R188, R381). -/
def State.drlFifo (s : State) (kib : Nat) : State :=
  let pct := fun p => decide (p * 4096 ≤ kib * 100)
  let panic := max 1 (min 100 (s.rd DRL_RX_PANIC_PCT))
  let pfc := max 20 (min 100 (s.rd DRL_RX_PFC_PCT))
  let s1 := s.wr DRL_STS_FIFO_KIB (min kib 4096)
  let s2 := if s.dr.drillPanic == pct panic then s1 else s1.setPanic .drill (pct panic)
  let ports := (List.range 8).filter s.drillPort
  let send := fun (t : State) (v : Bool) => ports.foldl (fun u p =>
    (u.emit (.pfc p (u.rd DRL_RX_PFC_PRIO) v)).bump (NPT_PFC_CNT_SENT p)) (t.wr DRL_STS_PFC (if v then 1 else 0))
  if s.on DRL_CTL_PFC_EN && pct pfc && !s.on DRL_STS_PFC then send s2 true
  else if s.on DRL_STS_PFC && (!pct (pfc - 10) || !s.on DRL_CTL_PFC_EN) then send s2 false
  else s2

/-- Steps 1 to 3 of R371 for a packet, a handshake packet where `hsk`; false where it goes no further. The ACK field of an
authenticated packet is taken. -/
def State.drlGate (s : State) (h : DrlHdr) (hsk : Bool) : State × Bool :=
  let n := h.conn.toNat
  let c := s.connAt n
  if !s.on DRL_CTL_ENABLE || !s.drillPort h.port || !s.portUp h.port then (s, false)
  else
    let s0 := (s.bump (NPT_MAC_CNT_RX_GOOD h.port)).drlFifo h.fifo.toNat
    if 4096 ≤ h.fifo.toNat then ((s0.bump DRL_RX_CNT_FIFO_FULL).raise wDRL 4 noSub, false)
    else if !(h.fmt && h.addr && c.state != 0 && c.paths.contains h.path.val && c.port h.path == h.port.val) then (s0.drlAuthFail n, false)
    else if !hsk && c.state = 1 then (s0.bump DRL_DROP_CNT_WINDOW, false)
    else if !(h.auth && s.ckeyed n) then (s0.drlAuthFail n, false)
    else if hsk then (s0.bump DRL_RX_CNT_PACKETS, true)
    else ((s0.bump DRL_RX_CNT_PACKETS).drlTake n h.ack.toNat [], true)

/-! ## Presentation (R374, R375) -/

/-- The slice of a byte range that lies in a line: byte mask and data. -/
def sliceLine (dpa : Nat) (data : List Byte) (line : Nat) : LMask × Line :=
  let lo := max dpa (64 * line)
  let hi := min (dpa + data.length) (64 * line + 64)
  (BitVec.ofNat 64 ((2 ^ (hi - lo) - 1) * 2 ^ (lo - 64 * line)),
    BitVec.ofNat 512 (ofBytes ((data.drop (lo - dpa)).take (hi - lo)) * 2 ^ (8 * (lo - 64 * line))))

/-- Has every earlier request of a FINAL packet's message completed? -/
def DConn.messageDone (c : DConn) (r : DReq) : Bool :=
  (List.range (min r.off (r.psn - 1))).all fun i => let p := r.psn - 1 - i; decide (p ≤ c.c) || c.done.contains p

/-- May a request be presented: in PSN order on an ORDERED connection, a FINAL packet after its message? -/
def DConn.mayPresent (c : DConn) (r : DReq) : Bool :=
  (c.relaxed || decide (r.psn ≤ c.next) || r.again) && (!r.final || c.messageDone r)

/-- DPA of an extension. -/
def DReq.dpa (r : DReq) : Nat := getBits r.ext.toNat 0 64
/-- LEN of an extension. -/
def DReq.len (r : DReq) : Nat := getBits r.ext.toNat 64 32

/-- Does a request keep the constraints of R362 and R363? -/
def DConn.wellFormed (c : DConn) (r : DReq) : Bool :=
  let top := getBits r.ext.toNat 96 32 == 0
  let dpa := decide (r.dpa < 2 ^ 46)
  match r.op with
  | .write => dpa && top && decide (1 ≤ r.len ∧ r.len ≤ c.maxpl) && r.data.length == r.len
  | .read => !r.final && dpa && top && r.dpa % 64 == 0 && r.len % 64 == 0 && decide (64 ≤ r.len ∧ r.len ≤ c.maxpl)
  | .atomic => dpa && top && r.dpa % 8 == 0 && decide (r.len < 3)
  | .job =>
    let k := getBits r.ext.toNat 16 16
    !r.final && decide (r.queue < 1024 ∧ 1 ≤ k ∧ k ≤ 64 ∧ k * 64 ≤ c.maxpl) && getBits r.ext.toNat 32 96 == 0 && r.data.length == k * 64
  | .jqRead => !r.final && decide (r.queue < 1024) && getBits r.ext.toNat 16 16 == 0 && decide (getBits r.ext.toNat 32 32 ≤ 1000000)
  | .mbx => !r.final && r.data.length == 64
  | .error => !r.final && getBits r.ext.toNat 16 112 == 0 && r.data.length == 8 * getBits r.ext.toNat 0 16

/-- A request runs as an operation over lines: kind, line, mask and data. -/
def State.drlRun (s : State) (n : Nat) (r : DReq) (ls : List (AccKind × Nat × LMask × Line)) (hold : Nat) : State :=
  let id := s.fab.nextId
  let o : MemOp := { id := id, left := ls.length, group := (s.connAt n).group, buf := r.buf, hold := hold }
  let s1 := (s.onFab fun f => { f with nextId := f.nextId + 1, ops := f.ops ++ [o] }).onConn n fun c =>
    { c with reqs := c.reqs.map fun x => if x == r then { x with phase := .run id, buf := none } else x }
  ls.foldl (fun t x => t.arrive { id := 0, src := .conn n id, kind := x.1, line := x.2.1, mask := x.2.2.1, data := x.2.2.2 }) s1

/-- Records of an ERROR packet: PSN and code. -/
def errRecs : List Byte → Nat → List (Nat × Nat)
  | _, 0 => []
  | l, k + 1 => (ofBytes (l.take 6), ofBytes ((l.drop 6).take 1)) :: errRecs (l.drop 8) k

/-- An ERROR packet of the endpoint: a PUSH that it did not place fails its job (R384, R405). -/
def State.drlErr (s : State) (n : Nat) (recs : List (Nat × Nat)) : State :=
  recs.foldl (fun t x =>
    let t1 := t.drlLast 1 x.2 n x.1
    match ((t1.connAt n).sent.find? fun p => p.psn == x.1).bind fun p => p.job with
    | some job => if x.2 = 0x10 then t1.onJob job fun j =>
        { j with status := (if j.status = 0 then 0x10 else j.status), stop := true, ended := true } else t1
    | none => t1) s

/-- Presents a request: its lines go to the home queues in ascending order, or it acts at once. -/
def State.drlPresent (s : State) (n : Nat) (r : DReq) : State :=
  let c := s.connAt n
  let s := s.onConn n fun c => { c with next := if r.psn = c.next then c.next + 1 else c.next }
  let free := fun (t : State) => (t.bufBack r.buf).onConn n fun c => { c with reqs := c.reqs.map fun x => if x == r then { x with buf := none } else x }
  let bare := { r with buf := none }
  if !c.wellFormed r then
    match r.op with
    | .read => s.answer n r 0x22 4 0 []
    | .atomic => (s.onConn n fun c => { c with atoms := ((r.psn, 4, 0) :: c.atoms).take 16 }).answer n r 0x23 4 0 []
    | .jqRead => s.answer n r 0x24 4 0 []
    | _ => (free s).reqFail n r.psn 4
  else
    match r.op with
    | .write =>
      let first := r.dpa / 64
      let k := (r.dpa + r.len - 1) / 64 - first + 1
      s.drlRun n r ((List.range k).map fun i => let x := sliceLine r.dpa r.data (first + i); (.write, first + i, x.1, x.2)) k
    | .read => s.drlRun n r ((List.range (r.len / 64)).map fun i => (.read, r.dpa / 64 + i, 0, 0)) 0
    | .atomic =>
      let x := BitVec.ofNat 64 (ofBytes (r.data.take 8))
      let y := BitVec.ofNat 64 (ofBytes ((r.data.drop 8).take 8))
      let kind : AccKind := match r.len with
        | 0 => .atomic .fetchAdd (r.dpa / 8 % 8) x y
        | 1 => .atomic .swap (r.dpa / 8 % 8) x y
        | _ => .atomic .compareSwap (r.dpa / 8 % 8) y x
      s.drlRun n r [(kind, r.dpa / 64, 0, 0)] 0
    | .job =>
      let t := free s
      let (t1, st) := t.jobAccept n r.queue r.psn (jobDescs r.data (getBits r.ext.toNat 16 16))
      if st = 0 then t1.reqDone n r.psn else t1.reqFail n r.psn st
    | .jqRead => (free s).jqRead n bare
    | .mbx => if c.control then s.drlMbx n r.psn else (free s).reqFail n r.psn 7
    | .error => ((free s).drlErr n (errRecs r.data (getBits r.ext.toNat 0 16))).reqDone n r.psn

/-! ## Receiving (R371 to R376) -/

/-- A request takes a Granary buffer and waits, or is dropped with NOBUF (R379). -/
def State.drlAccept (s : State) (n : Nat) (r : DReq) : State × Option DReq :=
  match s.grnAlloc (s.groupOwner (s.connAt n).group) with
  | (t, none) =>
    ((((t.bump DRL_DROP_CNT_NOBUF).raise wDRL 3 n).onConn n fun c => { c with ackNobuf := true }).ackDue n, none)
  | (t, some b) =>
    let q := { r with buf := some b }
    (t.onConn n fun c => { c with reqs := c.reqs ++ [q] }, some q)

/-- A duplicate is dropped. -/
def State.drlDup (s : State) (n : Nat) : State :=
  (s.bump DRL_DROP_CNT_DUP).onConn n fun c => { c with dup := min 65535 (c.dup + 1) }

/-- A sequenced packet (R371 steps 4 to 6, R372, R376). -/
def State.drlSeq (s : State) (h : DrlHdr) (op : DOp) (ext : BitVec 128) (data : List Byte) : State :=
  match s.drlGate h false with
  | (s1, false) => s1
  | (s1, true) =>
    let n := h.conn.toNat
    let psn := h.seq.toNat
    let c := s1.connAt n
    let r : DReq := { psn := psn, op := op, final := h.final, off := h.off.toNat, ext := ext, data := data, phase := if h.final then .final else .wait }
    let go := fun (t : State) (r : DReq) =>
      match t.drlAccept n r with
      | (u, none) => u
      | (u, some q) => if (u.connAt n).mayPresent q then ((u.drlPresent n q).exclTidy).settle else u
    let s2 :=
      if c.c + 65536 < psn then ((s1.bump DRL_DROP_CNT_WINDOW).onConn n fun c => { c with ackWindow := true }).ackDue n
      else if psn ≤ c.c || c.done.contains psn then
        match op with
        | .read | .jqRead =>
          if h.attempt = 0 then s1.drlDup n else go s1 { r with again := true, phase := .wait }
        | .atomic =>
          match c.atoms.find? fun a => a.1 == psn with
          | some (_, st, v) => (if st = 0 then s1 else s1.bump DRL_TX_CNT_ERRORS).rspSend n 0x23 (rspExt psn st v)
          | none => (s1.bump DRL_TX_CNT_ERRORS).rspSend n 0x23 (rspExt psn 5 0)
        | _ => (s1.drlDup n).ackDue n
      else if c.reqs.any fun x => x.psn == psn then s1.drlDup n
      else if h.final && c.reqs.any (fun x => x.phase == .final) then s1.bump DRL_DROP_CNT_FINAL_BUSY
      else go s1 r
    s2.seqLimit n psn

/-- DRL_WRITE (R363, R371 to R376). -/
def execDrlWrite (h : DrlHdr) (ext : BitVec 128) (data : List Byte) (s : State) : Res := .next (s.drlSeq h .write ext data)
/-- DRL_READ (R363, R372, R373, R384). -/
def execDrlRead (h : DrlHdr) (ext : BitVec 128) (s : State) : Res := .next (s.drlSeq h .read ext [])
/-- DRL_ATOMIC (R363, R372, R383). -/
def execDrlAtomic (h : DrlHdr) (ext : BitVec 128) (operand cmp : Word64) (s : State) : Res :=
  .next (s.drlSeq h .atomic ext (leBytes operand.toNat 8 ++ leBytes cmp.toNat 8))
/-- DRL_JOB (R398, R399, R406). -/
def execDrlJob (h : DrlHdr) (ext : BitVec 128) (descs : List Byte) (s : State) : Res := .next (s.drlSeq h .job ext descs)
/-- DRL_JQ_READ (R407). -/
def execDrlJqRead (h : DrlHdr) (ext : BitVec 128) (s : State) : Res := .next (s.drlSeq h .jqRead ext [])
/-- DRL_MBX_RECEIVE (R373, R454). -/
def execDrlMbxReceive (h : DrlHdr) (msg : List Byte) (s : State) : Res := .next (s.drlSeq h .mbx 0 msg)
/-- DRL_ERROR_RECEIVE (R373). -/
def execDrlErrorReceive (h : DrlHdr) (ext : BitVec 128) (recs : List Byte) (s : State) : Res := .next (s.drlSeq h .error ext recs)

/-- ORDERED_PRESENT (R374): a waiting packet follows once every lower PSN has been presented. -/
def execOrderedPresent (n : BitVec 12) (psn : BitVec 48) (s : State) : Res :=
  .next (
    match (s.connAt n.toNat).reqs.find? fun r => r.psn == psn.toNat && r.phase == .wait with
    | none => s
    | some r => if (s.connAt n.toNat).mayPresent r then ((s.drlPresent n.toNat r).exclTidy).settle else s)

/-- FINAL_PRESENT (R375): the packet in the final slot, once its message's earlier requests have completed. -/
def execFinalPresent (n : BitVec 12) (s : State) : Res :=
  .next (
    match (s.connAt n.toNat).reqs.find? fun r => r.phase == .final with
    | none => s
    | some r => if (s.connAt n.toNat).mayPresent r then ((s.drlPresent n.toNat r).exclTidy).settle else s)

/-! ## Acknowledgements and timers -/

/-- Retransmits a retained packet on every path (R380). -/
def State.drlRetx (s : State) (n psn : Nat) : State :=
  let s1 := (s.onConn n fun c => { c with sent := c.sent.map (fun p => if p.psn == psn then { p with attempt := min 255 (p.attempt + 1) } else p),
                                           retx := min 65535 (c.retx + 1) }).bump DRL_TX_CNT_RETX
  match (s1.connAt n).sent.find? fun p => p.psn == psn with
  | none => s
  | some p => s1.sentEmit n p

/-- DRL_ACK_RECEIVE (R364, R379, R380, R382, R404): covered packets are released, and those named by a NAK are sent again,
unless the endpoint asks for a pause. -/
def execDrlAckReceive (h : DrlHdr) (sacks naks : List (BitVec 48 × BitVec 16)) (nobuf : Bool) (s : State) : Res :=
  .next (
    match s.drlGate h false with
    | (s1, false) => s1
    | (s1, true) =>
      let n := h.conn.toNat
      let run := fun (l : List (BitVec 48 × BitVec 16)) => l.map fun x => (x.1.toNat, x.2.toNat + 1)
      let s2 := s1.drlTake n h.ack.toNat (run sacks)
      let again := if nobuf then [] else
        ((s2.connAt n).sent.filter fun p => (run naks).any fun r => decide (r.1 ≤ p.psn ∧ p.psn < r.1 + r.2)).map fun p => p.psn
      (again.foldl (fun t p => t.drlRetx n p) s2).seqLimit n 0)

/-- DRL_KEEPALIVE_RECEIVE (R370). -/
def execDrlKeepaliveReceive (h : DrlHdr) (s : State) : Res := .next (s.drlGate h false).1

/-- DRL_CLOSE_RECEIVE (R369, R396): the endpoint closed first. -/
def execDrlCloseReceive (h : DrlHdr) (reason : Byte) (s : State) : Res :=
  .next (
    match s.drlGate h false with
    | (s1, false) => s1
    | (s1, true) => (s1.connClosed h.conn.toNat reason.toNat).depScan)

/-- The clear payload of HELLO_RSP (R367). -/
def State.helloRsp (s : State) (n : Nat) : List Byte :=
  let c := s.connAt n
  leBytes s.serial 16 ++ leBytes c.nd.toNat 16 ++ [BitVec.ofNat 8 c.code] ++ leBytes 0 15

/-- DRL_HELLO_RECEIVE (R367). -/
def execDrlHelloReceive (h : DrlHdr) (id ne : BitVec 128) (code mode : Byte) (s : State) : Res :=
  .next (
    match s.drlGate h true with
    | (s1, false) => s1
    | (s1, true) =>
      let n := h.conn.toNat
      let c := s1.connAt n
      if c.state = 1 && h.path = 0 && h.seq = 1 && id.toNat == c.fld 64 16 && mode.toNat == c.fld 0 1 &&
          (match c.ne with | none => true | some x => x == ne) then
        let s2 := s1.onConn n fun c => { c with ne := some ne, code := (if c.ne.isSome then c.code else min 3 (min (c.fld 3 1) code.toNat)) }
        s2.drlEmit n 0 0x31 h.attempt.toNat 2 0 false (s2.helloRsp n)
      else s1.drlAuthFail n)

/-- DRL_CONFIRM_RECEIVE (R367, R368): both sides number their streams from 1. -/
def execDrlConfirmReceive (h : DrlHdr) (ne nd : BitVec 128) (s : State) : Res :=
  .next (
    match s.drlGate h true with
    | (s1, false) => s1
    | (s1, true) =>
      let n := h.conn.toNat
      let c := s1.connAt n
      if c.state = 1 && h.path = 0 && h.seq = 3 && c.ne == some ne && nd == c.nd then
        s1.onConn n fun c => { c with state := 2, c := 0, done := [], reqs := [], next := 1, atoms := [], txPsn := 1, rsn := 1 }
      else s1.drlAuthFail n)

/-- DRL_ACK_SEND (R378). -/
def execDrlAckSend (n : BitVec 12) (s : State) : Res :=
  .next (if (s.connAt n.toNat).state = 2 && (s.connAt n.toNat).ackWait then (s.drlAck n.toNat false).seqLimit n.toNat 0 else s)

/-- DRL_GAP_TIMER (R378). -/
def execDrlGapTimer (n : BitVec 12) (s : State) : Res :=
  .next (if (s.connAt n.toNat).state = 2 && !(s.connAt n.toNat).naks.isEmpty then (s.drlAck n.toNat true).seqLimit n.toNat 0 else s)

/-- DRL_RTO_EXPIRY (R369, R380). -/
def execDrlRtoExpiry (n : BitVec 12) (psn : BitVec 48) (s : State) : Res :=
  .next (
    match (s.connAt n.toNat).sent.find? fun p => p.psn == psn.toNat with
    | none => s
    | some p => if max 1 (s.rd DRL_TMR_RETRY_MAX) ≤ p.attempt then s.connClose n.toNat 0x20 else s.drlRetx n.toNat p.psn)

/-- DRL_IDLE_TIMEOUT (R369). -/
def execDrlIdleTimeout (n : BitVec 12) (s : State) : Res :=
  .next (if (s.connAt n.toNat).state = 2 then s.connClose n.toNat 0x20 else s)

/-- DRL_OPENING_TIMEOUT (R367). -/
def execDrlOpeningTimeout (n : BitVec 12) (s : State) : Res :=
  .next (if (s.connAt n.toNat).state = 1 then s.connClosed n.toNat 0x20 else s)

/-- DRL_KEEPALIVE_TIMER (R370). -/
def execDrlKeepaliveTimer (n : BitVec 12) (path : Fin 2) (s : State) : Res :=
  .next (if (s.connAt n.toNat).state = 2 && (s.connAt n.toNat).paths.contains path.val then (s.rspOn n.toNat [path.val] 0x25 []).seqLimit n.toNat 0 else s)

/-- DRL_CLOSE_REPEAT (R369): the second and third CLOSE; after the third the connection is CLOSED. -/
def execDrlCloseRepeat (n : BitVec 12) (s : State) : Res :=
  .next (
    match (s.connAt n.toNat).closing with
    | none => s
    | some (code, k) =>
      let s1 := s.rspSend n.toNat 0x26 (BitVec.ofNat 8 code :: leBytes 0 7)
      if k ≤ 1 then (s1.connClosed n.toNat code).depScan else s1.onConn n.toNat fun c => { c with closing := some (code, k - 1) })

/-! ## DRL_CONN_CMD (R365, R369, R392) -/

/-- The staging descriptor. -/
def State.drlStaged (s : State) : Nat := ((List.range 32).map fun i => s.rd (DRL_STG_DATA i) * 2 ^ (32 * i)).sum
/-- IP version of a port's descriptor. -/
def State.portIp (s : State) (p : Nat) : Nat := getBits (s.rd (DRL_PORTDESC_DATA (16 * p + 1))) 16 8

/-- The first check of R365 that fails, 0 for none. -/
def State.openCheck (s : State) (a : Agent) (n : Nat) (d : DConn) : Nat :=
  let used := s.bitOf (CPH_CUSED_BITS (n / 32)) (n % 32)
  let sec := s.bitOf (CPH_CSEC_BITS (n / 32)) (n % 32)
  let g := d.group
  let valid := decide (g < 64) && s.on (TIN_CGB_VALID g)
  if (s.connAt n).state != 0 then 1
  else if !s.ckeyed n || used || (valid && s.cgSecure g && !sec) then 5
  else if !valid then 4
  else if s.cgSecure g && !s.agentSecure a then 7
  else if d.control && !(decide (d.chan < 32) && s.chanSecure d.chan == s.cgSecure g) then 6
  else if !(d.paths.all fun k => s.drillPort (d.port k) && s.portIp (d.port k) == d.fld 7 1) || (d.dual && d.port 0 == d.port 1) then 3
  else 0

/-- OPEN: the connection takes the staged descriptor and enters OPENING. -/
def State.connOpen (s : State) (a : Agent) (n : Nat) : State × Nat :=
  let d : DConn := { desc := s.drlStaged }
  let r := s.openCheck a n d
  if r != 0 then (s, r)
  else
    let nd : BitVec 128 := (Config.freeLine s.fresh).setWidth 128
    let last := (s.connAt n).lastClose
    ((((s.onConn n fun _ => { d with state := 1, nd := nd, lastClose := last }).wrBit (CPH_CUSED_BITS (n / 32)) (n % 32) true).draw).showDrl, 0)

/-- A write of DRL_CONN_CMD with GO. -/
def State.connCmd (s : State) (a : Agent) (op n : Nat) : State :=
  if s.on DRL_CONN_STATUS_BUSY then s.ignored a DRL_CONN_CMD (2 ^ 31 + op * 2 ^ 24 + n)
  else
    let s1 := (s.wr DRL_CONN_CMD_OP op).wr DRL_CONN_CMD_CONN n
    let fin := fun (t : State) (r : Nat) => (t.wr DRL_CONN_STATUS_RESULT r).wr DRL_CONN_STATUS_CONN n
    match op with
    | 1 => let (t, r) := s1.connOpen a n; fin t r
    | 2 => if (s1.connAt n).state = 0 then fin s1 2 else fin (s1.connClose n 0x22) 0
    | 3 =>
      let c := s1.connAt n
      let bufs := (s1.fab.ops.filter fun o => c.reqs.any fun r => r.phase == .run o.id && o.buf.isSome).length +
        (c.reqs.filter fun r => r.buf.isSome).length + (c.sent.filter fun p => p.buf.isSome).length
      let s2 := ((s1.wr DRL_SNAP_STATE_STATE c.state).wr DRL_SNAP_STATE_LAST_CLOSE c.lastClose).wr DRL_SNAP_STATE_TX_PSN c.txPsn
      let s3 := (((s2.wr DRL_SNAP_SEQ_C c.c).wr DRL_SNAP_CNT_RETX c.retx).wr DRL_SNAP_CNT_DUP c.dup).wr DRL_SNAP_CNT_ERRORS c.errors
      fin (s3.wr DRL_SNAP_CNT_BUFFERS (min 65535 bufs)) 0
    | _ => s1

/-- CONN_OPEN (R365, R366). -/
def execConnOpen (a : Agent) (n : BitVec 12) (s : State) : Res :=
  .next (s.atReg a DRL_CONN_CMD (2 ^ 31 + 2 ^ 24 + n.toNat) fun t => t.connCmd a 1 n.toNat)

/-- CONN_CLOSE_OP (R369). -/
def execConnCloseOp (a : Agent) (n : BitVec 12) (s : State) : Res :=
  .next (s.atReg a DRL_CONN_CMD (2 ^ 31 + 2 ^ 25 + n.toNat) fun t => t.connCmd a 2 n.toNat)

/-- CONN_SNAPSHOT (R392). -/
def execConnSnapshot (a : Agent) (n : BitVec 12) (s : State) : Res :=
  .next (s.atReg a DRL_CONN_CMD (2 ^ 31 + 3 * 2 ^ 24 + n.toNat) fun t => t.connCmd a 3 n.toNat)

/-- A write of DRL_CTL (R393): a port removed from PORTS closes the connections that use it. -/
def State.writeDrlCtl (s : State) (v : Nat) : State :=
  let s1 := ((s.wr DRL_CTL_ENABLE (getBits v 31 1)).wr DRL_CTL_PFC_EN (getBits v 8 1)).wr DRL_CTL_PORTS (getBits v 0 6)
  let gone := (List.range 6).filter fun p => s.bitOf DRL_CTL_PORTS p && !s1.bitOf DRL_CTL_PORTS p
  (s.dl.conns.filter fun x => x.2.state != 0 && x.2.paths.any fun k => gone.contains (x.2.port k)).foldl (fun t x => t.connClose x.1 0x22) s1

/-- DRILL_PORT_REMOVE (R393). -/
def execDrillPortRemove (a : Agent) (v : BitVec 32) (s : State) : Res := .next (s.atReg a DRL_CTL v.toNat fun t => t.writeDrlCtl v.toNat)

end Sys2Proof.Machine
end

