-- ==== Sys2Proof/Machine/NcCmds.lean ====
section
/-!
DEFINITION. Machine/NcCmds.lean: the events of the near-cache banks and the writes to their control registers (R155 to
R175).
-/
namespace Sys2Proof.Machine
open Sys2Proof

/-- The data of a line as DRAM holds it now, or none where its page has no frame. -/
def State.dramData (s : State) (line : Nat) : Option Line :=
  let e := s.tierOf (pageOf line)
  match e.frame with
  | none => none
  | some f => if e.state.inDram then some (s.frameLine f line (s.rgnKey e.region)) else none

/-- The reads of a miss entry whose data cannot be had go back to the tier-map entry. -/
def State.missRetry (s : State) (m : MissEnt) : State :=
  m.reads.foldl (fun t id => match t.reqOf id with
    | none => t
    | some r => t.onEntry { r with fill := false })
    (s.onNc (bankOfLine m.line) fun k => { k with miss := k.miss.filter fun x => !(x == m) })

/-- MISS_FILL_RETURN (R155, R157): the data that a demand fill waits for serves the reads that joined it. A prefetch that a
read joined is a demand fill (R163). -/
def execMissFillReturn (line : BitVec 40) (s : State) : Res :=
  .next (
    match (s.ncOf (bankOfLine line.toNat)).miss.find? fun m => m.line == line.toNat && !m.prefetch &&
        (m.data.isSome || m.reads.all fun id => match s.reqOf id with | none => true | some r => r.phase == .joined) with
    | none => s
    | some m =>
      match m.data with
      | some (d, p) => ((s.missFill line.toNat m d p true true).exclTidy).settle
      | none =>
        match s.dramData line.toNat with
        | some d => ((s.missFill line.toNat m d false true true).exclTidy).settle
        | none => ((s.missRetry m).exclTidy).settle)

/-- PREFETCH_RETURN (R157, R163): an unkilled prefetch enters the side buffer. -/
def execPrefetchReturn (line : BitVec 40) (s : State) : Res :=
  .next (
    let b := bankOfLine line.toNat
    match (s.ncOf b).miss.find? fun m => m.line == line.toNat && m.prefetch with
    | none => s
    | some m =>
      let s1 := s.onNc b fun k => { k with miss := k.miss.filter fun x => !(x == m) }
      match s.dramData line.toNat with
      | some d => if m.killed || m.noInstall || !s.ncOn b then s1 else s1.sbInstall b line.toNat d
      | none => s1)

/-- A write of GO in NCH_INV_CTL: firmware's range invalidation (R165, R174). -/
def State.writeInvGo (s : State) (a : Agent) (v : Nat) : State :=
  if s.on NCH_INV_CTL_BUSY then s.ignored a NCH_INV_CTL v
  else (s.wr NCH_INV_CTL_BUSY 1).invIssue ⟨s.rd NCH_INV_BASE_PAGE, max 1 (s.rd NCH_INV_LEN_PAGES), .firmware⟩

/-- A write of ALL in NCH_INV_CTL (R167). -/
def State.writeInvAll (s : State) : State := (s.wr NCH_INV_CTL_BUSY 1).ncClearAll

/-- RANGE_INVALIDATE (R165). -/
def execRangeInvalidate (a : Agent) (s : State) : Res :=
  .next (s.atReg a NCH_INV_CTL (2 ^ 31) fun t => t.writeInvGo a (2 ^ 31))

/-- WHOLE_CACHE_INVALIDATE (R167). -/
def execWholeCacheInvalidate (a : Agent) (s : State) : Res :=
  .next (s.atReg a NCH_INV_CTL (2 ^ 30) fun t => t.writeInvAll)

/-- Pages on their way into POISONED see their invalidation end (R239 step 2). -/
def State.poisonInvEnded (s : State) : State :=
  let f := fun (q : Poisoning) => if s.invPending (.poison q.page) then q else { q with invEnded := true }
  s.onWin fun w => { w with poisoning := w.poisoning.map f }

/-- RANGE_INV_END (R165). -/
def execRangeInvEnd (b : Fin 16) (s : State) : Res :=
  .next (((s.invEnd b).poisonInvEnded).invBusy)

/-- ZERO_SWEEP_END (R167). -/
def execZeroSweepEnd (b : Fin 16) (s : State) : Res :=
  .next ((s.onNc b fun k => { k with sweeping := false }).invBusy)

/-- A write of CACHE_EN (R174). -/
def State.writeCacheEn (s : State) (b : Nat) (on : Bool) : State :=
  let s1 := s.wr (NCH_CTL_CACHE_EN b) (if on then 1 else 0)
  if on then s1 else (s1.ncClear b).ncKill b fun _ => true

/-- CACHE_EN_WRITE (R174). -/
def execCacheEnWrite (a : Agent) (b : Fin 16) (on : Bool) (s : State) : Res :=
  .next (s.atReg a (NCH_CTL b) (if on then 1 else 0) fun t => t.writeCacheEn b on)

/-- A write of FENCE in NCH_FENCE_CTL (R169). -/
def State.writeNcFence (s : State) (b : Nat) : State := if s.on (UNIT_FENCED (wNCH b)) then s else s.ncFence b false

/-- A write of UNFENCE in NCH_FENCE_CTL (R174): back in service with every line invalid. -/
def State.writeNcUnfence (s : State) (b : Nat) : State :=
  if s.on (UNIT_FENCED (wNCH b)) then ((s.wr (UNIT_FENCED (wNCH b)) 0).ncClear b).fenceRec (wNCH b) 2 false noSub 0xFF 0 else s

/-- NC_BANK_FENCE (R169, R170). -/
def execNcBankFence (a : Agent) (b : Fin 16) (s : State) : Res :=
  .next (s.atReg a (NCH_FENCE_CTL b) 1 fun t => t.writeNcFence b)

/-- NC_BANK_UNFENCE (R174). -/
def execNcBankUnfence (a : Agent) (b : Fin 16) (s : State) : Res :=
  .next (s.atReg a (NCH_FENCE_CTL b) 2 fun t => t.writeNcUnfence b)

/-- A write of NCH_WAYDIS_i (R169, R174, R175): the way or entry it disables, or lets back, holds nothing. -/
def State.writeWaydis (s : State) (b i v : Nat) : State :=
  let v' := v % 2 ^ 32
  let hadV := s.on (NCH_WAYDIS_VALID b i)
  let s1 := s.wrW (NCH_WAYDIS b i) (BitVec.ofNat 64 (v' - getBits v' 20 10 * 2 ^ 20 - getBits v' 14 2 * 2 ^ 14))
  let s2 := s1.onNc b fun k =>
    if s1.on (NCH_WAYDIS_VALID b i) then
      if s1.on (NCH_WAYDIS_SB b i) then { k with sb := k.sb.filter fun e => e.slot != s1.rd (NCH_WAYDIS_SET b i) }
      else { k with ways := k.ways.filter fun e => !(e.set == s1.rd (NCH_WAYDIS_SET b i) && e.way == s1.rd (NCH_WAYDIS_WAY b i)) }
    else k
  let s3 := ((s2.wr (NCH_STS_WAYDIS_USED b) (s2.waydisUsed b)).wr (UNIT_DEGRADED (wNCH b)) (if s2.waydisUsed b = 0 then 0 else 1)).showNc b
  if hadV && !s3.on (NCH_WAYDIS_VALID b i) then s3.fenceRec (wNCH b) 2 false i 0xFF 0 else s3

end Sys2Proof.Machine
end

