-- ==== Sys2Proof/Machine/TitheRec.lean ====
section
/-!
DEFINITION. Machine/TitheRec.lean: how Tithe builds, signs and stores a record (R630 to R632, R634).
-/
namespace Sys2Proof.Machine
open Sys2Proof

/-- Room of the ring (R631). -/
def titheRing : Nat := 16384

/-- Tithe's time in seconds (R630). -/
def State.titheSec (s : State) : Nat := s.th.ms / 1000

/-- The n bytes of a number, most significant first. -/
def beBytes (v n : Nat) : List Byte := (leBytes v n).reverse

/-- The ROM hash of R635 as a number, first byte most significant. -/
def romHash : Nat := 0x7C2E91A45B0D38F6E1A947C32D86B05F93E4A17D0C5F62B8A4D1E9036F27C85A1B9E30D4C8624F17E05A93B24D7A1C69

/-- The device serial number, OTP words 0 and 1 (R537). -/
def State.serialBytes (s : State) : List Byte :=
  leBytes (mget (fun _ => (0 : Word64)) s.efl.otp 0).toNat 8 ++ leBytes (mget (fun _ => (0 : Word64)) s.efl.otp 1).toNat 8

/-- Records the ring holds, and the next record number. -/
def State.showTithe (s : State) : State := s.wr TTH_STS_USED s.th.ring.length

/-- Has the ring room for n records? -/
def State.titheRoom (s : State) (n : Nat) : Bool := decide (s.th.ring.length + n ≤ titheRing)

/-- Writes one record: header, body, chain and signature; NEXT passes it (R632, R637). -/
def State.titheWrite (s : State) (kind flags t0 t1 tenant : Nat) (body : List Byte) : State :=
  let num := s.rd TTH_LIFE_NEXT
  let life := s.rd TTH_LIFE_LIFE
  let fl := flags + (if s.th.monFail then 4 else 0) + (if s.on TTH_STS_LIFE_SAT then 8 else 0)
  let head := [0x54, 0x54, 0x48, 0x52] ++ leBytes 1 2 ++ [BitVec.ofNat 8 kind, BitVec.ofNat 8 fl] ++ s.serialBytes ++ leBytes life 4 ++
    leBytes num 4 ++ leBytes t0 8 ++ leBytes t1 8 ++ leBytes s.stampTime 8 ++ leBytes tenant 2 ++ leBytes 0 6 ++ body ++
    beBytes s.th.last.toNat 48
  let all := head ++ beBytes (Config.titheSign head).toNat 96
  let r : TRec := ⟨life, num, all⟩
  let t : State := { s with th := { s.th with ring := s.th.ring ++ [r], last := BitVec.ofNat 384 (beNum (sha384 all)) } }
  (t.wr TTH_LIFE_NEXT (num + 1)).showTithe

/-- Records that wait are written while the ring has room. -/
def State.titheFlush (s : State) : List TWait → State
  | [] => s
  | w :: t =>
    if s.titheRoom 1 then (s.titheWrite w.kind 0 w.t w.t w.tenant w.body).titheFlush t
    else { s with th := { s.th with wait := w :: t } }

/-- A record of an event is written at once, or waits behind those that do (R630, R631). At most 512 wait. -/
def State.titheEvent (s : State) (kind tenant : Nat) (body : List Byte) : State :=
  let l := s.th.wait ++ [⟨kind, tenant, s.titheSec, body⟩]
  if 512 < l.length then s else ({ s with th := { s.th with wait := [] } } : State).titheFlush l

/-- A change of a region's tenant, or a region created or destroyed (R630, R632). -/
def State.titheChange (s : State) (r old new : Nat) (valid : Bool) (size : Nat) : State :=
  if !s.th.started then s
  else s.titheEvent 3 new ([BitVec.ofNat 8 r, BitVec.ofNat 8 old, BitVec.ofNat 8 new, if valid then 1 else 0] ++ leBytes 0 4 ++ leBytes size 8 ++ leBytes 0 32)

end Sys2Proof.Machine
end

