-- ==== Sys2Proof/Machine/Regions.lean ====
section
/-!
DEFINITION. Machine/Regions.lean: the region table and its operations (R44 to R50, R63 to R75), the release of a range
(R69), the loads that a pin starts (R227), and the Dynamic Capacity events that a commit owes (R97).
-/
namespace Sys2Proof.Machine
open Sys2Proof

/-! ## Dynamic Capacity (R95 to R97) -/

/-- The extents of a range of GiB, cut at the boundaries of 8 TiB (R96). -/
def dcExtents (region base size : Nat) (write : Bool) : List Extent :=
  (List.range 8).filterMap fun k =>
    let lo := max base (k * 8192)
    let hi := min (base + size) ((k + 1) * 8192)
    if lo < hi then some ⟨region, lo, hi - lo, write, false⟩ else none

/-- Owes an event to an LD index. -/
def State.owe (s : State) (n : Nat) (l : List DcEvent) : State :=
  { s with hp := { s.hp with owed := s.hp.owed ++ l.map fun e => (n, e) } }

/-- The events a change of a region's owner masks owes (R97). -/
def State.oweChange (s : State) (r base size oldRd oldWr newRd newWr : Nat) : State :=
  (List.range 64).foldl (fun t n =>
    let ex := dcExtents r base size (newWr.testBit n)
    if newRd.testBit n && !oldRd.testBit n then t.owe n (ex.map .add)
    else if oldRd.testBit n && !newRd.testBit n then t.owe n (ex.map .forcedRelease)
    else if newRd.testBit n && (oldWr.testBit n != newWr.testBit n) then t.owe n (ex.map .configUpdated)
    else t) s

/-! ## Loads of pinned pages (R227) -/

/-- Is the page one that a pin keeps in DRAM? -/
def State.kept (s : State) (p : Nat) : Bool :=
  let e := s.tierOf p
  e.pinned || (s.rgnPinned e.region && s.rgnValid e.region)

/-- Pinned pages of the region that still lie in flash only. -/
def State.toLoad (s : State) (r : Nat) : List Nat :=
  (s.win.tier.filter fun e => e.2.state == .flashOnly && e.2.region == r && s.kept e.1).map fun e => e.1

/-- Promotions of pinned pages start while move slots are free and the region is below its ceiling. -/
def State.loadPins (s : State) (r : Nat) : State :=
  (s.toLoad r).foldl (fun t p =>
    if t.slotFree false && !(t.tierOf p).migrating && t.belowCeil r then
      (t.addMove { kind := .promotion, page := p }).furRead p .promote
    else t) s

/-- LOADING is set and the loads begin. -/
def State.startLoad (s : State) (r : Nat) : State :=
  if (s.toLoad r).isEmpty then s else (s.wr (WIN_RGN_POL_LOADING r) 1).loadPins r

/-! ## Operations on the region table -/

/-- Copies the owner masks, staging to live. -/
def State.copyMasks (s : State) (r : Nat) : State :=
  (((s.wr (TIN_RGN_LDRD_MASK r) (s.rd TIN_STG_LDRD_MASK)).wr (TIN_RGN_LDWR_MASK r) (s.rd TIN_STG_LDWR_MASK)).wr
    (TIN_RGN_CGRD_MASK r) (s.rd TIN_STG_CGRD_MASK)).wr (TIN_RGN_CGWR_MASK r) (s.rd TIN_STG_CGWR_MASK)

/-- LOAD (R65): the live entry into staging, without VALID and RELEASING. -/
def State.rgnLoad (s : State) (r : Nat) : State :=
  let attr := putBits (s.rdW (TIN_RGN_ATTR r)).toNat 30 2 0
  ((((((s.wrW TIN_STG_EXT (s.rdW (TIN_RGN_EXT r))).wrW TIN_STG_ATTR (BitVec.ofNat 64 attr)).wr TIN_STG_LDRD_MASK
    (s.rd (TIN_RGN_LDRD_MASK r))).wr TIN_STG_LDWR_MASK (s.rd (TIN_RGN_LDWR_MASK r))).wr TIN_STG_CGRD_MASK
    (s.rd (TIN_RGN_CGRD_MASK r))).wr TIN_STG_CGWR_MASK (s.rd (TIN_RGN_CGWR_MASK r)))

/-- The result of a COMMIT to region r by an agent that is secure or not: 0, or the first cause in the order of R73. -/
def State.commitResult (s : State) (secure : Bool) (r : Nat) : Nat :=
  let base := s.rd TIN_STG_EXT_BASE_GIB
  let size := s.rd TIN_STG_EXT_SIZE_M1 + 1
  let slot := s.rd TIN_STG_ATTR_KEY_SLOT
  let w := s.on TIN_STG_ATTR_WORLD
  let valid := s.rgnValid r
  let pin := s.on TIN_STG_ATTR_PLACE && !(valid && s.rgnPinned r)
  let own := if valid then s.rd (WIN_RGN_RES_PINNED r) else 0
  if !s.locked then 0xC
  else if !secure && (s.secureRegion r || w) then 8
  else if s.rgnReleasing r then 7
  else if s.rd TIN_DPA_LIMIT_CAP_GIB ≤ base || decide (s.rd TIN_DPA_LIMIT_CAP_GIB < base + size) ||
      s.rd TIN_STG_ATTR_CLASS == 3 then 2
  else if s.rdW TIN_STG_LDWR &&& ~~~ s.rdW TIN_STG_LDRD != 0 || s.rdW TIN_STG_CGWR &&& ~~~ s.rdW TIN_STG_CGRD != 0 then 0xA
  else if valid && (base != s.rgnBase r || size != s.rgnSize r || w != s.rgnSecure r ||
      slot != s.rd (TIN_RGN_ATTR_KEY_SLOT r)) then 3
  else if (List.range 256).any fun x => x != r && (s.rgnValid x || s.rgnReleasing x) &&
      decide (base < s.rgnBase x + s.rgnSize x ∧ s.rgnBase x < base + size) then 1
  else if !valid && s.slotSecure slot != w then 5
  else if !valid && !s.keyLoaded slot then 4
  else if pin && decide (s.framesAvail < s.pinTotal - own + size * 262144) then 6
  else 0

/-- Reports a refused or finished operation at once. -/
def State.rgnResult (s : State) (r result : Nat) : State :=
  (s.wr TIN_RGN_STATUS_REGION r).wr TIN_RGN_STATUS_RESULT result

/-- The switch point (R63, R67): the requests checked so far run under the old entry; BUSY stays 1 until they end. -/
def State.switchPoint (s : State) (r : Nat) (destroy : Bool) : State :=
  let old := (s.fab.act.filter fun q => q.region == r).map fun q => q.id
  ((s.onFab fun f => { f with rgnOp := some ⟨r, old, destroy⟩ }).wr TIN_RGN_STATUS_REGION r).wr TIN_RGN_STATUS_BUSY 1

/-- A performed COMMIT at its switch point (R65, R227, R630). -/
def State.rgnCommit (s : State) (r : Nat) : State :=
  let valid := s.rgnValid r
  let oldRd := if valid then s.rd (TIN_RGN_LDRD_MASK r) else 0
  let oldWr := if valid then s.rd (TIN_RGN_LDWR_MASK r) else 0
  let oldT := if valid then s.rd (TIN_RGN_ATTR_TENANT r) else 0
  let newT := s.rd TIN_STG_ATTR_TENANT
  let newPin := s.on TIN_STG_ATTR_PLACE && !(valid && s.rgnPinned r)
  let attr := putBits (s.rdW TIN_STG_ATTR).toNat 30 2 2
  let s1 := (((s.switchPoint r false).wrW (TIN_RGN_EXT r) (s.rdW TIN_STG_EXT)).wrW (TIN_RGN_ATTR r) (BitVec.ofNat 64 attr)).copyMasks r
  let s2 := s1.oweChange r (s1.rgnBase r) (s1.rgnSize r) oldRd oldWr (s1.rd (TIN_RGN_LDRD_MASK r)) (s1.rd (TIN_RGN_LDWR_MASK r))
  let s3 := if !valid || oldT != newT then s2.titheChange r oldT newT true (s2.rgnSize r) else s2
  (if newPin then s3.startLoad r else s3).showPins

/-- A performed DESTROY at its switch point (R65, R69). -/
def State.rgnDestroy (s : State) (r : Nat) : State :=
  let s1 := ((s.switchPoint r true).wr (TIN_RGN_ATTR_VALID r) 0).wr (TIN_RGN_ATTR_RELEASING r) 1
  let s2 := s1.oweChange r (s1.rgnBase r) (s1.rgnSize r) (s1.rd (TIN_RGN_LDRD_MASK r)) (s1.rd (TIN_RGN_LDWR_MASK r)) 0 0
  (s2.titheChange r (s2.rd (TIN_RGN_ATTR_TENANT r)) 0 false (s2.rgnSize r)).showPins

/-- The result of a DESTROY. -/
def State.destroyResult (s : State) (secure : Bool) (r : Nat) : Nat :=
  if !secure && s.secureRegion r then 8
  else if s.rgnReleasing r then 7
  else if !s.rgnValid r then 0xB
  else 0

/-- Combining-buffer lines of a range that are HELD are discarded without being drained (R69). -/
def State.discardCb (s : State) (base len : Nat) : State :=
  (s.fab.cb.filter fun l => decide (base ≤ pageOf l.line ∧ pageOf l.line < base + len) && l.twin == 0).foldl
    (fun t l => ((t.cbDrop l.line).altMode l.line .shared).altTidy) s

/-- First page and pages of a region's range. -/
def State.rgnPages (s : State) (r : Nat) : Nat × Nat := (s.rgnBase r * 262144, s.rgnSize r * 262144)

/-- A release starts (R69): buffered lines go, the range is invalidated. -/
def State.startRelease (s : State) (r : Nat) : State :=
  let (b, n) := s.rgnPages r
  ((s.onFab fun f => { f with releasing := f.releasing ++ [r] }).discardCb b n).invIssue ⟨b, n, .release r⟩

/-- The pages of a range that Winnow or Furrow holds something of. -/
def State.pagesIn (s : State) (b n : Nat) : List Nat :=
  ((s.win.tier.map fun e => e.1) ++ (s.fur.map.map fun e => e.1)).filter fun p => decide (b ≤ p ∧ p < b + n)

/-- Ends a release: every page of the range is UNWRITTEN, the live entry takes its reset value (R69). -/
def State.endRelease (s : State) (r : Nat) : State :=
  let (b, n) := s.rgnPages r
  let s1 := (s.pagesIn b n).foldl (fun t p => t.releasePage p) s
  let s2 := [TIN_RGN_EXT r, TIN_RGN_ATTR r, TIN_RGN_LDRD r, TIN_RGN_LDWR r, TIN_RGN_CGRD r, TIN_RGN_CGWR r].foldl
    (fun t k => t.wrW k (csrDefault k)) s1
  ((s2.onFab fun f => { f with releasing := f.releasing.filter fun x => x != r }).showPins).showFrames

/-! ## The commands -/

/-- A write of TIN_DPA_LIMIT (R45, R74). -/
def State.writeDpaLimit (s : State) (a : Agent) (v : Nat) : State :=
  if (List.range 256).any fun r => s.rgnValid r || s.rgnReleasing r then s.ignored a TIN_DPA_LIMIT v
  else ((s.wr TIN_DPA_LIMIT_CAP_GIB (min 65536 (v % 131072))).showFrames).showPins

/-- A write of TIN_CHK_LAST (R58). -/
def State.writeChkLast (s : State) (a : Agent) (v : Nat) : State :=
  if !s.agentSecure a && s.on TIN_CHK_LAST_VALID && decide (3 ≤ s.rd TIN_CHK_LAST_REASON) && s.secureRegion (s.rd TIN_CHK_LAST_REGION) then
    s.badAccess a true true 5 TIN_CHK_LAST (BitVec.ofNat 64 v)
  else if v.testBit 63 then s.wr TIN_CHK_LAST_VALID 0
  else s

/-- A write of TIN_RGN_COMMIT (R64, R65, R73). -/
def State.writeRgnCommit (s : State) (a : Agent) (op r : Nat) : State :=
  let v := op * 256 + r
  if s.on TIN_RGN_STATUS_BUSY then s.ignored a TIN_RGN_COMMIT v
  else if op = 0 then s
  else if op = 1 then
    if !s.agentSecure a && s.secureRegion r then s.rgnResult r 8 else (s.rgnLoad r).rgnResult r 0
  else if op = 2 then
    match s.commitResult (s.agentSecure a) r with
    | 0 => s.rgnCommit r
    | n => s.rgnResult r n
  else
    match s.destroyResult (s.agentSecure a) r with
    | 0 => s.rgnDestroy r
    | n => s.rgnResult r n

/-- DPA_LIMIT_WRITE (R45). -/
def execDpaLimitWrite (a : Agent) (v : BitVec 32) (s : State) : Res :=
  .next (s.atReg a TIN_DPA_LIMIT v.toNat fun t => t.writeDpaLimit a v.toNat)

/-- WORLD_LOCK_SET (R56, R57). -/
def execWorldLockSet (a : Agent) (s : State) : Res :=
  .next (s.atReg a TIN_WORLD_LOCK 1 fun t => t.wr TIN_WORLD_LOCK_LOCK 1)

/-- CHK_LAST_CLEAR (R58). -/
def execChkLastClear (a : Agent) (s : State) : Res :=
  .next (s.atReg a TIN_CHK_LAST (2 ^ 63) fun t => t.writeChkLast a (2 ^ 63))

/-- RGN_OP_NONE (R65): no effect; refused like any operation while BUSY is 1 (R64). -/
def execRgnOpNone (a : Agent) (r : Fin 256) (s : State) : Res :=
  .next (s.atReg a TIN_RGN_COMMIT r fun t => t.writeRgnCommit a 0 r)

/-- RGN_LOAD (R65). -/
def execRgnLoad (a : Agent) (r : Fin 256) (s : State) : Res :=
  .next (s.atReg a TIN_RGN_COMMIT (256 + r) fun t => t.writeRgnCommit a 1 r)

/-- RGN_COMMIT (R65, R66, R73). -/
def execRgnCommit (a : Agent) (r : Fin 256) (s : State) : Res :=
  .next (s.atReg a TIN_RGN_COMMIT (512 + r) fun t => t.writeRgnCommit a 2 r)

/-- RGN_DESTROY (R65, R69). -/
def execRgnDestroy (a : Agent) (r : Fin 256) (s : State) : Res :=
  .next (s.atReg a TIN_RGN_COMMIT (768 + r) fun t => t.writeRgnCommit a 3 r)

/-- RGN_DRAIN_END (R68, R69): once every request checked under the old entry has ended. -/
def execRgnDrainEnd (s : State) : Res :=
  .next (
    match s.fab.rgnOp with
    | none => s
    | some o =>
      if s.fab.act.any fun q => o.old.contains q.id then s
      else
        let s1 := ((s.onFab fun f => { f with rgnOp := none }).wr TIN_RGN_STATUS_RESULT 0).wr TIN_RGN_STATUS_BUSY 0
        if o.destroy then s1.startRelease o.region else s1)

/-- RGN_RELEASE_END (R69): the oldest release ends once its invalidation has ended and no buffered line of it is left. -/
def execRgnReleaseEnd (s : State) : Res :=
  .next (
    match s.fab.releasing with
    | [] => s
    | r :: _ =>
      let (b, n) := s.rgnPages r
      let s1 := s.discardCb b n
      if s1.invPending (.release r) || s1.fab.cb.any fun l => decide (b ≤ pageOf l.line ∧ pageOf l.line < b + n) then s1
      else (s1.endRelease r).settle)

end Sys2Proof.Machine
end

