-- ==== Sys2Proof/Machine/FurOps.lean ====
section
/-!
DEFINITION. Machine/FurOps.lean: Furrow's operations (chapter 08): locations, superblocks and stripes (R252 to R256),
writing a slot (R259), captured reads (R268), the states it shows, blocks and LUNs that go out of service (R271 to R274),
the wear governor (R275 to R277).
-/
namespace Sys2Proof.Machine
open Sys2Proof

/-- Changes Furrow. -/
def State.onFur (s : State) (f : Furrow → Furrow) : State := { s with fur := f s.fur }

/-! ## Geometry (R246, R253 to R256) -/

/-- LUN of a location. -/
def locLun (l : Nat) : Nat := l / 2 ^ 29 % 512
/-- Block of a location. -/
def locBlk (l : Nat) : Nat := l / 2 ^ 15 % 16384
/-- Page of a location. -/
def locPage (l : Nat) : Nat := l / 4 % 8192
/-- Planes of a LUN. -/
def State.planes (s : State) : Nat := if s.on FUR_GEOM_PLANES then 4 else 2
/-- Superblock of a location: (CE position × 4 + LUN position) × 16384 + block group. -/
def State.sbOf (s : State) (l : Nat) : Nat := locLun l % 16 * 16384 + locBlk l / s.planes
/-- LUN positions: chip enables × LUNs. -/
def State.lunPos (s : State) : List Nat :=
  (List.range 16).filter fun i => decide (i / 4 ≤ s.rd FUR_GEOM_CE_M1 ∧ i % 4 ≤ s.rd FUR_GEOM_LUN_M1)
/-- Bits per cell. -/
def State.bpc (s : State) : Nat := if s.rd FUR_GEOM_BPC = 0 then 3 else 4
/-- Spare blocks of a plane of a LUN (R254). -/
def State.sparesPerPlane (s : State) : Nat := s.rd FUR_GEOM2_BLOCKS / s.planes * 2 / 100
/-- Block groups of a LUN position that make superblocks. -/
def State.groups (s : State) : Nat := s.rd FUR_GEOM2_BLOCKS / s.planes - s.sparesPerPlane
/-- Superblocks in all. -/
def State.sbTotal (s : State) : Nat := s.lunPos.length * s.groups
/-- Is the superblock one of the RESERVE? They are the lowest ones. -/
def State.sbReserve (s : State) (sb : Nat) : Bool := decide (s.lunPos.idxOf (sb / 16384) * s.groups + sb % 16384 < s.fur.reserve)
/-- Is it a superblock of the format at all? -/
def State.sbExists (s : State) (sb : Nat) : Bool := s.lunPos.contains (sb / 16384) && decide (sb % 16384 < s.groups)
/-- A superblock. -/
def State.sbAt (s : State) (sb : Nat) : FSuper := mget (fun _ => ({} : FSuper)) s.fur.sbs sb
/-- Changes a superblock. -/
def State.modSb (s : State) (sb : Nat) (f : FSuper → FSuper) : State :=
  s.onFur fun u => { u with sbs := mset (fun _ => ({} : FSuper)) u.sbs sb (f (mget (fun _ => ({} : FSuper)) u.sbs sb)) }
/-- Is the channel ACTIVE? -/
def State.fchUp (s : State) (c : Nat) : Bool := s.rd (FUR_CH_STS_STATE c) == 3
/-- Is the LUN in service? -/
def State.lunUp (s : State) (lun : Nat) : Bool := s.fchUp (lun / 16) && s.bitOf (FUR_CH_STS_LUNS_UP (lun / 16)) (lun % 16)
/-- Channels whose LUN at the superblock's position is in service. -/
def State.sbMembers (s : State) (sb : Nat) : List Nat := (List.range 32).filter fun c => s.lunUp (c * 16 + sb / 16384)
/-- Channels of the members that a superblock is built of: those it was opened with, or, of a FREE one, those in service (R253,
R272). -/
def State.sbBuilt (s : State) (sb : Nat) : List Nat := if (s.sbAt sb).role == .free then s.sbMembers sb else (s.sbAt sb).members
/-- Its members in service. -/
def State.sbLive (s : State) (sb : Nat) : List Nat := (s.sbBuilt sb).filter fun c => s.lunUp (c * 16 + sb / 16384)
/-- Its members whose blocks can be read: in service, and not erased by an unfence since (R274). -/
def State.sbReadable (s : State) (sb : Nat) : List Nat := (s.sbLive sb).filter fun c => !(s.sbAt sb).gone.contains c
/-- The location of a slot by channel, superblock, plane, page and slot. -/
def State.locAt (s : State) (c sb plane page slot : Nat) : Nat :=
  (c * 16 + sb / 16384) * 2 ^ 29 + (sb % 16384 * s.planes + plane) * 2 ^ 15 + page * 4 + slot
/-- The channel that holds the parity of a page row (R253): of a narrower stripe the next member's. -/
def parityChan (mem : List Nat) (sb page : Nat) : Nat :=
  (((List.range 32).map fun i => (page + sb % 16384 + i) % 32).find? mem.contains).getD 32

/-! ## What Furrow shows -/

/-- FREE superblocks: those of the native pool with no role. -/
def State.freeSb (s : State) : Nat :=
  s.sbTotal - s.fur.reserve - (s.fur.sbs.filter fun e => e.2.role != .free && !s.sbReserve e.1).length
/-- Furrow writes pages to flash: it is neither off, in Harvest nor READ_ONLY. -/
def State.furWrites (s : State) : Bool := s.rd FUR_STS_STATE == 2
/-- Does collection run: from below LOW until HIGH, or with GC_EN 0 only below LOW (R267)? -/
def State.gcRuns (s : State) : Bool :=
  s.furWrites && (decide (s.freeSb < max 8 (s.rd FUR_GC_LOW)) ||
    (s.on FUR_CTL_GC_EN && s.on FUR_STS_GC_ACTIVE && decide (s.freeSb < s.rd FUR_GC_HIGH)))
/-- FUR_STS.FREE_SB and GC_ACTIVE follow the superblocks. -/
def State.showSb (s : State) : State :=
  (s.wr FUR_STS_FREE_SB s.freeSb).wr FUR_STS_GC_ACTIVE (if s.gcRuns then 1 else 0)
/-- FUR_ERR_LAST takes the first event since VALID was cleared. -/
def State.furLast (s : State) (kind loc : Nat) : State :=
  if s.on FUR_ERR_LAST_VALID then s
  else ((s.wr FUR_ERR_LAST_KIND kind).wr FUR_ERR_LAST_WHERE loc).wr FUR_ERR_LAST_VALID 1
/-- FUR_CH_ERR_LAST of a channel, likewise. -/
def State.fcLast (s : State) (c kind loc : Nat) : State :=
  if s.on (FUR_CH_ERR_LAST_VALID c) then s
  else ((s.wr (FUR_CH_ERR_LAST_KIND c) kind).wr (FUR_CH_ERR_LAST_WHERE c) loc).wr (FUR_CH_ERR_LAST_VALID c) 1

/-! ## Capacity and the governor (R255, R275 to R277) -/

/-- Data bytes of a native block. -/
def State.blockBytes (s : State) : Nat := s.rd FUR_GEOM_PAGES * 16384
/-- Bytes of the native pool, N of R255, over the LUNs in service. -/
def State.nativeBytes (s : State) : Nat :=
  let luns := s.lunPos.length * 32 - s.fur.retired.length
  luns * (s.rd FUR_GEOM2_BLOCKS - s.sparesPerPlane * s.planes) * s.blockBytes - 2 * (s.fur.capFmt + 8) * 1073741824 * s.bpc
/-- D of R255 for a host capacity of `cap` GiB. -/
def State.dataArea (s : State) (cap : Nat) : Nat := (s.nativeBytes - 2 * reserveGib cap * 1073741824) * 31 / 32
/-- Does a host capacity in GiB fit, D at least 1.07 × C (R255)? -/
def State.capFits (s : State) (cap : Nat) : Bool := decide (cap * 1073741824 * 107 ≤ s.dataArea cap * 100)
/-- MARGIN_PCT, values outside 50 to 95 acting as the nearer end. -/
def State.marginPct (s : State) : Nat := max 50 (min 95 (s.rd FUR_GOV_MARGIN_PCT))
/-- Ten years in seconds (R275). -/
def lifeSec : Nat := 315576000
/-- G at format (R275): X0 = (32/31) × D ÷ (2(D − C)). -/
def State.govFormat (s : State) : Nat :=
  let c := s.rd TIN_DPA_LIMIT_CAP_GIB * 1073741824
  let d := s.dataArea (s.rd TIN_DPA_LIMIT_CAP_GIB)
  s.marginPct * s.nativeBytes * s.rd FUR_ENDUR_NATIVE_PE * 62 * (d - c) / (100 * lifeSec * 32 * max 1 d)
/-- The allowance has grown at G since it was last reckoned, up to a day's worth (R276). -/
def State.govAccrue (s : State) : State :=
  let add := s.fur.g * (s.now - s.fur.govAt) / 1000000000
  (s.onFur fun u => { u with govAt := s.now }).wr FUR_GOV_ALLOW_BYTES (min (s.fur.g * 86400) (s.rd FUR_GOV_ALLOW_BYTES + add))
/-- GOV_LIMIT while the allowance is below 4,096, SHORT while D is below 1.07 × C, and their causes. -/
def State.showGov (s : State) : State :=
  let lim := s.on FUR_GEOM_LOCKED && decide (s.rd FUR_GOV_ALLOW_BYTES < 4096)
  let short := s.on FUR_GEOM_LOCKED && !s.capFits (s.rd TIN_DPA_LIMIT_CAP_GIB)
  ((((s.wr FUR_STS_GOV_LIMIT (if lim then 1 else 0)).wr FUR_STS_SHORT (if short then 1 else 0)).cond wFUR 7 noSub short).wr
    FUR_GOV_RATE_RATE_MBPS (s.fur.g / 1000000)).showWin

/-! ## Harvest's limits (R287, R289 to R292) -/

/-- A channel's data rate of R289, multiplied by 18,336 × t_SLC in µs. -/
def State.hvRate (s : State) (c : Nat) : Nat :=
  let mts := [800, 1600, 2400, 3200, 3600].getD (s.rd (FUR_CH_STS_RATE c)) 3600
  let luns := ((List.range 16).filter fun i => s.lunUp (c * 16 + i)).length
  let t := max 1 (s.rd HRV_NAND_TPROG_SLC_US)
  min (mts * 1000000 * 16384 * t) (luns * s.planes * 16384 * 1000000 * 18336)

/-- The channels that are up. -/
def State.chansUp (s : State) : List Nat := (List.range 32).filter s.fchUp

/-- r_f of R289 as a fraction, in bytes per second. -/
def State.rateF (s : State) : Nat × Nat :=
  let ch := s.chansUp
  let w := ch.length
  let rs := ch.map s.hvRate
  let slow := match rs with | [] => 0 | r :: t => t.foldl min r
  (923 * (rs.sum - slow) * (w - 2), 1000 * (w - 1) * (18336 * max 1 (s.rd HRV_NAND_TPROG_SLC_US)))

/-- DEGLITCH_US as it acts. -/
def State.deglitchUs (s : State) : Nat := max 1 (min 100 (s.rd HRV_CTL_DEGLITCH_US))
/-- EFF_PCT as it acts. -/
def State.effPct (s : State) : Nat := max 50 (min 100 (s.rd HRV_STORE_EFF_PCT))
/-- CAP_GIB as it acts. -/
def State.capGib (s : State) : Nat := max 16 (min 256 (s.rd HRV_CAP_CAP_GIB))

/-- The parts of E_need (R290) in units of a µJ divided by 100 A, with r_f = A / B: what no cap changes, and what each GiB of
the dump adds. -/
def State.needParts (s : State) : Nat × Nat :=
  let (a, b) := s.rateF
  (((115 + s.rd HRV_BOARD_RUN_W) * (s.deglitchUs + 6500) + (38 + s.rd HRV_BOARD_HARV_W) * 12000) * a * 100,
   (38 + s.rd HRV_BOARD_HARV_W) * 1073741824 * 1000000 * b * 100)

/-- CAP_STORE_GIB: the largest cap whose E_need the store covers. -/
def State.capStore (s : State) : Nat :=
  let (fix, per) := s.needParts
  let have_ := s.rd HRV_STORE_STORE_J * 1000000 * s.effPct * s.rateF.1
  if s.rateF.1 = 0 then 0 else min 65535 ((have_ - fix) / max 1 per - 8)

/-- NEED_J: E_need for CAP_GIB, rounded up; with r_f 0 the spec states none. -/
def State.needJ (s : State) : Nat :=
  let (fix, per) := s.needParts
  let d := 1000000 * s.effPct * s.rateF.1
  if d = 0 then (Config.needNoRate s.capGib).toNat else min (2 ^ 32 - 1) ((fix + per * (s.capGib + 8) + d - 1) / d)

/-- The n-th superblock of the RESERVE. -/
def State.reserveSb (s : State) (i : Nat) : Nat := s.lunPos.getD (i / max 1 s.groups) 0 * 16384 + i % max 1 s.groups

/-- CAP_RESERVE_GIB (R292): the erased RESERVE superblocks, their members on channels that are up, in SLC mode. -/
def State.capReserve (s : State) : Nat :=
  let w := s.chansUp.length
  let free := ((List.range s.fur.reserve).map s.reserveSb).filter fun sb => (s.sbAt sb).role != .reserve
  let bytes := (free.map fun sb => (s.sbMembers sb).length * s.planes * s.blockBytes / s.bpc).sum
  min 65535 (bytes * (w - 1) / max 1 w / 1073741824 - 8)

/-- HRV_LIMITS, HRV_NEED, EFF_GIB and what follows from them (R287, R288, R292). Nothing changes while Harvest's domain is
off, nor during a Harvest (R314). -/
def State.showHarvest (s : State) : State :=
  if !s.on (UNIT_POWERED wHRV) || s.rd HRV_STS_STATE == 4 || s.rd HRV_STS_STATE == 5 then s
  else
    let (a, b) := s.rateF
    let cs := s.capStore
    let cr := s.capReserve
    (((((s.wr HRV_LIMITS_RATE_F (if b = 0 then 0 else min 65535 (a / (b * 100000000)))).wr HRV_LIMITS_CAP_STORE_GIB cs).wr HRV_LIMITS_CAP_RESERVE_GIB
      cr).wr HRV_NEED_NEED_J s.needJ).wr HRV_CAP_EFF_GIB (min s.capGib (min cs cr))).showDirty

/-- READ_ONLY while fewer than 24 channels are up (R274). -/
def State.showChannels (s : State) : State :=
  let up := ((List.range 32).filter s.fchUp).length
  let st := s.rd FUR_STS_STATE
  let st' := if st = 2 ∧ up < 24 then 3 else if st = 3 ∧ 24 ≤ up then 2 else st
  ((s.wr FUR_STS_STATE st').cond wFUR 6 noSub (st' == 3)).showHarvest

/-! ## Wear -/

/-- FUR_WEAR follows the mean erase counts of the superblocks. -/
def State.showWear (s : State) : State :=
  let nat := s.fur.sbs.filter fun e => !s.sbReserve e.1
  let n := s.sbTotal - s.fur.reserve
  let mx := nat.foldl (fun m e => max m e.2.erases) 0
  let mn := if nat.length < n then 0 else nat.foldl (fun m e => min m e.2.erases) mx
  let rs := (s.fur.sbs.filter fun e => s.sbReserve e.1).foldl (fun m e => max m e.2.erases) 0
  (((s.wr FUR_WEAR_MAX_PE mx).wr FUR_WEAR_MIN_PE mn).wr FUR_WEAR_MEAN_PE ((nat.map fun e => e.2.erases).sum / max 1 n)).wr FUR_WEAR_RSVD_PE rs

/-! ## Slots -/

/-- Data slots that a superblock's members hold: every page row of every plane but the parity member's. -/
def State.sbSlots (s : State) (sb : Nat) : Nat := ((s.sbBuilt sb).length - 1) * s.rd FUR_GEOM_PAGES * s.planes * 4
/-- The slots written in a superblock. -/
def State.slotsIn (s : State) (sb : Nat) : List FSlot := s.fur.slots.filter fun x => s.sbOf x.loc == sb
/-- Does a slot's map entry still name it (R267)? A metadata slot is valid while no newer one holds its page. -/
def State.slotValid (s : State) (x : FSlot) : Bool :=
  if x.isMeta then !s.fur.slots.any fun y => y.isMeta && y.page == x.page && decide (x.wseq < y.wseq)
  else s.furLoc x.page == some x.loc
/-- Valid slots of a superblock. -/
def State.validIn (s : State) (sb : Nat) : List FSlot := (s.slotsIn sb).filter s.slotValid

/-- May a FREE superblock be opened for the stream (R270)? The fresh stream takes one with the lowest mean erase count, the
relocation stream one with the highest. A superblock that is not listed has erase count 0. -/
def State.freeFor (s : State) (st : FStream) (sb : Nat) : Bool :=
  let q := s.sbAt sb
  let nat := s.fur.sbs.filter fun e => !s.sbReserve e.1
  let free := nat.filter fun e => e.2.role == .free && !e.2.erasing
  q.role == .free && !q.erasing &&
    (match st with
     | .reloc => free.all fun e => decide (e.2.erases ≤ q.erases)
     | _ => if nat.length < s.sbTotal - s.fur.reserve then q.erases == 0 else free.all fun e => decide (q.erases ≤ e.2.erases))

/-- Slots that the write buffer of 256 MiB holds (R259). -/
def bufSlots : Nat := 268435456 / 4584

/-- May a stream write a slot at the location: a slot not yet written, not in a parity page, of a member in service, in a
superblock open for the stream or, where none is, a FREE one, with room in the write buffer (R253, R254, R259, R270)? -/
def State.slotOk (s : State) (st : FStream) (loc : Nat) : Bool :=
  let sb := s.sbOf loc
  let q := s.sbAt sb
  s.furWrites && s.sbExists sb && !s.sbReserve sb && s.lunUp (locLun loc) && decide (locPage loc < s.rd FUR_GEOM_PAGES) &&
    (s.sbBuilt sb).contains (locLun loc / 16) && locLun loc / 16 != parityChan (s.sbBuilt sb) sb (locPage loc) &&
    decide ((s.fur.slots.filter fun x => x.inBuf).length < bufSlots) && !s.fur.bad.contains (loc / 2 ^ 15) &&
    (s.slotAt loc).isNone && (q.stream == some st || (!(s.fur.sbs.any fun e => e.2.stream == some st) && s.freeFor st sb))

/-- The stripe of a location: its slots share superblock, plane and page. -/
def State.sameStripe (s : State) (a b : Nat) : Bool :=
  s.sbOf a == s.sbOf b && locPage a == locPage b && locBlk a % s.planes == locBlk b % s.planes

/-- Is every data slot of the location's stripe filled? -/
def State.stripeFull (s : State) (loc : Nat) : Bool :=
  decide (((s.sbBuilt (s.sbOf loc)).length - 1) * 4 ≤ (s.fur.slots.filter fun x => s.sameStripe x.loc loc).length)

/-- A slot is accepted into the write buffer (R259, R260). A full stripe is programmed on every member; a full superblock is
closed. -/
def State.putSlot (s : State) (st : FStream) (page region loc : Nat) (im : PageImg) (isMeta : Bool) : State :=
  let sb := s.sbOf loc
  let x : FSlot := { loc := loc, page := page, region := region, wseq := s.fur.wseq, img := im, isMeta := isMeta }
  let s1 := s.onFur fun u => { u with slots := u.slots ++ [x], wseq := u.wseq + 1 }
  let s2 := s1.modSb sb fun q => { q with role := (if isMeta then .metadata else .data), stream := some st, members := s.sbBuilt sb }
  let s3 := if s2.stripeFull loc then
      let new := (s2.sbLive sb).map fun c => ({ lun := c * 16 + sb / 16384, erase := false, sb := sb } : LunOp)
      s2.onFur fun u => { u with ops := u.ops ++ new.filter fun o => !u.ops.contains o }
    else s2
  let s4 := if s3.sbSlots sb ≤ (s3.slotsIn sb).length then
      let n := s3.fur.closeSeq + 1
      (s3.onFur fun u => { u with closeSeq := n }).modSb sb fun q => { q with stream := none, closed := n }
    else s3
  s4.showSb

/-- A page's copy is accepted: slotted and mapped (R257, R259). -/
def State.freshWrite (s : State) (page loc : Nat) (im : PageImg) : State :=
  (s.putSlot .fresh page (s.tierOf page).region loc im false).setFur page (some loc)

/-! ## Blocks and LUNs out of service (R271, R272) -/

/-- A superblock is to be relocated whole; its valid slots are read in the background (R271). -/
def State.relocateSb (s : State) (sb : Nat) (gc : Bool) : State :=
  if (s.sbAt sb).relocating || (s.sbAt sb).role == .free || (s.sbAt sb).role == .reserve then s
  else
    let n := s.fur.closeSeq + 1
    let s1 := (s.onFur fun u => { u with closeSeq := n }).modSb sb fun q =>
      { q with relocating := true, gc := gc, stream := none, closed := if q.closed = 0 then n else q.closed }
    (s1.onFur fun u => { u with rds := u.rds ++ (s1.validIn sb).map fun x => ({ page := x.page, loc := x.loc, why := .reloc } : FRead) }).showSb

/-- After Furrow has started again: superblocks with a block to retire, or with a member on a retired LUN, are relocated (R271, R272). -/
def State.relocAgain (s : State) : State :=
  (s.fur.sbs.map fun e => e.1).foldl (fun t sb =>
    if (t.fur.failing.any fun b => b / 16384 % 16 * 16384 + b % 16384 / t.planes == sb) ||
        (t.sbAt sb).members.any fun c => t.fur.retired.contains (c * 16 + sb / 16384) then t.relocateSb sb false else t) s

/-- Relocations end with their superblocks as they were: victims stay closed, and only what erases goes on to be erased (R278, R279). -/
def State.relocStop (s : State) : State :=
  (s.onFur fun u => { u with
    relocs := u.relocs.filter (fun r => r.dst.isSome)
    sbs := u.sbs.map fun e => if e.2.erasing || e.2.role == .reserve then e else (e.1, { e.2 with relocating := false, gc := false }) }).showSb

/-- A superblock is refreshed (R271). -/
def State.refreshSb (s : State) (sb : Nat) : State :=
  if (s.sbAt sb).relocating || (s.sbAt sb).role == .free || (s.sbAt sb).role == .reserve then s
  else (s.relocateSb sb false).bump FUR_REFRESH_CNT_COUNT

/-- Marks a block to retire once its superblock has been relocated (R261, R271). `blk` is LUN × 16384 + block. -/
def State.blockFailing (s : State) (blk : Nat) : State :=
  let sb := blk / 16384 % 16 * 16384 + blk % 16384 / s.planes
  let s1 := s.onFur fun u => if u.failing.contains blk || u.bad.contains blk then u else { u with failing := u.failing ++ [blk] }
  s1.relocateSb sb false

/-- REBUILDING while superblocks of a retired LUN remain (R272). -/
def State.showRebuild (s : State) : State :=
  let left := s.fur.sbs.any fun e => e.2.role != .free && !s.sbReserve e.1 &&
    (s.fur.retired.any fun l => l % 16 == e.1 / 16384) && e.2.relocating
  s.wr FUR_STS_REBUILDING (if left then 1 else 0)

/-- A LUN is retired (R272): every superblock with a member on it is relocated, read around that member. -/
def State.lunRetire (s : State) (lun : Nat) (dev : Bool) (bit : Nat) : State :=
  if s.fur.retired.contains lun then s
  else if s.holds (wFC (lun / 16)) then s.holdFence (wFC (lun / 16)) (lun % 16) bit 0 dev
  else
    let c := lun / 16
    let s1 := (s.onFur fun u => { u with retired := u.retired ++ [lun], ops := u.ops.filter fun o => o.lun != lun }).wrBit
      (FUR_CH_STS_LUNS_UP c) (lun % 16) false
    let s2 := (((s1.raise wFUR 5 lun).furLast 4 (lun * 2 ^ 29)).wr (UNIT_DEGRADED wFUR) 1).fenceRec (wFC c) 1 dev (lun % 16) bit 0
    let sbs := (s2.fur.sbs.filter fun e => e.1 / 16384 == lun % 16 && (e.2.role == .data || e.2.role == .metadata)).map fun e => e.1
    ((((sbs.foldl (fun t b => t.relocateSb b false) s2).showRebuild).wr (UNIT_DEGRADED (wFC c)) 1).showGov).showHarvest

/-- A channel is fenced (R273): all its LUNs are retired. -/
def State.flashFence (s : State) (c : Nat) (dev : Bool) (bit : Nat) : State :=
  if s.rd (FUR_CH_STS_STATE c) == 4 then s
  else if s.holds (wFC c) then s.holdFence (wFC c) noSub bit 0 dev
  else
    let s1 := ((((s.wr (FUR_CH_STS_STATE c) 4).wr (UNIT_FENCED (wFC c)) 1).wr (UNIT_DEGRADED wFUR) 1).furLast 5 (c * 16 * 2 ^ 29)).fenceRec
      (wFC c) 1 dev noSub bit 0
    (((s1.lunPos.map fun i => c * 16 + i).foldl (fun t l => t.lunRetire l dev bit) s1).showChannels)

/-- A LUN retired that leaves its channel without one fences the channel (R273). -/
def State.lunOut (s : State) (lun : Nat) (dev : Bool) (bit : Nat) : State :=
  let c := lun / 16
  let s1 := s.lunRetire lun dev bit
  if s1.rd (FUR_CH_STS_LUNS_UP c) = 0 then s1.flashFence c true bit else s1

/-- Retires the failing blocks of a superblock that has been relocated (R271): a spare of the same plane takes each one's
place, or its LUN is retired where no spare is left (R272). -/
def State.retireBlocks (s : State) (sb : Nat) : State :=
  let mine := s.fur.failing.filter fun b => b / 16384 % 16 * 16384 + b % 16384 / s.planes == sb
  mine.foldl (fun t b =>
    let lun := b / 16384
    let k := lun * 4 + b % 16384 % t.planes
    let used := mget (fun _ => 0) t.fur.spares k
    let t1 := ((((t.onFur fun u => { u with failing := u.failing.filter fun x => x != b, bad := u.bad ++ [b] }).bump FUR_BLK_CNT_BAD).raise wFUR
      4 noSub).furLast 3 (b * 2 ^ 15))
    if used < t.sparesPerPlane then
      (t1.onFur fun u => { u with spares := mset (fun _ => 0) u.spares k (used + 1), bad := u.bad.filter fun x => x != b }).wr
        FUR_BLK_CNT_SPARE_LEFT (t1.rd FUR_BLK_CNT_SPARE_LEFT - 1)
    else t1.lunOut lun true 5) s

end Sys2Proof.Machine
end

