-- ==== Sys2Proof/Machine/WinCmds.lean ====
section
/-!
DEFINITION. Machine/WinCmds.lean: Winnow's events and the writes to its control registers (R217 to R244): epochs, moves,
pins, region policies, poison, rebuilt metadata.
-/
namespace Sys2Proof.Machine
open Sys2Proof

/-! ## Epochs (R221, R230) -/

/-- DECAY, 0 acting as 1 and values above 4 as 4. -/
def State.decay (s : State) : Nat := max 1 (min 4 (s.rd WIN_EPOCH_DECAY))
/-- EPOCH_S in ns, 0 acting as 1. -/
def State.epochNs (s : State) : Nat := max 1 (s.rd WIN_EPOCH_EPOCH_S) * 1000000000
/-- WIN_FREE.LOW in frames, 0 acting as 1. -/
def State.freeLow (s : State) : Nat := max 1 (s.rd WIN_FREE_LOW) * 262144
/-- WIN_FREE.HIGH in frames. -/
def State.freeHigh (s : State) : Nat := s.rd WIN_FREE_HIGH * 262144

/-- The candidates of a sweep (R230): eligible pages whose effective heat is at most the cut, clean before dirty at equal
heat, at most 4,096. -/
def State.candidates (s : State) : List Nat :=
  let all := (s.win.tier.map fun e => e.1).filter fun p => s.eligible p && decide (s.effHeat p ≤ s.win.cut)
  let rank := fun (p : Nat) => 2 * s.effHeat p + (if (s.tierOf p).dirty then 1 else 0)
  let ordered := (List.range 512).flatMap fun k => all.filter fun p => rank p == k
  ordered.take 4096

/-- The cut after a sweep: the lowest effective heat at which enough eligible pages lie. -/
def State.newCut (s : State) : Nat :=
  let heats := ((s.win.tier.map fun e => e.1).filter s.eligible).map s.effHeat
  let need := s.freeHigh - s.freeLow
  ((List.range 256).find? fun h => decide (need ≤ (heats.filter fun x => decide (x ≤ h)).length)).getD 255

/-- The sweep of an epoch: every page that holds a frame decays; the candidate ring is filled and the cut made anew. -/
def State.sweep (s : State) : State :=
  let d := 2 ^ s.decay
  let s1 := s.onWin fun w =>
    { w with tier := w.tier.map fun e => if e.2.frame.isSome then (e.1, { e.2 with heat := e.2.heat / d }) else e }
  s1.onWin fun w => { w with ring := s1.candidates, cut := s1.newCut, sweepDone := true }

/-- EPOCH_START (R221). With SWEEP_EN at 0 the sweep waits. -/
def execEpochStart (s : State) : Res :=
  .next (
    let s1 := if s.win.epochOn then s else s.onWin fun w => { w with epochOn := true, epochAt := s.now, sweepDone := false }
    if !s1.win.sweepDone && s1.on WIN_CTL_SWEEP_EN then s1.sweep else s1)

/-- EPOCH_END (R221). -/
def execEpochEnd (s : State) : Res :=
  .next (
    if s.win.epochOn && s.win.sweepDone && decide (s.win.epochAt + s.epochNs ≤ s.now) then
      let s1 := (s.onWin fun w => { w with epochOn := false }).wr WIN_STS_EPOCH (s.rd WIN_STS_EPOCH + 1)
      if s.win.epochAt + s.epochNs < s.now then s1.wr WIN_STS_STRETCH 1 else s1
    else s)

/-! ## Staged flash data (R228, R229, R241) -/

/-- FLASH_DATA_STAGED (R229): the page's slot, once read, is in staging and serves the reads that wait. An uncorrectable
one holds them while the page is healed, or poisons it (R241). -/
def execFlashDataStaged (page : BitVec 34) (s : State) : Res :=
  .next (
    let p := page.toNat
    match s.fur.rds.find? fun r => r.page == p && r.done.isSome && (r.why == .promote || r.why == .cold) with
    | none => s
    | some r =>
      let s1 := s.onFur fun u => { u with rds := u.rds.filter fun x => !(x == r) }
      if r.done == some true then
        match s1.slotAt r.loc with
        | none => s1
        | some x =>
          let s2 := (s1.modMove p fun m => { m with staged := some x.img }).serveStaged p x.img
          let s3 := if r.why == .cold then (s2.onWin fun w => { w with moves := w.moves.filter fun m => !(m.page == p && m.kind == .cold) }).showMoves
            else s2
          (s3.exclTidy).settle
      else
        let s2 := (s1.abandonMove p).onWin fun w => { w with moves := w.moves.filter fun m => m.page != p }
        let s3 := s2.showMoves
        if s3.healable p then (s3.modTier p fun e => { e with poison := true }).healAsk (p * 64) true .flash wWIN
        else s3.poisonStart p 1 2 fullMask false)

/-! ## Moves (R230 to R238) -/

/-- Starts to copy a frame's page into staging. -/
def State.copyOut (s : State) (p : Nat) (kind : MoveKind) (dest : Option Nat) : State :=
  match (s.tierOf p).frame with
  | none => s
  | some f => s.addMove { kind := kind, page := p, dest := dest, staged := some (s.frameImg f) }

/-- A demotion starts: a clean page needs no copy. -/
def State.startDemotion (s : State) (p : Nat) : State :=
  if (s.tierOf p).dirty then s.copyOut p .demotion none
  else s.addMove { kind := .demotion, page := p, admitted := true, copied := true, hold := true }

/-- Is the demoter running (R230)? -/
def State.demoterOn (s : State) : Bool :=
  s.on WIN_CTL_HEAT_MOVES && decide (s.rd WIN_FRAME_CNT_FREE < s.freeHigh) &&
    (s.win.demoting || decide (s.rd WIN_FRAME_CNT_FREE < s.freeLow))

/-- A page on a unit whose fence runs, with no frame elsewhere to move to, goes to flash (R208). -/
def State.evacToFlash (s : State) : Option Nat :=
  (s.win.frames.findSome? fun e => match e.2 with
    | .page p => if s.frameFenced e.1 && !(s.tierOf p).migrating && !(s.tierOf p).poison && (s.tierOf p).dirty then some p else none
    | _ => none)

/-- DEMOTION_START (R230): the first page of the ring, checked again; with a fence running and no frame free, a page of the
fenced unit. -/
def execDemotionStart (s : State) : Res :=
  .next (
    if s.hrvBusy || !s.slotFree false then s
    else if s.rd WIN_FRAME_CNT_FREE = 0 && s.evacToFlash.isSome then
      match s.evacToFlash with
      | none => s
      | some p => s.startDemotion p
    else if !s.demoterOn then s.onWin fun w => { w with demoting := false }
    else
      let s1 := s.onWin fun w => { w with demoting := true }
      match s1.win.ring with
      | [] => s1
      | p :: t =>
        let s2 := s1.onWin fun w => { w with ring := t }
        if (s2.tierOf p).migrating then s2.bump WIN_ABANDON_CNT_COUNT
        else if s2.eligible p then s2.startDemotion p else s2)

/-- The ceiling scan's cursor and k of a region (R230). -/
def State.ceilScan (s : State) (r : Nat) : Nat × Nat :=
  match s.win.curs.find? fun x => x.1 == r with
  | none => (0, 0)
  | some x => x.2

/-- The page that the scan demotes: from the cursor to the region's end and on from its start, the first eligible one at most as hot
as 2^k. -/
def State.ceilPick (s : State) (r : Nat) : Option Nat :=
  let (cur, k) := s.ceilScan r
  let all := (s.win.tier.map fun e => e.1).filter fun p => (s.tierOf p).region == r && s.eligible p && decide (s.effHeat p ≤ 2 ^ k)
  match all.find? fun p => decide (cur ≤ p) with
  | some p => some p
  | none => all.head?

/-- Has a page of the region to make room (R224, R228, R230)? The frames that the moves under way take and leave are counted, and a
drain waits for room where its page holds no frame and no promotion of it runs. -/
def State.ceilOver (s : State) (r : Nat) : Bool :=
  let ceil := s.rd (WIN_RGN_POL_CEIL_GIB r) * 262144
  let have_ := s.resident r + s.movesIn r .promotion - s.movesIn r .demotion
  let waits := s.fab.cb.any fun l => l.drain == .promo && l.region == r && !(s.tierOf (pageOf l.line)).migrating
  ceil != 0 && (decide (ceil < have_) || (waits && decide (ceil ≤ have_)))

/-- CEILING_DEMOTION (R224, R228, R230): the region's scan demotes a page; a full pass without one raises k. -/
def execCeilingDemotion (r : Fin 256) (s : State) : Res :=
  .next (
    if s.hrvBusy || !s.slotFree false || !s.ceilOver r then s
    else
      let (cur, k) := s.ceilScan r
      let set := fun (t : State) (c n : Nat) => t.onWin fun w => { w with curs := (w.curs.filter fun x => x.1 != r.val) ++ [(r.val, c, n)] }
      match s.ceilPick r with
      | some p => (set s (p + 1) 0).startDemotion p
      | none => set s cur (min 8 (k + 1)))

/-- Does Winnow clean: from START until STOP per cent of the dirty cap, or while over the cap (R231, R288)? -/
def State.cleans (s : State) : Bool :=
  let cap := s.dirtyCap
  let start := min 100 (s.rd WIN_CLEAN_START) * cap
  let stop := s.rd WIN_CLEAN_STOP * cap
  let d := s.rd HRV_DIRTY_PAGES * 100
  s.on HRV_STS_OVER_CAP || (decide (stop < d) && (s.win.cleaning || decide (start ≤ d)))

/-- The dirty page to clean next: the coldest, among equals the one dirtied earliest (R231). -/
def State.coldest (s : State) : Option Nat :=
  let ok := s.win.dirtyAge.filter fun p => let e := s.tierOf p; e.state.inDram && !e.migrating && !e.poison
  match ok with
  | [] => none
  | p :: t => some (t.foldl (fun b q => if s.effHeat q < s.effHeat b then q else b) p)

/-- CLEANING_START (R231, R288). -/
def execCleaningStart (s : State) : Res :=
  .next (
    if s.hrvBusy then s
    else if !s.cleans then s.onWin fun w => { w with cleaning := false }
    else if !s.slotFree false then s
    else
      let s1 := s.onWin fun w => { w with cleaning := true }
      match s1.coldest with
      | none => s1
      | some p => s1.copyOut p .cleaning none)

/-- Has the page's frame to be vacated: its unit is fenced, it is to be retired, or it lies in a block that is to stand in for
others (R208, R242)? Answers whether the frame is to be retired. -/
def State.mustLeave (s : State) (f : Nat) (blk : Nat → Bool) : Option Bool :=
  if s.win.retire.contains f then some true
  else if s.frameFenced f || blk f then some false
  else none

/-- The channel on which a substitution block is to be vacated: one that a channel with a fence running names. -/
def State.vacating (s : State) (f : Nat) : Bool :=
  s.popChans.any fun c => !(s.chOf c).fencing.isEmpty && s.frameChan f == s.rd (DRM_SUBST_DST_CHANNEL c) && decide (0 < s.sysLocals c)

/-- FRAME_MOVE_START (R233, R234): a page leaves its frame for a free one. -/
def execFrameMoveStart (page : BitVec 34) (dest : BitVec 31) (s : State) : Res :=
  .next (
    let p := page.toNat
    let e := s.tierOf p
    match e.frame with
    | none => s
    | some f =>
      match s.mustLeave f s.vacating with
      | none => s
      | some retire =>
        if e.migrating || (e.poison && e.state != .poisoned) || s.hrvBusy || !s.slotFree false || !s.frameFree dest.toNat then s
        else (s.copyOut p (.frameMove retire) (some dest.toNat)).setFrame dest.toNat (.page p))

/-- Lines of a page's frame that the mask names are read again into staging. -/
def State.replay (s : State) (im : PageImg) (f : Nat) (mask : LMask) : PageImg :=
  let now := s.frameImg f
  (List.range 64).foldl (fun x i =>
    if mask.getLsbD i then
      { data := copyRange now.data x.data (i * 64) (i * 64) 64,
        key := mset (fun _ => (0 : Key)) x.key i (mget (fun _ => (0 : Key)) now.key i) }
    else x) im

/-- MOVE_COPY_DONE (R235): staging reaches the destination, a free frame for a promotion or a slot of the fresh stream for a
cleaning or demotion; drains to the page are then held. `clean` tells whether the replays left the mask zero. -/
def execMoveCopyDone (page : BitVec 34) (dest : BitVec 38) (clean : Bool) (s : State) : Res :=
  .next (
    let p := page.toNat
    match s.moveOf p with
    | none => s
    | some m =>
      match m.staged with
      | none => s
      | some im =>
        if m.copied then s
        else
          match m.kind with
          | .promotion =>
            if s.frameFree dest.toNat then
              ((s.setFrame dest.toNat (.page p)).putImg dest.toNat im).modMove p fun x => { x with dest := some dest.toNat, copied := true, hold := true }
            else s
          | .frameMove _ =>
            match (s.tierOf p).frame, m.dest with
            | some f, some d =>
              let im' := if clean then s.replay im f m.mask else im
              (s.putImg d im').modMove p fun x => { x with staged := some im', mask := if clean then 0 else x.mask, copied := true, hold := true }
            | _, _ => s
          | _ =>
            match (s.tierOf p).frame with
            | none => s
            | some f =>
              if m.admitted && s.slotOk .fresh dest.toNat then
                let im' := if clean then s.replay im f m.mask else im
                (s.freshWrite p dest.toNat im').modMove p fun x => { x with staged := some im', mask := if clean then 0 else x.mask, copied := true, hold := true }
              else s)

/-- A page's frame is released: freed, or retired. -/
def State.leaveFrame (s : State) (f : Nat) (retire : Bool) : State :=
  let s1 := s.clearFrame f
  if retire then
    (((s1.setFrame f .retired).onWin fun w => { w with retire := w.retire.filter fun x => x != f }).winLast 4 f).raise wWIN 4 noSub
  else s1.setFrame f .free

/-- After a switch: waiting drains and reads act on the new entry, and reads that found no move slot ask again (R234, R236). -/
def State.afterMove (s : State) (p : Nat) : State :=
  ((((s.drainSort.wakePage p).retryPages).showPins).exclTidy).settle

/-- MOVE_SWITCH (R236). -/
def execMoveSwitch (page : BitVec 34) (s : State) : Res :=
  .next (
    let p := page.toNat
    match s.moveOf p with
    | none => s
    | some m =>
      let e := s.tierOf p
      if !m.copied then s
      else
        match m.kind, e.frame with
        | .promotion, _ =>
          match m.dest with
          | none => s
          | some d =>
            let s1 := ((s.endMove p).modTier p fun e => { e with state := .dramClean, frame := some d, heat := max e.heat (s.rd WIN_HEAT_PROMO_HEAT) }).bump
              WIN_PROMO_CNT_COUNT
            ((s1.dropHints p).loadPins e.region).afterMove p
        | .frameMove retire, some f =>
          match m.dest with
          | none => s
          | some d =>
            let last := s.replay (s.frameImg d) f m.mask
            let s1 := ((s.putImg d last).endMove p).modTier p fun e => { e with frame := some d }
            ((s1.leaveFrame f retire).dropHints p).afterMove p
        | .cleaning, some _ =>
          let s1 := s.endMove p
          let s2 := if m.mask = 0 then (s1.modTier p fun e => { e with state := .dramClean, dirty := false }).bump WIN_CLEAN_CNT_COUNT
            else s1.modTier p fun e => { e with state := .dramDirty }
          s2.afterMove p
        | .demotion, some f =>
          let s1 := s.endMove p
          if m.mask = 0 then
            let s2 := (s1.modTier p fun e => { e with state := .flashOnly, frame := none, dirty := false, heat := 0 }).bump WIN_DEMO_CNT_COUNT
            ((s2.leaveFrame f false).dropHints p).afterMove p
          else ((s1.modTier p fun e => { e with state := .dramDirty }).bump WIN_ABANDON_CNT_COUNT).afterMove p
        | _, _ => s)

/-! ## Poison (R239) -/

/-- POISON_PAGE_FINALIZE (R239 steps 3 to 5): after its invalidation a page lost inside the device is healed from the twin
where it can be; else it is written POISONED and the reads that wait return poison. -/
def execPoisonPageFinalize (page : BitVec 34) (s : State) : Res :=
  .next (
    let p := page.toNat
    match s.win.poisoning.find? fun q => q.page == p with
    | none => s
    | some q =>
      if q.healing || s.invPending (.poison p) then s
      else if q.psrc == 1 && q.cause != 0 && s.healable p then
        (s.onWin fun w => { w with poisoning := w.poisoning.map fun x => if x.page == p then { x with healing := true } else x }).healAsk (p * 64)
          true .poison wWIN
      else (((((s.poisonWrite q).wakePage p).drainSort).exclTidy).settle))

/-! ## Damaged metadata (R243) -/

/-- The entry that R243 derives for a page from the frame table, Furrow's map and the poison table. -/
def State.rebuilt (s : State) (p : Nat) : TierEnt :=
  let f := (s.win.frames.find? fun e => e.2 == .page p).map fun e => e.1
  let old := s.tierOf p
  let st := match f, s.furLoc p with
    | some _, some _ => TierState.dramDirty
    | some _, none => .dramOnly
    | none, some _ => .flashOnly
    | none, none => .unwritten
  match f, s.poisonRec p with
  | some _, some r => { old with state := .poisoned, frame := f, heat := 0, dirty := true, poison := true, psrc := r.psrc, migrating := false }
  | _, _ => { state := st, frame := f, heat := 0, dirty := f.isSome, poison := false, psrc := 0, migrating := old.migrating, pinned := old.pinned,
              region := old.region }

/-- A rebuilt tier-map entry: one that cannot be proven current while frames are quarantined is healed or poisoned. -/
def State.rebuildEntry (s : State) (p : Nat) : State :=
  let e := s.rebuilt p
  let open_ := s.win.frames.any fun x => x.2 == .quarantined
  let s1 := s.setTier p e
  if e.frame.isNone && open_ && (s1.rgnOfPage p).isSome then
    let s2 := s1.winLast 3 p
    if s2.healable p then (s2.modTier p fun e => { e with poison := true }).healAsk (p * 64) true .poison wWIN
    else s2.poisonStart p 1 5 fullMask false
  else s1

/-- META_REBUILD_DONE (R243): the oldest rebuild finishes; it is recorded. -/
def execMetaRebuildDone (s : State) : Res :=
  .next (
    match s.win.rebuild with
    | [] => s
    | x :: _ =>
      let s1 := s.onWin fun w => { w with rebuild := w.rebuild.drop 1 }
      match x with
      | .tierLine b => ((((List.range 8).foldl (fun t i => t.rebuildEntry (b + i)) s1).winLast 1 b).raise wWIN 3 noSub).drainSort
      | .frameLine f =>
        let s2 := (tableLine f).foldl (fun t g =>
          if t.frameUse g == .quarantined then
            match t.win.tier.find? fun e => e.2.frame == some g with
            | some e => t.setFrame g (.page e.1)
            | none => t.setFrame g .free
          else t) s1
        ((s2.winLast 2 f).raise wWIN 3 noSub).drainSort)

/-! ## Pins (R225, R227) -/

/-- The pages of a range that an operation on pins has to be checked against: the valid region that holds it whole. -/
def State.pinRegion (s : State) (b n : Nat) : Option Nat :=
  match s.rgnOfGib (gibOf (b * 64)) with
  | none => none
  | some r => if s.rgnHas r (gibOf ((b + n - 1) * 64)) then some r else none

/-- The result of a pin operation's check: 0 OK, 1 PIN_FULL, 2 NO_REGION, 4 RELEASING. -/
def State.pinCheck (s : State) (pin : Bool) (b n : Nat) : Nat :=
  match s.pinRegion b n with
  | none =>
    if (List.range 256).any fun r => s.rgnReleasing r && s.rgnHas r (gibOf (b * 64)) then 4 else 2
  | some r =>
    let have_ := (s.win.tier.filter fun e => decide (b ≤ e.1 ∧ e.1 < b + n) && e.2.pinned).length
    let new := if s.rgnPinned r then 0 else n - have_
    if pin && decide (s.framesAvail < s.pinTotal + new) then 1 else 0

/-- A write of GO in WIN_PIN_CTL (R225, R244): refused while BUSY; with OP 0 or 3 nothing. -/
def State.writePin (s : State) (a : Agent) (op : Nat) : State :=
  if s.on WIN_PIN_CTL_BUSY then s.ignored a WIN_PIN_CTL (2 ^ 31 + op * 2 ^ 28)
  else
    let s1 := s.wr WIN_PIN_CTL_OP op
    if op = 0 ∨ op = 3 then s1
    else
      let b := s1.rd WIN_PIN_BASE_PAGE
      let n := max 1 (s1.rd WIN_PIN_LEN_PAGES)
      match s1.pinCheck (op == 1) b n with
      | 0 => ((s1.onWin fun w => { w with pinOp := some ⟨op == 1, b, n⟩ }).wr WIN_PIN_CTL_BUSY 1).showPins
      | e => s1.wr WIN_PIN_CTL_RESULT e

/-- PIN_OP (R225). -/
def execPinOp (a : Agent) (s : State) : Res :=
  .next (s.atReg a WIN_PIN_CTL (2 ^ 31 + 2 ^ 28) fun t => t.writePin a 1)

/-- UNPIN_OP (R225). -/
def execUnpinOp (a : Agent) (s : State) : Res :=
  .next (s.atReg a WIN_PIN_CTL (2 ^ 31 + 2 ^ 29) fun t => t.writePin a 2)

/-- PIN_OP_NONE (R244): GO with OP 0 or 3. -/
def execPinOpNone (a : Agent) (three : Bool) (s : State) : Res :=
  .next (s.atReg a WIN_PIN_CTL (2 ^ 31 + (if three then 3 * 2 ^ 28 else 0)) fun t => t.writePin a (if three then 3 else 0))

/-- PIN_OP_DONE (R225): every entry of the range is written, and BUSY clears; pinned FLASH_ONLY pages load (R227). -/
def execPinOpDone (s : State) : Res :=
  .next (
    match s.win.pinOp with
    | none => s
    | some o =>
      let s1 := (List.range o.len).foldl (fun t i => t.modTier (o.base + i) fun e =>
        { e with pinned := o.pin, region := if e.state == .unwritten then (t.rgnOfPage (o.base + i)).getD e.region else e.region }) s
      let s2 := ((s1.onWin fun w => { w with pinOp := none }).wr WIN_PIN_CTL_RESULT 0).wr WIN_PIN_CTL_BUSY 0
      let s3 := if o.pin then (match s2.rgnOfPage o.base with | none => s2 | some r => s2.startLoad r) else s2
      s3.showPins)

/-- PIN_LOAD_DONE (R227). -/
def execPinLoadDone (r : Fin 256) (s : State) : Res :=
  .next (if (s.toLoad r).isEmpty then s.wr (WIN_RGN_POL_LOADING r) 0 else s.loadPins r)

/-! ## Policies (R224, R226) -/

/-- Would Winnow ignore a write of WIN_RGN_POL_n (R224, R226)? -/
def State.polBad (s : State) (r v : Nat) : Bool :=
  let fl := getBits v 0 17
  let ce := getBits v 17 17
  let pins := (s.rd (WIN_RGN_RES_PINNED r) + 262143) / 262144
  let floors := ((List.range 256).map fun n => (s.wr (WIN_RGN_POL_FLOOR_GIB r) fl).floorPages n).sum
  decide (ce ≠ 0 ∧ (ce < fl ∨ ce < pins)) ||
    (fl != s.rd (WIN_RGN_POL_FLOOR_GIB r) && decide (s.framesAvail - s.freeHigh < floors + s.pinTotal))

/-- A write of WIN_RGN_POL_n: ignored and recorded where it breaks the rule of the ceiling or of the floors. -/
def State.writePol (s : State) (a : Agent) (r v : Nat) : State :=
  if s.polBad r v then s.badAccess a true true 5 (WIN_RGN_POL r) (BitVec.ofNat 64 v)
  else
    ((((s.wr (WIN_RGN_POL_FLOOR_GIB r) (getBits v 0 17)).wr (WIN_RGN_POL_CEIL_GIB r) (getBits v 17 17)).wr (WIN_RGN_POL_BIAS r)
      (getBits v 34 4)).drainSort).showWin

/-- REGION_POLICY_WRITE (R224, R226). -/
def execRegionPolicyWrite (a : Agent) (r : Fin 256) (v : Word64) (s : State) : Res :=
  .next (s.atReg a (WIN_RGN_POL r) v.toNat fun t => t.writePol a r v.toNat)

end Sys2Proof.Machine
end

