-- ==== Sys2Proof/Machine/YokeCmds.lean ====
section
/-!
DEFINITION. Machine/YokeCmds.lean: Yoke's commands and events (chapter 10): paths and handshakes (R338, R343 to R346),
sending and acknowledgement (R333 to R336), loss and return of the twin (R321, R322, R339 to R342), heals (R347 to R349),
the resilver (R350 to R352).
-/
namespace Sys2Proof.Machine
open Sys2Proof

/-- A frame has arrived without error on a path's port (R390). -/
def State.frameIn (s : State) (p path : Nat) : State := s.bump (NPT_MAC_CNT_RX_GOOD (pathPort p path))

/-- Changes the flag of a request's twin wait (R23, R119): with no frame left to wait for it completes. -/
def State.twinDone (s : State) (id : Nat) : State :=
  match s.reqOf id with
  | none => s
  | some r =>
    match r.phase with
    | .twin n => if n ≤ 1 then s.complete r 0 0 false else s.setPhase id (.twin (n - 1))
    | _ => s

/-- One mirrored write of a line is acknowledged: at the last one its MIRROR_WAIT entry becomes HELD (R323). -/
def State.lineAcked (s : State) (line : Nat) : State :=
  match s.cbOf line with
  | some l =>
    let s1 := s.modCb line fun x => { x with twin := x.twin - 1 }
    if l.twin = 1 then (s1.altMode line .held).highWater l.tine else s1
  | none => (s.altMode line .shared).altTidy

/-- What an acknowledged entry lets happen. -/
def State.entAcked (s : State) (e : YSent) : State :=
  let s1 := match e.req with
    | none => s
    | some id => s.twinDone id
  match e.cls, e.ent with
  | 1, .full l _ => if e.req.isSome then s1.lineAcked l.toNat else s1
  | 1, .part l _ _ => if e.req.isSome then s1.lineAcked l.toNat else s1
  | 1, .zero l _ => if e.req.isSome then s1.lineAcked l.toNat else s1
  | _, _ => s1

/-- Entries of a region or of any, not yet acknowledged. -/
def State.unacked (s : State) : List YSent := s.yk.pairs.flatMap fun y => y.queue ++ y.log.flatMap fun f => f.ents

/-- The line that an entry concerns. -/
def entLine : YokeEntry → Option Nat
  | .full l _ => some l.toNat
  | .part l _ _ => some l.toNat
  | .zero l _ => some l.toNat
  | .pageUnwritten p => some (p.toNat * 64)
  | .pagePoison p _ => some (p.toNat * 64)
  | _ => none

/-- Does the region have a marked granule? -/
def State.rgnMarks (s : State) (r : Nat) : List Nat :=
  s.yk.marks.filter fun g => decide (s.rgnBase r * 16 ≤ g ∧ g < (s.rgnBase r + s.rgnSize r) * 16)

/-- The granules of a region that a resync copies: those marked for more than lines not yet acknowledged (R341, R342). -/
def State.rsvMarks (s : State) (r : Nat) : List Nat := (s.rgnMarks r).filter fun g => !s.yk.lagOnly.contains g

/-! ## Loss of the twin (R339, R340) -/

/-- A region leaves mirroring (R322, R340 steps 1 to 3): every granule of an entry not acknowledged is marked; where it goes
to SPLIT its waiting writes complete and its entries not yet framed are dropped. -/
def State.leaveMirror (s : State) (r st : Nat) : State :=
  let mine := s.unacked.filter fun e => e.region == r
  let was := s.rd (YOK_RGN_STATE r)
  let owes : Bool := was = 1 || (was = 5 && mget (fun _ => 0) s.yk.prior r = 1)
  let s1 := mine.foldl (fun t e => match entLine e.ent with
    | none => t
    | some l => if t.yk.marks.contains (granuleOf l) then t else t.mark (granuleOf l) true) s
  let s2 := s1.onYk fun y => { y with prior := mset (fun _ => 0) y.prior r was,
                                      rsv := (match y.rsv with | some v => if v.region == r then none else some v | none => none),
                                      rsvQ := y.rsvQ.filter fun x => x != r,
                                      lagOnly := if st = 3 then y.lagOnly.filter (fun g => !(s1.rgnMarks r).contains g) else y.lagOnly,
                                      owesRsv := if st = 3 && owes && !y.owesRsv.contains r then y.owesRsv ++ [r] else y.owesRsv }
  let s3 := if s.yk.rsv.any (fun v => v.region == r) then (s2.wr YOK_RSV_CTL_BUSY 0).wr YOK_STS_RSV_BUSY 0 else s2
  if st = 3 then
    let s4 := mine.foldl (fun t e => t.entAcked e) s3
    let drop := fun (l : List YSent) => l.filter fun e => e.region != r
    let free := fun (l : List YSent) => l.map fun e => if e.region == r then { e with req := none, cls := 2 } else e
    ((s4.onYk fun y => { y with pairs := y.pairs.map fun (q : YPair) =>
        { q with queue := drop q.queue, log := q.log.map fun (f : YFrame) => { f with ents := free f.ents } } }).setYok r 3).showLag r
  else s3.setYok r st

/-- The twin is lost (R339, R340). -/
def State.twinLost (s : State) : State :=
  if s.rd YOK_STS_TWIN = 2 || s.rd YOK_STS_TWIN = 1 then
    let was := s.rd YOK_STS_TWIN
    let s1 := (s.wr YOK_STS_TWIN 3).cond wYOK 3 noSub true
    if was = 1 then s1
    else
      let s2 := s1.bump YOK_CNT_LOST
      let s3 := (List.range 256).foldl (fun t r =>
        let st := t.rd (YOK_RGN_STATE r)
        if st = 1 || st = 2 || st = 4 then t.leaveMirror r (if t.on (YOK_RGN_ON_LOSS r) then 5 else 3) else t) s2
      ((s3.ldEventAll 5 1).exclTidy).settle
  else s

/-- YOK_UNIT.DEGRADED and PATH_DOWN follow the paths of the enabled pairs (R338, R599). -/
def State.showPaths (s : State) : State :=
  let bad := s.on YOK_CTL_ENABLE && s.pairsOn.any fun p => s.pathState p 0 != 2 || s.pathState p 1 != 2
  (s.wr (UNIT_DEGRADED wYOK) (if bad then 1 else 0)).cond wYOK 2 noSub bad

/-- Sets the state of a path. -/
def State.setPath (s : State) (p path st : Nat) : State :=
  let s1 := if path = 0 then s.wr (YOK_PAIR_STATE_A p) st else s.wr (YOK_PAIR_STATE_B p) st
  (if st = 0 && s.pathState p path != 0 then s1.bump (YOK_PATH_CNT_DOWN_EVT (2 * p + path)) else s1).showPaths

/-- A path goes DOWN; a pair with no usable path loses the twin (R338, R339). -/
def State.pathDown (s : State) (p path : Nat) : State :=
  if s.pathState p path = 0 then s
  else
    let s1 := s.setPath p path 0
    if s1.pairsOn.contains p && (s1.usable p).isEmpty then s1.twinLost else s1

/-! ## Handshake (R343 to R346) -/

/-- Bytes of a number, most of them of a serial or a nonce. -/
def State.hsInput (s : State) (p j : Nat) (gen : Bool) (y : YPair) : List Byte :=
  let us := s.serial
  let tw := s.yk.serialTwin
  [0x47, 0x45, 0x4C, 0x54, 0x49, 0x41, 0x59, 0x4B, BitVec.ofNat 8 j, BitVec.ofNat 8 p, if gen then 1 else 0, 0, 0, 0, 0, 0] ++
    leBytes (min us tw) 16 ++ leBytes (max us tw) 16 ++ leBytes y.nonceI.toNat 32 ++ leBytes y.nonceR.toNat 32

/-- The firmware key slot that holds the pairing key (R493). -/
def State.pairingSlot (s : State) : Nat := if 0 < s.rd TIN_WORLD_KEYS_S_SLOTS then 7 else 15

/-- The pairing key: words 0 to 7 of its slot (R671). -/
def State.pairKey (s : State) : BitVec 256 := (mget (fun _ => (0 : Key)) s.cph.fkey s.pairingSlot).setWidth 256
/-- Is a pairing key loaded? -/
def State.pairKeyed (s : State) : Bool := s.bitOf CPH_PFSLOT_FW_LOADED s.pairingSlot

/-- Block B_j of R344: the last block of AES-256 in CBC mode with a zero IV over the input. -/
def State.hsBlock (s : State) (p j : Nat) (gen : Bool) : Nat := (cbcEnc s.pairKey 7 0 (s.hsInput p j gen (s.pairAt p))).2.toNat

/-- The path keys of a new generation enter their slots (R344): a 256-bit key with its salt above it. -/
def State.pathKeys (s : State) (p : Nat) (gen : Bool) : State :=
  let b := fun j => s.hsBlock p j gen
  let g := if gen then 1 else 0
  let k0 : Key := BitVec.ofNat 512 (b 1 + 2 ^ 128 * b 2 + 2 ^ 256 * (b 5 % 2 ^ 32))
  let k1 : Key := BitVec.ofNat 512 (b 3 + 2 ^ 128 * b 4 + 2 ^ 256 * (b 5 / 2 ^ 32 % 2 ^ 32))
  let set := fun (c : Cipher) => { c with pkey := mset (fun _ => (0 : Key)) (mset (fun _ => (0 : Key)) c.pkey (4 * p + g) k0) (4 * p + 2 + g) k1 }
  ((({ s with cph := set s.cph } : State).bumpBy CPH_CNT_LOADS 2).wrBit CPH_PFSLOT_PATH_LOADED (4 * p + g) true).wrBit CPH_PFSLOT_PATH_LOADED (4 * p + 2 + g) true

/-- Erases the path keys of a generation. -/
def State.pathErase (s : State) (p : Nat) (gen : Bool) : State :=
  let g := if gen then 1 else 0
  let clr := fun (c : Cipher) => { c with pkey := mset (fun _ => (0 : Key)) (mset (fun _ => (0 : Key)) c.pkey (4 * p + g) 0) (4 * p + 2 + g) 0 }
  (({ s with cph := clr s.cph } : State).wrBit CPH_PFSLOT_PATH_LOADED (4 * p + g) false).wrBit CPH_PFSLOT_PATH_LOADED (4 * p + 2 + g) false

/-- Are the keys of a generation loaded? -/
def State.genLoaded (s : State) (p : Nat) (gen : Bool) : Bool := s.bitOf CPH_PFSLOT_PATH_LOADED (4 * p + if gen then 1 else 0)

/-- Is this appliance the initiator (R343)? -/
def State.initiator (s : State) : Bool := decide (s.serial < s.yk.serialTwin)

/-- The path the handshake runs on: A, or B if A is DOWN and B is not. -/
def State.hsPath (s : State) (p : Nat) : Nat := if s.pathState p 0 = 0 && s.pathState p 1 != 0 then 1 else 0

/-- The clear payload of a HELLO or HELLO_RSP. -/
def State.hsPay (s : State) (nonce : BitVec 256) (gen : Bool) : List Byte :=
  leBytes s.serial 16 ++ leBytes nonce.toNat 32 ++ [if gen then 1 else 0, BitVec.ofNat 8 s.pairsOn.length] ++ leBytes 0 6

/-- Sends HELLO. -/
def State.helloSend (s : State) (p : Nat) : State :=
  let y := s.pairAt p
  s.pathEmit p (s.hsPath p) (.yokeCtl p (s.hsPath p) 0x20 0 0 false (s.hsPay y.nonceI y.handGen))

/-- A handshake of a pair starts: the initiator draws its nonce and sends HELLO (R343); the responder waits. -/
def State.hsStart (s : State) (p : Nat) : State :=
  let gen := if (s.pairAt p).keyed || s.genLoaded p (s.on (YOK_PAIR_KEYGEN p)) then !s.on (YOK_PAIR_KEYGEN p) else s.on (YOK_PAIR_KEYGEN p)
  let n : BitVec 256 := (Config.freeLine s.fresh).setWidth 256
  let s1 := (s.onPair p fun y => { y with handGen := gen }).wr (YOK_PAIR_HANDSHAKE p) 1
  if s.initiator && s.pairKeyed then
    ((s1.onPair p fun y => { y with hand := .hello, nonceI := n }).draw).helloSend p
  else s1

/-- A handshake ends in error: CLOSE may be sent, the twin is lost (R339, R343). -/
def State.hsFail (s : State) (p : Nat) : State :=
  ((s.onPair p fun y => { y with hand := .idle }).wr (YOK_PAIR_HANDSHAKE p) 0).twinLost

/-- Sends CLOSE with a code. -/
def State.closeSend (s : State) (p path code : Nat) : State :=
  s.pathEmit p path (.yokeCtl p path 0x23 0 0 false (BitVec.ofNat 8 code :: leBytes 0 7))

/-- ROLE ANNOUNCE for every region in a Yoke state (R321). -/
def State.announce (s : State) : State :=
  (List.range 256).foldl (fun t r =>
    if t.rd (YOK_RGN_STATE r) = 0 then t
    else
      let e := YokeEntry.role (Fin.ofNat 256 r) 0 (Fin.ofNat 4 (t.rgnClass r)) (Fin.ofNat 2 (t.rd (YOK_RGN_ROLE r)))
        (BitVec.ofNat 24 (t.rd (YOK_RGN_EPOCH r))) (t.rgnSize r)
      t.yokeQueue (t.pairOf (t.rgnBase r * 0x1000000)) ⟨e, r, none, 2, t.now⟩) s

/-- Starts the resilver or resync of a region (R350). -/
def State.rsvStart (s : State) (r : Nat) : State :=
  let resync := s.rd (YOK_RGN_STATE r) = 4
  let base := s.rgnBase r * 262144
  let pos := s.rd YOK_RSV_POS_PAGE
  let from_ := if resync then ((s.rsvMarks r).foldl min (2 ^ 40)) * 16384
    else if base ≤ pos ∧ pos < base + s.rgnSize r * 262144 then pos else base
  let s1 := s.onYk fun y => { y with rsv := some { region := r, resync := resync, page := from_ }, rsvQ := y.rsvQ.filter fun x => x != r }
  ((((s1.wr YOK_RSV_CTL_BUSY 1).wr YOK_STS_RSV_BUSY 1).wr YOK_RSV_CTL_RESYNC (if resync then 1 else 0)).wr YOK_RSV_CTL_REGION r).wr YOK_RSV_POS_PAGE
    (if resync then pos else from_)

/-- Headland runs the queue one region at a time in ascending number (R503). -/
def State.rsvKick (s : State) : State :=
  match s.yk.rsv with
  | some _ => s
  | none =>
    if !s.twinUp then s
    else
      match (s.yk.rsvQ.filter fun r => (s.rd (YOK_RGN_STATE r) == 1 || s.rd (YOK_RGN_STATE r) == 4) && s.rd (YOK_RGN_ROLE r) == 0).foldl
        (fun (o : Option Nat) r => match o with | none => some r | some m => some (min m r)) none with
      | none => s
      | some r => s.rsvStart r

/-- The twin is reachable once every enabled pair has keys in force and a usable path (R339): STALLED regions return to the
state they held (R322), and each side announces its regions (R321). -/
def State.showTwin (s : State) : State :=
  let ok := s.on YOK_CTL_ENABLE && s.pairsOn.all fun p => (s.pairAt p).keyed && !(s.usable p).isEmpty
  if ok && s.rd YOK_STS_TWIN != 2 then
    let s1 := ((s.wr YOK_STS_TWIN 2).cond wYOK 3 noSub false).onYk fun y => { y with twinSaid := [] }
    let s2 := (List.range 256).foldl (fun t r =>
      let was := mget (fun _ => 0) t.yk.prior r
      if t.rd (YOK_RGN_STATE r) = 5 then
        let u := t.setYok r was
        if (was == 1 || was == 4) && u.rd (YOK_RGN_ROLE r) == 0 && !u.yk.rsvQ.contains r then u.onYk fun y => { y with rsvQ := y.rsvQ ++ [r] } else u
      else t) s1
    s2.announce.rsvKick
  else s

/-- A key generation comes into force (R343, R345, R346): with the old key loaded and frames sent under it a GEN_END frame
ends the old generation; else what was not acknowledged is framed anew. -/
def State.hsDone (s : State) (p : Nat) : State :=
  let y := s.pairAt p
  let old := s.on (YOK_PAIR_KEYGEN p)
  let gen := y.handGen
  let cont := y.keyed && gen != old && s.genLoaded p old
  let endF : YFrame := { fsn := y.txFsn, gen := old, ents := [⟨.genEnd, 0, none, 2, s.now⟩] }
  let s1 := if cont then s.dataSend p endF else s
  let s2 := s1.onPair p fun q =>
    if cont then { q with log := q.log ++ [endF], oldTx := true, txFsn := 1, hand := .idle, keyed := true, csnTxA := 0, csnTxB := 0, csnA := 0, csnB := 0 }
    else { q with queue := (q.log.flatMap fun f => f.ents.filter fun e => e.ent != .genEnd) ++ q.queue, log := [], txFsn := 1, oldTx := false, hand := .idle,
                  keyed := true, csnTxA := 0, csnTxB := 0, csnA := 0, csnB := 0, held := [], applied := 0, rxGen := gen, rxIdx := 0, rxOp := none }
  let s3 := ((s2.wr (YOK_PAIR_KEYGEN p) (if gen then 1 else 0)).wr (YOK_PAIR_HANDSHAKE p) 0).showSeq p
  s3.showTwin

/-- An authenticated frame arrives on a path: a DOWN path moves to PROBATION, and frames not acknowledged go again (R336,
R338). -/
def State.pathAlive (s : State) (p path : Nat) : State :=
  if s.pathState p path = 0 then
    let s1 := s.setPath p path 1
    let s2 := s1.onPair p fun y => { y with log := y.log.map fun f => { f with attempt := f.attempt + 1 } }
    let s3 := (s2.pairAt p).log.foldl (fun t f => (t.dataSend p f).bump YOK_CNT_RETX) s2
    s3.showTwin
  else s

/-- A frame dropped for its tag, its magic, version or opcode, or a control frame whose CSN is not new (R329, R330). -/
def State.authFail (s : State) (p path : Nat) : State :=
  (s.bump (YOK_PATH_CNT_AUTH_FAIL (2 * p + path))).raise wYOK 4 noSub

/-- The key generation of a frame has keys: it can be authenticated. -/
def State.authOk (s : State) (h : YokeHdr) : Bool := h.auth && s.genLoaded h.pair h.gen && s.pairsOn.contains h.pair.val

/-- Notes a control frame's CSN; false where it is not above the highest accepted (R329). -/
def State.csnTake (s : State) (h : YokeHdr) : State × Bool :=
  let y := s.pairAt h.pair
  let top := if h.path = 0 then y.csnA else y.csnB
  if h.seq.toNat ≤ top then (s, false)
  else (s.onPair h.pair fun y => if h.path = 0 then { y with csnA := h.seq.toNat } else { y with csnB := h.seq.toNat }, true)

/-! ## The resilver (R350 to R352) -/

/-- The resilver or resync stops. -/
def State.rsvEnd (s : State) : State :=
  (((s.onYk fun y => { y with rsv := none }).wr YOK_RSV_CTL_BUSY 0).wr YOK_RSV_CTL_KEYWAIT 0).wr YOK_STS_RSV_BUSY 0

/-- The entries that carry a page to the twin (R350), line by line where two pairs share it. -/
def State.pageEntries (s : State) (p : Nat) : List YokeEntry :=
  let e := s.tierOf p
  let g := BitVec.ofNat 34 p
  let full := fun i => YokeEntry.full (BitVec.ofNat 40 (p * 64 + i)) [(s.peek (p * 64 + i)).1]
  match e.state with
  | .unwritten =>
    if s.fab.cb.any fun l => pageOf l.line == p then (.pageUnwritten g) :: ((s.fab.cb.filter fun l => pageOf l.line == p).map fun l => full (l.line % 64))
    else [.pageUnwritten g]
  | .poisoned =>
    let m := ((s.poisonRec p).map fun x => x.mask).getD 0
    (.pagePoison g (Fin.ofNat 4 e.psrc)) :: ((List.range 64).filter fun i => m.getLsbD i).filterMap fun i =>
      match e.frame, s.rgnOfPage p with
      | some f, some r => some (.full (BitVec.ofNat 40 (p * 64 + i)) [s.frameLine f (p * 64 + i) (s.rgnKey r)])
      | _, _ => none
  | _ =>
    if s.on YOK_CTL_PAIRS then (List.range 64).map full
    else [.full (BitVec.ofNat 40 (p * 64)) ((List.range 64).map fun i => (s.peek (p * 64 + i)).1)]

/-- The page after the one just copied: the next page, or for a resync the next marked granule. -/
def State.rsvNextPage (s : State) (v : Resilver) : Nat :=
  let n := v.page + 1
  if v.resync && n % 16384 = 0 then
    (((s.rsvMarks v.region).filter fun g => decide (n / 16384 ≤ g)).foldl min (2 ^ 40)) * 16384
  else n

/-- Can the resilver not yet read a page: being poisoned, or with a line that cannot be read (R350)? -/
def State.pageBlocked (s : State) (p : Nat) : Bool :=
  let e := s.tierOf p
  e.state != .poisoned && (e.poison || (e.state != .unwritten && (List.range 64).any fun i => (s.peek (p * 64 + i)).2))

/-- Queues the entries of the resilver's next page, and a CHECKPOINT after each GiB or granule (R342, R352). The page is read
in its lines' lock order; with the region's key slot empty the copy pauses. -/
def State.rsvFill (s : State) : State :=
  match s.yk.rsv with
  | none => s
  | some v =>
    let last := (s.rgnBase v.region + s.rgnSize v.region) * 262144
    if last ≤ v.page || (s.unacked.any fun e => e.cls == 3 && s.yk.pairs.any fun q => q.queue.contains e) then s
    else if !s.keyLoaded (s.rd (TIN_RGN_ATTR_KEY_SLOT v.region)) then s.wr YOK_RSV_CTL_KEYWAIT 1
    else if s.pageBlocked v.page then s
    else
      let s0 := s.wr YOK_RSV_CTL_KEYWAIT 0
      let s1 := (s0.pageEntries v.page).foldl (fun t e =>
        t.yokeQueue (t.pairOf ((entLine e).getD (v.page * 64))) ⟨e, v.region, none, 3, t.now⟩) s0
      let step := if v.resync then 16384 else 262144
      let s2 := if (v.page + 1) % step = 0 then
          s1.pairsOn.foldl (fun t p => t.yokeQueue p ⟨.checkpoint (BitVec.ofNat 34 (v.page + 1 - if v.resync then step else 0)), v.region, none, 3, t.now⟩) s1
        else s1
      s2.onYk fun y => { y with rsv := some { v with page := s.rsvNextPage v } }

/-- A CHECKPOINT is acknowledged on every pair: the position advances, or the granule's mark clears; the copy may have ended
(R322, R342, R352). -/
def State.rsvAcked (s : State) (e : YSent) : State :=
  match e.ent, s.yk.rsv with
  | .checkpoint g, some v =>
    if v.region != e.region || s.unacked.any fun x => x.cls == 3 && x.ent == e.ent then s
    else
      let n := g.toNat / 16384
      let lag := s.rgnClass v.region = 2 && s.yk.lagT.any fun x => x.1 == n
      let s1 := if !v.resync then s.wr YOK_RSV_POS_PAGE g.toNat
        else if lag then s.onYk fun y => { y with lagOnly := y.lagOnly.filter (fun x => x != n) ++ [n] }
        else s.mark n false
      if v.stop then s1.rsvEnd else s1
  | _, _ => s

/-- A copy whose last entry has been acknowledged ends (R322): MIRRORED; or RESYNCING while granules are marked and the region has left
SPLIT. -/
def State.rsvDone (s : State) : State :=
  match s.yk.rsv with
  | none => s
  | some v =>
    let last := (s.rgnBase v.region + s.rgnSize v.region) * 262144
    if decide (v.page < last) || (s.unacked.any fun e => e.region == v.region && e.cls == 3) then s
    else
      let owes := s.yk.owesRsv.contains v.region
      let s1 := s.rsvEnd.onYk fun y => { y with owesRsv := y.owesRsv.filter fun x => x != v.region }
      if (s1.rsvMarks v.region).isEmpty || !(owes || v.resync) then (s1.setYok v.region 2).rsvKick
      else ((s1.setYok v.region 4).onYk fun y => { y with rsvQ := y.rsvQ ++ [v.region] }).rsvKick

/-! ## Sending (R333, R336) -/

/-- The most bytes of entries in a datagram (R327, R328): the IP MTU less the IP and UDP headers, the frame header, the tag. -/
def State.frameRoom (s : State) (p : Nat) : Nat :=
  let v := getBits (s.rd (YOK_PATHDESC_DATA (32 * p + 2))) 0 8
  9000 - (if v = 6 then 40 else 20) - 8 - 32 - 16

/-- The longest prefix of entries that fits. -/
def fitEntries : Nat → List YSent → List YSent
  | _, [] => []
  | room, e :: t => if entrySize e.ent ≤ room then e :: fitEntries (room - entrySize e.ent) t else []

/-- YOKE_FRAME_SEND (R333): the entries of the first class that waits, as many as fit, leave under the next FSN. -/
def execYokeFrameSend (p : Fin 2) (s : State) : Res :=
  .next (
    let s0 : State := if (s.pairAt p).queue.isEmpty then s.rsvFill else s
    let y := s0.pairAt p
    if !y.keyed || (s0.usable p).isEmpty || !s0.twinUp || y.queue.isEmpty || decide (536870912 < y.logBytes + 9000) then s
    else
      let cls := y.queue.foldl (fun m e => min m e.cls) 3
      let ents := fitEntries (s0.frameRoom p) (y.queue.filter fun e => e.cls == cls)
      let f : YFrame := { fsn := y.txFsn, gen := s0.on (YOK_PAIR_KEYGEN p), ents := ents }
      let s1 := s0.onPair p fun q => { q with queue := q.queue.filter (fun e => !ents.contains e), log := q.log ++ [f], txFsn := q.txFsn + 1 }
      (s1.dataSend p f).showSeq p)

/-- Retransmits frames of the log (R336). -/
def State.retx (s : State) (p : Nat) (pick : YFrame → Bool) : State :=
  let s1 := s.onPair p fun y => { y with log := y.log.map fun f => if pick f then { f with attempt := f.attempt + 1 } else f }
  ((s1.pairAt p).log.filter pick).foldl (fun t f => (t.dataSend p f).bump YOK_CNT_RETX) s1

/-- An acknowledged point of a generation covers frames (R336, R346). -/
def State.takeAck (s : State) (p ack : Nat) (gen : Bool) : State :=
  let y := s.pairAt p
  let done := y.log.filter fun f => f.gen == gen && decide (f.fsn ≤ ack)
  if done.isEmpty then s
  else
    let ents := done.flatMap fun f => f.ents
    let s1 := s.onPair p fun q => { q with log := q.log.filter fun f => !(f.gen == gen && decide (f.fsn ≤ ack)) }
    let s2 := ents.foldl (fun t e => t.entAcked e) s1
    let s3 := ents.foldl (fun t e => (t.rsvAcked e).showLag e.region) s2
    let s4 := if ents.any fun e => e.ent == .genEnd then (s3.pathErase p gen).onPair p fun q => { q with oldTx := false } else s3
    (((s4.rsvDone).showSeq p).exclTidy).settle

/-- A refused entry puts its region in SPLIT (R322, R354). -/
def State.refusedEntry (s : State) (p fsn idx code : Nat) : State :=
  match (s.pairAt p).log.find? fun f => f.fsn == fsn with
  | none => s
  | some f =>
    match f.ents[idx]? with
    | none => s
    | some e =>
      let s1 := if s.on YOK_ERR_LAST_VALID then s
        else (((s.wr YOK_ERR_LAST_CODE code).wr YOK_ERR_LAST_REGION e.region).wr YOK_ERR_LAST_FSN fsn).wr YOK_ERR_LAST_VALID 1
      let s2 := s1.raise wYOK 5 noSub
      let st := s2.rd (YOK_RGN_STATE e.region)
      if st = 1 || st = 2 || st = 4 then ((s2.leaveMirror e.region 3).exclTidy).settle else s2

/-- YOKE_ACK_RECEIVE (R332, R335, R336). -/
def execYokeAckReceive (h : YokeHdr) (naks : List (BitVec 48 × BitVec 16)) (errs : List (BitVec 48 × Byte × Byte)) (s : State) : Res :=
  if !s.portUp (pathPort h.pair h.path) then .next s else
  let s := s.frameIn h.pair h.path
  .next (
    if !s.authOk h then s.authFail h.pair h.path
    else
      match s.csnTake h with
      | (_, false) => s
      | (s1, true) =>
        let s2 := s1.pathAlive h.pair h.path
        let s3 := errs.foldl (fun t e => t.refusedEntry h.pair e.1.toNat e.2.1.toNat e.2.2.toNat) s2
        let s4 := s3.takeAck h.pair h.ack.toNat h.akgen
        if naks.isEmpty then s4
        else s4.retx h.pair fun f => f.gen == h.akgen && naks.any fun n => decide (n.1.toNat ≤ f.fsn ∧ f.fsn < n.1.toNat + n.2.toNat))

/-- YOKE_GAP_TIMER (R335): the ACK names the gap. -/
def execYokeGapTimer (p : Fin 2) (s : State) : Res :=
  .next (if (s.naks p).isEmpty then s else s.ackSend p true)

/-- YOKE_RTO_EXPIRY (R336). -/
def execYokeRtoExpiry (p : Fin 2) (fsn : BitVec 48) (gen : Bool) (s : State) : Res :=
  .next (
    if (s.pairAt p).log.any fun f => f.fsn == fsn.toNat && f.gen == gen then s.retx p fun f => f.fsn == fsn.toNat && f.gen == gen else s)

/-- YOKE_HEARTBEAT (R330): HB on a path that has carried nothing, DOWN or not. -/
def execYokeHeartbeat (p path : Fin 2) (s : State) : Res :=
  .next (if s.on YOK_CTL_ENABLE && s.pairsOn.contains p.val && (s.pairAt p).keyed then s.ctlSend p path 0x03 [] else s)

/-! ## Paths (R338) -/

/-- YOKE_HB_RECEIVE (R330, R338). -/
def execYokeHbReceive (h : YokeHdr) (s : State) : Res :=
  if !s.portUp (pathPort h.pair h.path) then .next s else
  let s := s.frameIn h.pair h.path
  .next (
    if !s.authOk h then s.authFail h.pair h.path
    else
      match s.csnTake h with
      | (_, false) => s
      | (s1, true) => (s1.pathAlive h.pair h.path).takeAck h.pair h.ack.toNat h.akgen)

/-- PATH_DOWN_TIMER (R338): no authenticated frame for DOWN_US. -/
def execPathDownTimer (p path : Fin 2) (s : State) : Res := .next (s.pathDown p path)

/-- PATH_PROBATION_GAP (R338). -/
def execPathProbationGap (p path : Fin 2) (s : State) : Res :=
  .next (if s.pathState p path = 1 then s.pathDown p path else s)

/-- PATH_REJOIN (R338): REJOIN_S clean seconds in PROBATION. -/
def execPathRejoin (p path : Fin 2) (s : State) : Res :=
  .next (if s.pathState p path = 1 then s.setPath p path 2 else s)

/-- YOKE_STALL_TIMER (R339): a DATA frame not acknowledged for STALL_US since it was first sent. -/
def execYokeStallTimer (p : Fin 2) (s : State) : Res :=
  .next (if (s.pairAt p).log.isEmpty then s else s.twinLost)

/-! ## Handshake events -/

/-- YOKE_HELLO_RECEIVE (R343): the responder checks the serial and the pair count, makes the keys and answers. -/
def execYokeHelloReceive (p path : Fin 2) (serial : BitVec 128) (nonce : BitVec 256) (gen : Bool) (pairs : Fin 4) (s : State) : Res :=
  if !s.portUp (pathPort p path) then .next s else
  let s := s.frameIn p path
  .next (
    if !s.on YOK_CTL_ENABLE || !s.pairsOn.contains p.val || s.initiator then s
    else if serial.toNat != s.yk.serialTwin then (s.closeSend p path 9).hsFail p
    else if pairs.val != s.pairsOn.length then (s.closeSend p path 8).hsFail p
    else if !s.pairKeyed then s
    else
      let nr : BitVec 256 := (Config.freeLine s.fresh).setWidth 256
      let s1 := (s.onPair p fun y => { y with hand := .rsp, handGen := gen, nonceI := nonce, nonceR := nr }).draw
      let s2 := (s1.pathKeys p gen).wr (YOK_PAIR_HANDSHAKE p) 1
      s2.pathEmit p path (.yokeCtl p path 0x21 0 0 false (s2.hsPay nr gen)))

/-- YOKE_HELLO_RSP_RECEIVE (R343): the initiator checks, makes the keys and sends CONFIRM. -/
def execYokeHelloRspReceive (p path : Fin 2) (serial : BitVec 128) (nonce : BitVec 256) (gen : Bool) (pairs : Fin 4) (tag : Bool) (s : State) : Res :=
  if !s.portUp (pathPort p path) then .next s else
  let s := s.frameIn p path
  .next (
    let y := s.pairAt p
    if y.hand != .hello || gen != y.handGen then s
    else if serial.toNat != s.yk.serialTwin then (s.closeSend p path 9).hsFail p
    else if pairs.val != s.pairsOn.length then (s.closeSend p path 8).hsFail p
    else if !tag then ((s.authFail p path).closeSend p path 7).hsFail p
    else
      let s1 := (s.onPair p fun y => { y with nonceR := nonce }).pathKeys p gen
      ((s1.pathEmit p path (.yokeCtl p path 0x22 0 0 false [])).pathAlive p path).hsDone p)

/-- YOKE_CONFIRM_RECEIVE (R343): the responder checks the tag, and the new keys are in force. -/
def execYokeConfirmReceive (p path : Fin 2) (tag : Bool) (s : State) : Res :=
  if !s.portUp (pathPort p path) then .next s else
  let s := s.frameIn p path
  .next (
    if (s.pairAt p).hand != .rsp then s
    else if !tag then (((s.authFail p path).closeSend p path 7).pathErase p (s.pairAt p).handGen).hsFail p
    else (s.pathAlive p path).hsDone p)

/-- YOKE_HELLO_REPEAT (R343), every 1 ms until HELLO_RSP arrives; it also starts a pair's handshake while the twin is not
reachable. -/
def execYokeHelloRepeat (p : Fin 2) (s : State) : Res :=
  .next (
    if !s.on YOK_CTL_ENABLE || !s.pairsOn.contains p.val then s
    else if (s.pairAt p).hand == .hello then s.helloSend p
    else if (s.pairAt p).hand == .idle && !(s.pairAt p).keyed then s.hsStart p
    else s)

/-- YOKE_CLOSE_RECEIVE (R330, R339): the handshake ends in error. -/
def execYokeCloseReceive (p path : Fin 2) (reason : Byte) (s : State) : Res :=
  if !s.portUp (pathPort p path) then .next s else
  let s := s.frameIn p path
  .next (
    if (s.pairAt p).hand == .idle then s
    else
      let s1 := if s.on YOK_ERR_LAST_VALID then s
        else (((s.wr YOK_ERR_LAST_CODE reason.toNat).wr YOK_ERR_LAST_REGION 0).wr YOK_ERR_LAST_FSN 0).wr YOK_ERR_LAST_VALID 1
      (if reason = 7 then s1.authFail p path else s1).hsFail p)

/-- KEYGEN_ROLLOVER (R345). -/
def execKeygenRollover (p : Fin 2) (s : State) : Res :=
  .next (if (s.pairAt p).keyed && (s.pairAt p).hand == .idle && !(s.pairAt p).oldTx then s.hsStart p else s)

/-- Path keys lost or erased: the pairs have no key in force, and the twin is lost (R345). -/
def State.pathKeysLost (s : State) : State :=
  (s.onYk fun y => { y with pairs := y.pairs.map fun q => { q with keyed := false, hand := .idle } }).twinLost

/-- ENABLE set: every enabled pair starts its handshake; cleared: UNPAIRED (R356). -/
def State.yokEnable (s : State) (on : Bool) : State :=
  let was := s.on YOK_CTL_ENABLE
  let s1 := s.wr YOK_CTL_ENABLE (if on then 1 else 0)
  if on && !was then s1.pairsOn.foldl (fun t p => t.hsStart p) ((s1.wr YOK_STS_TWIN 1).showPaths)
  else if !on && was then
    let s2 := (s1.twinLost).onYk fun y => { y with pairs := y.pairs.map fun q => { q with keyed := false, hand := .idle } }
    ((s2.wr YOK_STS_TWIN 0).cond wYOK 3 noSub false).showPaths
  else s1

/-! ## Heals (R347 to R349) -/

/-- The source of a heal as this side holds it: status of R354, and its lines. -/
def State.healSource (s : State) (line : Nat) (page : Bool) : Nat × List Line :=
  match s.rgnOfLine line with
  | none => (1, [])
  | some r =>
    let ls := if page then (List.range 64).map fun i => line / 64 * 64 + i else [line]
    if s.rgnClass r = 0 then (1, [])
    else if (s.tierOf (pageOf line)).state == .poisoned then (5, [])
    else if s.rd (YOK_RGN_ROLE r) = 0 && s.yk.marks.contains (granuleOf line) then (6, [])
    else if ls.any fun l => (s.peek l).2 then (4, [])
    else (0, ls.map fun l => (s.peek l).1)

/-- HEAL_RSP (R330). -/
def State.healRsp (s : State) (p num st : Nat) (d : List Line) : State :=
  s.ctlAll p 0x05 (leBytes num 4 ++ [BitVec.ofNat 8 st, 0, 0, 0] ++ d.flatMap fun x => leBytes x.toNat 64)

/-- Answers a heal (R348): the ACTIVE side by a HEAL entry behind every earlier write, the MIRROR side by HEAL_RSP. -/
def State.healAnswer (s : State) (q : HealIn) : State :=
  let p := s.pairOf q.line
  let (st, d) := s.healSource q.line q.page
  match s.rgnOfLine q.line with
  | some r =>
    if st = 0 && s.rd (YOK_RGN_ROLE r) = 0 then s.yokeQueue p ⟨.heal (BitVec.ofNat 32 q.num) (BitVec.ofNat 40 q.line) d, r, none, 2, s.now⟩
    else s.healRsp p q.num st d
  | none => s.healRsp p q.num st []

/-- Has the applied point of each pair passed every frame before the FSN named (R346, R348)? -/
def State.healReady (s : State) (q : HealIn) : Bool :=
  s.pairsOn.all fun p =>
    match q.need[p]? with
    | none => true
    | some (g, n) => (s.pairAt p).rxGen == g && decide (n ≤ (s.pairAt p).applied + 1)

/-- Answers the heals that need wait no longer. -/
def State.healPump (s : State) : State :=
  let go := s.yk.healIn.filter fun q => s.healReady q
  go.foldl (fun t q => t.healAnswer q) (s.onYk fun y => { y with healIn := y.healIn.filter fun q => !s.healReady q })

/-- HEAL_REQ_RECEIVE (R348). With 64 requests held the answer is BUSY. -/
def execHealReqReceive (h : YokeHdr) (num : BitVec 32) (page : Bool) (line : BitVec 40) (g0 g1 : Bool) (n0 n1 : BitVec 48) (s : State) : Res :=
  if !s.portUp (pathPort h.pair h.path) then .next s else
  let s := s.frameIn h.pair h.path
  .next (
    if !s.authOk h then s.authFail h.pair h.path
    else
      match s.csnTake h with
      | (_, false) => s
      | (s1, true) =>
        let s2 := (s1.pathAlive h.pair h.path).takeAck h.pair h.ack.toNat h.akgen
        if 64 ≤ s2.yk.healIn.length then s2.healRsp h.pair num.toNat 0x0A []
        else if s2.yk.healIn.any fun q => q.num == num.toNat then s2
        else
          (s2.onYk fun y => { y with healIn := y.healIn ++
            [{ num := num.toNat, line := line.toNat, page := page, need := [(g0, n0.toNat), (g1, n1.toNat)] }] }).healPump)

/-- Healed data reaches a page in a new frame, or in the one it holds (R239, R241). Lines that a write has overtaken keep it. -/
def State.healPage (s : State) (h : Heal) (d : List Line) (frame : Nat) : State :=
  let p := pageOf h.line
  let e := s.tierOf p
  let r := (s.rgnOfPage p).getD e.region
  let key := s.rgnKey r
  let fill := fun (t : State) (f : Nat) => ((List.range 64).zip d).foldl (fun u x =>
    if h.overw.getLsbD x.1 && e.frame.isSome then u else u.writeLine f (p * 64 + x.1) key x.2 fullMask) t
  let s1 := s.onWin fun w => { w with poisoning := w.poisoning.filter (fun q => q.page != p), poisonT := w.poisonT.filter fun x => x.1 != p }
  match e.frame with
  | some f =>
    let st := if e.state == .dramClean || e.state == .dramDirty then TierState.dramDirty else .dramOnly
    ((fill s1 f).setTier p { e with state := st, dirty := true, poison := false, psrc := 0 }).wakePage p
  | none =>
    let s2 := (fill (((s1.setFrame frame (.page p)).zeroFrame frame key)) frame).setFur p none
    ((s2.setTier p { state := .dramOnly, frame := some frame, dirty := true, heat := e.heat, pinned := e.pinned, migrating := e.migrating, region := r }).dropHints p).wakePage p

/-- A heal that has succeeded (R348). -/
def State.healOk (s : State) (h : Heal) (d : List Line) (frame : Nat) : State :=
  let s1 := ((s.healEnd h).bump YOK_HEAL_CNT_HEALED).onYk fun y => { y with healEnded := if h.why == .command then y.healEnded ++ [(h.num, 0)] else y.healEnded }
  let s2 := if h.win = wHRW then s1.bump HRW_CNT_HEALED else s1
  match h.why with
  | .poison | .flash | .command | .resow => (((s2.healPage h d frame).drainSort).exclTidy).settle
  | _ =>
    match d with
    | [] => s2
    | x :: _ =>
      let wait := s2.fab.act.filter fun r => r.line == h.line && r.phase == .page
      let s3 := wait.foldl (fun t r => match t.reqOf r.id with
        | none => t
        | some q => t.served q x false false false) s2
      if h.overw != 0 then (s3.exclTidy).settle
      else ((s3.exclTidy).submit { id := 0, src := .intern, kind := .write, line := h.line, mask := fullMask, data := x } {})

/-- A heal that has failed: its requester poisons (R349, R607). -/
def State.healBad (s : State) (h : Heal) (code : Nat) : State :=
  let p := pageOf h.line
  let s1 := (((s.healEnd h).bump YOK_HEAL_CNT_FAILED).raise wYOK 6 noSub).onYk fun y => { y with healEnded := if h.why == .command then y.healEnded ++ [(h.num, code)] else y.healEnded }
  let s2 := if h.win = wHRW then s1.bump HRW_CNT_POISONED else s1
  match h.why with
  | .command => s2
  | .poison =>
    match s2.win.poisoning.find? fun q => q.page == p with
    | some q => (((((s2.poisonWrite { q with cause := 7 }).wakePage p).drainSort).exclTidy).settle)
    | none => s2.poisonStart p 1 7 fullMask false
  | .flash | .resow => s2.poisonStart p 1 7 fullMask false
  | _ => s2.poisonStart p 1 7 (BitVec.ofNat 64 (2 ^ (h.line % 64))) false

/-- Does the healed page need a frame, and is the one offered free? -/
def State.healFits (s : State) (h : Heal) (frame : Nat) : Bool :=
  match h.why with
  | .cbLine | .dramLine => true
  | _ => (s.tierOf (pageOf h.line)).frame.isSome || (s.frameFree frame && s.headroom)

/-- Ends the heals that HEAL entries have answered. -/
def State.healDrain (s : State) (frame : Nat) : State :=
  s.yk.healDone.foldl (fun t x =>
    match t.yk.heals.find? fun h => h.num == x.1 with
    | none => t.onYk fun y => { y with healDone := y.healDone.filter fun z => z.1 != x.1 }
    | some h =>
      if t.healFits h frame then (t.onYk fun y => { y with healDone := y.healDone.filter fun z => z.1 != x.1 }).healOk h x.2.2 frame
      else t) s

/-- The first free frame at or above f among the next n. -/
def State.freeFrom (s : State) : Nat → Nat → Nat
  | 0, f => f
  | n + 1, f => if s.frameFree f then f else s.freeFrom n (f + 1)

/-- The lowest free frame. -/
def State.lowFrame (s : State) : Nat := s.freeFrom s.totalFrames s.sysFrames

/-- HEAL_RSP_RECEIVE (R348, R349): the data is written as an internal write, or the heal fails. A page healed without a frame
takes `frame`. -/
def execHealRspReceive (h : YokeHdr) (num : BitVec 32) (status : Byte) (data : List Line) (frame : BitVec 31) (s : State) : Res :=
  if !s.portUp (pathPort h.pair h.path) then .next s else
  let s := s.frameIn h.pair h.path
  .next (
    if !s.authOk h then s.authFail h.pair h.path
    else
      match s.csnTake h with
      | (_, false) => s
      | (s1, true) =>
        let s2 := ((s1.pathAlive h.pair h.path).takeAck h.pair h.ack.toNat h.akgen).healDrain frame.toNat
        match s2.yk.heals.find? fun x => x.num == num.toNat with
        | none => s2
        | some x =>
          if status = 0 then
            if s2.healFits x frame.toNat then s2.healOk x data frame.toNat
            else s2.onYk fun y => { y with healDone := y.healDone ++ [(x.num, x.line, data)] }
          else s2.healBad x status.toNat)

/-- HEAL_TIMEOUT (R349). -/
def execHealTimeout (num : BitVec 32) (s : State) : Res :=
  .next (
    match s.yk.heals.find? fun x => x.num == num.toNat with
    | none => s
    | some x => s.healBad x 0xFF)

/-! ## Receiving DATA (R334, R337) -/

/-- Bytes of a received frame. -/
def rxSize (ents : List YokeEntry) : Nat := 48 + (ents.map entrySize).sum

/-- Frames that arrived on one path alone count as missed on the other once 4,096 FSNs have gone by. -/
def State.missCount (s : State) (p fsn : Nat) : State :=
  let old := (s.pairAt p).seen.filter fun x => decide (x.1 + 4096 ≤ fsn)
  old.foldl (fun t x => t.bump (YOK_PATH_CNT_MISS (2 * p + (1 - x.2)))) (s.onPair p fun y => { y with seen := y.seen.filter fun x => decide (fsn < x.1 + 4096) })

/-- Room for a received frame: the 4 MiB FIFO, else Granary buffers up to SPILL_MAX, else none (R337). -/
def State.rxRoom (s : State) (p : Nat) (ents : List YokeEntry) : Option (State × List Nat) :=
  let used := (((s.pairAt p).held.filter fun f => f.bufs.isEmpty).map fun f => rxSize f.ents).sum
  if used + rxSize ents ≤ 4194304 then some (s, [])
  else
    let n := (rxSize ents + 4095) / 4096
    let out := (s.yk.pairs.map fun y => (y.held.map fun f => f.bufs.length).sum).sum
    if s.rd YOK_RX_SPILL_MAX < out + n then none
    else
      let (t, l) := (List.range n).foldl (fun (a : State × List Nat) _ =>
        match a.1.grnAlloc (s.rd GRN_CFG_YOKE_OWNER) with
        | (u, some b) => (u, a.2 ++ [b])
        | (u, none) => (u, a.2)) (s, [])
      if l.length = n then some (t.bump YOK_RX_CNT_SPILLED, l) else some (l.foldl (fun u b => u.grnRelease b) t, [0xFFFFFFFF])

/-- YOKE_DATA_RECEIVE (R334): a duplicate only makes an acknowledgement due; a new frame is authenticated, recorded and held,
and frames are applied in order. -/
def execYokeDataReceive (h : YokeHdr) (ents : List YokeEntry) (s : State) : Res :=
  if !s.portUp (pathPort h.pair h.path) then .next s else
  let s := s.frameIn h.pair h.path
  .next (
    let p := h.pair.val
    let y := s.pairAt p
    let fsn := h.seq.toNat
    let sameGen := h.gen == y.rxGen
    let dup := (sameGen && decide (fsn ≤ y.applied)) || (y.held.any fun f => f.fsn == fsn && f.gen == h.gen) ||
      (!sameGen && h.gen != s.on (YOK_PAIR_KEYGEN p))
    if dup then (s.onPair p fun q => { q with seen := q.seen.filter fun x => !(x.1 == fsn && x.2 != h.path.val) }).ackSend p false
    else if !s.authOk h then s.authFail p h.path
    else
      let s1 := (((s.pathAlive p h.path).takeAck p h.ack.toNat h.akgen).missCount p fsn).onPair p fun q => { q with seen := q.seen ++ [(fsn, h.path.val)] }
      let base := if sameGen then (s1.pairAt p).applied else 0
      if base + 4096 < fsn then s1.bump YOK_RX_CNT_WINDOW_DROP
      else
        match s1.rxRoom p ents with
        | none => s1.bump YOK_RX_CNT_WINDOW_DROP
        | some (t, [0xFFFFFFFF]) => t.bump YOK_RX_CNT_WINDOW_DROP
        | some (t, l) =>
          let t1 := t.onPair p fun q => { q with held := q.held ++ [{ fsn := fsn, gen := h.gen, ents := ents, bufs := l }] }
          let u := ((t1.rxPump p).settle).healPump
          if u.yk.healDone.isEmpty then u else u.healDrain u.lowFrame)

/-! ## Roles (R321) and lag -/

/-- This side takes the role MIRROR and writes a data-loss record for each granule it held marked (R321). -/
def State.roleLose (s : State) (r epoch : Nat) : State :=
  let g := s.rgnMarks r
  let s1 := g.foldl (fun t x => (t.dataLoss (x * 16384) r 1 8 0).mark x false) s
  (((s1.wr (YOK_RGN_ROLE r) 1).wr (YOK_RGN_EPOCH r) epoch).setYok r 4)

/-- This side resyncs the region: marked granules are copied (R321, R342); a resilver that is owed comes first (R322). -/
def State.roleWin (s : State) (r : Nat) (marks : List Nat) : State :=
  let s1 := marks.foldl (fun t g => if t.yk.marks.contains g then t else t.mark g true) s
  let st := if s1.yk.owesRsv.contains r then 1 else if (s1.rgnMarks r).isEmpty then 2 else 4
  let s2 := s1.setYok r st
  if st = 2 then s2 else (s2.onYk fun y => { y with rsvQ := (y.rsvQ.filter fun x => x != r) ++ [r] }).rsvKick

/-- ROLE_RESOLVE (R321): both sides' ANNOUNCE entries settle a region in SPLIT. `marks` is the change map that a losing twin
sends. -/
def execRoleResolve (r : Fin 256) (marks : List (BitVec 20)) (s : State) : Res :=
  .next (
    match s.yk.twinSaid.find? fun x => x.1 == r.val with
    | none => s
    | some (_, role, epoch) =>
      let own := s.rd (YOK_RGN_EPOCH r)
      let me := s.rd (YOK_RGN_ROLE r)
      let s0 := s.onYk fun y => { y with twinSaid := y.twinSaid.filter fun x => x.1 != r.val }
      let ms := marks.map fun m => m.toNat
      if s.rd (YOK_RGN_STATE r) != 3 || !s.twinUp then s
      else if me = 0 && role = 1 then
        if own < epoch then (s0.roleLose r epoch) else s0.roleWin r []
      else if me = 1 && role = 0 then
        if epoch < own then (s0.wr (YOK_RGN_ROLE r) 0).roleWin r ms else (s0.wr (YOK_RGN_EPOCH r) epoch).setYok r 4
      else if me = 0 && role = 0 then
        if epoch < own || (epoch == own && decide (s.yk.serialTwin < s.serial)) then (s0.raise wYOK 7 noSub).roleWin r ms
        else (s0.raise wYOK 7 noSub).roleLose r epoch
      else s0.raise wYOK 7 noSub)

/-- LAG_LIMIT_RESUME (R325). -/
def execLagLimitResume (req : Nat) (env : FabEnv) (s : State) : Res :=
  .next (
    match s.reqOf req with
    | none => s
    | some r =>
      let s1 := s.showLag r.region
      if r.phase == .lag && !s1.lagHeld r.region r.line then (((s1.proceed r env).exclTidy).settle) else s1)

/-- GRANULE_CLEAR_TIMER (R341): 1 s after the last line of the granule was handed over, with every one acknowledged. -/
def execGranuleClearTimer (g : BitVec 20) (s : State) : Res :=
  .next (
    match s.rgnOfGib (g.toNat / 16) with
    | none => s
    | some r =>
      let st := s.rd (YOK_RGN_STATE r)
      if s.rgnClass r = 2 && (st == 1 || st == 2 || st == 4 || st == 5) && s.yk.lagOnly.contains g.toNat &&
          !(s.unacked.any fun e => e.cls == 1 && (entLine e.ent).any fun l => granuleOf l == g.toNat) then
        (s.mark g.toNat false).onYk fun y => { y with lagT := y.lagT.filter fun x => x.1 != g.toNat }
      else s)

/-! ## Control -/

/-- A write of YOK_RSV_CTL.GO: ignored and recorded while BUSY is 1. `v` is the value written less GO and STOP. -/
def State.writeRsvGo (s : State) (a : Agent) (v : Nat) : State :=
  if s.on YOK_RSV_CTL_BUSY then s.ignored a YOK_RSV_CTL (2 ^ 31 + v)
  else
    let r := getBits v 16 8
    let s1 := (s.wr YOK_RSV_CTL_REGION r).wr YOK_RSV_CTL_RATE_PCT (getBits v 8 8)
    let st := s1.rd (YOK_RGN_STATE r)
    if s1.rd (YOK_RGN_ROLE r) = 0 && (st == 1 || st == 4) then s1.rsvStart r else s1

/-- RESILVER_GO (R350). -/
def execResilverGo (a : Agent) (v : BitVec 30) (s : State) : Res :=
  .next (s.atReg a YOK_RSV_CTL (2 ^ 31 + v.toNat) fun t => t.writeRsvGo a v.toNat)

/-- A write of YOK_RSV_CTL.STOP: the copy stops at the next checkpoint. -/
def State.writeRsvStop (s : State) : State :=
  s.onYk fun y => { y with rsv := y.rsv.map fun v => { v with stop := true } }

/-- RESILVER_STOP (R350, R503). -/
def execResilverStop (a : Agent) (s : State) : Res := .next (s.atReg a YOK_RSV_CTL (2 ^ 30) fun t => t.writeRsvStop)

/-- A write of YOK_CTL.PAIRS (R316): applied only while every region is NONE or SPLIT. -/
def State.writePairs (s : State) (a : Agent) (on : Bool) : State :=
  if (List.range 256).all fun r => s.rd (YOK_RGN_STATE r) == 0 || s.rd (YOK_RGN_STATE r) == 3 then s.wr YOK_CTL_PAIRS (if on then 1 else 0)
  else s.ignored a YOK_CTL (if on then 2 ^ 30 else 0)

/-- YOKE_PAIRS_WRITE (R316). -/
def execYokePairsWrite (a : Agent) (on : Bool) (s : State) : Res :=
  .next (s.atReg a YOK_CTL (if on then 2 ^ 30 else 0) fun t => t.writePairs a on)

/-! ## The twin relay (R355, R457) -/

/-- YOKE_MBX_RECEIVE: the frame's message enters its channel's IN slot once, and is acknowledged when it has; while the slot
is FULL the frame is held (R454). A message already delivered is only acknowledged again. -/
def execYokeMbxReceive (h : YokeHdr) (c : Fin 64) (hdr : Word64) (msg : List Byte) (s : State) : Res :=
  if !s.portUp (pathPort h.pair h.path) then .next s else
  let s := s.frameIn h.pair h.path
  .next (
    if !s.authOk h then s.authFail h.pair h.path
    else
      match s.csnTake h with
      | (_, false) => s
      | (s1, true) =>
        let s2 := (s1.pathAlive h.pair h.path).takeAck h.pair h.ack.toNat h.akgen
        let r : RelayIn := ⟨c, hdr.toNat, msg, h.pair, h.path, h.seq.toNat⟩
        if c.val < 56 then s2
        else if s2.yk.relaySeen.contains (c.val, hdr.toNat) then s2.ctlSend h.pair h.path 0x07 (leBytes h.seq.toNat 8)
        else if s2.mbxFull c false then
          if s2.mb.relay.any fun x => x.chan == c.val then s2 else s2.onMb fun m => { m with relay := m.relay ++ [r] }
        else s2.relayDeliver r)

/-- YOKE_MBX_ACK_RECEIVE: the OUT slot of the message sent under the CSN is emptied. -/
def execYokeMbxAckReceive (h : YokeHdr) (csn : BitVec 48) (s : State) : Res :=
  if !s.portUp (pathPort h.pair h.path) then .next s else
  let s := s.frameIn h.pair h.path
  .next (
    if !s.authOk h then s.authFail h.pair h.path
    else
      match s.csnTake h with
      | (_, false) => s
      | (s1, true) =>
        let s2 := (s1.pathAlive h.pair h.path).takeAck h.pair h.ack.toNat h.akgen
        match s2.yk.relay.find? fun r => r.2.contains (h.path.val, csn.toNat) with
        | none => s2
        | some r => (s2.onYk fun y => { y with relay := y.relay.filter fun x => x.1 != r.1 }).mbxEmpty r.1 true)

/-- YOKE_MBX_REPEAT: a message not acknowledged within RTO is sent again. -/
def execYokeMbxRepeat (c : Fin 64) (s : State) : Res :=
  .next (if s.yk.relay.any fun r => r.1 == c.val then s.relaySend c else s)

end Sys2Proof.Machine
end

