-- ==== Sys2Proof/Machine/Cipher.lean ====
section
/-!
DEFINITION. Machine/Cipher.lean: the cipher engine (chapter 13): key slots (R425 to R430, R671), alarms and zeroisation
(R432 to R438), lanes (R439, R440), firmware jobs (R422, R424), the replay of line records (R308).
-/
namespace Sys2Proof.Machine
open Sys2Proof

/-- Changes the cipher engine. -/
def State.onCph (s : State) (f : Cipher → Cipher) : State := { s with cph := f s.cph }

/-- What an EMPTY slot's store holds. -/
def key0 : Nat → Key := fun _ => 0

/-! ## Key slots -/

/-- Is a slot loaded? -/
def State.slotLoaded (s : State) (cls idx : Nat) : Bool :=
  if cls = 0 then s.keyLoaded idx
  else if cls = 1 then s.bitOf (CPH_CLOAD_BITS (idx / 32)) (idx % 32)
  else if cls = 2 then s.bitOf CPH_PFSLOT_PATH_LOADED idx
  else s.bitOf CPH_PFSLOT_FW_LOADED idx

/-- Shows whether a slot is loaded. -/
def State.showSlot (s : State) (cls idx : Nat) (v : Bool) : State :=
  if cls = 0 then s.wr (CPH_RSLOT_LOADED idx) (if v then 1 else 0)
  else if cls = 1 then s.wrBit (CPH_CLOAD_BITS (idx / 32)) (idx % 32) v
  else if cls = 2 then s.wrBit CPH_PFSLOT_PATH_LOADED idx v
  else s.wrBit CPH_PFSLOT_FW_LOADED idx v

/-- Replaces a slot's content at one instant. -/
def State.putKey (s : State) (cls idx : Nat) (k : Key) (v : Bool) : State :=
  (s.onCph fun c =>
    if cls = 0 then { c with rkey := mset key0 c.rkey idx k }
    else if cls = 1 then { c with ckey := mset key0 c.ckey idx k }
    else if cls = 2 then { c with pkey := mset key0 c.pkey idx k }
    else { c with fkey := mset key0 c.fkey idx k }).showSlot cls idx v

/-- Is a slot secure (R55, R425)? -/
def State.keySecure (s : State) (cls idx : Nat) : Bool :=
  if cls = 0 then s.slotSecure idx else if cls = 3 then decide (idx < 8) else false

/-- Valid or releasing regions that name a region slot. -/
def State.slotNamed (s : State) (idx : Nat) : Nat :=
  ((List.range 256).filter fun r => (s.rgnValid r || s.rgnReleasing r) && s.rd (TIN_RGN_ATTR_KEY_SLOT r) == idx).length

/-- Slots of a class (R425). -/
def slotCount (cls : Nat) : Nat := if cls = 0 then 256 else if cls = 1 then 4096 else if cls = 2 then 8 else 16

/-- The key in a core's staging registers. -/
def State.staged (s : State) (a : Agent) : Key :=
  BitVec.ofNat 512 ((List.range 16).foldl (fun n k => n + s.rd ((CPH_KLD_KEY k).bank a) * 2 ^ (32 * k)) 0)

/-- Zeroes a core's staging registers. -/
def State.clearStaging (s : State) (a : Agent) : State := (List.range 16).foldl (fun t k => t.wr ((CPH_KLD_KEY k).bank a) 0) s

/-- Reports a result and the KCV in a core's bank. -/
def State.slotResult (s : State) (a : Agent) (r : Nat) : State := (s.wr (CPH_SLOT_STS_RESULT.bank a) r).wr (CPH_SLOT_STS_BUSY.bank a) 0

/-- The result of a LOAD, in the order of R427: 8 RANGE, 5 CLASS, 6 ALARM_ACTIVE, 4 WORLD_DENIED, 3 WEAK, 1 IN_USE, 2
KCV_MISMATCH (R428, R429, R438). -/
def State.loadResult (s : State) (a : Agent) (cls idx : Nat) (k : Key) : Nat :=
  if slotCount cls ≤ idx then 8
  else if cls = 2 then 5
  else if s.on CPH_STS_ALARM_ACTIVE || s.rd CPH_STS_STATE != 1 then 6
  else if !s.agentSecure a && s.keySecure cls idx then 4
  else if cls = 0 && k.setWidth 256 == (k >>> 256).setWidth 256 then 3
  else if cls = 0 && s.keyLoaded idx && s.slotNamed idx != 0 then 1
  else if cls = 1 && (s.connAt idx).state != 0 then 1
  else if cls = 0 && !s.keyLoaded idx && s.on (CPH_RSLOT_KCV_SET idx) && s.rd (CPH_RSLOT_KCV idx) != (kcv k).toNat then 2
  else 0

/-! ## Replay of line records (R308) -/

/-- Replays one line record: an internal write in its line's lock order; a record with POISON heals or poisons its page; one
whose region is gone is discarded. -/
def State.replayOne (s : State) (l : LineRec) : State :=
  if !s.rgnValid l.region || s.rgnReleasing l.region then s
  else if l.poison then
    if s.healable (pageOf l.line) then
      (s.modTier (pageOf l.line) fun e => { e with poison := true }).healAsk (pageOf l.line * 64) true .resow wWIN
    else s.poisonStart (pageOf l.line) 1 4 (BitVec.ofNat 64 (2 ^ (l.line % 64))) false
  else s.submit { id := 0, src := .intern, kind := .write, line := l.line, mask := l.mask, data := l.data } {}

/-- The line records of the regions that name a slot are replayed. -/
def State.replaySlot (s : State) (slot : Nat) : State :=
  let mine := fun (l : LineRec) => s.rd (TIN_RGN_ATTR_KEY_SLOT l.region) == slot || !s.rgnValid l.region
  let keep := s.hv.replay.filter fun l => !mine l
  let s1 : State := { s with hv := { s.hv with replay := keep } }
  (s.hv.replay.filter mine).foldl (fun t l => t.replayOne l) (s1.wr HRV_REPLAY_PENDING keep.length)

/-! ## Slot commands -/

/-- A key has entered a region slot: its line records are replayed, its drains may go on, a copy that waits for it goes on
(R308, R350, R436). -/
def State.regionKeyed (s : State) (idx : Nat) : State :=
  let s1 := s.replaySlot idx
  let s2 := match s1.yk.rsv with
    | some v => if s1.rd (TIN_RGN_ATTR_KEY_SLOT v.region) = idx then s1.wr YOK_RSV_CTL_KEYWAIT 0 else s1
    | none => s1
  s2.settle

/-- A LOAD (R427, R428). -/
def State.keyLoad (s : State) (a : Agent) (cls idx : Nat) : State :=
  let k := s.staged a
  let r := s.loadResult a cls idx k
  let s1 := ((s.clearStaging a).wr (CPH_SLOT_STS_KCV.bank a) (kcv k).toNat).slotResult a r
  if r != 0 then s1
  else
    let s2 := (s1.putKey cls idx k true).bump CPH_CNT_LOADS
    if cls = 0 then ((s2.wr (CPH_RSLOT_KCV idx) (kcv k).toNat).wr (CPH_RSLOT_KCV_SET idx) 1).regionKeyed idx
    else if cls = 1 then
      (s2.wrBit (CPH_CUSED_BITS (idx / 32)) (idx % 32) false).wrBit (CPH_CSEC_BITS (idx / 32)) (idx % 32) (s.agentSecure a)
    else s2

/-- A path key of the generation in force has gone: the twin is lost (R339). -/
def State.pathKeyGone (s : State) (idx : Nat) : State :=
  let p := idx / 4
  if (s.pairAt p).keyed && (idx % 2 == s.rd (YOK_PAIR_KEYGEN p)) then
    (s.onPair p fun y => { y with keyed := false, hand := .idle }).twinLost
  else s

/-- An ERASE (R429). -/
def State.keyErase (s : State) (a : Agent) (cls idx : Nat) : State :=
  if slotCount cls ≤ idx then s.slotResult a 8
  else if !s.agentSecure a && s.keySecure cls idx then s.slotResult a 4
  else
    let s1 := (s.putKey cls idx 0 false).slotResult a 0
    if cls = 2 then s1.pathKeyGone idx else s1

/-- A FORGET (R429). -/
def State.keyForget (s : State) (a : Agent) (cls idx : Nat) : State :=
  if slotCount cls ≤ idx then s.slotResult a 8
  else if cls != 0 then s.slotResult a 5
  else if s.slotNamed idx != 0 then s.slotResult a 1
  else ((s.putKey 0 idx 0 false).wr (CPH_RSLOT_KCV_SET idx) 0).slotResult a 0

/-- A write of CPH_SLOT_CMD with GO: the fields are stored in the core's bank, and the operation runs (R427, R441). -/
def State.slotCmd (s : State) (a : Agent) (op cls idx : Nat) : State :=
  let s1 := ((s.wr (CPH_SLOT_CMD_OP.bank a) op).wr (CPH_SLOT_CMD_CLASS.bank a) cls).wr (CPH_SLOT_CMD_INDEX.bank a) idx
  if op = 1 then s1.keyLoad a cls idx
  else if op = 2 then s1.keyErase a cls idx
  else if op = 3 then s1.keyForget a cls idx
  else s1

/-- The word a core writes to CPH_SLOT_CMD. -/
def slotWord (op cls idx : Nat) : Nat := 2 ^ 31 + op * 2 ^ 28 + cls * 2 ^ 26 + idx

/-- KEY_SLOT_LOAD (R428). -/
def execKeySlotLoad (a : Agent) (cls : Fin 4) (idx : BitVec 12) (s : State) : Res :=
  .next (s.atReg a CPH_SLOT_CMD (slotWord 1 cls idx.toNat) fun t => t.slotCmd a 1 cls idx.toNat)

/-- KEY_SLOT_ERASE (R429). -/
def execKeySlotErase (a : Agent) (cls : Fin 4) (idx : BitVec 12) (s : State) : Res :=
  .next (s.atReg a CPH_SLOT_CMD (slotWord 2 cls idx.toNat) fun t => t.slotCmd a 2 cls idx.toNat)

/-- KEY_SLOT_FORGET (R429). -/
def execKeySlotForget (a : Agent) (cls : Fin 4) (idx : BitVec 12) (s : State) : Res :=
  .next (s.atReg a CPH_SLOT_CMD (slotWord 3 cls idx.toNat) fun t => t.slotCmd a 3 cls idx.toNat)

/-- An OP that is none of LOAD, ERASE and FORGET: 0 and 4 to 7. -/
def noneOp (op : Fin 5) : Nat := if op = 0 then 0 else op.val + 3

/-- SLOT_CMD_NONE (R441). -/
def execSlotCmdNone (a : Agent) (op : Fin 5) (cls : Fin 4) (idx : BitVec 12) (s : State) : Res :=
  .next (s.atReg a CPH_SLOT_CMD (slotWord (noneOp op) cls idx.toNat) fun t => t.slotCmd a (noneOp op) cls idx.toNat)

/-! ## Firmware jobs (R422, R424, R430, R671) -/

/-- Bytes of Headland working memory. -/
def workBytes : Nat := 2147483648

/-- Does the job keep the limits of R422? -/
def FwJob.lenOk (j : FwJob) : Bool :=
  if j.mode = 0 then decide (16 ≤ j.len)
  else if j.mode = 1 then !j.dec || decide (j.len ≤ 65536)
  else if j.mode = 2 then decide (16 ≤ j.len) && j.len % 16 == 0
  else decide (1 ≤ j.len)

/-- The first job starts: its key is copied (R430). -/
def State.fwStart (s : State) : State :=
  match s.cph.fwq with
  | [] => s
  | j :: t =>
    if j.key.isSome then s
    else s.onCph fun c => { c with fwq := { j with key := some (if s.slotLoaded 3 j.slot then some (mget key0 c.fkey j.slot) else none) } :: t }

/-- Bytes of working memory from an offset; those beyond it read as free values. -/
def State.workRead (s : State) (off n : Nat) : List Byte :=
  (List.range n).map fun i => if off + i < workBytes then mget byte0 s.cph.work (off + i) else (Config.freeWord (s.fresh + i)).setWidth 8

/-- Writes bytes to working memory; those beyond it land nowhere. -/
def State.workWrite (s : State) (off : Nat) (d : List Byte) : State :=
  s.onCph fun c => { c with work := wrBytes c.work off (d.take (workBytes - off)) }

/-- What a job computes: its output, the tag, and the next chaining value. -/
def FwJob.run (j : FwJob) (k : Key) (aad d : List Byte) : List Byte × BitVec 128 × BitVec 128 :=
  let k1 : BitVec 256 := k.setWidth 256
  if j.mode = 0 then (xts k j.dec j.iv d, j.tag, j.iv)
  else if j.mode = 1 then
    let out := gcm k1 (j.iv.setWidth 96) d
    (out, gcmTag k1 (j.iv.setWidth 96) aad (if j.dec then d else out), j.iv)
  else if j.mode = 2 then
    let (o, n) := (if j.dec then cbcDec else cbcEnc) k1 (j.len / 16) j.iv d
    (o, j.tag, n)
  else
    let (o, n) := ctrRun k1 ((j.len + 15) / 16) j.iv d
    (o, j.tag, n)

/-- Ends the first job with a result; the next one starts. -/
def State.fwEnd (s : State) (j : FwJob) (r : Nat) : State :=
  (((s.onCph fun c => { c with fwq := c.fwq.drop 1 }).wr (CPH_FJ_CTL_RESULT.bank j.agent) r).wr (CPH_FJ_CTL_BUSY.bank j.agent) 0).fwStart

/-- A core's 128-bit register pair. -/
def State.rdPair (s : State) (lo hi : Fld) : BitVec 128 := BitVec.ofNat 128 (s.rd lo + 2 ^ 64 * s.rd hi)

/-- CPH_FJ_CTL.GO: the job is queued on the firmware lane; ignored while BUSY is 1 (R441). -/
def State.fwGo (s : State) (a : Agent) (mode slot : Nat) (dec : Bool) : State :=
  let s1 := ((s.wr (CPH_FJ_CTL_MODE.bank a) mode).wr (CPH_FJ_CTL_DECRYPT.bank a) (if dec then 1 else 0)).wr (CPH_FJ_CTL_SLOT.bank a) slot
  if s.on (CPH_FJ_CTL_BUSY.bank a) then s1
  else
    let j : FwJob := { agent := a, mode := mode, dec := dec, slot := slot, src := s.rd (CPH_FJ_SRC_OFFSET.bank a),
                       dst := s.rd (CPH_FJ_DST_OFFSET.bank a), len := s.rd (CPH_FJ_LEN_LEN.bank a), aad := s.rd (CPH_FJ_LEN_AAD_LEN.bank a),
                       iv := s.rdPair (CPH_FJ_IV_LO_IV.bank a) (CPH_FJ_IV_HI_IV.bank a), tag := s.rdPair (CPH_FJ_TAG_LO_TAG.bank a) (CPH_FJ_TAG_HI_TAG.bank a) }
    ((s1.wr (CPH_FJ_CTL_BUSY.bank a) 1).onCph fun c => { c with fwq := c.fwq ++ [j] }).fwStart

/-- FIRMWARE_JOB (R422). -/
def execFirmwareJob (a : Agent) (mode : Fin 4) (dec : Bool) (slot : Fin 16) (s : State) : Res :=
  .next (s.atReg a CPH_FJ_CTL (2 ^ 31 + mode.val * 2 ^ 24 + (if dec then 2 ^ 23 else 0) + slot.val) fun t => t.fwGo a mode slot dec)

/-- FIRMWARE_JOB_END (R424, R429, R435, R440, R671). -/
def execFirmwareJobEnd (s : State) : Res :=
  .next (
    match s.cph.fwq.head? with
    | none => s
    | some j =>
      if !s.on CPH_STS_FW_UP || s.cph.fwBad then s.fwEnd j 5
      else if !s.agentSecure j.agent && j.slot < 8 then s.fwEnd j 4
      else if !j.lenOk then s.fwEnd j 3
      else
        match j.key with
        | some (some k) =>
          if j.mode = 0 && k.setWidth 256 == (k >>> 256).setWidth 256 then s.fwEnd j 6
          else
            let na := if j.mode = 1 then j.aad else 0
            let src := s.workRead j.src (na + j.len)
            let s0 : State := { s with fresh := s.fresh + na + j.len }
            let (out, tag, next) := j.run k (src.take na) (src.drop na)
            if j.mode = 1 && j.dec && tag != j.tag then s0.fwEnd j 1
            else
              let s1 := s0.workWrite j.dst out
              let s2 := if j.mode = 1 && !j.dec then
                  (s1.wr (CPH_FJ_TAG_LO_TAG.bank j.agent) tag.toNat).wr (CPH_FJ_TAG_HI_TAG.bank j.agent) (tag.toNat / 2 ^ 64)
                else if 2 ≤ j.mode then
                  (s1.wr (CPH_FJ_IV_LO_IV.bank j.agent) next.toNat).wr (CPH_FJ_IV_HI_IV.bank j.agent) (next.toNat / 2 ^ 64)
                else s1
              s2.fwEnd j 0
        | _ => (s.keyLost 3 j.slot).fwEnd j 2)

/-! ## Alarms and zeroisation (R432 to R438) -/

/-- CPH_STS.ALARM_ACTIVE and the fault cause ALARM follow CPH_ALARM_STS (R438, R599, R615). -/
def State.showAlarm (s : State) : State :=
  let m := s.rd CPH_ALARM_STS_SOURCE
  let s1 := s.wr CPH_STS_ALARM_ACTIVE (if m = 0 then 0 else 1)
  if m = 0 then s1.wrBit (FLT_LIVE_PRESENT wCPH) 2 false
  else if s1.bitOf (FLT_LIVE_PRESENT wCPH) 2 then s1
  else (s1.wrBit (FLT_LIVE_PRESENT wCPH) 2 true).raiseAs wCPH 2 noSub 0x09 [BitVec.ofNat 8 m]

/-- The combining-buffer lines of acknowledged data are zeroed, and each page affected is on its way into POISONED (R436). -/
def State.cbZero (s : State) : State :=
  let lines := s.fab.cb.map fun l => l.line
  let pages := (lines.map pageOf).eraseDups
  let s1 := lines.foldl (fun (t : State) l => ((t.cbDrop l).altMode l .shared).altTidy) s
  pages.foldl (fun (t : State) p =>
    let m := (lines.filter fun l => pageOf l == p).foldl (fun (b : LMask) l => b ||| BitVec.ofNat 64 (2 ^ (l % 64))) 0
    t.poisonStart p 1 6 m false) s1

/-- The frames that wait in Yoke's receive FIFOs are gone; one that is being applied goes on. -/
def State.rxDrop (s : State) : State :=
  (List.range 2).foldl (fun (t : State) p =>
    let y := t.pairAt p
    let stays := fun (f : YRx) => y.rxOp.isSome && f.fsn == y.applied + 1
    let gone := y.held.filter fun f => !stays f
    (gone.foldl (fun (u : State) f => f.bufs.foldl (fun v b => v.bufBack (some b)) u) t).onPair p fun y => { y with held := y.held.filter stays }) s

/-- Every slot, the device key and every staging bank are zero (R433 step 4). KCV_SET and KCV stay (R434). -/
def State.zeroKeys (s : State) : State :=
  let s1 := s.onCph fun c => { c with rkey := [], ckey := [], pkey := [], fkey := [], devKey := 0 }
  let s2 := (List.range 256).foldl (fun (t : State) i => if t.keyLoaded i then t.wr (CPH_RSLOT_LOADED i) 0 else t) s1
  let s3 := (List.range 128).foldl (fun (t : State) i => if t.rd (CPH_CLOAD_BITS i) = 0 then t else t.wr (CPH_CLOAD_BITS i) 0) s2
  let s4 := (s3.wr CPH_PFSLOT_FW_LOADED 0).wr CPH_PFSLOT_PATH_LOADED 0
  [Agent.h0, .h1, .h2, .h3].foldl (fun (t : State) a => t.clearStaging a) s4

/-- Steps 2 to 4 of R433 and their effects (R370, R435, R436). -/
def State.zeroise (s : State) : State :=
  let jobs := s.cph.fwq
  let s1 := jobs.foldl (fun (t : State) j => ((t.bump CPH_CNT_KEY_LOST).wr (CPH_FJ_CTL_RESULT.bank j.agent) 2).wr (CPH_FJ_CTL_BUSY.bank j.agent) 0)
    (s.onCph fun c => { c with fwq := [] })
  let s2 := if jobs.isEmpty then s1 else s1.raise wCPH 4 noSub
  let s3 := (s2.writeInvAll.wr DRL_STS_FIFO_KIB 0).zeroKeys
  let s4 := s3.dl.conns.foldl (fun (t : State) e => t.connClosed e.1 0) s3
  let s5 := (s4.rxDrop).pathKeysLost
  ((if s5.on CPH_CTL_CB_ZERO then s5.cbZero else s5).exclTidy).settle

/-- VDD_CORE is being switched on or off (R432). -/
def State.coreSwitching (s : State) : Bool :=
  (List.range 24).any fun n => s.on (PWR_RAIL_USED n) && s.on (PWR_RAIL_CORE n) && (s.rd (PWR_RSTS_STATE n) == 2 || s.rd (PWR_RSTS_STATE n) == 4)

/-- May a source raise an alarm (R432)? -/
def State.alarmArmed (s : State) (src : Nat) : Bool :=
  if src = 1 then s.on CPH_ALARM_EN_PIN_EN
  else if src = 2 then s.on CPH_ALARM_EN_VOLT_EN && !s.coreSwitching
  else if src = 3 then s.on CPH_ALARM_EN_TEMP_EN && !s.coreSwitching
  else true

/-- An alarm is raised (R433, R435). A second one during the steps of the first merges into it. -/
def State.alarm (s : State) (src : Nat) : State :=
  let s1 := (((s.wrBit CPH_ALARM_STS_SOURCE src true).bump CPH_CNT_ALARMS).cphLast 1 src 0 0).showAlarm
  if s.rd CPH_STS_STATE = 2 || s.rd CPH_STS_STATE = 3 then s1
  else (s1.zeroise).wr CPH_STS_STATE 3

/-- CIPHER_ALARM (R433). -/
def execCipherAlarm (src : Fin 7) (s : State) : Res :=
  .next (if s.powered wCPH && s.alarmArmed src then s.alarm src else s)

/-- CIPHER_FORCE (R432). -/
def execCipherForce (a : Agent) (s : State) : Res :=
  .next (s.atReg a CPH_CTL (2 ^ 30) fun t => t.alarm 5)

/-- The device key is derived; with no root STATE stays INIT (R431). -/
def State.rederive (s : State) : State :=
  if s.otpRoot = 0 then s.wr CPH_STS_STATE 0
  else (s.onCph fun c => { c with devKey := deviceKey s.otpRoot }).wr CPH_STS_STATE 1

/-- DEVICE_KEY_REDERIVED (R431, R433): at the end of an alarm, or after the engine's power-on or reset. -/
def execDeviceKeyRederived (s : State) : Res :=
  .next (if s.powered wCPH && (s.rd CPH_STS_STATE = 3 || s.rd CPH_STS_STATE = 0) then s.rederive else s)

/-- A write of CPH_ALARM_STS (R438): a source still present stays. -/
def State.writeAlarmSts (s : State) (v present : BitVec 7) : State :=
  (s.wr CPH_ALARM_STS_SOURCE ((BitVec.ofNat 7 (s.rd CPH_ALARM_STS_SOURCE)) &&& ~~~ (v &&& ~~~ present)).toNat).showAlarm

/-- ALARM_STATUS_CLEAR (R438). -/
def execAlarmStatusClear (a : Agent) (v : BitVec 7) (present : BitVec 7) (s : State) : Res :=
  .next (s.atReg a CPH_ALARM_STS v.toNat fun t => t.writeAlarmSts v present)

/-! ## Lanes (R439, R440) -/

/-- The lanes in service: not fenced, and not under test. -/
def State.lanesUp (s : State) (lo hi : Nat) : Nat :=
  ((List.range (hi - lo)).filter fun i => !s.cph.lanesOut.contains (lo + i) && s.cph.testing.head? != some (lo + i)).length

/-- CPH_STS and CPH_UNIT.DEGRADED follow the lanes. -/
def State.showLanes (s : State) : State :=
  ((((s.wr CPH_STS_XTS_UP (s.lanesUp 0 36)).wr CPH_STS_GCM_UP (s.lanesUp 36 68)).wr CPH_STS_FW_UP (s.lanesUp 68 69)).wr
    CPH_STS_SELFTEST_BUSY (if s.cph.testing.isEmpty then 0 else 1)).wr (UNIT_DEGRADED wCPH) (if s.cph.lanesOut.isEmpty then 0 else 1)

/-- Every lane is tested in turn; a self-test that runs goes on. -/
def State.selfTest (s : State) : State :=
  if s.cph.testing.isEmpty then (s.onCph fun c => { c with testing := List.range 69 }).showLanes else s

/-- CIPHER_SELFTEST (R440). -/
def execCipherSelftest (a : Agent) (s : State) : Res :=
  .next (s.atReg a CPH_CTL (2 ^ 31) fun t => t.selfTest)

/-- The lanes of a lane's kind (R439). -/
def laneKind (l : Nat) : Nat × Nat := if l < 32 then (0, 32) else if l < 36 then (32, 36) else if l < 68 then (36, 68) else (68, 69)

/-- A lane is fenced (R440), but for the last of its kind, which stays in service (R604); a failed firmware lane refuses every
job. -/
def State.laneFence (s : State) (l : Nat) : State :=
  let (lo, hi) := laneKind l
  let others := (List.range (hi - lo)).any fun i => lo + i != l && !s.cph.lanesOut.contains (lo + i)
  if s.cph.lanesOut.contains l then s
  else if s.holds wCPH then s.holdFence wCPH l 3 0 true
  else if others then (s.onCph fun c => { c with lanesOut := c.lanesOut ++ [l] }).fenceRec wCPH 1 true l 3 0
  else (s.onCph fun c => { c with fwBad := c.fwBad || l == 68 }).fenceRec wCPH 4 true l 3 0

/-- A lane fails its self-test (R440). -/
def State.laneFail (s : State) (l : Nat) : State := ((s.cphLast 2 0 l 0).raise wCPH 3 l).laneFence l

/-- A lane passes its self-test: it is in service. -/
def State.lanePass (s : State) (l : Nat) : State :=
  let s1 := s.onCph fun c => { c with lanesOut := c.lanesOut.filter (fun x => x != l), fwBad := c.fwBad && l != 68 }
  if s.cph.lanesOut.contains l then s1.fenceRec wCPH 2 true l 3 0 else s1

/-- LANE_TEST_END (R440). -/
def execLaneTestEnd (pass : Bool) (s : State) : Res :=
  .next (
    match s.cph.testing with
    | [] => s
    | l :: rest =>
      let s1 := s.onCph fun c => { c with testing := rest }
      (if pass then s1.lanePass l else s1.laneFail l).showLanes)

end Sys2Proof.Machine
end

