-- ==== Sys2Proof/Machine/DumpFormat.lean ====
section
/-!
DEFINITION. Machine/DumpFormat.lean: the layouts that reach the media: a tier-map entry (R213), the slot header (R298), a line-record
slot (R299) and the manifest of a dump (R300).
-/
namespace Sys2Proof.Machine
open Sys2Proof

/-- The code of a tier-map STATE (R213). -/
def TierState.code : TierState → Nat
  | .unwritten => 0 | .dramOnly => 1 | .dramClean => 2 | .dramDirty => 3 | .flashOnly => 4 | .poisoned => 5

/-- One bit of a layout. -/
def bit01 (b : Bool) : Nat := if b then 1 else 0

/-- A tier-map entry as it is stored (R213). -/
def TierEnt.word (e : TierEnt) : Nat :=
  e.state.code * 2 ^ 61 + e.heat * 2 ^ 53 + e.frame.getD 0x7FFFFFFF * 2 ^ 22 + bit01 e.dirty * 2 ^ 21 + bit01 e.poison * 2 ^ 20 +
    bit01 e.migrating * 2 ^ 19 + bit01 e.pinned * 2 ^ 18 + e.region * 2 ^ 10 + e.psrc * 2 ^ 8

/-- The header of a Harvest slot in clear (R298): its first word, DSEQ, MASK and the CRC over the slot's data and bytes 0 to 23. -/
def slotHeader (w0 dseq mask : Nat) (data : List Byte) : List Byte :=
  let h := leBytes w0 8 ++ leBytes dseq 8 ++ leBytes mask 8
  h ++ leBytes (Config.crc32 (data ++ h)).toNat 4 ++ List.replicate 4 0

/-- The header of a tier page's slot: KIND 2 (R298). -/
def DumpPage.header (p : DumpPage) (dseq : Nat) : List Byte :=
  slotHeader (p.page + p.ent.region * 2 ^ 34 + 2 * 2 ^ 42 + p.ent.state.code * 2 ^ 44 + p.ent.psrc * 2 ^ 47) dseq p.mask.toNat (rdBytes p.img.data 0 4096)

/-- The header of a metadata slot: KIND 3, with its part code and index within the part (R298). -/
def metaHeader (part idx dseq : Nat) (data : List Byte) : List Byte := slotHeader (part * 2 ^ 30 + idx + 3 * 2 ^ 42) dseq 0 data

/-- A line record of 80 bytes (R299). -/
def LineRec.bytes (r : LineRec) : List Byte :=
  leBytes (r.line * 64 + 2 ^ 63 + bit01 r.mw * 2 ^ 62 + bit01 r.poison * 2 ^ 61) 8 ++ leBytes r.mask.toNat 8 ++ leBytes r.data.toNat 64

/-- A line-record slot: up to 48 records, and zeros (R299). -/
def lineSlot (l : List LineRec) : List Byte := padTo 4096 ((l.take 48).flatMap LineRec.bytes)

/-- What a manifest says of the device and of the media, beside the dump itself (R300). The placement of the slots in the stripes is not
modelled: what follows from it (metadata slots, last row, stripes, the CRC over a channel's headers) are free values, numbered from `free`. -/
def State.dumpInfo (s : State) (ue : Nat) (fails : List Nat) : DumpInfo :=
  { eff := s.rd HRV_CAP_EFF_GIB, cap := s.rd TIN_DPA_LIMIT_CAP_GIB, width := (s.chansUp).length, ue := ue, fails := fails,
    drm := (((List.range 16).filter fun c => s.rd (DRM_STS_STATE c) == 5).map fun c => 2 ^ c).sum,
    tc := (((List.range 8).filter fun c => s.rd (TIN_CL_STS_STATE c) == 2).map fun c => 2 ^ c).sum,
    fc := (((List.range 32).filter fun c => s.rd (FUR_CH_STS_STATE c) == 4).map fun c => 2 ^ c).sum,
    luns := s.fur.retired, serial := (List.range 2).flatMap fun i => leBytes (mget (fun _ => (0 : Word64)) s.efl.otp i).toNat 8, free := s.fresh }

/-- The free value k of a manifest, in n bytes. -/
def DumpInfo.freeBytes (i : DumpInfo) (k n : Nat) : List Byte := leBytes (Config.freeWord (i.free + k)).toNat n

/-- The bytes 0x000 to 0xFFB of the manifest of a dump (R300). -/
def Dump.manifestHead (d : Dump) : List Byte :=
  let i := d.info
  let chan := fun c =>
    i.freeBytes (3 + 2 * c) 4 ++ leBytes (i.fails.filter fun b => b / 262144 == c).length 2 ++ [if i.fc.testBit c then 2 else 0, 0] ++ i.freeBytes (4 + 2 * c) 4 ++
      List.replicate 4 0
  padTo 0xFFC ([0x48, 0x52, 0x56, 0x4D] ++ leBytes 1 2 ++ [BitVec.ofNat 8 d.cause, BitVec.ofNat 8 d.outcome] ++ leBytes d.dseq 8 ++ leBytes d.start 8 ++
    leBytes d.sealAt 8 ++ i.serial ++ leBytes i.eff 4 ++ leBytes i.cap 4 ++ i.freeBytes 0 4 ++ leBytes d.lines.length 4 ++ leBytes d.pages.length 4 ++
    leBytes (d.used.headD 0) 4 ++ i.freeBytes 1 4 ++ [BitVec.ofNat 8 i.width, 0, 0, 0] ++ leBytes i.ue 4 ++
    leBytes (d.lines.filter fun l => l.poison).length 4 ++ leBytes i.fails.length 4 ++ i.freeBytes 2 4 ++ leBytes i.drm 2 ++ [BitVec.ofNat 8 i.tc, 0] ++
    leBytes i.fc 4 ++ leBytes (i.luns.map fun l => 2 ^ l).sum 64 ++ (List.range 32).flatMap chan)

/-- The manifest (R300): magic HRVM, and its CRC in the last four bytes. -/
def Dump.manifest (d : Dump) : List Byte := d.manifestHead ++ leBytes (Config.crc32 d.manifestHead).toNat 4

end Sys2Proof.Machine
end

