-- ==== Sys2Proof/Machine/FurCmds.lean ====
section
/-!
DEFINITION. Machine/FurCmds.lean: Furrow's commands and events (chapter 08).
-/
namespace Sys2Proof.Machine
open Sys2Proof

/-! ## The governor (R275 to R277) -/

/-- GOVERNOR_ADMIT (R259, R276): a cleaning or demotion of a dirty page is admitted while the allowance is 4,096 bytes or
more; while cleaning is forced a cleaning does not wait for the allowance (R288). -/
def execGovernorAdmit (page : BitVec 34) (s : State) : Res :=
  .next (
    let s1 := s.govAccrue.showGov
    match s1.moveOf page.toNat with
    | none => s1
    | some m =>
      if !m.admitted && (m.kind == .cleaning || m.kind == .demotion) && s1.furWrites &&
          (decide (4096 ≤ s1.rd FUR_GOV_ALLOW_BYTES) || (m.kind == .cleaning && s1.on HRV_STS_FORCED_CLEAN)) then
        let s2 := (s1.modMove page.toNat fun x => if x.kind == .cold then x else { x with admitted := true }).wr FUR_GOV_ALLOW_BYTES
          (s1.rd FUR_GOV_ALLOW_BYTES - 4096)
        ((s2.onFur fun u => { u with admitted := u.admitted + 4096 }).bump FUR_HOST_WR_CNT_COUNT).showGov
      else s1)

/-- The sum of R276: the erase cycles left in the native blocks in service. -/
def State.cyclesLeft (s : State) : Nat :=
  let e := s.rd FUR_ENDUR_NATIVE_PE
  let nat := s.fur.sbs.filter fun x => !s.sbReserve x.1
  let per := fun (sb : Nat) => (s.sbMembers sb).length * s.planes
  let listed := (nat.map fun x => per x.1 * (e - x.2.erases)).sum
  let rest := ((s.lunPos.map fun i => s.groups * per (i * 16384)).sum) - ((List.range 16).map fun i =>
    ((s.fur.sbs.filter fun x => x.1 / 16384 == i).length) * per (i * 16384)).sum
  listed + rest * e

/-- GOVERNOR_RECOMPUTE (R276, R277), every hour: G from the cycles and the life left and the amplification measured over
the last 7 days, X0 until 7 days have passed; never below the floor. -/
def execGovernorRecompute (s : State) : Res :=
  .next (
    if !s.on FUR_GEOM_LOCKED then s
    else
      let s1 := s.govAccrue
      let week := ((s1.fur.admitted, s1.fur.programmed) :: s1.fur.week).take 168
      let s2 := s1.onFur fun u => { u with week := week, admitted := 0, programmed := 0 }
      let left := lifeSec - (s2.now - s2.fur.formatAt) / 1000000000
      let adm := (week.map fun x => x.1).sum
      let prog := (week.map fun x => x.2).sum
      let cap := s2.rd TIN_DPA_LIMIT_CAP_GIB
      let c := cap * 1073741824
      let d := s2.dataArea cap
      let known := decide (168 ≤ week.length) && decide (0 < adm)
      let xn := if known then prog else 32 * d
      let xd := if known then adm else 62 * (d - c)
      let g := s2.marginPct * s2.cyclesLeft * s2.blockBytes * xd / (100 * max 1 left * max 1 xn)
      let floor := s2.fur.g0 * min 100 (s2.rd FUR_GOV_FLOOR_PCT) / 100
      let worn := decide (g < floor)
      let s3 := (s2.onFur fun u => { u with g := max g floor }).wr FUR_STS_WEAR_OVER (if worn then 1 else 0)
      let s4 := (s3.cond wFUR 8 noSub worn).wr FUR_LIFE_HOURS_LEFT (left / 3600)
      (s4.wr FUR_LIFE_X_MILLI (if known then prog * 1000 / max 1 adm else 0)).showGov)

/-! ## Writing (R259 to R261) -/

/-- Writes a slot again at a new place of its stream (R261): its map entry follows where it still named the old slot. -/
def State.rewriteSlot (s : State) (st : FStream) (x : FSlot) (loc : Nat) : State :=
  let s1 := s.onFur fun u => { u with slots := u.slots.filter fun y => y.loc != x.loc }
  if s.slotOk st loc then
    let s2 := s1.putSlot st x.page x.region loc x.img x.isMeta
    if !x.isMeta && s.furLoc x.page == some x.loc then s2.setFur x.page (some loc) else s2
  else s

/-- STRIPE_PROGRAM_DONE (R260, R261): every member of a full stripe has been programmed. With every status good the stripe
leaves the write buffer; a channel that failed has its block marked, and the stripe's slots are written again at `re`. -/
def execStripeProgramDone (loc : BitVec 38) (fails : List (Fin 32)) (re : List (BitVec 38)) (s : State) : Res :=
  .next (
    let l := loc.toNat
    let sb := s.sbOf l
    let mem := s.sbLive sb
    let mine := s.fur.slots.filter fun x => s.sameStripe x.loc l && x.inBuf
    if mine.isEmpty || !s.stripeFull l || (s.fur.ops.any fun o => o.sb == sb && o.suspended) then s
    else
      let more := s.fur.slots.any fun x => s.sbOf x.loc == sb && x.inBuf && !s.sameStripe x.loc l && s.stripeFull x.loc
      let s1 := s.onFur fun u =>
        { u with ops := (if more then u.ops else u.ops.filter fun o => !(o.sb == sb && !o.erase)),
                 programmed := u.programmed + mem.length * 16384 }
      let s2 := s1.bumpBy FUR_PROG_CNT_COUNT mem.length
      let bad := (fails.map fun c => c.val).filter fun c => mem.contains c
      if bad.isEmpty then
        s2.onFur fun u => { u with slots := u.slots.map fun x => if mine.contains x then { x with inBuf := false } else x }
      else
        let st := ((s.sbAt sb).stream).getD .fresh
        let s3 := (mine.zip re).foldl (fun t x => t.rewriteSlot st x.1 x.2.toNat) s2
        bad.foldl (fun t c =>
          let at_ := t.locAt c sb (locBlk l % t.planes) (locPage l) 0
          (((t.bump (FUR_CH_CNT_PROG_FAIL c)).fcLast c 1 at_).raise (wFC c) 2 (sb / 16384)).blockFailing (at_ / 2 ^ 15)) s3)

/-! ## Reading (R263 to R265) -/

/-- A read that ends for a promotion or a cold read waits to be staged. -/
def State.readDone (s : State) (r : FRead) (ok : Bool) : State :=
  s.onFur fun u => { u with rds := u.rds.map fun x => if x == r then { x with done := some ok } else x }

/-- An uncorrectable slot (R265), by the page's state. A FLASH_ONLY page goes to Winnow, a clean page's copy is written
again from its frame (where Furrow writes nothing it is lost), and a dirty page loses its copy. -/
def State.slotBad (s : State) (r : FRead) (re : Nat) : State :=
  let s1 := (((s.bump FUR_UE_CNT_COUNT).raise wFUR 3 noSub).furLast 2 r.loc)
  let dropRead := fun (t : State) => t.onFur fun u => { u with rds := u.rds.filter fun x => !(x == r) }
  let e := s1.tierOf r.page
  if s1.furLoc r.page != some r.loc then
    if r.why == .promote || r.why == .cold then s1.readDone r false else dropRead s1
  else
    match e.state with
    | .flashOnly =>
      if r.why == .promote || r.why == .cold then s1.readDone r false
      else
        let s2 := dropRead s1
        if s2.healable r.page then (s2.modTier r.page fun e => { e with poison := true }).healAsk (r.page * 64) true .flash wWIN
        else s2.poisonStart r.page 1 2 fullMask false
    | .dramClean =>
      match e.frame with
      | none => dropRead s1
      | some f =>
        let s2 := dropRead s1
        if s2.slotOk .reloc re then (s2.putSlot .reloc r.page e.region re (s2.frameImg f) false).setFur r.page (some re)
        else (s2.setFur r.page none).modTier r.page fun e => { e with state := .dramOnly, dirty := true }
    | .dramDirty => ((dropRead s1).setFur r.page none).modTier r.page fun e => { e with state := .dramOnly }
    | _ => dropRead s1

/-- Blocks that a read of a slot reads, as LUN × 16384 + block: its own, and for a reconstruction those of the other members (R264,
R271). -/
def State.readBlocks (s : State) (loc : Nat) (recon : Bool) : List Nat :=
  let own := loc / 2 ^ 15
  if recon then own :: ((s.sbReadable (s.sbOf loc)).filter fun c => c != locLun loc / 16).map fun c =>
    (c * 16 + s.sbOf loc / 16384) * 16384 + locBlk loc
  else [own]

/-- Reads since erase advance for some blocks; answers whether one has reached its limit (R271). -/
def State.countReads (s : State) (blks : List Nat) : State × Bool :=
  let m := blks.foldl (fun (m : SMap Nat) b => mset (fun _ => 0) m b (mget (fun _ => 0) m b + 1)) s.fur.reads
  (s.onFur fun u => { u with reads := m },
   blks.any fun b => decide (max 1 (s.rd FUR_RDIST_RD_LIMIT_K) * 1000 ≤ mget (fun _ => 0) m b))

/-- What a read of a slot comes to (R264, R274): nothing but a reconstruction reads around a member that is absent or has been erased,
and a reconstruction needs every other member. -/
def State.slotOutcome (s : State) (loc : Nat) (out : SlotOut) : SlotOut :=
  let sb := s.sbOf loc
  let c := locLun loc / 16
  match out with
  | .bad => .bad
  | .recon =>
    if (s.slotAt loc).isSome && (s.sbBuilt sb).all (fun x => x == c || (s.sbReadable sb).contains x) then .recon else .bad
  | o => if s.lunUp (locLun loc) && !(s.sbAt sb).gone.contains c && (s.slotAt loc).isSome then o else .bad

/-- A slot's data has been read. A relocation's is written into the relocation stream at `re`. -/
def State.slotRead (s : State) (r : FRead) (x : FSlot) (re : Nat) : State :=
  match r.why with
  | .promote => s.readDone r true
  | .cold => s.readDone r true
  | .scan => s.onFur fun u => { u with rds := u.rds.filter fun y => !(y == r) }
  | .reloc =>
    let st : FStream := if x.isMeta then .metadata else .reloc
    let s4 := (s.onFur fun u => { u with rds := u.rds.filter fun y => !(y == r) }).putSlot st x.page x.region re x.img x.isMeta
    if x.isMeta then s4 else s4.onFur fun u => { u with relocs := u.relocs ++ [{ page := r.page, src := r.loc, dst := some re }] }

/-- Has Furrow a place for the slot that a read is to write: a relocation's copy, or the new copy of a clean page whose slot is
uncorrectable (R265, R267)? -/
def State.rePlace (s : State) (r : FRead) (x : Option FSlot) (re : Nat) : Bool :=
  match x with
  | some y => r.why != .reloc || s.slotOk (if y.isMeta then .metadata else .reloc) re
  | none => !s.furWrites || s.furLoc r.page != some r.loc || (s.tierOf r.page).state != .dramClean || s.slotOk .reloc re

/-- SLOT_READ_RETURN (R260, R264, R265, R271): the oldest read of the slot that is still out returns. A slot that stands in the write
buffer is read there. With no place at `re` for the copy that the read is to make, the read stays out. -/
def execSlotReadReturn (loc : BitVec 38) (out : SlotOut) (re : BitVec 38) (s : State) : Res :=
  .next (
    match s.fur.rds.find? fun r => r.loc == loc.toNat && r.done.isNone with
    | none => s
    | some r =>
      let sb := s.sbOf r.loc
      match s.slotAt r.loc with
      | some x =>
        if x.inBuf then (if s.rePlace r (some x) re.toNat then (s.bump FUR_RD_CNT_COUNT).slotRead r x re.toNat else s)
        else
          let out' := s.slotOutcome r.loc out
          let y := if out' == .bad then none else some x
          if !s.rePlace r y re.toNat then s
          else
            let (s1, worn) := (s.bump FUR_RD_CNT_COUNT).countReads (s.readBlocks r.loc (out' == .recon))
            let hot := match out' with
              | .hard b => decide (max 16 (s.rd FUR_RDIST_REF_BITS) ≤ b)
              | .retry => true
              | .recon => true
              | .bad => false
            let s2 := if worn || hot then s1.refreshSb sb else s1
            let s3 := if out' == .recon then
                (((s2.bump FUR_RECON_CNT_COUNT).raise wFUR 2 noSub).furLast 1 r.loc).blockFailing (r.loc / 2 ^ 15)
              else s2
            if out' == .bad then s3.slotBad r re.toNat else s3.slotRead r x re.toNat
      | none =>
        if !s.rePlace r none re.toNat then s
        else
          let (s1, worn) := (s.bump FUR_RD_CNT_COUNT).countReads [r.loc / 2 ^ 15]
          (if worn then s1.refreshSb sb else s1).slotBad r re.toNat)

/-- Does a demand read wait on the LUN (R263)? -/
def State.demandOn (s : State) (lun : Nat) : Bool :=
  s.fur.rds.any fun r => r.done.isNone && locLun r.loc == lun && (r.why == .promote || r.why == .cold)

/-- DEMAND_SUSPEND (R263): a demand read finds its LUN programming or erasing. -/
def execDemandSuspend (lun : Fin 512) (s : State) : Res :=
  .next (
    if s.demandOn lun && s.fur.ops.any (fun o => o.lun == lun.val && !o.suspended) then
      let s1 := s.onFur fun u => { u with ops := u.ops.map fun o => if o.lun == lun.val then { o with suspended := true } else o }
      s1.wr (FUR_CH_CNT_SUSPENDS (lun.val / 16)) (s.rd (FUR_CH_CNT_SUSPENDS (lun.val / 16)) + 1)
    else s)

/-- SUSPENDED_OP_RESUME (R263): no demand read waits on the LUN. -/
def execSuspendedOpResume (lun : Fin 512) (s : State) : Res :=
  .next (
    if s.demandOn lun || s.rd FUR_STS_STATE = 4 then s
    else s.onFur fun u => { u with ops := u.ops.map fun o => if o.lun == lun.val then { o with suspended := false } else o })

/-! ## Garbage collection and wear (R267 to R271) -/

/-- The victim of collection (R267): the closed superblock of the role with the fewest valid slots, among equals the one
closed earliest. -/
def State.victim (s : State) (role : SbRole) : Option Nat :=
  let c := s.fur.sbs.filter fun e => e.2.role == role && e.2.closed != 0 && !e.2.relocating && !s.sbReserve e.1
  let better := fun (a b : Nat × FSuper) =>
    let x := (s.validIn a.1).length
    let y := (s.validIn b.1).length
    decide (x < y) || (x == y && decide (a.2.closed < b.2.closed))
  (c.foldl (fun o e => match o with | none => some e | some b => if better e b then some e else some b) none).map fun e => e.1

/-- GC_START (R267). -/
def execGcStart (meta_ : Bool) (s : State) : Res :=
  .next (
    if s.gcRuns then
      match s.victim (if meta_ then .metadata else .data) with
      | none => s
      | some b => s.relocateSb b true
    else s)

/-- RELOCATION_CAS (R267): the map entry takes the new slot if it still names the old one; else the new copy is lost. -/
def execRelocationCas (page : BitVec 34) (s : State) : Res :=
  .next (
    match s.fur.relocs.find? fun x => x.page == page.toNat with
    | none => s
    | some x =>
      let s1 := s.onFur fun u => { u with relocs := u.relocs.filter fun y => !(y == x) }
      if s.furLoc x.page == some x.src then s1.setFur x.page x.dst else s1.onFur fun u => { u with lost := u.lost + 1 })

/-- SUPERBLOCK_ERASE (R268): a relocated superblock that no read still captures and that holds no valid slot starts to
erase. -/
def execSuperblockErase (sb : BitVec 18) (s : State) : Res :=
  .next (
    let b := sb.toNat
    let q := s.sbAt b
    if q.relocating && !q.erasing && s.rd FUR_STS_STATE != 4 && (s.validIn b).isEmpty && !(s.fur.rds.any fun r => s.sbOf r.loc == b) &&
        !(s.fur.relocs.any fun x => s.sbOf x.src == b) then
      let new := (s.sbLive b).map fun c => ({ lun := c * 16 + b / 16384, erase := true, sb := b } : LunOp)
      (s.modSb b fun x => { x with erasing := true }).onFur fun u => { u with ops := u.ops ++ new }
    else s)

/-- SUPERBLOCK_ERASE_DONE (R268, R269, R271): every member has finished; the superblock becomes FREE. A block that failed is
retired. -/
def execSuperblockEraseDone (sb : BitVec 18) (fails : List (Fin 32)) (s : State) : Res :=
  .next (
    let b := sb.toNat
    let q := s.sbAt b
    if !q.erasing || s.fur.ops.any (fun o => o.sb == b && o.erase && o.suspended) then s
    else
      let s1 := (s.modSb b fun x => { erases := x.erases + 1 }).onFur fun u =>
        { u with slots := u.slots.filter fun x => s.sbOf x.loc != b, ops := u.ops.filter fun o => !(o.sb == b && o.erase),
                 reads := u.reads.filter fun e => s.sbOf (e.1 * 2 ^ 15) != b }
      let s2 := fails.foldl (fun t c =>
        let at_ := t.locAt c b 0 0 0
        let t1 := ((t.bump (FUR_CH_CNT_ERASE_FAIL c)).fcLast c 2 at_).raise (wFC c) 3 (b / 16384)
        t1.onFur fun u => if u.failing.contains (at_ / 2 ^ 15) then u else { u with failing := u.failing ++ [at_ / 2 ^ 15] }) s1
      let s3 := s2.retireBlocks b
      let s4 := if q.gc then s3.bump FUR_GC_CNT_COUNT else s3
      (((s4.showSb).showWear).showGov).showHarvest)

/-- WEAR_LEVEL (R270): a spread above SPREAD relocates the closed superblock with the lowest mean erase count. -/
def execWearLevel (s : State) : Res :=
  .next (
    if s.furWrites && s.on FUR_CTL_WL_EN && decide (max 16 (s.rd FUR_WL_SPREAD) + s.rd FUR_WEAR_MIN_PE < s.rd FUR_WEAR_MAX_PE) then
      let c := s.fur.sbs.filter fun e => e.2.closed != 0 && !e.2.relocating && !s.sbReserve e.1
      match c.foldl (fun o e => match o with
          | none => some e
          | some (b : Nat × FSuper) => if e.2.erases < b.2.erases then some e else some b) (none : Option (Nat × FSuper)) with
      | none => s
      | some e => s.relocateSb e.1 false
    else s)

/-- RETENTION_SCAN (R271): one page of each block of every closed superblock has been read, and each block counts one read more; `need`
are the superblocks whose reads call for refresh. -/
def execRetentionScan (need : List (BitVec 18)) (s : State) : Res :=
  .next (
    if s.on FUR_CTL_RET_EN && s.furWrites then
      let closed := (s.fur.sbs.filter fun e => e.2.closed != 0 && !s.sbReserve e.1).map fun e => e.1
      let s1 := closed.foldl (fun (t : State) sb =>
        let blks := (s.sbReadable sb).flatMap fun c => (List.range s.planes).map fun p =>
          (c * 16 + sb / 16384) * 16384 + sb % 16384 * s.planes + p
        let (u, worn) := t.countReads blks
        if worn then u.refreshSb sb else u) s
      need.foldl (fun t b => if (t.sbAt b.toNat).closed = 0 then t else t.refreshSb b.toNat) s1
    else s)

/-! ## LUNs and channels out of service and back (R272 to R274) -/

/-- LUN_READY_TIMEOUT (R272). -/
def execLunReadyTimeout (lun : Fin 512) (s : State) : Res :=
  .next (
    let c := lun.val / 16
    if s.bitOf (FUR_CH_STS_LUNS_UP c) (lun.val % 16) then
      (((s.bump (FUR_CH_CNT_TIMEOUT c)).fcLast c 3 (lun.val * 2 ^ 29)).raise (wFC c) 4 (lun.val % 16)).lunOut lun.val true 4
    else s)

/-- A write of FUR_CH_LUN_FENCE.FENCE (R272). -/
def State.writeLunFence (s : State) (c m : Nat) : State :=
  (bitsOf m 16).foldl (fun t i => if t.bitOf (FUR_CH_STS_LUNS_UP c) i then t.lunOut (c * 16 + i) false 0x1F else t) s

/-- LUN_RETIRE (R272). -/
def execLunRetire (a : Agent) (c : Fin 32) (m : BitVec 16) (s : State) : Res :=
  .next (s.atReg a (FUR_CH_LUN_FENCE c) m.toNat fun t => t.writeLunFence c m.toNat)

/-- REBUILD_DONE (R272). -/
def execRebuildDone (s : State) : Res := .next s.showRebuild

/-- A write of FUR_CH_CTL.FENCE (R273). -/
def execFlashChannelFence (a : Agent) (c : Fin 32) (s : State) : Res :=
  .next (s.atReg a (FUR_CH_CTL c) (2 ^ 30) fun t => t.flashFence c false 0x1F)

/-- The unit bits after LUNs have come back (R274). -/
def State.showFlashUnits (s : State) (c : Nat) : State :=
  (s.wr (UNIT_DEGRADED wFUR) (if s.fur.retired.isEmpty then 0 else 1)).wr (UNIT_DEGRADED (wFC c))
    (if s.fur.retired.any fun l => l / 16 == c then 1 else 0)

/-- A LUN returns to service with every block erased and its factory marks read again (R274): of the superblocks built with a member on it,
that member holds nothing. -/
def State.lunBack (s : State) (lun : Nat) (up : Bool) : State :=
  if s.fur.retired.contains lun then
    let s1 := s.onFur fun u =>
      { u with retired := u.retired.filter fun l => l != lun,
               sbs := u.sbs.map (fun e => if e.1 / 16384 == lun % 16 && e.2.members.contains (lun / 16) && !e.2.gone.contains (lun / 16) then
                 (e.1, { e.2 with gone := e.2.gone ++ [lun / 16] }) else e)
               reads := u.reads.filter fun e => e.1 / 16384 != lun, bad := u.bad.filter fun b => b / 16384 != lun
               failing := u.failing.filter fun b => b / 16384 != lun }
    if up then s1.wrBit (FUR_CH_STS_LUNS_UP (lun / 16)) (lun % 16) true else s1
  else s

/-- A write of FUR_CH_CTL.UNFENCE (R274): the channel returns to INIT. -/
def State.writeFlashUnfence (s : State) (c : Nat) : State :=
  if s.rd (FUR_CH_STS_STATE c) = 4 then
    let s1 := (s.lunPos.map fun i => c * 16 + i).foldl (fun t l => t.lunBack l false) s
    let s2 := (((s1.wr (FUR_CH_STS_STATE c) 1).wr (UNIT_FENCED (wFC c)) 0).fenceRec (wFC c) 2 false noSub 0x1F 0).showFlashUnits c
    ((s2.showGov).showRebuild).showHarvest
  else s

/-- FLASH_CHANNEL_UNFENCE (R274). -/
def execFlashChannelUnfence (a : Agent) (c : Fin 32) (s : State) : Res :=
  .next (s.atReg a (FUR_CH_CTL c) (2 ^ 29) fun t => t.writeFlashUnfence c)

/-- A write of FUR_CH_LUN_FENCE.UNFENCE (R274). -/
def State.writeLunUnfence (s : State) (c m : Nat) : State :=
  if s.rd (FUR_CH_STS_STATE c) = 4 then s
  else
    let s1 := (bitsOf m 16).foldl (fun t i =>
      if t.fur.retired.contains (c * 16 + i) then (t.lunBack (c * 16 + i) (t.fchUp c)).fenceRec (wFC c) 2 false i 0x1F 0 else t) s
    (((s1.showFlashUnits c).showGov).showRebuild).showHarvest

/-- LUN_UNFENCE (R274). -/
def execLunUnfence (a : Agent) (c : Fin 32) (m : BitVec 16) (s : State) : Res :=
  .next (s.atReg a (FUR_CH_LUN_FENCE c) (m.toNat * 65536) fun t => t.writeLunUnfence c m.toNat)

/-- SEQUENCER_SELF_CHECK_FAIL (R273, R599, R603): `ok` says that a later check has passed, and then the condition ends. -/
def execSequencerSelfCheckFail (c : Fin 32) (ok : Bool) (s : State) : Res :=
  .next (if ok then s.cond (wFC c) 6 noSub false else (s.cond (wFC c) 6 noSub true).flashFence c true 6)

/-! ## Commands of firmware to a channel (R281) -/

/-- A step through FUR_CH_CMD: issued only while STATE is INIT or TRAINING; DONE is set once it has completed. `v` are the
bits beside GO. -/
def State.onfiStep (s : State) (a : Agent) (c v : Nat) (act : State → State) : State :=
  if s.rd (FUR_CH_STS_STATE c) = 1 || s.rd (FUR_CH_STS_STATE c) = 2 then
    act ((s.wrW (FUR_CH_CMD c) (BitVec.ofNat 64 v)).wr (FUR_CH_CMD_DONE c) 1)
  else s.ignored a (FUR_CH_CMD c) (2 ^ 31 + v)

/-- The bits of FUR_CH_CMD beside GO. -/
def cmdBits (op ce len b : Nat) : Nat := op * 2 ^ 27 + ce * 2 ^ 25 + len * 4096 + b

/-- ONFI_COMMAND_BYTE. -/
def execOnfiCommandByte (a : Agent) (c : Fin 32) (ce : Fin 4) (b : Byte) (s : State) : Res :=
  .next (s.atReg a (FUR_CH_CMD c) (2 ^ 31 + cmdBits 0 ce 0 b.toNat) fun t => t.onfiStep a c (cmdBits 0 ce 0 b.toNat) id)

/-- ONFI_ADDRESS_BYTE. -/
def execOnfiAddressByte (a : Agent) (c : Fin 32) (ce : Fin 4) (b : Byte) (s : State) : Res :=
  .next (s.atReg a (FUR_CH_CMD c) (2 ^ 31 + cmdBits 1 ce 0 b.toNat) fun t => t.onfiStep a c (cmdBits 1 ce 0 b.toNat) id)

/-- ONFI_DATA_OUT. -/
def execOnfiDataOut (a : Agent) (c : Fin 32) (ce : Fin 4) (len : BitVec 13) (s : State) : Res :=
  .next (s.atReg a (FUR_CH_CMD c) (2 ^ 31 + cmdBits 2 ce len.toNat 0) fun t => t.onfiStep a c (cmdBits 2 ce len.toNat 0) id)

/-- The first `len` bytes of the answer into the transfer buffer, word by word. -/
def State.xbufIn (s : State) (c len : Nat) (data : List (BitVec 32)) : State :=
  ((List.range (min 1024 ((len + 3) / 4))).zip data).foldl (fun t x =>
    let f := FUR_CH_XBUF_DATA c x.1
    let n := min 32 (8 * (len - 4 * x.1))
    t.wr f (putBits (t.rd f) 0 n x.2.toNat)) s

/-- ONFI_DATA_IN: the NAND's data goes into the transfer buffer. -/
def execOnfiDataIn (a : Agent) (c : Fin 32) (ce : Fin 4) (len : BitVec 13) (data : List (BitVec 32)) (s : State) : Res :=
  .next (s.atReg a (FUR_CH_CMD c) (2 ^ 31 + cmdBits 3 ce len.toNat 0) fun t =>
    t.onfiStep a c (cmdBits 3 ce len.toNat 0) fun u => u.xbufIn c len.toNat data)

/-- ONFI_WAIT_READY. -/
def execOnfiWaitReady (a : Agent) (c : Fin 32) (ce : Fin 4) (s : State) : Res :=
  .next (s.atReg a (FUR_CH_CMD c) (2 ^ 31 + cmdBits 4 ce 0 0) fun t => t.onfiStep a c (cmdBits 4 ce 0 0) id)

/-- A write of a channel's delay register goes to its shadow. -/
def State.writeFlashDelay (s : State) (addr v : Nat) : State :=
  s.onFur fun u => { u with shadow := minsert addr (BitVec.ofNat 64 v) (merase addr u.shadow) }

/-- A write of FUR_CH_DLY_CTL.APPLY: with no transfer in flight every delay shadow of the channel loads at one instant, and PENDING
is 0. -/
def State.writeFlashApply (s : State) (c : Nat) : State :=
  ((s.fur.shadow.filter fun e => winIdx e.1 == some (wFC c)).foldl (fun (u : State) e => u.wrW e.1 e.2) s).wr (FUR_CH_DLY_CTL_PENDING c) 0

/-- ONFI_DELAY_APPLY. -/
def execOnfiDelayApply (a : Agent) (c : Fin 32) (s : State) : Res :=
  .next (s.atReg a (FUR_CH_DLY_CTL c) (2 ^ 31) fun t => t.writeFlashApply c)

/-! ## Format (R246 to R250, R255, R275) -/

/-- Does the vendor sequence table hold a complete set of suspend, resume and SLC entries (R250)? -/
def State.vseqOk (s : State) : Bool :=
  [1, 2, 3, 4, 5, 6].all fun k => (List.range 16).any fun i => s.rd (FUR_VSEQ_KIND i) == k

/-- The geometry lies within R246's limits. -/
def State.geomOk (s : State) : Bool :=
  decide (s.rd FUR_GEOM_BPC ≤ 1) && decide (s.rd FUR_GEOM_PLANES ≤ 1) && decide (1 ≤ s.rd FUR_GEOM_PAGES) && decide (s.rd FUR_GEOM_PAGES ≤ 8192) &&
    decide (1 ≤ s.rd FUR_GEOM2_BLOCKS) && decide (s.rd FUR_GEOM2_BLOCKS ≤ 16384) && s.rd FUR_GEOM2_BLOCKS % s.planes == 0 &&
    decide (s.lunPos.length * 32 * s.rd FUR_GEOM2_BLOCKS * s.blockBytes ≤ 128000000000000)

/-- Every LUN position's bit. -/
def State.lunMask (s : State) : Nat := (s.lunPos.map fun i => 2 ^ i).sum

/-- Furrow starts: every channel that is not fenced goes ACTIVE with its LUNs that are not retired; one not trained before has
trained at MAX_RATE. -/
def State.startChannels (s : State) : State :=
  (List.range 32).foldl (fun t c =>
    if t.rd (FUR_CH_STS_STATE c) = 4 then t
    else
      let t0 := if t.fchUp c then t else t.wr (FUR_CH_STS_RATE c) (min 4 (t.rd (FUR_CH_CTL_MAX_RATE c)))
      let t1 := t0.wr (FUR_CH_STS_STATE c) 3
      t1.wr (FUR_CH_STS_LUNS_UP c) ((t.lunPos.filter fun i => !t.fur.retired.contains (c * 16 + i)).map fun i => 2 ^ i).sum) s

/-- Formats the flash tier: the geometry locks, the RESERVE superblocks are set aside, the governor starts with a full
allowance. -/
def State.format (s : State) : State :=
  let capF := s.rd HRV_CAP_CAP_GIB
  let s1 := (s.wr FUR_GEOM_LOCKED 1).onFur fun u => { u with capFmt := capF, formatAt := s.now, formatted := true }
  let sbRaw := 32 * s1.planes * s1.blockBytes
  let v := 2 * (capF + 8) * 1073741824 * s1.bpc
  let s2 := s1.onFur fun u => { u with reserve := (v + sbRaw - 1) / max 1 sbRaw }
  let g := s2.govFormat
  let s3 := ((s2.onFur fun u => { u with g0 := g, g := g, govAt := s.now }).wr FUR_GOV_ALLOW_BYTES (g * 86400)).wr FUR_GOV_RATE_INIT_MBPS (g / 1000000)
  (s3.wr FUR_LIFE_HOURS_LEFT 87660).wr FUR_BLK_CNT_SPARE_LEFT (s3.lunPos.length * 32 * s3.planes * s3.sparesPerPlane)

/-- A write of 1 to FUR_CTL.ENABLE. `ok` is the outcome of the checks of every LUN's population and parameter page (R246,
R247). Where the tier is formatted Furrow starts; else it is formatted where all is in order, and starts. -/
def State.furEnable (s : State) (ok : Bool) : State :=
  let s1 := s.wr FUR_CTL_ENABLE 1
  if s.rd FUR_STS_STATE != 0 then s1
  else if s.fur.formatted || (ok && s.geomOk && s.vseqOk) then
    let s2 := if s.fur.formatted then s1.wr FUR_GEOM_LOCKED 1 else s1.format
    (((((s2.startChannels).wr FUR_STS_STATE 2).relocAgain).showSb).showChannels).showGov
  else s1

/-- FURROW_FORMAT (R247). -/
def execFurrowFormat (a : Agent) (ok : Bool) (s : State) : Res :=
  .next (s.atReg a FUR_CTL 1 fun t => t.furEnable ok)

end Sys2Proof.Machine
end

