-- ==== Sys2Proof/Machine/HostPorts.lean ====
section
/-!
DEFINITION. Machine/HostPorts.lean: the CXL host ports (chapter 03): bifurcation, training, link-down, fences of
sub-links, resets of a link or an LD, the FM-owned LD, HDM decoders, Dynamic Capacity events, DevLoad thresholds.
-/
namespace Sys2Proof.Machine
open Sys2Proof

/-! ## Sub-links -/

/-- The bifurcation in force on a port (R78). -/
def State.portMode (s : State) (p : Nat) : Nat := mget (fun _ => 0) s.hp.mode p
/-- Does the port's mode create the sub-link (R77)? -/
def State.created (s : State) (p q : Nat) : Bool :=
  match s.portMode p with
  | 0 => q == 0
  | 1 => q == 0 || q == 2
  | _ => q < 4
/-- Lanes of a sub-link in the port's mode (R77). -/
def State.modeWidth (s : State) (p : Nat) : Nat :=
  match s.portMode p with
  | 0 => 16
  | 1 => 8
  | _ => 4
/-- STATE of a sub-link: 0 DISABLED, 1 DETECT, 2 TRAINING, 3 UP, 4 MODE_FAIL, 5 FENCED. -/
def State.lstate (s : State) (p q : Nat) : Nat := s.rd (HPT_LSTS_STATE p q)
/-- MAX_RATE, other values acting as 3. -/
def State.maxRate (s : State) (p q : Nat) : Nat := min 3 (s.rd (HPT_LCTL_MAX_RATE p q))

/-- Enters a state other than UP: the fields that an UP link shows read 0. -/
def State.lsetState (s : State) (p q st : Nat) : State :=
  s.wrW (HPT_LSTS p q) (BitVec.ofNat 64 (st * 2 ^ 28))

/-- DOWNTRAINED is present while any sub-link of the port is down-trained (R599). -/
def State.showPort (s : State) (p : Nat) : State :=
  s.cond (wHPT p) 4 noSub ((List.range 4).any fun q => s.on (HPT_LSTS_DEGRADED p q))

/-- DEGRADED and FENCED of the port follow its fenced sub-links (R85). -/
def State.showPortFence (s : State) (p : Nat) : State :=
  let all := (List.range 4).filter fun q => s.created p q
  let out := all.filter fun q => s.lstate p q == 5
  (s.wr (UNIT_DEGRADED (wHPT p)) (if out.isEmpty then 0 else 1)).wr (UNIT_FENCED (wHPT p)) (if out.length == all.length then 1 else 0)

/-- The LDs of a link take a configuration reset: decoders are uncommitted; a mailbox command in progress is completed and
its result discarded (R111). -/
def State.cfgReset (s : State) (p q : Nat) : State :=
  (List.range 16).foldl (fun t ld => t.onLd ((p * 4 + q) * 16 + ld) fun l =>
    { l with dec := [], commitErr := [], protoErr := false, cxlReset := false, mbxDiscard := l.mbxQueued || l.mbxStarted }) s

/-- Requests of the link that are in the core complete as usual, and their responses are discarded (R84), even where the link has come
up again: they carry a tag that no response leaves for. -/
def Req.orphan (link : Nat) (q : Req) : Req :=
  match q.src with
  | .ld l ld tag => if l = link && tag < 65536 then { q with src := .ld l ld 131072 } else q
  | _ => q

/-- A link that is up goes down (R84): counted, raised; the port then stands in state `st`. -/
def State.linkDown (s : State) (p q st : Nat) (reset : Bool) : State :=
  let s1 := ((s.bump (HPT_LCNT_DOWN_EVT p q)).raise (wHPT p) 2 q).stamp .linkEvt (p * 4 + q)
  let s2 := (({ s1 with hp := { s1.hp with recov := s1.hp.recov.filter fun l => l != p * 4 + q } }.onFab fun f =>
    { f with xbar := f.xbar.map (Req.orphan (p * 4 + q)), queue := f.queue.map (Req.orphan (p * 4 + q)),
             act := f.act.map (Req.orphan (p * 4 + q)) }).lsetState p q st).showPort p
  if reset then s2.cfgReset p q else s2

/-- Fences a sub-link (R85). `dev` when the device does it itself. -/
def State.fenceSub (s : State) (p q : Nat) (dev : Bool) : State :=
  if !s.created p q || s.lstate p q == 5 then s
  else if s.holds (wHPT p) then s.holdFence (wHPT p) q 0xFF 0 dev
  else
    let s1 := if s.lstate p q == 3 then s.linkDown p q 5 false else s.lsetState p q 5
    (s1.showPortFence p).fenceRec (wHPT p) 1 dev q 0xFF 0

/-- More than LIMIT down and failed-training events within WINDOW_S seconds fence the sub-link (R85). -/
def State.linkLimit (s : State) (p q : Nat) : State :=
  if s.rd (HPT_FENCE_CTL_LIMIT p) < s.stampsIn .linkEvt (p * 4 + q) (s.rd (HPT_FENCE_CTL_WINDOW_S p)) then
    (s.fenceSub p q true).unstamp .linkEvt (p * 4 + q)
  else s

/-- A stored MODE takes effect when every sub-link of the port is disabled (R78). -/
def State.applyMode (s : State) (p : Nat) : State :=
  if (List.range 4).any fun q => s.on (HPT_LCTL_ENABLE p q) then s
  else
    let m := s.rd (HPT_BIFUR_MODE p)
    (({ s with hp := { s.hp with mode := mset (fun _ => 0) s.hp.mode p m } }.wr (HPT_BIFUR_PENDING p) 0).showPortFence p)

/-- A write of HPT_BIFUR.MODE. -/
def State.writeBifur (s : State) (a : Agent) (p m : Nat) : State :=
  if m = 3 then s.ignored a (HPT_BIFUR p) m
  else ((s.wr (HPT_BIFUR_MODE p) m).wr (HPT_BIFUR_PENDING p) 1).applyMode p

/-- Training may start: the sub-link is created, enabled and its PERST is not asserted. -/
def State.mayTrain (s : State) (p q : Nat) : Bool :=
  s.created p q && s.on (HPT_LCTL_ENABLE p q) && !s.hp.perst.contains (p * 4 + q)

/-- Starts training where it may start, else waits in DETECT or stays DISABLED. -/
def State.train (s : State) (p q : Nat) : State :=
  if s.mayTrain p q then s.lsetState p q 2
  else if s.created p q && s.on (HPT_LCTL_ENABLE p q) then s.lsetState p q 1
  else s.lsetState p q 0

/-- A write of HPT_LCTL_s.ENABLE: training starts, or stops and the link is disabled (R77, R111). -/
def State.writeEnable (s : State) (p q : Nat) (on : Bool) : State :=
  let s1 := s.wr (HPT_LCTL_ENABLE p q) (if on then 1 else 0)
  if on then (if s1.created p q && s1.lstate p q == 0 then s1.train p q else s1)
  else
    let s2 := if s1.lstate p q == 3 then (s1.linkDown p q 0 true).linkLimit p q
      else if s1.lstate p q == 5 then s1 else s1.lsetState p q 0
    s2.applyMode p

/-- A link comes up, or out of Recovery, at a rate and width (R81, R83, R93). -/
def State.linkAt (s : State) (p q rate width : Nat) : State :=
  let deg := decide (width < s.modeWidth p ∨ rate < s.maxRate p q)
  let s1 := (((s.wr (HPT_LSTS_STATE p q) 3).wr (HPT_LSTS_RATE p q) rate).wr (HPT_LSTS_WIDTH p q) width).wr (HPT_LSTS_DEGRADED p q)
    (if deg then 1 else 0)
  let s2 := (List.range 16).foldl (fun t ld => t.onLd ((p * 4 + q) * 16 + ld) fun l => { l with cdatChanged := true }) s1
  ({ s2 with hp := { s2.hp with recov := s2.hp.recov.filter fun l => l != p * 4 + q } }).showPort p

/-- May a link run at the rate and width? -/
def State.canRun (s : State) (p q rate width : Nat) : Bool :=
  decide (1 ≤ width ∧ width ≤ s.modeWidth p ∧ rate ≤ s.maxRate p q)

/-- BIFUR_MODE_WRITE (R78). -/
def execBifurModeWrite (a : Agent) (p : Fin 4) (m : BitVec 2) (s : State) : Res :=
  .next (s.atReg a (HPT_BIFUR p) m.toNat fun t => t.writeBifur a p m.toNat)

/-- SUBLINK_ENABLE_CHANGE (R77, R78). -/
def execSublinkEnableChange (a : Agent) (p : Fin 4) (q : Fin 4) (on : Bool) (s : State) : Res :=
  .next (s.atReg a (HPT_LCTL p q) (if on then 2 ^ 31 else 0) fun t => t.writeEnable p q on)

/-- A write of 1 to RETRAIN: the link is forced through Recovery, in which it sends no new flit (R83). -/
def State.writeRetrain (s : State) (p q : Nat) : State :=
  if s.lstate p q == 3 && !s.hp.recov.contains (p * 4 + q) then { s with hp := { s.hp with recov := s.hp.recov ++ [p * 4 + q] } } else s

/-- LINK_RETRAIN (R83). -/
def execLinkRetrain (a : Agent) (p : Fin 4) (q : Fin 4) (s : State) : Res :=
  .next (s.atReg a (HPT_LCTL p q) (2 ^ 30) fun t => t.writeRetrain p q)

/-- LINK_TRAIN_DONE (R81, R86): SLD below a root port, MLD below a switch that accepts. -/
def execLinkTrainDone (p : Fin 4) (q : Fin 4) (rate : Fin 4) (width : Fin 17) (peerSwitch mldOk : Bool) (s : State) : Res :=
  .next (
    if s.lstate p q == 2 && s.mayTrain p q && s.canRun p q rate width then
      let mld := peerSwitch && mldOk && s.on (HPT_LCTL_MLD_EN p q)
      ((((s.linkAt p q rate width).wr (HPT_LSTS_MLD p q) (if mld then 1 else 0)).wr (HPT_LSTS_PEER_SWITCH p q)
        (if peerSwitch then 1 else 0)).wr (HPT_LSTS_LDS_UP p q) (if mld then s.rd (HPT_LCTL_LDCNT p q) + 1 else 1))
    else s)

/-- LINK_MODE_FAIL (R82). -/
def execLinkModeFail (p : Fin 4) (q : Fin 4) (s : State) : Res :=
  .next (
    if s.lstate p q == 2 then
      (((((s.lsetState p q 4).bump (HPT_LCNT_TRAIN_FAIL p q)).raise (wHPT p) 3 q).stamp .linkEvt (p.val * 4 + q.val)).linkLimit p q)
    else s)

/-- LINK_TRAIN_RETRY_TIMER (R82). -/
def execLinkTrainRetryTimer (p : Fin 4) (q : Fin 4) (s : State) : Res :=
  .next (if s.lstate p q == 4 then s.train p q else s)

/-- LINK_RECOVERY (R83). -/
def execLinkRecovery (p : Fin 4) (q : Fin 4) (rate : Fin 4) (width : Fin 17) (replays : BitVec 16) (s : State) : Res :=
  .next (
    if s.lstate p q == 3 && s.canRun p q rate width then (s.bumpBy (HPT_LCNT_REPLAY p q) replays.toNat).linkAt p q rate width
    else s)

/-- LINK_DOWN (R84, R111): a surprise link-down; the link trains again. -/
def execLinkDown (p : Fin 4) (q : Fin 4) (s : State) : Res :=
  .next (if s.lstate p q == 3 then (s.linkDown p q 2 true).linkLimit p q else s)

/-- The FENCE bits of a write of HPT_FENCE_CTL (R85). -/
def State.writeSubFence (s : State) (p m : Nat) : State := (bitsOf m 4).foldl (fun t q => t.fenceSub p q false) s

/-- The UNFENCE bits of a write of HPT_FENCE_CTL (R85). -/
def State.writeSubUnfence (s : State) (p m : Nat) : State :=
  ((bitsOf m 4).foldl (fun t q =>
    if t.lstate p q == 5 then ((t.lsetState p q 0).unstamp .linkEvt (p * 4 + q)).fenceRec (wHPT p) 2 false q 0xFF 0 else t) s).showPortFence p

/-- SUBLINK_FENCE (R85). -/
def execSublinkFence (a : Agent) (p : Fin 4) (m : BitVec 4) (s : State) : Res :=
  .next (s.atReg a (HPT_FENCE_CTL p) m.toNat fun t => t.writeSubFence p m.toNat)

/-- SUBLINK_UNFENCE (R85). -/
def execSublinkUnfence (a : Agent) (p : Fin 4) (m : BitVec 4) (s : State) : Res :=
  .next (s.atReg a (HPT_FENCE_CTL p) (m.toNat * 16) fun t => t.writeSubUnfence p m.toNat)

/-- A write of HPT_DEVLOAD (R110). -/
def State.writeDevload (s : State) (a : Agent) (p v : Nat) : State :=
  let t1 := getBits v 0 8
  let t2 := getBits v 8 8
  let t3 := getBits v 16 8
  if t1 < t2 ∧ t2 < t3 then ((s.wr (HPT_DEVLOAD_T1 p) t1).wr (HPT_DEVLOAD_T2 p) t2).wr (HPT_DEVLOAD_T3 p) t3
  else s.ignored a (HPT_DEVLOAD p) v

/-- DEVLOAD_WRITE (R110). -/
def execDevloadWrite (a : Agent) (p : Fin 4) (v : BitVec 32) (s : State) : Res :=
  .next (s.atReg a (HPT_DEVLOAD p) v.toNat fun t => t.writeDevload a p v.toNat)

/-- A write of HPT_LDMBX_n (R88). -/
def State.writeLdmbx (s : State) (a : Agent) (n v : Nat) : State :=
  if s.chanSecure (getBits v 0 5) != s.on (TIN_LDB_WORLD n) then s.ignored a (HPT_LDMBX n) v
  else (s.wr (HPT_LDMBX_VALID n) (getBits v 31 1)).wr (HPT_LDMBX_CHANNEL n) (getBits v 0 5)

/-- LDMBX_WRITE (R88). -/
def execLdmbxWrite (a : Agent) (n : Fin 64) (v : BitVec 32) (s : State) : Res :=
  .next (s.atReg a (HPT_LDMBX n) v.toNat fun t => t.writeLdmbx a n v.toNat)

/-- A sub-link that is not fenced takes a conventional reset and stands in the state `st`. -/
def State.convReset (s : State) (p q st : Nat) : State :=
  if s.lstate p q == 3 then (s.linkDown p q st true).linkLimit p q
  else if s.lstate p q == 5 || s.lstate p q == 0 then s.cfgReset p q
  else (s.lsetState p q st).cfgReset p q

/-- PERST_ASSERT (R111, R653). -/
def execPerstAssert (p : Fin 4) (q : Fin 4) (s : State) : Res :=
  .next (
    let l := p.val * 4 + q.val
    if s.hp.perst.contains l then s
    else ({ s with hp := { s.hp with perst := s.hp.perst ++ [l] } }).convReset p q 1)

/-- PERST_RELEASE (R111): the link trains again. -/
def execPerstRelease (p : Fin 4) (q : Fin 4) (s : State) : Res :=
  .next (
    let l := p.val * 4 + q.val
    if s.hp.perst.contains l then
      let s1 : State := { s with hp := { s.hp with perst := s.hp.perst.filter fun x => x != l } }
      if s1.lstate p q == 1 then s1.train p q else s1
    else s)

/-- HOT_RESET (R111): reaches the sub-link over a link that is up. -/
def execHotReset (p : Fin 4) (q : Fin 4) (s : State) : Res :=
  .next (if s.lstate p q == 3 then s.convReset p q 2 else s)

/-- A queued mailbox command of an LD is withdrawn and ends with the return code Aborted; a started one runs on (R111, R454). -/
def State.abortQueued (s : State) (k : Nat) : State :=
  let s1 : State := { s with mb := { s.mb with fe := s.mb.fe.filter fun f => f.link * 16 + f.ld != k } }
  s1.onLd k fun l => if l.mbxQueued then { l with mbxQueued := false, mbxAborted := true } else l

/-- FUNCTION_LEVEL_RESET (R111). -/
def execFunctionLevelReset (link ld : Fin 16) (s : State) : Res :=
  .next (
    if s.linkUp link && decide (ld.val < s.rd (HPT_LSTS_LDS_UP (link.val / 4) (link.val % 4))) then
      (s.abortQueued (link.val * 16 + ld.val)).onLd (link.val * 16 + ld.val) fun l => { l with protoErr := false }
    else s)

/-- CXL_RESET (R111): decoders uncommitted; new requests refused until it ends. -/
def execCxlReset (link ld : Fin 16) (s : State) : Res :=
  .next (
    if s.linkUp link && decide (ld.val < s.rd (HPT_LSTS_LDS_UP (link.val / 4) (link.val % 4))) then
      (s.abortQueued (link.val * 16 + ld.val)).onLd (link.val * 16 + ld.val) fun l =>
        { l with dec := [], commitErr := [], cxlReset := true }
    else s)

/-- Is a request of the LD in the core? -/
def State.ldBusy (s : State) (link ld : Nat) : Bool :=
  (s.fab.xbar ++ s.fab.queue ++ s.fab.act).any fun r => match r.src with
    | .ld l d _ => l == link && d == ld
    | _ => false

/-- CXL_RESET_END (R111). -/
def execCxlResetEnd (link ld : Fin 16) (s : State) : Res :=
  .next (if s.ldBusy link ld then s else s.onLd (link.val * 16 + ld.val) fun l => { l with cxlReset := false })

/-! ## The FM-owned LD (R86, R87) -/

/-- Is the FM-owned LD presented? -/
def State.fmUp (s : State) (link : Nat) : Bool := s.linkUp link && s.on (HPT_LSTS_MLD (link / 4) (link % 4))

/-- GET_LD_INFO (R87): the host capacity in GiB and the number of LDs. -/
def execGetLdInfo (link : Fin 16) (s : State) : Res :=
  .next (if s.fmUp link then
    s.emit (.fm link 0 [s.rd TIN_DPA_LIMIT_CAP_GIB, s.rd (HPT_LSTS_LDS_UP (link.val / 4) (link.val % 4))]) else s)

/-- GET_LD_ALLOCATIONS (R87): for each LD one range, from GiB 0, of the whole host capacity. -/
def execGetLdAllocations (link : Fin 16) (s : State) : Res :=
  .next (if s.fmUp link then
    s.emit (.fm link 0 ((List.range (s.rd (HPT_LSTS_LDS_UP (link.val / 4) (link.val % 4)))).flatMap fun _ =>
      [0, s.rd TIN_DPA_LIMIT_CAP_GIB])) else s)

/-- FM_API_UNSUPPORTED (R87): the return code Unsupported. -/
def execFmApiUnsupported (link : Fin 16) (_op : BitVec 16) (s : State) : Res :=
  .next (if s.fmUp link then s.emit (.fm link 3 []) else s)

/-! ## HDM decoders (R99, R586) -/

/-- Does a commit of decoder `idx` meet the rules of R99? -/
def LdSt.commitOk (l : LdSt) (idx : Nat) (d : Decoder) : Bool :=
  let mib256 := 0x10000000
  let l' := { l with dec := mset (fun _ => none) l.dec idx (some d) }
  let lo := dpaBase l' idx
  [1, 2, 4, 8, 16].contains d.ways && [256, 512, 1024, 2048, 4096, 8192, 16384].contains d.gran &&
    decide (0 < d.size ∧ d.size % mib256 = 0 ∧ d.skip % mib256 = 0) &&
    (idx == 0 || (mget (fun _ => none) l.dec (idx - 1)).isSome) &&
    (List.range 8).all fun j => j == idx || (match mget (fun _ => none) l'.dec j with
      | none => true
      | some e => decide (dpaBase l' j + e.dpaLen ≤ lo ∨ lo + d.dpaLen ≤ dpaBase l' j))

/-- HDM_DECODER_COMMIT (R99, R586). A locked decoder does not change. -/
def execHdmDecoderCommit (link ld : Fin 16) (idx : Fin 8) (r : HdmReq) (s : State) : Res :=
  .next (
    let k := link.val * 16 + ld.val
    let d : Decoder := ⟨r.base, r.size, r.ways, r.gran, r.pos, r.skip, r.lock⟩
    let l := s.ldOf k
    if !s.linkUp link || decide (s.rd (HPT_LSTS_LDS_UP (link.val / 4) (link.val % 4)) ≤ ld.val) then s
    else
      match mget (fun _ => none) l.dec idx with
      | some ⟨_, _, _, _, _, _, true⟩ => s
      | _ =>
        if s.hp.memActive && l.commitOk idx d then
          s.onLd k fun l => { l with dec := mset (fun _ => none) l.dec idx (some d), commitErr := l.commitErr.filter fun i => i != idx.val }
        else s.onLd k fun l => { l with dec := mset (fun _ => none) l.dec idx none,
                                        commitErr := (l.commitErr.filter fun i => i != idx.val) ++ [idx.val] })

/-! ## Dynamic Capacity events (R97, R98) -/

/-- One event reaches an LD: its log takes it, or overflows at 64 records; the extent list follows. -/
def LdSt.dcEvent (t : Nat) (l : LdSt) (e : DcEvent) : LdSt :=
  let l1 := if l.dcLog.length < 64 then { l with dcLog := l.dcLog ++ [(t, e)] } else { l with dcOverflow := true }
  match e with
  | .add x => { l1 with extents := l1.extents ++ [x] }
  | .forcedRelease x => { l1 with extents := l1.extents.filter fun y => !(y.region == x.region && y.base == x.base) }
  | .configUpdated x => { l1 with extents := l1.extents.map fun y =>
      if y.region == x.region && y.base == x.base then { y with write := x.write } else y }

/-- DC_EVENT_RAISE (R97): the events owed to LD index n are raised to the LD it binds. -/
def execDcEventRaise (n : Fin 64) (s : State) : Res :=
  .next (
    if s.on TIN_RGN_STATUS_BUSY then s
    else
      let mine := (s.hp.owed.filter fun e => e.1 == n.val).map fun e => e.2
      let s1 : State := { s with hp := { s.hp with owed := s.hp.owed.filter fun e => e.1 != n.val } }
      if s1.on (TIN_LDB_VALID n) then
        let k := s1.rd (TIN_LDB_LINK n) * 16 + s1.rd (TIN_LDB_LD n)
        let s2 := s1.onLd k fun l => mine.foldl (LdSt.dcEvent s1.stampTime) l
        if mine.isEmpty then s2 else s2.ldMsi k 5
      else s1)

/-- GPF_PHASE2 (R24, R107): completes without moving data. -/
def execGpfPhase2 (link ld : Fin 16) (s : State) : Res :=
  .next (if s.ldServed link ld then s.emit (.gpf link ld) else s)

end Sys2Proof.Machine
end

