-- ==== Sys2Proof/Machine/NetCmds.lean ====
section
/-!
DEFINITION. Machine/NetCmds.lean: the network ports (R359, R387 to R391): links, modes, discarded frames, priority flow
control, address resolution.
-/
namespace Sys2Proof.Machine
open Sys2Proof

/-- STATE follows ENABLE and the sub-ports that are up; LINK_DOWN is present while an enabled port has one that is not
(R390, R599). -/
def State.showNpt (s : State) (n : Nat) : State :=
  let k := s.subPorts n
  let up := (List.range k).filter fun i => s.bitOf (NPT_STS_SUB_UP n) i
  let st := if !s.on (NPT_CTL_ENABLE n) then 0 else if up.length = k then 2 else if up.isEmpty then 1 else 3
  (s.wr (NPT_STS_STATE n) st).cond (wNPT n) 2 noSub (s.on (NPT_CTL_ENABLE n) && st != 2)

/-- Lanes of a sub-port as bits (R388). -/
def State.subLanes (s : State) (n k : Nat) : List Nat :=
  let w := 4 / s.subPorts n
  (List.range w).map fun i => k * w + i

/-- A link of a port goes down (R389); the Yoke path of the port goes DOWN with it (R338). -/
def State.nptDown (s : State) (n k : Nat) : State :=
  if s.bitOf (NPT_STS_SUB_UP n) k then
    let s1 := (((s.subLanes n k).foldl (fun t l => t.wrBit (NPT_STS_FEC_LOCK n) l false) (s.wrBit (NPT_STS_SUB_UP n) k false)).bump
      (NPT_LCNT_DOWN_EVT n)).showNpt n
    let pair := if n < 6 then 1 else 0
    if s1.on YOK_CTL_ENABLE && decide (4 ≤ n) && s1.pairsOn.contains pair then s1.pathDown pair (n % 2) else s1
  else s

/-- Does the port belong to an enabled Yoke pair (R315)? -/
def State.yokePort (s : State) (n : Nat) : Bool := s.on YOK_CTL_ENABLE && decide (4 ≤ n) && s.pairsOn.contains (if n < 6 then 1 else 0)

/-- A write of NPT_CTL (R388, R390): a change of MODE on a Yoke port or while ENABLE is 1 is ignored and recorded; MODE 3 is
ignored. -/
def State.writeNpt (s : State) (a : Agent) (n v : Nat) : State :=
  let m := getBits v 28 2
  let en := getBits v 31 1
  let bad := m != s.rd (NPT_CTL_MODE n) && m != 3 && (s.on (NPT_CTL_ENABLE n) || (s.yokePort n && m != 0))
  let s0 := if bad then s.ignored a (NPT_CTL n) v else if m = 3 then s else s.wr (NPT_CTL_MODE n) m
  let s1 := ((((s0.wr (NPT_CTL_MEDIA n) (getBits v 26 2)).wr (NPT_CTL_LANE_REV n) (getBits v 25 1)).wr (NPT_CTL_TX_POL n) (getBits v 20 4)).wr
    (NPT_CTL_RX_POL n) (getBits v 16 4))
  let down := fun (t : State) => (List.range 4).foldl (fun u k => u.nptDown n k) t
  if en = 0 then (down s1).wr (NPT_CTL_ENABLE n) 0 |>.showNpt n
  else
    let s2 := (s1.wr (NPT_CTL_ENABLE n) 1)
    (if getBits v 30 1 = 1 then down s2 else s2).showNpt n

/-- NET_PORT_MODE_WRITE (R388). -/
def execNetPortModeWrite (a : Agent) (n : Fin 8) (v : BitVec 32) (s : State) : Res :=
  .next (s.atReg a (NPT_CTL n) v.toNat fun t => t.writeNpt a n v.toNat)

/-- A write of NPT_CTL.RETRAIN (R390). -/
def State.writeNptRetrain (s : State) (n : Nat) : State := (List.range 4).foldl (fun (u : State) k => u.nptDown n k) s

/-- NET_PORT_RETRAIN (R390): every link of the port goes through training. -/
def execNetPortRetrain (a : Agent) (n : Fin 8) (s : State) : Res :=
  .next (s.atReg a (NPT_CTL n) (2 ^ 30) fun t => t.writeNptRetrain n)

/-- NET_LINK_UP (R389): `lanes` shows where FEC alignment holds. -/
def execNetLinkUp (n : Fin 8) (k : Fin 4) (lanes : BitVec 4) (s : State) : Res :=
  .next (
    if s.on (NPT_CTL_ENABLE n) && decide (k.val < s.subPorts n) then
      ((s.subLanes n k).foldl (fun t l => t.wrBit (NPT_STS_FEC_LOCK n) l (lanes.getLsbD l)) (s.wrBit (NPT_STS_SUB_UP n) k true)).showNpt n
    else s)

/-- NET_LINK_DOWN (R338, R389). -/
def execNetLinkDown (n : Fin 8) (k : Fin 4) (s : State) : Res := .next (s.nptDown n k)

/-- NET_TRAIN_FAIL (R389): tried again a second later. -/
def execNetTrainFail (n : Fin 8) (k : Fin 4) (s : State) : Res :=
  .next (
    if s.on (NPT_CTL_ENABLE n) && decide (k.val < s.subPorts n) && !s.bitOf (NPT_STS_SUB_UP n) k then s.bump (NPT_LCNT_TRAIN_FAIL n) else s)

/-- PFC_FRAME_RECEIVE (R387): the priorities that the frame pauses, and those it resumes. -/
def execPfcFrameReceive (n : Fin 8) (pause resume : BitVec 8) (s : State) : Res :=
  .next (
    if s.rd (NPT_STS_SUB_UP n) = 0 then s
    else
      let s1 := (s.bump (NPT_MAC_CNT_RX_GOOD n)).bump (NPT_PFC_CNT_RECEIVED n)
      let ps := (bitsOf pause.toNat 8).filter fun p => !s1.net.paused.contains (n.val, p)
      let s2 : State := { s1 with net := { s1.net with paused := s1.net.paused ++ ps.map fun p => (n.val, p) } }
      (bitsOf resume.toNat 8).foldl (fun t p => if pause.getLsbD p then t else t.netResume n p) s2)

/-- ADDRESS_RESOLUTION_RX (R359, R388): a request for a Drill port's address is answered untagged, or on the VLAN of an open
connection of the port. -/
def execAddressResolutionRx (n : Fin 8) (sub : Fin 4) (vlan : BitVec 12) (s : State) : Res :=
  .next (
    if !s.bitOf (NPT_STS_SUB_UP n) sub then s
    else
      let s1 := s.bump (NPT_MAC_CNT_RX_GOOD n)
      let known := s.dl.conns.any fun x => x.2.state == 2 && x.2.paths.any fun k => x.2.port k == n.val && getBits (x.2.fld 8 2) 0 12 == vlan.toNat
      if s.on DRL_CTL_ENABLE && s.drillPort n && (vlan = 0 || known) then s1.emit (.neigh n sub vlan.toNat) else s1)

/-- MAC_FRAME_DISCARD (R359, R389). -/
def execMacFrameDiscard (n : Fin 8) (why : MacDrop) (s : State) : Res :=
  .next (match why with
    | .fcs => (s.bump (NPT_MAC_CNT_FCS_ERR n)).raise (wNPT n) 4 noSub
    | .length => (s.bump (NPT_MAC_CNT_LEN_ERR n)).raise (wNPT n) 4 noSub
    | .notDrill => s.bump (NPT_MAC_CNT_RX_GOOD n))

/-- FEC_UNCORRECTABLE_CODEWORD (R389). -/
def execFecUncorrectableCodeword (n : Fin 8) (s : State) : Res :=
  .next ((s.bump (NPT_FEC_CNT_UNCORRECTED n)).raise (wNPT n) 3 noSub)

end Sys2Proof.Machine
end

