-- ==== Sys2Proof/Machine/Domains.lean ====
section
/-!
DEFINITION. Machine/Domains.lean: what a block keeps and loses when its power domain is switched off or its reset group is
reset (R549, R550, R579, R580), the journal (R71, R203, R245, R282), the recount of Winnow's counts.
-/
namespace Sys2Proof.Machine
open Sys2Proof

/-! ## Registers -/

/-- The name of the register that a key of `csr` belongs to. -/
def regName (key : Nat) : String :=
  let addr := key % 0x100000000
  match winIdx addr with
  | none => ""
  | some w => match findReg w (addr % 0x10000) with | none => "" | some (d, _, _) => d.name

/-- A register word after a reset: RWS fields stay, every other field takes its reset value (R549, R579). -/
def resetWord (key : Nat) (v : Word64) : Word64 :=
  let addr := key % 0x100000000
  match winIdx addr with
  | none => v
  | some w =>
    match findReg w (addr % 0x10000) with
    | none => v
    | some (d, _, _) =>
      let m := BitVec.ofNat 64 d.rws
      (v &&& m) ||| (csrDefault key &&& ~~~ m)

/-- Registers that a reset leaves: they show the fence states that PD00 keeps (R579), or what lies outside the block: the
always-on Harvest bits (R313), the state that the journal and the media hold, the interrupt routes (R447). -/
def State.keepReg (s : State) (key : Nat) : Bool :=
  let addr := key % 0x100000000
  let n := regName key
  let w := addr / 0x10000 % 0x4000
  ["TIN_TINE_UP", "TIN_CL_STS", "TIN_HOME", "NCH_WAYDIS", "DRM_SUBST_SRC", "DRM_SUBST_DST", "HRV_SEQ", "HRV_CNT", "YOK_RGN",
    "FUR_GOV_RATE", "FUR_GOV_ALLOW", "FUR_LIFE", "FUR_WEAR", "FUR_BLK_CNT", "CPH_RSLOT", "HDL_CORE_STS", "HDL_IRQ_ROUTE"].contains n ||
    (n == "DRM_STS" && s.rd (DRM_STS_STATE (w - 37)) == 5) || (n == "FUR_CH_STS" && s.rd (FUR_CH_STS_STATE (w - 56)) == 4) ||
    (n == "HPT_LSTS" && s.rd (HPT_LSTS_STATE w ((addr % 0x10000 - 0x114) / 0x20)) == 5)

/-- Every field above the header of the windows' registers takes its reset value, but for RWS fields and what `keep` says. -/
def State.csrReset (s : State) (ws : List Nat) (keep : Nat → Bool) : State :=
  s.csr.foldl (fun (t : State) e =>
    match winIdx (e.1 % 0x100000000) with
    | none => t
    | some w => if ws.contains w && decide (0x40 ≤ e.1 % 0x10000) && !keep e.1 then t.wrW e.1 (resetWord e.1 e.2) else t) s

/-- The windows of a domain. -/
def domWins (d : Nat) : List Nat := (List.range 100).filter fun i => winPdom i == d

/-! ## The journal -/

/-- The registers that Headland writes to the firmware journal and restores (R71, R203, R245, R282, R314, R357, R391, R419,
R442, R466, R514). -/
def journalled (key : Nat) : Bool :=
  ["TIN_DPA_LIMIT", "TIN_LDB", "TIN_CGB", "TIN_RGN_EXT", "TIN_RGN_ATTR", "TIN_RGN_LDRD", "TIN_RGN_LDWR", "TIN_RGN_CGRD", "TIN_RGN_CGWR",
    "DRM_RMP", "WIN_EPOCH", "WIN_HEAT", "WIN_FREE", "WIN_CLEAN", "WIN_RGN_POL", "FUR_SUSP", "FUR_GC", "FUR_WL", "FUR_RDIST", "FUR_RET",
    "FUR_GOV", "FUR_META", "FUR_GEOM", "FUR_GEOM2", "FUR_ENDUR", "HRV_CTL", "HRV_CAP", "HRV_BOARD", "HRV_STORE", "HRV_NAND", "YOK_RGN",
    "YOK_RSV_POS", "PWR_CAP", "NPT_CTL", "GRN_CFG", "GRN_GMAP", "GRN_OWN", "DRL_PORTDESC", "CPH_RSLOT", "MBX_CH_CTL", "HDL_IRQ_ROUTE", "HPT_LDMBX"].contains (regName key)

/-- The bits of a journalled register that the journal holds: of HRV_CAP, HRV_CTL, NPT_CTL and GRN_CFG the RWS fields, of
CPH_RSLOT KCV_SET and KCV, of the others all. -/
def journalMask (key : Nat) : Word64 :=
  let n := regName key
  if n == "HRV_CAP" then 0x1FF else if n == "HRV_CTL" then 0xA00000FF else if n == "NPT_CTL" then 0x3EFF0000
  else if n == "GRN_CFG" then 0x3F0007FF else if n == "CPH_RSLOT" then 0x40000000FFFFFFFF else 0xFFFFFFFFFFFFFFFF

/-- The journalled registers as they stand. -/
def State.journalNow (s : State) : SMap Word64 := s.csr.filter fun e => journalled e.1

/-- Writes a journalled value back. -/
def State.journalPut (s : State) (key : Nat) (v : Word64) : State :=
  let m := journalMask key
  s.wrW key ((v &&& m) ||| (s.rdW key &&& ~~~ m))

/-- Restores the journalled registers that `pick` names: those the journal does not list to their reset values. -/
def State.journalRestore (s : State) (j : SMap Word64) (pick : Nat → Bool) : State :=
  let s1 := s.csr.foldl (fun (t : State) e => if journalled e.1 && pick e.1 then t.journalPut e.1 (csrDefault e.1) else t) s
  j.foldl (fun (t : State) e => if pick e.1 then t.journalPut e.1 e.2 else t) s1

/-! ## Counts -/

/-- Recounts what the tier map shows: resident, pinned and dirty pages (R224, R244, R285), frames, pins; the cap and the
arming follow. -/
def State.recount (s : State) : State :=
  let view := s.win.tier.map fun e => (e.1, s.tierOf e.1)
  let cnt := fun (p : TierEnt → Bool) => (view.filter fun e => p e.2).length
  let s1 := (List.range 256).foldl (fun (t : State) r =>
    (t.wr (WIN_RGN_RES_RESIDENT r) (cnt fun e => e.region == r && e.frame.isSome)).wr (WIN_RGN_RES_PINNED r)
      (cnt fun e => e.region == r && e.pinned)) s
  let dirty := cnt fun e => e.dirty
  let s2 := ((s1.wr WIN_PAGE_CNT_RESIDENT (cnt fun e => e.frame.isSome)).wr HRV_DIRTY_PAGES dirty).wr HRV_DIRTY_PEAK dirty
  (((s2.showFrames).showMoves).showPins).showHarvest

/-- HEAT held only in Winnow's entry cache is lost (R284): every page's HEAT is a free value. -/
def State.heatLost (s : State) : State :=
  s.win.tier.foldl (fun (t : State) e =>
    (t.onWin fun w => { w with tier := mset (fun _ => ({} : TierEnt)) w.tier e.1 { e.2 with heat := (Config.freeWord t.fresh).toNat % 256 } }).draw) s

/-! ## What each domain loses -/

/-- PD02: the tines' queues, the lock table, the near cache, the mailboxes. What waits at the boundary crossings and the
combining-buffer lines that hold data stay through a group reset (R579, R580); nothing stays through power-off. -/
def State.resetCore (s : State) (off : Bool) : State :=
  let s1 := s.csrReset (domWins 2) s.keepReg
  let f := s.fab
  let lines := f.cb.map fun l => l.line
  let fab : Fabric := if off then { waysOut := f.waysOut, nextId := f.nextId, fencing := f.fencing }
    else { f with hints := [], rgnOp := none, hold := true, queue := [], xbar := (f.queue ++ f.xbar).map (fun r => { r with phase := .xbar }),
                  alt := f.alt.filter fun e => lines.contains e.line }
  let s2 : State := { s1 with fab := fab, mb := {}, cs := { s1.cs with stage := [], relay := none, seqs := [] } }
  let s3 := ((List.range 16).foldl (fun (t : State) b => t.ncReset b) s2).showAlt
  (List.range 8).foldl (fun (t : State) c => t.showCb c) s3

/-- PD03: every key slot is emptied by steps 2 to 6 of R433 with no alarm status; the lanes are tested again (R434, R440). -/
def State.resetCph (s : State) : State :=
  let s1 := s.zeroise
  ((((s1.csrReset (domWins 3) s1.keepReg).onCph fun c => { c with fwq := [], fwBad := false, testing := List.range 69 }).showAlarm).wr CPH_STS_STATE 0).showLanes

/-- PD04: moves are abandoned, the tracker's counts are taken anew, Harrow restarts its pass, Harvest is not armed (R580). -/
def State.resetMem (s : State) : State :=
  let s1 := s.win.moves.foldl (fun (t : State) m => t.abandonMove m.page) s
  let s2 := (s1.onWin fun w => { w with moves := [], pinOp := none, ring := [], cut := 0, curs := [], epochOn := false, epochAt := s.now,
                                        sweepDone := true, cleaning := false, demoting := false }).onDr fun d => { d with hrwLine := 0, hrwStart := s.now }
  let held := s.on HRV_STS_FALLOW_HELD
  let s3 := (s2.csrReset (domWins 4) s2.keepReg).heatLost
  s3.wr HRV_STS_FALLOW_HELD (if held then 1 else 0)

/-- Furrow cut off by the loss of its power: nothing runs. Superblocks open for a stream are closed, since Resow programs only FREE ones
(R307); what was to be erased still is. -/
def Furrow.cut (u : Furrow) : Furrow :=
  { u with
    ops := [], rds := [], relocs := []
    sbs := u.sbs.map fun e =>
      if e.2.role == .data || e.2.role == .metadata then
        (e.1, { e.2 with stream := none, closed := (if e.2.closed = 0 then u.closeSeq + 1 else e.2.closed), relocating := e.2.erasing,
                         gc := e.2.gc && e.2.erasing, erasing := false })
      else (e.1, { e.2 with erasing := false })
    closeSeq := u.closeSeq + 1 }

/-- PD05: a reset leaves the media, the write buffer and Furrow's operation; relocations not accepted are abandoned, and what
was being programmed is programmed again (R279, R580). Power-off stops Furrow. -/
def State.resetFur (s : State) (off : Bool) : State :=
  let keep := fun k => s.keepReg k || (!off && ["FUR_CTL", "FUR_STS", "FUR_GEOM"].contains (regName k))
  let s1 := s.csrReset (domWins 5) keep
  if off then s1.onFur Furrow.cut
  else (((s1.onFur fun u => { u with rds := u.rds.filter fun r => r.why == .promote || r.why == .cold }).relocStop).relocAgain).showSb

/-- PD34 and PD35: the channels of a half, c0 to c0 + 15. Delays are kept, so a reset needs no training (R580). -/
def State.resetFc (s : State) (c0 : Nat) (off : Bool) : State :=
  let keep := fun k => s.keepReg k || (!off && ["FUR_CH_CTL", "FUR_CH_STS"].contains (regName k))
  s.csrReset ((List.range 16).map fun i => wFC (c0 + i)) keep

/-- PD06: what is not acknowledged goes from the frames back to the queue where its write still waits for the twin (R323,
R340); the handshakes start anew. -/
def State.resetYok (s : State) : State :=
  let again := fun (y : YPair) => (y.log.flatMap (fun f => f.ents) ++ y.queue).filter fun e => e.req.isSome && s.rd (YOK_RGN_STATE e.region) == 5
  let s1 := s.onYk fun y => { y with pairs := y.pairs.map (fun q => ({ queue := again q } : YPair)), heals := [], healQ := [], healDone := [],
                                     healEnded := [], healIn := [], rsv := none, relay := [], relaySeen := [], twinSaid := [], serialTwin := 0 }
  s1.csrReset (domWins 6) s1.keepReg

/-- PD07: every connection is CLOSED without a CLOSE packet, every queue UNBOUND; the Granary list is rebuilt where the pool
is on (R370, R416, R580). -/
def State.resetDrl (s : State) : State :=
  let s1 := s.dl.conns.foldl (fun (t : State) e => t.connClosed e.1 0) s
  let s2 : State := { s1 with dl := {} }
  let s3 := s2.csrReset (domWins 7) s2.keepReg
  s3.onGrn fun g => { g with building := false, stack := [], next := 0, held := [] }

/-- PD08 to PD11: a core stops; its banks are zeroed and its semaphores released (R427, R447). A fenced core stays fenced. -/
def State.resetHcore (s : State) (n : Nat) : State :=
  let a : Agent := [Agent.h0, .h1, .h2, .h3].getD n .h0
  let s1 := s.csr.foldl (fun (t : State) e => if e.1 / 0x100000000 == bankOf a && [wCPH, wMBX].contains (e.1 / 0x10000 % 0x4000) then t.wrW e.1 (csrDefault e.1) else t) s
  let s2 := (List.range 32).foldl (fun (t : State) k => if t.semHeldBy n k then t.semFree k else t) s1
  let s3 := (s2.onMb fun m => { m with wakes := m.wakes.filter fun x => x != n }).wr (HDL_CORE_CTL_SLEEP_EN n) 0
  if s.coreState n = 4 then s3 else s3.wr (HDL_CORE_STS_STATE n) 0

/-- PD12 to PD15: each sub-link as after a conventional reset (R111). -/
def State.resetHp (s : State) (p : Nat) : State :=
  let s1 := (List.range 4).foldl (fun (t : State) q => t.convReset p q 0) s
  (s1.csrReset (domWins (12 + p)) s1.keepReg).applyMode p

/-- PD16 to PD31: the channel's scheduler and queues are cleared; delays and fence states are kept (R198, R580). -/
def State.resetDc (s : State) (c : Nat) : State :=
  let s1 := s.onCh c fun h => { fencedRanks := h.fencedRanks, trained := h.trained, holdover := h.holdover, spareBad := h.spareBad }
  s1.csrReset [wDRM c] s1.keepReg

/-- PD32 and PD33: the ports n0 to n0 + 3. `quiet` where Harvest has stopped Yoke: its paths go DOWN and nothing else. -/
def State.resetNet (s : State) (n0 : Nat) (quiet : Bool) : State :=
  let ports := (List.range 4).map fun i => n0 + i
  let s1 := if quiet then s else ports.foldl (fun (t : State) n => (List.range 4).foldl (fun (u : State) k => u.nptDown n k) t) s
  let s2 := s1.csrReset (ports.map wNPT) s1.keepReg
  { s2 with net := { s2.net with paused := s2.net.paused.filter (fun x => !ports.contains x.1), held := s2.net.held.filter fun x => !ports.contains x.1 } }

/-- What a domain loses. -/
def State.resetDom (s : State) (d : Nat) (off : Bool) : State :=
  if d = 2 then s.resetCore off
  else if d = 3 then s.resetCph
  else if d = 4 then s.resetMem
  else if d = 5 then s.resetFur off
  else if d = 6 then s.resetYok
  else if d = 7 then s.resetDrl
  else if 8 ≤ d ∧ d < 12 then s.resetHcore (d - 8)
  else if 12 ≤ d ∧ d < 16 then s.resetHp (d - 12)
  else if 16 ≤ d ∧ d < 32 then s.resetDc (d - 16)
  else if d = 32 ∨ d = 33 then s.resetNet (4 * (d - 32)) (s.rd PWR_STS_STATE == 3 || off)
  else if d = 34 ∨ d = 35 then s.resetFc (16 * (d - 34)) off
  else s

/-- Are all four core domains off (R667)? -/
def State.coresOff (s : State) : Bool := (List.range 4).all fun n => s.rd (PWR_PD_STATE (8 + n)) == 0

/-- UNIT.POWERED of a domain's windows follows its state; the Headland window is on while any core's domain is not OFF (R667). -/
def State.showPowered (s : State) (d : Nat) : State :=
  if 8 ≤ d ∧ d < 12 then s.wr (UNIT_POWERED wHDL) (if s.coresOff then 0 else 1)
  else (domWins d).foldl (fun (t : State) w => t.wr (UNIT_POWERED w) (if s.rd (PWR_PD_STATE d) = 2 then 1 else 0)) s

/-- A domain goes to OFF, or to RETENTION (R549). -/
def State.domOff (s : State) (d : Nat) (retain : Bool) : State :=
  if s.rd (PWR_PD_STATE d) = 0 then s
  else
    let s1 := ((s.resetDom d true).wr (PWR_PD_STATE d) (if retain then 1 else 0)).showPowered d
    if 8 ≤ d && d < 12 && s1.coresOff then s1.csrReset [wHDL] s1.keepReg else s1

/-- A domain goes to ON; one that is ON ignores it (R550). A core restarts through the ROM, unless it is fenced (R445, R585). -/
def State.domOn (s : State) (d : Nat) : State :=
  if s.rd (PWR_PD_STATE d) = 2 then s
  else
    let was := s.rd (PWR_PD_STATE d)
    let s1 := ((s.wr (PWR_PD_STATE d) 2).wr (PWR_PD_FW_OFF d) 0).showPowered d
    if 8 ≤ d ∧ d < 12 then
      let n := d - 8
      if s.coreState n = 4 then s1 else s1.wr (HDL_CORE_STS_STATE n) (if was = 1 then 2 else 1)
    else if d = 3 then (if was = 0 then s1.onCph fun c => { c with testing := List.range 69 } else s1).showLanes
    else s1

/-- After any reset of the Headland cluster but one at power-on, while the world lock is set, the window of R546 opens. -/
def State.openWindow (s : State) : State :=
  let t : State := { s with efl := { s.efl with kicked := false, running := none }, cs := { s.cs with stage := [], relay := none } }
  if t.locked then ({ t with efl := { t.efl with resetAt := some t.now } }.wr EFL_WDT_STS_WINDOW 1).wr EFL_WDT_STS_ABSENT_S 0 else t

end Sys2Proof.Machine
end

