-- ==== Sys2Proof/Machine/Headland.lean ====
section
/-!
DEFINITION. Machine/Headland.lean: the mailboxes' commands (R452 to R459), the semaphores (R461 to R463), and the cores' sleep,
wake and fences (R444 to R446).
-/
namespace Sys2Proof.Machine
open Sys2Proof

/-! ## Mailboxes -/

/-- May a requester write a slot (R448, R452)? -/
def State.maySend (s : State) (a : Agent) (c : Nat) (out : Bool) : Bool :=
  let core := a != .sb && s.agentSecure a == s.chanSecure c
  if out then core && decide (c < 48 ∨ 56 ≤ c)
  else if c < 32 then false
  else if c < 48 then a == .sb
  else if c < 56 then core
  else false

/-- Is the staged destination one of the channel's (R452)? -/
def State.destOk (s : State) (c kind dest : Nat) : Bool :=
  if c < 32 then
    (kind == 1 && decide (dest < 64) && s.on (HPT_LDMBX_VALID dest) && s.rd (HPT_LDMBX_CHANNEL dest) == c) ||
    (kind == 2 && (s.connAt dest).state != 0 && (s.connAt dest).control && (s.connAt dest).chan == c)
  else if c < 48 then kind == 3
  else kind == 4

/-- The header fields of a requester (R451). -/
def senderHdr (a : Agent) (world : Bool) (dkind dest : Nat) : Nat :=
  mbxHdr (if a == .sb then 3 else 0) world (if a == .sb then 0 else agentNum a) dkind dest

/-- The power domains of the block that takes an OUT message (R459). -/
def State.takerPds (s : State) (c kind dest : Nat) : List Nat :=
  if 56 ≤ c then [6]
  else if kind = 1 then [12 + s.rd (TIN_LDB_LINK dest) / 4]
  else if kind = 2 then [32, 33].filter fun d => (List.range 4).any fun i => s.bitOf DRL_CTL_PORTS ((d - 32) * 4 + i)
  else []

/-- A message wakes power domains that are in RETENTION, or OFF and not switched off by firmware (R552). -/
def State.wakePds (s : State) (l : List Nat) : State :=
  let asleep := l.filter fun d => s.rd (PWR_PD_STATE d) == 1 || (s.rd (PWR_PD_STATE d) == 0 && !s.on (PWR_PD_FW_OFF d))
  asleep.foldl (fun (t : State) d => (t.domOn d).bump (PWR_PD_WAKES d)) s

/-- Reports an operation in the requester's bank. -/
def State.mbxResult (s : State) (a : Agent) (op r c : Nat) : State :=
  ((s.wr (MBX_OP_STS_OP.bank a) op).wr (MBX_OP_STS_RESULT.bank a) r).wr (MBX_OP_STS_CHANNEL.bank a) c

/-- A write of MBX_SEND with GO (R452, R453, R459). -/
def State.writeMbxSend (s : State) (a : Agent) (out : Bool) (c : Nat) : State :=
  let w := 2 ^ 31 + (if out then 2 ^ 30 else 0) + c
  let s0 := (s.wr (MBX_SEND_DIR.bank a) (if out then 1 else 0)).wr (MBX_SEND_CHANNEL.bank a) c
  let kind := s.rd (MBX_DEST_DKIND.bank a)
  let dest := s.rd (MBX_DEST_DEST.bank a)
  if !s.maySend a c out then (s0.mbxResult a 1 3 c).ignored a MBX_SEND w
  else if out && !s.destOk c kind dest then (s0.mbxResult a 1 4 c).ignored a MBX_SEND w
  else
    let msg := (List.range 8).flatMap fun k => leBytes (s.rd ((MBX_STG_BYTES k).bank a)) 8
    let hdr := senderHdr a (s.chanSecure c) (if out then kind else 0) (if out then dest else 0)
    let s1 := (List.range 8).foldl (fun (t : State) k => t.wr ((MBX_STG_BYTES k).bank a) 0) (s0.mbxPut c out hdr msg)
    let s2 := s1.mbxResult a 1 (if s.mbxFull c out then 1 else 0) c
    if !out then s2
    else
      let s3 := s2.wakePds (s.takerPds c kind dest)
      if 56 ≤ c then s3.relayNew c else s3

/-- MBX_SEND (R452). -/
def execMbxSend (a : Agent) (dir : Bool) (c : Fin 64) (s : State) : Res :=
  .next (s.atReg a MBX_SEND (2 ^ 31 + (if dir then 2 ^ 30 else 0) + c.val) fun t => t.writeMbxSend a dir c)

/-- May a requester acknowledge a slot (R455)? -/
def State.mayAck (s : State) (a : Agent) (c : Nat) (out : Bool) : Bool :=
  if out then a == .sb && decide (32 ≤ c ∧ c < 48)
  else a != .sb && s.agentSecure a == s.chanSecure c

/-- A write of MBX_ACK with GO (R455). -/
def State.writeMbxAck (s : State) (a : Agent) (out : Bool) (c seq : Nat) : State :=
  let s0 := ((s.wr (MBX_ACK_DIR.bank a) (if out then 1 else 0)).wr (MBX_ACK_CHANNEL.bank a) c).wr (MBX_ACK_SEQ.bank a) seq
  if !s.mayAck a c out then
    (s0.mbxResult a 2 3 c).badAccess a true true 5 MBX_ACK (BitVec.ofNat 64 (2 ^ 63 + (if out then 2 ^ 62 else 0) + c * 2 ^ 32 + seq))
  else if !s.mbxFull c out then s0.mbxResult a 2 5 c
  else if s.mbxSeq c out != seq then s0.mbxResult a 2 2 c
  else (s0.mbxEmpty c out).mbxResult a 2 0 c

/-- MBX_ACK (R455). -/
def execMbxAck (a : Agent) (dir : Bool) (c : Fin 64) (seq : BitVec 32) (s : State) : Res :=
  .next (s.atReg a MBX_ACK (2 ^ 63 + (if dir then 2 ^ 62 else 0) + c.val * 2 ^ 32 + seq.toNat) fun t => t.writeMbxAck a dir c seq.toNat)

/-- HW_SENDER_PRESENT (R454). -/
def execHwSenderPresent (h : HwSend) (s : State) : Res :=
  .next (if !s.powered wMBX then s else
    match h with
    | .cxl link ld op pay => s.feNew link ld op.toNat pay
    | .cxlWaiting link ld =>
      match s.mb.fe.find? fun f => f.link == link.val && f.ld == ld.val with
      | none => s
      | some f => s.feTry f
    | .drill conn psn => s.drlMbx conn.toNat psn.toNat
    | .relay c =>
      match s.mb.relay.find? fun r => r.chan == c.val with
      | none => s
      | some r => if s.mbxFull c false then s else (s.onMb fun m => { m with relay := m.relay.filter fun x => x != r }).relayDeliver r)

/-- OUT_SLOT_DELIVER (R457): of host channels; relay messages leave when they enter the slot, and BMC messages stay. -/
def execOutSlotDeliver (c : Fin 64) (s : State) : Res :=
  .next (if c.val < 32 && s.mbxFull c true then s.outTake c else s)

/-- MBX_POLL_TIMER (R459): each running core is told of what waits in its channels with IRQ_EN 0. -/
def execMbxPollTimer (s : State) : Res :=
  let waits := (List.range 64).filter fun c =>
    !s.on (MBX_CH_CTL_IRQ_EN c) && s.mbxFull c false && s.coreState (s.rd (MBX_CH_CTL_CORE c)) == 2 && !s.mb.told.contains c
  .next (s.onMb fun m => { m with told := m.told ++ waits })

/-! ## Semaphores -/

/-- A 32-bit read of a semaphore (R461): the state after it and the value read. -/
def State.semRead (s : State) (a : Agent) (k : Nat) : State × Nat :=
  if s.semHeld k then (s, 2 ^ 30 + s.rd (MBX_SEM_OWNER k))
  else ((((s.wr (MBX_SEM_HELD_F k) 1).wr (MBX_SEM_OWNER k) (agentNum a)).wrBit MBX_SEM_HELD_HELD k true), 2 ^ 31 + 2 ^ 30 + agentNum a)

/-- SEM_READ (R461). -/
def execSemRead (a : Agent) (k : Fin 32) (s : State) : Res :=
  .next (s.atRead a (MBX_SEM k) fun t => let (u, v) := t.semRead a k; u.emit (.ctrl a (BitVec.ofNat 64 v)))

/-- A 32-bit write of a semaphore (R463). -/
def State.writeSem (s : State) (a : Agent) (k v : Nat) : State :=
  if s.semHeld k && s.rd (MBX_SEM_OWNER k) == agentNum a then s.semFree k
  else (s.raise wMBX 4 k).ignored a (MBX_SEM k) v

/-- SEM_RELEASE (R463). -/
def execSemRelease (a : Agent) (k : Fin 32) (s : State) : Res :=
  .next (s.atReg a (MBX_SEM k) 0 fun t => t.writeSem a k 0)

/-- A write of MBX_SEM_FORCE with GO (R463). -/
def State.writeSemForce (s : State) (a : Agent) (k : Nat) : State :=
  if a != .sb && s.agentSecure a then (s.semFree k).wr MBX_SEM_FORCE_SEM k
  else s.ignored a MBX_SEM_FORCE (2 ^ 31 + k)

/-- SEM_FORCE (R463). -/
def execSemForce (a : Agent) (k : Fin 32) (s : State) : Res :=
  .next (s.atReg a MBX_SEM_FORCE (2 ^ 31 + k.val) fun t => t.writeSemForce a k)

/-! ## The cores -/

/-- An interrupt route with ENABLE 1 that names a fenced core, or one that may sleep (R444, R599). -/
def State.showOrphan (s : State) : State :=
  s.cond wHDL 3 noSub ((List.range 100).any fun i =>
    let c := s.rd (HDL_IRQ_ROUTE_CORE i)
    s.on (HDL_IRQ_ROUTE_ENABLE i) && (s.coreState c == 4 || s.on (HDL_CORE_CTL_SLEEP_EN c)))

/-- HDL_UNIT.DEGRADED follows the fenced cores. -/
def State.showCores (s : State) : State :=
  (s.wr (UNIT_DEGRADED wHDL) (if (List.range 4).any fun n => s.coreState n == 4 then 1 else 0)).showOrphan

/-- CORE_SLEEP (R445): a running core whose SLEEP_EN is 1. -/
def execCoreSleep (n : Fin 4) (s : State) : Res :=
  .next (if s.coreState n = 2 && s.on (HDL_CORE_CTL_SLEEP_EN n) then (s.wr (HDL_CORE_STS_STATE n) 3).wr (PWR_PD_STATE (8 + n)) 1 else s)

/-- CORE_WAKE (R445): a sleeping core that a message has woken. -/
def execCoreWake (n : Fin 4) (s : State) : Res :=
  .next (
    if s.coreState n = 3 && s.mb.wakes.contains n.val then
      ((((s.onMb fun m => { m with wakes := m.wakes.filter fun x => x != n.val }).wr (HDL_CORE_STS_STATE n) 2).wr (PWR_PD_STATE (8 + n)) 2).bump
        (HDL_CORE_STS_WAKES n)).bump (PWR_PD_WAKES (8 + n))
    else s)

/-- Is the core one that a fence may not take: no other is in service (R604)? -/
def State.lastCore (s : State) (n : Nat) : Bool :=
  !(List.range 4).any fun m => m != n && (s.coreState m == 1 || s.coreState m == 2 || s.coreState m == 3)

/-- The lowest running core of a core's world. -/
def State.standIn (s : State) (n : Nat) : Option Nat :=
  (List.range 4).find? fun m => m != n && s.coreState m == 2 && s.agentSecure ([Agent.h0, .h1, .h2, .h3].getD m .h0) == s.agentSecure ([Agent.h0, .h1, .h2, .h3].getD n .h0)

/-- A core is fenced (R446): its routes move. -/
def State.coreFence (s : State) (n cause : Nat) : State :=
  if s.coreState n = 4 then s
  else if s.holds wHDL then s.holdFence wHDL n 2 cause (cause == 2)
  else
    let s1 := ((s.wr (HDL_CORE_STS_STATE n) 4).wr (HDL_CORE_STS_CAUSE n) cause).onMb fun m => { m with wakes := m.wakes.filter fun x => x != n }
    let s2 := match s.standIn n with
      | none => s1
      | some m =>
        let t := (List.range 100).foldl (fun (u : State) i => if u.rd (HDL_IRQ_ROUTE_CORE i) = n then u.wr (HDL_IRQ_ROUTE_CORE i) m else u) s1
        (List.range 64).foldl (fun (u : State) c => if u.rd (MBX_CH_CTL_CORE c) = n then u.wr (MBX_CH_CTL_CORE c) m else u) t
    (s2.showCores).fenceRec wHDL 1 (cause == 2) n 2 0

/-- HDL_CORE_CTL_n.FENCE: ignored and recorded for the last core (R446, R604). -/
def State.writeCoreFence (s : State) (a : Agent) (n : Nat) : State :=
  if s.lastCore n then (s.fenceRec wHDL 4 false n 2 0).ignored a (HDL_CORE_CTL n) (2 ^ 31) else s.coreFence n 1

/-- CORE_FENCE (R446). -/
def execCoreFence (a : Agent) (n : Fin 4) (s : State) : Res :=
  .next (s.atReg a (HDL_CORE_CTL n) (2 ^ 31) fun t => t.writeCoreFence a n)

/-- CORE_SELF_CHECK_FAIL (R446, R604). -/
def execCoreSelfCheckFail (n : Fin 4) (s : State) : Res :=
  .next (
    if s.coreState n = 0 then s
    else
      let s1 := s.raise wHDL 2 n
      if s.coreState n = 4 then s1 else if s.lastCore n then s1.fenceRec wHDL 4 true n 2 0 else s1.coreFence n 2)

/-- HDL_CORE_CTL_n.UNFENCE: a fenced core restarts through the ROM; ignored and recorded for a core that is not fenced (R446,
R605). -/
def State.writeCoreUnfence (s : State) (a : Agent) (n : Nat) : State :=
  if s.coreState n != 4 then s.ignored a (HDL_CORE_CTL n) (2 ^ 30)
  else ((s.wr (HDL_CORE_STS_STATE n) 1).fenceRec wHDL 2 false n 2 0).showCores

/-- CORE_UNFENCE (R446). -/
def execCoreUnfence (a : Agent) (n : Fin 4) (s : State) : Res :=
  .next (s.atReg a (HDL_CORE_CTL n) (2 ^ 30) fun t => t.writeCoreUnfence a n)

end Sys2Proof.Machine
end

