-- ==== Sys2Proof/Machine/Fences.lean ====
section
/-!
DEFINITION. Machine/Fences.lean: the fences that waited for the end of a Harvest or of a group reset (R605).
-/
namespace Sys2Proof.Machine
open Sys2Proof

/-- Applies a fence that was held. -/
def State.applyFence (s : State) (h : HeldFence) : State :=
  let dev := if h.dev then some h.bit else none
  match winBlk h.win with
  | (.tc, c) => if h.sub = noSub then s.clusterFence c h.mode dev else s.tineFence (c * 32 + h.sub) h.mode dev
  | (.nch, b) => if s.on (UNIT_FENCED h.win) then s else s.ncFence b h.dev
  | (.drm, c) => s.dramFence c (if h.sub = noSub then none else some h.sub) (h.mode == 1) h.dev h.bit
  | (.fc, c) => if h.sub = noSub then s.flashFence c h.dev h.bit else s.lunOut (c * 16 + h.sub) h.dev h.bit
  | (.cph, _) => s.laneFence h.sub
  | (.hdl, _) => s.coreFence h.sub h.mode
  | (.hpt, p) => s.fenceSub p h.sub h.dev
  | _ => s

/-- Applies the fences that no longer wait, in the order raised. -/
def State.applyHeld (s : State) : State :=
  let (stay, go) := s.rs.held.partition fun h => s.holds h.win
  go.foldl (fun (t : State) h => t.applyFence h) { s with rs := { s.rs with held := stay } }

end Sys2Proof.Machine
end

