-- ==== Sys2Proof/Machine/Power.lean ====
section
/-!
DEFINITION. Machine/Power.lean: the power sequencer (R554 to R567), power domains on request (R551), the voltage loop (R568 to
R570), the PMBus master (R571, R572), the supply of the sideband (R651), and what a loss of power starts (R294, R311, R654).
-/
namespace Sys2Proof.Machine
open Sys2Proof

/-- Changes the sequencer. -/
def State.onPw (s : State) (f : Power → Power) : State := { s with pw := f s.pw }
/-- Changes Harvest. -/
def State.onHv (s : State) (f : Harvest → Harvest) : State := { s with hv := f s.hv }

/-- PWR_STS.STATE. -/
def State.pwr (s : State) : Nat := s.rd PWR_STS_STATE
/-- STATE of a slot. -/
def State.slotSt (s : State) (n : Nat) : Nat := s.rd (PWR_RSTS_STATE n)
/-- The USED slots. -/
def State.slots (s : State) : List Nat := (List.range 24).filter fun n => s.on (PWR_RAIL_USED n)
/-- The slots that a slot depends on. -/
def State.depsOf (s : State) (n : Nat) : List Nat := bitsOf (s.rd (PWR_RAIL_DEPS n)) 24

/-- An event of the sequencer: PWR_EVT_LAST takes the first since VALID was cleared; the fault bit is raised with a POWER record
(R560, R599, R615, R616). -/
def State.pwrEvt (s : State) (bit cause slot : Nat) : State :=
  let w := 2 ^ 63 + cause * 2 ^ 59 + slot * 2 ^ 54 + s.pwr * 2 ^ 51
  let s1 := if s.on PWR_EVT_LAST_VALID then s
    else (((s.wr PWR_EVT_LAST_CAUSE cause).wr PWR_EVT_LAST_SLOT slot).wr PWR_EVT_LAST_STATE s.pwr).wr PWR_EVT_LAST_VALID 1
  s1.raiseAs wPWR bit (if slot = 31 then noSub else slot) 0x06 (leBytes w 8)

/-! ## The table (R556) -/

/-- The slots left once every slot whose dependencies are gone has been taken out, n times over. -/
def State.depLeft (s : State) : Nat → List Nat → List Nat
  | 0, l => l
  | n + 1, l => s.depLeft n (l.filter fun x => (s.depsOf x).any l.contains)

/-- The first rule of R556 that the table breaks, 0 where it breaks none. -/
def State.tableErr (s : State) : Nat :=
  let u := s.slots
  let core := u.filter fun n => s.on (PWR_RAIL_CORE n)
  let hv := fun n => s.on (PWR_RAIL_HARVEST n)
  let fw := fun n => s.on (PWR_RAIL_FALLOW n)
  if u.any fun n => (s.depsOf n).any fun m => !u.contains m then 1
  else if !(s.depLeft 24 u).isEmpty then 2
  else if core.length != 1 then 3
  else if (u.any fun n => fw n && !hv n) || core.any fun n => !hv n || fw n then 4
  else if u.any fun n => (s.depsOf n).any fun m => (hv n && !hv m) || (fw n && !fw m) then 5
  else if s.on PWR_VLOOP_ENABLE && core.any fun n => !s.on (PWR_RADDR_PRESENT n) then 6
  else 0

/-! ## Power-up (R557 to R560) -/

/-- The time since the power-up began, in 10 µs (R591). -/
def State.msNow (s : State) : Nat := (s.now - s.pw.upAt) / 10000

/-- Every USED slot is GOOD: ON. The sequencer switches PD02 to PD11 on and releases the core reset (R558). -/
def State.reachOn (s : State) : State :=
  let s1 := (s.wr PWR_STS_STATE 2).wr (RST_MS_TIME 0) s.msNow
  let s2 := ((List.range 10).foldl (fun (t : State) i => t.domOn (2 + i)) s1).wr (RST_MS_TIME 1) s1.msNow
  let s3 : State := { s2 with hp := { s2.hp with stopped := false, memActive := false } }
  ((s3.onHv fun h => { h with armed := false, resown := false, resowAt := s.now }).wr HRV_STS_STATE 1).recount

/-- Enables at one instant every USED slot not yet enabled whose dependencies are all GOOD. -/
def State.enableStep (s : State) : State :=
  let go := s.slots.filter fun n => !s.on (PWR_RSTS_EN n) && (s.depsOf n).all fun m => s.slotSt m == 3
  go.foldl (fun (t : State) n =>
    let high := t.on (PWR_RSTS_PG n)
    (((t.wr (PWR_RSTS_EN n) 1).wr (PWR_RSTS_STATE n) 2).wr (PWR_RSTS_STEP_CHAT n) 0).onPw fun p =>
      { p with risen := (if high then [n] else []) ++ p.risen.filter fun x => x != n }) s

/-- A power-up begins: RST_MS is zeroed and the first step enabled. -/
def State.powerUp (s : State) : State :=
  let s1 := (List.range 8).foldl (fun (t : State) k => t.wr (RST_MS_TIME k) 0) ((s.wr PWR_STS_STATE 1).onPw fun p => { p with upAt := s.now })
  let s2 := s1.slots.foldl (fun (t : State) n => if t.on (PWR_RSTS_EN n) then t else t.wr (PWR_RSTS_STATE n) 1) s1
  let s3 := s2.enableStep
  if s3.slots.all fun n => s3.slotSt n == 3 then s3.reachOn else s3

/-! ## Power-down (R563, R565 to R567) -/

/-- The power-down ends when every slot is OFF or PASSED_OVER, or a FALLOW slot being held. -/
def State.pwrDone (s : State) : State :=
  if s.pw.taking.isEmpty then
    match s.pw.goal with
    | none => s
    | some g => ((s.onPw fun p => { p with goal := none }).wr PWR_STS_STATE g).wr PWR_STS_FAULT (if g = 6 then 1 else 0)
  else s

/-- A slot is out of the shutdown order. -/
def State.slotOut (s : State) (n st : Nat) : State :=
  ((s.wr (PWR_RSTS_STATE n) st).onPw fun p => { p with taking := p.taking.filter fun x => x != n }).pwrDone

/-- Every domain but PD00 and PD01 goes off, the DRAM channels to RETENTION where Fallow holds them. -/
def State.allOff (s : State) (fallow : Bool) : State :=
  (List.range 34).foldl (fun (t : State) i => let d := 2 + i; t.domOff d (fallow && decide (16 ≤ d ∧ d < 32))) s

/-- Every enabled slot is to be taken down in shutdown order, FALLOW slots held where Fallow was entered; then the state is
`goal`. Without them FALLOW_HELD clears (R304, R311). -/
def State.takeDown (s : State) (goal : Nat) (fallow : Bool) : State :=
  let s1 := (s.allOff fallow).onHv fun h => { h with armed := false, resown := false, pend := none, run := none, failSlot := none }
  let s2 := if fallow then s1 else s1.wr HRV_STS_FALLOW_HELD 0
  let s3 := (s2.slots.foldl (fun (t : State) n => if t.slotSt n = 1 then t.wr (PWR_RSTS_STATE n) 0 else t) s2).wr PWR_VLOOP_STS_HELD 0
  let down := s3.slots.filter fun n => s3.on (PWR_RSTS_EN n) && !(fallow && s3.on (PWR_RAIL_FALLOW n))
  let busy := s3.pw.taking.filter fun n => s3.slotSt n == 4
  ((s3.wr PWR_STS_STATE 4).onPw fun p => { p with taking := busy ++ down, goal := some goal }).pwrDone

/-- The power-up is aborted by a slot (R560). -/
def State.powerAbort (s : State) (n bit cause : Nat) : State :=
  (((s.wr PWR_STS_FLT_DRIVEN 1).wr (PWR_RSTS_STATE n) 6).pwrEvt bit cause n).takeDown 6 false

/-- Would a loss of power start a Harvest: the flash tier is formatted and Resow has armed Harvest since the power-up (R293,
R311)? -/
def State.harvestable (s : State) : Bool := s.fur.formatted && s.hv.armed

/-- A Harvest is started (R294); one that is under way goes on. -/
def State.startHarvest (s : State) (r : HvRun) : State :=
  if s.hv.pend.isSome || s.hv.run.isSome then s
  else s.onHv fun h => { h with pend := some { r with best := !s.on HRV_STS_ARMED, t0 := s.now, ts := s.stampTime } }

/-- Power goes while the state is ON: a Harvest, or a power-down to `goal` (R311, R557). -/
def State.powerGoes (s : State) (r : HvRun) (goal : Nat) : State :=
  if s.harvestable then s.startHarvest r else s.takeDown goal false

/-! ## Rows -/

/-- A write of PWR_CTL.ON (R556, R557, R565, R567, R653). `flt` is the level of PWR_FLT_N, `test` that of TEST_MODE. -/
def State.writePwrOn (s : State) (a : Agent) (flt test : Bool) : State :=
  let t := s.wr PWR_STS_FLT_IN (if flt then 1 else 0)
  if test || t.pwr = 4 then t.ignored a PWR_CTL (2 ^ 31)
  else if t.pwr = 0 || t.pwr = 5 then
    let e := t.tableErr
    let u := t.wr PWR_STS_TABLE_ERR e
    if e != 0 then u.raise wPWR 9 noSub
    else if t.pwr = 0 && !flt then u
    else u.powerUp
  else t

/-- PWR_CTL_ON (R556, R557, R565, R567, R653). -/
def execPwrCtlOn (a : Agent) (flt test : Bool) (s : State) : Res :=
  .next (s.atReg a PWR_CTL (2 ^ 31) fun t => t.writePwrOn a flt test)

/-- A write of PWR_CTL.OFF (R311, R557, R564, R567). -/
def State.writePwrOff (s : State) (a : Agent) : State :=
  if s.pwr = 4 then s.ignored a PWR_CTL (2 ^ 30)
  else if s.pwr = 2 then s.powerGoes { cause := 2 } 0
  else s

/-- PWR_CTL_OFF (R311, R557, R564, R567). -/
def execPwrCtlOff (a : Agent) (s : State) : Res :=
  .next (s.atReg a PWR_CTL (2 ^ 30) fun t => t.writePwrOff a)

/-- PLOSS_DEGLITCHED (R294, R311, R654). -/
def execPlossDeglitched (s : State) : Res :=
  .next (
    let t := s.wr PWR_STS_PLOSS 0
    if t.pwr = 2 then t.powerGoes { cause := 1 } 0
    else if t.pwr = 1 then t.takeDown 0 false
    else t)

/-- PLOSS_RISE (R557, R565, R651): powers up under AUTO_ON from STANDBY or FALLOW, where the table is valid. -/
def execPlossRise (s : State) : Res :=
  .next (
    if s.pw.sbBad then s
    else
      let t := s.wr PWR_STS_PLOSS 1
      if t.on PWR_CFG_AUTO_ON && (t.pwr = 5 || t.pwr = 0) && t.tableErr = 0 then t.powerUp else t)

/-- RAIL_PG_CHANGE (R554, R555, R559, R560, R566, R567). -/
def execRailPgChange (n : Fin 24) (level : Bool) (s : State) : Res :=
  .next (
    if !s.on (PWR_RAIL_USED n) || s.on (PWR_RSTS_PG n) == level then s
    else
      let t := s.wr (PWR_RSTS_PG n) (if level then 1 else 0)
      if t.slotSt n = 2 && t.pwr = 1 then
        if !t.pw.risen.contains n.val then t.onPw fun p => { p with risen := p.risen ++ [n.val] }
        else
          let chat := t.rd (PWR_RSTS_STEP_CHAT n) + 1
          let u := ((t.wr (PWR_RSTS_STEP_CHAT n) (min 15 chat)).bump (PWR_RCNT_CHATTER n)).raise wPWR 2 n
          if u.rd (PWR_RAIL_CHATTER_LIM n) < chat then (u.bump (PWR_RCNT_ON_FAIL n)).powerAbort n 3 1 else u
      else if t.slotSt n = 4 && !level then t.slotOut n 0
      else t)

/-- RAIL_STABLE (R557 to R559): the slot is GOOD; the slots that waited for it are enabled, or the state is ON. -/
def execRailStable (n : Fin 24) (s : State) : Res :=
  .next (
    if s.pwr = 1 && s.slotSt n = 2 && s.pw.risen.contains n.val && s.on (PWR_RSTS_PG n) then
      let t := (s.wr (PWR_RSTS_STATE n) 3).enableStep
      if t.slots.all fun m => t.slotSt m == 3 then t.reachOn else t
    else s)

/-- RAIL_ON_TIMEOUT (R560). -/
def execRailOnTimeout (n : Fin 24) (s : State) : Res :=
  .next (if s.pwr = 1 && s.slotSt n = 2 then (s.bump (PWR_RCNT_ON_FAIL n)).powerAbort n 3 2 else s)

/-- RAIL_PG_LOST (R302, R304, R311, R560, R564, R565): a GOOD slot has lost power-good. -/
def execRailPgLost (n : Fin 24) (s : State) : Res :=
  .next (
    if s.slotSt n != 3 || s.on (PWR_RSTS_PG n) || s.pwr = 4 then s
    else
      let t := s.bump (PWR_RCNT_LOST n)
      if t.pwr = 1 then t.powerAbort n 4 3
      else if t.pwr = 3 then
        if t.on (PWR_RAIL_HARVEST n) then
          ((t.pwrEvt 4 6 n).wr (PWR_RSTS_STATE n) 6).onHv fun h => { h with failSlot := some (h.failSlot.getD n.val) }
        else t.pwrEvt 4 3 n
      else
        let u := ((t.pwrEvt 4 3 n).wr PWR_STS_FLT_DRIVEN 1).wr (PWR_RSTS_STATE n) 6
        if t.pwr = 5 then u.takeDown 6 false
        else if t.pwr = 2 then u.powerGoes { cause := 1, fault := true } 6
        else u)

/-- PWR_FLT_N_FALL (R560, R561, R564, R567): nothing starts while the device itself drives the line low. -/
def execPwrFltNFall (s : State) : Res :=
  .next (
    let t := s.wr PWR_STS_FLT_IN 0
    if !t.on PWR_CFG_FLT_IN_EN || t.on PWR_STS_FLT_DRIVEN || t.pwr = 4 then t
    else
      let u := t.pwrEvt 6 4 31
      if t.pwr = 1 then u.takeDown 6 false
      else if t.pwr = 2 then u.powerGoes { cause := 1, fault := true } 6
      else u)

/-- RAIL_OFF_DELAY (R562, R566, R567): the slot's turn: its enable is driven low. -/
def execRailOffDelay (n : Fin 24) (s : State) : Res :=
  .next (
    let waits := s.pw.taking.any fun m => m != n.val && (s.depsOf m).contains n.val
    if !s.pw.taking.contains n.val || !s.on (PWR_RSTS_EN n) || waits then s
    else
      let t := s.wr (PWR_RSTS_EN n) 0
      if t.on (PWR_RSTS_PG n) then t.wr (PWR_RSTS_STATE n) 4 else t.slotOut n 0)

/-- RAIL_OFF_TIMEOUT (R566): the slot is passed over. -/
def execRailOffTimeout (n : Fin 24) (s : State) : Res :=
  .next (if s.slotSt n = 4 then ((s.bump (PWR_RCNT_OFF_STUCK n)).pwrEvt 5 5 n).slotOut n 5 else s)

/-- A write of 1 to PWR_STS.FAULT (R557, R561): accepted once the shutdown has ended. -/
def State.writePwrFault (s : State) : State :=
  if s.pwr = 6 then ((s.wr PWR_STS_STATE 0).wr PWR_STS_FAULT 0).wr PWR_STS_FLT_DRIVEN 0 else s

/-- PWR_FAULT_CLEAR (R561). -/
def execPwrFaultClear (a : Agent) (s : State) : Res :=
  .next (s.atReg a PWR_STS (2 ^ 27) fun t => t.writePwrFault)

/-! ## Domains on request (R551) -/

/-- Is a domain idle (R551)? -/
def State.pdIdle (s : State) (d : Nat) : Bool :=
  if 8 ≤ d ∧ d < 12 then s.coreState (d - 8) == 4
  else if 12 ≤ d ∧ d < 16 then
    (List.range 4).all fun q => !s.on (HPT_LCTL_ENABLE (d - 12) q) || s.lstate (d - 12) q == 5
  else if 16 ≤ d ∧ d < 32 then s.rd (DRM_STS_STATE (d - 16)) == 0 || s.rd (DRM_STS_STATE (d - 16)) == 5
  else if d = 32 ∨ d = 33 then
    (List.range 4).all fun i => !s.bitOf DRL_CTL_PORTS (4 * (d - 32) + i) && !s.yokePort (4 * (d - 32) + i)
  else if d = 34 ∨ d = 35 then
    (List.range 16).all fun i => let st := s.rd (FUR_CH_STS_STATE (16 * (d - 34) + i)); st == 0 || st == 4
  else false

/-- A write of PWR_PD_ON: ignored and recorded unless the state is ON. -/
def State.writePdOn (s : State) (a : Agent) (v : Nat) : State :=
  if s.pwr = 2 then (bitsOf v 36).foldl (fun (t : State) d => t.domOn d) s
  else s.badAccess a true true 5 PWR_PD_ON (BitVec.ofNat 64 v)

/-- A write of PWR_PD_OFF: idle domains go off; a request for any other is ignored and recorded. -/
def State.writePdOff (s : State) (a : Agent) (v : Nat) : State :=
  let bad := fun (t : State) => t.badAccess a true true 5 PWR_PD_OFF (BitVec.ofNat 64 v)
  if s.pwr != 2 then bad s
  else
    let ask := bitsOf v 36
    let t := (ask.filter s.pdIdle).foldl (fun (u : State) d =>
      if u.rd (PWR_PD_STATE d) = 0 then u else (u.domOff d false).wr (PWR_PD_FW_OFF d) 1) s
    if ask.all s.pdIdle then t else bad t

/-- PD_ON (R551). -/
def execPdOn (a : Agent) (v : BitVec 36) (s : State) : Res :=
  .next (s.atReg a PWR_PD_ON v.toNat fun t => t.writePdOn a v.toNat)

/-- PD_OFF (R551). -/
def execPdOff (a : Agent) (v : BitVec 36) (s : State) : Res :=
  .next (s.atReg a PWR_PD_OFF v.toNat fun t => t.writePdOff a v.toNat)

/-! ## The voltage loop (R568 to R570) -/

/-- VMAX_MV and VMIN_MV in mV, clamped. -/
def State.vBounds (s : State) : Nat × Nat :=
  let hi := max 650 (min 900 (s.rd PWR_VLOOP_VMAX_MV + 400))
  (max 650 (min hi (s.rd PWR_VLOOP_VMIN_MV + 400)), hi)

/-- The power is above a cap. -/
def State.aboveCap (s : State) : Bool := s.rd PWR_CAP_CAP_W != 0 && decide (s.rd PWR_CAP_CAP_W < s.rd PWR_VLOOP_STS_POWER_W)

/-- OVER_CAP while VDD_CORE is at 650 mV and the power exceeds the cap (R569). -/
def State.showOverCap (s : State) : State :=
  let b := s.aboveCap && decide (s.rd PWR_VLOOP_STS_VDD_MV ≤ 650)
  (s.wr PWR_VLOOP_STS_OVER_CAP (if b then 1 else 0)).cond wPWR 7 noSub b

/-- VOLTAGE_LOOP_STEP (R568 to R570). `read` is the READ_VOUT in mV, `want` the lowest voltage at which the measured delay
factor meets TARGET_MRPS. -/
def execVoltageLoopStep (want read : BitVec 10) (s : State) : Res :=
  .next (
    if !s.on PWR_VLOOP_ENABLE then s
    else if s.pwr = 3 then (s.wr PWR_VLOOP_STS_VDD_MV read.toNat).onPw fun p => { p with vset := 750 }
    else if s.pwr != 2 then s
    else
      let t := s.wr PWR_VLOOP_STS_VDD_MV read.toNat
      let v := read.toNat
      let (lo, hi) := t.vBounds
      let goal := max lo (min hi want.toNat)
      let room := t.rd PWR_CAP_CAP_W == 0 || decide (t.rd PWR_VLOOP_STS_POWER_W + 2 ≤ t.rd PWR_CAP_CAP_W)
      let next := if t.aboveCap then max 650 (v - 5)
        else if goal < v then max goal (v - 5)
        else if v < goal && room then min goal (v + 5)
        else v
      (t.onPw fun p => { p with vset := next }).showOverCap)

/-- POWER_MEASURE (R569, R570): the sum of READ_POUT, and the estimate of the power at 650 mV. -/
def execPowerMeasure (w floor : BitVec 10) (s : State) : Res :=
  .next (
    if s.on PWR_VLOOP_ENABLE && (s.pwr = 2 || s.pwr = 3) then
      let t := (s.wr PWR_VLOOP_STS_POWER_W w.toNat).wr PWR_VLOOP_STS_FLOOR_W floor.toNat
      if t.pwr = 2 then t.showOverCap else t
    else s)

/-! ## The PMBus master (R571, R572) -/

/-- The bytes of PWR_PMB_DATA, byte 0 first. -/
def State.pmbBytes (s : State) : List Byte := (List.range 4).flatMap fun k => leBytes (s.rd (PWR_PMB_DATA_BYTES k)) 8

/-- What a transaction writes: a byte, a word or a block of up to 32 bytes; nothing for the other kinds (R571). -/
def State.pmbSent (s : State) (kind len : Nat) : List Byte :=
  s.pmbBytes.take (if kind = 0 then 1 else if kind = 1 then 2 else if kind = 2 then min 32 len else 0)

/-- A write of PWR_PMB_CMD with GO: the transaction runs whole. `res` is its outcome on the bus and `data` what a read
returns. -/
def State.pmbus (s : State) (v res : Nat) (data : List Byte) : State :=
  let kind := getBits v 24 3
  let len := getBits v 16 6
  let addr := getBits v 8 7
  let code := getBits v 0 8
  let s1 := (((s.wr PWR_PMB_CMD_KIND kind).wr PWR_PMB_CMD_LEN len).wr PWR_PMB_CMD_ADDR addr).wr PWR_PMB_CMD_CODE code
  let core := (s.slots.filter fun n => s.on (PWR_RAIL_CORE n)).any fun n => s.rd (PWR_RADDR_ADDR n) == addr
  if s.on PWR_VLOOP_ENABLE && core && (kind < 3 || kind == 6) && [0x01, 0x21, 0x25, 0x26].contains code then s1.wr PWR_PMB_CMD_RESULT 4
  else
    let s2 := (s1.wr PWR_PMB_CMD_RESULT res).emit (.pmbus addr code kind (s.pmbSent kind len))
    if res != 0 then s2.raise wPWR 8 noSub
    else if 3 ≤ kind && kind < 6 then
      let n := if kind = 3 then 1 else if kind = 4 then 2 else min 32 len
      let new := (data ++ List.replicate 32 0).take n ++ s.pmbBytes.drop n
      (List.range 4).foldl (fun (t : State) k => t.wr (PWR_PMB_DATA_BYTES k) (ofBytes ((new.drop (8 * k)).take 8))) s2
    else s2

/-- PMBUS_TRANSACTION (R571, R572). -/
def execPmbusTransaction (a : Agent) (v : BitVec 31) (res : Fin 4) (data : List Byte) (s : State) : Res :=
  .next (s.atReg a PWR_PMB_CMD (2 ^ 31 + v.toNat) fun t => t.pmbus v.toNat res data)

/-! ## The sideband's supply (R651) -/

/-- VDDIO_SB_LOW (R651): PLOSS_N counts as low whatever the pin shows, and the event is recorded. -/
def execVddioSbLow (s : State) : Res :=
  .next (((s.onPw fun p => { p with sbBad := true }).wr PWR_STS_PLOSS 0).record 0x06 wPWR (leBytes (s.rdW PWR_EVT_LAST).toNat 8))

/-- VDDIO_SB_RETURN (R651): sideband inputs are trusted again. -/
def execVddioSbReturn (s : State) : Res := .next (s.onPw fun p => { p with sbBad := false })

end Sys2Proof.Machine
end

