-- ==== Sys2Proof/Machine/Recorder.lean ====
section
/-!
DEFINITION. Machine/Recorder.lean: the event recorder (chapter 20): records in memory (R612 to R618), clears (R620), the
timestamp (R619), firmware records (R625), the copy in the dump (R623).
-/
namespace Sys2Proof.Machine
open Sys2Proof

/-- Changes the recorder. -/
def State.onRec (s : State) (f : Recorder → Recorder) : State := { s with rcd := f s.rcd }

/-- A record's length in words (R613). -/
def Rec.words (r : Rec) : Nat := 2 + (r.pay.length + 7) / 8

/-- A record's bytes with its SEQ (R613). -/
def Rec.bytes (r : Rec) (seq : Nat) : List Byte :=
  let n := r.words
  [BitVec.ofNat 8 n, BitVec.ofNat 8 r.ty, BitVec.ofNat 8 r.src, 0] ++ leBytes seq 4 ++ leBytes r.time 8 ++ r.pay ++
    List.replicate ((n - 2) * 8 - r.pay.length) 0

/-- REC_STS.QUEUED follows the input queue. -/
def State.showQueue (s : State) : State := s.wr REC_STS_QUEUED s.rcd.queue.length

/-- Writes a record at WPOS with the next SEQ (R614). -/
def State.recPut (s : State) (r : Rec) : State :=
  let w := s.rd REC_POS_WPOS
  ((s.onRec fun q => { q with mem := wrBytes q.mem w (r.bytes (s.rd REC_SEQ_NEXT)), written := q.written + 1 }).wr REC_SEQ_NEXT
    (s.rd REC_SEQ_NEXT + 1)).wr REC_POS_WPOS (w + 8 * r.words)

/-- The oldest record leaves the input queue; a DROPPED record takes the place where records were dropped (R617). -/
def State.recPop (s : State) : State :=
  let drop : List Rec := if s.rcd.lostSince = 0 then [] else [⟨0x0A, 0xFE, s.stampTime, leBytes s.rcd.lostSince 4⟩]
  (s.onRec fun q => { q with queue := q.queue.drop 1 ++ drop, lostSince := 0 }).showQueue

/-- RECORD_WRITE (R613, R614, R617, R618). -/
def execRecordWrite (s : State) : Res :=
  .next (
    match s.rcd.queue with
    | [] => s
    | r :: _ =>
      let t := s.recPop
      if t.on REC_STS_FULL then t.bump REC_LOST_LOST_FULL
      else if 0xFFFC0 < t.rd REC_POS_WPOS + 8 * r.words then
        (((t.recPut ⟨0x0B, 0xFE, t.stampTime, []⟩).wr REC_STS_FULL 1).bump REC_LOST_LOST_FULL).cond wREC 2 noSub true
      else t.recPut r)

/-- A write of REC_CLEAR (R620). -/
def State.writeRecClear (s : State) (a : Agent) (epoch : Nat) : State :=
  let done := fun (t : State) (r : Nat) => t.wr (REC_CLEAR_STS_RESULT.bank a) r
  if s.rd REC_POS_EPOCH != epoch then done s 1
  else if s.hrvBusy then done s 2
  else
    let r : Rec := ⟨0x0C, 0xFE, s.stampTime, leBytes epoch 4 ++ leBytes s.rcd.written 4 ++ leBytes (s.rd REC_LOST_LOST_FULL) 4 ++
      leBytes (s.rd REC_LOST_LOST_QUEUE) 4⟩
    let t := (((((s.onRec fun q => { q with written := 0 }).wr REC_POS_WPOS 0).wr REC_POS_EPOCH (epoch + 1)).wr REC_LOST_LOST_FULL 0).wr
      REC_LOST_LOST_QUEUE 0).wr REC_STS_FULL 0
    done ((t.cond wREC 2 noSub false).recPut r) 0

/-- REC_CLEAR (R620). -/
def execRecClear (a : Agent) (epoch : BitVec 32) (s : State) : Res :=
  .next (s.atReg a REC_CLEAR epoch.toNat fun t => t.writeRecClear a epoch.toNat)

/-- A 64-bit write of REC_TIME_SET (R619). -/
def State.writeTimeSet (s : State) (a : Agent) (v : Nat) : State :=
  if a == .sb then s.badAccess a true true 5 REC_TIME_SET (BitVec.ofNat 64 v)
  else (s.wr REC_TIME_TIME v).record 0x0D 0xFE (leBytes s.stampTime 8)

/-- REC_TIME_SET (R619). -/
def execRecTimeSet (a : Agent) (v : Word64) (s : State) : Res :=
  .next (s.atReg a REC_TIME_SET v.toNat fun t => t.writeTimeSet a v.toNat)

/-- A write of REC_FW_CTL with GO (R625). -/
def State.writeFwCtl (s : State) (a : Agent) (ty len : Nat) : State :=
  let t := (s.wr (REC_FW_CTL_TYPE.bank a) ty).wr (REC_FW_CTL_LEN.bank a) len
  if a == .sb || ty < 0x20 || 0x3F < ty then t.ignored a REC_FW_CTL (2 ^ 31 + ty * 65536 + len)
  else
    let n := max 2 (min 32 len)
    let pay := (List.range (n - 2)).flatMap fun k => leBytes (s.rd ((REC_FW_DATA_BYTES k).bank a)) 8
    let u := t.record ty (0xF0 + agentNum a) pay
    (List.range 30).foldl (fun (x : State) k => x.wr ((REC_FW_DATA_BYTES k).bank a) 0) u

/-- REC_FW_RECORD (R625). -/
def execRecFwRecord (a : Agent) (ty : Byte) (len : BitVec 6) (s : State) : Res :=
  .next (s.atReg a REC_FW_CTL (2 ^ 31 + ty.toNat * 65536 + len.toNat) fun t => t.writeFwCtl a ty.toNat len.toNat)

/-- The recorder's copy in the dump: the bytes below WPOS and an END record, which takes a SEQ (R623). -/
def State.recCopy (s : State) : State × SMap Byte :=
  let w := s.rd REC_POS_WPOS
  let r : Rec := ⟨0x0E, 0xFE, s.stampTime, leBytes (s.rd REC_POS_EPOCH) 4 ++ leBytes (s.rd REC_LOST_LOST_FULL + s.rd REC_LOST_LOST_QUEUE) 4⟩
  (s.wr REC_SEQ_NEXT (s.rd REC_SEQ_NEXT + 1), wrBytes (copyRange s.rcd.mem [] 0 0 w) w (r.bytes (s.rd REC_SEQ_NEXT)))

/-- n bytes of the recorder's memory from an offset: those at and above WPOS are undefined, each a free value (R622). -/
def State.recBytes (s : State) (off n : Nat) : List Byte :=
  (List.range n).map fun k =>
    if off + k < s.rd REC_POS_WPOS then mget byte0 s.rcd.mem (off + k) else (Config.freeWord (s.fresh + k)).setWidth 8

/-- What RECORDER_READ finds: the recorder's memory, and from offset 0x10_0000 on the dumped image (R520, R624). -/
def State.recRead (s : State) (off n : Nat) : List Byte :=
  (s.recBytes off n).take (1048576 - off) ++ rdBytes s.rcd.image (off - 1048576) (n - (1048576 - off))

end Sys2Proof.Machine
end

