-- ==== Sys2Proof/Machine/Harvest.lean ====
section
/-!
DEFINITION. Machine/Harvest.lean: Harvest (R294 to R304), its end (R563), Resow (R306 to R311), arming (R292).
-/
namespace Sys2Proof.Machine
open Sys2Proof

/-! ## The start (R294 to R296) -/

/-- A write of HRV_CTL.START (R294, R313): ignored and recorded unless ARMED is 1. -/
def State.writeHrvStart (s : State) (a : Agent) : State :=
  if s.on HRV_STS_ARMED then s.startHarvest { cause := 2 } else s.ignored a HRV_CTL (2 ^ 30)

/-- HARVEST_COMMAND_START (R294, R313). -/
def execHarvestCommandStart (a : Agent) (s : State) : Res :=
  .next (s.atReg a HRV_CTL (2 ^ 30) fun t => t.writeHrvStart a)

/-- A combining-buffer line in step 2 (R296, R299): drained where its page needs no headroom, else a line record. `bad`: its
parity check fails. -/
def State.hvLine (s : State) (l : CbLine) (bad : Bool) : State :=
  let e := s.tierOf (pageOf l.line)
  let mw := match s.altOf l.line with | some a => a.mode == .mirrorWait | none => false
  let stays := e.state == .dramOnly || e.state == .dramDirty || e.state == .poisoned
  match e.frame with
  | some f =>
    if stays && !mw && !bad && s.rgnKeyed l.region then s.acceptDrain l f
    else s.onHv fun h => { h with run := h.run.map fun r =>
      { r with recs := r.recs ++ [⟨l.line, l.mask, if bad then 0 else l.data, mw, bad, l.region⟩] } }
  | none => s.onHv fun h => { h with run := h.run.map fun r =>
      { r with recs := r.recs ++ [⟨l.line, l.mask, if bad then 0 else l.data, mw, bad, l.region⟩] } }

/-- Furrow yields its channels (R278): erases are suspended, relocations not accepted and background work are abandoned. -/
def State.furYield (s : State) : State :=
  ((s.onFur fun u => { u with ops := u.ops.map (fun o => if o.erase then { o with suspended := true } else o), rds := [] }).wr
    FUR_STS_STATE 4).relocStop

/-- A channel's write queue drains to its DIMMs, and its reads are dropped (R186, R295 step 2). -/
def State.flushQ (s : State) (c : Nat) : State :=
  ((s.onCh c fun d => { d with q := [] }).bumpBy (DRM_WR_CNT_COUNT c) ((s.chOf c).q.filter fun e => e.write).length).showQ c

/-- Steps 1 to 3 of R295 with R563 and R570. -/
def State.harvestBegin (s : State) (r : HvRun) (bad : List Nat) : State :=
  let s1 := ((s.onHv fun h => { h with pend := none, run := some { r with recs := [] } }).hvRecord 1 r.cause 0 s.hv.armSeq).wr PWR_STS_STATE 3
  let shed := s1.slots.filter fun n => s1.on (PWR_RSTS_EN n) && !s1.on (PWR_RAIL_HARVEST n)
  let lost := s1.slots.find? fun n => s1.on (PWR_RAIL_HARVEST n) && s1.slotSt n != 3
  let s2 := (((s1.onPw fun p => { p with taking := shed, goal := none, vset := 750 }).onHv fun h => { h with failSlot := lost }).wr HRV_STS_STATE 4).wr
    HRV_STS_ARMED 0
  let s3 : State := { s2 with hp := { s2.hp with stopped := true } }
  let s4 := ([12, 13, 14, 15, 32, 33].foldl (fun (t : State) d => t.domOff d false) s3).wr PWR_VLOOP_STS_HELD 1
  let s5 := (s4.win.moves.foldl (fun (t : State) m => t.abandonMove m.page) s4).onWin fun w => { w with moves := [], pinOp := none }
  let s6 := s5.furYield
  let s7 := s6.fab.cb.foldl (fun (t : State) l => t.hvLine l (bad.contains l.line)) s6
  let s8 := (List.range 16).foldl (fun (t : State) c => t.flushQ c) s7
  s8.onFab fun f => { f with cb := [], alt := [], xbar := [], queue := [], act := [], ops := [] }

/-- HARVEST_START (R295): a Harvest that has been started begins. `bad` are the combining-buffer lines that fail their parity
check. -/
def execHarvestStart (bad : List (BitVec 40)) (s : State) : Res :=
  .next (match s.hv.pend with
    | none => s
    | some r => if s.pwr = 2 then s.harvestBegin r (bad.map BitVec.toNat) else s)

/-! ## The end (R295, R300, R302, R304, R563) -/

/-- The bits of a page's lines among some lines. -/
def lineMask (p : Nat) (ls : List Nat) : LMask :=
  (ls.filter fun l => pageOf l == p).foldl (fun (m : LMask) l => m ||| BitVec.ofNat 64 (2 ^ (l % 64))) 0

/-- The tier pages of the dump, in frame order (R295): DIRTY pages that hold a frame. -/
def State.dumpPages (s : State) (ue : List Nat) : List DumpPage :=
  let ps := s.win.tier.filterMap fun e => match (s.tierOf e.1).frame with
    | some f => if (s.tierOf e.1).dirty then some (f, e.1) else none
    | none => none
  (ps.foldl (fun (m : SMap Nat) x => mset (fun _ => 2 ^ 40) m x.1 x.2) []).map fun x =>
    let p := x.2
    let e := s.tierOf p
    { page := p, img := s.frameImg x.1, ent := e,
      mask := if e.state == .poisoned then (match s.poisonRec p with | none => 0 | some r => r.mask) else lineMask p ue }

/-- The line records as they are encrypted (R299): with no device key they are lost. -/
def State.dumpLines (s : State) (l : List LineRec) : List LineRec :=
  if s.rd CPH_STS_STATE = 1 then l else l.map fun r => { r with poison := true, data := 0 }

/-- Milliseconds since a Harvest began. -/
def State.hvMs (s : State) (r : HvRun) : Nat := min (2 ^ 24 - 1) ((s.now - r.t0) / 1000000)

/-- The channels go to self-refresh with their tokens written, and FALLOW_HELD is set (R304). -/
def State.fallowEnter (s : State) : State :=
  let pop := s.popChans.filter fun c => s.rd (DRM_CFG_DPC c) != 0 && s.rd (DRM_STS_STATE c) != 5
  (pop.foldl (fun (t : State) c => (t.wr (DRM_STS_STATE c) 3).onCh c fun d => { d with sr := .inSr }) s).wr HRV_STS_FALLOW_HELD 1

/-- Every group but AON, TTH and DRAM channels held in Fallow is reset with no quiesce, and the power-up begins (R302, R311,
R563, R582). `cause` is DEV_CAUSE. -/
def State.deviceReset (s : State) (cause : Nat) (fallow : Bool) : State :=
  let s1 := (s.allOff fallow).onHv fun h => { h with armed := false, resown := false, pend := none, run := none, failSlot := none, latched := 0 }
  let s2 := ((((s1.wr RST_CAUSE_DEV_CAUSE cause).wr RST_CAUSE_GRP_CAUSE 3).wr RST_CAUSE_GRP_LAST 0).wr RST_CAUSE_PENDING 0).bump RST_CNT_DEVICE
  let s3 : State := { s2 with rs := { s2.rs with groups := 0, pend := 0 }, hp := { s2.hp with stopped := false, memActive := false } }
  let s4 := (((s3.wr RST_GRP_STS_IN_RESET 0).wr RST_GRP_STS_BUSY 0).wr RST_GRP_STS_HOLD 0).record 0x07 wRST
    ([1, BitVec.ofNat 8 cause, 0, 0] ++ leBytes 0xFFFF7FF 4)
  let s5 := if fallow then s4 else s4.wr HRV_STS_FALLOW_HELD 0
  (((s5.openWindow.onPw fun p => { p with taking := [], goal := none }).wr PWR_VLOOP_STS_HELD 0).powerUp).applyHeld

/-- HRV_BUSY falls: what follows by the situation at that instant (R302, R563). -/
def State.harvestEnd (s : State) (r : HvRun) : State :=
  let fallow := s.on HRV_STS_FALLOW_HELD
  let s1 := (s.onHv fun h => { h with run := none }).wr HRV_STS_RESET_LATCHED 0
  if r.fault then s1.takeDown 6 fallow
  else if s.rd PWR_STS_PLOSS = 0 || r.cause = 2 then s1.takeDown (if fallow then 5 else 0) fallow
  else s1.deviceReset (if r.cause = 3 then (if r.escal then 2 else 1) else 3) fallow

/-- HARVEST_SEAL (R295 steps 4 to 8, R297, R300 to R304). `ue` are the DRAM lines found uncorrectable, `lost` the pages whose
slot lies in a stripe with two members missing, `fails` the blocks that failed to program, `used` the reserve superblocks
written. -/
def execHarvestSeal (ue : List (BitVec 40)) (lost : List (BitVec 34)) (fails : List (BitVec 23)) (used : List (BitVec 18)) (s : State) : Res :=
  .next (match s.hv.run with
    | none => s
    | some r =>
      if s.hv.failSlot.isSome then s
      else
        let bad := ue.map BitVec.toNat
        let pages := s.dumpPages bad
        let gone := (lost.map BitVec.toNat).filter fun p => pages.any fun x => x.page == p
        let lines := s.dumpLines r.recs
        let pois := (lines.filter fun l => l.poison).length
        let nUe := (pages.map fun x => ((List.range 64).filter fun i => x.mask.getLsbD i && x.ent.state != .poisoned).length).sum
        let losses := decide (0 < pois + nUe + gone.length)
        let out := if r.best then 4 else if losses then 2 else 1
        let seq := s.hv.armSeq
        let (s0, image) := s.recCopy
        let sbs := (used.map BitVec.toNat).filter fun b => s.sbReserve b && s.sbExists b
        let d : Dump := { dseq := seq, cause := r.cause, outcome := out, start := r.ts, sealAt := s.stampTime, sealed := true,
                          pages := pages.filter (fun x => !gone.contains x.page), lost := gone, lines := lines, journal := s.journalNow, image := image, used := sbs,
                          info := s.dumpInfo nUe (fails.map BitVec.toNat) }
        let s1 := ({ s0 with fresh := s0.fresh + 67 } : State).onHv fun h => { h with dump := some d, journal := d.journal }
        let s2 := sbs.foldl (fun (t : State) b => t.modSb b fun q => { q with role := .reserve }) s1
        let s3 := (fails.map BitVec.toNat).foldl (fun (t : State) b =>
          let sb := b / 16384 % 16 * 16384 + b % 16384 / t.planes
          (t.onFur fun u => if u.failing.contains b || u.bad.contains b then u else { u with failing := u.failing ++ [b] }).retireBlocks sb) s2
        let s4 := ((((((((s3.wr HRV_SEQ_DSEQ seq).bump HRV_CNT_COMPLETE).wr HRV_LAST_CAUSE r.cause).wr HRV_LAST_OUTCOME out).wr HRV_LAST_DUR_MS
          (s.hvMs r)).wr HRV_LAST_PAGES pages.length).wr HRV_LOSS_PAGES 0).wr HRV_LOSS_LINES (pois + nUe)).wr HRV_STS_STATE 5
        let s5 := (if losses then s4.raise wHRV 6 noSub else s4).hvRecord 2 r.cause out seq
        (if s5.on HRV_CTL_FALLOW_EN then s5.fallowEnter else s5).harvestEnd r)

/-- HARVEST_STORE_FAIL (R302, R303, R563): the Harvest stops where it is, with `n` tier pages written; `saveOk`: the save set
had been written whole. -/
def execHarvestStoreFail (n : Nat) (saveOk : Bool) (used : List (BitVec 18)) (s : State) : Res :=
  .next (match s.hv.run with
    | none => s
    | some r =>
      if s.hv.failSlot.isNone then s
      else
        let all := s.dumpPages []
        let pages := if saveOk then all.take n else []
        let sbs := (used.map BitVec.toNat).filter fun b => s.sbReserve b && s.sbExists b
        let d : Dump := { dseq := s.hv.armSeq, cause := r.cause, outcome := 3, start := r.ts, sealed := false, saveSet := saveOk, pages := pages,
                          lost := (all.drop pages.length).map fun x => x.page, lines := if saveOk then s.dumpLines r.recs else [],
                          journal := s.journalNow, used := sbs }
        let s1 := sbs.foldl (fun (t : State) b => t.modSb b fun q => { q with role := .reserve }) (s.onHv fun h => { h with dump := some d, journal := d.journal })
        let s2 := ((((s1.bump HRV_CNT_INCOMPLETE).wr HRV_LAST_CAUSE r.cause).wr HRV_LAST_OUTCOME 3).wr HRV_LAST_DUR_MS (s.hvMs r)).wr HRV_LAST_PAGES pages.length
        (((s2.wr PWR_STS_FLT_DRIVEN 1).wr HRV_STS_RESET_LATCHED 0).hvRecord 2 r.cause 3 d.dseq).takeDown 6 false)

/-- FALLOW_END (R304). -/
def execFallowEnd (a : Agent) (s : State) : Res :=
  .next (s.atReg a HRV_CTL (2 ^ 28) fun t => t.wr HRV_STS_FALLOW_HELD 0)

/-! ## Configuration (R291, R314) -/

/-- A write of HRV_CAP, HRV_BOARD, HRV_STORE or HRV_NAND: ignored and recorded during Harvest; the cap follows it. A write of
HRV_STORE is a declaration. -/
def State.writeHrvCfg (s : State) (a : Agent) (addr v : Nat) : State :=
  if s.hrvBusy then s.ignored a addr v
  else
    let m : Nat := if addr = HRV_CAP then 0x1FF else if addr = HRV_NAND then 0xFFFF else 0xFFFFFFFF
    let t := s.wrW addr ((s.rdW addr &&& ~~~ BitVec.ofNat 64 m) ||| (BitVec.ofNat 64 v &&& BitVec.ofNat 64 m))
    let u := if addr = HRV_STORE then (t.onHv fun h => { h with declared := s.now }).cond wHRV 4 noSub false else t
    u.showHarvest

/-- The fields of HRV_CTL that a write stores (R313): the limits follow DEGLITCH_US, arming follows ENABLE. -/
def State.writeHrvCtl (s : State) (en fallow dg : Nat) : State :=
  (((s.wr HRV_CTL_ENABLE en).wr HRV_CTL_FALLOW_EN fallow).wr HRV_CTL_DEGLITCH_US dg).showHarvest

/-- HARVEST_CONFIG_WRITE (R314): HRV_CAP, HRV_BOARD, HRV_STORE, HRV_NAND. -/
def execHarvestConfigWrite (a : Agent) (r : Fin 4) (v : BitVec 32) (s : State) : Res :=
  let addr := if r = 0 then HRV_CAP else if r = 1 then HRV_BOARD else if r = 2 then HRV_STORE else HRV_NAND
  .next (s.atReg a addr v.toNat fun t => t.writeHrvCfg a addr v.toNat)

/-- STORE_DECLARATION_STALE (R291, R599). -/
def execStoreDeclarationStale (s : State) : Res := .next (s.cond wHRV 4 noSub true)

/-! ## Resow (R306 to R310) -/

/-- The path of Resow (R306): 0 FRESH, 1 FALLOW, 2 RESTORE, 3 PARTIAL. -/
def State.resowPath (s : State) (manifest tokens : Bool) : Nat :=
  if !s.fur.formatted then 0
  else match s.hv.dump with
    | none => if s.hv.armSeq = 0 then 0 else 3
    | some d => if d.sealed && manifest then (if s.on HRV_STS_FALLOW_HELD && tokens then 1 else 2) else 3

/-- Applies the journalled world configuration and sets the lock (R57, R481, R585). -/
def State.applyWorld (s : State) : State :=
  match s.hv.world with
  | none => s
  | some w =>
    let t := w.foldl (fun (t : State) e =>
      let m : Word64 := match findReg wTIN (e.1 % 0x10000) with | none => 0 | some (d, _, _) => BitVec.ofNat 64 d.rws
      t.wrW e.1 ((e.2 &&& m) ||| (t.rdW e.1 &&& ~~~ m))) s
    (t.wr TIN_WORLD_LOCK_LOCK 1).wr (RST_MS_TIME 5) s.msNow

/-- A page lost at Resow is healed from the twin or placed in POISONED (R309). -/
def State.resowLost (s : State) (p : Nat) (lines : LMask) : State :=
  if s.healable p then (s.modTier p fun e => { e with poison := true }).healAsk (p * 64) true .resow wWIN
  else s.poisonStart p 1 4 lines false

/-- A dumped page is written back to the frame its entry names, or to a new one where that is no longer in service (R307). -/
def State.resowPage (s : State) (d : DumpPage) : State :=
  let f := match d.ent.frame with
    | some f => if s.frameFree f then some f else (List.range s.totalFrames).find? fun g => s.frameFree g
    | none => none
  match f with
  | none => s
  | some f =>
    let s1 := ((s.setFrame f (.page d.page)).putImg f d.img).setTier d.page { d.ent with frame := some f, heat := (s.tierOf d.page).heat, migrating := false }
    if d.ent.state == .poisoned then
      s1.onWin fun w => { w with poisonT := w.poisonT.filter (fun x => x.1 != d.page) ++ [(d.page, ⟨d.ent.psrc, d.mask⟩)] }
    else s1

/-- Furrow rebuilds its map from the slot headers where the metadata area cannot be read (R258): for each page the slot with
the highest write sequence number. Pages it finds are FLASH_ONLY in the region of their slot. -/
def State.mapRebuild (s : State) : State :=
  let best := s.fur.slots.filter fun x => !x.isMeta && s.fur.slots.all fun y => y.isMeta || y.page != x.page || decide (y.wseq ≤ x.wseq)
  let s1 := (s.onFur fun u => { u with map := [] }).onWin fun w => { w with tier := [], unswept := [] }
  best.foldl (fun (t : State) x => (t.setFur x.page (some x.loc)).setTier x.page { state := .flashOnly, region := x.region }) s1

/-- Pages of RESTORE and PARTIAL (R307 steps 1 and 2, R309, R310). `bad` are the slots that neither their header CRC nor stripe
parity recovers; `scan`: the metadata area cannot be read. -/
def State.resowPages (s : State) (d : Dump) (bad : List Nat) (scan : Bool) : State :=
  let held := (s.win.tier.filter fun e => e.2.frame.isSome).map fun e => e.1
  let s := if d.saveSet then s else s.onFur fun u => { u with slots := u.slots.filter fun x => !x.inBuf }
  let s1 := (s.onDr fun r => { r with mem := [], key := [] }).onWin fun w =>
    { w with frames := w.frames.filter (fun e => e.2 == .retired), poisonT := [], dirtyAge := [], retire := [] }
  let s2 := if scan then s1.mapRebuild else s1
  let s3 := s2.onWin fun w => { w with unswept := (w.tier.filter fun e => e.2.state == .dramClean).map fun e => e.1 }
  let good := if d.saveSet then d.pages.filter fun x => !bad.contains x.page else []
  let s4 := good.foldl (fun (t : State) x => t.resowPage x) s3
  let lost := (if d.saveSet then (s4.win.tier.filter fun e => e.2.dirty && !good.any fun x => x.page == e.1).map fun e => e.1
    else held).eraseDups
  let s5 := lost.foldl (fun (t : State) p => (t.setTier p { t.tierOf p with frame := none, state := .dramOnly }).resowLost p fullMask) s4
  good.foldl (fun (t : State) x => if x.ent.state != .poisoned && x.mask != 0 then t.resowLost x.page x.mask else t) s5

/-- FALLOW (R307 step 1): a retained line that is uncorrectable twice is replaced from its dump slot, or lost. -/
def State.resowLines (s : State) (d : Dump) (ue : List Nat) : State :=
  ue.foldl (fun (t : State) l =>
    match d.pages.find? fun x => x.page == pageOf l, (t.tierOf (pageOf l)).frame with
    | some x, some f =>
      if x.ent.state != .poisoned && x.mask.getLsbD (l % 64) then t.resowLost (pageOf l) (lineMask (pageOf l) [l]) else t.putLine f (l % 64) x.img
    | _, _ => t) s

/-- Yoke at Resow (R353). -/
def State.resowYoke (s : State) (recs : List LineRec) : State :=
  let s1 := (recs.filter fun l => l.mw).foldl (fun (t : State) l => if t.yk.marks.contains (granuleOf l.line) then t else t.mark (granuleOf l.line) true) s
  let s2 := (List.range 256).foldl (fun (t : State) r =>
    let st := t.rd (YOK_RGN_STATE r)
    if st = 1 || st = 2 || st = 4 then
      (t.onYk fun y => { y with prior := mset (fun _ => 0) y.prior r (if st = 2 && !(t.rgnMarks r).isEmpty then 4 else st), lagOnly := [],
                                owesRsv := if st = 1 && !y.owesRsv.contains r then y.owesRsv ++ [r] else y.owesRsv }).setYok r
        (if t.on (YOK_RGN_ON_LOSS r) then 5 else 3)
    else t) s1
  if s2.on YOK_CTL_ENABLE && s2.rd YOK_STS_TWIN = 0 then
    s2.pairsOn.foldl (fun (t : State) p => t.hsStart p) (((s2.wr YOK_STS_TWIN 3).cond wYOK 3 noSub true).showPaths)
  else s2

/-- DRAM channels leave retention and admit traffic (R565, R585). -/
def State.dramWake (s : State) : State :=
  (List.range 16).foldl (fun (t : State) c =>
    if t.rd (PWR_PD_STATE (16 + c)) = 1 then
      let u := t.domOn (16 + c)
      if u.rd (DRM_STS_STATE c) = 5 then u
      else (((u.wr (DRM_CFG_ENABLE c) 1).wr (DRM_CFG_ACTIVE c) 1).wr (DRM_STS_STATE c) 2).onCh c fun d => { d with sr := .awake, trained := true }
    else t) s

/-- RESOW_START (R306 to R310, R353, R624). `manifest`: a manifest copy's CRC passes; `tokens`: every channel's token equals
DSEQ. -/
def execResowStart (manifest tokens scan : Bool) (bad : List (BitVec 34)) (ue : List (BitVec 40)) (s : State) : Res :=
  .next (
    if s.pwr != 2 || s.rd HRV_STS_STATE != 1 || (s.fur.formatted && s.rd FUR_STS_STATE != 2 && s.rd FUR_STS_STATE != 3) then s
    else
      let path := s.resowPath manifest tokens
      let d : Dump := s.hv.dump.getD { dseq := s.hv.armSeq, cause := 1, outcome := 3, start := 0, sealed := false, saveSet := false, journal := s.hv.journal }
      let s0 := s.dramWake
      let s1 := if path = 0 then s0 else (s0.journalRestore (if d.saveSet then d.journal else s.hv.journal) fun _ => true)
      let s2 := s1.applyWorld.heatLost
      let s3 := if path = 1 then (s2.resowLines d (ue.map BitVec.toNat)).bump HRV_CNT_FALLOW
        else if path = 0 then s2
        else s2.resowPages d (bad.map BitVec.toNat) scan
      let s4 := if path = 3 then ((s3.onHv fun h => { h with dirtyShut := h.dirtyShut + 1 }).ldEventAll 4 2).raise wHRV 5 noSub else s3
      let recs := if path = 0 then [] else d.lines
      let s5 := ((s4.onHv fun h => { h with replay := recs, resown := true, journal := if path = 0 then h.journal else d.journal }).wr HRV_REPLAY_PENDING recs.length).resowYoke recs
      let s6 := (((List.range 256).filter fun r => s5.rgnReleasing r).foldl (fun (t : State) r => t.startRelease r) s5)
      let s7 := (List.range 256).foldl (fun (t : State) k => if t.keyLoaded k && !recs.isEmpty then t.replaySlot k else t) s6
      let s8 := if path = 0 then s7.onRec fun q => { q with image := [] } else if !d.sealed then s7 else s7.onRec fun q => { q with image := d.image }
      let lossP := s8.win.poisoning.length - s.win.poisoning.length
      let s9 := ((((s8.wr HRV_RESOW_PATH path).wr HRV_RESOW_PAGES (if path = 0 then 0 else d.pages.length)).wr HRV_LOSS_PAGES lossP).wr HRV_STS_STATE 2).wr
        HRV_SEQ_DSEQ (if path = 0 || !d.sealed then s.rd HRV_SEQ_DSEQ else d.dseq)
      (s9.hvRecord 3 d.cause path d.dseq).recount)

/-- RESOW_SWEEP (R310): every DRAM_CLEAN entry whose frame is gone becomes FLASH_ONLY with HEAT 0; pinned pages are loaded. -/
def execResowSweep (s : State) : Res :=
  .next (
    if !s.hv.resown then s
    else
      let ps := s.win.unswept
      let s1 := ps.foldl (fun (t : State) p => t.setTier p { t.tierOf p with heat := 0 }) s
      let rs := ((ps.filter fun p => (s.tierOf p).pinned || s.rgnPinned (s.tierOf p).region).map fun p => (s.tierOf p).region).eraseDups
      rs.foldl (fun (t : State) r => t.startLoad r) s1)

/-! ## Arming (R292, R307) -/

/-- The old dump's superblocks are to be erased, and FALLOW_HELD clears (R307 step 7). -/
def State.releaseDump (s : State) : State :=
  let used := match s.hv.dump with | none => [] | some d => d.used
  ((used.foldl (fun (t : State) b => t.modSb b fun q => { q with relocating := true }) s).onHv fun h => { h with dump := none }).wr HRV_STS_FALLOW_HELD 0

/-- HARVEST_ARMED (R292, R307): Harvest arms once every condition holds. The first time since the power-up Headland writes a new
arm record, whose start of the erased space is `sb`, and Resow releases the old dump. -/
def execHarvestArmed (sb : BitVec 18) (s : State) : Res :=
  .next (
    if s.pwr != 2 || s.rd HRV_STS_STATE != 2 || s.noArm != 0 then s
    else
      let seq := (max s.hv.armSeq (s.rd HRV_SEQ_DSEQ) + 1) % 2 ^ 48
      let t := (s.wr HRV_STS_STATE 3).wr HRV_STS_ARMED 1
      let u := if s.hv.armed then t
        else
          let v := t.onHv fun h => { h with armed := true, armSeq := seq, armSb := sb.toNat }
          ((v.wr (RST_MS_TIME 6) s.msNow).wr HRV_RESOW_DUR_MS (min (2 ^ 24 - 1) ((s.now - s.hv.resowAt) / 1000000))).releaseDump
      ((u.hvRecord 5 0 0 u.hv.armSeq).showArm).settle)

end Sys2Proof.Machine
end

