-- ==== Sys2Proof/Machine/Reset.lean ====
section
/-!
DEFINITION. Machine/Reset.lean: the reset controller (chapter 18): group resets (R575 to R581), power-on and device resets
(R582 to R584), Memory_Active (R585, R586), pulse crossings (R589).
-/
namespace Sys2Proof.Machine
open Sys2Proof

/-- The power domains of a reset group (R575). -/
def groupDoms (g : Nat) : List Nat :=
  if g = 0 then [2] else if g = 1 then [3] else if g = 2 then [4] else if g = 3 then [5, 34, 35] else if g = 4 then [6, 7]
  else if g = 5 then [8, 9, 10, 11] else if g = 6 then [32, 33] else if 7 ≤ g ∧ g < 11 then [g + 5]
  else if 12 ≤ g ∧ g < 28 then [g + 4] else []

/-- The groups of a mask, in ascending number. -/
def groupsOf (m : Nat) : List Nat := (List.range 28).filter fun g => g != 11 && m.testBit g

/-- The mask of some groups. -/
def groupMask (l : List Nat) : Nat := (l.map fun g => 2 ^ g).sum

/-- RST_CAUSE.PENDING (R591): groups 0 to 10 as they are, the DC groups in bit 15. -/
def pendBits (m : Nat) : Nat := m % 2 ^ 11 + (if m / 2 ^ 12 = 0 then 0 else 2 ^ 15)

/-- Changes the reset controller. -/
def State.onRs (s : State) (f : Resets → Resets) : State := { s with rs := f s.rs }

/-! ## Group resets (R577) -/

/-- Steps 1 and 2 of a sequence over some groups, for a cause of RST_CAUSE.GRP_CAUSE: crossings into CORE hold, Yoke marks what is
not acknowledged. The RESET record names a watchdog's reset as its own kind (R615). -/
def State.groupStart (s : State) (m cause : Nat) : State :=
  let l := groupsOf m
  let s1 := ((((((s.onRs fun r => { r with groups := m, cause := cause }).wr RST_GRP_STS_IN_RESET m).wr RST_GRP_STS_BUSY 1).wr RST_CAUSE_GRP_CAUSE
    cause).wr RST_CAUSE_GRP_LAST (l.headD 0)).bump RST_CNT_GROUP).record 0x07 wRST
      ([if cause = 2 then 3 else 2, BitVec.ofNat 8 cause, 0, 0] ++ leBytes m 4)
  let s2 := if l.contains 0 then s1.onFab fun f => { f with hold := true } else s1
  if l.contains 4 && s2.on YOK_CTL_ENABLE then s2.twinLost else s2

/-- A request over some groups (R302, R578, R584): latched during Harvest, pending while a sequence runs, merged for a group that is
in reset already. -/
def State.groupRequest (s : State) (m cause : Nat) : State :=
  if m = 0 then s
  else if s.hrvBusy then ((s.onHv fun h => { h with latched := h.latched ||| m }).wr HRV_STS_RESET_LATCHED 1).bump RST_CNT_LATCHED
  else if s.on RST_GRP_STS_BUSY then
    let p := s.rs.pend ||| groupMask ((groupsOf m).filter fun g => !s.rs.groups.testBit g)
    (s.onRs fun r => { r with pend := p, pendCause := cause }).wr RST_CAUSE_PENDING (pendBits p)
  else s.groupStart m cause

/-- A write of RST_GRP_CTL.GROUPS (R578): bit 11 is ignored; a request for a channel that is neither OFF nor FENCED is ignored,
counted and recorded. -/
def State.writeGroups (s : State) (a : Agent) (v : Nat) : State :=
  let no := (List.range 16).filter fun c => v.testBit (12 + c) && s.rd (DRM_STS_STATE c) != 0 && s.rd (DRM_STS_STATE c) != 5
  let s1 := no.foldl (fun (t : State) c => ((t.bump RST_CNT_IGNORED).raise wRST 3 (12 + c)).ignored a RST_GRP_CTL (2 ^ (12 + c))) s
  s1.groupRequest (groupMask ((groupsOf v).filter fun g => !(decide (12 ≤ g) && no.contains (g - 12)))) 1

/-- GROUP_RESET_REQUEST (R578). -/
def execGroupResetRequest (a : Agent) (v : BitVec 28) (s : State) : Res :=
  .next (s.atReg a RST_GRP_CTL v.toNat fun t => t.writeGroups a v.toNat)

/-- Has CORE quiesced (R580): no request has started and not completed, and no line is left to drain but those of an empty key
slot? -/
def State.coreQuiet (s : State) : Bool := s.fab.act.isEmpty && s.fab.cb.all fun l => !s.rgnKeyed l.region

/-- What comes after the release of a group (R580): Winnow's counts are taken anew; Yoke's handshakes and the Granary's list begin
again where they are enabled (`grn`: the pool was on, and firmware enables it again); the cores restart through the ROM and the window of R546 opens. -/
def State.groupAfter (s : State) (grn : Bool) (g : Nat) : State :=
  if g = 0 then s.wr RST_GRP_STS_HOLD 1
  else if g = 2 then (s.wr HRV_STS_STATE (if s.pwr = 2 then (if s.hv.resown then 2 else 1) else 0)).recount
  else if g = 4 then
    let s1 := if s.on YOK_CTL_ENABLE then s.pairsOn.foldl (fun (t : State) p => t.hsStart p) ((s.wr YOK_STS_TWIN 3).cond wYOK 3 noSub true) else s
    if grn then (s1.wr GRN_CTL_ENABLE 1).grnBuild else s1
  else if g = 5 then
    let s1 := s.csrReset [wHDL] s.keepReg
    ((List.range 4).foldl (fun (t : State) n => if t.coreState n = 4 || t.rd (PWR_PD_STATE (8 + n)) = 0 then t else t.wr (HDL_CORE_STS_STATE n) 1) s1).openWindow
  else s

/-- Steps 3 to 5. Headland restores a group's journalled registers at once, those of CORE before ADMIT (R581). -/
def State.groupRelease (s : State) : State :=
  let l := groupsOf s.rs.groups
  let doms := l.flatMap groupDoms
  let j := s.journalNow
  let s1 := doms.foldl (fun (t : State) d => if t.rd (PWR_PD_STATE d) = 0 then t else t.resetDom d false) (s.onHv fun h => { h with journal := j })
  let s2 := s1.journalRestore j fun k => match winIdx (k % 0x100000000) with
    | none => false
    | some w => winPdom w != 2 && doms.contains (winPdom w)
  let s3 := l.foldl (fun (t : State) g => t.groupAfter (s.on GRN_CTL_ENABLE) g) s2
  let s4 := ((s3.onRs fun r => { r with groups := 0 }).wr RST_GRP_STS_IN_RESET 0).applyHeld.wr RST_GRP_STS_BUSY 0
  if s4.rs.pend = 0 then s4
  else
    let m := s4.rs.pend
    ((s4.onRs fun r => { r with pend := 0 }).wr RST_CAUSE_PENDING 0).groupStart m s4.rs.pendCause

/-- GROUP_RESET_RELEASE (R577): once the groups have quiesced. -/
def execGroupResetRelease (s : State) : Res :=
  .next (if !s.on RST_GRP_STS_BUSY || (s.rs.groups.testBit 0 && !s.coreQuiet) then s else s.groupRelease)

/-- RST_GRP_CTL.ADMIT: the region table and CORE's other journalled registers are restored and the tines admit again (R75, R581). -/
def State.writeAdmit (s : State) : State :=
  if !s.on RST_GRP_STS_HOLD then s
  else
    let s1 := s.journalRestore s.hv.journal fun k => match winIdx (k % 0x100000000) with | none => false | some w => winPdom w == 2
    let s2 := (s1.onFab fun f => { f with hold := false }).wr RST_GRP_STS_HOLD 0
    (((List.range 256).filter fun r => s2.rgnReleasing r).foldl (fun (t : State) r => t.startRelease r) s2).settle

/-- ADMIT (R581). -/
def execAdmitTines (a : Agent) (s : State) : Res := .next (s.atReg a RST_GRP_CTL (2 ^ 31) fun t => t.writeAdmit)

/-! ## Power-on (R582, R583) -/

/-- What NAND keeps through a power-on: what has been programmed, and the dump, which holds the write buffer and the map (R295). -/
def Furrow.media (u : Furrow) : Furrow := { u.cut with shadow := [], admitted := 0, programmed := 0, week := [] }

/-- An erase that loss of power cuts off leaves its sector undefined (R536). -/
def State.eflLost (s : State) (bank sector : Nat) : State :=
  let base := bank * 524288 + sector * 2048
  let w := (List.range 2048).foldl (fun (m : SMap (BitVec 256)) i =>
    mset (fun _ => BitVec.allOnes 256) m (base + i) ((Config.freeLine (s.fresh + i)).setWidth 256)) s.efl.words
  { s with efl := { s.efl with words := w }, fresh := s.fresh + 2048 }

/-- Every group, AON and TTH included: only non-volatile media stay. The island is held in reset until `AON_RESET_RELEASE`. -/
def State.powerOn (s : State) : State :=
  let s1 := match s.efl.erase with | none => s | some e => s.eflLost e.bank e.sector
  { State.reset with
    pending := s.pending, out := s.out, fresh := s1.fresh,
    win := { tier := s.win.tier.map (fun e => (e.1, { e.2 with migrating := false })), frames := s.win.frames.filter fun e => e.2 == .retired },
    fur := s.fur.media,
    hv := { dump := s.hv.dump, armSeq := s.hv.armSeq, armSb := s.hv.armSb, journal := s.hv.journal, dirtyShut := s.hv.dirtyShut, world := s.hv.world },
    efl := { words := s1.efl.words, otp := s.efl.otp, otpDone := s.efl.otpDone },
    cs := { admin := s.cs.admin },
    th := { fuse := s.th.fuse, hasKey := s.th.hasKey },
    pw := { held := true } }

/-- POWER_ON_RESET (R582): VDD_AON rises (`aon`), or RST_POR_N is low in STANDBY, FAULT or FALLOW. -/
def execPowerOnReset (aon : Bool) (s : State) : Res :=
  .next (if aon || s.pwr = 0 || s.pwr = 5 || s.pwr = 6 then s.powerOn else s)

/-- AON_RESET_RELEASE (R583, R655): the sideband's address straps are sampled. -/
def execAonResetRelease (strap : Fin 4) (s : State) : Res := .next (s.onPw fun p => if p.held then { p with held := false, strap := strap } else p)

/-- DEVICE_RESET (R311, R582): RST_POR_N low for 1 µs while ON. -/
def execDeviceReset (s : State) : Res :=
  .next (if s.pwr != 2 then s else if s.harvestable then s.startHarvest { cause := 3 } else s.deviceReset 1 false)

/-- TAP_RESET (R582): the TAP controller alone, which holds no state of this model. -/
def execTapReset (s : State) : Res := .next s

/-! ## Bring-up and crossings -/

/-- MEMORY_ACTIVE_SET (R585, R586): after arming, Memory_Active is 1, Drill is enabled and the events of R97 for the regions in
force are owed. -/
def execMemoryActiveSet (s : State) : Res :=
  .next (
    if s.pwr != 2 || !s.hv.armed || s.hp.memActive then s
    else
      let s1 : State := { s with hp := { s.hp with memActive := true } }
      let s2 := (s1.wr (RST_MS_TIME 7) s1.msNow).wr DRL_CTL_ENABLE 1
      s2.validRgns.foldl (fun (t : State) r => t.oweChange r (t.rgnBase r) (t.rgnSize r) 0 0 (t.rd (TIN_RGN_LDRD_MASK r)) (t.rd (TIN_RGN_LDWR_MASK r))) s2)

/-- PULSE_OVERRUN (R589, R599): the pulse is not carried. -/
def execPulseOverrun (k : Fin 8) (s : State) : Res :=
  .next ((s.wrW RST_XOVR (s.rdW RST_XOVR ||| BitVec.ofNat 64 (2 ^ k.val))).raise wRST 2 k)

end Sys2Proof.Machine
end

