-- ==== Sys2Proof/Machine/Efl.lean ====
section
/-!
DEFINITION. Machine/Efl.lean: the embedded flash and the OTP row behind the ROM routine (R526 to R539), images and boot (R540 to
R544), the watchdog (R545, R546).
-/
namespace Sys2Proof.Machine
open Sys2Proof

/-! ## The array -/

/-- What an erased word reads as (R526). -/
def eflOnes : Nat → BitVec 256 := fun _ => BitVec.allOnes 256
/-- Changes the embedded flash. -/
def State.onEfl (s : State) (f : Efl → Efl) : State := { s with efl := f s.efl }
/-- A word of a bank. -/
def State.eflWord (s : State) (b w : Nat) : BitVec 256 := mget eflOnes s.efl.words (b * 524288 + w)
/-- Byte i of a bank. -/
def State.eflByte (s : State) (b i : Nat) : Nat := getBits (s.eflWord b (i / 32)).toNat (i % 32 * 8) 8
/-- n bytes of a bank from offset o. -/
def State.eflBytes (s : State) (b o n : Nat) : List Byte := (List.range n).map fun i => BitVec.ofNat 8 (s.eflByte b (o + i))
/-- The number in n bytes of a bank from offset o. -/
def State.eflNum (s : State) (b o n : Nat) : Nat := ofBytes (s.eflBytes b o n)
/-- Stores a word. -/
def State.eflPut (s : State) (b w : Nat) (v : BitVec 256) : State := s.onEfl fun e => { e with words := mset eflOnes e.words (b * 524288 + w) v }
/-- Is the sector INCOMPLETE (R536)? -/
def State.incmp (s : State) (b sec : Nat) : Bool := s.bitOf (EFL_INCMP_SECTOR (8 * b + sec / 32)) (sec % 32)
/-- Sets or clears INCOMPLETE. -/
def State.setIncmp (s : State) (b sec : Nat) (v : Bool) : State := s.wrBit (EFL_INCMP_SECTOR (8 * b + sec / 32)) (sec % 32) v
/-- The words of a sector are erased. -/
def State.eflErase (s : State) (b sec : Nat) : State := s.onEfl fun e => { e with words := clearRange e.words (b * 524288 + sec * 2048) 2048 }
/-- The boot-failure count of a bank (R541). -/
def failsFld (b : Nat) : Fld := if b = 0 then EFL_BOOT_FAILS_A else EFL_BOOT_FAILS_B

/-! ## The ROM routine (R529 to R531) -/

/-- EFL_STS.STATE and the erase it names. -/
def State.showEfl (s : State) : State :=
  match s.efl.erase with
  | none => s.wr EFL_STS_STATE 0
  | some e => ((s.wr EFL_STS_STATE (if e.suspended then 3 else 2)).wr EFL_STS_ERASE_BANK e.bank).wr EFL_STS_ERASE_SECTOR e.sector

/-- EFL_ERASE_STS.ELAPSED_MS follows the time since the ERASE call, and STARVED its condition (R535, R599). -/
def State.showErase (s : State) : State :=
  match s.efl.erase with
  | none => s
  | some e => s.wr EFL_ERASE_STS_ELAPSED_MS (min (2 ^ 24 - 1) ((s.now - e.since) / 1000000))

/-- A call ends with a result (R531). -/
def State.eflEnd (s : State) (func res : Nat) : State :=
  let t := ((s.wr EFL_STS_FUNC func).wr EFL_STS_RESULT res).showEfl
  if res = 5 then t.raise wEFL 3 noSub else t

/-- The routine writes the controller's registers for one word, sector or OTP word (R529, R547). -/
def State.eflRegs (s : State) (func bank word : Nat) (v : BitVec 256) : State :=
  let t := ((s.wr EFL_CMD_FUNC func).wr EFL_ADDR_BANK bank).wr EFL_ADDR_WORD word
  (List.range 4).foldl (fun (u : State) k => u.wr (EFL_WDATA_DATA k) (getBits v.toNat (64 * k) 64)) t

/-- May a core call the routine: does it run or boot? -/
def State.romCaller (s : State) (n : Nat) : Bool := s.coreState n == 1 || s.coreState n == 2

/-- Does an erase run that is not suspended? -/
def State.eflBusy (s : State) : Bool := match s.efl.erase with | none => false | some e => !e.suspended

/-- The result that refuses a PROGRAM, if any (R531 to R533, R536). -/
def State.programErr (s : State) (bank word n : Nat) : Option Nat :=
  let secs := (List.range n).map fun i => (word + i) / 2048
  let under := match s.efl.erase with | none => false | some e => e.bank == bank && secs.contains e.sector
  if s.eflBusy || under then some 2
  else if 1 < bank || n = 0 || 124 < n || 524288 < word + n || (decide (word < 192 * 2048) && decide (192 * 2048 < word + n)) then some 3
  else if (List.range n).any fun i => s.eflWord bank (word + i) != BitVec.allOnes 256 then some 4
  else if secs.any fun x => s.incmp bank x then some 4
  else none

/-- Programs words in ascending order; a word whose read-back differs holds a free value. -/
def State.programWords (s : State) (bank word : Nat) (bad : List Nat) : List (BitVec 256) → Nat → State
  | [], _ => s
  | v :: t, i =>
    let s1 := (s.eflRegs 1 bank (word + i) v).bump EFL_CNT_PROGRAMS
    let s2 := if bad.contains i then (s1.eflPut bank (word + i) ((Config.freeLine s1.fresh).setWidth 256)).draw else s1.eflPut bank (word + i) v
    s2.programWords bank word bad t (i + 1)

/-- EFL_PROGRAM (R530 to R533). `bad` are the words whose read-back differs. -/
def execEflProgram (n : Fin 4) (bank : Nat) (word : Nat) (data : List (BitVec 256)) (bad : List Nat) (s : State) : Res :=
  .next (
    if !s.romCaller n then s
    else match s.programErr bank word data.length with
      | some e => s.eflEnd 1 e
      | none => (s.programWords bank word bad data 0).eflEnd 1 (if bad.any fun i => decide (i < data.length) then 5 else 0))

/-- An erase begins (R530, R534, R535). -/
def State.eraseBegin (s : State) (bank sector : Nat) : State :=
  let t := (s.eflRegs 2 bank (sector * 2048) 0).onEfl fun e => { e with erase := some { bank := bank, sector := sector, since := s.now } }
  ((((t.wr EFL_ERASE_STS_STARVED 0).wr EFL_ERASE_STS_PULSES 0).wr EFL_ERASE_STS_SUSPENDS 0).wr EFL_ERASE_STS_ELAPSED_MS 0).eflEnd 2 0

/-- EFL_ERASE (R530 to R535). `self` is the bank that holds the caller's return address. -/
def execEflErase (n : Fin 4) (self : Option Bool) (bank sector : Nat) (s : State) : Res :=
  .next (
    if !s.romCaller n then s
    else if (match self with | none => false | some b => bank == (if b then 1 else 0)) then s.eflEnd 2 1
    else if s.efl.erase.isSome then s.eflEnd 2 2
    else if 1 < bank || 255 < sector then s.eflEnd 2 3
    else s.eraseBegin bank sector)

/-- EFL_SUSPEND (R530, R534, R535): the pulse in progress is discarded. -/
def execEflSuspend (n : Fin 4) (s : State) : Res :=
  .next (
    if !s.romCaller n then s
    else match s.efl.erase with
      | none => s.eflEnd 3 6
      | some e =>
        if e.suspended then s.eflEnd 3 6
        else
          let t := (((s.wr EFL_CMD_FUNC 3).onEfl fun x => { x with erase := some { e with suspended := true } }).bump EFL_ERASE_STS_SUSPENDS).showErase
          (if 16 ≤ e.resumes then (t.wr EFL_ERASE_STS_STARVED 1).cond wEFL 4 noSub true else t).eflEnd 3 0)

/-- EFL_RESUME (R530, R534, R535): a fresh pulse. -/
def execEflResume (n : Fin 4) (s : State) : Res :=
  .next (
    if !s.romCaller n then s
    else match s.efl.erase with
      | none => s.eflEnd 4 6
      | some e =>
        if !e.suspended then s.eflEnd 4 6
        else (((s.wr EFL_CMD_FUNC 4).onEfl fun x => { x with erase := some { e with suspended := false, resumes := e.resumes + 1 } }).showErase).eflEnd 4 0)

/-- EFL_STATUS (R530): the caller is answered EFL_STS and EFL_ERASE_STS. It leaves the last call's result. -/
def execEflStatus (n : Fin 4) (s : State) : Res :=
  let a : Agent := [Agent.h0, .h1, .h2, .h3].getD n .h0
  .next (if !s.romCaller n then s else let t := s.showErase; (t.emit (.ctrl a (t.rdW EFL_STS))).emit (.ctrl a (t.rdW EFL_ERASE_STS)))

/-- The erase in progress ends (R534, R535). -/
def State.eraseOver (s : State) : State := ((s.showErase.onEfl fun x => { x with erase := none }).wr EFL_ERASE_STS_STARVED 0).cond wEFL 4 noSub false

/-- The erase in progress is aborted: its sector is INCOMPLETE and reads as free values. -/
def State.eraseAbort (s : State) (e : EraseOp) : State := (((s.eraseOver).setIncmp e.bank e.sector true).eflLost e.bank e.sector).bump EFL_CNT_ABORTS

/-- EFL_ABORT (R530, R536). -/
def execEflAbort (n : Fin 4) (s : State) : Res :=
  .next (
    if !s.romCaller n then s
    else match s.efl.erase with
      | none => s.eflEnd 6 6
      | some e => ((s.wr EFL_CMD_FUNC 6).eraseAbort e).eflEnd 6 0)

/-- ERASE_PULSE_END (R534 to R536, R541). `pass`: its verify passes. -/
def execErasePulseEnd (pass : Bool) (s : State) : Res :=
  .next (match s.efl.erase with
    | none => s
    | some e =>
      if e.suspended then s
      else
        let t := s.wr EFL_ERASE_STS_PULSES (e.pulses + 1)
        if pass then
          let u := (((t.eraseOver).eflErase e.bank e.sector).setIncmp e.bank e.sector false).bump EFL_CNT_ERASES
          (if e.sector = 0 then u.wr (failsFld e.bank) 0 else u).eflEnd 2 0
        else if e.pulses + 1 = 120 then (((t.eraseOver).setIncmp e.bank e.sector true).eflLost e.bank e.sector).eflEnd 2 5
        else (t.onEfl fun x => { x with erase := some { e with pulses := e.pulses + 1, resumes := 0 } }).showErase)

/-! ## The OTP row (R537 to R539) -/

/-- A word of the OTP row. -/
def State.otpWord (s : State) (w : Nat) : Word64 := mget (fun _ => (0 : Word64)) s.efl.otp w
/-- What EFL_OTP_w reads (R537). -/
def State.otpRead (s : State) (w : Nat) : Word64 := if (4 ≤ w ∧ w ≤ 7) ∨ 31 ≤ w then 0 else s.otpWord w
/-- Stores a word of the OTP row. -/
def State.otpPut (s : State) (w : Nat) (v : Word64) : State :=
  s.onEfl fun e => { e with otp := mset (fun _ => (0 : Word64)) e.otp w v, otpDone := if e.otpDone.contains w then e.otpDone else e.otpDone ++ [w] }
/-- The number of ones in the low n bits. -/
def popcount (x : Nat) : Nat → Nat
  | 0 => 0
  | n + 1 => x % 2 + popcount (x / 2) n
/-- The rollback floor that the words 23 to 30 spell (R537). -/
def floorOf (w : Nat → Word64) : Nat :=
  ((List.range 64).filter fun i => decide (5 ≤ popcount (getBits (w (23 + i / 8)).toNat (i % 8 * 8) 8) 8)).length
/-- The rollback floor. -/
def State.floor (s : State) : Nat := floorOf s.otpWord
/-- EFL_BOOT.FLOOR follows the OTP row. -/
def State.showFloor (s : State) : State := s.wr EFL_BOOT_FLOOR s.floor
/-- Is MFG_LOCK written? -/
def State.mfgLock (s : State) : Bool := (s.otpWord 20).getLsbD 63
/-- Is there a key B? -/
def State.keyBPresent (s : State) : Bool := (s.otpWord 20).getLsbD 0
/-- ROLLBACK of the image of a bank (R540). -/
def State.rollback (s : State) (b : Nat) : Nat := s.eflNum b 0x010 4

/-- The result that refuses an OTP_PROGRAM, if any (R531, R538). -/
def State.otpErr (s : State) (n w : Nat) (v : Word64) : Option Nat :=
  let a : Agent := [Agent.h0, .h1, .h2, .h3].getD n .h0
  if s.eflBusy then some 2
  else if 63 < w then some 3
  else if !s.agentSecure a then some 7
  else if w ≤ 3 ∨ (8 ≤ w ∧ w ≤ 20) ∨ (31 ≤ w ∧ w ≤ 38) then
    if s.efl.otpDone.contains w then some 4 else if s.mfgLock then some 7 else none
  else if w = 21 then (if s.efl.otpDone.contains w then some 4 else none)
  else if w = 22 then (if s.keyBPresent && s.efl.running.isSome && s.efl.keyB then none else some 7)
  else if 23 ≤ w ∧ w ≤ 30 then
    match s.efl.running with
    | none => some 7
    | some b => if floorOf (fun x => if x = w then s.otpWord x ||| v else s.otpWord x) ≤ s.rollback b then none else some 7
  else some 7

/-- OTP_PROGRAM (R530, R538). `ok`: the read-back agrees. -/
def execOtpProgram (n : Fin 4) (w : Nat) (v : Word64) (ok : Bool) (s : State) : Res :=
  .next (
    if !s.romCaller n then s
    else match s.otpErr n w v with
      | some e => s.eflEnd 7 e
      | none =>
        let t := s.eflRegs 7 0 w (v.setWidth 256)
        let x := if 22 ≤ w ∧ w ≤ 30 then s.otpWord w ||| v else v
        if ok then ((t.otpPut w x).showFloor).eflEnd 7 0
        else (((t.otpPut w (Config.freeWord t.fresh)).draw).showFloor).eflEnd 7 5)

/-- OTP_GEN_ROOT (R530, R538): words 4 to 7 take free values. -/
def execOtpGenRoot (n : Fin 4) (s : State) : Res :=
  let a : Agent := [Agent.h0, .h1, .h2, .h3].getD n .h0
  .next (
    if !s.romCaller n then s
    else if s.eflBusy then s.eflEnd 8 2
    else if !s.agentSecure a then s.eflEnd 8 7
    else if (List.range 4).any fun i => s.otpWord (4 + i) != 0 then s.eflEnd 8 4
    else ((List.range 4).foldl (fun (t : State) i => (t.otpPut (4 + i) (Config.freeWord t.fresh)).draw) (s.wr EFL_CMD_FUNC 8)).eflEnd 8 0)

/-- A double-bit error is found in an OTP word (R539). -/
def State.otpBad (s : State) (w : Nat) : State :=
  if 22 ≤ w ∧ w ≤ 30 then s else ((s.otpPut w 0).raiseQuiet wEFL 2 w).record 0x01 wEFL ([2, 0] ++ leBytes w 2 ++ leBytes (s.rd (FLT_CNT_COUNT wEFL) + 1) 4)

/-! ## Images and boot (R540 to R543) -/

/-- INSTALL_SEQ of a bank (R542): of the highest-offset word of its stamp sector that is not all ones and whose CRC passes. -/
def State.installSeq (s : State) (b : Nat) : Nat :=
  let base := 255 * 2048
  match (List.range 2048).reverse.find? fun i => s.eflWord b (base + i) != BitVec.allOnes 256 &&
      s.eflNum b ((base + i) * 32 + 8) 4 == (Config.crc32 (s.eflBytes b ((base + i) * 32) 8)).toNat with
  | none => 0
  | some i => s.eflNum b ((base + i) * 32) 8

/-- The SHA-384 that the OTP row holds for a signing key (R537). -/
def State.keyHash (s : State) (k : Nat) : Nat := ((List.range 6).map fun i => (s.otpWord (8 + 6 * k + i)).toNat * 2 ^ (64 * i)).sum

/-- Does the image of a bank check: its header, major version, body, key and signature (R523, R541)? -/
def State.imageOk (s : State) (b : Nat) : Bool :=
  let k := s.eflByte b 9
  let len := s.eflNum b 0x014 4
  let pub := s.eflBytes b 0x100 97
  let revoked := decide (32 ≤ popcount (s.otpWord 22).toNat 64)
  s.eflBytes b 0 4 == [0x47, 0x48, 0x4C, 0x44] && s.eflNum b 4 2 == 1 && len % 32 == 0 && decide (len ≤ 12578816) && s.eflByte b 6 == 3 &&
    s.eflBytes b 0x018 48 == sha384 (s.eflBytes b 0x1000 len) && decide (k ≤ 1) && s.keyHash k != 0 &&
    sha384 pub == leBytes (s.keyHash k) 48 && (if k = 1 then s.keyBPresent else !revoked) &&
    Config.ecdsaOk pub (s.eflBytes b 0 0x80) (s.eflBytes b 0x080 96)

/-- Does the image of a bank verify (R541)? -/
def State.verifies (s : State) (b : Nat) : Bool :=
  s.imageOk b && decide (s.floor ≤ s.rollback b ∧ s.rollback b ≤ 64) &&
    !((List.range 192).any fun x => s.incmp b x) && decide (s.rd (failsFld b) < 3)

/-- The banks in the order in which the ROM tries them (R542). -/
def State.bootOrder (s : State) : List Nat :=
  let l := if s.installSeq 0 < s.installSeq 1 then [1, 0] else [0, 1]
  l.filter fun b => s.installSeq b != 0

/-- The ROM tries the banks. -/
def State.bootTry (s : State) : List Nat → State × Option Nat
  | [] => (s, none)
  | b :: t =>
    let ok := s.verifies b
    let u := s.wr (if b = 0 then EFL_BOOT_VERIFIED_A else EFL_BOOT_VERIFIED_B) (if ok then 1 else 0)
    if ok then (u, some b) else u.bootTry t

/-- The ROM boots an image: the cores that boot run it, and firmware writes its BOOT record and milestone 2 (R585, R591, R625). -/
def State.bootRun (s : State) (b : Nat) (cores : List Nat) (first : Bool) : State :=
  let s1 := cores.foldl (fun (t : State) n => t.wr (HDL_CORE_STS_STATE n) 2) s
  let s2 := ((s1.wr EFL_BOOT_RECOVERY 0).cond wEFL 8 noSub false).wr EFL_BOOT_BANK_RUN b
  let s3 := s2.onEfl fun e => { e with running := some b, keyB := s.eflByte b 9 == 1, bootAt := s.now, wdtAt := s.now, kicked := false }
  let s4 := if first then s3 else s3.raise wEFL 7 noSub
  let s5 := if s4.rd (RST_MS_TIME 2) = 0 then s4.wr (RST_MS_TIME 2) s4.msNow else s4
  s5.record 0x23 (0xF0 + cores.headD 0) ([BitVec.ofNat 8 b] ++ s.eflBytes b 6 3 ++ [BitVec.ofNat 8 s.floor])

/-- Firmware that has booted checks the DRAM and NAND populations (R177, R246, R247, R478): a cause other than 0 is recorded, and a bad
DRAM population leaves every channel OFF. -/
def State.popCheck (s : State) (dram nand core : Nat) : State :=
  let t : State := { s with cs := { s.cs with popCause := dram, nandCause := nand } }
  if dram = 0 && nand = 0 then t else t.record 0x24 (0xF0 + core) [BitVec.ofNat 8 dram, BitVec.ofNat 8 nand]

/-- ROM_BOOT (R539, R541 to R543): `otp` are the OTP words found with double-bit errors, `dram` and `nand` what firmware finds wrong
with the populations, as HEALTH byte 4 codes it. -/
def execRomBoot (otp : List (Fin 64)) (dram nand : Fin 6) (s : State) : Res :=
  .next (
    let cores := (List.range 4).filter fun n => s.coreState n == 1
    if cores.isEmpty then s
    else
      let s1 := (otp.foldl (fun (t : State) (w : Fin 64) => t.otpBad w) s).showFloor.onEfl fun e => { e with wdtAt := s.now }
      let (s2, got) := s1.bootTry s1.bootOrder
      match got with
      | some b => (s2.bootRun b cores (s1.bootOrder.head? == some b)).popCheck dram nand (cores.headD 0)
      | none => (s2.wr EFL_BOOT_RECOVERY 1).cond wEFL 8 noSub true)

/-- The step bytes below a level are set (R544): whole bytes, the lowest first, until the floor is reached. -/
def State.raiseFloor (s : State) (level : Nat) : State :=
  ((List.range 64).foldl (fun (t : State) i =>
    if t.floor < level then t.otpPut (23 + i / 8) (t.otpWord (23 + i / 8) ||| BitVec.ofNat 64 (255 * 2 ^ (i % 8 * 8))) else t) s).showFloor

/-- IMAGE_FLAG_ACTIVATION (R544): the image has run for 600 s. -/
def execImageFlagActivation (s : State) : Res :=
  .next (match s.efl.running with
    | none => s
    | some b =>
      if !((List.range 4).any fun n => s.coreState n == 2) then s
      else
        let fl := s.eflNum b 0x00A 2
        let t := if fl.testBit 0 then s.raiseFloor (s.rollback b) else s
        if fl.testBit 1 && s.efl.keyB && s.keyBPresent then t.otpPut 22 (BitVec.allOnes 64) else t)

/-! ## The watchdog (R545, R546) -/

/-- A kick: the period restarts and the window of R546 ends. -/
def State.kick (s : State) : State :=
  ((s.onEfl fun e => { e with wdtAt := s.now, kicked := true, resetAt := none }).wr EFL_WDT_STS_WINDOW 0).wr EFL_WDT_STS_ABSENT_S 0

/-- WDT_KICK (R545, R546). -/
def execWdtKick (a : Agent) (s : State) : Res := .next (s.atReg a EFL_WDT_CTL (2 ^ 30) fun t => t.kick)

/-- An open firmware transfer is abandoned: its background command ends with INTERNAL (R545). -/
def State.fwAbandon (s : State) : State :=
  match s.cs.fw with
  | none => s
  | some f =>
    let ends := s.cs.bg.filter fun x => x.1 == f.chan && x.2.job == .erase && !x.2.done
    ends.foldl (fun (t : State) x => t.bgTell x.2.ld) { s with cs := { s.cs with fw := none, bg := s.cs.bg.map fun x =>
        if x.1 == f.chan && x.2.job == .erase && !x.2.done then (x.1, { x.2 with done := true, final := 4, til := s.now }) else x } }

/-- What an expiry cuts off (R536, R545): the erase in progress and a PROGRAM call. -/
def State.wdtCut (s : State) (cut : Option EflCut) : State :=
  let s1 := match s.efl.erase with | none => s | some e => (s.eraseAbort e).eflEnd 2 8
  match cut with
  | none => s1
  | some c =>
    let b := if c.bank then 1 else 0
    let w := c.word.toNat
    if (s.programErr b w c.data.length).isSome || decide (c.data.length ≤ c.done) then s1
    else
      let t := s1.programWords b w [] (c.data.take c.done) 0
      let u := (t.eflPut b (w + c.done) ((Config.freeLine t.fresh).setWidth 256)).draw
      ((u.setIncmp b ((w + c.done) / 2048) true).bump EFL_CNT_ABORTS).eflEnd 1 8

/-- WDT_EXPIRY (R302, R536, R541, R545). -/
def execWdtExpiry (cut : Option EflCut) (s : State) : Res :=
  .next (
    if !s.on EFL_WDT_CTL_ENABLE then s
    else
      let s1 := ((s.bump EFL_WDT_STS_EXPIRIES).raise wEFL 5 noSub).onEfl fun e => { e with wdtAt := s.now }
      let s2 := match s.efl.running with
        | none => s1
        | some b => if s.efl.kicked then s1 else s1.bump (failsFld b)
      ((s2.wdtCut cut).fwAbandon).groupRequest (2 ^ 5) 2)

/-- WDT_ESCALATION (R311, R546): 60 s without a kick. -/
def execWdtEscalation (s : State) : Res :=
  .next (
    if !s.on EFL_WDT_STS_WINDOW then s
    else
      let t := ((s.wr EFL_WDT_STS_ABSENT_S 60).wr EFL_WDT_STS_ESCALATED 1).raise wEFL 6 noSub
      if t.pwr != 2 then t else if t.harvestable then t.startHarvest { cause := 3, escal := true } else t.deviceReset 2 false)

end Sys2Proof.Machine
end

