-- ==== Sys2Proof/Machine/CmdBase.lean ====
section
/-!
DEFINITION. Machine/CmdBase.lean: how a command travels (R467 to R475): its message, who may send it, its turn, its reply, background
commands.
-/
namespace Sys2Proof.Machine
open Sys2Proof

/-- Changes what Headland keeps for the command set. -/
def State.onCs (s : State) (f : Cmds → Cmds) : State := { s with cs := f s.cs }

/-- A request as Headland reads it (R450, R451, R468): channel, SEQ, opcode, TAG, KIND, WORLD and SOURCE of its stamp, the core that
executes it, its admin bit, the bulk data's length as given, P, D, and the whole CXL payload. -/
structure Cmd where
  chan : Nat
  seq : Nat
  op : Nat
  tag : Nat
  kind : Nat
  world : Bool
  source : Nat
  core : Agent
  admin : Bool
  blen : Nat
  p : List Byte
  d : List Byte
  raw : List Byte
  deriving DecidableEq, Repr

/-- The number in n bytes of P from byte k. -/
def Cmd.num (m : Cmd) (k n : Nat) : Nat := ofBytes ((m.p.drop k).take n)
/-- A byte of P. -/
def Cmd.byte (m : Cmd) (k : Nat) : Nat := m.num k 1
/-- n bytes of D from byte k. -/
def Cmd.dat (m : Cmd) (k n : Nat) : Nat := ofBytes ((m.d.drop k).take n)

/-- Headland core n. -/
def coreAgent (n : Nat) : Agent := [Agent.h0, .h1, .h2, .h3].getD n .h0

/-- Opcode of the message in an IN slot. -/
def State.inOp (s : State) (c : Nat) : Nat := getBits (s.rd (MBX_IN_MSG c 0)) 0 16

/-- Is the message in a relay channel's IN slot the twin's reply to the relayed step that is awaited? -/
def State.isReply (s : State) (c : Nat) : Bool :=
  match s.cs.relay with
  | none => false
  | some (_, op, tag) => c == 56 && s.inOp c == op && getBits (s.rd (MBX_IN_MSG c 0)) 16 16 == tag

/-- The commands that run alongside the others (R470): identify, health, queries, the recorder. -/
def isQuery (op : Nat) : Bool :=
  [0xC000, 0xC001, 0xC002, 0xC105, 0xC304, 0xC405, 0xC503, 0xC506, 0xC602, 0xC700, 0xC705, 0xC706, 0xC800, 0xC801, 0x0001, 0x0002, 0x0100, 0x0102, 0x0200,
    0x0300, 0x0400, 0x0401, 0x4000, 0x4200, 0x4201, 0x4203, 0x4300, 0x4800, 0x4801].contains op

/-- Does the ROM on H0 serve MB32 in recovery (R543)? -/
def State.recovers (s : State) (c : Nat) : Bool := c == 32 && s.on EFL_BOOT_RECOVERY && s.coreState 0 == 1

/-- Does the core that a channel is routed to run (R459), or the ROM serve the channel in recovery? -/
def State.chanServed (s : State) (c : Nat) : Bool := s.coreState (s.rd (MBX_CH_CTL_CORE c)) == 2 || s.recovers c

/-- Has a request its turn (R470): no request that is not a query entered its slot earlier and can be executed? -/
def State.myTurn (s : State) (c : Nat) : Bool :=
  isQuery (s.inOp c) ||
    ((s.mb.arrived.takeWhile fun x => x.1 != c).all fun x => isQuery (s.inOp x.1) || !s.chanServed x.1 || s.isReply x.1)

/-- The request in an IN slot, where its routed core runs, the channel's OUT slot can take the reply and it has its turn. -/
def State.cmdAt (s : State) (c : Nat) (want : Nat → Bool) : Option Cmd :=
  if s.mbxFull c false && !s.mbxFull c true && s.chanServed c && want (s.inOp c) && !s.isReply c && s.myTurn c && s.powered wMBX then
    let h := s.rd (fHdr c false)
    let w0 := s.rd (MBX_IN_MSG c 0)
    let bulk := s.bulkOf c false
    let kind := getBits h 61 3
    some { chan := c, seq := getBits h 0 32, op := getBits w0 0 16, tag := getBits w0 16 16, kind := kind, world := decide (getBits h 60 1 = 1),
           source := getBits h 48 12, core := coreAgent (s.rd (MBX_CH_CTL_CORE c)),
           admin := (s.mb.arrived.find? fun x => x.1 == c).any fun x => x.2,
           blen := getBits w0 48 16, p := if kind = 1 then padTo 56 bulk else (s.mbxMsg c false).drop 8,
           d := if kind = 1 then bulk.drop 56 else bulk, raw := bulk }
  else none

/-- May the sender use class A commands (R469)? -/
def Cmd.isA (m : Cmd) : Bool := (decide (32 ≤ m.chan ∧ m.chan < 48)) || (decide (m.chan < 32) && m.admin)

/-- The classes of R469. -/
inductive Cls where
  | q | a | b
  deriving DecidableEq, Repr

/-- Does the sender lie within the command's classes? -/
def Cmd.classOk (m : Cmd) (k : Cls) (twin : Bool) : Bool :=
  if 56 ≤ m.chan then twin
  else match k with
    | .q => decide (m.chan < 48)
    | .a => m.isA
    | .b => decide (32 ≤ m.chan ∧ m.chan < 48)

/-- A firmware record (R625). -/
def State.fwRecord (s : State) (a : Agent) (ty : Nat) (pay : List Byte) : State := s.record ty (0xF0 + agentNum a) pay

/-- Headland has done with a request: a gap in SEQ is recorded as a lost message, the IN slot acknowledged (R455, R472). -/
def State.cmdDone (s : State) (m : Cmd) : State :=
  let s1 := match s.cs.seqs.find? fun x => x.1 == m.chan with
    | none => s
    | some x => if m.seq = (x.2 + 1) % 2 ^ 32 then s
      else s.fwRecord m.core 0x21 ([BitVec.ofNat 8 m.chan, 0, 0, 0] ++ leBytes ((x.2 + 1) % 2 ^ 32) 4 ++ leBytes m.seq 4)
  (s1.onCs fun k => { k with seqs := (m.chan, m.seq) :: k.seqs.filter (fun x => x.1 != m.chan), stage := k.stage.filter fun x => x.1 != m.chan }).mbxEmpty m.chan false

/-- The reply enters the OUT slot of the channel that carried the request (R467). -/
def State.replyMsg (s : State) (m : Cmd) (status : Nat) (inline bulk : List Byte) : State :=
  let msg := leBytes m.op 2 ++ leBytes m.tag 2 ++ leBytes status 2 ++ leBytes bulk.length 2 ++ padTo 56 inline
  let hdr := senderHdr m.core (s.chanSecure m.chan) m.kind m.source
  let s1 := if 2 ≤ status && 0xC000 ≤ m.op then
      s.fwRecord m.core 0x20 (leBytes m.op 2 ++ [BitVec.ofNat 8 m.chan, 0] ++ leBytes status 2)
    else s
  let s2 := ((s1.bulkPut m.chan true bulk).mbxPut m.chan true hdr msg).wakePds (s.takerPds m.chan m.kind m.source)
  (if 56 ≤ m.chan then s2.relayNew m.chan else s2).cmdDone m

/-- A reply with P and D: to an LD as its command's payload, P padded to 56 bytes and D behind it (R468). -/
def State.reply (s : State) (m : Cmd) (status : Nat) (p d : List Byte) : State :=
  if m.kind = 1 then s.replyMsg m status [] (padTo 56 p ++ d) else s.replyMsg m status p d

/-- A reply of a standard command: the CXL payload. -/
def State.replyCxl (s : State) (m : Cmd) (status : Nat) (pay : List Byte) : State := s.replyMsg m status [] (pay.take 4096)

/-- A reply with a status alone. -/
def State.say (s : State) (m : Cmd) (status : Nat) : State := s.reply m status [] []

/-- The stage that a channel's request has reached, 0 for one that has not started. -/
def State.stageOf (s : State) (c : Nat) : Nat := match s.cs.stage.find? fun x => x.1 == c with | none => 0 | some x => x.2
/-- Notes a stage. -/
def State.setStage (s : State) (c n : Nat) : State := s.onCs fun k => { k with stage := (c, n) :: k.stage.filter fun x => x.1 != c }

/-- Are all bytes of P outside the given ranges zero? -/
def Cmd.zeros (m : Cmd) (used : List (Nat × Nat)) : Bool :=
  (List.range 56).all fun i => (used.any fun r => decide (r.1 ≤ i ∧ i < r.1 + r.2)) || m.byte i == 0

/-- A Geltia command (R468, R469, R475): the checks that are the same for each. `dIn` are the lengths that D may have in the
request, `dOut` whether the reply has a D, `used` the bytes of P that need not be zero. -/
def State.geltia (s : State) (c op : Nat) (k : Cls) (twin : Bool) (dIn : List Nat) (dOut : Bool) (used : List (Nat × Nat))
    (run : State → Cmd → State) : State :=
  match s.cmdAt c fun o => o == op with
  | none => s
  | some m =>
    if s.recovers c then s.say m 6
    else if s.stageOf c != 0 then run s m
    else if 4096 < m.blen || ((m.kind == 2 || m.kind == 4) && (m.blen != 0 || dOut || !dIn.contains 0)) then s.say m 0xC00E
    else if !m.classOk k twin then s.say m 0xC002
    else if !dIn.contains m.d.length || (m.kind == 1 && decide (m.raw.length < 56)) then s.say m 0x16
    else if !m.zeros used then s.say m 2
    else run s m

/-- The secure world of the core that executes the command. -/
def State.cmdSecure (s : State) (m : Cmd) : Bool := s.agentSecure m.core

/-! ## Background commands (R473) -/

/-- A channel's last background command. -/
def State.bgOf (s : State) (c : Nat) : Option BgCmd := (s.cs.bg.find? fun x => x.1 == c).map fun x => x.2
/-- Stores it. -/
def State.setBg (s : State) (c : Nat) (b : BgCmd) : State := s.onCs fun k => { k with bg := (c, b) :: k.bg.filter fun x => x.1 != c }

/-- Is a DRAM channel or rank, or a flash channel or LUN, as an unfence leaves it, or as a fence does? -/
def State.fenceDone (s : State) (w sub : Nat) (un : Bool) : Bool :=
  match winBlk w with
  | (.drm, c) =>
    if un then s.rd (DRM_STS_STATE c) == 2
    else if sub = noSub then s.rd (DRM_STS_STATE c) == 5 else s.dr.ch[c]?.any fun d => d.fencedRanks.contains sub && d.fencing.isEmpty
  | (.fc, c) =>
    if sub = noSub then (if un then s.rd (FUR_CH_STS_STATE c) == 3 else s.rd (FUR_CH_STS_STATE c) == 4)
    else s.fur.retired.contains (c * 16 + sub) != un
  | _ => true

/-- Has what a background command waits for come about: its final status? -/
def State.bgEnd (s : State) (b : BgCmd) : Option Nat :=
  match b.job with
  | .granary => if !s.grn.building then some 0 else none
  | .pin =>
    if s.on WIN_PIN_CTL_BUSY then none
    else
      let r := s.rd WIN_PIN_CTL_RESULT
      some (if r = 0 then 0 else if r = 1 then 0xC00A else if r = 2 then 0xC001 else 0xC00B)
  | .fence w sub un => if s.fenceDone w sub un then some 0 else none
  | .train _ _ => none
  | .sanitise _ => none
  | .erase => none

/-- A background command whose end has come takes its final status. -/
def State.bgSettle (s : State) (c : Nat) : State :=
  match s.bgOf c with
  | none => s
  | some b =>
    if b.done then s
    else match s.bgEnd b with
      | none => s
      | some f => (s.setBg c { b with done := true, final := f, til := s.now }).bgTell b.ld

/-- Does a background command run on the channel? -/
def State.bgRuns (s : State) (c : Nat) : Bool := (s.bgOf c).any fun b => !b.done && (s.bgEnd b).isNone

/-- The index of the LD that sent a request, if one did. -/
def Cmd.ld (m : Cmd) : Option Nat := if m.kind = 1 then some m.source else none

/-- A background command has been validated: BG_STARTED, and it runs. -/
def State.bgStart (s : State) (m : Cmd) (j : BgJob) : State :=
  (s.setBg m.chan { op := m.op, job := j, since := s.now, ld := m.ld }).say m 1

/-- A background command ends with a final status. -/
def State.bgFinish (s : State) (c final : Nat) : State :=
  match s.bgOf c with
  | none => s
  | some b => (s.setBg c { b with done := true, final := final, til := s.now }).bgTell b.ld

/-! ## Resources and worlds (R469) -/

/-- Is the region one of the requester's world: valid or releasing, and of that world? -/
def State.rgnSeen (s : State) (m : Cmd) (r : Nat) : Bool := (s.rgnValid r || s.rgnReleasing r) && s.rgnSecure r == m.world
/-- Is it hidden: live, and of the other world? -/
def State.rgnHidden (s : State) (m : Cmd) (r : Nat) : Bool := (s.rgnValid r || s.rgnReleasing r) && s.rgnSecure r != m.world
/-- Is the LD index of the requester's world? -/
def State.ldSeen (s : State) (m : Cmd) (n : Nat) : Bool := s.on (TIN_LDB_WORLD n) == m.world
/-- Is the connection group of the requester's world? -/
def State.cgSeen (s : State) (m : Cmd) (g : Nat) : Bool := s.cgSecure g == m.world
/-- Is the region key slot of the requester's world? -/
def State.slotSeen (s : State) (m : Cmd) (k : Nat) : Bool := s.slotSecure k == m.world
/-- Is the connection of the requester's world? -/
def State.connSeen (s : State) (m : Cmd) (n : Nat) : Bool := (s.connAt n).state != 0 && s.cgSecure (s.connAt n).group == m.world

/-- May a requester query a region (R487)? -/
def State.mayQuery (s : State) (m : Cmd) (r : Nat) : Bool :=
  m.isA || m.kind == 4 || (m.kind == 1 && (s.rd (TIN_RGN_LDRD_MASK r)).testBit m.source) ||
    (m.kind == 2 && (s.rd (TIN_RGN_CGRD_MASK r)).testBit (s.connAt m.source).group)

end Sys2Proof.Machine
end

