-- ==== Sys2Proof/Machine/CmdRegion.lean ====
section
/-!
DEFINITION. Machine/CmdRegion.lean: the commands of identify, health and access (R477 to R481), of regions and binding (R482 to R489), of
durability and placement (R490 to R492).
-/
namespace Sys2Proof.Machine
open Sys2Proof

/-! ## Identify, health and access -/

/-- The running image's version bytes and build number (R540). -/
def State.fwVersion (s : State) : List Byte := match s.efl.running with | none => [0, 0, 0] | some b => s.eflBytes b 6 3
/-- Build number of the running image. -/
def State.fwBuild (s : State) : Nat := match s.efl.running with | none => 0 | some b => s.eflNum b 0x00C 4
/-- The part number, in ASCII (R477). -/
def partNumber : List Byte := [0x43, 0x4E, 0x2D, 0x36, 0x34, 0x30, 0x30, 0x42]
/-- The populated channels with DIMMs. -/
def State.dramChans (s : State) : List Nat := s.popChans.filter fun c => s.rd (DRM_CFG_DPC c) != 0

/-- IDENTIFY (R477). -/
def execIdentify (c : Fin 64) (s : State) : Res :=
  .next (s.geltia c 0xC000 .q true [0] false [] fun t m =>
    t.reply m 0 (padTo 16 partNumber ++ t.fwVersion ++ [BitVec.ofNat 8 (t.rd EFL_BOOT_BANK_RUN)] ++ t.serialBytes ++
      leBytes (t.rd TIN_DPA_LIMIT_CAP_GIB) 4 ++ leBytes (t.totalFrames / 262144) 4 ++
      [BitVec.ofNat 8 t.dramChans.length, BitVec.ofNat 8 (t.rd (DRM_CFG_DPC (t.dramChans.headD 0))), BitVec.ofNat 8 t.chansUp.length,
        if m.kind = 1 then BitVec.ofNat 8 m.source else 0xFF] ++ leBytes t.fwBuild 4 ++
      [(if t.locked then 1 else 0) + (if t.hv.world.isSome then 2 else 0), 0, 0, 0]) [])

/-- POISONED tier pages. -/
def State.poisonedPages (s : State) : Nat := (s.win.tier.filter fun e => e.2.state == .poisoned).length

/-- The fault summary of HEALTH (R478). -/
def State.healthBits (s : State) : Nat :=
  let b := fun (i : Nat) (p : Bool) => if p then 2 ^ i else 0
  b 0 (s.cs.popCause != 0) + b 1 (s.cs.nandCause != 0) + b 2 ((List.range 4).all fun i => s.otpWord (4 + i) == 0) + b 3 (!s.on HRV_STS_ARMED) +
    b 4 (s.on CPH_STS_ALARM_ACTIVE) + b 5 (s.on FUR_STS_SHORT) + b 6 (s.on FUR_STS_WEAR_OVER) + b 7 (s.rd YOK_STS_TWIN == 3) +
    b 8 (s.bitOf (FLT_LIVE_PRESENT wHRV) 4) + b 9 ((List.range 100).any fun w => s.on (UNIT_DEGRADED w)) +
    b 10 ((List.range 100).any fun w => s.on (UNIT_FENCED w)) + b 11 (s.poisonedPages != 0) + b 12 (s.rd PWR_CAP_CAP_W != 0)

/-- Life used, per mille (R478). -/
def State.lifeUsed (s : State) : Nat := s.rd FUR_WEAR_MEAN_PE * 1000 / max 1 (s.rd FUR_ENDUR_NATIVE_PE)

/-- HEALTH (R478). `temp` is the highest junction temperature in the last second. -/
def execHealth (c : Fin 64) (temp : BitVec 16) (s : State) : Res :=
  .next (s.geltia c 0xC001 .q false [0] false [] fun t m =>
    t.reply m 0 (leBytes t.healthBits 4 ++ [BitVec.ofNat 8 (if t.cs.popCause != 0 then t.cs.popCause else t.cs.nandCause), 0, 0, 0] ++
      leBytes t.poisonedPages 4 ++ leBytes ((t.now - t.hv.declared) / 3600000000000) 4 ++ leBytes temp.toNat 2 ++
      leBytes (t.rd PWR_VLOOP_STS_POWER_W * 10) 2 ++ leBytes t.lifeUsed 4 ++ leBytes t.hv.dirtyShut 4) [])

/-- Per cent complete of a background command. -/
def State.bgPct (s : State) (b : BgCmd) : Nat :=
  if b.done then 100
  else match b.job, s.cs.fw with
    | .erase, some f => f.sector * 100 / 192
    | _, _ => 0

/-- State of a background command: 0 none, 1 running, 2 done. -/
def bgState (b : BgCmd) : Nat := if b.done then 2 else 1

/-- BG_STATUS (R479). -/
def execBgStatus (c : Fin 64) (s : State) : Res :=
  .next ((s.bgSettle c).geltia c 0xC002 .q false [0] false [] fun t m =>
    match t.bgOf c with
    | none => t.reply m 0 [] []
    | some b =>
      let ms := ((if b.done then b.til else t.now) - b.since) / 1000000
      t.reply m 0 (leBytes b.op 2 ++ [BitVec.ofNat 8 (bgState b), BitVec.ofNat 8 (t.bgPct b)] ++ leBytes (if b.done then b.final else 0) 2 ++ [0, 0] ++
        leBytes ms 4) [])

/-- ACCESS_SET (R480). -/
def execAccessSet (c : Fin 64) (s : State) : Res :=
  .next (s.geltia c 0xC003 .b false [0] false [(0, 4)] fun t m => (t.onCs fun k => { k with admin := m.num 0 4 }).say m 0)

/-- The world registers that a WORLD_CONFIG sets, as register and value (R443, R481): the LD indices, the groups, the mailboxes, the key
slots, the cores H0 and H3 secure. -/
def State.worldOf (s : State) (m : Cmd) : SMap Word64 :=
  let put := fun (w : SMap Word64) (a : Nat) (lo n v : Nat) =>
    mset csrDefault w a (BitVec.ofNat 64 (putBits (mget csrDefault w a).toNat lo n v))
  let lds := (List.range 64).foldl (fun (w : SMap Word64) n => put w (TIN_LDB n) 16 1 (getBits (m.num 0 8) n 1)) s.csr
  let cgs := (List.range 64).foldl (fun (w : SMap Word64) g => put w (TIN_CGB g) 16 1 (getBits (m.num 8 8) g 1)) lds
  let all := put (put (put (put (put cgs TIN_WORLD_MBX 0 32 (m.num 16 4)) TIN_WORLD_MBX 48 16 (m.num 20 2)) TIN_WORLD_KEYS 0 9 (m.num 22 2)) TIN_WORLD_HDL 1 3 4)
    TIN_WORLD_HDL 0 1 1
  all.filter fun e => ([TIN_WORLD_MBX, TIN_WORLD_KEYS, TIN_WORLD_HDL].contains e.1) || decide (TIN_LDB 0 ≤ e.1 ∧ e.1 < TIN_CGB 64)

/-- The registers of R55 that hold the world of every resource but regions. -/
def worldRegs : List Nat := (List.range 64).map TIN_LDB ++ (List.range 64).map TIN_CGB ++ [TIN_WORLD_MBX, TIN_WORLD_KEYS, TIN_WORLD_HDL]

/-- Is a region valid or releasing? -/
def State.anyRegion (s : State) : Bool := (List.range 256).any fun r => s.rgnValid r || s.rgnReleasing r

/-- Is this WORLD_CONFIG in force already: the journalled worlds and the lock are those of the request (R471)? -/
def State.worldInForce (s : State) (m : Cmd) : Bool :=
  match s.hv.world with
  | none => false
  | some w =>
    (worldRegs.all fun k =>
      let a := (mget csrDefault w k).toNat
      let b := (mget csrDefault (s.worldOf m) k).toNat
      if k < TIN_CGB 64 && TIN_LDB 0 ≤ k then getBits a 16 1 == getBits b 16 1 else a == b) && s.locked == decide (m.byte 24 = 1)

/-- WORLD_CONFIG (R471, R481). -/
def execWorldConfig (c : Fin 64) (s : State) : Res :=
  .next (s.geltia c 0xC004 .b false [0] false [(0, 25)] fun t m =>
    if 256 < m.num 22 2 || 1 < m.byte 24 then t.say m 2
    else
      let w := t.worldOf m
      if t.hv.world.isNone && !t.locked then
        let u := worldRegs.foldl (fun (u : State) k => u.wrW k (mget csrDefault w k)) (t.onHv fun h => { h with world := some w })
        ((if m.byte 24 = 1 then u.wr TIN_WORLD_LOCK_LOCK 1 else u)).say m 0
      else if t.hv.world.isSome && !t.anyRegion then (t.onHv fun h => { h with world := some w }).say m 0
      else if t.worldInForce m then t.say m 0
      else t.say m 0xC004)

/-! ## Regions and binding -/

/-- Every tier-map entry becomes UNWRITTEN and every Furrow-map entry UNMAPPED (R482). -/
def State.mapsClear (s : State) : State :=
  let s1 := s.onWin fun w => { w with tier := [], frames := w.frames.filter (fun e => e.2 == .retired || e.2 == .quarantined), poisonT := [], moves := [], poisoning := [],
                                      dirtyAge := [], unswept := [], ring := [], curs := [], retire := [] }
  (s1.onFur fun u => { u with map := [] }).recount

/-- Is this capacity in force already (R471): the limit that stands, with the Granary laid out for it and enabled? -/
def State.capInForce (s : State) (cap : Nat) : Bool := s.on GRN_CTL_ENABLE && s.rd TIN_DPA_LIMIT_CAP_GIB == cap

/-- CAPACITY_SET (R27, R255, R471, R482). -/
def execCapacitySet (c : Fin 64) (s : State) : Res :=
  .next (s.geltia c 0xC100 .a false [0] false [(0, 4)] fun t m =>
    let cap := m.num 0 4
    if t.bgRuns c then t.say m 6
    else if cap = 0 || 65536 < cap then t.say m 2
    else if t.capInForce cap then t.say m 0
    else if t.anyRegion || (t.dl.conns.any fun x => x.2.state != 0) || !t.grn.held.isEmpty then t.say m 0xC004
    else if t.totalFrames < 2 * (reserveGib cap * 262144 + t.grnCount) || (t.fur.formatted && !t.capFits cap) then t.say m 0xC007
    else ((((t.writeGrnEnable false).writeDpaLimit m.core cap).mapsClear).writeGrnEnable true).bgStart m .granary)

/-- The status that a result of TIN_RGN_STATUS maps to (R73, R483). -/
def rgnStatus (r : Nat) : Nat :=
  match r with
  | 0 => 0 | 1 => 0xC005 | 2 => 0xC006 | 3 => 0xC003 | 4 => 0xC008 | 5 => 0xC009 | 6 => 0xC00A | 7 => 0xC00B | 8 => 0xC001 | 0xA => 2 | 0xB => 0xC001
  | 0xC => 0xC00C | _ => 4

/-- Commits what stands in staging; the reply follows when BUSY has cleared, from stage n on. -/
def State.commitCmd (s : State) (m : Cmd) (r n : Nat) : State :=
  match s.commitResult (s.cmdSecure m) r with
  | 0 => (s.rgnCommit r).setStage m.chan n
  | e => (s.rgnResult r e).say m (rgnStatus e)

/-- Puts four owner masks of P into staging. -/
def State.stageMasks (s : State) (rd wr crd cwr : Nat) : State :=
  (((s.wr TIN_STG_LDRD_MASK rd).wr TIN_STG_LDWR_MASK wr).wr TIN_STG_CGRD_MASK crd).wr TIN_STG_CGWR_MASK cwr

/-- Are these the region's masks? -/
def State.masksAre (s : State) (r rd wr crd cwr : Nat) : Bool :=
  s.rd (TIN_RGN_LDRD_MASK r) == rd && s.rd (TIN_RGN_LDWR_MASK r) == wr && s.rd (TIN_RGN_CGRD_MASK r) == crd && s.rd (TIN_RGN_CGWR_MASK r) == cwr

/-- Runs a command that commits to the region table: it waits while an operation runs, and a request that has committed is answered
once BUSY is 0 (R483). -/
def State.rgnCmd (s : State) (m : Cmd) (run : State → State) : State :=
  if s.on TIN_RGN_STATUS_BUSY then s else if s.stageOf m.chan != 0 then s.say m 0 else run s

/-- What a REGION_CREATE puts into staging (R483): class LOCAL. -/
def State.createStage (s : State) (m : Cmd) : State :=
  let u := ((((((s.wr TIN_STG_EXT_BASE_GIB (m.num 8 4)).wr TIN_STG_EXT_SIZE_M1 (m.num 12 4 - 1)).wr TIN_STG_ATTR_TENANT (m.byte 4)).wr
    TIN_STG_ATTR_KEY_SLOT (m.byte 2)).wr TIN_STG_ATTR_PLACE (m.byte 3)).wr TIN_STG_ATTR_CLASS 0).wr TIN_STG_ATTR_WORLD (m.byte 1)
  u.stageMasks (m.num 16 8) (m.num 24 8) (m.num 32 8) (m.num 40 8)

/-- REGION_CREATE (R483). -/
def execRegionCreate (c : Fin 64) (s : State) : Res :=
  .next (s.geltia c 0xC101 .a false [0] false [(0, 5), (8, 40)] fun t0 m => t0.rgnCmd m fun t =>
    let r := m.byte 0
    let w := m.byte 1
    let slot := m.byte 2
    let base := m.num 8 4
    let size := m.num 12 4
    if 1 < w || 1 < m.byte 3 || size = 0 || 65536 < size then t.say m 2
    else if t.rgnHidden m r || (w == 1) != m.world then t.say m 0xC001
    else if t.rgnValid r then
      if t.rgnBase r == base && t.rgnSize r == size && t.rd (TIN_RGN_ATTR_KEY_SLOT r) == slot && t.rd (TIN_RGN_ATTR_PLACE r) == m.byte 3 &&
          t.rd (TIN_RGN_ATTR_TENANT r) == m.byte 4 && t.masksAre r (m.num 16 8) (m.num 24 8) (m.num 32 8) (m.num 40 8) then t.say m 0
      else t.say m 0xC003
    else if 65536 ≤ base then t.say m 0xC006
    else
      (t.createStage m).commitCmd m r 1)

/-- REGION_RIGHTS (R484): from the twin only as step 4 of a handover of the region. -/
def execRegionRights (c : Fin 64) (s : State) : Res :=
  .next (s.geltia c 0xC102 .a true [0] false [(0, 1), (8, 32)] fun t0 m => t0.rgnCmd m fun t =>
    let r := m.byte 0
    if m.kind == 4 && !t.cs.handed.contains r then t.say m 0xC002
    else if !t.rgnSeen m r || !t.rgnValid r then t.say m 0xC001
    else
      let u := t.onCs fun k => { k with handed := k.handed.filter fun x => x != r }
      if u.masksAre r (m.num 8 8) (m.num 16 8) (m.num 24 8) (m.num 32 8) then u.say m 0
      else ((u.rgnLoad r).stageMasks (m.num 8 8) (m.num 16 8) (m.num 24 8) (m.num 32 8)).commitCmd m r 1)

/-- REGION_ATTR (R485). -/
def execRegionAttr (c : Fin 64) (s : State) : Res :=
  .next (s.geltia c 0xC103 .a false [0] false [(0, 4)] fun t0 m => t0.rgnCmd m fun t =>
    let r := m.byte 0
    let f := m.byte 3
    if 1 < m.byte 1 || 3 < f then t.say m 2
    else if !t.rgnSeen m r || !t.rgnValid r then t.say m 0xC001
    else
      let place := if f.testBit 0 then m.byte 1 else t.rd (TIN_RGN_ATTR_PLACE r)
      let tenant := if f.testBit 1 then m.byte 2 else t.rd (TIN_RGN_ATTR_TENANT r)
      if place == t.rd (TIN_RGN_ATTR_PLACE r) && tenant == t.rd (TIN_RGN_ATTR_TENANT r) then t.say m 0
      else (((t.rgnLoad r).wr TIN_STG_ATTR_PLACE place).wr TIN_STG_ATTR_TENANT tenant).commitCmd m r 1)

/-- REGION_DESTROY (R486). -/
def execRegionDestroy (c : Fin 64) (s : State) : Res :=
  .next (s.geltia c 0xC104 .a false [0] false [(0, 1)] fun t0 m => t0.rgnCmd m fun t =>
    let r := m.byte 0
    if !t.rgnSeen m r then t.say m 0xC001
    else if !t.rgnValid r then t.say m 0
    else if t.rd (YOK_RGN_STATE r) != 0 then t.say m 0xC004
    else match t.destroyResult (t.cmdSecure m) r with
      | 0 => (t.rgnDestroy r).setStage m.chan 1
      | e => t.say m (rgnStatus e))

/-- The reply of REGION_INFO (R487). -/
def State.rgnInfo (s : State) (r : Nat) : List Byte :=
  let b := fun (i : Nat) (p : Bool) => if p then 2 ^ i else 0
  [BitVec.ofNat 8 r, BitVec.ofNat 8 (b 0 (s.rgnValid r) + b 1 (s.rgnReleasing r) + b 2 (s.rgnSecure r) + b 3 (s.rgnPinned r) + b 4 (s.on (WIN_RGN_POL_LOADING r))),
    BitVec.ofNat 8 (s.rgnClass r), BitVec.ofNat 8 (s.rd (TIN_RGN_ATTR_KEY_SLOT r)), BitVec.ofNat 8 (s.rd (TIN_RGN_ATTR_TENANT r)),
    BitVec.ofNat 8 (s.rd (YOK_RGN_STATE r)), BitVec.ofNat 8 (s.rd (YOK_RGN_ROLE r)), 0] ++ leBytes (s.rgnBase r) 4 ++ leBytes (s.rgnSize r) 4 ++
    leBytes (min 0xFFFFFFFF (s.rd (WIN_RGN_RES_RESIDENT r))) 4 ++ leBytes (min 0xFFFFFFFF (s.rd (WIN_RGN_RES_PINNED r))) 4 ++
    leBytes (s.rd (TIN_RGN_LDRD_MASK r)) 8 ++ leBytes (s.rd (TIN_RGN_LDWR_MASK r)) 8 ++ leBytes (s.rd (TIN_RGN_CGRD_MASK r)) 8 ++
    leBytes (s.rd (TIN_RGN_CGWR_MASK r)) 8

/-- REGION_INFO (R487). -/
def execRegionInfo (c : Fin 64) (s : State) : Res :=
  .next (s.geltia c 0xC105 .q true [0] false [(0, 1)] fun t m =>
    let r := m.byte 0
    if !t.rgnSeen m r || !t.mayQuery m r then t.say m 0xC001 else t.reply m 0 (t.rgnInfo r) [])

/-- LD_BIND (R488). -/
def execLdBind (c : Fin 64) (s : State) : Res :=
  .next (s.geltia c 0xC106 .a false [0] false [(0, 5)] fun t m =>
    let n := m.byte 0
    let link := m.byte 1
    let ld := m.byte 2
    let ch := m.byte 3
    let v := m.byte 4
    if 63 < n || 15 < link || 15 < ld || (31 < ch && ch != 0xFF) || 1 < v then t.say m 2
    else if !t.ldSeen m n then t.say m 0xC001
    else if v == 1 && ((List.range 64).any fun x => x != n && t.on (TIN_LDB_VALID x) && t.rd (TIN_LDB_LINK x) == link && t.rd (TIN_LDB_LD x) == ld) then
      t.say m 0xC003
    else if ch != 0xFF && t.chanSecure ch != t.on (TIN_LDB_WORLD n) then t.say m 0xC01A
    else
      let u := ((t.wr (TIN_LDB_VALID n) v).wr (TIN_LDB_LINK n) link).wr (TIN_LDB_LD n) ld
      (if ch = 0xFF then u.wr (HPT_LDMBX_VALID n) 0 else (u.wr (HPT_LDMBX_VALID n) 1).wr (HPT_LDMBX_CHANNEL n) ch).say m 0)

/-- CG_SET (R413, R489). -/
def execCgSet (c : Fin 64) (s : State) : Res :=
  .next (s.geltia c 0xC107 .a false [0] false [(0, 3), (4, 4)] fun t m =>
    let g := m.byte 0
    let o := m.byte 2
    let mn := m.num 4 4
    let others := ((List.range 64).map fun x => if x == o then 0 else t.rd (GRN_OWN_MIN x)).sum
    if 63 < g || 1 < m.byte 1 || 63 < o then t.say m 2
    else if !t.cgSeen m g then t.say m 0xC001
    else if m.byte 1 == 0 && (t.dl.conns.any fun x => x.2.state != 0 && x.2.group == g) then t.say m 0xC003
    else if mn != 0xFFFFFFFF && decide (t.grnCount < others + mn) then t.say m 0xC00D
    else
      let u := (t.wr (TIN_CGB_VALID g) (m.byte 1)).wr (GRN_GMAP_OWNER g) o
      (if mn = 0xFFFFFFFF then u else u.writeGrnMin m.core o mn).say m 0)

/-! ## Durability and placement -/

/-- A step is relayed to the twin on MB56 (R490): the same opcode and the P given, under a TAG of Headland's own. -/
def State.relayStep (s : State) (m : Cmd) (p : List Byte) (stage : Nat) : State :=
  let tag := (s.cs.tag + 1) % 65536
  let core := s.rd (MBX_CH_CTL_CORE 56)
  let msg := leBytes m.op 2 ++ leBytes tag 2 ++ leBytes 0 4 ++ padTo 56 p
  let s1 := s.onCs fun k => { k with tag := tag, relay := some (m.chan, m.op, tag) }
  ((s1.mbxPut 56 true (senderHdr (coreAgent core) (s.chanSecure 56) 4 core) msg).relayNew 56).setStage m.chan stage

/-- The twin's answer to the relayed step of a channel's request: its status, and the state with the reply read. -/
def State.relayTake (s : State) (c : Nat) : Option (State × Nat) :=
  match s.cs.relay with
  | none => none
  | some (ch, _, _) =>
    if ch == c && s.mbxFull 56 false && s.isReply 56 then
      some (((s.onCs fun k => { k with relay := none }).mbxEmpty 56 false), getBits (s.rd (MBX_IN_MSG 56 0)) 32 16)
    else none

/-- The fields of a DURABILITY_SET that YOK_RGN_n holds. -/
def State.durFields (s : State) (m : Cmd) (r : Nat) : State :=
  ((s.wr (YOK_RGN_ON_LOSS r) (m.byte 3)).wr (YOK_RGN_LIM_US r) (m.num 4 4)).wr (YOK_RGN_LIM_KIB r) (m.num 8 4)

/-- Commits a region's class; `noWrite` clears its write masks. -/
def State.durCommit (s : State) (m : Cmd) (r cls : Nat) (noWrite : Bool) (stage : Nat) : State :=
  let t := (s.rgnLoad r).wr TIN_STG_ATTR_CLASS cls
  (if noWrite then (t.wr TIN_STG_LDWR_MASK 0).wr TIN_STG_CGWR_MASK 0 else t).commitCmd m r stage

/-- The region leaves Yoke (R322): NONE, its change map cleared. -/
def State.durNone (s : State) (r : Nat) : State :=
  let t := (s.rgnMarks r).foldl (fun (u : State) g => u.mark g false) s
  (t.setYok r 0).onYk fun y => { y with rsvQ := y.rsvQ.filter (fun x => x != r), owesRsv := y.owesRsv.filter fun x => x != r }

/-- A ROLE entry of a region enters the data stream. -/
def State.roleSend (s : State) (r action role : Nat) : State :=
  let e := YokeEntry.role (Fin.ofNat 256 r) (Fin.ofNat 3 action) (Fin.ofNat 4 (s.rgnClass r)) (Fin.ofNat 2 role) (BitVec.ofNat 24 (s.rd (YOK_RGN_EPOCH r))) (s.rgnSize r)
  s.yokeQueue (s.pairOf (s.rgnBase r * 0x1000000)) ⟨e, r, none, 2, s.now⟩

/-- Yoke takes the role ACTIVE with epoch + 1 and sends ROLE ATTACH; the region is RESILVERING (R322, R490). -/
def State.durAttach (s : State) (r : Nat) : State :=
  let t := ((s.wr (YOK_RGN_ROLE r) 0).wr (YOK_RGN_EPOCH r) (s.rd (YOK_RGN_EPOCH r) + 1)).setYok r 1
  ((t.roleSend r 1 0).onYk fun y => { y with rsvQ := (y.rsvQ.filter fun x => x != r) ++ [r] }).rsvKick

/-- The relayed step failed or its time is over (R490, R500). `st`: the twin's status, none where no reply came. -/
def State.relayFailed (s : State) (m : Cmd) (st : Option Nat) : State :=
  let t := s.onCs fun k => { k with relay := none }
  let stage := s.stageOf m.chan
  if stage = 3 then t.reply m 0 [1] []                       -- LOCAL stands; the twin does not know
  else match st with
    | some e => t.reply m 0xC011 (leBytes e 2) []
    | none => t.reply m 0xC010 (if stage = 1 then [2] else if stage = 5 then [1] else []) []

/-- The P that is relayed: the request's, with role MIRROR. -/
def Cmd.asMirror (m : Cmd) : List Byte := m.p.take 2 ++ [1] ++ m.p.drop 3

/-- The steps of a DURABILITY_SET on the side that holds the region ACTIVE (R490). Stages: 1 and 6 wait for the twin (from LOCAL, and
between the two classes), 2 for the last drain, 4 for the drain before the relay to LOCAL, 3 for the twin after it. -/
def State.durLocal (s : State) (m : Cmd) : State :=
  let r := m.byte 0
  let cls := m.byte 1
  let stage := s.stageOf m.chan
  if stage = 0 then
    if !s.rgnSeen m r || !s.rgnValid r then s.say m 0xC001
    else if s.rd (YOK_RGN_STATE r) != 0 && s.rd (YOK_RGN_ROLE r) == 1 then s.say m 0xC004
    else if cls = s.rgnClass r && (cls = 0 || s.rd (YOK_RGN_STATE r) != 0) then (s.durFields m r).say m 0
    else if s.on TIN_RGN_STATUS_BUSY then s
    else if cls = 0 then
      let u := s.durCommit m r 0 false 4
      if u.stageOf m.chan = 4 then u.durNone r else u
    else if !s.on YOK_CTL_ENABLE then s.say m 0xC00F
    else if !s.twinUp then s.say m 0xC010
    else if s.mbxFull 56 true then s
    else s.relayStep m m.asMirror (if s.rd (YOK_RGN_STATE r) = 0 then 1 else 6)
  else if stage = 1 ∨ stage = 6 then
    match s.relayTake m.chan with
    | none => if s.twinUp then s else s.relayFailed m none
    | some (t, 0) =>
      if t.on TIN_RGN_STATUS_BUSY then s
      else
        let u := (t.durFields m r).durCommit m r cls false 2
        if stage = 1 && u.stageOf m.chan = 2 then u.durAttach r else u
    | some (t, e) => t.relayFailed m (some e)
  else if stage = 4 then
    if s.on TIN_RGN_STATUS_BUSY || s.mbxFull 56 true then s
    else if !s.twinUp then s.reply m 0 [1] []
    else s.relayStep m m.asMirror 3
  else if stage = 3 then
    match s.relayTake m.chan with
    | none => if s.twinUp then s else s.relayFailed m none
    | some (t, e) => if e = 0 then t.say m 0 else t.reply m 0 [1] []
  else if s.on TIN_RGN_STATUS_BUSY then s else s.say m 0

/-- Step 2 of a DURABILITY_SET, at the twin that receives it (R317, R471, R490). -/
def State.durTwin (s : State) (m : Cmd) : State :=
  let r := m.byte 0
  let cls := m.byte 1
  s.rgnCmd m fun t =>
    if !t.rgnSeen m r || !t.rgnValid r then t.say m 0xC001
    else if cls = t.rgnClass r then (t.durFields m r).say m 0
    else if cls = 0 then
      let u := t.durCommit m r 0 false 1
      if u.stageOf m.chan = 1 then u.durNone r else u
    else if t.rgnClass r = 0 then
      if t.rd (YOK_RGN_STATE r) != 0 then t.say m 0xC004 else (t.durFields m r).durCommit m r cls true 1
    else (t.durFields m r).durCommit m r cls false 1

/-- DURABILITY_SET (R322, R490). -/
def execDurabilitySet (c : Fin 64) (s : State) : Res :=
  .next (s.geltia c 0xC200 .a true [0] false [(0, 12)] fun t m =>
    if 2 < m.byte 1 || m.byte 2 != (if m.kind = 4 then 1 else 0) || 1 < m.byte 3 || 1023 < m.num 4 4 || 131071 < m.num 8 4 then t.say m 2
    else if m.kind = 4 then t.durTwin m else t.durLocal m)

/-- RELAY_REPLY_TIMEOUT (R490): 10 ms have passed without the twin's reply to a relayed step. -/
def execRelayReplyTimeout (s : State) : Res :=
  .next (match s.cs.relay with
    | none => s
    | some (c, _, _) =>
      if s.isReply 56 && s.mbxFull 56 false then s
      else match s.cmdAt c fun _ => true with
        | none => s
        | some m => s.relayFailed m none)

/-- PLACEMENT_SET (R224, R226, R491). -/
def execPlacementSet (c : Fin 64) (s : State) : Res :=
  .next (s.geltia c 0xC201 .a false [0] false [(0, 2), (4, 8)] fun t m =>
    let r := m.byte 0
    let b := m.byte 1
    let fl := m.num 4 4
    let ce := m.num 8 4
    if !(b ≤ 7 || 248 ≤ b) || 131071 < fl || 131071 < ce then t.say m 2
    else if !t.rgnSeen m r || !t.rgnValid r then t.say m 0xC001
    else
      let v := fl + ce * 2 ^ 17 + b % 16 * 2 ^ 34
      if t.polBad r v then t.say m 0xC00D else (t.writePol m.core r v).say m 0)

/-- PIN (R225, R492). -/
def execPinCommand (c : Fin 64) (s : State) : Res :=
  .next (s.geltia c 0xC202 .a false [0] false [(0, 1), (8, 16)] fun t m =>
    let op := m.byte 0
    let base := m.num 8 8
    let n := m.num 16 8
    if t.bgRuns c then t.say m 6
    else if op = 0 || 2 < op || 2 ^ 34 ≤ base || n = 0 || 2 ^ 34 < n then t.say m 2
    else if t.on WIN_PIN_CTL_BUSY then t
    else if !(match t.rgnOfPage base with | none => true | some r => t.rgnSecure r == m.world) then t.say m 0xC001
    else
      let u := ((t.wr WIN_PIN_BASE_PAGE base).wr WIN_PIN_LEN_PAGES n).writePin m.core op
      if u.on WIN_PIN_CTL_BUSY then u.bgStart m .pin
      else u.say m (match u.rd WIN_PIN_CTL_RESULT with | 1 => 0xC00A | 2 => 0xC001 | 4 => 0xC00B | _ => 0))

end Sys2Proof.Machine
end

