-- ==== Sys2Proof/Machine/CmdKeys.lean ====
section
/-!
DEFINITION. Machine/CmdKeys.lean: the commands of keys and sessions (R493 to R498) and SANITISE (R522).
-/
namespace Sys2Proof.Machine
open Sys2Proof

/-- The session slots of a world (R493). -/
def sessionSlots (world : Bool) : List Nat := if world then [0, 1, 2, 3, 4, 5] else [8, 9, 10, 11, 12, 13]
/-- The open sessions of a world. -/
def State.sessions (s : State) (world : Bool) : List Nat := (sessionSlots world).filter fun n => s.slotLoaded 3 n
/-- The KCV of an open session's key. -/
def State.sessionKcv (s : State) (n : Nat) : BitVec 32 := kcv (mget key0 s.cph.fkey n)

/-- A core puts a key into its staging registers and runs LOAD (R427, R428); its staging registers are zero afterwards. -/
def State.cmdLoad (s : State) (a : Agent) (cls idx : Nat) (k : Key) : State :=
  ((List.range 16).foldl (fun (t : State) i => t.wr ((CPH_KLD_KEY i).bank a) (getBits k.toNat (32 * i) 32)) s).slotCmd a 1 cls idx

/-- RESULT of a core's last slot command. -/
def State.slotRes (s : State) (a : Agent) : Nat := s.rd (CPH_SLOT_STS_RESULT.bank a)

/-- The status of a slot command's result (R441, R496). -/
def keyStatus (r : Nat) : Nat :=
  match r with
  | 0 => 0 | 1 => 0xC003 | 2 => 0xC012 | 3 => 0xC013 | 4 => 0xC001 | 6 => 0xC014 | _ => 2

/-- The additional data of a wrapped key: OPCODE and P bytes 0 to 7 (R494). -/
def Cmd.aad (m : Cmd) : List Byte := leBytes m.op 2 ++ m.p.take 8

/-- What unwrapping a request's key gives: the status of a refusal, or the key's bytes (R494 to R496). D holds a 12-byte IV, `n` bytes of
ciphertext and a 16-byte tag; `ses` is the wrapping session. -/
def State.unwrap (s : State) (m : Cmd) (ses n : Nat) : Nat × List Byte :=
  let iv := m.dat 0 12
  let ct := (m.d.drop 12).take n
  let k : BitVec 256 := (mget key0 s.cph.fkey ses).setWidth 256
  if !(s.sessions m.world).contains ses then (0xC015, [])
  else if iv ≤ mget (fun _ => 0) s.cs.ivs ses && s.cs.ivs.any fun x => x.1 == ses then (0xC017, [])
  else if !s.on CPH_STS_FW_UP || s.cph.fwBad then (4, [])
  else if gcmTag k (BitVec.ofNat 96 iv) m.aad ct != BitVec.ofNat 128 (m.dat (12 + n) 16) then (0xC016, [])
  else (0, gcm k (BitVec.ofNat 96 iv) ct)

/-- The IV of a wrapped request is the highest that the session has accepted (R495). -/
def State.takeIv (s : State) (m : Cmd) (ses : Nat) : State :=
  s.onCs fun k => { k with ivs := (ses, m.dat 0 12) :: k.ivs.filter fun x => x.1 != ses }

/-- A session opens under a key (R494): an open session with this KCV, or the lowest free slot. -/
def State.sessionWith (s : State) (m : Cmd) (key : Key) : State :=
  let re := fun (t : State) (n : Nat) => t.reply m 0 (padTo 4 [BitVec.ofNat 8 n] ++ leBytes (kcv key).toNat 4) []
  match (s.sessions m.world).find? fun n => s.sessionKcv n == kcv key with
  | some n => re s n
  | none =>
    match (sessionSlots m.world).find? fun n => !s.slotLoaded 3 n with
    | none => s.say m 0xC003
    | some n =>
      let t := s.cmdLoad m.core 3 n key
      if t.slotRes m.core = 0 then re (t.onCs fun k => { k with ivs := k.ivs.filter fun x => x.1 != n }) n else t.say m (keyStatus (t.slotRes m.core))

/-- SESSION_OPEN (R493, R494). -/
def execSessionOpen (c : Fin 64) (s : State) : Res :=
  .next (s.geltia c 0xC300 .a false [32, 60] false [(0, 8)] fun t m =>
    let wrapped := m.byte 0 = 1
    if m.d.length != (if wrapped then 60 else 32) && m.byte 0 ≤ 1 then t.say m 0x16
    else if 1 < m.byte 0 || m.num 2 6 != 0 || (!wrapped && m.byte 1 != 0) then t.say m 2
    else if wrapped then
      match t.unwrap m (m.byte 1) 32 with
      | (0, k) => (t.takeIv m (m.byte 1)).sessionWith m (BitVec.ofNat 512 (ofBytes k))
      | (e, _) => t.say m e
    else
      let key : Key := BitVec.ofNat 512 (ofBytes m.d)
      if (t.sessions m.world).isEmpty || (t.sessions m.world).any (fun n => t.sessionKcv n == kcv key) then t.sessionWith m key else t.say m 0xC004)

/-- A session ends: its slot is erased. -/
def State.sessionEnd (s : State) (m : Cmd) (n : Nat) : State :=
  ((s.slotCmd m.core 2 3 n).onCs fun k => { k with ivs := k.ivs.filter fun x => x.1 != n }).say m 0

/-- SESSION_CLOSE (R493). P byte 0 names the session. -/
def execSessionClose (c : Fin 64) (s : State) : Res :=
  .next (s.geltia c 0xC301 .a false [0] false [(0, 1)] fun t m =>
    if !(t.sessions m.world).contains (m.byte 0) then t.say m 0xC015 else t.sessionEnd m (m.byte 0))

/-- The engine's class and slot of a KEY_LOAD. -/
def State.keyTarget (s : State) (m : Cmd) : Nat × Nat := if m.byte 0 = 2 then (3, s.pairingSlot) else (m.byte 0, m.num 2 2)

/-- KEY_LOAD (R428, R471, R496). -/
def execKeyLoad (c : Fin 64) (s : State) : Res :=
  .next (s.geltia c 0xC302 .a false [60, 92] false [(0, 8)] fun t m =>
    let n := if m.byte 0 = 0 then 64 else 32
    let (cls, idx) := t.keyTarget m
    if m.byte 0 ≤ 2 && m.d.length != n + 28 then t.say m 0x16
    else if 2 < m.byte 0 || m.num 4 4 != 0 || slotCount cls ≤ idx then t.say m 2
    else if (cls = 0 && !t.slotSeen m idx) || (cls = 1 && (t.connAt idx).state != 0 && !t.connSeen m idx) then t.say m 0xC001
    else
      match t.unwrap m (m.byte 1) n with
      | (0, k) =>
        let key : Key := BitVec.ofNat 512 (ofBytes k)
        let u := (t.takeIv m (m.byte 1)).cmdLoad m.core cls idx key
        let r := u.slotRes m.core
        let same := cls = 0 && t.on (CPH_RSLOT_KCV_SET idx) && t.rd (CPH_RSLOT_KCV idx) == (kcv key).toNat
        if r = 0 || same then u.reply m 0 (leBytes (kcv key).toNat 4) [] else u.say m (keyStatus r)
      | (e, _) => t.say m e)

/-- KEY_ERASE (R429, R497). -/
def execKeyErase (c : Fin 64) (s : State) : Res :=
  .next (s.geltia c 0xC303 .a false [0] false [(0, 4)] fun t m =>
    let k := m.byte 0
    let idx := if k = 2 then t.pairingSlot else m.num 2 2
    let cls := if k = 2 then 3 else k
    if 3 < k || 1 < m.byte 1 || (m.byte 1 = 1 && k != 0) || slotCount cls ≤ idx then t.say m 2
    else if k = 0 && !t.slotSeen m idx then t.say m 0xC001
    else if k = 3 && !(t.sessions m.world).contains idx then t.say m 0xC015
    else if k = 1 && (t.connAt idx).state != 0 then t.say m (if t.connSeen m idx then 0xC003 else 0xC001)
    else if m.byte 1 = 1 && t.slotNamed idx != 0 then t.say m 0xC003
    else if k = 2 && t.on YOK_CTL_ENABLE then t.say m 0xC004
    else if k = 3 then t.sessionEnd m idx
    else
      let u := t.slotCmd m.core (if m.byte 1 = 1 then 3 else 2) cls idx
      u.say m (keyStatus (u.slotRes m.core)))

/-- May a requester outside class A query a region slot (R498)? -/
def State.mayQuerySlot (s : State) (m : Cmd) (idx : Nat) : Bool :=
  m.isA || ((List.range 256).any fun r => s.rgnSeen m r && s.rd (TIN_RGN_ATTR_KEY_SLOT r) == idx && s.mayQuery m r)

/-- The reply of KEY_STATUS (R498). -/
def State.keyReply (s : State) (k cls idx : Nat) : List Byte :=
  let b := fun (p : Bool) => if p then (1 : Byte) else 0
  [b (s.slotLoaded cls idx),
    b (if k = 0 then s.on (CPH_RSLOT_KCV_SET idx) else if k = 1 then s.bitOf (CPH_CUSED_BITS (idx / 32)) (idx % 32) else false),
    b (if k = 1 then s.bitOf (CPH_CSEC_BITS (idx / 32)) (idx % 32) else s.keySecure cls idx),
    BitVec.ofNat 8 (if k = 0 then min 255 (s.slotNamed idx) else 0)] ++ leBytes (if k = 0 then s.rd (CPH_RSLOT_KCV idx) else 0) 4

/-- KEY_STATUS (R498). -/
def execKeyStatus (c : Fin 64) (s : State) : Res :=
  .next (s.geltia c 0xC304 .q false [0] false [(0, 1), (2, 2)] fun t m =>
    let k := m.byte 0
    let idx := if k = 2 then t.pairingSlot else m.num 2 2
    let cls := if k = 2 then 3 else k
    if 3 < k || slotCount cls ≤ idx then t.say m 2
    else if (k = 0 && (!t.slotSeen m idx || !t.mayQuerySlot m idx)) || (k != 0 && !m.isA) || (k = 1 && (t.connAt idx).state != 0 && !t.connSeen m idx) ||
        (k = 3 && !(sessionSlots m.world).contains idx) then t.say m 0xC001
    else t.reply m 0 (t.keyReply k cls idx) [])

/-- Is a region LOCAL, for SANITISE? -/
def State.rgnLocal (s : State) (r : Nat) : Bool := s.rgnClass r == 0 && s.rd (YOK_RGN_STATE r) == 0

/-- The valid or releasing regions that name a slot. -/
def State.slotRegions (s : State) (k : Nat) : List Nat :=
  (List.range 256).filter fun r => (s.rgnValid r || s.rgnReleasing r) && s.rd (TIN_RGN_ATTR_KEY_SLOT r) == k

/-- Headland takes the next of steps 2 to 4 of R522 that can be taken. -/
def State.sanitiseOn (s : State) (c k : Nat) : State :=
  let a := coreAgent (s.rd (MBX_CH_CTL_CORE c))
  if s.on TIN_RGN_STATUS_BUSY then s
  else match (s.slotRegions k).find? fun r => s.rgnValid r with
    | some r =>
      match s.destroyResult (s.agentSecure a) r with
      | 0 => s.rgnDestroy r
      | e => (s.rgnResult r e).bgFinish c (rgnStatus e)
    | none =>
      if !(s.slotRegions k).isEmpty then s
      else
        let u := s.slotCmd a 3 0 k
        u.bgFinish c (keyStatus (u.slotRes a))

/-- SANITISE (R522). Where no request waits, the sanitising that runs on the channel goes on. -/
def execSanitise (c : Fin 64) (s : State) : Res :=
  .next (match s.cmdAt c fun o => o == 0xC900 with
    | none =>
      match s.bgOf c with
      | some { job := .sanitise k, done := false, .. } => s.sanitiseOn c k
      | _ => s
    | some _ => s.geltia c 0xC900 .a false [0] false [(0, 1), (2, 6)] fun t m =>
      let k := m.num 2 2
      if t.bgRuns c then t.say m 6
      else if m.byte 0 != 1 || m.num 4 4 != 0x5A544E53 || 256 ≤ k then t.say m 2
      else if !t.slotSeen m k then t.say m 0xC001
      else if !(t.slotRegions k).all t.rgnLocal then t.say m 0xC004
      else t.bgStart m (.sanitise k))

end Sys2Proof.Machine
end

