-- ==== Sys2Proof/Machine/CmdYoke.lean ====
section
/-!
DEFINITION. Machine/CmdYoke.lean: the commands of pairing, roles and mirroring (R499 to R504).
-/
namespace Sys2Proof.Machine
open Sys2Proof

/-- May PAIRS be changed now (R316)? -/
def State.pairsFree (s : State) : Bool := (List.range 256).all fun r => s.rd (YOK_RGN_STATE r) == 0 || s.rd (YOK_RGN_STATE r) == 3

/-- The words of the path descriptors in a request's D. -/
def State.putPaths (s : State) (m : Cmd) : State :=
  (List.range (m.d.length / 4)).foldl (fun (t : State) i => t.wr (YOK_PATHDESC_DATA i) (m.dat (4 * i) 4)) s

/-- PAIR_SET (R316, R343, R499). -/
def execPairSet (c : Fin 64) (s : State) : Res :=
  .next (s.geltia c 0xC400 .a false [128, 256] false [(0, 2), (8, 16)] fun t m =>
    let pairs := m.byte 1
    let en := m.byte 0 = 1
    if pairs ≤ 1 && m.d.length != 128 * (pairs + 1) then t.say m 0x16
    else if 1 < m.byte 0 || 1 < pairs then t.say m 2
    else if pairs != t.rd YOK_CTL_PAIRS && !t.pairsFree then t.say m 0xC004
    else if !en && t.on YOK_CTL_ENABLE && (List.range 256).any (fun r => t.rd (YOK_RGN_STATE r) != 0) then t.say m 0xC004
    else if en && !t.pairKeyed then t.say m 0xC008
    else
      let u := (t.putPaths m).onYk fun y => { y with serialTwin := m.num 8 16 }
      ((u.writePairs m.core (pairs == 1)).yokEnable en).say m 0)

/-- Is a HANDOVER entry of a region still unacknowledged? -/
def State.handoverOut (s : State) (r : Nat) : Bool :=
  s.unacked.any fun e => e.region == r && match e.ent with
    | .role _ a _ _ _ _ => a == 2
    | _ => false

/-- Step 2 of R319: the role moves to the twin, behind every line already sent. -/
def State.handOverRole (s : State) (r : Nat) : State :=
  ((s.wr (YOK_RGN_ROLE r) 1).wr (YOK_RGN_EPOCH r) (s.rd (YOK_RGN_EPOCH r) + 1)).roleSend r 2 1

/-- The steps of a ROLE_HANDOVER. Stages: 1 waits for the drain of step 1, 2 for the twin's acknowledgement of step 3, 5 for its answer to
the relayed REGION_RIGHTS. -/
def State.handoverCmd (s : State) (m : Cmd) : State :=
  let r := m.byte 0
  match s.stageOf m.chan with
  | 0 =>
    if !s.rgnSeen m r || !s.rgnValid r then s.say m 0xC001
    else if !s.twinUp then s.say m 0xC010
    else if s.rd (YOK_RGN_ROLE r) != 0 || s.rd (YOK_RGN_STATE r) != 2 then s.say m 0xC004
    else if s.on TIN_RGN_STATUS_BUSY then s
    else ((s.rgnLoad r).stageMasks (m.num 40 8) 0 (m.num 48 8) 0).commitCmd m r 1
  | 1 =>
    if s.on TIN_RGN_STATUS_BUSY then s
    else if !s.twinUp then s.say m 0xC010
    else if s.rd (YOK_RGN_STATE r) != 2 then s.say m 0xC004
    else (s.handOverRole r).setStage m.chan 2
  | 2 =>
    if !s.twinUp then s.reply m 0xC010 [1] []
    else if s.handoverOut r || s.mbxFull 56 true || s.cs.relay.isSome then s
    else s.relayStep { m with op := 0xC102 } ([BitVec.ofNat 8 r, 0, 0, 0, 0, 0, 0, 0] ++ (m.p.drop 8).take 32) 5
  | _ =>
    match s.relayTake m.chan with
    | none => if s.twinUp then s else s.relayFailed m none
    | some (t, 0) => t.say m 0
    | some (t, e) => t.relayFailed m (some e)

/-- ROLE_HANDOVER (R319, R500). -/
def execRoleHandover (c : Fin 64) (s : State) : Res :=
  .next (s.geltia c 0xC401 .a false [0] false [(0, 1), (8, 48)] fun t m => t.handoverCmd m)

/-- ROLE_TAKE (R320, R501). -/
def execRoleTake (c : Fin 64) (s : State) : Res :=
  .next (s.geltia c 0xC402 .a false [0] false [(0, 1), (8, 32)] fun t0 m => t0.rgnCmd m fun t =>
    let r := m.byte 0
    if !t.rgnSeen m r || !t.rgnValid r then t.say m 0xC001
    else if t.rd (YOK_RGN_STATE r) = 3 && t.rd (YOK_RGN_ROLE r) = 0 && t.cs.taken.contains r then
      if t.masksAre r (m.num 8 8) (m.num 16 8) (m.num 24 8) (m.num 32 8) then t.say m 0
      else ((t.rgnLoad r).stageMasks (m.num 8 8) (m.num 16 8) (m.num 24 8) (m.num 32 8)).commitCmd m r 1
    else if t.rd (YOK_RGN_STATE r) = 0 || t.rd (YOK_RGN_ROLE r) = 0 then t.say m 0xC004
    else
      let u := (t.rgnLoad r).stageMasks (m.num 8 8) (m.num 16 8) (m.num 24 8) (m.num 32 8)
      match u.commitResult (u.cmdSecure m) r with
      | 0 =>
        let v := ((u.wr (YOK_RGN_ROLE r) 0).wr (YOK_RGN_EPOCH r) (u.rd (YOK_RGN_EPOCH r) + 1)).setYok r 3
        (v.onCs fun k => { k with taken := k.taken.filter (fun x => x != r) ++ [r] }).commitCmd m r 1
      | e => (u.rgnResult r e).say m (rgnStatus e))

/-- ROLE_SPLIT (R322, R502). -/
def execRoleSplit (c : Fin 64) (s : State) : Res :=
  .next (s.geltia c 0xC403 .a false [0] false [(0, 1)] fun t m =>
    let r := m.byte 0
    if !t.rgnSeen m r || !t.rgnValid r then t.say m 0xC001
    else if t.rd (YOK_RGN_STATE r) = 3 then t.say m 0
    else if t.rd (YOK_RGN_STATE r) != 5 then t.say m 0xC004
    else (((t.leaveMirror r 3).exclTidy).settle).say m 0)

/-- Is a region queued for a resilver or a resync, or being copied? -/
def State.rsvQueued (s : State) (r : Nat) : Bool := s.yk.rsvQ.contains r || s.yk.rsv.any fun v => v.region == r && !v.stop

/-- RESILVER (R350, R352, R503). -/
def execResilver (c : Fin 64) (s : State) : Res :=
  .next (s.geltia c 0xC404 .a false [0] false [(0, 3)] fun t m =>
    let r := m.byte 1
    let st := t.rd (YOK_RGN_STATE r)
    if m.byte 0 = 0 || 2 < m.byte 0 || 100 < m.byte 2 then t.say m 2
    else if !t.rgnSeen m r || !t.rgnValid r then t.say m 0xC001
    else if t.rd (YOK_RGN_ROLE r) != 0 || (st != 1 && st != 4) then t.say m 0xC004
    else
      let u := if m.byte 2 = 0 then t else t.wr YOK_RSV_CTL_RATE_PCT (m.byte 2)
      if m.byte 0 = 1 then
        ((if u.rsvQueued r then u else u.onYk fun y => { y with rsvQ := y.rsvQ ++ [r] }).rsvKick).say m 0
      else
        ((if u.yk.rsv.any (fun v => v.region == r) then u.writeRsvStop else u).onYk fun y =>
          { y with rsvQ := y.rsvQ.filter fun x => x != r }).say m 0)

/-- The reply of YOKE_STATUS for the device (R504). -/
def State.yokeReply (s : State) : List Byte :=
  [BitVec.ofNat 8 (s.rd YOK_STS_TWIN), BitVec.ofNat 8 (s.rd YOK_CTL_PAIRS),
    BitVec.ofNat 8 (s.pathState 0 0 + 4 * s.pathState 0 1 + 16 * s.pathState 1 0 + 64 * s.pathState 1 1),
    BitVec.ofNat 8 (s.rd (YOK_PAIR_KEYGEN 0) + 2 * s.rd (YOK_PAIR_KEYGEN 1))] ++ leBytes s.yk.marks.length 4 ++
    [match s.yk.rsv with | some v => BitVec.ofNat 8 v.region | none => 0xFF, 0, 0, 0, 0, 0, 0, 0] ++ leBytes (s.rd YOK_RSV_POS_PAGE) 8 ++
    leBytes (s.rdW (YOK_ACKED 0)).toNat 8 ++ leBytes (s.rdW (YOK_TXSEQ 0)).toNat 8 ++ leBytes (s.rdW (YOK_ACKED 1)).toNat 8 ++
    leBytes (s.rdW (YOK_TXSEQ 1)).toNat 8

/-- YOKE_STATUS (R504). -/
def execYokeStatus (c : Fin 64) (s : State) : Res :=
  .next (s.geltia c 0xC405 .q true [0] false [(0, 1)] fun t m =>
    let r := m.byte 0
    if r = 0xFF then t.reply m 0 t.yokeReply []
    else if !t.rgnSeen m r || !t.mayQuery m r then t.say m 0xC001
    else
      t.reply m 0 (leBytes (t.rdW (YOK_RGN r)).toNat 8 ++ leBytes ((t.showLag r).rdW (YOK_RGN_LAG r)).toNat 8 ++ [if t.rsvQueued r then 1 else 0]) [])

end Sys2Proof.Machine
end

