-- ==== Sys2Proof/Machine/CmdDrill.lean ====
section
/-!
DEFINITION. Machine/CmdDrill.lean: the commands of Drill connections and job queues (R505 to R509).
-/
namespace Sys2Proof.Machine
open Sys2Proof

/-- PORT_SET (R393, R505). -/
def execPortSet (c : Fin 64) (s : State) : Res :=
  .next (s.geltia c 0xC500 .a false [64] false [(0, 3)] fun t m =>
    let p := m.byte 0
    let f := m.byte 1
    if 5 < p || 7 < f || 7 < m.byte 2 then t.say m 2
    else
      let u := (List.range 16).foldl (fun (u : State) i => u.wr (DRL_PORTDESC_DATA (16 * p + i)) (m.dat (4 * i) 4)) t
      let ports := putBits (u.rd DRL_CTL_PORTS) p 1 (f % 2)
      let v := ports + (if f.testBit 1 then 2 ^ 31 else 0) + (if f.testBit 2 then 2 ^ 8 else 0)
      ((u.writeDrlCtl v).wr DRL_RX_PFC_PRIO (m.byte 2)).say m 0)

/-- Is a connection one of the other world? -/
def State.connHidden (s : State) (m : Cmd) (n : Nat) : Bool := (s.connAt n).state != 0 && s.cgSecure (s.connAt n).group != m.world

/-- The status of an OPEN's result (R365, R506). -/
def openStatus (r : Nat) : Nat :=
  match r with
  | 0 => 0 | 1 => 0xC003 | 3 => 0xC018 | 4 => 0xC018 | 5 => 0xC019 | 6 => 0xC01A | _ => 0xC001

/-- CONN_OPEN (R365, R366, R506): an OPENING or OPEN connection with this descriptor is answered OK (R471). -/
def execConnOpenCommand (c : Fin 64) (s : State) : Res :=
  .next (s.geltia c 0xC501 .a false [128] false [(0, 2)] fun t m =>
    let n := m.num 0 2
    let g := m.dat 1 1
    if 4095 < n then t.say m 2
    else if t.connHidden m n || (g < 64 && t.on (TIN_CGB_VALID g) && !t.cgSeen m g) then t.say m 0xC001
    else if (t.connAt n).state != 0 && (t.connAt n).desc == ofBytes m.d then t.say m 0
    else
      let u := (List.range 32).foldl (fun (u : State) i => u.wr (DRL_STG_DATA i) (m.dat (4 * i) 4)) t
      let v := u.connCmd m.core 1 n
      v.say m (openStatus (v.rd DRL_CONN_STATUS_RESULT)))

/-- CONN_CLOSE (R369, R507): the reply follows once the connection is CLOSED. -/
def execConnCloseCommand (c : Fin 64) (s : State) : Res :=
  .next (s.geltia c 0xC502 .a false [0] false [(0, 2)] fun t m =>
    let n := m.num 0 2
    if 4095 < n then t.say m 2
    else if t.stageOf c = 0 && t.connHidden m n then t.say m 0xC001
    else if (t.connAt n).state = 0 then t.say m 0
    else if t.stageOf c = 0 then (t.connCmd m.core 2 n).setStage c 1
    else t)

/-- CONN_INFO (R508). -/
def execConnInfo (c : Fin 64) (s : State) : Res :=
  .next (s.geltia c 0xC503 .q false [0] false [(0, 2)] fun t m =>
    let n := m.num 0 2
    if 4095 < n then t.say m 2
    else if t.connHidden m n || (!m.isA && !(m.kind == 2 && m.source == n)) then t.say m 0xC001
    else
      let u := t.connCmd m.core 3 n
      u.reply m 0 (leBytes (u.rdW DRL_SNAP_STATE).toNat 8 ++ leBytes (u.rdW DRL_SNAP_SEQ).toNat 8 ++ leBytes (u.rdW DRL_SNAP_CNT).toNat 8) [])

/-- Is a job queue bound by a connection of the other world? -/
def State.jqHidden (s : State) (m : Cmd) (q : Nat) : Bool := s.jqState q != 0 && s.cgSecure (s.jqAt q).group != m.world

/-- JQ_BIND (R394, R509): a queue that the connection owns already is answered OK (R471). -/
def execJqBindCommand (c : Fin 64) (s : State) : Res :=
  .next (s.geltia c 0xC504 .a false [0] false [(0, 4)] fun t m =>
    let q := m.num 0 2
    let n := m.num 2 2
    if 1023 < q || 4095 < n then t.say m 2
    else if t.jqHidden m q || t.connHidden m n then t.say m 0xC001
    else if t.on DRL_JQ_CMD_STS_BUSY then t
    else if (t.jqState q = 1 || t.jqState q = 2) && t.jqConn q = n then t.say m 0
    else
      let u := t.jqCmd m.core 1 n q
      u.say m (match u.rd DRL_JQ_CMD_STS_RESULT with | 0 => 0 | 1 => 0xC003 | 2 => 0xC004 | _ => 0xC001))

/-- JQ_UNBIND (R396, R509): the reply follows once the queue is UNBOUND. -/
def execJqUnbindCommand (c : Fin 64) (s : State) : Res :=
  .next (s.geltia c 0xC505 .a false [0] false [(0, 2)] fun t m =>
    let q := m.num 0 2
    if 1023 < q then t.say m 2
    else if t.stageOf c = 0 && t.jqHidden m q then t.say m 0xC001
    else if t.jqState q = 0 then t.say m 0
    else if t.stageOf c != 0 || t.on DRL_JQ_CMD_STS_BUSY then t
    else (t.jqCmd m.core 2 (t.rd DRL_JQ_CMD_CONN) q).setStage c 1)

/-- JQ_INFO (R508). -/
def execJqInfo (c : Fin 64) (s : State) : Res :=
  .next (s.geltia c 0xC506 .q false [0] false [(0, 2)] fun t m =>
    let q := m.num 0 2
    if 1023 < q then t.say m 2
    else if t.jqHidden m q || (!m.isA && !(m.kind == 2 && t.jqState q != 0 && t.jqConn q == m.source)) then t.say m 0xC001
    else
      t.reply m 0 (leBytes (t.rdW (DRL_JQ_STATE q)).toNat 8 ++ leBytes (t.rdW (DRL_JQ_COUNT q)).toNat 8 ++
        leBytes (t.rdW (DRL_JQ_FAIL q)).toNat 8 ++ leBytes (t.rdW (DRL_JQ_TAG q)).toNat 8) [])

end Sys2Proof.Machine
end

