-- ==== Sys2Proof/Machine/Tithe.lean ====
section
/-!
DEFINITION. Machine/Tithe.lean: the Tithe usage meter (chapter 21): samples (R626 to R628), intervals (R629 to R631), releases, the
interval's length (R638), lives (R634).
-/
namespace Sys2Proof.Machine
open Sys2Proof

/-- What an unlisted count reads as. -/
def cnt0 : Nat → Nat := fun _ => 0
/-- Changes Tithe. -/
def State.onTh (s : State) (f : Tithe → Tithe) : State := { s with th := f s.th }
/-- The low byte of a counter's key is its tenant. -/
def tenantOf (k : Nat) : Nat := k % 256

/-! ## Samples -/

/-- Is RESIDENT to be had: Winnow's domain is on and its group is not in reset? -/
def State.residentOk (s : State) : Bool := s.powered wWIN && !s.rs.groups.testBit 2

/-- A millisecond's HELD and DRAM of a valid region, in KiB-milliseconds. -/
def State.titheRegion (s : State) (r : Nat) : State :=
  let t := s.rd (TIN_RGN_ATTR_TENANT r)
  let res := if s.residentOk then s.rd (WIN_RGN_RES_RESIDENT r) else mget cnt0 s.th.res r
  s.onTh fun h => { h with held := mset cnt0 h.held t (mget cnt0 h.held t + s.rgnSize r * 1048576), dram := mset cnt0 h.dram t (mget cnt0 h.dram t + 4 * res),
                           res := mset cnt0 h.res r res, dramHeld := h.dramHeld || !s.residentOk }

/-- What the clusters' counters gained since they were last read, added by tenant. -/
def addGain (now was acc : SMap Nat) : SMap Nat :=
  now.foldl (fun (m : SMap Nat) e => mset cnt0 m (tenantOf e.1) (mget cnt0 m (tenantOf e.1) + (e.2 - mget cnt0 was e.1))) acc

/-- TITHE_COUNTER_SAMPLE (R626 to R628): a millisecond of Tithe's own time, in which its monitors measured `uj` µJ. -/
def execTitheCounterSample (uj : Nat) (s : State) : Res :=
  .next (
    if !s.th.started then s
    else
      let t := s.onTh fun h => { h with ms := h.ms + 1, uj := h.uj + uj, rd := addGain h.rdc h.rds h.rd, wr := addGain h.wrc h.wrs h.wr, rds := h.rdc, wrs := h.wrc }
      if t.rd (PWR_PD_STATE 2) = 2 then t.validRgns.foldl (fun (u : State) r => u.titheRegion r) t else t)

/-! ## Intervals -/

/-- The tenants that an interval's close writes a record for (R630). -/
def State.titheTenants (s : State) : List Nat :=
  (List.range 256).filter fun t => mget cnt0 s.th.held t != 0 || mget cnt0 s.th.dram t != 0 || mget cnt0 s.th.rd t != 0 || mget cnt0 s.th.wr t != 0 ||
    s.validRgns.any fun r => s.rd (TIN_RGN_ATTR_TENANT r) == t

/-- The sum of a measure over every tenant. -/
def sumOf (m : SMap Nat) : Nat := (m.map fun e => e.2).sum

/-- Bytes a tenant has moved. -/
def Tithe.moved (h : Tithe) (t : Nat) : Nat := mget cnt0 h.rd t + mget cnt0 h.wr t
/-- The tenant's ENERGY (R629). -/
def Tithe.energy (h : Tithe) (t : Nat) : Nat :=
  let m := sumOf h.rd + sumOf h.wr
  if m = 0 then 0 else h.uj * h.moved t / m
/-- A measure in KiB-seconds. -/
def kibSec (m : SMap Nat) (t : Nat) : Nat := mget cnt0 m t / 1000

/-- The body of a USAGE record (R632). -/
def Tithe.usage (h : Tithe) (t : Nat) : List Byte :=
  [kibSec h.held t, kibSec h.dram t, mget cnt0 h.rd t, mget cnt0 h.wr t, h.energy t, 0].flatMap fun v => leBytes v 8
/-- The body of a DEVICE record. -/
def Tithe.device (h : Tithe) : List Byte :=
  let k := fun (m : SMap Nat) => (m.map fun e => e.2 / 1000).sum
  let given := ((List.range 256).map fun t => h.energy t).sum
  [k h.held, k h.dram, sumOf h.rd, sumOf h.wr, h.uj, h.uj - given].flatMap fun v => leBytes v 8

/-- The close of an interval (R630, R631): where the ring lacks room it is extended. -/
def State.titheClose (s : State) : State :=
  let ts := s.titheTenants
  if !s.titheRoom (s.th.wait.length + ts.length + 1) then (s.wr TTH_STS_STATE 2).cond wTTH 2 noSub true
  else
    let s1 := ({ s with th := { s.th with wait := [] } } : State).titheFlush s.th.wait
    let fl := (if s.rd TTH_STS_STATE = 2 then 1 else 0) + (if s.th.dramHeld then 2 else 0)
    let h := s1.th
    let s2 := ts.foldl (fun (u : State) t => u.titheWrite 1 fl h.since s.titheSec t (h.usage t)) s1
    let s3 := s2.titheWrite 2 fl h.since s.titheSec 0xFFFF h.device
    (((s3.onTh fun x => { x with held := [], dram := [], rd := [], wr := [], uj := 0, since := s.titheSec, dramHeld := false }).wr TTH_STS_STATE 1).cond
      wTTH 2 noSub false)

/-- TITHE_INTERVAL_CLOSE (R630, R631). -/
def execTitheIntervalClose (s : State) : Res := .next (if s.th.started then s.titheClose else s)

/-- A write of TTH_REL (R631, R638): from the sideband only. -/
def State.writeTitheRel (s : State) (a : Agent) (upto : Nat) : State :=
  if a != .sb then s.ignored a TTH_REL upto
  else
    let life := s.rd TTH_LIFE_LIFE
    let t := (s.onTh fun h => { h with ring := h.ring.filter fun r => !(r.life == life && decide (r.num ≤ upto)) }).showTithe
    (({ t with th := { t.th with wait := [] } } : State).titheFlush t.th.wait)

/-- TITHE_RELEASE (R631). -/
def execTitheRelease (a : Agent) (upto : BitVec 32) (s : State) : Res :=
  .next (s.atReg a TTH_REL upto.toNat fun t => t.writeTitheRel a upto.toNat)

/-- A write of TTH_CFG (R638, R640): from the sideband only; a change closes the interval and writes a CONFIG record. -/
def State.writeTitheCfg (s : State) (a : Agent) (v : Nat) : State :=
  if a != .sb then s.ignored a TTH_CFG v
  else
    let old := s.rd TTH_CFG_INTERVAL_S
    let new := v % 2 ^ 17
    let t := s.wr TTH_CFG_INTERVAL_S new
    if old = new || !s.th.started then t else t.titheClose.titheEvent 4 0xFFFF (leBytes old 4 ++ leBytes new 4 ++ leBytes 0 40)

/-- TITHE_CFG_WRITE (R638). -/
def execTitheCfgWrite (a : Agent) (v : BitVec 32) (s : State) : Res :=
  .next (s.atReg a TTH_CFG v.toNat fun t => t.writeTitheCfg a v.toNat)

/-! ## Lives (R633 to R635, R640) -/

/-- Word k of a byte string's 32-bit registers, first byte in bits 7:0; the number holds the first byte most significant. -/
def beWord (n len k : Nat) : Nat := ofBytes (((beBytes n len).drop (4 * k)).take 4)

/-- A life starts: the next bit of the life counter is set, the counters cleared, the START record written. -/
def State.titheStart (s : State) : State :=
  let sat := decide (512 ≤ s.th.fuse)
  let life := min 512 (s.th.fuse + 1)
  let own := fun (k : Nat) => decide (0x40630100 ≤ k % 0x100000000 ∧ k % 0x100000000 < 0x40640000)
  let s1 := s.csr.foldl (fun (t : State) e => if own e.1 then t.wrW e.1 (csrDefault e.1) else t) s
  let s2 := s1.onTh fun h => { fuse := life, hasKey := true, started := true, ring := h.ring, monFail := h.monFail }
  let s3 := (((s2.wr TTH_LIFE_LIFE life).wr TTH_LIFE_NEXT 1).wr TTH_STS_LIFE_SAT (if sat then 1 else 0)).wr TTH_STS_STATE 1
  let s4 := (List.range 12).foldl (fun (t : State) k => t.wr (TTH_HASH_BYTES k) (beWord romHash 48 k)) s3
  let s5 := (List.range 25).foldl (fun (t : State) k => t.wr (TTH_PUB_BYTES k) (Config.tithePub k).toNat) s4
  (s5.showTithe.cond wTTH 3 noSub sat).titheEvent 5 0xFFFF (beBytes romHash 48)

/-- TITHE_LIFE_START (R634): at the always-on power-on. -/
def execTitheLifeStart (s : State) : Res := .next (if s.th.started || s.pw.held then s else s.titheStart)

/-- TITHE_WATCHDOG_RESTART (R634). -/
def execTitheWatchdogRestart (s : State) : Res := .next (if s.th.started then s.titheStart.raise wTTH 4 noSub else s)

/-- ENERGY_MONITOR_FAIL (R628): the device's energy leaves the supply out from now on. -/
def execEnergyMonitorFail (s : State) : Res := .next ((s.onTh fun h => { h with monFail := true }).cond wTTH 5 noSub true)

end Sys2Proof.Machine
end

