-- ==== Sys2Proof/Machine/CmdHarvest.lean ====
section
/-!
DEFINITION. Machine/CmdHarvest.lean: the commands of Harvest and power (R510 to R514), of the recorder (R520) and of Tithe (R521).
-/
namespace Sys2Proof.Machine
open Sys2Proof

/-- The writes of a HARVEST_SET (R314, R510): every field. -/
def State.harvestSet (s : State) (m : Cmd) : State :=
  let f := m.byte 0
  let t := (s.writeHrvCtl (f % 2) (f / 2 % 2) (m.byte 1)).writeHrvCfg m.core HRV_CAP (m.num 4 2)
  let u := (t.writeHrvCfg m.core HRV_NAND (m.num 6 2)).writeHrvCfg m.core HRV_BOARD (m.num 8 2 * 65536 + m.num 10 2)
  if u.hrvBusy then u else (u.wr HRV_STORE_EFF_PCT (m.byte 2)).showHarvest

/-- HARVEST_SET (R314, R510): Headland replies 10 µs after its writes. -/
def execHarvestSet (c : Fin 64) (s : State) : Res :=
  .next (s.geltia c 0xC600 .a false [0] false [(0, 3), (4, 8)] fun t m =>
    if t.stageOf c != 0 then
      t.reply m 0 (leBytes (t.rd HRV_CAP_EFF_GIB) 2 ++ [0, 0] ++ leBytes (t.rd HRV_NEED_NEED_J) 4) []
    else if 3 < m.byte 0 || 511 < m.num 4 2 then t.say m 2
    else (t.harvestSet m).setStage c 1)

/-- STORE_DECLARE (R291, R511). -/
def execStoreDeclare (c : Fin 64) (s : State) : Res :=
  .next (s.geltia c 0xC601 .a false [0] false [(0, 4)] fun t m =>
    let j := m.num 0 4
    if 2 ^ 24 ≤ j then t.say m 2
    else
      let u := t.writeHrvCfg m.core HRV_STORE (t.rd HRV_STORE_EFF_PCT * 2 ^ 24 + j)
      u.reply m 0 (leBytes (u.rd HRV_LIMITS_CAP_STORE_GIB) 2 ++ leBytes (u.rd HRV_CAP_EFF_GIB) 2 ++ leBytes (u.rd HRV_NEED_NEED_J) 4) [])

/-- The reply of HARVEST_STATUS (R512). -/
def State.harvestReply (s : State) : List Byte :=
  [BitVec.ofNat 8 (s.rd HRV_STS_STATE), BitVec.ofNat 8 (s.rd HRV_STS_NOARM),
    BitVec.ofNat 8 (s.rd HRV_STS_ARMED + 2 * s.rd HRV_STS_FALLOW_HELD + 4 * s.rd HRV_STS_OVER_CAP + 8 * s.rd HRV_STS_FORCED_CLEAN +
      16 * s.rd HRV_STS_RESET_LATCHED),
    BitVec.ofNat 8 (16 * s.rd HRV_LAST_CAUSE + s.rd HRV_LAST_OUTCOME)] ++ leBytes (s.rd HRV_CAP_EFF_GIB) 2 ++
    leBytes (s.rd HRV_LIMITS_CAP_STORE_GIB) 2 ++ leBytes (s.rd HRV_LIMITS_CAP_RESERVE_GIB) 2 ++ leBytes (s.rd HRV_LIMITS_RATE_F) 2 ++
    leBytes (s.rd HRV_NEED_NEED_J) 4 ++ leBytes (s.rd HRV_DIRTY_PAGES) 4 ++ leBytes (s.rd HRV_LAST_DUR_MS) 4 ++
    leBytes (s.rd HRV_RESOW_PATH) 4 ++ leBytes (s.rd HRV_RESOW_DUR_MS) 4 ++ leBytes (s.rd HRV_LOSS_PAGES) 4 ++ leBytes (s.rd HRV_LOSS_LINES) 4 ++
    leBytes (s.rd HRV_SEQ_DSEQ) 6

/-- HARVEST_STATUS (R512). -/
def execHarvestStatus (c : Fin 64) (s : State) : Res :=
  .next (s.geltia c 0xC602 .q false [0] false [] fun t m => t.reply m 0 t.harvestReply [])

/-- HARVEST_START (R294, R513): the OK reply first; START is written once it has been taken or 10 ms have passed. -/
def execHarvestStartCommand (c : Fin 64) (s : State) : Res :=
  .next (match s.cs.start with
    | some (ch, t0) =>
      if ch != c.val then s
      else if s.mbxFull c true && decide (s.now < t0 + 10000000) then s
      else (s.onCs fun k => { k with start := none }).writeHrvStart (coreAgent (s.rd (MBX_CH_CTL_CORE c)))
    | none =>
      s.geltia c 0xC603 .a false [0] false [(0, 4)] fun t m =>
        if m.num 0 4 != 0x54535648 then t.say m 2
        else if !t.on HRV_STS_ARMED then t.say m 0xC020
        else (t.say m 0).onCs fun k => { k with start := some (c.val, t.now) })

/-- The reply of POWER_CAP (R514). -/
def State.capReply (s : State) : List Byte :=
  leBytes (s.rd PWR_CAP_CAP_W) 2 ++ leBytes (s.rd PWR_VLOOP_STS_POWER_W * 10) 2 ++ leBytes (s.rd PWR_VLOOP_STS_VDD_MV) 2 ++
    leBytes (s.rd PWR_VLOOP_STS_FLOOR_W) 2

/-- POWER_CAP (R36, R514, R569). -/
def execPowerCap (c : Fin 64) (s : State) : Res :=
  .next (s.geltia c 0xC604 .a false [0] false [(0, 1), (2, 2)] fun t m =>
    let op := m.byte 0
    let w := m.num 2 2
    if 2 < op || (op = 1 && (w = 0 || 1023 < w)) then t.say m 2
    else if op = 1 && w < t.rd PWR_VLOOP_STS_FLOOR_W then t.say m 0xC01D
    else
      let u := if op = 0 then t else (t.wr PWR_CAP_CAP_W (if op = 1 then w else 0)).showOverCap
      u.reply m 0 u.capReply [])

/-- RECORDER_READ (R520, R622, R624). -/
def execRecorderRead (c : Fin 64) (s : State) : Res :=
  .next (s.geltia c 0xC705 .a false [0] true [(0, 6)] fun t m =>
    let off := m.num 0 4
    let n := m.num 4 2
    if n = 0 || 4096 < n || 2097152 < off + n then t.say m 2
    else
      ({ t with fresh := t.fresh + n } : State).reply m 0 (leBytes (t.rd REC_POS_WPOS) 4 ++ leBytes (t.rd REC_POS_EPOCH) 4 ++ leBytes (t.rd REC_STS_FULL) 1) (t.recRead off n))

/-- RECORDER_CLEAR (R520, R620). -/
def execRecorderClear (c : Fin 64) (s : State) : Res :=
  .next (s.geltia c 0xC706 .b false [0] false [(0, 4)] fun t m =>
    let u := t.writeRecClear m.core (m.num 0 4)
    u.say m (match u.rd (REC_CLEAR_STS_RESULT.bank m.core) with | 0 => 0 | 1 => 0xC004 | _ => 6))

/-- The tenant of a Tithe record. -/
def TRec.tenant (r : TRec) : Nat := ofBytes ((r.bytes.drop 0x38).take 2)

/-- TITHE_READ (R521, R637): the records of a tenant, in this life, from a number on. -/
def execTitheRead (c : Fin 64) (s : State) : Res :=
  .next (s.geltia c 0xC800 .a false [0] true [(0, 1), (4, 6)] fun t m =>
    let mine := t.th.ring.filter fun r => r.tenant == m.byte 0 && r.life == t.rd TTH_LIFE_LIFE && decide (m.num 4 4 ≤ r.num)
    let l := mine.take (min 16 (m.num 8 2))
    let next := match l.getLast? with
      | none => if mine.isEmpty then t.rd TTH_LIFE_NEXT else m.num 4 4
      | some r => r.num + 1
    t.reply m 0 (leBytes l.length 4 ++ leBytes next 4) (l.flatMap fun r => r.bytes))

/-- TITHE_INFO (R521, R635). -/
def execTitheInfo (c : Fin 64) (s : State) : Res :=
  .next (s.geltia c 0xC801 .q false [0] false [] fun t m =>
    let tenants := ((t.th.ring.map fun r => r.tenant).filter fun x => decide (x < 256)).eraseDups
    t.reply m 0 (beBytes romHash 48 ++ leBytes t.th.ring.length 4 ++ leBytes tenants.length 4) [])

end Sys2Proof.Machine
end

