-- ==== Sys2Proof/Machine/Faults.lean ====
section
/-!
DEFINITION. Machine/Faults.lean: writes of a window's fault registers (R593, R597).
-/
namespace Sys2Proof.Machine
open Sys2Proof

/-- A write of FLT_STS: bits whose cause is not present clear (R597). -/
def State.writeFltSts (s : State) (w v : Nat) : State :=
  s.wrW (FLT_STS w) (s.rdW (FLT_STS w) &&& ~~~ (BitVec.ofNat 64 v &&& ~~~ s.rdW (FLT_LIVE w)))

/-- FLT_STS_CLEAR (R597). -/
def execFltStsClear (a : Agent) (w : Fin 100) (v : BitVec 32) (s : State) : Res :=
  .next (s.atReg a (FLT_STS w) v.toNat fun t => t.writeFltSts w v.toNat)

/-- FLT_INFO_CLEAR (R597). -/
def execFltInfoClear (a : Agent) (w : Fin 100) (s : State) : Res :=
  .next (s.atReg a (FLT_INFO w) (2 ^ 63) fun t => t.wr (FLT_INFO_VALID w) 0)

/-- The causes that a window has (R599, R639). -/
def fltCauses (w : Nat) : Nat :=
  match (winBlk w).1 with
  | .hpt => 0x7F | .npt => 0x1F | .tin => 0x1F | .tc => 0x3F | .nch => 0x7F | .drm => 0x7FF | .hrw => 0xF | .win => 0xFF
  | .fur => 0x3FF | .fc => 0x7F | .hrv => 0x7F | .yok => 0x1FF | .drl => 0x7F | .grn => 0x3F | .cph => 0x1F | .hdl => 0xF
  | .mbx => 0x1F | .efl => 0x1FF | .pwr => 0x3FF | .rst => 0xF | .recd => 0x7 | .tth => 0x3F

/-- A write of FLT_INJ: each bit raises its cause as an event, and nothing reacts (R593); a bit that stands for no cause does nothing. -/
def State.writeFltInj (s : State) (w v : Nat) : State :=
  ((List.range 32).filter fun b => v.testBit b && (fltCauses w).testBit b).foldl (fun (t : State) b => t.raise w b noSub) s

/-- FLT_INJECT (R593). -/
def execFltInject (a : Agent) (w : Fin 100) (v : BitVec 32) (s : State) : Res :=
  .next (s.atReg a (FLT_INJ w) v.toNat fun t => t.writeFltInj w v.toNat)

end Sys2Proof.Machine
end

