-- ==== Sys2Proof/Machine/CmdFaults.lean ====
section
/-!
DEFINITION. Machine/CmdFaults.lean: the commands of faults, fences, training and healing (R515 to R519), and requests that no command takes
(R468).
-/
namespace Sys2Proof.Machine
open Sys2Proof

/-- A window's 16 bytes of FAULT_LIST (R515). -/
def State.faultEntry (s : State) (w : Nat) : List Byte :=
  [BitVec.ofNat 8 w, BitVec.ofNat 8 (s.rd (UNIT_POWERED w) + 2 * s.rd (UNIT_FENCED w) + 4 * s.rd (UNIT_DEGRADED w) + 8 * s.rd (UNIT_HEALING w)), 0, 0] ++
    leBytes (s.rd (FLT_STS_CAUSE w)) 4 ++ leBytes (s.rd (FLT_CNT_COUNT w)) 4 ++ [0, 0, 0, 0]

/-- FAULT_LIST (R515). -/
def execFaultList (c : Fin 64) (s : State) : Res :=
  .next (s.geltia c 0xC700 .a false [0] true [(0, 2)] fun t m =>
    let w := m.byte 0
    let n := m.byte 1
    if n = 0 || 100 < n || 100 < w + n then t.say m 2
    else t.reply m 0 [] ((List.range n).flatMap fun i => t.faultEntry (w + i)))

/-! ## FENCE (R516) -/

/-- Does R516 list the window with this sub-unit? `whole` the whole instance. -/
def fenceListed (w : Nat) (whole : Bool) (sub : Nat) : Bool :=
  match winBlk w with
  | (.hpt, _) => whole || decide (sub ≤ 3)
  | (.tc, _) => whole || decide (sub ≤ 31)
  | (.nch, _) => whole
  | (.drm, _) => whole || decide (sub ≤ 3)
  | (.fc, _) => whole || decide (sub ≤ 15)
  | (.hdl, _) => !whole && decide (sub ≤ 3)
  | _ => false

/-- Would the fence leave no unit (R144, R446)? -/
def State.fenceLast (s : State) (w : Nat) (whole : Bool) (sub : Nat) : Bool :=
  match winBlk w with
  | (.tc, c) => if whole then s.clustersUp == [c] else s.tinesUp == [c * 32 + sub]
  | (.drm, c) => !s.dramFenced c (if whole then none else some sub) && s.lastDram c (if whole then none else some sub)
  | (.hdl, _) => s.lastCore sub
  | _ => false

/-- The fence itself, through the registers of R516. -/
def State.fenceDo (s : State) (a : Agent) (w : Nat) (whole : Bool) (sub mode : Nat) : State :=
  match winBlk w with
  | (.hpt, p) => s.writeSubFence p (if whole then 15 else 2 ^ sub)
  | (.tc, c) => if whole then s.writeClusterFence a c else s.writeTineFence a c (2 ^ sub)
  | (.nch, b) => s.writeNcFence b
  | (.drm, c) => (s.wr (DRM_FENCE_CTL_MODE c) mode).writeDramFence a c (if whole then none else some sub) (if whole then 32 else 2 ^ sub)
  | (.fc, c) => if whole then s.flashFence c false 0x1F else s.writeLunFence c (2 ^ sub)
  | (.hdl, _) => s.writeCoreFence a sub
  | _ => s

/-- Headland enables a DRAM channel; one that has been trained goes ACTIVE, any other is in training (R197, R209, R518). -/
def State.dramService (s : State) (c : Nat) (trained : Bool) : State :=
  let t := if s.rd (DRM_STS_STATE c) == 0 then s.writeDrmCfg c ((s.rdW (DRM_CFG c)).toNat % 2 ^ 30 + 2 ^ 31) else s
  if trained && t.rd (DRM_STS_STATE c) == 1 then (t.onCh c fun d => { d with trained := true }).writeActive c true else t

/-- Headland has retrained a flash channel that returns to service (R248, R274): ACTIVE with its LUNs, while Furrow runs. -/
def State.flashService (s : State) (c : Nat) : State :=
  if s.rd FUR_STS_STATE = 0 then s
  else
    let t := (s.wr (FUR_CH_STS_STATE c) 3).wr (FUR_CH_STS_LUNS_UP c) ((s.lunPos.filter fun i => !s.fur.retired.contains (c * 16 + i)).map fun i => 2 ^ i).sum
    ((t.showChannels).showGov).showRebuild

/-- The unfence itself. -/
def State.unfenceDo (s : State) (a : Agent) (w : Nat) (whole : Bool) (sub : Nat) : State :=
  match winBlk w with
  | (.hpt, p) => s.writeSubUnfence p (if whole then 15 else 2 ^ sub)
  | (.tc, c) => if whole then s.writeClusterUnfence a c else s.writeTineUnfence a c (2 ^ sub)
  | (.nch, b) => s.writeNcUnfence b
  | (.drm, c) => (s.writeDramUnfence a c).dramService c (s.chOf c).trained
  | (.fc, c) => if whole then s.writeFlashUnfence c else s.writeLunUnfence c (2 ^ sub)
  | (.hdl, _) => s.writeCoreUnfence a sub
  | _ => s

/-- Is the window that of a DRAM channel or of a flash channel: does its fence run in the background? -/
def fenceBg (w : Nat) : Bool :=
  match winBlk w with
  | (.drm, _) => true
  | (.fc, _) => true
  | _ => false

/-- Headland ends the retraining of an unfence in the background. -/
def State.unfenceOn (s : State) (w sub : Nat) : State :=
  match winBlk w with
  | (.drm, c) => s.dramService c true
  | (.fc, c) => if sub = noSub && (s.rd (FUR_CH_STS_STATE c) = 1 || s.rd (FUR_CH_STS_STATE c) = 2) then s.flashService c else s
  | _ => s

/-- FENCE (R516). Where no request waits, the retraining of an unfence that runs on the channel ends. -/
def execFenceCommand (c : Fin 64) (s : State) : Res :=
  .next (match s.cmdAt c fun o => o == 0xC701 with
    | none =>
      match s.bgOf c with
      | some { job := .fence w sub true, done := false, .. } => (s.unfenceOn w sub).bgSettle c
      | _ => s.bgSettle c
    | some _ => s.geltia c 0xC701 .a false [0] false [(0, 5)] fun t m =>
      let w := m.byte 0
      let un := m.byte 1 = 2
      let whole := m.byte 2 = 0
      let sub := m.byte 3
      if m.byte 1 = 0 || 2 < m.byte 1 || 1 < m.byte 2 || 1 < m.byte 4 || !fenceListed w whole sub then t.say m 2
      else if !t.powered w then t.say m 0xC004
      else if un && t.rd (FLT_STS_CAUSE w) != 0 then t.say m 0xC01C
      else if fenceBg w && t.bgRuns c then t.say m 6
      else if !un && t.fenceLast w whole sub then t.say m 0xC01B
      else
        let u := if un then t.unfenceDo m.core w whole sub else t.fenceDo m.core w whole sub (m.byte 4)
        if fenceBg w then u.bgStart m (.fence w (if whole then noSub else sub) un) else u.say m 0)

/-- FAULT_CLEAR (R517, R597). -/
def execFaultClear (c : Fin 64) (s : State) : Res :=
  .next (s.geltia c 0xC702 .a false [0] false [(0, 1), (4, 4)] fun t m =>
    let w := m.byte 0
    let bits := m.num 4 4
    if 99 < w then t.say m 2
    else
      let u := t.writeFltSts w bits
      let left := u.rd (FLT_STS_CAUSE w)
      u.reply m (if left &&& bits = 0 then 0 else 0xC01C) (leBytes left 4) [])

/-! ## TRAIN (R518) -/

/-- A channel's training begins (R197, R248): one that is OFF is in TRAINING, a FENCED one keeps its state. -/
def State.trainStart (s : State) (nand : Bool) (ch : Nat) : State :=
  if nand then (if s.rd (FUR_CH_STS_STATE ch) = 0 then s.wr (FUR_CH_STS_STATE ch) 2 else s)
  else s.dramService ch false

/-- It ends: the channel is trained, at `rate` for NAND, and not in service; or it has failed. -/
def State.trainEnd (s : State) (nand : Bool) (ch : Nat) (ok : Bool) (rate : Nat) : State :=
  if nand then
    if ok then s.wr (FUR_CH_STS_RATE ch) (min rate (min 4 (s.rd (FUR_CH_CTL_MAX_RATE ch))))
    else if s.rd (FUR_CH_STS_STATE ch) = 2 then s.wr (FUR_CH_STS_STATE ch) 1 else s
  else if ok then s.onCh ch fun d => { d with trained := true }
  else s.trainFailed ch

/-- May the channel be trained: populated, in STATE OFF or FENCED? -/
def State.mayRetrain (s : State) (nand : Bool) (ch : Nat) : Bool :=
  if nand then s.rd (FUR_CH_STS_STATE ch) == 0 || s.rd (FUR_CH_STS_STATE ch) == 4
  else s.rd (DRM_CFG_DPC ch) != 0 && (s.rd (DRM_STS_STATE ch) == 0 || s.rd (DRM_STS_STATE ch) == 5)

/-- TRAIN (R197, R248, R518). Where no request waits, the training that runs on the channel ends: `ok` and `rate` are its outcome. -/
def execTrain (c : Fin 64) (ok : Bool) (rate : Fin 5) (s : State) : Res :=
  .next (match s.cmdAt c fun o => o == 0xC703 with
    | none =>
      match s.bgOf c with
      | some { job := .train nand ch, done := false, .. } => (s.trainEnd nand ch ok rate).bgFinish c (if ok then 0 else 4)
      | _ => s
    | some _ => s.geltia c 0xC703 .a false [0] false [(0, 2)] fun t m =>
      let nand := m.byte 0 = 1
      let ch := m.byte 1
      if 1 < m.byte 0 || (if nand then 31 else 15) < ch then t.say m 2
      else if t.bgRuns c then t.say m 6
      else if !t.mayRetrain nand ch then t.say m 0xC004
      else (t.trainStart nand ch).bgStart m (.train nand ch))

/-! ## HEAL (R519) -/

/-- HEAL (R347 to R349, R519): the reply follows the heal. -/
def execHeal (c : Fin 64) (s : State) : Res :=
  .next (s.geltia c 0xC704 .a false [0] false [(8, 8)] fun t m =>
    let p := m.num 8 8
    match t.stageOf c with
    | 0 =>
      if 2 ^ 34 ≤ p then t.say m 2
      else if !(match t.rgnOfPage p with | none => true | some r => t.rgnSecure r == m.world) then t.say m 0xC001
      else if (t.tierOf p).state != .poisoned then t.say m 0xC01E
      else if !t.healable p then t.say m 0xC01F
      else (t.healAsk (p * 64) true .command wWIN).setStage c (t.yk.healNum + 1)
    | n =>
      match t.yk.healEnded.find? fun x => x.1 == n - 1 with
      | none => if (t.yk.heals ++ t.yk.healQ).any fun h => h.num == n - 1 then t else t.say m 0xC01F
      | some (_, code) => (t.onYk fun y => { y with healEnded := y.healEnded.filter fun x => x.1 != n - 1 }).say m (if code = 0 then 0 else 0xC01F))

/-! ## What no command takes (R468) -/

/-- The Geltia opcodes of R476. -/
def geltiaOps : List Nat :=
  [0xC000, 0xC001, 0xC002, 0xC003, 0xC004, 0xC100, 0xC101, 0xC102, 0xC103, 0xC104, 0xC105, 0xC106, 0xC107, 0xC200, 0xC201, 0xC202, 0xC300, 0xC301, 0xC302,
    0xC303, 0xC304, 0xC400, 0xC401, 0xC402, 0xC403, 0xC404, 0xC405, 0xC500, 0xC501, 0xC502, 0xC503, 0xC504, 0xC505, 0xC506, 0xC600, 0xC601, 0xC602, 0xC603,
    0xC604, 0xC700, 0xC701, 0xC702, 0xC703, 0xC704, 0xC705, 0xC706, 0xC800, 0xC801, 0xC900]
/-- The firmware commands, which a BMC channel may send too (R523). -/
def fwOps : List Nat := [0x0200, 0x0201, 0x0202]
/-- The standard commands of R525. -/
def cxlOps : List Nat :=
  [0x0001, 0x0002, 0x0100, 0x0101, 0x0102, 0x0103, 0x0300, 0x0301, 0x0400, 0x0401, 0x4000, 0x4200, 0x4201, 0x4202, 0x4203, 0x4204, 0x4300, 0x4301, 0x4302,
    0x4800, 0x4801, 0x4802, 0x4803]

/-- Is a standard command accepted from this sender (R468)? -/
def Cmd.stdOk (m : Cmd) : Bool := m.kind == 1 || (fwOps.contains m.op && decide (32 ≤ m.chan ∧ m.chan < 48))

/-- COMMAND_UNSUPPORTED (R468, R525): an opcode that chapter 15 does not list, or a standard command from any other sender. -/
def execCommandUnsupported (c : Fin 64) (s : State) : Res :=
  .next (match s.cmdAt c fun _ => true with
    | none => s
    | some m =>
      if s.recovers c then (if geltiaOps.contains m.op || fwOps.contains m.op then s else s.say m 6)
      else if geltiaOps.contains m.op || ((fwOps ++ cxlOps).contains m.op && m.stdOk) then s else s.say m 3)

end Sys2Proof.Machine
end

