-- ==== Sys2Proof/Machine/CxlCmds.lean ====
section
/-!
DEFINITION. Machine/CxlCmds.lean: the standard CXL memory-device commands (R106, R108, R523 to R525). Payload layouts are those of
CXL 3.1 (notes/assumptions, PRESUMED).
-/
namespace Sys2Proof.Machine
open Sys2Proof

/-- n bytes of the CXL payload from byte k. -/
def Cmd.pay (m : Cmd) (k n : Nat) : Nat := ofBytes ((m.raw.drop k).take n)
/-- Open bytes of a payload. -/
def openBytes (op k n : Nat) : List Byte := (List.range n).map fun i => Config.cxlByte op (k + i)
/-- n zero bytes. -/
def zeroBytes (n : Nat) : List Byte := List.replicate n 0

/-- A standard command from a sender that may use it (R468): a payload whose length `len` does not admit is answered Invalid Payload
Length. -/
def State.std (s : State) (c op : Nat) (len : Nat → Bool) (run : State → Cmd → State) : State :=
  match s.cmdAt c fun o => o == op with
  | none => s
  | some m => if !m.stdOk then s else if !len m.raw.length then s.replyCxl m 0x16 [] else run s m

/-- CXL_IDENTIFY: Identify (0x0001). -/
def execCxlIdentify (c : Fin 64) (s : State) : Res :=
  .next (s.std c 0x0001 (fun n => n == 0) fun t m =>
    t.replyCxl m 0 (leBytes ((t.otpWord 2).toNat % 65536) 2 ++ leBytes 0x6400 2 ++ leBytes ((t.otpWord 2).toNat % 65536) 2 ++
      leBytes ((t.otpWord 21).toNat % 65536) 2 ++ leBytes (t.otpWord 0).toNat 8 ++ [12, 3]))

/-- BACKGROUND_OPERATION_STATUS (0x0002, R473). -/
def execBackgroundOperationStatus (c : Fin 64) (s : State) : Res :=
  .next ((s.bgSettle c).std c 0x0002 (fun n => n == 0) fun t m =>
    match t.bgOf c with
    | none => t.replyCxl m 0 (zeroBytes 8)
    | some b => t.replyCxl m 0 ([BitVec.ofNat 8 ((if b.done then 0 else 1) + 2 * t.bgPct b), 0] ++ leBytes b.op 2 ++
        leBytes (if b.done then b.final else 0) 2 ++ [0, 0]))

/-! ## Event logs (R97, R106) -/

/-- UUID of the General Media, the Memory Module and the Dynamic Capacity event records, and of the Command Effects Log. -/
def uuidMedia : List Byte := [0xfb, 0xcd, 0x0a, 0x77, 0xc2, 0x60, 0x41, 0x7f, 0x85, 0xa9, 0x08, 0x8b, 0x16, 0x21, 0xeb, 0xa6]
/-- See `uuidMedia`. -/
def uuidModule : List Byte := [0xfe, 0x92, 0x74, 0x75, 0xdd, 0x59, 0x43, 0x39, 0xa5, 0x86, 0x79, 0xba, 0xb1, 0x13, 0xb7, 0x74]
/-- See `uuidMedia`. -/
def uuidDc : List Byte := [0xca, 0x95, 0xaf, 0xa7, 0xf1, 0x83, 0x40, 0x18, 0x8c, 0x2f, 0x95, 0x26, 0x8e, 0x10, 0x1a, 0x2a]
/-- See `uuidMedia`. -/
def uuidEffects : List Byte := [0x0d, 0xa9, 0xc0, 0xb5, 0xbf, 0x41, 0x4b, 0x78, 0x8f, 0x79, 0x96, 0xb1, 0x62, 0x3b, 0x3f, 0x17]

/-- The 48 bytes with which every record begins. -/
def eventHead (uuid : List Byte) (sev handle time : Nat) : List Byte :=
  uuid ++ [0x80, BitVec.ofNat 8 sev, 0, 0] ++ leBytes handle 2 ++ [0, 0] ++ leBytes time 8 ++ zeroBytes 16

/-- The tag of an extent (R96). -/
def extentTag (e : Extent) : List Byte := leBytes e.region 2 ++ [if e.write then 3 else 1] ++ zeroBytes 13
/-- An extent as the commands carry it: DPA, length, tag. -/
def extentBytes (e : Extent) : List Byte := leBytes (e.base * 2 ^ 30) 8 ++ leBytes (e.len * 2 ^ 30) 8 ++ extentTag e ++ zeroBytes 8

/-- An event record of a log of an LD as the host reads it. -/
def LdEvent.bytes (e : LdEvent) (handle : Nat) : List Byte :=
  match e.dpaLine with
  | some l => padTo 128 (eventHead uuidMedia (e.log - 1) handle e.time ++ leBytes (l * 64) 8 ++ openBytes 0x0100 (handle * 128 + 56) 2 ++ [2])
  | none => padTo 128 (eventHead uuidModule (e.log - 1) handle e.time ++ (if e.kind = 3 then [0] else openBytes 0x0100 (handle * 128 + 48) 1) ++
      openBytes 0x0100 (handle * 128 + 49) 18)

/-- The extent of a Dynamic Capacity event and its type. -/
def dcParts : DcEvent → Nat × Extent
  | .add e => (0, e)
  | .forcedRelease e => (2, e)
  | .configUpdated e => (3, e)

/-- A Dynamic Capacity event record as the host reads it. -/
def dcBytes (t handle : Nat) (e : DcEvent) : List Byte :=
  let (ty, x) := dcParts e
  padTo 120 (eventHead uuidDc 0 handle t ++ [BitVec.ofNat 8 ty, 0, 0, 0, BitVec.ofNat 8 (x.base / 8192), 0, 0, 0] ++ extentBytes x) ++
    openBytes 0x0100 (handle * 128 + 120) 8

/-- The handle of the i-th record that a log still holds. -/
def LdSt.handleOf (l : LdSt) (log i : Nat) : Nat := (mget (fun _ => 0) l.cleared log + i) % 65535 + 1

/-- The records that log `log` holds (1 Informational to 4 Fatal, 5 Dynamic Capacity), oldest first. -/
def LdSt.logRecs (l : LdSt) (log : Nat) : List (List Byte) :=
  if log = 5 then (l.dcLog.zip (List.range l.dcLog.length)).map fun x => dcBytes x.1.1 (l.handleOf 5 x.2) x.1.2
  else
    let es := l.events.filter fun e => e.log == log
    (es.zip (List.range es.length)).map fun x => x.1.bytes (l.handleOf log x.2)

/-- How many records a log holds. -/
def LdSt.logLen (l : LdSt) (log : Nat) : Nat := if log = 5 then l.dcLog.length else (l.events.filter fun e => e.log == log).length

/-- Drops the n oldest events of a log. -/
def dropLog (log : Nat) : Nat → List LdEvent → List LdEvent
  | 0, l => l
  | _, [] => []
  | n + 1, e :: t => if e.log = log then dropLog log n t else e :: dropLog log (n + 1) t

/-- The n oldest records of a log are cleared. -/
def LdSt.clearLog (l : LdSt) (log n : Nat) : LdSt :=
  let cl := mset (fun _ => 0) l.cleared log ((mget (fun _ => 0) l.cleared log + n) % 65535)
  if log = 5 then { l with cleared := cl, dcLog := l.dcLog.drop n, dcOverflow := l.dcOverflow && n == 0 }
  else { l with cleared := cl, events := dropLog log n l.events }

/-- GET_EVENT_RECORDS (0x0100, R97, R106). -/
def execGetEventRecords (c : Fin 64) (s : State) : Res :=
  .next (s.std c 0x0100 (fun n => n == 1) fun t m =>
    let log := m.pay 0 1 + 1
    if 5 < log then t.replyCxl m 2 []
    else
      let l := t.ldOf (t.ldKey m.source)
      let rs := (l.logRecs log).take 31
      let overfl := log == 5 && l.dcOverflow
      t.replyCxl m 0 ([(if overfl then 1 else 0) + (if 31 < l.logLen log then 2 else 0), 0] ++
        (if overfl then openBytes 0x0100 2 18 else zeroBytes 18) ++ leBytes rs.length 2 ++ zeroBytes 10 ++ rs.flatten))

/-- CLEAR_EVENT_RECORDS (0x0101): the records named, which must be the oldest of their log in order, or all. -/
def execClearEventRecords (c : Fin 64) (s : State) : Res :=
  .next (s.std c 0x0101 (fun n => decide (6 ≤ n)) fun t m =>
    let log := m.pay 0 1 + 1
    let n := m.pay 2 1
    let k := t.ldKey m.source
    let l := t.ldOf k
    if 5 < log then t.replyCxl m 2 []
    else if m.pay 1 1 % 2 = 1 then (t.onLd k fun x => x.clearLog log (x.logLen log)).replyCxl m 0 []
    else if m.raw.length ≠ 6 + 2 * n then t.replyCxl m 0x16 []
    else if l.logLen log < n || !((List.range n).all fun i => m.pay (6 + 2 * i) 2 == l.handleOf log i) then t.replyCxl m 0xE []
    else (t.onLd k fun x => x.clearLog log n).replyCxl m 0 [])

/-- GET_EVENT_INTERRUPT_POLICY (0x0102): for each log the mode and the vector of R90. -/
def execGetEventInterruptPolicy (c : Fin 64) (s : State) : Res :=
  .next (s.std c 0x0102 (fun n => n == 0) fun t m =>
    t.replyCxl m 0 ((List.range 5).map fun i =>
      BitVec.ofNat 8 (getBits (t.ldOf (t.ldKey m.source)).policy.toNat (8 * i) 2 + 16 * logVec (i + 1))))

/-- SET_EVENT_INTERRUPT_POLICY (0x0103): modes 0 none, 1 MSI-X, 2 firmware. -/
def execSetEventInterruptPolicy (c : Fin 64) (s : State) : Res :=
  .next (s.std c 0x0103 (fun n => n == 4 || n == 5) fun t m =>
    let n := m.raw.length
    if (List.range n).any fun i => m.pay i 1 % 4 == 3 then t.replyCxl m 2 []
    else
      let old := (t.ldOf (t.ldKey m.source)).policy.toNat
      let v := (List.range n).foldl (fun x i => putBits x (8 * i) 2 (m.pay i 1 % 4)) old
      (t.onLd (t.ldKey m.source) fun l => { l with policy := BitVec.ofNat 64 v }).replyCxl m 0 [])

/-! ## Firmware (R523, R524) -/

/-- The two decimal digits of a number below 100, in ASCII, or its three digits. -/
def decimal (n : Nat) : List Byte :=
  (if 100 ≤ n then [BitVec.ofNat 8 (48 + n / 100)] else []) ++ (if 10 ≤ n then [BitVec.ofNat 8 (48 + n / 10 % 10)] else []) ++ [BitVec.ofNat 8 (48 + n % 10)]

/-- The revision text of the image in a bank, empty where there is none. -/
def State.revision (s : State) (b : Nat) : List Byte :=
  if s.eflBytes b 0 4 == [0x47, 0x48, 0x4C, 0x44] then decimal (s.eflByte b 6) ++ [0x2E] ++ decimal (s.eflByte b 7) ++ [0x2E] ++ decimal (s.eflByte b 8) else []

/-- The running slot: 1 bank A, 2 bank B, 0 none. -/
def State.slotRun (s : State) : Nat := match s.efl.running with | none => 0 | some b => b + 1
/-- The slot that the next cold reset will try first where it is not the running one, else 0. -/
def State.slotNext (s : State) : Nat := match s.bootOrder with | [] => 0 | b :: _ => if b + 1 = s.slotRun then 0 else b + 1

/-- GET_FW_INFO (0x0200, R523, R524): two slots, activation online, the slots' revisions. -/
def execGetFwInfo (c : Fin 64) (s : State) : Res :=
  .next (s.std c 0x0200 (fun n => n == 0) fun t m =>
    t.replyCxl m 0 ([2, BitVec.ofNat 8 (t.slotRun + 8 * t.slotNext), 1] ++ zeroBytes 13 ++ padTo 16 (t.revision 0) ++ padTo 16 (t.revision 1) ++ zeroBytes 32))

/-- Changes the open transfer. -/
def State.onFw (s : State) (f : FwXfer → FwXfer) : State := s.onCs fun k => { k with fw := k.fw.map f }
/-- Bytes as the words of the array. -/
def wordsOf (d : List Byte) : List (BitVec 256) := (List.range (d.length / 32)).map fun i => BitVec.ofNat 256 (ofBytes ((d.drop (32 * i)).take 32))

/-- A part is programmed through the ROM routine; `bad` are the words whose read-back differs. -/
def State.fwProgram (s : State) (b off : Nat) (d : List Byte) (bad : List Nat) : State × Bool :=
  let ws := wordsOf d
  let fail := bad.any fun i => decide (i < ws.length)
  if ws.isEmpty then (s, true)
  else match s.programErr b (off / 32) ws.length with
    | some e => (s.eflEnd 1 e, false)
    | none => ((s.programWords b (off / 32) bad ws 0).eflEnd 1 (if fail then 5 else 0), !fail)

/-- No transfer is open. -/
def State.fwClose (s : State) : State := s.onCs fun k => { k with fw := none }

/-- The erase of a transfer goes on: the next sector's erase begins; after the last the first part is programmed, and an image that came
whole is checked. -/
def State.fwErase (s : State) (f : FwXfer) (bad : List Nat) : State :=
  if s.efl.erase.isSome then s
  else if f.busy && s.incmp f.bank f.sector then (s.bgFinish f.chan 4).fwClose
  else
    let n := if f.busy then f.sector + 1 else f.sector
    if n < 192 then (s.eraseBegin f.bank n).onFw fun x => { x with sector := n, busy := true }
    else
      let (t, ok) := (s.onFw fun x => { x with sector := 192, busy := false, data := [], next := f.data.length }).fwProgram f.bank 0 f.data bad
      if !ok then (t.bgFinish f.chan 4).fwClose
      else if f.full then (t.bgFinish f.chan (if t.imageOk f.bank then 0 else 0xA)).fwClose
      else t.bgFinish f.chan 0

/-- A part of a transfer: 1 Initiate and 0 Full open one, 2 Continue, 3 End, 4 Abort. -/
def State.fwPart (s : State) (m : Cmd) (bad : List Nat) : State :=
  let act := m.pay 0 1
  let slot := m.pay 1 1
  let off := m.pay 4 4 * 128
  let d := m.raw.drop 128
  if 4 < act then s.replyCxl m 2 []
  else if 3968 < d.length || d.length % 128 ≠ 0 then s.replyCxl m 0x16 []
  else match s.cs.fw with
    | none =>
      if 2 ≤ act then s.replyCxl m 9 []
      else if slot = 0 || 2 < slot || slot = s.slotRun then s.replyCxl m 0xB []
      else if off ≠ 0 then s.replyCxl m 9 []
      else if s.bgRuns m.chan then s.replyCxl m 6 []
      else
        let t := s.onCs fun k => { k with fw := some { chan := m.chan, bank := slot - 1, data := d, full := act = 0 } }
        (t.setBg m.chan { op := m.op, job := .erase, since := s.now, ld := m.ld }).replyCxl m 1 []
    | some f =>
      if f.chan ≠ m.chan || act ≤ 1 then s.replyCxl m 8 []
      else if act = 4 then
        if f.sector < 192 && s.bgRuns m.chan then ((s.bgFinish m.chan 4).fwClose).replyCxl m 0 [] else (s.fwClose).replyCxl m 0 []
      else if s.bgRuns m.chan then s.replyCxl m 6 []
      else if off ≠ f.next then s.replyCxl m 9 []
      else if 192 * 65536 < off + d.length then s.replyCxl m 2 []
      else if act = 3 && slot ≠ f.bank + 1 then s.replyCxl m 0xB []
      else if s.eflBusy then s
      else
        let (t, ok) := s.fwProgram f.bank off d bad
        if !ok then (t.fwClose).replyCxl m 4 []
        else if act = 2 then (t.onFw fun x => { x with next := off + d.length }).replyCxl m 0 []
        else (t.fwClose).replyCxl m (if t.imageOk f.bank then 0 else 0xA) []

/-- TRANSFER_FW (0x0201, R523). Where no request waits, the erase that runs on the channel goes on. `bad` are the words of the part
whose read-back differs. -/
def execTransferFw (c : Fin 64) (bad : List Nat) (s : State) : Res :=
  .next (match s.cmdAt c fun o => o == 0x0201 with
    | none => (match s.cs.fw with
      | some f => if f.chan = c.val && s.bgRuns c then s.fwErase f bad else s
      | none => s)
    | some _ => s.std c 0x0201 (fun n => decide (128 ≤ n)) fun t m => t.fwPart m bad)

/-- The first word of a bank's stamp sector behind the last that is not erased, 2,048 where it is full. -/
def State.stampFree (s : State) (b : Nat) : Nat :=
  match (List.range 2048).reverse.find? fun i => s.eflWord b (255 * 2048 + i) != BitVec.allOnes 256 with
  | none => 0
  | some i => i + 1

/-- The stamp word of R542. -/
def stampWord (n : Nat) : BitVec 256 :=
  BitVec.ofNat 256 (ofBytes (leBytes n 8 ++ leBytes (Config.crc32 (leBytes n 8)).toNat 4))

/-- Programs the bank's next install stamp, erasing the stamp sector first where it is full (R542). -/
def State.stampPut (s : State) (b : Nat) : State :=
  let n := max (s.installSeq 0) (s.installSeq 1) + 1
  let t := if s.stampFree b = 2048 then ((s.eflErase b 255).setIncmp b 255 false).bump EFL_CNT_ERASES else s
  (t.programWords b (255 * 2048 + t.stampFree b) [] [stampWord n] 0).eflEnd 1 0

/-- ACTIVATE_FW (0x0202, R524, R542): action 0 online, 1 at the next cold reset. Where no request waits, the reset of an answered online
activation comes 1 ms after the reply. -/
def execActivateFw (c : Fin 64) (s : State) : Res :=
  .next (match s.cmdAt c fun o => o == 0x0202 with
    | none => (match s.cs.activate with
      | some t0 => if t0 + 1000000 ≤ s.now then (s.onCs fun k => { k with activate := none }).groupRequest (2 ^ 5) 1 else s
      | none => s)
    | some _ => s.std c 0x0202 (fun n => n == 2) fun t m =>
      let slot := m.pay 1 1
      if 1 < m.pay 0 1 then t.replyCxl m 2 []
      else if slot = 0 || 2 < slot || !t.imageOk (slot - 1) then t.replyCxl m 0xB []
      else if t.eflBusy || (t.efl.erase.isSome && t.stampFree (slot - 1) = 2048) then t
      else
        let u := (t.stampPut (slot - 1)).replyCxl m 0 []
        if m.pay 0 1 = 0 then u.onCs fun k => { k with activate := some t.now } else u)

/-! ## Time, logs, identity, health -/

/-- GET_TIMESTAMP (0x0300). -/
def execGetTimestamp (c : Fin 64) (s : State) : Res := .next (s.std c 0x0300 (fun n => n == 0) fun t m => t.replyCxl m 0 (leBytes t.stampTime 8))

/-- SET_TIMESTAMP (0x0301): Headland writes REC_TIME_SET (R619). -/
def execSetTimestamp (c : Fin 64) (s : State) : Res :=
  .next (s.std c 0x0301 (fun n => n == 8) fun t m => (t.writeTimeSet m.core (m.pay 0 8)).replyCxl m 0 [])

/-- The Command Effects Log: every command of chapter 15 with its effect bits, which the spec leaves open. -/
def effectsLog : List Byte := (fwOps ++ cxlOps ++ geltiaOps).flatMap fun op => leBytes op 2 ++ openBytes 0x0401 (2 * op) 2

/-- GET_SUPPORTED_LOGS (0x0400): the Command Effects Log alone. -/
def execGetSupportedLogs (c : Fin 64) (s : State) : Res :=
  .next (s.std c 0x0400 (fun n => n == 0) fun t m => t.replyCxl m 0 ([1, 0] ++ zeroBytes 6 ++ uuidEffects ++ leBytes effectsLog.length 4))

/-- GET_LOG (0x0401). -/
def execGetLog (c : Fin 64) (s : State) : Res :=
  .next (s.std c 0x0401 (fun n => n == 24) fun t m =>
    let off := m.pay 16 4
    let len := m.pay 20 4
    if m.raw.take 16 ≠ uuidEffects then t.replyCxl m 0x17 []
    else if effectsLog.length < off + len then t.replyCxl m 2 []
    else t.replyCxl m 0 ((effectsLog.drop off).take len))

/-- IDENTIFY_MEMORY_DEVICE (0x4000, R91): no static capacity, LSA size 0, a poison list of 256, an inject limit of 16. -/
def execIdentifyMemoryDevice (c : Fin 64) (s : State) : Res :=
  .next (s.std c 0x4000 (fun n => n == 0) fun t m =>
    t.replyCxl m 0 (padTo 16 (match t.efl.running with | none => [] | some b => t.revision b) ++ zeroBytes 24 ++ openBytes 0x4000 40 16 ++ zeroBytes 4 ++
      leBytes 256 3 ++ leBytes 16 2 ++ openBytes 0x4000 65 2 ++ leBytes 64 2))

/-- The 18 bytes of Get Health Info (R108, R525). -/
def State.healthInfo (s : State) (temp : Nat) : List Byte :=
  let h := s.healthBits % 4096
  [Config.cxlHealth 0 h, Config.cxlHealth 1 h] ++ openBytes 0x4200 2 1 ++ [BitVec.ofNat 8 (min 255 (s.lifeUsed / 10))] ++ leBytes temp 2 ++
    leBytes s.hv.dirtyShut 4 ++ leBytes (((List.range 16).map fun c => s.rd (DRM_ERR_CNT_CE c)).sum) 4 ++ leBytes (s.rd FUR_RECON_CNT_COUNT) 4

/-- GET_HEALTH_INFO (0x4200). `temp` is the device's temperature. -/
def execGetHealthInfo (c : Fin 64) (temp : BitVec 16) (s : State) : Res :=
  .next (s.std c 0x4200 (fun n => n == 0) fun t m => t.replyCxl m 0 (t.healthInfo temp.toNat))

/-- GET_ALERT_CONFIGURATION (0x4201): `alert` holds the enabled alerts in byte 0, the life-used threshold in byte 1, the over- and
under-temperature thresholds in bytes 2 to 5. -/
def execGetAlertConfiguration (c : Fin 64) (s : State) : Res :=
  .next (s.std c 0x4201 (fun n => n == 0) fun t m =>
    let a := (t.ldOf (t.ldKey m.source)).alert.toNat
    t.replyCxl m 0 ([BitVec.ofNat 8 a, 7] ++ openBytes 0x4201 2 1 ++ leBytes (getBits a 8 8) 1 ++ openBytes 0x4201 4 4 ++ leBytes (getBits a 16 32) 4 ++
      zeroBytes 4))

/-- SET_ALERT_CONFIGURATION (0x4202): actions 0 life used, 1 over-temperature, 2 under-temperature. -/
def execSetAlertConfiguration (c : Fin 64) (s : State) : Res :=
  .next (s.std c 0x4202 (fun n => n == 12) fun t m =>
    let v := m.pay 0 1
    let en := m.pay 1 1
    if 7 < v then t.replyCxl m 2 []
    else
      let k := t.ldKey m.source
      let a0 := (t.ldOf k).alert.toNat
      let a1 := (List.range 3).foldl (fun x i => if v.testBit i then putBits x i 1 (if en.testBit i then 1 else 0) else x) a0
      let a2 := if v.testBit 0 then putBits a1 8 8 (m.pay 2 1) else a1
      let a3 := if v.testBit 1 then putBits a2 16 16 (m.pay 4 2) else a2
      let a4 := if v.testBit 2 then putBits a3 32 16 (m.pay 6 2) else a3
      (t.onLd k fun l => { l with alert := BitVec.ofNat 64 a4 }).replyCxl m 0 [])

/-- GET_SHUTDOWN_STATE (0x4203, R108). -/
def execGetShutdownState (c : Fin 64) (s : State) : Res :=
  .next (s.std c 0x4203 (fun n => n == 0) fun t m => t.replyCxl m 0 (leBytes (t.ldOf (t.ldKey m.source)).shutdown 1))

/-- SET_SHUTDOWN_STATE (0x4204, R108): 0 clean, 1 dirty. -/
def execSetShutdownState (c : Fin 64) (s : State) : Res :=
  .next (s.std c 0x4204 (fun n => n == 1) fun t m =>
    if 1 < m.pay 0 1 then t.replyCxl m 2 []
    else (t.onLd (t.ldKey m.source) fun l => { l with shutdown := m.pay 0 1 }).replyCxl m 0 [])

/-! ## Poison (R106, R239, R240) -/

/-- The region of a line that an LD index may read or write. -/
def State.ldLine (s : State) (n line : Nat) (write : Bool) : Option Nat :=
  match s.rgnOfLine line with
  | none => none
  | some r => if s.bitOf (if write then TIN_RGN_LDWR_MASK r else TIN_RGN_LDRD_MASK r) n then some r else none

/-- One entry of the poison list: the address with its source, and the length in units of 64 bytes. -/
def poisonEntry (dpa src len : Nat) : List Byte := leBytes (dpa + src) 8 ++ leBytes len 4 ++ zeroBytes 4

/-- The poison list of an LD index over lines a to a + n − 1: POISONED pages as 4 KiB ranges, then its lost writes (R105). -/
def State.poisonList (s : State) (i a n : Nat) : List (List Byte) :=
  let pages := (s.win.tier.filter fun e => e.2.state == .poisoned && (s.ldLine i (e.1 * 64) false).isSome && decide (e.1 * 64 < a + n ∧ a < e.1 * 64 + 64)).map
    fun e => poisonEntry (e.1 * 4096) (if e.2.psrc = 2 then 1 else if e.2.psrc = 3 then 3 else 2) 64
  let ls := ((s.ldOf (s.ldKey i)).poisonList.filter fun l => (s.ldLine i l false).isSome && decide (a ≤ l ∧ l < a + n)).map fun l =>
    poisonEntry (l * 64) ((Config.cxlByte 0x4300 l).toNat % 8) 1
  pages ++ ls

/-- GET_POISON_LIST (0x4300): at most 254 entries in one reply and 256 in the list. -/
def execGetPoisonList (c : Fin 64) (s : State) : Res :=
  .next (s.std c 0x4300 (fun n => n == 16) fun t m =>
    let l := t.poisonList m.source (m.pay 0 8 / 64) (m.pay 8 8)
    let r := (l.take 256).take 254
    t.replyCxl m 0 ([(if 254 < l.length then 1 else 0) + (if 256 < l.length then 2 else 0), 0] ++
      (if 256 < l.length then openBytes 0x4300 2 8 else zeroBytes 8) ++ leBytes r.length 2 ++ zeroBytes 20 ++ r.flatten))

/-- The pages poisoned by Inject Poison, or on their way there. -/
def State.injected (s : State) : Nat :=
  (s.win.tier.filter fun e => e.2.state == .poisoned && e.2.psrc == 3).length + (s.win.poisoning.filter fun q => q.psrc == 3).length

/-- INJECT_POISON (0x4301, R239, R525): the reply follows the page's entry into POISONED. -/
def execInjectPoison (c : Fin 64) (s : State) : Res :=
  .next (s.std c 0x4301 (fun n => n == 8) fun t m =>
    let line := m.pay 0 8 / 64
    let p := line / 64
    if t.stageOf c != 0 then (if t.win.poisoning.any fun q => q.page == p then t else t.replyCxl m 0 [])
    else if (t.ldLine m.source line true).isNone then t.replyCxl m 0xF []
    else if (t.tierOf p).state == .poisoned then t.replyCxl m 0 []
    else if 16 ≤ t.injected then t.replyCxl m 0x10 []
    else (t.poisonStart p 3 0 0 false).setStage c 1)

/-- Does the write that Headland makes for a channel's command still run? -/
def State.fwWrites (s : State) (link ld c : Nat) : Bool :=
  (s.fab.xbar ++ s.fab.queue ++ s.fab.act).any fun r => r.src == .ld link ld (65536 + c)

/-- CLEAR_POISON (0x4302, R240, R525): the 64 bytes given rewrite the line; the reply follows the write. -/
def execClearPoison (c : Fin 64) (env : FabEnv) (s : State) : Res :=
  .next (s.std c 0x4302 (fun n => n == 72) fun t m =>
    let line := m.pay 0 8 / 64
    let k := t.ldKey m.source
    if t.stageOf c != 0 then (if t.fwWrites (k / 16) (k % 16) c then t else t.replyCxl m 0 [])
    else if (t.ldLine m.source line true).isNone then t.replyCxl m 0xF []
    else
      let r : Req := { id := 0, src := .ld (k / 16) (k % 16) (65536 + c), kind := .write, line := line, mask := fullMask, data := BitVec.ofNat 512 (m.pay 8 64) }
      (t.setStage c 1).submit r env)

/-! ## Dynamic Capacity (R95 to R98) -/

/-- The DC regions that an LD reports (R95): number and length in GiB. -/
def State.dcRegions (s : State) : List (Nat × Nat) :=
  (List.range 8).filterMap fun k =>
    let n := min 8192 (s.rd TIN_DPA_LIMIT_CAP_GIB - k * 8192)
    if n = 0 then none else some (k, n)

/-- GET_DC_CONFIGURATION (0x4800, R95). -/
def execGetDcConfiguration (c : Fin 64) (s : State) : Res :=
  .next (s.std c 0x4800 (fun n => n == 2) fun t m =>
    let all := t.dcRegions
    let first := m.pay 1 1
    let rs := (all.drop first).take (m.pay 0 1)
    if all.length ≤ first then t.replyCxl m 2 []
    else t.replyCxl m 0 ([BitVec.ofNat 8 all.length, BitVec.ofNat 8 rs.length] ++ zeroBytes 6 ++
      (rs.flatMap fun x => leBytes (x.1 * 2 ^ 43) 8 ++ leBytes (x.2 * 4) 8 ++ leBytes (x.2 * 2 ^ 30) 8 ++ leBytes (2 ^ 30) 8 ++ leBytes x.1 4 ++
        openBytes 0x4800 x.1 1 ++ zeroBytes 3) ++ openBytes 0x4800 8 16))

/-- The extents in an LD's list: those the host has accepted, whose region is valid and may be read (R96). -/
def State.dcList (s : State) (n : Nat) : List Extent :=
  (s.ldOf (s.ldKey n)).extents.filter fun e => e.accepted && s.rgnValid e.region && s.bitOf (TIN_RGN_LDRD_MASK e.region) n

/-- GET_DC_EXTENT_LIST (0x4801, R96). -/
def execGetDcExtentList (c : Fin 64) (s : State) : Res :=
  .next (s.std c 0x4801 (fun n => n == 8) fun t m =>
    let all := t.dcList m.source
    let first := m.pay 4 4
    let rs := (all.drop first).take (min 102 (m.pay 0 4))
    if all.length < first then t.replyCxl m 2 []
    else t.replyCxl m 0 (leBytes rs.length 4 ++ leBytes all.length 4 ++ openBytes 0x4801 8 4 ++ zeroBytes 4 ++ rs.flatMap extentBytes))

/-- The extents that a command lists: DPA and length. -/
def Cmd.extents (m : Cmd) : List (Nat × Nat) := (List.range (m.pay 0 4)).map fun i => (m.pay (8 + 24 * i) 8, m.pay (16 + 24 * i) 8)

/-- Is a listed extent this one? -/
def Extent.is (e : Extent) (x : Nat × Nat) : Bool := e.base * 2 ^ 30 == x.1 && e.len * 2 ^ 30 == x.2

/-- Is the payload as long as its list says? -/
def Cmd.extLen (m : Cmd) : Bool := m.raw.length == 8 + 24 * m.pay 0 4

/-- Drops the first extent that has been offered and not accepted. -/
def dropOffer : List Extent → List Extent
  | [] => []
  | e :: t => if e.accepted then e :: dropOffer t else t

/-- ADD_DC_RESPONSE (0x4802, R98): the extents listed are accepted; an empty list rejects the oldest offer. -/
def execAddDcResponse (c : Fin 64) (s : State) : Res :=
  .next (s.std c 0x4802 (fun n => decide (8 ≤ n)) fun t m =>
    let k := t.ldKey m.source
    if !m.extLen then t.replyCxl m 0x16 []
    else if m.extents.isEmpty then (t.onLd k fun l => { l with extents := dropOffer l.extents }).replyCxl m 0 []
    else if !(m.extents.all fun x => (t.ldOf k).extents.any fun e => e.is x && !e.accepted) then t.replyCxl m 0xF []
    else (t.onLd k fun l => { l with extents := l.extents.map fun e => if m.extents.any fun x => e.is x then { e with accepted := true } else e }).replyCxl m 0 [])

/-- RELEASE_DC (0x4803, R98). -/
def execReleaseDc (c : Fin 64) (s : State) : Res :=
  .next (s.std c 0x4803 (fun n => decide (8 ≤ n)) fun t m =>
    let k := t.ldKey m.source
    if !m.extLen then t.replyCxl m 0x16 []
    else if m.extents.isEmpty then t.replyCxl m 0x1E []
    else if !(m.extents.all fun x => (t.ldOf k).extents.any fun e => e.is x && e.accepted) then t.replyCxl m 0xF []
    else (t.onLd k fun l => { l with extents := l.extents.filter fun e => !(e.accepted && m.extents.any fun x => e.is x) }).replyCxl m 0 [])

/-- What an idle tick does: the crystal advances, background commands whose end has come end (R473), and running firmware tells the LDs
of a change in health status (R106, R614). -/
def State.idle (s : State) : State :=
  let t := s.cs.bg.foldl (fun (t : State) x => t.bgSettle x.1) s.tick
  let h := t.healthBits % 4096
  if h ≠ t.cs.health && !t.on EFL_WDT_STS_WINDOW && (List.range 4).any (fun n => t.coreState n == 2) then
    (t.onCs fun k => { k with health := h }).ldEventAll 3 1
  else t

end Sys2Proof.Machine
end

