-- ==== Sys2Proof/Machine/Bus.lean ====
section
/-!
DEFINITION. Machine/Bus.lean: a write and a read of control space (R11 to R17, R37 to R43, R56, R593): what reaches a register, what each
register does with it, and the rows of the accesses themselves.
-/
namespace Sys2Proof.Machine
open Sys2Proof

/-- A write as the register's block sees it: the requester, the instance and the register's place in its array, its key in `csr`, its row,
the mask of the bits written (one half of a 64-bit register, or all), the value in the register's own bit places, what the world outside
answers. -/
structure RegWr where
  a : Agent
  n : Nat
  k : Nat
  addr : Nat
  key : Nat
  d : RegDef
  m : Nat
  v : Nat
  env : BusEnv

/-- Is bit i written as 1? -/
def RegWr.bit (w : RegWr) (i : Nat) : Bool := w.v.testBit i
/-- The written bits lo to lo + n − 1. -/
def RegWr.fld (w : RegWr) (lo n : Nat) : Nat := getBits w.v lo n
/-- The register's value with what was written in its place. -/
def State.whole (s : State) (w : RegWr) : Nat := (s.rdW w.key &&& ~~~ BitVec.ofNat 64 w.m ||| BitVec.ofNat 64 w.v).toNat

/-- The fields are stored by their access codes (R12), but for the bits of `keep`: RW and RWS bits take the value, W1C bits clear. -/
def State.store (s : State) (w : RegWr) (keep : Nat) : State :=
  let k := BitVec.ofNat 64 (w.d.rw) &&& BitVec.ofNat 64 w.m &&& ~~~ BitVec.ofNat 64 keep
  let v := BitVec.ofNat 64 w.v
  s.wrW w.key ((s.rdW w.key &&& ~~~ k ||| (v &&& k)) &&& ~~~ (v &&& BitVec.ofNat 64 w.d.w1c))

/-- The fields are stored whole. -/
def State.put (s : State) (w : RegWr) : State := s.store w 0

/-- Stores a register with two fields that must keep an order: where the new lower bound is not below the new upper bound, the field at
`lo` of width `n` keeps its value. -/
def State.putOrder (s : State) (w : RegWr) (lo n : Nat) (ok : Bool) : State :=
  if ok then s.put w else s.store w (2 ^ lo * (2 ^ n - 1))

/-- A register with world fields (R56): once the lock is set they keep their values, and a write that would change one is recorded. -/
def State.putWorld (s : State) (w : RegWr) (mask : Nat) : State :=
  if !s.locked then s.put w
  else
    let x := (BitVec.ofNat 64 (s.whole w) ^^^ s.rdW w.key) &&& BitVec.ofNat 64 mask
    let t := s.store w mask
    if x = 0 then t else t.badAccess w.a true (w.m == 2 ^ 64 - 1) 6 w.addr (BitVec.ofNat 64 w.v)

/-! ## What each window's registers do -/

/-- The fault registers, the same in every window i (R593, R597). -/
def State.wrCommon (s : State) (i : Nat) (w : RegWr) : State :=
  if w.d.off = 0x40 then s.writeFltSts i w.v
  else if w.d.off = 0x58 then s.writeFltInj i w.v
  else s.put w

/-- Host port registers. -/
def State.wrHpt (s : State) (w : RegWr) : State :=
  match w.d.name with
  | "HPT_BIFUR" => s.writeBifur w.a w.n (w.fld 0 2)
  | "HPT_FENCE_CTL" => ((s.put w).writeSubFence w.n (w.fld 0 4)).writeSubUnfence w.n (w.fld 4 4)
  | "HPT_DEVLOAD" => s.writeDevload w.a w.n w.v
  | "HPT_LCTL" =>
    let t := s.store w (2 ^ 31)
    let u := if w.bit 31 != t.on (HPT_LCTL_ENABLE w.n w.k) then t.writeEnable w.n w.k (w.bit 31) else t
    if w.bit 30 then u.writeRetrain w.n w.k else u
  | "HPT_LDMBX" => s.writeLdmbx w.a w.k w.v
  | _ => s.put w

/-- Network port registers. -/
def State.wrNpt (s : State) (w : RegWr) : State :=
  match w.d.name with
  | "NPT_CTL" => s.writeNpt w.a w.n w.v
  | _ => s.put w

/-- The common tine window. -/
def State.wrTin (s : State) (w : RegWr) : State :=
  match w.d.name with
  | "TIN_DPA_LIMIT" => s.writeDpaLimit w.a w.v
  | "TIN_WORLD_LOCK" => if w.bit 0 then s.wr TIN_WORLD_LOCK_LOCK 1 else s
  | "TIN_WORLD_HDL" => s.putWorld w 0xE
  | "TIN_WORLD_MBX" => s.putWorld w 0xFFFF0000FFFFFFFF
  | "TIN_WORLD_KEYS" => s.putWorld (if 256 < w.fld 0 9 then { w with v := putBits w.v 0 9 256 } else w) 0x1FF
  | "TIN_LDB" => s.putWorld w 0x10000
  | "TIN_CGB" => s.putWorld w 0x10000
  | "TIN_RGN_COMMIT" => s.writeRgnCommit w.a (w.fld 8 2) (w.fld 0 8)
  | "TIN_CHK_LAST" => s.writeChkLast w.a w.v
  | "TIN_ALT_STS" => if w.bit 31 then s.wr TIN_ALT_STS_PEAK (s.rd TIN_ALT_STS_IN_USE) else s
  | _ => s.put w

/-- A tine cluster's window. -/
def State.wrTc (s : State) (w : RegWr) : State :=
  match w.d.name with
  | "TIN_CL_CTL" =>
    let t := if w.bit 0 then s.writeClusterFence w.a w.n else s
    if w.bit 1 then t.writeClusterUnfence w.a w.n else t
  | "TIN_TINE_FENCE" => s.writeTineFence w.a w.n w.v
  | "TIN_TINE_UNFENCE" => s.writeTineUnfence w.a w.n w.v
  | "TIN_CB_USE" => if w.bit 31 then s.wr (TIN_CB_USE_PEAK w.n) (s.rd (TIN_CB_USE_IN_USE w.n)) else s
  | "TIN_HINT_CTL" => if w.bit 0 then s.writeFlush w.n else s
  | _ => s.put w

/-- Near-cache registers. -/
def State.wrNch (s : State) (w : RegWr) : State :=
  match w.d.name with
  | "NCH_CTL" =>
    let on := (s.put w).on (NCH_CTL_CACHE_EN w.n)
    if on != s.on (NCH_CTL_CACHE_EN w.n) then (s.put w).writeCacheEn w.n on else s.put w
  | "NCH_FENCE_CTL" =>
    let t := if w.bit 0 then (s.put w).writeNcFence w.n else s.put w
    if w.bit 1 then t.writeNcUnfence w.n else t
  | "NCH_INV_CTL" =>
    let t := if w.bit 31 then s.writeInvGo w.a w.v else s
    if w.bit 30 then t.writeInvAll else t
  | "NCH_WAYDIS" => s.writeWaydis w.n w.k w.v
  | _ => s.put w

/-- DRAM channel registers. -/
def State.wrDrm (s : State) (w : RegWr) : State :=
  match w.d.name with
  | "DRM_CFG" => s.writeDrmCfg w.n w.v
  | "DRM_SCHED" =>
    let t := s.put w
    s.putOrder w 4 6 (decide (t.rd (DRM_SCHED_WR_LOW w.n) < t.rd (DRM_SCHED_WR_HIGH w.n)))
  | "DRM_SR" =>
    let t := if w.bit 30 then (s.put w).writeSrEnter w.n else s.put w
    if w.bit 29 then t.writeSrExit w.n else t
  | "DRM_FENCE_CTL" =>
    let t := (bitsOf (w.fld 0 4) (s.ranksOf w.n)).foldl (fun (u : State) r => u.writeDramFence w.a w.n (some r) w.v) (s.put w)
    let u := if w.bit 5 then t.writeDramFence w.a w.n none w.v else t
    if w.bit 6 then u.writeDramUnfence w.a w.n else u
  | "DRM_MR_CMD" =>
    let v := w.fld 0 28
    if !w.bit 31 then s.put w
    else match w.fld 28 2 with
      | 1 => (s.mrCommand w.n 1 v).wr (DRM_MR_DATA_DATA w.n) (ofBytes (w.env.data.take 1))
      | 3 => s.trainCompare w.n v w.env.pass
      | op => s.mrCommand w.n op v
  | "DRM_GEOM" => ((s.put w).showFrames).showPins
  | "DRM_SUBST_SRC" => ((s.put w).showFrames).showPins
  | "DRM_SUBST_DST" => ((s.put w).showFrames).showPins
  | "DRM_RMP" => let t := s.put w; t.wr (DRM_RMP_CTL_USED w.n) (t.remaps w.n).length
  | "DRM_RT" => (s.put w).reclass w.n
  | "DRM_DLY_CTL" => if w.bit 31 then s.wr (DRM_DLY_CTL_PENDING w.n) 1 else s
  | "DRM_DQ" => s.writeDelay w.n w.addr (w.v &&& w.d.rw)
  | "DRM_DQS" => s.writeDelay w.n w.addr (w.v &&& w.d.rw)
  | "DRM_CA" => s.writeDelay w.n w.addr (w.v &&& w.d.rw)
  | _ => s.put w

/-- Winnow's registers. -/
def State.wrWin (s : State) (w : RegWr) : State :=
  match w.d.name with
  | "WIN_FREE" =>
    let t := s.put w
    s.putOrder w 16 16 (decide (t.rd WIN_FREE_LOW < t.rd WIN_FREE_HIGH))
  | "WIN_CLEAN" =>
    let t := s.put w
    s.putOrder w 8 8 (decide (t.rd WIN_CLEAN_STOP < t.rd WIN_CLEAN_START))
  | "WIN_PIN_CTL" => if w.bit 31 then s.writePin w.a (w.fld 28 2) else s.put w
  | "WIN_RGN_POL" => s.writePol w.a w.k (s.whole w)
  | _ => s.put w

/-- Furrow's common registers. -/
def State.wrFur (s : State) (w : RegWr) : State :=
  match w.d.name with
  | "FUR_CTL" =>
    if w.bit 0 && !s.on FUR_CTL_ENABLE then (s.put w).furEnable w.env.ok else (s.put w).showSb
  | "FUR_GEOM" => if s.on FUR_GEOM_LOCKED then s else s.put w
  | "FUR_GEOM2" => if s.on FUR_GEOM_LOCKED then s else s.put w
  | "FUR_ENDUR" => if s.on FUR_GEOM_LOCKED then s else s.put w
  | "FUR_GC" =>
    let t := s.put w
    (s.putOrder w 16 16 (decide (t.rd FUR_GC_LOW < t.rd FUR_GC_HIGH))).showSb
  | _ => s.put w

/-- The 32-bit words that bytes spell. -/
def words32 (d : List Byte) : List (BitVec 32) := (List.range ((d.length + 3) / 4)).map fun i => BitVec.ofNat 32 (ofBytes ((d.drop (4 * i)).take 4))

/-- ONFI channel registers. -/
def State.wrFc (s : State) (w : RegWr) : State :=
  match w.d.name with
  | "FUR_CH_CTL" =>
    let t := s.put w
    let t1 := if w.bit 31 && s.rd (FUR_CH_STS_STATE w.n) = 0 then t.wr (FUR_CH_STS_STATE w.n) 1
      else if !w.bit 31 && (s.rd (FUR_CH_STS_STATE w.n) = 1 || s.rd (FUR_CH_STS_STATE w.n) = 2) then t.wr (FUR_CH_STS_STATE w.n) 0
      else t
    let t2 := if w.bit 30 then t1.flashFence w.n false 0x1F else t1
    if w.bit 29 then t2.writeFlashUnfence w.n else t2
  | "FUR_CH_LUN_FENCE" => (s.writeLunFence w.n (w.fld 0 16)).writeLunUnfence w.n (w.fld 16 16)
  | "FUR_CH_CMD" =>
    if !w.bit 31 then s.put w
    else
      let v := w.v % 2 ^ 31 &&& w.d.rw
      s.onfiStep w.a w.n v fun u => if getBits v 27 3 = 3 then u.xbufIn w.n (getBits v 12 13) (words32 w.env.data) else u
  | "FUR_CH_DLY_CTL" => if w.bit 31 then s.writeFlashApply w.n else s
  | "FUR_CH_DQ" => s.writeFlashDelay w.addr (w.v &&& w.d.rw)
  | "FUR_CH_DQS" => s.writeFlashDelay w.addr (w.v &&& w.d.rw)
  | _ => s.put w

/-- Harvest's registers. -/
def State.wrHrv (s : State) (w : RegWr) : State :=
  match w.d.name with
  | "HRV_CTL" =>
    let t := s.writeHrvCtl (w.fld 31 1) (w.fld 29 1) (w.fld 0 8)
    let u := if w.bit 28 then t.wr HRV_STS_FALLOW_HELD 0 else t
    if w.bit 30 then u.writeHrvStart w.a else u
  | "HRV_CAP" => s.writeHrvCfg w.a w.addr w.v
  | "HRV_BOARD" => s.writeHrvCfg w.a w.addr w.v
  | "HRV_STORE" => s.writeHrvCfg w.a w.addr w.v
  | "HRV_NAND" => s.writeHrvCfg w.a w.addr w.v
  | _ => s.put w

/-- Yoke's registers. -/
def State.wrYok (s : State) (w : RegWr) : State :=
  match w.d.name with
  | "YOK_CTL" =>
    let t := if w.bit 30 != s.on YOK_CTL_PAIRS then s.writePairs w.a (w.bit 30) else s
    if w.bit 31 != s.on YOK_CTL_ENABLE then t.yokEnable (w.bit 31) else t
  | "YOK_RSV_CTL" =>
    let t := if w.bit 31 then s.writeRsvGo w.a w.v else s.put w
    if w.bit 30 then t.writeRsvStop else t
  | _ => s.put w

/-- Drill's registers. -/
def State.wrDrl (s : State) (w : RegWr) : State :=
  match w.d.name with
  | "DRL_CTL" => s.writeDrlCtl w.v
  | "DRL_CONN_CMD" => if w.bit 31 then s.connCmd w.a (w.fld 24 4) (w.fld 0 12) else s.put w
  | "DRL_JQ_CMD" => if w.bit 31 then s.jqCmd w.a (w.fld 24 4) (w.fld 10 12) (w.fld 0 10) else s.put w
  | _ => s.put w

/-- The Granary's registers. -/
def State.wrGrn (s : State) (w : RegWr) : State :=
  match w.d.name with
  | "GRN_CTL" => if w.bit 0 != s.on GRN_CTL_ENABLE then s.writeGrnEnable (w.bit 0) else s
  | "GRN_CFG" => s.writeGrnCfg w.a w.v
  | "GRN_OWN" => if w.m % 2 ^ 32 = 0 then s else s.writeGrnMin w.a w.k (w.fld 0 21)
  | _ => s.put w

/-- The cipher engine's registers. -/
def State.wrCph (s : State) (w : RegWr) : State :=
  match w.d.name with
  | "CPH_CTL" =>
    let t := if w.bit 31 then (s.put w).selfTest else s.put w
    if w.bit 30 then t.alarm 5 else t
  | "CPH_ALARM_EN" =>
    if s.rdW w.key &&& 0x80000000 ≠ 0 then s
    else if w.bit 31 then (s.put w).wrW w.key ((s.put w).rdW w.key ||| 0x80000000) else s.put w
  | "CPH_ALARM_STS" => s.writeAlarmSts (BitVec.ofNat 7 w.v) w.env.present
  | "CPH_SLOT_CMD" => if w.bit 31 then s.slotCmd w.a (w.fld 28 3) (w.fld 26 2) (w.fld 0 12) else s.put w
  | "CPH_KLD" => s.wrW w.key (BitVec.ofNat 64 w.v)
  | "CPH_FJ_CTL" => if w.bit 31 then s.fwGo w.a (w.fld 24 2) (w.fld 0 4) (w.bit 23) else s.put w
  | "CPH_RSLOT" => if s.keyLoaded w.k then s else s.put w
  | _ => s.put w

/-- Headland's registers. -/
def State.wrHdl (s : State) (w : RegWr) : State :=
  match w.d.name with
  | "HDL_CORE_CTL" =>
    let t := if w.bit 31 then (s.put w).writeCoreFence w.a w.k else s.put w
    (if w.bit 30 then t.writeCoreUnfence w.a w.k else t).showOrphan
  | "HDL_IRQ_ROUTE" => (s.put w).showOrphan
  | _ => s.put w

/-- The mailbox registers. -/
def State.wrMbx (s : State) (w : RegWr) : State :=
  match w.d.name with
  | "MBX_SEND" => if w.bit 31 then s.writeMbxSend w.a (w.bit 30) (w.fld 0 6) else s.put w
  | "MBX_ACK" =>
    let x := s.whole w
    if w.bit 63 then s.writeMbxAck w.a (x.testBit 62) (getBits x 32 6) (getBits x 0 32) else s.put w
  | "MBX_SEM" => s.writeSem w.a w.k w.v
  | "MBX_SEM_FORCE" => if w.bit 31 then s.writeSemForce w.a (w.fld 0 5) else s.put w
  | _ => s.put w

/-- The embedded flash's registers (R529, R545): the routine's own registers take no write of firmware. -/
def State.wrEfl (s : State) (w : RegWr) : State :=
  match w.d.name with
  | "EFL_CMD" => s.ignored w.a w.addr w.v
  | "EFL_ADDR" => s.ignored w.a w.addr w.v
  | "EFL_WDATA" => s.badAccess w.a true (w.m == 2 ^ 64 - 1) 5 w.addr (BitVec.ofNat 64 w.v)
  | "EFL_WDT_CTL" =>
    let t := if s.on EFL_WDT_CTL_LOCK then s else s.put w
    let u := if w.bit 29 then t.wr EFL_WDT_CTL_LOCK 1 else t
    if w.bit 30 then u.kick else u
  | _ => s.put w

/-- The power window. -/
def State.wrPwr (s : State) (w : RegWr) : State :=
  match w.d.name with
  | "PWR_CTL" =>
    let t := if w.bit 31 then s.writePwrOn w.a w.env.flt w.env.test else s
    if w.bit 30 then t.writePwrOff w.a else t
  | "PWR_STS" => if w.bit 27 then s.writePwrFault else s
  | "PWR_CAP" =>
    if w.fld 0 10 ≠ 0 && w.fld 0 10 < s.rd PWR_VLOOP_STS_FLOOR_W then s.ignored w.a w.addr w.v else (s.put w).showOverCap
  | "PWR_PMB_CMD" => if w.bit 31 then s.pmbus w.v w.env.res w.env.data else s.put w
  | "PWR_PD_ON" => s.writePdOn w.a w.v
  | "PWR_PD_OFF" => s.writePdOff w.a w.v
  | "PWR_RAIL" =>
    if s.pwr = 0 || s.pwr = 5 || s.pwr = 6 then s.put w else s.badAccess w.a true (w.m == 2 ^ 64 - 1) 5 w.addr (BitVec.ofNat 64 w.v)
  | _ => s.put w

/-- The reset window. -/
def State.wrRst (s : State) (w : RegWr) : State :=
  match w.d.name with
  | "RST_GRP_CTL" =>
    let t := if w.fld 0 28 = 0 then s else s.writeGroups w.a (w.fld 0 28)
    if w.bit 31 then t.writeAdmit else t
  | _ => s.put w

/-- The recorder's window. -/
def State.wrRec (s : State) (w : RegWr) : State :=
  match w.d.name with
  | "REC_CLEAR" => s.writeRecClear w.a w.v
  | "REC_TIME_SET" =>
    if w.m == 2 ^ 64 - 1 then s.writeTimeSet w.a w.v else s.badAccess w.a true false 1 w.addr (BitVec.ofNat 64 w.v)
  | "REC_FW_CTL" => if w.bit 31 then s.writeFwCtl w.a (w.fld 16 8) (w.fld 0 6) else s.put w
  | _ => s.put w

/-- Tithe's window. -/
def State.wrTth (s : State) (w : RegWr) : State :=
  match w.d.name with
  | "TTH_CFG" => s.writeTitheCfg w.a w.v
  | "TTH_REL" => s.writeTitheRel w.a w.v
  | _ => s.put w

/-- A register of window i takes a write. -/
def State.wrReg (s : State) (i : Nat) (w : RegWr) : State :=
  if w.d.off < 0x100 then s.wrCommon i w
  else match (winBlk i).1 with
    | .hpt => s.wrHpt w | .npt => s.wrNpt w | .tin => s.wrTin w | .tc => s.wrTc w | .nch => s.wrNch w | .drm => s.wrDrm w
    | .hrw => s.put w | .win => s.wrWin w | .fur => s.wrFur w | .fc => s.wrFc w | .hrv => s.wrHrv w | .yok => s.wrYok w
    | .drl => s.wrDrl w | .grn => s.wrGrn w | .cph => s.wrCph w | .hdl => s.wrHdl w | .mbx => s.wrMbx w | .efl => s.wrEfl w
    | .pwr => s.wrPwr w | .rst => s.wrRst w | .recd => s.wrRec w | .tth => s.wrTth w

/-! ## What an access reaches -/

/-- The apertures: first and last offset (R450, R621, R637). -/
def aperture (i off : Nat) : Bool :=
  match (winBlk i).1 with
  | .mbx => decide (0x2000 ≤ off ∧ off < 0x3000)
  | .recd => decide (0x8000 ≤ off)
  | .tth => decide (0x1000 ≤ off ∧ off < 0x2000)
  | _ => false

/-- Offsets that are defined and hold nothing: the reserved ones of every window (R38), and those of registers that only instance 0 has
(R112, R174). -/
def silent (i off : Nat) : Bool :=
  decide (0x08 ≤ off ∧ off < 0x40) || decide (0x5C ≤ off ∧ off < 0x100) ||
    (match winBlk i with
     | (.hpt, n) => n != 0 && decide (0x200 ≤ off ∧ off < 0x300)
     | (.nch, n) => n != 0 && decide (0x110 ≤ off ∧ off < 0x128)
     | _ => false)

/-- The mailbox channel whose registers an offset of the mailbox window holds, if it holds any. -/
def mbxChanAt (off : Nat) : Option Nat := if 0x4000 ≤ off ∧ off < 0x8000 then some ((off - 0x4000) / 0x100) else none

/-- May a requester reach a mailbox channel (R456)? -/
def State.seesChan (s : State) (a : Agent) (c : Nat) : Bool :=
  if a == .sb then decide (32 ≤ c ∧ c < 48) else s.agentSecure a == s.chanSecure c

/-- Does R456 hide an offset of the mailbox window from a requester? -/
def State.mbxHidden (s : State) (a : Agent) (off : Nat) : Bool :=
  if 0x2000 ≤ off ∧ off < 0x3000 then !s.seesChan a (s.rd (MBX_APER_SEL_CHANNEL.bank a))
  else match mbxChanAt off with
    | some c => !s.seesChan a c
    | none => a == .sb && !(decide (off < 0x180) || decide (0x800 ≤ off ∧ off < 0x900))

/-- Where an access ends. -/
inductive Reach where
  | bad (reason : Nat)          -- not performed, and recorded with this reason (R615)
  | quiet                       -- reads zero, writes nothing, no record
  | reg (w : Nat) (d : RegDef) (k byte : Nat)
  | aper (w off : Nat)
  deriving DecidableEq, Repr

/-- Where an access of 32 or 64 bits ends (R16, R38, R39, R42). -/
def State.reach (s : State) (a : Agent) (wr wide : Bool) (addr : Nat) : Reach :=
  if addr % (if wide then 8 else 4) ≠ 0 then .bad 1
  else match winIdx addr with
    | none => .bad 2
    | some i =>
      let off := addr % 0x10000
      if a == .sb && !sbWindow i && (wr || decide (0x40 ≤ off)) then .bad 3
      else if decide (0x40 ≤ off) && !s.powered i then .bad 4
      else if silent i off then .quiet
      else if aperture i off then (if i = 94 && s.mbxHidden a off then (if wr then .bad 5 else .quiet) else .aper i off)
      else match findReg i off with
        | none => .bad 2
        | some (d, k, b) =>
          if wide && !d.w64 then .bad 1
          else if i = 94 && s.mbxHidden a off then (if wr then .bad 5 else .quiet)
          else .reg i d k b

/-- The key of a register in `csr`: banked registers have one per requester. -/
def regKey (a : Agent) (i : Nat) (d : RegDef) (k : Nat) : Nat :=
  let addr := 0x40000000 + i * 0x10000 + d.off + d.stride * k
  if d.banked then bankKey a addr else addr

/-- An aperture takes a write: the mailboxes' bulk buffers alone hold it (R450, R621). -/
def State.aperWrite (s : State) (a : Agent) (i off : Nat) (wide : Bool) (addr : Nat) (v : Word64) : State :=
  if i = 94 then
    let c := s.rd (MBX_APER_SEL_CHANNEL.bank a)
    let o := s.on (MBX_APER_SEL_DIR.bank a)
    s.onMb fun m => { m with bulk := wrBytes m.bulk (bulkBase c o + (off - 0x2000)) (leBytes v.toNat (if wide then 8 else 4)) }
  else s.badAccess a true wide 5 addr v

/-- The records that a write of one register queued, as R615 has them: a BAD_ACCESS record carries the access as it was made, its
address, width and value, and one write is recorded once. -/
def asMade (wide : Bool) (addr : Nat) (v : Word64) : Bool → List Rec → List Rec
  | _, [] => []
  | seen, r :: t =>
    if r.ty ≠ 0x04 then r :: asMade wide addr v seen t
    else if seen then asMade wide addr v true t
    else { r with pay := r.pay.take 1 ++ [if wide then 3 else 1] ++ (r.pay.drop 2).take 2 ++ leBytes addr 4 ++ leBytes v.toNat 8 } ::
      asMade wide addr v true t

/-- A register of window i takes a write of which it is known how it was made. -/
def State.wrRegAs (s : State) (i : Nat) (w : RegWr) (wide : Bool) (addr : Nat) (v : Word64) : State :=
  let n := s.rcd.queue.length
  let t := s.wrReg i w
  let q := t.rcd.queue.take n ++ asMade wide addr v false (t.rcd.queue.drop n)
  if q = t.rcd.queue then t else { t with rcd := { t.rcd with queue := q } }.wr REC_STS_QUEUED q.length

/-- A control-space write of 32 or 64 bits. -/
def State.ctrlWrite (s : State) (a : Agent) (addr : Nat) (wide : Bool) (v : Word64) (env : BusEnv) : State :=
  let t := s.dropShadow a
  match t.reach a true wide addr with
  | .bad r => t.badAccess a true wide r addr v
  | .quiet => t
  | .aper i off => t.aperWrite a i off wide addr v
  | .reg i d k b =>
    let base := 0x40000000 + i * 0x10000 + d.off + d.stride * k
    let m := if wide then 2 ^ 64 - 1 else 2 ^ (8 * b) * (2 ^ 32 - 1)
    let x := if wide then v.toNat else 2 ^ (8 * b) * (v.toNat % 2 ^ 32)
    t.wrRegAs i ⟨a, (winBlk i).2, k, base, regKey a i d k, d, m, x, env⟩ wide addr v

/-! ## Reads -/

/-- A register as it reads: WO bits as zero, and what is computed at the read. -/
def State.liveReg (s : State) (i : Nat) (d : RegDef) (k key : Nat) : Nat :=
  let v := (s.rdW key &&& ~~~ BitVec.ofNat 64 d.wo).toNat
  match d.name with
  | "CPH_RSLOT" => putBits (putBits v 61 1 (if s.slotSecure k then 1 else 0)) 47 9 (s.slotNamed k)
  | "HDL_IRQ_ROUTE" => putBits v 30 1 (if s.irqLine k then 1 else 0)
  | "HDL_CORE_STS" => putBits v 27 1 (if s.agentSecure (coreAgent k) then 1 else 0)
  | "EFL_OTP" => (s.otpRead k).toNat
  | "EFL_ERASE_STS" => (s.showErase.rdW key).toNat
  | "EFL_WDT_STS" =>
    match s.efl.resetAt with
    | some t => if s.on EFL_WDT_STS_WINDOW && s.rd EFL_WDT_STS_ESCALATED = 0 then ((s.wr EFL_WDT_STS_ABSENT_S (min 60 ((s.now - t) / 1000000000))).rdW key).toNat else v
    | none => v
  | "PWR_STS" => if s.on PWR_STS_FLT_DRIVEN then putBits v 25 1 0 else v
  | "FUR_GOV_ALLOW" => (s.govAccrue.rdW key).toNat
  | "YOK_RGN_LAG" => ((s.showLag k).rdW key).toNat
  | _ => if i < 100 then v else 0

/-- The bytes that an aperture shows from an offset (R450, R621, R637). -/
def State.aperRead (s : State) (a : Agent) (i off n : Nat) : List Byte :=
  if i = 94 then
    rdBytes s.mb.bulk (bulkBase (s.rd (MBX_APER_SEL_CHANNEL.bank a)) (s.on (MBX_APER_SEL_DIR.bank a)) + (off - 0x2000)) n
  else if i = 98 then s.recBytes (s.rd (REC_APER_SEL_PAGE.bank a) * 32768 + (off - 0x8000)) n
  else
    let num := s.rd (TTH_RD_SEL_FIRST.bank a) + (off - 0x1000) / 256
    let hit := s.th.ring.find? fun r => r.num == num && r.life == s.rd TTH_LIFE_LIFE
    match hit with
    | some r => ((padTo 256 r.bytes).drop ((off - 0x1000) % 256)).take n
    | none => List.replicate n 0

/-- A control-space read of 32 or 64 bits (R16, R17): the state after it, the value, and whether it was performed. -/
def State.ctrlRead (s : State) (a : Agent) (addr : Nat) (wide : Bool) : State × Nat × Bool :=
  let t := s.dropShadow a
  match t.reach a false wide addr with
  | .bad r => (t.badAccess a false wide r addr 0, 0, r != 1)
  | .quiet => (t, 0, true)
  | .aper i off => (if i = 98 then { t with fresh := t.fresh + 8 } else t, ofBytes (t.aperRead a i off (if wide then 8 else 4)), true)
  | .reg i d k b =>
    if i = 94 && d.off = 0x800 then
      let (u, v) := t.semRead a k
      (u, v, true)
    else
      let x := t.liveReg i d k (regKey a i d k)
      if wide then (t, x, true)
      else if !d.w64 then (t, x % 2 ^ 32, true)
      else if b = 0 then
        ({ t with shadow := ⟨a, addr, x / 2 ^ 32⟩ :: t.shadow }, x % 2 ^ 32, true)
      else match s.shadow.find? fun h => h.a == a && h.addr + 4 == addr with
        | some h => (t, h.hi, true)
        | none => (t, x / 2 ^ 32, true)

/-- A core's read: the data go back to it. -/
def State.coreRead (s : State) (a : Agent) (addr : Nat) (wide : Bool) : State :=
  let (t, v, _) := s.ctrlRead a addr wide
  t.emit (.ctrl a (BitVec.ofNat 64 v))

/-! ## The rows -/

/-- CTRL_REG_WRITE (R12 to R17, R56, R529, R573). -/
def execCtrlRegWrite (a : Agent) (addr : BitVec 32) (wide : Bool) (v : Word64) (env : BusEnv) (s : State) : Res :=
  .next (s.ctrlWrite a addr.toNat wide v env)

/-- Is the access one that R16 does not perform? -/
def State.badWidth (s : State) (a : Agent) (wr : Bool) (addr : Nat) (size : AccSize) : Bool :=
  match size with
  | .b1 => true
  | .b2 => true
  | .b4 => (match s.reach a wr false addr with | .bad 1 => true | _ => false)
  | .b8 => (match s.reach a wr true addr with | .bad 1 => true | _ => false)

/-- BAD_WIDTH_ACCESS (R16, R615). -/
def execBadWidthAccess (a : Agent) (wr : Bool) (addr : BitVec 32) (size : AccSize) (v : Word64) (s : State) : Res :=
  .next (
    if !s.badWidth a wr addr.toNat size then s
    else
      let t := (s.dropShadow a).badAccess a wr (size == .b8) 1 addr.toNat (if wr then v else 0)
      if wr then t else t.emit (.ctrl a 0))

/-- LOW_HALF_READ (R17), and the 32-bit read of any register. -/
def execLowHalfRead (a : Agent) (addr : BitVec 32) (s : State) : Res := .next (s.coreRead a addr.toNat false)

/-- HIGH_HALF_READ (R17). -/
def execHighHalfRead (a : Agent) (addr : BitVec 32) (s : State) : Res := .next (s.coreRead a addr.toNat false)

/-- An access that ends with a given reason is ignored, or reads zero, and is recorded; any other is no access of this row. -/
def State.turnedAway (s : State) (a : Agent) (wr : Bool) (addr : Nat) (wide : Bool) (v : Word64) (reason : Nat) : State :=
  match s.reach a wr wide addr with
  | .bad r =>
    if r = reason then
      let t := (s.dropShadow a).badAccess a wr wide r addr (if wr then v else 0)
      if wr then t else t.emit (.ctrl a 0)
    else s
  | _ => s

/-- UNASSIGNED_ACCESS (R38). -/
def execUnassignedAccess (a : Agent) (wr : Bool) (addr : BitVec 32) (wide : Bool) (v : Word64) (s : State) : Res :=
  .next (s.turnedAway a wr addr.toNat wide v 2)

/-- SIDEBAND_WINDOW_DENIED (R39). -/
def execSidebandWindowDenied (wr : Bool) (addr : BitVec 32) (wide : Bool) (v : Word64) (s : State) : Res :=
  .next (s.turnedAway .sb wr addr.toNat wide v 3)

/-- POWERED_OFF_WINDOW_ACCESS (R42). -/
def execPoweredOffWindowAccess (a : Agent) (wr : Bool) (addr : BitVec 32) (wide : Bool) (v : Word64) (s : State) : Res :=
  .next (s.turnedAway a wr addr.toNat wide v 4)

end Sys2Proof.Machine
end

