-- ==== Sys2Proof/Machine/Sideband.lean ====
section
/-!
DEFINITION. Machine/Sideband.lean: the I3C/SMBus sideband (R655 to R657) and the DDR reference clocks (R660).
-/
namespace Sys2Proof.Machine
open Sys2Proof

/-- Does the sideband target answer: the island is out of reset and VDDIO_SB holds (R583, R651)? -/
def State.sbUp (s : State) : Bool := !s.pw.held && !s.pw.sbBad

/-- A sideband write: one whose PEC fails is not performed, and its PEC byte is NACKed (R656). -/
def State.sbWrite (s : State) (pec : Bool) (addr : Nat) (wide : Bool) (v : Word64) (env : BusEnv) : State :=
  if !s.sbUp then s else if pec then s.ctrlWrite .sb addr wide v env else s.emit .sbNack

/-- SB_WRITE32 (R656). -/
def execSbWrite32 (pec : Bool) (addr : BitVec 32) (v : BitVec 32) (env : BusEnv) (s : State) : Res :=
  .next (s.sbWrite pec addr.toNat false (v.setWidth 64) env)

/-- SB_WRITE64 (R656). -/
def execSbWrite64 (pec : Bool) (addr : BitVec 32) (v : Word64) (env : BusEnv) (s : State) : Res :=
  .next (s.sbWrite pec addr.toNat true v env)

/-- The read phase (R656): status and data. -/
def State.sbReadPhase (s : State) (wide : Bool) : State :=
  let n := if wide then 8 else 4
  let t := s.onPw fun p => { p with sbRead := none }
  match s.pw.sbRead with
  | some ⟨w, true, addr⟩ =>
    if w != wide then t.emit (.sb 3 (List.replicate n 0))
    else
      let (u, v, ok) := t.ctrlRead .sb addr wide
      u.emit (.sb (if ok then 0 else 2) (leBytes v n))
  | some ⟨w, false, _⟩ => t.emit (.sb (if w == wide then 1 else 3) (List.replicate n 0))
  | none => t.emit (.sb 3 (List.replicate n 0))

/-- The phases of a sideband read: a write phase with an address, if there is one, and the read phase, if it follows. A failed PEC of the
write phase is NACKed. -/
def State.sbReads (s : State) (wide : Bool) (w : Option (BitVec 32)) (pec read : Bool) : State :=
  if !s.sbUp then s
  else
    let t := match w with
      | none => s
      | some a =>
        let u := s.onPw fun p => { p with sbRead := some ⟨wide, pec, a.toNat⟩ }
        if pec then u else u.emit .sbNack
    if read then t.sbReadPhase wide else t

/-- SB_READ32 (R656). -/
def execSbRead32 (w : Option (BitVec 32)) (pec : Bool) (read : Bool) (s : State) : Res := .next (s.sbReads false w pec read)

/-- SB_READ64 (R656). -/
def execSbRead64 (w : Option (BitVec 32)) (pec : Bool) (read : Bool) (s : State) : Res := .next (s.sbReads true w pec read)

/-- I3C_DYNAMIC_ADDRESS (R655): ENTDAA or SETDASA. -/
def execI3cDynamicAddress (addr : BitVec 7) (s : State) : Res :=
  .next (if s.sbUp then s.onPw fun p => { p with i3c := some addr.toNat } else s)

/-- I3C_RSTDAA (R655). -/
def execI3cRstdaa (s : State) : Res := .next (if s.sbUp then s.onPw fun p => { p with i3c := none } else s)

/-- SMBUS_SCL_TIMEOUT (R656). -/
def execSmbusSclTimeout (s : State) : Res := .next (s.onPw fun p => { p with sbRead := none })

/-- ALERT_RESPONSE (R655, R657): the target's own address, in SMBus mode, while it pulls SB_ALERT_N low. -/
def execAlertResponse (s : State) : Res :=
  .next (if s.sbUp && s.pw.i3c.isNone && s.mbxAlert then s.emit (.sbAra (0x58 + s.pw.strap)) else s)

/-! ## DDR references (R660) -/

/-- A switch of a reference, recorded with the power window's last event. -/
def State.refSwitch (s : State) (l : List Nat) : State :=
  (s.onPw fun p => { p with holdover := l }).record 0x06 wPWR (leBytes (s.rdW PWR_EVT_LAST).toNat 8)

/-- Does a reference's DRAM or ONFI channel have a command in flight? -/
def State.refBusy (s : State) (h : Nat) : Bool :=
  ((List.range 8).any fun i => !(s.chOf (8 * h + i)).q.isEmpty) ||
    (s.fur.ops.any fun o => !o.suspended && o.lun / 256 == h) || (s.fur.rds.any fun r => r.done.isNone && locLun r.loc / 256 == h)

/-- DDR_REFCLK_LOSS (R660). -/
def execDdrRefclkLoss (h : Fin 2) (s : State) : Res :=
  .next (if s.pw.holdover.contains h.val then s else s.refSwitch (s.pw.holdover ++ [h.val]))

/-- DDR_REFCLK_RETURN (R660). -/
def execDdrRefclkReturn (h : Fin 2) (s : State) : Res :=
  .next (if s.pw.holdover.contains h.val && !s.refBusy h then s.refSwitch (s.pw.holdover.filter fun x => x != h.val) else s)

end Sys2Proof.Machine
end

