-- ==== Sys2Proof/Machine/Dispatch.lean ====
section
/-!
DEFINITION. Machine/Dispatch.lean: the meaning of every command, one arm per constructor of Instr.
-/
namespace Sys2Proof.Machine
open Sys2Proof

def exec (i : Instr) (s : State) : Host.Outcome State Fault Refusal :=
  match i with
  | .ctrlRegWrite a addr wide v env => Sys2Proof.Machine.execCtrlRegWrite a addr wide v env s
  | .badWidthAccess a wr addr size v => Sys2Proof.Machine.execBadWidthAccess a wr addr size v s
  | .lowHalfRead a addr => Sys2Proof.Machine.execLowHalfRead a addr s
  | .highHalfRead a addr => Sys2Proof.Machine.execHighHalfRead a addr s
  | .unassignedAccess a wr addr wide v => Sys2Proof.Machine.execUnassignedAccess a wr addr wide v s
  | .sidebandWindowDenied wr addr wide v => Sys2Proof.Machine.execSidebandWindowDenied wr addr wide v s
  | .poweredOffWindowAccess a wr addr wide v => Sys2Proof.Machine.execPoweredOffWindowAccess a wr addr wide v s
  | .memWr link ld tag hpa data poison env => Sys2Proof.Machine.execMemWr link ld tag hpa data poison env s
  | .memWrPtl link ld tag hpa data mask poison env => Sys2Proof.Machine.execMemWrPtl link ld tag hpa data mask poison env s
  | .memRd link ld tag hpa env => Sys2Proof.Machine.execMemRd link ld tag hpa env s
  | .memInv link ld tag => Sys2Proof.Machine.execMemInv link ld tag s
  | .memClnEvct link ld tag => Sys2Proof.Machine.execMemClnEvct link ld tag s
  | .memSpecRd link ld hpa => Sys2Proof.Machine.execMemSpecRd link ld hpa s
  | .unsupportedM2sOpcode link ld op => Sys2Proof.Machine.execUnsupportedM2sOpcode link ld op s
  | .tierEntryReturn req => Sys2Proof.Machine.execTierEntryReturn req s
  | .specDataReturn req => Sys2Proof.Machine.execSpecDataReturn req s
  | .lockWayFreed req env => Sys2Proof.Machine.execLockWayFreed req env s
  | .modifyAfterReads req env => Sys2Proof.Machine.execModifyAfterReads req env s
  | .mirrorWaitReadResume req env => Sys2Proof.Machine.execMirrorWaitReadResume req env s
  | .cbLineFreedWrite req env => Sys2Proof.Machine.execCbLineFreedWrite req env s
  | .workSteal thief env => Sys2Proof.Machine.execWorkSteal thief env s
  | .drainAgeExpiry line env => Sys2Proof.Machine.execDrainAgeExpiry line env s
  | .frameReadyForDrain page frame => Sys2Proof.Machine.execFrameReadyForDrain page frame s
  | .writeQueueAccept line => Sys2Proof.Machine.execWriteQueueAccept line s
  | .tineFence a c m => Sys2Proof.Machine.execTineFence a c m s
  | .clusterFence a c => Sys2Proof.Machine.execClusterFence a c s
  | .fenceDrainEnd c => Sys2Proof.Machine.execFenceDrainEnd c s
  | .requestAbandon req => Sys2Proof.Machine.execRequestAbandon req s
  | .tineUnfence a c m => Sys2Proof.Machine.execTineUnfence a c m s
  | .clusterUnfence a c => Sys2Proof.Machine.execClusterUnfence a c s
  | .hintFlush a c => Sys2Proof.Machine.execHintFlush a c s
  | .altPeakClr a => Sys2Proof.Machine.execAltPeakClr a s
  | .cbUsePeakClr a c => Sys2Proof.Machine.execCbUsePeakClr a c s
  | .dpaLimitWrite a v => Sys2Proof.Machine.execDpaLimitWrite a v s
  | .worldLockSet a => Sys2Proof.Machine.execWorldLockSet a s
  | .chkLastClear a => Sys2Proof.Machine.execChkLastClear a s
  | .rgnOpNone a r => Sys2Proof.Machine.execRgnOpNone a r s
  | .rgnLoad a r => Sys2Proof.Machine.execRgnLoad a r s
  | .rgnCommit a r => Sys2Proof.Machine.execRgnCommit a r s
  | .rgnDestroy a r => Sys2Proof.Machine.execRgnDestroy a r s
  | .rgnDrainEnd => Sys2Proof.Machine.execRgnDrainEnd s
  | .rgnReleaseEnd => Sys2Proof.Machine.execRgnReleaseEnd s
  | .bifurModeWrite a p m => Sys2Proof.Machine.execBifurModeWrite a p m s
  | .sublinkEnableChange a p q on => Sys2Proof.Machine.execSublinkEnableChange a p q on s
  | .linkRetrain a p q => Sys2Proof.Machine.execLinkRetrain a p q s
  | .linkTrainDone p q rate width peerSwitch mldOk => Sys2Proof.Machine.execLinkTrainDone p q rate width peerSwitch mldOk s
  | .linkModeFail p q => Sys2Proof.Machine.execLinkModeFail p q s
  | .linkTrainRetryTimer p q => Sys2Proof.Machine.execLinkTrainRetryTimer p q s
  | .linkRecovery p q rate width replays => Sys2Proof.Machine.execLinkRecovery p q rate width replays s
  | .linkDown p q => Sys2Proof.Machine.execLinkDown p q s
  | .sublinkFence a p m => Sys2Proof.Machine.execSublinkFence a p m s
  | .sublinkUnfence a p m => Sys2Proof.Machine.execSublinkUnfence a p m s
  | .devloadWrite a p v => Sys2Proof.Machine.execDevloadWrite a p v s
  | .ldmbxWrite a n v => Sys2Proof.Machine.execLdmbxWrite a n v s
  | .perstAssert p q => Sys2Proof.Machine.execPerstAssert p q s
  | .hotReset p q => Sys2Proof.Machine.execHotReset p q s
  | .functionLevelReset link ld => Sys2Proof.Machine.execFunctionLevelReset link ld s
  | .cxlReset link ld => Sys2Proof.Machine.execCxlReset link ld s
  | .cxlResetEnd link ld => Sys2Proof.Machine.execCxlResetEnd link ld s
  | .getLdInfo link => Sys2Proof.Machine.execGetLdInfo link s
  | .getLdAllocations link => Sys2Proof.Machine.execGetLdAllocations link s
  | .fmApiUnsupported link op => Sys2Proof.Machine.execFmApiUnsupported link op s
  | .hdmDecoderCommit link ld idx r => Sys2Proof.Machine.execHdmDecoderCommit link ld idx r s
  | .dcEventRaise n => Sys2Proof.Machine.execDcEventRaise n s
  | .gpfPhase2 link ld => Sys2Proof.Machine.execGpfPhase2 link ld s
  | .missFillReturn line => Sys2Proof.Machine.execMissFillReturn line s
  | .prefetchReturn line => Sys2Proof.Machine.execPrefetchReturn line s
  | .rangeInvalidate a => Sys2Proof.Machine.execRangeInvalidate a s
  | .wholeCacheInvalidate a => Sys2Proof.Machine.execWholeCacheInvalidate a s
  | .rangeInvEnd b => Sys2Proof.Machine.execRangeInvEnd b s
  | .zeroSweepEnd b => Sys2Proof.Machine.execZeroSweepEnd b s
  | .cacheEnWrite a b on => Sys2Proof.Machine.execCacheEnWrite a b on s
  | .ncBankFence a b => Sys2Proof.Machine.execNcBankFence a b s
  | .ncBankUnfence a b => Sys2Proof.Machine.execNcBankUnfence a b s
  | .dramReadReturn t ecc => Sys2Proof.Machine.execDramReadReturn t ecc s
  | .refreshInterval c rank postpone => Sys2Proof.Machine.execRefreshInterval c rank postpone s
  | .mr4Poll c hot => Sys2Proof.Machine.execMr4Poll c hot s
  | .refreshMakeupBurst c rank => Sys2Proof.Machine.execRefreshMakeupBurst c rank s
  | .requestAged c idx => Sys2Proof.Machine.execRequestAged c idx s
  | .rowIdlePrecharge c bank => Sys2Proof.Machine.execRowIdlePrecharge c bank s
  | .caParityAlert c sub => Sys2Proof.Machine.execCaParityAlert c sub s
  | .panicRaise src => Sys2Proof.Machine.execPanicRaise src s
  | .panicFall src => Sys2Proof.Machine.execPanicFall src s
  | .srEnterRequest a c => Sys2Proof.Machine.execSrEnterRequest a c s
  | .srIdleEntry c => Sys2Proof.Machine.execSrIdleEntry c s
  | .srExitRequest a c => Sys2Proof.Machine.execSrExitRequest a c s
  | .mrWrite a c v => Sys2Proof.Machine.execMrWrite a c v s
  | .mrRead a c v data => Sys2Proof.Machine.execMrRead a c v data s
  | .mpcCommand a c v => Sys2Proof.Machine.execMpcCommand a c v s
  | .trainingReadCompare a c v pass => Sys2Proof.Machine.execTrainingReadCompare a c v pass s
  | .delayApply a c => Sys2Proof.Machine.execDelayApply a c s
  | .delayShadowLoad c => Sys2Proof.Machine.execDelayShadowLoad c s
  | .channelActivate a c => Sys2Proof.Machine.execChannelActivate a c s
  | .oscillatorDriftCheck c rank drift dly => Sys2Proof.Machine.execOscillatorDriftCheck c rank drift dly s
  | .harrowPatrolRead ecc => Sys2Proof.Machine.execHarrowPatrolRead ecc s
  | .rankFence a c m => Sys2Proof.Machine.execRankFence a c m s
  | .channelFence a c => Sys2Proof.Machine.execChannelFence a c s
  | .evacuationEnd c dst => Sys2Proof.Machine.execEvacuationEnd c dst s
  | .dramUnfence a c => Sys2Proof.Machine.execDramUnfence a c s
  | .epochStart => Sys2Proof.Machine.execEpochStart s
  | .epochEnd => Sys2Proof.Machine.execEpochEnd s
  | .flashDataStaged page => Sys2Proof.Machine.execFlashDataStaged page s
  | .demotionStart => Sys2Proof.Machine.execDemotionStart s
  | .ceilingDemotion r => Sys2Proof.Machine.execCeilingDemotion r s
  | .cleaningStart => Sys2Proof.Machine.execCleaningStart s
  | .frameMoveStart page dest => Sys2Proof.Machine.execFrameMoveStart page dest s
  | .moveCopyDone page dest clean => Sys2Proof.Machine.execMoveCopyDone page dest clean s
  | .moveSwitch page => Sys2Proof.Machine.execMoveSwitch page s
  | .poisonPageFinalize page => Sys2Proof.Machine.execPoisonPageFinalize page s
  | .metaRebuildDone => Sys2Proof.Machine.execMetaRebuildDone s
  | .pinOp a => Sys2Proof.Machine.execPinOp a s
  | .unpinOp a => Sys2Proof.Machine.execUnpinOp a s
  | .pinOpNone a three => Sys2Proof.Machine.execPinOpNone a three s
  | .pinOpDone => Sys2Proof.Machine.execPinOpDone s
  | .pinLoadDone r => Sys2Proof.Machine.execPinLoadDone r s
  | .regionPolicyWrite a r v => Sys2Proof.Machine.execRegionPolicyWrite a r v s
  | .governorAdmit page => Sys2Proof.Machine.execGovernorAdmit page s
  | .governorRecompute => Sys2Proof.Machine.execGovernorRecompute s
  | .stripeProgramDone loc fails re => Sys2Proof.Machine.execStripeProgramDone loc fails re s
  | .slotReadReturn loc out re => Sys2Proof.Machine.execSlotReadReturn loc out re s
  | .demandSuspend lun => Sys2Proof.Machine.execDemandSuspend lun s
  | .suspendedOpResume lun => Sys2Proof.Machine.execSuspendedOpResume lun s
  | .gcStart meta_ => Sys2Proof.Machine.execGcStart meta_ s
  | .relocationCas page => Sys2Proof.Machine.execRelocationCas page s
  | .superblockErase sb => Sys2Proof.Machine.execSuperblockErase sb s
  | .wearLevel => Sys2Proof.Machine.execWearLevel s
  | .retentionScan need => Sys2Proof.Machine.execRetentionScan need s
  | .lunReadyTimeout lun => Sys2Proof.Machine.execLunReadyTimeout lun s
  | .lunRetire a c m => Sys2Proof.Machine.execLunRetire a c m s
  | .rebuildDone => Sys2Proof.Machine.execRebuildDone s
  | .flashChannelFence a c => Sys2Proof.Machine.execFlashChannelFence a c s
  | .flashChannelUnfence a c => Sys2Proof.Machine.execFlashChannelUnfence a c s
  | .lunUnfence a c m => Sys2Proof.Machine.execLunUnfence a c m s
  | .onfiCommandByte a c ce b => Sys2Proof.Machine.execOnfiCommandByte a c ce b s
  | .onfiAddressByte a c ce b => Sys2Proof.Machine.execOnfiAddressByte a c ce b s
  | .onfiDataOut a c ce len => Sys2Proof.Machine.execOnfiDataOut a c ce len s
  | .onfiDataIn a c ce len data => Sys2Proof.Machine.execOnfiDataIn a c ce len data s
  | .onfiWaitReady a c ce => Sys2Proof.Machine.execOnfiWaitReady a c ce s
  | .onfiDelayApply a c => Sys2Proof.Machine.execOnfiDelayApply a c s
  | .furrowFormat a ok => Sys2Proof.Machine.execFurrowFormat a ok s
  | .harvestStart bad => Sys2Proof.Machine.execHarvestStart bad s
  | .plossDeglitched => Sys2Proof.Machine.execPlossDeglitched s
  | .harvestCommandStart a => Sys2Proof.Machine.execHarvestCommandStart a s
  | .harvestSeal ue lost fails used => Sys2Proof.Machine.execHarvestSeal ue lost fails used s
  | .harvestStoreFail n saveOk used => Sys2Proof.Machine.execHarvestStoreFail n saveOk used s
  | .fallowEnd a => Sys2Proof.Machine.execFallowEnd a s
  | .harvestConfigWrite a r v => Sys2Proof.Machine.execHarvestConfigWrite a r v s
  | .harvestArmed sb => Sys2Proof.Machine.execHarvestArmed sb s
  | .resowStart manifest tokens scan bad ue => Sys2Proof.Machine.execResowStart manifest tokens scan bad ue s
  | .resowSweep => Sys2Proof.Machine.execResowSweep s
  | .yokeFrameSend p => Sys2Proof.Machine.execYokeFrameSend p s
  | .yokeDataReceive h ents => Sys2Proof.Machine.execYokeDataReceive h ents s
  | .yokeAckReceive h naks errs => Sys2Proof.Machine.execYokeAckReceive h naks errs s
  | .yokeGapTimer p => Sys2Proof.Machine.execYokeGapTimer p s
  | .yokeRtoExpiry p fsn gen => Sys2Proof.Machine.execYokeRtoExpiry p fsn gen s
  | .yokeHeartbeat p path => Sys2Proof.Machine.execYokeHeartbeat p path s
  | .pathDownTimer p path => Sys2Proof.Machine.execPathDownTimer p path s
  | .pathRejoin p path => Sys2Proof.Machine.execPathRejoin p path s
  | .yokeStallTimer p => Sys2Proof.Machine.execYokeStallTimer p s
  | .yokeHelloReceive p path serial nonce gen pairs => Sys2Proof.Machine.execYokeHelloReceive p path serial nonce gen pairs s
  | .yokeHelloRspReceive p path serial nonce gen pairs tag => Sys2Proof.Machine.execYokeHelloRspReceive p path serial nonce gen pairs tag s
  | .yokeConfirmReceive p path tag => Sys2Proof.Machine.execYokeConfirmReceive p path tag s
  | .yokeHelloRepeat p => Sys2Proof.Machine.execYokeHelloRepeat p s
  | .yokeCloseReceive p path reason => Sys2Proof.Machine.execYokeCloseReceive p path reason s
  | .keygenRollover p => Sys2Proof.Machine.execKeygenRollover p s
  | .healReqReceive h num page line g0 g1 n0 n1 => Sys2Proof.Machine.execHealReqReceive h num page line g0 g1 n0 n1 s
  | .healRspReceive h num status data frame => Sys2Proof.Machine.execHealRspReceive h num status data frame s
  | .healTimeout num => Sys2Proof.Machine.execHealTimeout num s
  | .yokeMbxReceive h c hdr msg => Sys2Proof.Machine.execYokeMbxReceive h c hdr msg s
  | .yokeMbxAckReceive h csn => Sys2Proof.Machine.execYokeMbxAckReceive h csn s
  | .yokeMbxRepeat c => Sys2Proof.Machine.execYokeMbxRepeat c s
  | .roleResolve r marks => Sys2Proof.Machine.execRoleResolve r marks s
  | .lagLimitResume req env => Sys2Proof.Machine.execLagLimitResume req env s
  | .granuleClearTimer g => Sys2Proof.Machine.execGranuleClearTimer g s
  | .resilverGo a v => Sys2Proof.Machine.execResilverGo a v s
  | .resilverStop a => Sys2Proof.Machine.execResilverStop a s
  | .yokePairsWrite a on => Sys2Proof.Machine.execYokePairsWrite a on s
  | .drlWrite h ext data => Sys2Proof.Machine.execDrlWrite h ext data s
  | .drlRead h ext => Sys2Proof.Machine.execDrlRead h ext s
  | .drlAtomic h ext operand cmp => Sys2Proof.Machine.execDrlAtomic h ext operand cmp s
  | .drlJob h ext descs => Sys2Proof.Machine.execDrlJob h ext descs s
  | .drlJqRead h ext => Sys2Proof.Machine.execDrlJqRead h ext s
  | .drlMbxReceive h msg => Sys2Proof.Machine.execDrlMbxReceive h msg s
  | .drlErrorReceive h ext recs => Sys2Proof.Machine.execDrlErrorReceive h ext recs s
  | .drlAckReceive h sacks naks nobuf => Sys2Proof.Machine.execDrlAckReceive h sacks naks nobuf s
  | .drlKeepaliveReceive h => Sys2Proof.Machine.execDrlKeepaliveReceive h s
  | .drlCloseReceive h reason => Sys2Proof.Machine.execDrlCloseReceive h reason s
  | .drlHelloReceive h id ne code mode => Sys2Proof.Machine.execDrlHelloReceive h id ne code mode s
  | .drlConfirmReceive h ne nd => Sys2Proof.Machine.execDrlConfirmReceive h ne nd s
  | .orderedPresent n psn => Sys2Proof.Machine.execOrderedPresent n psn s
  | .finalPresent n => Sys2Proof.Machine.execFinalPresent n s
  | .drlAckSend n => Sys2Proof.Machine.execDrlAckSend n s
  | .drlGapTimer n => Sys2Proof.Machine.execDrlGapTimer n s
  | .drlRtoExpiry n psn => Sys2Proof.Machine.execDrlRtoExpiry n psn s
  | .drlIdleTimeout n => Sys2Proof.Machine.execDrlIdleTimeout n s
  | .drlOpeningTimeout n => Sys2Proof.Machine.execDrlOpeningTimeout n s
  | .drlKeepaliveTimer n path => Sys2Proof.Machine.execDrlKeepaliveTimer n path s
  | .drlCloseRepeat n => Sys2Proof.Machine.execDrlCloseRepeat n s
  | .connOpen a n => Sys2Proof.Machine.execConnOpen a n s
  | .connCloseOp a n => Sys2Proof.Machine.execConnCloseOp a n s
  | .connSnapshot a n => Sys2Proof.Machine.execConnSnapshot a n s
  | .drillPortRemove a v => Sys2Proof.Machine.execDrillPortRemove a v s
  | .addressResolutionRx n sub vlan => Sys2Proof.Machine.execAddressResolutionRx n sub vlan s
  | .netPortModeWrite a n v => Sys2Proof.Machine.execNetPortModeWrite a n v s
  | .netPortRetrain a n => Sys2Proof.Machine.execNetPortRetrain a n s
  | .netLinkUp n k lanes => Sys2Proof.Machine.execNetLinkUp n k lanes s
  | .netLinkDown n k => Sys2Proof.Machine.execNetLinkDown n k s
  | .netTrainFail n k => Sys2Proof.Machine.execNetTrainFail n k s
  | .pfcFrameReceive n pause resume => Sys2Proof.Machine.execPfcFrameReceive n pause resume s
  | .jqBind a q n => Sys2Proof.Machine.execJqBind a q n s
  | .jqUnbind a q => Sys2Proof.Machine.execJqUnbind a q s
  | .jqUnboundReached q => Sys2Proof.Machine.execJqUnboundReached q s
  | .jobStart q => Sys2Proof.Machine.execJobStart q s
  | .jobComplete => Sys2Proof.Machine.execJobComplete s
  | .jobWaitTimeout q => Sys2Proof.Machine.execJobWaitTimeout q s
  | .jqReadTimeout n psn => Sys2Proof.Machine.execJqReadTimeout n psn s
  | .pushPacketSend q => Sys2Proof.Machine.execPushPacketSend q s
  | .jobAllocRetry => Sys2Proof.Machine.execJobAllocRetry s
  | .granaryAlloc o => Sys2Proof.Machine.execGranaryAlloc o s
  | .granaryAddref b => Sys2Proof.Machine.execGranaryAddref b s
  | .granaryRelease b => Sys2Proof.Machine.execGranaryRelease b s
  | .granaryEnable a on => Sys2Proof.Machine.execGranaryEnable a on s
  | .granaryReady => Sys2Proof.Machine.execGranaryReady s
  | .granaryCountWrite a v => Sys2Proof.Machine.execGranaryCountWrite a v s
  | .granaryMinWrite a o m => Sys2Proof.Machine.execGranaryMinWrite a o m s
  | .keySlotLoad a cls idx => Sys2Proof.Machine.execKeySlotLoad a cls idx s
  | .keySlotErase a cls idx => Sys2Proof.Machine.execKeySlotErase a cls idx s
  | .keySlotForget a cls idx => Sys2Proof.Machine.execKeySlotForget a cls idx s
  | .slotCmdNone a op cls idx => Sys2Proof.Machine.execSlotCmdNone a op cls idx s
  | .cipherAlarm src => Sys2Proof.Machine.execCipherAlarm src s
  | .cipherForce a => Sys2Proof.Machine.execCipherForce a s
  | .deviceKeyRederived => Sys2Proof.Machine.execDeviceKeyRederived s
  | .alarmStatusClear a v present => Sys2Proof.Machine.execAlarmStatusClear a v present s
  | .cipherSelftest a => Sys2Proof.Machine.execCipherSelftest a s
  | .laneTestEnd pass => Sys2Proof.Machine.execLaneTestEnd pass s
  | .firmwareJob a mode dec slot => Sys2Proof.Machine.execFirmwareJob a mode dec slot s
  | .firmwareJobEnd => Sys2Proof.Machine.execFirmwareJobEnd s
  | .mbxSend a dir c => Sys2Proof.Machine.execMbxSend a dir c s
  | .mbxAck a dir c seq => Sys2Proof.Machine.execMbxAck a dir c seq s
  | .hwSenderPresent h => Sys2Proof.Machine.execHwSenderPresent h s
  | .outSlotDeliver c => Sys2Proof.Machine.execOutSlotDeliver c s
  | .mbxPollTimer => Sys2Proof.Machine.execMbxPollTimer s
  | .semRead a k => Sys2Proof.Machine.execSemRead a k s
  | .semRelease a k => Sys2Proof.Machine.execSemRelease a k s
  | .semForce a k => Sys2Proof.Machine.execSemForce a k s
  | .coreSleep n => Sys2Proof.Machine.execCoreSleep n s
  | .coreWake n => Sys2Proof.Machine.execCoreWake n s
  | .coreFence a n => Sys2Proof.Machine.execCoreFence a n s
  | .coreSelfCheckFail n => Sys2Proof.Machine.execCoreSelfCheckFail n s
  | .coreUnfence a n => Sys2Proof.Machine.execCoreUnfence a n s
  | .identify c => Sys2Proof.Machine.execIdentify c s
  | .health c temp => Sys2Proof.Machine.execHealth c temp s
  | .bgStatus c => Sys2Proof.Machine.execBgStatus c s
  | .accessSet c => Sys2Proof.Machine.execAccessSet c s
  | .worldConfig c => Sys2Proof.Machine.execWorldConfig c s
  | .capacitySet c => Sys2Proof.Machine.execCapacitySet c s
  | .regionCreate c => Sys2Proof.Machine.execRegionCreate c s
  | .regionRights c => Sys2Proof.Machine.execRegionRights c s
  | .regionAttr c => Sys2Proof.Machine.execRegionAttr c s
  | .regionDestroy c => Sys2Proof.Machine.execRegionDestroy c s
  | .regionInfo c => Sys2Proof.Machine.execRegionInfo c s
  | .ldBind c => Sys2Proof.Machine.execLdBind c s
  | .cgSet c => Sys2Proof.Machine.execCgSet c s
  | .durabilitySet c => Sys2Proof.Machine.execDurabilitySet c s
  | .placementSet c => Sys2Proof.Machine.execPlacementSet c s
  | .pinCommand c => Sys2Proof.Machine.execPinCommand c s
  | .sessionOpen c => Sys2Proof.Machine.execSessionOpen c s
  | .sessionClose c => Sys2Proof.Machine.execSessionClose c s
  | .keyLoad c => Sys2Proof.Machine.execKeyLoad c s
  | .keyErase c => Sys2Proof.Machine.execKeyErase c s
  | .keyStatus c => Sys2Proof.Machine.execKeyStatus c s
  | .pairSet c => Sys2Proof.Machine.execPairSet c s
  | .roleHandover c => Sys2Proof.Machine.execRoleHandover c s
  | .roleTake c => Sys2Proof.Machine.execRoleTake c s
  | .roleSplit c => Sys2Proof.Machine.execRoleSplit c s
  | .resilver c => Sys2Proof.Machine.execResilver c s
  | .yokeStatus c => Sys2Proof.Machine.execYokeStatus c s
  | .portSet c => Sys2Proof.Machine.execPortSet c s
  | .connOpenCommand c => Sys2Proof.Machine.execConnOpenCommand c s
  | .connCloseCommand c => Sys2Proof.Machine.execConnCloseCommand c s
  | .connInfo c => Sys2Proof.Machine.execConnInfo c s
  | .jqBindCommand c => Sys2Proof.Machine.execJqBindCommand c s
  | .jqUnbindCommand c => Sys2Proof.Machine.execJqUnbindCommand c s
  | .jqInfo c => Sys2Proof.Machine.execJqInfo c s
  | .harvestSet c => Sys2Proof.Machine.execHarvestSet c s
  | .storeDeclare c => Sys2Proof.Machine.execStoreDeclare c s
  | .harvestStatus c => Sys2Proof.Machine.execHarvestStatus c s
  | .harvestStartCommand c => Sys2Proof.Machine.execHarvestStartCommand c s
  | .powerCap c => Sys2Proof.Machine.execPowerCap c s
  | .faultList c => Sys2Proof.Machine.execFaultList c s
  | .fenceCommand c => Sys2Proof.Machine.execFenceCommand c s
  | .faultClear c => Sys2Proof.Machine.execFaultClear c s
  | .train c ok rate => Sys2Proof.Machine.execTrain c ok rate s
  | .heal c => Sys2Proof.Machine.execHeal c s
  | .recorderRead c => Sys2Proof.Machine.execRecorderRead c s
  | .recorderClear c => Sys2Proof.Machine.execRecorderClear c s
  | .titheRead c => Sys2Proof.Machine.execTitheRead c s
  | .titheInfo c => Sys2Proof.Machine.execTitheInfo c s
  | .sanitise c => Sys2Proof.Machine.execSanitise c s
  | .commandUnsupported c => Sys2Proof.Machine.execCommandUnsupported c s
  | .cxlIdentify c => Sys2Proof.Machine.execCxlIdentify c s
  | .backgroundOperationStatus c => Sys2Proof.Machine.execBackgroundOperationStatus c s
  | .getEventRecords c => Sys2Proof.Machine.execGetEventRecords c s
  | .clearEventRecords c => Sys2Proof.Machine.execClearEventRecords c s
  | .getEventInterruptPolicy c => Sys2Proof.Machine.execGetEventInterruptPolicy c s
  | .setEventInterruptPolicy c => Sys2Proof.Machine.execSetEventInterruptPolicy c s
  | .getFwInfo c => Sys2Proof.Machine.execGetFwInfo c s
  | .transferFw c bad => Sys2Proof.Machine.execTransferFw c bad s
  | .activateFw c => Sys2Proof.Machine.execActivateFw c s
  | .getTimestamp c => Sys2Proof.Machine.execGetTimestamp c s
  | .setTimestamp c => Sys2Proof.Machine.execSetTimestamp c s
  | .getSupportedLogs c => Sys2Proof.Machine.execGetSupportedLogs c s
  | .getLog c => Sys2Proof.Machine.execGetLog c s
  | .identifyMemoryDevice c => Sys2Proof.Machine.execIdentifyMemoryDevice c s
  | .getHealthInfo c temp => Sys2Proof.Machine.execGetHealthInfo c temp s
  | .getAlertConfiguration c => Sys2Proof.Machine.execGetAlertConfiguration c s
  | .setAlertConfiguration c => Sys2Proof.Machine.execSetAlertConfiguration c s
  | .getShutdownState c => Sys2Proof.Machine.execGetShutdownState c s
  | .setShutdownState c => Sys2Proof.Machine.execSetShutdownState c s
  | .getPoisonList c => Sys2Proof.Machine.execGetPoisonList c s
  | .injectPoison c => Sys2Proof.Machine.execInjectPoison c s
  | .clearPoison c env => Sys2Proof.Machine.execClearPoison c env s
  | .getDcConfiguration c => Sys2Proof.Machine.execGetDcConfiguration c s
  | .getDcExtentList c => Sys2Proof.Machine.execGetDcExtentList c s
  | .addDcResponse c => Sys2Proof.Machine.execAddDcResponse c s
  | .releaseDc c => Sys2Proof.Machine.execReleaseDc c s
  | .eflProgram n bank word data bad => Sys2Proof.Machine.execEflProgram n bank word data bad s
  | .eflErase n self bank sector => Sys2Proof.Machine.execEflErase n self bank sector s
  | .eflSuspend n => Sys2Proof.Machine.execEflSuspend n s
  | .eflResume n => Sys2Proof.Machine.execEflResume n s
  | .eflStatus n => Sys2Proof.Machine.execEflStatus n s
  | .eflAbort n => Sys2Proof.Machine.execEflAbort n s
  | .otpProgram n w v ok => Sys2Proof.Machine.execOtpProgram n w v ok s
  | .otpGenRoot n => Sys2Proof.Machine.execOtpGenRoot n s
  | .erasePulseEnd pass => Sys2Proof.Machine.execErasePulseEnd pass s
  | .romBoot otp dram nand => Sys2Proof.Machine.execRomBoot otp dram nand s
  | .wdtKick a => Sys2Proof.Machine.execWdtKick a s
  | .wdtExpiry cut => Sys2Proof.Machine.execWdtExpiry cut s
  | .wdtEscalation => Sys2Proof.Machine.execWdtEscalation s
  | .imageFlagActivation => Sys2Proof.Machine.execImageFlagActivation s
  | .pwrCtlOn a flt test => Sys2Proof.Machine.execPwrCtlOn a flt test s
  | .pwrCtlOff a => Sys2Proof.Machine.execPwrCtlOff a s
  | .plossRise => Sys2Proof.Machine.execPlossRise s
  | .railPgChange n level => Sys2Proof.Machine.execRailPgChange n level s
  | .railStable n => Sys2Proof.Machine.execRailStable n s
  | .railOnTimeout n => Sys2Proof.Machine.execRailOnTimeout n s
  | .railPgLost n => Sys2Proof.Machine.execRailPgLost n s
  | .pwrFltNFall => Sys2Proof.Machine.execPwrFltNFall s
  | .railOffDelay n => Sys2Proof.Machine.execRailOffDelay n s
  | .railOffTimeout n => Sys2Proof.Machine.execRailOffTimeout n s
  | .pwrFaultClear a => Sys2Proof.Machine.execPwrFaultClear a s
  | .pdOn a v => Sys2Proof.Machine.execPdOn a v s
  | .pdOff a v => Sys2Proof.Machine.execPdOff a v s
  | .voltageLoopStep want read => Sys2Proof.Machine.execVoltageLoopStep want read s
  | .powerMeasure w floor => Sys2Proof.Machine.execPowerMeasure w floor s
  | .pmbusTransaction a v res data => Sys2Proof.Machine.execPmbusTransaction a v res data s
  | .vddioSbLow => Sys2Proof.Machine.execVddioSbLow s
  | .groupResetRequest a v => Sys2Proof.Machine.execGroupResetRequest a v s
  | .groupResetRelease => Sys2Proof.Machine.execGroupResetRelease s
  | .admitTines a => Sys2Proof.Machine.execAdmitTines a s
  | .powerOnReset aon => Sys2Proof.Machine.execPowerOnReset aon s
  | .aonResetRelease strap => Sys2Proof.Machine.execAonResetRelease strap s
  | .deviceReset => Sys2Proof.Machine.execDeviceReset s
  | .tapReset => Sys2Proof.Machine.execTapReset s
  | .memoryActiveSet => Sys2Proof.Machine.execMemoryActiveSet s
  | .pulseOverrun k => Sys2Proof.Machine.execPulseOverrun k s
  | .fltStsClear a w v => Sys2Proof.Machine.execFltStsClear a w v s
  | .fltInfoClear a w => Sys2Proof.Machine.execFltInfoClear a w s
  | .fltInject a w v => Sys2Proof.Machine.execFltInject a w v s
  | .recordWrite => Sys2Proof.Machine.execRecordWrite s
  | .recClear a epoch => Sys2Proof.Machine.execRecClear a epoch s
  | .recTimeSet a v => Sys2Proof.Machine.execRecTimeSet a v s
  | .recFwRecord a ty len => Sys2Proof.Machine.execRecFwRecord a ty len s
  | .titheCounterSample uj => Sys2Proof.Machine.execTitheCounterSample uj s
  | .titheIntervalClose => Sys2Proof.Machine.execTitheIntervalClose s
  | .titheRelease a upto => Sys2Proof.Machine.execTitheRelease a upto s
  | .titheCfgWrite a v => Sys2Proof.Machine.execTitheCfgWrite a v s
  | .titheLifeStart => Sys2Proof.Machine.execTitheLifeStart s
  | .titheWatchdogRestart => Sys2Proof.Machine.execTitheWatchdogRestart s
  | .sbWrite32 pec addr v env => Sys2Proof.Machine.execSbWrite32 pec addr v env s
  | .sbWrite64 pec addr v env => Sys2Proof.Machine.execSbWrite64 pec addr v env s
  | .sbRead32 w pec read => Sys2Proof.Machine.execSbRead32 w pec read s
  | .sbRead64 w pec read => Sys2Proof.Machine.execSbRead64 w pec read s
  | .i3cDynamicAddress addr => Sys2Proof.Machine.execI3cDynamicAddress addr s
  | .i3cRstdaa => Sys2Proof.Machine.execI3cRstdaa s
  | .smbusSclTimeout => Sys2Proof.Machine.execSmbusSclTimeout s
  | .alertResponse => Sys2Proof.Machine.execAlertResponse s
  | .ddrRefclkLoss h => Sys2Proof.Machine.execDdrRefclkLoss h s
  | .ddrRefclkReturn h => Sys2Proof.Machine.execDdrRefclkReturn h s
  | .perstRelease p q => Sys2Proof.Machine.execPerstRelease p q s
  | .yokeHbReceive h => Sys2Proof.Machine.execYokeHbReceive h s
  | .pathProbationGap p path => Sys2Proof.Machine.execPathProbationGap p path s
  | .tineSelfCheckFail t ok => Sys2Proof.Machine.execTineSelfCheckFail t ok s
  | .sequencerSelfCheckFail c ok => Sys2Proof.Machine.execSequencerSelfCheckFail c ok s
  | .superblockEraseDone sb fails => Sys2Proof.Machine.execSuperblockEraseDone sb fails s
  | .macFrameDiscard n why => Sys2Proof.Machine.execMacFrameDiscard n why s
  | .fecUncorrectableCodeword n => Sys2Proof.Machine.execFecUncorrectableCodeword n s
  | .vddioSbReturn => Sys2Proof.Machine.execVddioSbReturn s
  | .storeDeclarationStale => Sys2Proof.Machine.execStoreDeclarationStale s
  | .energyMonitorFail => Sys2Proof.Machine.execEnergyMonitorFail s
  | .relayReplyTimeout => Sys2Proof.Machine.execRelayReplyTimeout s

end Sys2Proof.Machine
end

