-- ==== Sys2Proof/Safety.lean ====
section
/-!
DEFINITION. Safety.lean: the terms in which the statements speak: what an access reaches, which registers a change may
touch, the registers a fault or a record touches, the invariant of the registers.
-/
namespace Sys2Proof.Machine
open Sys2Proof

/-- The invariant of the registers: `csr` lists keys in rising order, and none at its unlisted value. -/
def State.CsrWf (s : State) : Prop := mwf csrDefault s.csr = true

/-- Does a requester's access of a register above the header reach the window: the sideband the windows of R39, every
requester a window whose domain is on (R42)? -/
def State.reaches (s : State) (a : Agent) (addr : Nat) : Bool :=
  match winIdx addr with
  | none => false
  | some w => (a != .sb || sbWindow w) && s.powered w

/-- Every register outside the list reads as before. -/
def RegsBut (l : List Nat) (s t : State) : Prop := ∀ k, k ∉ l → t.rdW k = s.rdW k

/-- Only the registers have changed. -/
def CsrOnly (s t : State) : Prop := t = { s with csr := t.csr }

/-- Only the registers and the recorder have changed. -/
def RecOnly (s t : State) : Prop := t = { s with csr := t.csr, rcd := t.rcd }

/-- The fault registers of a window that a raise changes (R593, R595). -/
def fltKeys (w : Nat) : List Nat := [FLT_STS w, FLT_CNT w, FLT_INFO w, FLT_LIVE w]

/-- The registers that a new record changes (R617). -/
def recKeys : List Nat := [REC_STS, REC_LOST]

/-- The registers of a region's live entry (R74). -/
def rgnKeys (r : Nat) : List Nat := [TIN_RGN_EXT r, TIN_RGN_ATTR r, TIN_RGN_LDRD r, TIN_RGN_LDWR r, TIN_RGN_CGRD r, TIN_RGN_CGWR r]

/-- The record that an access turned away leaves (R615): its source is the window, or 0xFF where no window lies. -/
def badRec (s : State) (a : Agent) (wr wide : Bool) (reason addr : Nat) (v : Word64) : Rec :=
  ⟨0x04, (winIdx addr).getD 0xFF, s.stampTime,
    [BitVec.ofNat 8 (agentNum a), BitVec.ofNat 8 ((if wr then 1 else 0) + (if wide then 2 else 0)), BitVec.ofNat 8 reason, 0] ++
      leBytes addr 4 ++ leBytes v.toNat 8⟩

/-- The window whose BAD_ACCESS an access turned away raises: its own, or the recorder's where no window lies (R38, R599). -/
def badWin (addr : Nat) : Nat := (winIdx addr).getD 98

/-- The registers whose chapter gives a write more than the access codes do. -/
def ownRule : List String :=
  ["HPT_BIFUR", "HPT_FENCE_CTL", "HPT_DEVLOAD", "HPT_LCTL", "HPT_LDMBX", "NPT_CTL", "TIN_DPA_LIMIT", "TIN_WORLD_LOCK",
   "TIN_WORLD_HDL", "TIN_WORLD_MBX", "TIN_WORLD_KEYS", "TIN_LDB", "TIN_CGB", "TIN_RGN_COMMIT", "TIN_CHK_LAST",
   "TIN_ALT_STS", "TIN_CL_CTL", "TIN_TINE_FENCE", "TIN_TINE_UNFENCE", "TIN_CB_USE", "TIN_HINT_CTL", "NCH_CTL",
   "NCH_FENCE_CTL", "NCH_INV_CTL", "NCH_WAYDIS"] ++
  ["DRM_CFG", "DRM_SCHED", "DRM_SR", "DRM_FENCE_CTL", "DRM_MR_CMD", "DRM_GEOM", "DRM_SUBST_SRC", "DRM_SUBST_DST", "DRM_RMP", "DRM_RT",
   "DRM_DLY_CTL", "DRM_DQ", "DRM_DQS", "DRM_CA",
   "WIN_FREE", "WIN_CLEAN", "WIN_PIN_CTL", "WIN_RGN_POL", "FUR_CTL", "FUR_GEOM", "FUR_GEOM2", "FUR_ENDUR", "FUR_GC",
   "FUR_CH_CTL", "FUR_CH_LUN_FENCE", "FUR_CH_CMD", "FUR_CH_DLY_CTL", "FUR_CH_DQ", "FUR_CH_DQS"] ++
  ["HRV_CTL", "HRV_CAP", "HRV_BOARD", "HRV_STORE", "HRV_NAND", "YOK_CTL", "YOK_RSV_CTL", "DRL_CTL", "DRL_CONN_CMD",
   "DRL_JQ_CMD", "GRN_CTL", "GRN_CFG", "GRN_OWN", "CPH_CTL", "CPH_ALARM_EN", "CPH_ALARM_STS", "CPH_SLOT_CMD", "CPH_KLD",
   "CPH_FJ_CTL", "CPH_RSLOT", "HDL_CORE_CTL", "HDL_IRQ_ROUTE"] ++
  ["MBX_SEND", "MBX_ACK", "MBX_SEM", "MBX_SEM_FORCE", "EFL_CMD", "EFL_ADDR", "EFL_WDATA", "EFL_WDT_CTL", "PWR_CTL",
   "PWR_STS", "PWR_CAP", "PWR_PMB_CMD", "PWR_PD_ON", "PWR_PD_OFF", "PWR_RAIL", "RST_GRP_CTL", "REC_CLEAR",
   "REC_TIME_SET", "REC_FW_CTL", "TTH_CFG", "TTH_REL"]

/-- The lists of units have the lengths of the chip: 16 near-cache banks, 16 DRAM channels, 2 pairs (R149, R177, R316). -/
abbrev State.shape (s : State) : Prop := s.nc.length = 16 ∧ s.dr.ch.length = 16 ∧ s.yk.pairs.length = 2

/-- The memories stand in their canonical form: DRAM and its keys, the recorder's memory, Headland's working memory, the embedded
flash and the OTP row. -/
def State.MemWf (s : State) : Prop :=
  mwf byte0 s.dr.mem = true ∧ mwf (fun _ => (0 : Key)) s.dr.key = true ∧ mwf byte0 s.rcd.mem = true ∧ mwf byte0 s.cph.work = true ∧
    mwf eflOnes s.efl.words = true ∧ mwf (fun _ => (0 : Word64)) s.efl.otp = true

/-- The invariant that every step keeps: registers and memories in their canonical form, and the fixed numbers of near-cache
banks, DRAM channels and Yoke pairs. -/
def State.Wf (s : State) : Prop := s.CsrWf ∧ s.MemWf ∧ s.shape

/-- Nothing waits in the crossbar or in a tine. -/
abbrev State.still (s : State) : Prop := s.fab.xbar = [] ∧ s.fab.queue = [] ∧ s.fab.act = []

/-- One request is under way and nothing else waits. -/
abbrev State.alone (s : State) (r : Req) : Prop := s.fab.xbar = [] ∧ s.fab.queue = [] ∧ s.fab.act = [r]

/-- A host write of a LOCAL region that nothing keeps from merging: its key slot loaded, no line of a combining buffer
for it yet and a slot free, a lock-table entry there or to be had (R119 to R122). -/
abbrev State.mayMerge (s : State) (r : Req) (link ld tag : Nat) : Prop :=
  r.src = .ld link ld tag ∧ tag < 65536 ∧ r.kind = .write ∧ r.poison = false ∧ s.linkUp link = true ∧
    s.rgnKeyed r.region = true ∧ s.rgnClass r.region = 0 ∧ s.cbOf r.line = none ∧ (s.cbSlot r.tine).isSome = true ∧
    ((s.altOf r.line).isSome || (s.altWay r.line).isSome) = true

/-- What has merged: the line stands in a combining buffer with the bytes that its write enables, the request has ended, its
completion has left with the DevLoad of its port (R110, R122). -/
abbrev State.merged (s t : State) (r : Req) (link ld tag : Nat) : Prop :=
  ((t.cbOf r.line).map fun l => (l.data, l.mask, l.region, l.tine)) = some (mergeLine 0 r.data r.mask, r.mask, r.region, r.tine) ∧
    t.fab.act = [] ∧ t.out = .ndr link ld tag (t.devLoad (link / 4)) :: s.out

/-- Of Winnow and Furrow nothing has changed but promotions, begun for drained lines or asked for again: no page has another
state or frame (R126, R228). -/
abbrev State.promoOnly (s t : State) : Prop :=
  t.win = { s.win with tier := t.win.tier, moves := t.win.moves, unswept := t.win.unswept } ∧ t.fur = { s.fur with rds := t.fur.rds } ∧
    ∀ p : Nat, (t.tierOf p).frame = (s.tierOf p).frame ∧ (t.tierOf p).state = (s.tierOf p).state

/-- Frames of a Yoke path leave at once: its port has its first sub-port up and no priority is paused (R387, R388). -/
abbrev State.pathOpen (s : State) (p path : Nat) : Prop := s.net.paused = [] ∧ s.bitOf (NPT_STS_SUB_UP (pathPort p path)) 0 = true

/-- A packet of a connection in the given state that the first three steps of R371 let through: Drill and its port are on,
header, address, path and tag check, the key slot is loaded; the ingress FIFO stays below its panic threshold and asks for
no pause. -/
abbrev State.drlOk (s : State) (h : DrlHdr) (state : Nat) : Prop :=
  s.on DRL_CTL_ENABLE = true ∧ s.drillPort h.port = true ∧ s.portUp h.port = true ∧ h.fmt = true ∧ h.addr = true ∧ h.auth = true ∧
    (s.connAt h.conn.toNat).state = state ∧ (s.connAt h.conn.toNat).paths.contains h.path.val = true ∧
    (s.connAt h.conn.toNat).port h.path = h.port.val ∧ s.ckeyed h.conn.toNat = true ∧
    h.fifo.toNat * 100 < max 1 (min 100 (s.rd DRL_RX_PANIC_PCT)) * 4096 ∧ s.dr.drillPanic = false ∧
    s.on DRL_STS_PFC = false ∧ s.on DRL_CTL_PFC_EN = false

/-- A connection retains no packet and none waits for room, and its numbers are below the limit of R369. -/
abbrev State.drlCalm (s : State) (n : Nat) : Prop :=
  (s.connAt n).sent = [] ∧ (s.connAt n).txWait = [] ∧ (s.connAt n).txPsn + 1 < 2 ^ 47 ∧ (s.connAt n).rsn + 1 < 2 ^ 47

/-- The last ACK of a connection left so recently that the next one waits (R378). -/
abbrev State.ackHeld (s : State) (n : Nat) : Prop :=
  (match (s.connAt n).ackAt with | none => false | some t => decide (s.now < t + s.ackMin)) = true

/-- Packets of a connection leave at once, on one path and the first sub-port of its port (R382, R387, R388). -/
abbrev State.drlOut (s : State) (n : Nat) : Prop :=
  (s.connAt n).dual = false ∧ s.net.paused = [] ∧ s.rd (NPT_CTL_MODE ((s.connAt n).port 0)) = 0 ∧
    s.bitOf (NPT_STS_SUB_UP ((s.connAt n).port 0)) 0 = true

/-- The Granary gives buffer b to the owner of the connection's group. -/
abbrev State.bufFor (s : State) (n b : Nat) : Prop :=
  s.grnMay (s.groupOwner (s.connAt n).group) = true ∧ s.grn.stack.head? = some b ∧ (s.grn.held.any fun x => x.idx == b) = false

/-- The region check admits an access of connection group g to a line of region rg (R60, R61). -/
abbrev State.cgAdmits (s : State) (g line rg : Nat) (modifies : Bool) : Prop :=
  s.locked = true ∧ s.on (TIN_CGB_VALID g) = true ∧ s.rgnOfLine line = some rg ∧ s.cgSecure g = s.rgnSecure rg ∧
    s.bitOf (TIN_RGN_CGRD_MASK rg) g = true ∧
    (modifies = true → s.bitOf (TIN_RGN_CGWR_MASK rg) g = true ∧ (s.rgnClass rg = 0 ∨ s.rd (YOK_RGN_ROLE rg) ≠ 1))

/-- A Geltia command stands in its channel's IN slot as request m, has its turn and passes the checks that every command
makes: the sender's class, the lengths of P and D and the bytes that must be zero (R468, R469, R470, R475). -/
abbrev State.asked (s : State) (c op : Nat) (m : Cmd) (k : Cls) (twin : Bool) (dIn : List Nat) (dOut : Bool)
    (used : List (Nat × Nat)) : Prop :=
  (s.cmdAt c fun o => o == op) = some m ∧ s.recovers c = false ∧ s.stageOf c = 0 ∧ m.blen ≤ 4096 ∧
    ((m.kind = 2 ∨ m.kind = 4) → m.blen = 0 ∧ dOut = false ∧ dIn.contains 0 = true) ∧ m.classOk k twin = true ∧
    dIn.contains m.d.length = true ∧ (m.kind = 1 → 56 ≤ m.raw.length) ∧ m.zeros used = true

/-- The same for a request that has begun and waits at the stage given. -/
abbrev State.askedAt (s : State) (c op : Nat) (m : Cmd) (stage : Nat) : Prop :=
  (s.cmdAt c fun o => o == op) = some m ∧ s.recovers c = false ∧ s.stageOf c = stage ∧ stage ≠ 0

/-- A standard command stands in its channel's IN slot from a sender that may use it, with a payload of this length (R468, R523,
R525). -/
abbrev State.askedStd (s : State) (c op : Nat) (m : Cmd) (len : Nat) : Prop :=
  (s.cmdAt c fun o => o == op) = some m ∧ m.stdOk = true ∧ m.raw.length = len ∧ s.stageOf c = 0

/-- The channel is not one of the twin relay, and the power domain of the block that takes the answer on: the answer wakes
nothing and Yoke sends nothing for it (R355, R459). -/
abbrev State.plain (s : State) (c : Nat) (m : Cmd) : Prop :=
  c < 56 ∧ ∀ d ∈ s.takerPds c m.kind m.source, s.rd (PWR_PD_STATE d) = 2

/-- The request has been answered (R450, R451, R467): the OUT slot is FULL with its OPCODE, its TAG, the status and a header
that names its sender, one SEQ on; the IN slot is EMPTY. -/
abbrev State.answered (s t : State) (m : Cmd) (status : Nat) : Prop :=
  t.mbxFull m.chan true = true ∧ t.mbxFull m.chan false = false ∧
    getBits (t.rd (fMsg m.chan true 0)) 0 48 = m.op + m.tag * 2 ^ 16 + status * 2 ^ 32 ∧
    t.rd (fHdr m.chan true) = senderHdr m.core (t.chanSecure m.chan) m.kind m.source + (s.mbxSeq m.chan true + 1) % 2 ^ 32

/-- The parameters P of an answer: the message's bytes 8 to 63, to an LD the first 56 bytes of its payload (R468). -/
def State.ansP (t : State) (m : Cmd) : List Byte :=
  if m.kind = 1 then (t.bulkOf m.chan true).take 56 else (t.mbxMsg m.chan true).drop 8

/-- The data D of an answer (R468). -/
def State.ansD (t : State) (m : Cmd) : List Byte :=
  if m.kind = 1 then (t.bulkOf m.chan true).drop 56 else t.bulkOf m.chan true

/-- The number in n bytes of the answer's P from byte k. -/
def State.ans (t : State) (m : Cmd) (k n : Nat) : Nat := ofBytes (((t.ansP m).drop k).take n)

/-- The number in n bytes of a standard command's reply payload from byte k. -/
def State.ansC (t : State) (m : Cmd) (k n : Nat) : Nat := ofBytes (((t.bulkOf m.chan true).drop k).take n)

/-- The registers that every answer writes: the slot's status, header and message, the count of messages, the recorder's. -/
def mailKeys (c : Nat) : List Nat :=
  [MBX_CH_STS c, MBX_CNT, (fHdr c true).addr] ++ (List.range 8).map (fun k => (fMsg c true k).addr) ++ recKeys

/-- What a command's request leaves of the command set's state: the SEQ seen on each channel, the stages. -/
abbrev Cmds.but (x y : Cmds) : Cmds := { x with seqs := y.seqs, stage := y.stage }

end Sys2Proof.Machine
end

