-- ==== Sys2Proof/Certificates/Slice0/Obligations.lean ====
section
/-!
DEFINITION. Certificates/Slice0/Obligations.lean: the statements of this model for the provers.
-/
namespace Sys2Proof.Machine
open Sys2Proof

end Sys2Proof.Machine

open Sys2Proof Sys2Proof.Machine

/-- One step runs the command at the front of the queue, an idle one is a tick: the model's own form of a block, log entries 5 and 7 (01_architecture.md, R614, notes/assumptions/5.md, notes/assumptions/7.md) -/
def Obligations.AStepRunsTheFrontCommandOrLetsTheCrystalTick : Prop :=
  (∀ (s : State) (c : Instr),
      step { s with pending := c :: s.pending } = exec c s) ∧
  (∀ (s : State), s.pending = [] → s.cs.bg = [] → (∀ n < 4, s.coreState n ≠ 2) →
      ∃ t, step s = .next t ∧ t.clk = s.clk + 40 ∧ t.stampTime = (s.stampTime + 40) % 2 ^ 64 ∧
        RegsBut [REC_TIME] s t ∧ t = { s with csr := t.csr, clk := t.clk })

/-- A write of a register with no rule of its own stores RW and RWS bits, clears W1C bits written as 1, and changes nothing else (R12, R14, R16, R17) -/
def Obligations.APlainRegisterWriteStoresItsFieldsByAccessCode : Prop :=
  (∀ (s : State) (a : Agent) (addr : BitVec 32) (wide : Bool) (v : Word64) (env : BusEnv) (i : Nat) (d : RegDef) (k b : Nat),
      s.reach a true wide addr.toNat = .reg i d k b → d.name ∉ ownRule → 0x100 ≤ d.off → 
      ∃ t, exec (.ctrlRegWrite a addr wide v env) s = .next t ∧ t.rdW (regKey a i d k) =
          (let m : Word64 := if wide then BitVec.ofNat 64 (2 ^ 64 - 1) else BitVec.ofNat 64 (2 ^ (8 * b) * (2 ^ 32 - 1))
           let x : Word64 := if wide then v else BitVec.ofNat 64 (2 ^ (8 * b) * (v.toNat % 2 ^ 32))
           let rw := BitVec.ofNat 64 d.rw &&& m
           (s.rdW (regKey a i d k) &&& ~~~ rw ||| (x &&& rw)) &&& ~~~ (x &&& BitVec.ofNat 64 d.w1c)) ∧
        RegsBut [regKey a i d k] s t ∧ t = { s with csr := t.csr, shadow := s.shadow.filter fun h => h.a != a })

/-- An access that no register takes reads zero or is ignored, and leaves one BAD_ACCESS record and the fault bit of its window (R16, R38, R39, R42, R599, R615) -/
def Obligations.AccessesTurnedAwayReadZeroWriteNothingAndAreRecorded : Prop :=
  (∀ (s : State) (a : Agent) (addr : BitVec 32) (wide : Bool) (v : Word64) (env : BusEnv) (r : Nat),
      s.reach a true wide addr.toNat = .bad r → s.rcd.queue.length < 128 → 
      ∃ t, exec (.ctrlRegWrite a addr wide v env) s = .next t ∧ t.rcd.queue = s.rcd.queue ++ [badRec s a true wide r addr.toNat v] ∧
        RegsBut (fltKeys (badWin addr.toNat) ++ recKeys) s t ∧ t = { s with csr := t.csr, rcd := t.rcd, shadow := s.shadow.filter fun h => h.a != a }) ∧
  (∀ (s : State) (a : Agent) (wr : Bool) (addr : BitVec 32) (wide : Bool) (v : Word64),
      s.reach a wr wide addr.toNat = .bad 2 → s.rcd.queue.length < 128 → 
      ∃ t, exec (.unassignedAccess a wr addr wide v) s = .next t ∧ t.rcd.queue = s.rcd.queue ++ [badRec s a wr wide 2 addr.toNat (if wr then v else 0)] ∧ t.out = (if wr then s.out else .ctrl a 0 :: s.out) ∧ t.shadow = s.shadow.filter (fun h => h.a != a) ∧
        RegsBut (fltKeys (badWin addr.toNat) ++ recKeys) s t ∧ t = { s with csr := t.csr, rcd := t.rcd, out := t.out, shadow := t.shadow }) ∧
  (∀ (s : State) (a : Agent) (wr : Bool) (addr : BitVec 32) (wide : Bool) (v : Word64),
      s.reach a wr wide addr.toNat = .bad 4 → s.rcd.queue.length < 128 → 
      ∃ t, exec (.poweredOffWindowAccess a wr addr wide v) s = .next t ∧ t.rcd.queue = s.rcd.queue ++ [badRec s a wr wide 4 addr.toNat (if wr then v else 0)] ∧ t.out = (if wr then s.out else .ctrl a 0 :: s.out) ∧ t.shadow = s.shadow.filter (fun h => h.a != a) ∧
        RegsBut (fltKeys (badWin addr.toNat) ++ recKeys) s t ∧ t = { s with csr := t.csr, rcd := t.rcd, out := t.out, shadow := t.shadow }) ∧
  (∀ (s : State) (wr : Bool) (addr : BitVec 32) (wide : Bool) (v : Word64),
      s.reach .sb wr wide addr.toNat = .bad 3 → s.rcd.queue.length < 128 → 
      ∃ t, exec (.sidebandWindowDenied wr addr wide v) s = .next t ∧ t.rcd.queue = s.rcd.queue ++ [badRec s .sb wr wide 3 addr.toNat (if wr then v else 0)] ∧ t.out = (if wr then s.out else .ctrl .sb 0 :: s.out) ∧ t.shadow = s.shadow.filter (fun h => h.a != .sb) ∧
        RegsBut (fltKeys (badWin addr.toNat) ++ recKeys) s t ∧ t = { s with csr := t.csr, rcd := t.rcd, out := t.out, shadow := t.shadow }) ∧
  (∀ (s : State) (a : Agent) (wr : Bool) (addr : BitVec 32) (size : AccSize) (v : Word64),
      s.badWidth a wr addr.toNat size = true → s.rcd.queue.length < 128 → 
      ∃ t, exec (.badWidthAccess a wr addr size v) s = .next t ∧ t.rcd.queue = s.rcd.queue ++ [badRec s a wr (size == .b8) 1 addr.toNat (if wr then v else 0)] ∧ t.out = (if wr then s.out else .ctrl a 0 :: s.out) ∧ t.shadow = s.shadow.filter (fun h => h.a != a) ∧
        RegsBut (fltKeys (badWin addr.toNat) ++ recKeys) s t ∧ t = { s with csr := t.csr, rcd := t.rcd, out := t.out, shadow := t.shadow }) ∧
  (∀ (s : State) (a : Agent) (wr : Bool) (addr : BitVec 32) (v : Word64),
      s.rcd.queue.length < 128 → 
      ∃ t, exec (.badWidthAccess a wr addr .b2 v) s = .next t ∧ t.rcd.queue = s.rcd.queue ++ [badRec s a wr false 1 addr.toNat (if wr then v else 0)] ∧ t.bitOf (FLT_STS_CAUSE (badWin addr.toNat)) 0 = true)

/-- A 32-bit read of the low half latches the high half for the requester; its next read of the high half returns the latched half (R17) -/
def Obligations.HalvesOfA64BitRegisterAreReadThroughTheShadow : Prop :=
  (∀ (s : State) (a : Agent) (addr : BitVec 32) (i : Nat) (d : RegDef) (k : Nat),
      s.reach a false false addr.toNat = .reg i d k 0 → d.w64 = true → 
      ∃ t, exec (.lowHalfRead a addr) s = .next t ∧ t.out = .ctrl a (BitVec.ofNat 64 (s.liveReg i d k (regKey a i d k) % 2 ^ 32)) :: s.out ∧ t.shadow = ⟨a, addr.toNat, s.liveReg i d k (regKey a i d k) / 2 ^ 32⟩ :: s.shadow.filter (fun h => h.a != a) ∧
        t = { s with out := t.out, shadow := t.shadow }) ∧
  (∀ (s : State) (a : Agent) (addr : BitVec 32) (i : Nat) (d : RegDef) (k : Nat) (h : Shadow),
      s.reach a false false addr.toNat = .reg i d k 4 → d.w64 = true → (s.shadow.find? fun h => h.a == a && h.addr + 4 == addr.toNat) = some h → 
      ∃ t, exec (.highHalfRead a addr) s = .next t ∧ t.out = .ctrl a (BitVec.ofNat 64 h.hi) :: s.out ∧ t.shadow = s.shadow.filter (fun h => h.a != a) ∧
        t = { s with out := t.out, shadow := t.shadow }) ∧
  (∀ (s : State) (a : Agent) (addr : BitVec 32) (i : Nat) (d : RegDef) (k : Nat),
      s.reach a false false addr.toNat = .reg i d k 4 → d.w64 = true → (s.shadow.find? fun h => h.a == a && h.addr + 4 == addr.toNat) = none → 
      ∃ t, exec (.highHalfRead a addr) s = .next t ∧ t.out = .ctrl a (BitVec.ofNat 64 (s.liveReg i d k (regKey a i d k) / 2 ^ 32)) :: s.out ∧ t.shadow = s.shadow.filter (fun h => h.a != a) ∧
        t = { s with out := t.out, shadow := t.shadow })

/-- Sideband writes and reads act as one control-space access each, with PEC and status as R656 says (R655, R656, R657) -/
def Obligations.SidebandTransfersPerformOneControlSpaceAccess : Prop :=
  (∀ (s : State) (addr : BitVec 32) (v : BitVec 32) (env : BusEnv),
      s.sbUp = true → 
      exec (.sbWrite32 true addr v env) s = .next (s.ctrlWrite .sb addr.toNat false (v.setWidth 64) env)) ∧
  (∀ (s : State) (addr : BitVec 32) (v : Word64) (env : BusEnv),
      s.sbUp = true → 
      exec (.sbWrite64 true addr v env) s = .next (s.ctrlWrite .sb addr.toNat true v env)) ∧
  (∀ (s : State) (addr : BitVec 32) (v : BitVec 32) (env : BusEnv),
      s.sbUp = true → 
      exec (.sbWrite32 false addr v env) s = .next ({ s with out := .sbNack :: s.out })) ∧
  (∀ (s : State) (addr : BitVec 32) (v : Word64) (env : BusEnv),
      s.sbUp = true → 
      exec (.sbWrite64 false addr v env) s = .next ({ s with out := .sbNack :: s.out })) ∧
  (∀ (s : State) (addr : BitVec 32),
      s.sbUp = true → 
      ∃ t, exec (.sbRead32 (some addr) true true) s = .next t ∧ t.pw.sbRead = none ∧
        t.out = (let x := ({ s with pw := { s.pw with sbRead := none } } : State).ctrlRead .sb addr.toNat false
                 .sb (if x.2.2 then 0 else 2) (leBytes x.2.1 4) :: x.1.out)) ∧
  (∀ (s : State) (addr : BitVec 32),
      s.sbUp = true → 
      ∃ t, exec (.sbRead64 (some addr) true true) s = .next t ∧ t.pw.sbRead = none ∧
        t.out = (let x := ({ s with pw := { s.pw with sbRead := none } } : State).ctrlRead .sb addr.toNat true
                 .sb (if x.2.2 then 0 else 2) (leBytes x.2.1 8) :: x.1.out)) ∧
  (∀ (s : State),
      s.sbUp = true → s.pw.sbRead = none → 
      ∃ t, exec (.sbRead32 none true true) s = .next t ∧ t.out = .sb 3 [0, 0, 0, 0] :: s.out ∧
        t = { s with out := t.out }) ∧
  (∀ (s : State) (addr : BitVec 7),
      s.sbUp = true → 
      exec (.i3cDynamicAddress addr) s = .next ({ s with pw := { s.pw with i3c := some addr.toNat } })) ∧
  (∀ (s : State),
      s.sbUp = true → 
      exec .i3cRstdaa s = .next ({ s with pw := { s.pw with i3c := none } })) ∧
  (∀ (s : State),
      s.pw.sbRead.isSome = true → 
      exec .smbusSclTimeout s = .next ({ s with pw := { s.pw with sbRead := none } })) ∧
  (∀ (s : State),
      s.sbUp = true → s.pw.i3c = none → s.mbxAlert = true → 
      exec .alertResponse s = .next ({ s with out := .sbAra (0x58 + s.pw.strap) :: s.out }))

/-- DPA limit, world lock, capture clear, OP NONE and LOAD have the effect of their rules when the access reaches the tines (R45, R56, R58, R65) -/
def Obligations.TheRegionLimitLockAndCaptureAreWrittenAsTheirRulesSay : Prop :=
  (∀ (s : State) (a : Agent) (v : BitVec 32),
      s.reaches a TIN_DPA_LIMIT = true → ∀ r < 256, s.rgnValid r = false ∧ s.rgnReleasing r = false → 
      ∃ t, exec (.dpaLimitWrite a v) s = .next t ∧ t.rd TIN_DPA_LIMIT_CAP_GIB = min 65536 (v.toNat % 131072) ∧
        t = { s with csr := t.csr, rcd := t.rcd, shadow := s.shadow.filter (fun h => h.a != a) }) ∧
  (∀ (s : State) (a : Agent) (v : BitVec 32) (r : Fin 256),
      s.reaches a TIN_DPA_LIMIT = true → s.rgnValid r = true ∨ s.rgnReleasing r = true → s.rcd.queue.length < 128 → 
      ∃ t, exec (.dpaLimitWrite a v) s = .next t ∧ t.rd TIN_DPA_LIMIT_CAP_GIB = s.rd TIN_DPA_LIMIT_CAP_GIB ∧ t.rcd.queue = s.rcd.queue ++ [badRec s a true false 5 TIN_DPA_LIMIT (v.setWidth 64)] ∧
        RegsBut (fltKeys 12 ++ recKeys) s t ∧ t = { s with csr := t.csr, rcd := t.rcd, shadow := s.shadow.filter (fun h => h.a != a) }) ∧
  (∀ (s : State) (a : Agent),
      s.reaches a TIN_WORLD_LOCK = true → 
      ∃ t, exec (.worldLockSet a) s = .next t ∧ t.locked = true ∧
        RegsBut [TIN_WORLD_LOCK] s t ∧ t = { s with csr := t.csr, shadow := s.shadow.filter (fun h => h.a != a) }) ∧
  (∀ (s : State) (a : Agent),
      s.reaches a TIN_CHK_LAST = true → s.agentSecure a = true → 
      ∃ t, exec (.chkLastClear a) s = .next t ∧ t.on TIN_CHK_LAST_VALID = false ∧ t.rd TIN_CHK_LAST_REASON = s.rd TIN_CHK_LAST_REASON ∧ t.rd TIN_CHK_LAST_REGION = s.rd TIN_CHK_LAST_REGION ∧
        RegsBut [TIN_CHK_LAST] s t ∧ t = { s with csr := t.csr, shadow := s.shadow.filter (fun h => h.a != a) }) ∧
  (∀ (s : State) (a : Agent),
      s.reaches a TIN_CHK_LAST = true → s.agentSecure a = false → s.on TIN_CHK_LAST_VALID = true → 3 ≤ s.rd TIN_CHK_LAST_REASON → s.secureRegion (s.rd TIN_CHK_LAST_REGION) = true → 
      ∃ t, exec (.chkLastClear a) s = .next t ∧ t.rdW TIN_CHK_LAST = s.rdW TIN_CHK_LAST ∧
        t = { s with csr := t.csr, rcd := t.rcd, shadow := s.shadow.filter (fun h => h.a != a) }) ∧
  (∀ (s : State) (a : Agent) (r : Fin 256),
      s.reaches a TIN_RGN_COMMIT = true → s.on TIN_RGN_STATUS_BUSY = false → 
      exec (.rgnOpNone a r) s = .next ({ s with shadow := s.shadow.filter (fun h => h.a != a) })) ∧
  (∀ (s : State) (a : Agent) (r : Fin 256),
      s.reaches a TIN_RGN_COMMIT = true → s.on TIN_RGN_STATUS_BUSY = false → s.agentSecure a = true ∨ s.secureRegion r = false → 
      ∃ t, exec (.rgnLoad a r) s = .next t ∧ t.rdW TIN_STG_EXT = s.rdW (TIN_RGN_EXT r) ∧ t.rdW TIN_STG_ATTR = s.rdW (TIN_RGN_ATTR r) &&& 0xFFFFFFFF3FFFFFFF ∧ t.rdW TIN_STG_LDRD = s.rdW (TIN_RGN_LDRD r) ∧ t.rdW TIN_STG_LDWR = s.rdW (TIN_RGN_LDWR r) ∧ t.rdW TIN_STG_CGRD = s.rdW (TIN_RGN_CGRD r) ∧ t.rdW TIN_STG_CGWR = s.rdW (TIN_RGN_CGWR r) ∧ t.rd TIN_RGN_STATUS_REGION = r ∧ t.rd TIN_RGN_STATUS_RESULT = 0 ∧
        RegsBut [TIN_STG_EXT, TIN_STG_ATTR, TIN_STG_LDRD, TIN_STG_LDWR, TIN_STG_CGRD, TIN_STG_CGWR, TIN_RGN_STATUS] s t ∧ t = { s with csr := t.csr, shadow := s.shadow.filter (fun h => h.a != a) })

/-- An allowed COMMIT makes the live entry the staging entry, a refused one reports its first cause; a release returns entry and pages to reset (R64, R65, R66, R67, R68, R69, R73) -/
def Obligations.ACommitSwitchesTheLiveEntryAndAReleaseEmptiesIt : Prop :=
  (∀ (s : State) (a : Agent) (r : Fin 256),
      s.reaches a TIN_RGN_COMMIT = true → s.on TIN_RGN_STATUS_BUSY = false → s.commitResult (s.agentSecure a) r = 0 → 
      ∃ t, exec (.rgnCommit a r) s = .next t ∧ t.rdW (TIN_RGN_EXT r) = s.rdW TIN_STG_EXT ∧ t.rgnValid r = true ∧ t.rgnReleasing r = false ∧ t.rd (TIN_RGN_ATTR_KEY_SLOT r) = s.rd TIN_STG_ATTR_KEY_SLOT ∧ t.rgnClass r = s.rd TIN_STG_ATTR_CLASS ∧ t.rgnSecure r = s.on TIN_STG_ATTR_WORLD ∧ t.rgnPinned r = s.on TIN_STG_ATTR_PLACE ∧ t.rd (TIN_RGN_ATTR_TENANT r) = s.rd TIN_STG_ATTR_TENANT ∧ t.rd (TIN_RGN_LDRD_MASK r) = s.rd TIN_STG_LDRD_MASK ∧ t.rd (TIN_RGN_LDWR_MASK r) = s.rd TIN_STG_LDWR_MASK ∧ t.rd (TIN_RGN_CGRD_MASK r) = s.rd TIN_STG_CGRD_MASK ∧ t.rd (TIN_RGN_CGWR_MASK r) = s.rd TIN_STG_CGWR_MASK ∧ t.on TIN_RGN_STATUS_BUSY = true ∧ t.rd TIN_RGN_STATUS_REGION = r ∧ t.fab.rgnOp = some ⟨r, (s.fab.act.filter (fun q => q.region == r.val)).map (fun q => q.id), false⟩ ∧
        (∀ q : Fin 256, q ≠ r → ∀ k ∈ rgnKeys q, t.rdW k = s.rdW k)) ∧
  (∀ (s : State) (a : Agent) (r : Fin 256),
      s.reaches a TIN_RGN_COMMIT = true → s.on TIN_RGN_STATUS_BUSY = false → s.commitResult (s.agentSecure a) r ≠ 0 → 
      ∃ t, exec (.rgnCommit a r) s = .next t ∧ t.rd TIN_RGN_STATUS_RESULT = s.commitResult (s.agentSecure a) r ∧ t.rd TIN_RGN_STATUS_REGION = r ∧ t.on TIN_RGN_STATUS_BUSY = false ∧
        RegsBut [TIN_RGN_STATUS] s t ∧ t = { s with csr := t.csr, shadow := s.shadow.filter (fun h => h.a != a) }) ∧
  (∀ (s : State) (a : Agent) (r : Fin 256),
      s.reaches a TIN_RGN_COMMIT = true → s.on TIN_RGN_STATUS_BUSY = false → s.agentSecure a = true ∨ s.rgnSecure r = false → s.rgnReleasing r = false → s.rgnValid r = true → 
      ∃ t, exec (.rgnDestroy a r) s = .next t ∧ t.rgnValid r = false ∧ t.rgnReleasing r = true ∧ t.on TIN_RGN_STATUS_BUSY = true ∧ t.rdW (TIN_RGN_EXT r) = s.rdW (TIN_RGN_EXT r) ∧ t.fab.rgnOp = some ⟨r, (s.fab.act.filter (fun q => q.region == r.val)).map (fun q => q.id), true⟩ ∧ t.win = s.win ∧ t.dr = s.dr ∧ t.fur = s.fur ∧ t.nc = s.nc ∧
        (∀ q : Fin 256, q ≠ r → ∀ k ∈ rgnKeys q, t.rdW k = s.rdW k)) ∧
  (∀ (s : State) (a : Agent) (r : Fin 256),
      s.reaches a TIN_RGN_COMMIT = true → s.on TIN_RGN_STATUS_BUSY = false → s.destroyResult (s.agentSecure a) r ≠ 0 → 
      ∃ t, exec (.rgnDestroy a r) s = .next t ∧ t.rd TIN_RGN_STATUS_RESULT = s.destroyResult (s.agentSecure a) r ∧ t.rd TIN_RGN_STATUS_REGION = r ∧
        RegsBut [TIN_RGN_STATUS] s t ∧ t = { s with csr := t.csr, shadow := s.shadow.filter (fun h => h.a != a) }) ∧
  (∀ (s : State) (a : Agent) (r : Fin 256),
      s.reaches a TIN_RGN_COMMIT = true → s.on TIN_RGN_STATUS_BUSY = true → 
      exec (.rgnCommit a r) s = .next (((s.dropShadow a).ignored a TIN_RGN_COMMIT (512 + r.val)))) ∧
  (∀ (s : State) (o : RgnOp),
      s.fab.rgnOp = some o → o.destroy = false → (s.fab.act.any fun q => o.old.contains q.id) = false → 
      ∃ t, exec .rgnDrainEnd s = .next t ∧ t.fab.rgnOp = none ∧ t.rd TIN_RGN_STATUS_RESULT = 0 ∧ t.on TIN_RGN_STATUS_BUSY = false ∧
        RegsBut [TIN_RGN_STATUS] s t ∧ t = { s with csr := t.csr, fab := { s.fab with rgnOp := none } }) ∧
  (∀ (s : State) (o : RgnOp),
      s.fab.rgnOp = some o → o.destroy = true → (s.fab.act.any fun q => o.old.contains q.id) = false → 
      ∃ t, exec .rgnDrainEnd s = .next t ∧ t.fab.rgnOp = none ∧ t.fab.releasing = s.fab.releasing ++ [o.region] ∧ t.rd TIN_RGN_STATUS_RESULT = 0 ∧ t.on TIN_RGN_STATUS_BUSY = false ∧ t.win = s.win ∧ t.dr = s.dr) ∧
  (∀ (s : State) (r : Nat) (l : List Nat),
      s.fab.releasing = r :: l → r < 256 → s.fab.xbar = [] → s.fab.queue = [] → s.fab.act = [] → s.fab.cb = [] → s.win.unswept = [] → s.invPending (.release r) = false → 
      ∃ t, exec .rgnReleaseEnd s = .next t ∧ (∀ k ∈ rgnKeys r, t.rdW k = csrDefault k) ∧ t.fab.releasing = (r :: l).filter (fun x => x != r) ∧ t.fab.rgnOp = s.fab.rgnOp) ∧
  (∀ (s : State) (r : Nat) (l : List Nat) (p : Nat),
      s.fab.releasing = r :: l → r < 256 → s.fab.xbar = [] → s.fab.queue = [] → s.fab.act = [] → s.fab.cb = [] → s.win.unswept = [] → s.invPending (.release r) = false → s.rgnBase r * 262144 ≤ p → p < (s.rgnBase r + s.rgnSize r) * 262144 → 
      ∃ t, exec .rgnReleaseEnd s = .next t ∧ (t.tierOf p).state = .unwritten ∧ (t.tierOf p).frame = none)

/-- Bifurcation, ENABLE, training, its failure and its retry move a sub-link between its states (R77, R78, R81, R82, R86, R111) -/
def Obligations.SublinksAreConfiguredAndTrainedAsTheirRegistersSay : Prop :=
  (∀ (s : State) (a : Agent) (p : Fin 4) (m : BitVec 2),
      s.reaches a (HPT_BIFUR p) = true → m.toNat < 3 → ∀ q : Fin 4, s.on (HPT_LCTL_ENABLE p q) = false → 
      ∃ t, exec (.bifurModeWrite a p m) s = .next t ∧ t.rd (HPT_BIFUR_MODE p) = m.toNat ∧ t.portMode p = m.toNat ∧ t.on (HPT_BIFUR_PENDING p) = false ∧
        RegsBut [HPT_BIFUR p, UNIT p] s t ∧ t = { s with csr := t.csr, hp := { s.hp with mode := t.hp.mode }, shadow := s.shadow.filter (fun h => h.a != a) }) ∧
  (∀ (s : State) (a : Agent) (p : Fin 4) (m : BitVec 2) (q : Fin 4),
      s.reaches a (HPT_BIFUR p) = true → m.toNat < 3 → s.on (HPT_LCTL_ENABLE p q) = true → 
      ∃ t, exec (.bifurModeWrite a p m) s = .next t ∧ t.rd (HPT_BIFUR_MODE p) = m.toNat ∧ t.portMode p = s.portMode p ∧ t.on (HPT_BIFUR_PENDING p) = true ∧
        RegsBut [HPT_BIFUR p] s t ∧ t = { s with csr := t.csr, shadow := s.shadow.filter (fun h => h.a != a) }) ∧
  (∀ (s : State) (a : Agent) (p : Fin 4),
      s.reaches a (HPT_BIFUR p) = true → 
      exec (.bifurModeWrite a p 3) s = .next (((s.dropShadow a).ignored a (HPT_BIFUR p) 3))) ∧
  (∀ (s : State) (a : Agent) (p q : Fin 4),
      s.reaches a (HPT_LCTL p q) = true → s.created p q = true → s.lstate p q = 0 → s.hp.perst.contains (p.val * 4 + q.val) = false → 
      ∃ t, exec (.sublinkEnableChange a p q true) s = .next t ∧ t.on (HPT_LCTL_ENABLE p q) = true ∧ t.lstate p q = 2 ∧
        RegsBut [HPT_LCTL p q, HPT_LSTS p q] s t ∧ t = { s with csr := t.csr, shadow := s.shadow.filter (fun h => h.a != a) }) ∧
  (∀ (s : State) (a : Agent) (p q : Fin 4),
      s.reaches a (HPT_LCTL p q) = true → s.lstate p q ≠ 3 → s.lstate p q ≠ 5 → 
      ∃ t, exec (.sublinkEnableChange a p q false) s = .next t ∧ t.on (HPT_LCTL_ENABLE p q) = false ∧ t.lstate p q = 0 ∧
        RegsBut [HPT_LCTL p q, HPT_LSTS p q, HPT_BIFUR p, UNIT p] s t ∧ t = { s with csr := t.csr, hp := { s.hp with mode := t.hp.mode }, shadow := s.shadow.filter (fun h => h.a != a) }) ∧
  (∀ (s : State) (p q : Fin 4) (rate : Fin 4) (width : Fin 17) (sw ok : Bool),
      s.lstate p q = 2 → s.mayTrain p q = true → s.canRun p q rate width = true → 
      ∃ t, exec (.linkTrainDone p q rate width sw ok) s = .next t ∧ t.lstate p q = 3 ∧ t.rd (HPT_LSTS_RATE p q) = rate ∧ t.rd (HPT_LSTS_WIDTH p q) = width ∧ t.on (HPT_LSTS_PEER_SWITCH p q) = sw ∧ t.on (HPT_LSTS_MLD p q) = (sw && ok && s.on (HPT_LCTL_MLD_EN p q)) ∧ t.rd (HPT_LSTS_LDS_UP p q) = (if sw && ok && s.on (HPT_LCTL_MLD_EN p q) then s.rd (HPT_LCTL_LDCNT p q) + 1 else 1) ∧ t.on (HPT_LSTS_DEGRADED p q) = decide (width.val < s.modeWidth p ∨ rate.val < s.maxRate p q) ∧
        RegsBut ([HPT_LSTS p q] ++ fltKeys p ++ recKeys) s t ∧ t = { s with csr := t.csr, rcd := t.rcd, hp := t.hp }) ∧
  (∀ (s : State) (p q : Fin 4),
      s.lstate p q = 2 → s.stampsIn .linkEvt (p.val * 4 + q.val) (s.rd (HPT_FENCE_CTL_WINDOW_S p)) < s.rd (HPT_FENCE_CTL_LIMIT p) → 
      ∃ t, exec (.linkModeFail p q) s = .next t ∧ t.lstate p q = 4 ∧ t.rd (HPT_LCNT_TRAIN_FAIL p q) = min (s.rd (HPT_LCNT_TRAIN_FAIL p q) + 1) 65535 ∧ t.bitOf (FLT_STS_CAUSE p) 3 = true ∧
        RegsBut ([HPT_LCNT p q, HPT_LSTS p q] ++ fltKeys p ++ recKeys) s t ∧ t = { s with csr := t.csr, rcd := t.rcd, stamps := t.stamps }) ∧
  (∀ (s : State) (p q : Fin 4),
      s.lstate p q = 4 → s.mayTrain p q = true → 
      ∃ t, exec (.linkTrainRetryTimer p q) s = .next t ∧ t.lstate p q = 2 ∧
        RegsBut [HPT_LSTS p q] s t ∧ CsrOnly s t) ∧
  (∀ (s : State) (p q : Fin 4),
      s.hp.perst.contains (p.val * 4 + q.val) = true → s.lstate p q = 1 → s.created p q = true → s.on (HPT_LCTL_ENABLE p q) = true → 
      ∃ t, exec (.perstRelease p q) s = .next t ∧ t.lstate p q = 2 ∧ t.hp.perst = s.hp.perst.filter (fun x => x != p.val * 4 + q.val) ∧
        RegsBut [HPT_LSTS p q] s t)

/-- Recovery, link-down, resets of a sub-link, its fences, DevLoad thresholds and mailbox routes act as their rules say (R83, R84, R85, R88, R110, R111) -/
def Obligations.LinkEventsAndSublinkFencesHaveTheirEffect : Prop :=
  (∀ (s : State) (a : Agent) (p q : Fin 4),
      s.reaches a (HPT_LCTL p q) = true → s.lstate p q = 3 → s.hp.recov.contains (p.val * 4 + q.val) = false → 
      exec (.linkRetrain a p q) s = .next ({ s with hp := { s.hp with recov := s.hp.recov ++ [p.val * 4 + q.val] }, shadow := s.shadow.filter (fun h => h.a != a) })) ∧
  (∀ (s : State) (p q : Fin 4) (rate : Fin 4) (width : Fin 17) (n : BitVec 16),
      s.lstate p q = 3 → s.canRun p q rate width = true → 
      ∃ t, exec (.linkRecovery p q rate width n) s = .next t ∧ t.lstate p q = 3 ∧ t.rd (HPT_LSTS_RATE p q) = rate ∧ t.rd (HPT_LSTS_WIDTH p q) = width ∧ t.on (HPT_LSTS_DEGRADED p q) = decide (width.val < s.modeWidth p ∨ rate.val < s.maxRate p q) ∧ t.rd (HPT_LCNT_REPLAY p q) = min (s.rd (HPT_LCNT_REPLAY p q) + n.toNat) (2 ^ 32 - 1) ∧ t.hp.recov = s.hp.recov.filter (fun l => l != p.val * 4 + q.val) ∧
        RegsBut ([HPT_LCNT p q, HPT_LSTS p q] ++ fltKeys p ++ recKeys) s t ∧ t = { s with csr := t.csr, rcd := t.rcd, hp := t.hp }) ∧
  (∀ (s : State) (p q : Fin 4) (ld : Fin 16),
      s.lstate p q = 3 → s.stampsIn .linkEvt (p.val * 4 + q.val) (s.rd (HPT_FENCE_CTL_WINDOW_S p)) < s.rd (HPT_FENCE_CTL_LIMIT p) → 
      ∃ t, exec (.linkDown p q) s = .next t ∧ t.lstate p q = 2 ∧ t.rd (HPT_LSTS_LDS_UP p q) = 0 ∧ t.rd (HPT_LCNT_DOWN_EVT p q) = min (s.rd (HPT_LCNT_DOWN_EVT p q) + 1) 65535 ∧ t.bitOf (FLT_STS_CAUSE p) 2 = true ∧ (t.ldOf ((p.val * 4 + q.val) * 16 + ld.val)).dec = [] ∧
        RegsBut ([HPT_LCNT p q, HPT_LSTS p q] ++ fltKeys p ++ recKeys) s t ∧ t = { s with csr := t.csr, rcd := t.rcd, hp := t.hp, stamps := t.stamps }) ∧
  (∀ (s : State) (p q : Fin 4) (ld : Fin 16),
      s.hp.perst.contains (p.val * 4 + q.val) = false → s.lstate p q = 3 → s.stampsIn .linkEvt (p.val * 4 + q.val) (s.rd (HPT_FENCE_CTL_WINDOW_S p)) < s.rd (HPT_FENCE_CTL_LIMIT p) → 
      ∃ t, exec (.perstAssert p q) s = .next t ∧ t.lstate p q = 1 ∧ t.hp.perst = s.hp.perst ++ [p.val * 4 + q.val] ∧ t.rd (HPT_LCNT_DOWN_EVT p q) = min (s.rd (HPT_LCNT_DOWN_EVT p q) + 1) 65535 ∧ (t.ldOf ((p.val * 4 + q.val) * 16 + ld.val)).dec = [] ∧
        RegsBut ([HPT_LCNT p q, HPT_LSTS p q] ++ fltKeys p ++ recKeys) s t ∧ t = { s with csr := t.csr, rcd := t.rcd, hp := t.hp, stamps := t.stamps }) ∧
  (∀ (s : State) (p q : Fin 4) (ld : Fin 16),
      s.lstate p q = 3 → s.stampsIn .linkEvt (p.val * 4 + q.val) (s.rd (HPT_FENCE_CTL_WINDOW_S p)) < s.rd (HPT_FENCE_CTL_LIMIT p) → 
      ∃ t, exec (.hotReset p q) s = .next t ∧ t.lstate p q = 2 ∧ (t.ldOf ((p.val * 4 + q.val) * 16 + ld.val)).dec = [] ∧
        RegsBut ([HPT_LCNT p q, HPT_LSTS p q] ++ fltKeys p ++ recKeys) s t ∧ t = { s with csr := t.csr, rcd := t.rcd, hp := t.hp, stamps := t.stamps }) ∧
  (∀ (s : State) (a : Agent) (p q : Fin 4),
      s.reaches a (HPT_FENCE_CTL p) = true → s.created p q = true → s.lstate p q ≠ 5 → s.holds p = false → 
      ∃ t, exec (.sublinkFence a p (BitVec.ofNat 4 (2 ^ q.val))) s = .next t ∧ t.lstate p q = 5 ∧ t.on (UNIT_DEGRADED p) = true ∧
        RegsBut (UNIT p :: [HPT_LCNT p q, HPT_LSTS p q] ++ fltKeys p ++ recKeys) s t ∧ t = { s with csr := t.csr, rcd := t.rcd, hp := { s.hp with recov := t.hp.recov }, stamps := t.stamps, shadow := s.shadow.filter (fun h => h.a != a) }) ∧
  (∀ (s : State) (a : Agent) (p q : Fin 4),
      s.reaches a (HPT_FENCE_CTL p) = true → s.lstate p q = 5 → 
      ∃ t, exec (.sublinkUnfence a p (BitVec.ofNat 4 (2 ^ q.val))) s = .next t ∧ t.lstate p q = 0 ∧
        RegsBut ([UNIT p, HPT_LSTS p q] ++ recKeys) s t ∧ t = { s with csr := t.csr, rcd := t.rcd, stamps := t.stamps, shadow := s.shadow.filter (fun h => h.a != a) }) ∧
  (∀ (s : State) (a : Agent) (p : Fin 4) (v : BitVec 32),
      s.reaches a (HPT_DEVLOAD p) = true → getBits v.toNat 0 8 < getBits v.toNat 8 8 → getBits v.toNat 8 8 < getBits v.toNat 16 8 → 
      ∃ t, exec (.devloadWrite a p v) s = .next t ∧ t.rd (HPT_DEVLOAD_T1 p) = getBits v.toNat 0 8 ∧ t.rd (HPT_DEVLOAD_T2 p) = getBits v.toNat 8 8 ∧ t.rd (HPT_DEVLOAD_T3 p) = getBits v.toNat 16 8 ∧
        RegsBut [HPT_DEVLOAD p] s t ∧ t = { s with csr := t.csr, shadow := s.shadow.filter (fun h => h.a != a) }) ∧
  (∀ (s : State) (a : Agent) (p : Fin 4) (v : BitVec 32),
      s.reaches a (HPT_DEVLOAD p) = true → getBits v.toNat 8 8 ≤ getBits v.toNat 0 8 ∨ getBits v.toNat 16 8 ≤ getBits v.toNat 8 8 → 
      exec (.devloadWrite a p v) s = .next (((s.dropShadow a).ignored a (HPT_DEVLOAD p) v.toNat))) ∧
  (∀ (s : State) (a : Agent) (n : Fin 64) (v : BitVec 32),
      s.reaches a (HPT_LDMBX n) = true → s.chanSecure (getBits v.toNat 0 5) = s.on (TIN_LDB_WORLD n) → 
      ∃ t, exec (.ldmbxWrite a n v) s = .next t ∧ t.rd (HPT_LDMBX_CHANNEL n) = getBits v.toNat 0 5 ∧ t.rd (HPT_LDMBX_VALID n) = getBits v.toNat 31 1 ∧
        RegsBut [HPT_LDMBX n] s t ∧ t = { s with csr := t.csr, shadow := s.shadow.filter (fun h => h.a != a) }) ∧
  (∀ (s : State) (a : Agent) (n : Fin 64) (v : BitVec 32),
      s.reaches a (HPT_LDMBX n) = true → s.chanSecure (getBits v.toNat 0 5) ≠ s.on (TIN_LDB_WORLD n) → 
      exec (.ldmbxWrite a n v) s = .next (((s.dropShadow a).ignored a (HPT_LDMBX n) v.toNat)))

/-- Resets of an LD, FM requests, HDM commits, Dynamic Capacity events and GPF have the effect of their rules (R87, R97, R99, R107, R111, R586) -/
def Obligations.LdResetsFmRequestsAndDecodersActOnTheirLdAlone : Prop :=
  (∀ (s : State) (link ld : Fin 16),
      s.linkUp link = true → ld.val < s.rd (HPT_LSTS_LDS_UP (link.val / 4) (link.val % 4)) → (s.ldOf (link.val * 16 + ld.val)).mbxQueued = true → 
      ∃ t, exec (.functionLevelReset link ld) s = .next t ∧ (t.ldOf (link.val * 16 + ld.val)).mbxQueued = false ∧ (t.ldOf (link.val * 16 + ld.val)).mbxAborted = true ∧ (t.ldOf (link.val * 16 + ld.val)).protoErr = false ∧ (t.ldOf (link.val * 16 + ld.val)).dec = (s.ldOf (link.val * 16 + ld.val)).dec ∧
        t = { s with hp := t.hp, mb := t.mb } ∧
        (∀ k, k ≠ link.val * 16 + ld.val → t.ldOf k = s.ldOf k)) ∧
  (∀ (s : State) (link ld : Fin 16),
      s.linkUp link = true → ld.val < s.rd (HPT_LSTS_LDS_UP (link.val / 4) (link.val % 4)) → 
      ∃ t, exec (.cxlReset link ld) s = .next t ∧ (t.ldOf (link.val * 16 + ld.val)).dec = [] ∧ (t.ldOf (link.val * 16 + ld.val)).cxlReset = true ∧ t.ldServed link ld = false ∧
        t = { s with hp := t.hp, mb := t.mb } ∧
        (∀ k, k ≠ link.val * 16 + ld.val → t.ldOf k = s.ldOf k)) ∧
  (∀ (s : State) (link ld : Fin 16),
      s.ldBusy link ld = false → (s.ldOf (link.val * 16 + ld.val)).cxlReset = true → 
      ∃ t, exec (.cxlResetEnd link ld) s = .next t ∧ (t.ldOf (link.val * 16 + ld.val)).cxlReset = false ∧
        t = { s with hp := t.hp } ∧
        (∀ k, k ≠ link.val * 16 + ld.val → t.ldOf k = s.ldOf k)) ∧
  (∀ (s : State) (link : Fin 16),
      s.fmUp link = true → 
      exec (.getLdInfo link) s = .next ({ s with out := .fm link 0 [s.rd TIN_DPA_LIMIT_CAP_GIB, s.rd (HPT_LSTS_LDS_UP (link.val / 4) (link.val % 4))] :: s.out })) ∧
  (∀ (s : State) (link : Fin 16),
      s.fmUp link = true → 
      exec (.getLdAllocations link) s = .next ({ s with out := .fm link 0 ((List.range (s.rd (HPT_LSTS_LDS_UP (link.val / 4) (link.val % 4)))).flatMap fun _ => [0, s.rd TIN_DPA_LIMIT_CAP_GIB]) :: s.out })) ∧
  (∀ (s : State) (link : Fin 16) (op : BitVec 16),
      s.fmUp link = true → 
      exec (.fmApiUnsupported link op) s = .next ({ s with out := .fm link 3 [] :: s.out })) ∧
  (∀ (s : State) (link ld : Fin 16) (i : Fin 8) (r : HdmReq),
      s.linkUp link = true → ld.val < s.rd (HPT_LSTS_LDS_UP (link.val / 4) (link.val % 4)) → s.hp.memActive = true → (match mget (fun _ => none) (s.ldOf (link.val * 16 + ld.val)).dec i with | some d => d.locked | none => false) = false → (s.ldOf (link.val * 16 + ld.val)).commitOk i ⟨r.base, r.size, r.ways, r.gran, r.pos, r.skip, r.lock⟩ = true → 
      ∃ t, exec (.hdmDecoderCommit link ld i r) s = .next t ∧ mget (fun _ => none) (t.ldOf (link.val * 16 + ld.val)).dec i = some ⟨r.base, r.size, r.ways, r.gran, r.pos, r.skip, r.lock⟩ ∧ (t.ldOf (link.val * 16 + ld.val)).commitErr.contains i.val = false ∧
        t = { s with hp := t.hp } ∧
        (∀ j, j ≠ i.val → mget (fun _ => none) (t.ldOf (link.val * 16 + ld.val)).dec j = mget (fun _ => none) (s.ldOf (link.val * 16 + ld.val)).dec j) ∧ (∀ k, k ≠ link.val * 16 + ld.val → t.ldOf k = s.ldOf k)) ∧
  (∀ (s : State) (link ld : Fin 16) (i : Fin 8) (r : HdmReq),
      s.linkUp link = true → ld.val < s.rd (HPT_LSTS_LDS_UP (link.val / 4) (link.val % 4)) → s.hp.memActive = false → (match mget (fun _ => none) (s.ldOf (link.val * 16 + ld.val)).dec i with | some d => d.locked | none => false) = false → 
      ∃ t, exec (.hdmDecoderCommit link ld i r) s = .next t ∧ mget (fun _ => none) (t.ldOf (link.val * 16 + ld.val)).dec i = none ∧ (t.ldOf (link.val * 16 + ld.val)).commitErr.contains i.val = true ∧
        t = { s with hp := t.hp } ∧
        (∀ k, k ≠ link.val * 16 + ld.val → t.ldOf k = s.ldOf k)) ∧
  (∀ (s : State) (n : Fin 64) (e : Extent),
      s.on TIN_RGN_STATUS_BUSY = false → s.on (TIN_LDB_VALID n) = true → s.hp.owed = [(n.val, .add e)] → (s.ldOf (s.rd (TIN_LDB_LINK n) * 16 + s.rd (TIN_LDB_LD n))).dcLog.length < 64 → 
      ∃ t, exec (.dcEventRaise n) s = .next t ∧ t.hp.owed = [] ∧ (t.ldOf (s.rd (TIN_LDB_LINK n) * 16 + s.rd (TIN_LDB_LD n))).dcLog = (s.ldOf (s.rd (TIN_LDB_LINK n) * 16 + s.rd (TIN_LDB_LD n))).dcLog ++ [(s.stampTime, .add e)] ∧ (t.ldOf (s.rd (TIN_LDB_LINK n) * 16 + s.rd (TIN_LDB_LD n))).extents = (s.ldOf (s.rd (TIN_LDB_LINK n) * 16 + s.rd (TIN_LDB_LD n))).extents ++ [e] ∧
        t = { s with hp := t.hp, out := t.out }) ∧
  (∀ (s : State) (link ld : Fin 16),
      s.ldServed link ld = true → 
      exec (.gpfPhase2 link ld) s = .next ({ s with out := .gpf link ld :: s.out }))

/-- A host write merges and is completed, a host read of an UNWRITTEN page waits for its entry, and the other M2S requests act as their rules say (R60, R61, R101, R102, R103, R119, R122, R129, R130) -/
def Obligations.HostRequestsAreServedOverTheFabric : Prop :=
  (∀ (s : State) (link ld : Fin 16) (tag : BitVec 16) (hpa : BitVec 52) (data : Line) (env : FabEnv) (dpa rg : Nat),
      s.ldServed link ld = true → (s.ldOf (link.val * 16 + ld.val)).translate hpa.toNat = some dpa → s.still → s.fab.alt = [] → s.fab.cb = [] → s.fab.hold = false → s.hv.armed = true → s.on HRV_STS_ARMED = true → env.voted = none → (s.check (.ld link ld tag.toNat) (dpa / 64) true).toOption = some rg → s.rgnKeyed rg = true → s.rgnClass rg = 0 → (s.altWay (dpa / 64)).isSome = true → 
      ∃ t, exec (.memWr link ld tag hpa data false env) s = .next t ∧ ((t.cbOf (dpa / 64)).map fun l => (l.data, l.mask, l.region, l.tine)) = some (data, fullMask, rg, s.homeTine (bucketOf (dpa / 64))) ∧ t.out = .ndr link ld tag.toNat (t.devLoad (link.val / 4)) :: s.out ∧ t.still ∧
        t.dr = s.dr ∧ t.fur = { s.fur with rds := t.fur.rds } ∧ t.hp = s.hp) ∧
  (∀ (s : State) (link ld : Fin 16) (tag : BitVec 16) (hpa : BitVec 52) (data : Line) (mask : LMask) (env : FabEnv) (dpa rg : Nat),
      s.ldServed link ld = true → (s.ldOf (link.val * 16 + ld.val)).translate hpa.toNat = some dpa → mask ≠ 0 → s.still → s.fab.alt = [] → s.fab.cb = [] → s.fab.hold = false → s.hv.armed = true → s.on HRV_STS_ARMED = true → env.voted = none → (s.check (.ld link ld tag.toNat) (dpa / 64) true).toOption = some rg → s.rgnKeyed rg = true → s.rgnClass rg = 0 → (s.altWay (dpa / 64)).isSome = true → 
      ∃ t, exec (.memWrPtl link ld tag hpa data mask false env) s = .next t ∧ ((t.cbOf (dpa / 64)).map fun l => (l.data, l.mask, l.region, l.tine)) = some (mergeLine 0 data mask, mask, rg, s.homeTine (bucketOf (dpa / 64))) ∧ t.out = .ndr link ld tag.toNat (t.devLoad (link.val / 4)) :: s.out ∧ t.still ∧
        t.dr = s.dr ∧ t.fur = { s.fur with rds := t.fur.rds } ∧ t.hp = s.hp) ∧
  (∀ (s : State) (link ld : Fin 16) (tag : BitVec 16) (hpa : BitVec 52) (env : FabEnv) (dpa rg : Nat),
      s.ldServed link ld = true → (s.ldOf (link.val * 16 + ld.val)).translate hpa.toNat = some dpa → s.still → s.fab.alt = [] → s.fab.cb = [] → s.fab.hold = false → s.hv.armed = true → env.voted = none → (s.check (.ld link ld tag.toNat) (dpa / 64) false).toOption = some rg → s.rgnKeyed rg = true → (s.altWay (dpa / 64)).isSome = true → s.on TIN_RUNAHEAD_ENABLE = false → s.ncOn (bankOfLine (dpa / 64)) = false → s.nc.length = 16 → (s.ncOf (bankOfLine (dpa / 64))).miss = [] → s.on (NCH_CTL_PF_EN (bankOfLine (dpa / 64))) = false → 
      ∃ t, exec (.memRd link ld tag hpa env) s = .next t ∧ t.fab.act = [{ id := s.fab.nextId, src := .ld link ld tag.toNat, kind := .read, line := dpa / 64, region := rg, tenant := s.rd (TIN_RGN_ATTR_TENANT rg), tine := s.homeTine (bucketOf (dpa / 64)), phase := .entry, fill := true }] ∧ t.out = s.out ∧ t.fab.queue = [] ∧ t.fab.xbar = [] ∧
        t.dr = s.dr ∧ t.fur = s.fur ∧ t.win = s.win ∧ t.hp = s.hp) ∧
  (∀ (s : State) (link ld : Fin 16) (tag : BitVec 16) (hpa : BitVec 52) (env : FabEnv),
      s.ldServed link ld = true → (s.ldOf (link.val * 16 + ld.val)).translate hpa.toNat = none → 
      ∃ t, exec (.memRd link ld tag hpa env) s = .next t ∧ t.out = .drs link ld tag.toNat 0 true (s.devLoad (link.val / 4)) :: s.out ∧ t.bitOf (FLT_STS_CAUSE (link.val / 4)) 5 = true ∧ t.on (HPT_DMISS_VALID (link.val / 4) (link.val % 4)) = true ∧
        RegsBut ([HPT_POIS (link.val / 4) (link.val % 4), HPT_DMISS (link.val / 4) (link.val % 4)] ++ fltKeys (link.val / 4) ++ recKeys) s t ∧ t = { s with csr := t.csr, rcd := t.rcd, out := t.out }) ∧
  (∀ (s : State) (link ld : Fin 16) (tag : BitVec 16),
      s.ldServed link ld = true → 
      exec (.memInv link ld tag) s = .next ({ s with out := .ndr link ld tag.toNat (s.devLoad (link.val / 4)) :: s.out })) ∧
  (∀ (s : State) (link ld : Fin 16) (tag : BitVec 16),
      s.ldServed link ld = true → 
      exec (.memClnEvct link ld tag) s = .next ({ s with out := .ndr link ld tag.toNat (s.devLoad (link.val / 4)) :: s.out })) ∧
  (∀ (s : State) (link ld : Fin 16) (hpa : BitVec 52) (dpa rg : Nat),
      s.ldServed link ld = true → (s.ldOf (link.val * 16 + ld.val)).translate hpa.toNat = some dpa → (s.check (.ld link ld 0) (dpa / 64) false).toOption = some rg → s.on (NCH_CTL_SPEC_EN (bankOfLine (dpa / 64))) = true → s.nc.length = 16 → s.pfAllowed (bankOfLine (dpa / 64)) (dpa / 64) rg = true → (s.ncOf (bankOfLine (dpa / 64))).miss.length < 64 → 
      ∃ t, exec (.memSpecRd link ld hpa) s = .next t ∧ (t.ncOf (bankOfLine (dpa / 64))).miss = (s.ncOf (bankOfLine (dpa / 64))).miss ++ [{ line := dpa / 64, prefetch := true, reads := [] }] ∧
        RegsBut [NCH_PF_ISSUED_CNT (bankOfLine (dpa / 64))] s t ∧ t = { s with csr := t.csr, nc := t.nc }) ∧
  (∀ (s : State) (link ld : Fin 16) (hpa : BitVec 52) (dpa reason rg : Nat),
      s.ldServed link ld = true → (s.ldOf (link.val * 16 + ld.val)).translate hpa.toNat = some dpa → (match s.check (.ld link ld 0) (dpa / 64) false with | .error e => e == (reason, rg) | .ok _ => false) = true → 
      ∃ t, exec (.memSpecRd link ld hpa) s = .next t ∧ t.rd TIN_CHK_COUNT_COUNT = min (s.rd TIN_CHK_COUNT_COUNT + 1) (2 ^ 64 - 1) ∧ t.out = s.out ∧ t.bitOf (FLT_STS_CAUSE 12) 2 = true ∧
        RegsBut ([TIN_CHK_COUNT, TIN_CHK_LAST] ++ fltKeys 12 ++ recKeys) s t ∧ RecOnly s t) ∧
  (∀ (s : State) (link ld : Fin 16) (op : BitVec 8),
      s.ldServed link ld = true → 
      ∃ t, exec (.unsupportedM2sOpcode link ld op) s = .next t ∧ (t.ldOf (link.val * 16 + ld.val)).protoErr = true ∧ t.bitOf (FLT_STS_CAUSE (link.val / 4)) 6 = true ∧
        RegsBut (fltKeys (link.val / 4) ++ recKeys) s t ∧ t = { s with csr := t.csr, rcd := t.rcd, hp := t.hp } ∧
        (∀ k, k ≠ link.val * 16 + ld.val → t.ldOf k = s.ldOf k))

/-- Entry and speculative returns answer a read, and writes that waited for a way, for reads, for a buffer line or for a thief merge (R117, R121, R122, R124, R127, R130, R153) -/
def Obligations.RequestsThatWaitedGoOnWhenTheirConditionHolds : Prop :=
  (∀ (s : State) (r : Req) (link ld tag : Nat),
      s.alone r → r.src = .ld link ld tag → tag < 65536 → r.kind = .read → r.phase = .entry → r.spec = none → s.rebuilding (pageOf r.line) = false → (s.tierOf (pageOf r.line)).state = .unwritten → (s.tierOf (pageOf r.line)).poison = false → s.rgnKeyed r.region = true → s.cbOf r.line = none → s.missOf r.line r.id = none → s.linkUp link = true → 
      ∃ t, exec (.tierEntryReturn r.id) s = .next t ∧ t.out = .drs link ld tag 0 false (s.devLoad (link / 4)) :: s.out ∧ t.still ∧
        RegsBut [TIN_ALT_STS] s t ∧ t = { s with csr := t.csr, fab := t.fab, out := t.out, th := t.th }) ∧
  (∀ (s : State) (r : Req) (link ld tag : Nat) (f : Nat),
      s.alone r → r.src = .ld link ld tag → tag < 65536 → r.kind = .read → r.phase = .dram f → r.spec = some f → r.specBack = false → s.rgnKeyed r.region = true → s.cbOf r.line = none → s.missOf r.line r.id = none → s.linkUp link = true → s.dramHeld = false → 
      ∃ t, exec (.specDataReturn r.id) s = .next t ∧ t.out = .drs link ld tag (s.frameLine f r.line (s.rgnKey r.region)) false (s.devLoad (link / 4)) :: s.out ∧ t.still ∧ t.dr.mem = s.dr.mem ∧
        t.fur = s.fur ∧ t.hp = s.hp ∧ t.yk = s.yk) ∧
  (∀ (s : State) (r : Req) (link ld tag : Nat) (env : FabEnv),
      s.alone r → s.mayMerge r link ld tag → r.phase = .way → s.altOf r.line = none → env.voted = none → 
      ∃ t, exec (.lockWayFreed r.id env) s = .next t ∧ s.merged t r link ld tag ∧
        t.dr = s.dr ∧ t.fur = { s.fur with rds := t.fur.rds } ∧ t.hp = s.hp) ∧
  (∀ (s : State) (r : Req) (link ld tag : Nat) (env : FabEnv),
      s.alone r → s.mayMerge r link ld tag → r.phase = .order → env.voted = none → 
      ∃ t, exec (.modifyAfterReads r.id env) s = .next t ∧ s.merged t r link ld tag ∧
        t.dr = s.dr ∧ t.fur = { s.fur with rds := t.fur.rds } ∧ t.hp = s.hp) ∧
  (∀ (s : State) (r : Req) (link ld tag : Nat) (env : FabEnv),
      s.alone r → s.mayMerge r link ld tag → r.phase = .cbLine → env.voted = none → 
      ∃ t, exec (.cbLineFreedWrite r.id env) s = .next t ∧ s.merged t r link ld tag ∧
        t.dr = s.dr ∧ t.fur = { s.fur with rds := t.fur.rds } ∧ t.hp = s.hp) ∧
  (∀ (s : State) (r : Req) (link ld tag : Nat) (e : AltEnt) (l : CbLine),
      s.alone r → r.src = .ld link ld tag → tag < 65536 → r.kind = .read → r.phase = .mirror → s.altOf r.line = some e → e.mode = .held → s.cbOf r.line = some l → l.mask = fullMask → s.rgnKeyed r.region = true → (s.tierOf (pageOf r.line)).state ≠ .poisoned → s.linkUp link = true → 
      ∃ t, exec (.mirrorWaitReadResume r.id {}) s = .next t ∧ t.out = .drs link ld tag l.data false (s.devLoad (link / 4)) :: s.out ∧ t.still ∧
        t.dr = s.dr ∧ t.fur = s.fur ∧ t.hp = s.hp ∧ t.fab.cb = s.fab.cb) ∧
  (∀ (s : State) (thief : Fin 256) (r : Req) (link ld tag rg : Nat),
      s.fab.xbar = [] → s.fab.queue = [r] → s.fab.act = [] → s.on TIN_STEAL_ENABLE = true → s.tineOk thief = true → r.tine ≠ thief → s.stealVictim thief = some r.tine → (s.check r.src r.line true).toOption = some rg → r.mask ≠ 0 → s.mayMerge { r with tine := thief, region := rg } link ld tag → 
      ∃ t, exec (.workSteal thief {}) s = .next t ∧ s.merged t { r with tine := thief, region := rg } link ld tag ∧ t.rd (TIN_STEAL_CNT_COUNT (thief.val / 32)) = min (s.rd (TIN_STEAL_CNT_COUNT (thief.val / 32)) + 1) (2 ^ 64 - 1) ∧
        t.dr = s.dr ∧ t.fur = { s.fur with rds := t.fur.rds } ∧ t.hp = s.hp)

/-- An aged line is handed to its drain, the drain of an UNWRITTEN page takes a frame, and the write queue takes the merged line (R125, R126, R181, R217, R218, R219) -/
def Obligations.ACombiningBufferLineDrainsToItsFrame : Prop :=
  (∀ (s : State) (line : BitVec 40) (l : CbLine) (env : FabEnv),
      s.fab.cb = [l] → l.line = line.toNat → l.twin = 0 → l.drain = .none → env.cbBad = false → s.drainNeeds l ≠ .promo → 
      ∃ t, exec (.drainAgeExpiry line env) s = .next t ∧ t.fab.cb = [{ l with drain := s.drainNeeds l }] ∧
        RegsBut ([WIN_STS] ++ fltKeys 54 ++ recKeys) s t ∧ t = { s with csr := t.csr, rcd := t.rcd, fab := { s.fab with cb := t.fab.cb } }) ∧
  (∀ (s : State) (page : BitVec 34) (frame : BitVec 31) (l : CbLine),
      s.fab.cb = [l] → pageOf l.line = page.toNat → l.drain ≠ .none → s.drainNeeds l = .frame → (s.tierOf page.toNat).state = .unwritten → s.frameFree frame.toNat = true → (s.win.rebuild.any fun x => match x with | .frameLine f => (tableLine f).contains frame.toNat | _ => false) = false → 
      ∃ t, exec (.frameReadyForDrain page frame) s = .next t ∧ (t.tierOf page.toNat).state = .dramOnly ∧ (t.tierOf page.toNat).frame = some frame.toNat ∧ (t.tierOf page.toNat).dirty = true ∧ (t.tierOf page.toNat).region = l.region ∧ t.frameUse frame.toNat = .page page.toNat ∧ t.fab.cb = [{ l with drain := .ready }] ∧ t.out = s.out ∧
        t.fur = s.fur ∧ t.hp = s.hp ∧ t.nc = s.nc) ∧
  (∀ (s : State) (line : BitVec 40) (l : CbLine) (f : Nat),
      s.still → s.fab.cb = [l] → l.line = line.toNat → l.drain ≠ .none → l.twin = 0 → s.drainNeeds l = .ready → s.rgnKeyed l.region = true → s.dramHeld = false → (s.tierOf (pageOf l.line)).frame = some f → s.dqRoom f (l.line % 64) = true → 
      ∃ t, exec (.writeQueueAccept line) s = .next t ∧ t.fab.cb = [] ∧ t.frameLine f l.line (t.rgnKey l.region) = mergeLine (s.frameLine f l.line (s.rgnKey l.region)) l.data l.mask ∧ t.out = s.out ∧
        t.fur = s.fur ∧ t.hp = s.hp)

/-- A fence of a tine or cluster starts, ends and is lifted as its rules say; homes follow; the statistics commands act (R114, R142, R143, R145, R147, R603) -/
def Obligations.TinesAndClustersAreFencedDrainedAndUnfenced : Prop :=
  (∀ (s : State) (a : Agent) (c : Fin 8) (i : Fin 32),
      s.reaches a (TIN_TINE_FENCE c) = true → s.still → s.tineOk (c.val * 32 + i.val) = true → s.holds (tcWin c) = false → s.tinesUp ≠ [c.val * 32 + i.val] → 
      ∃ t, exec (.tineFence a c (BitVec.ofNat 32 (2 ^ i.val))) s = .next t ∧ t.fab.fencing = s.fab.fencing ++ [⟨c, [i.val], false⟩] ∧ t.rd (TIN_CL_STS_CAUSE c) = 1 ∧ t.tineOk (c.val * 32 + i.val) = false ∧
        s.promoOnly t ∧ t.hp = s.hp ∧ t.dr = s.dr ∧ t.nc = s.nc ∧ t.out = s.out) ∧
  (∀ (s : State) (a : Agent) (c : Fin 8),
      s.reaches a (TIN_CL_CTL c) = true → s.still → s.clusterOut c = false → s.holds (tcWin c) = false → s.clustersUp ≠ [c.val] → 
      ∃ t, exec (.clusterFence a c) s = .next t ∧ t.fab.fencing = s.fab.fencing ++ [⟨c, [], true⟩] ∧ t.rd (TIN_CL_STS_STATE c) = 1 ∧ t.rd (TIN_CL_STS_CAUSE c) = 1 ∧ t.clusterOut c = true ∧
        s.promoOnly t ∧ t.hp = s.hp ∧ t.dr = s.dr ∧ t.nc = s.nc ∧ t.out = s.out) ∧
  (∀ (s : State) (c : Fin 8),
      s.still → s.fab.cb = [] → s.fab.fencing = [⟨c, [], true⟩] → 
      ∃ t, exec (.fenceDrainEnd c) s = .next t ∧ t.rd (TIN_CL_STS_STATE c) = 2 ∧ t.on (UNIT_FENCED (tcWin c)) = true ∧ t.fab.fencing = [] ∧ t.fab.hints = s.fab.hints.filter (fun h => h.cluster != c.val) ∧
        t.hp = s.hp ∧ t.win = s.win ∧ t.dr = s.dr ∧ t.fur = s.fur ∧ t.nc = s.nc ∧ t.out = s.out) ∧
  (∀ (s : State) (c : Fin 8) (i : Fin 32),
      s.still → s.fab.cb = [] → s.fab.fencing = [⟨c, [i.val], false⟩] → 
      ∃ t, exec (.fenceDrainEnd c) s = .next t ∧ t.tineUp (c.val * 32 + i.val) = false ∧ t.on (UNIT_DEGRADED (tcWin c)) = true ∧ t.fab.fencing = [] ∧
        t.hp = s.hp ∧ t.win = s.win ∧ t.dr = s.dr ∧ t.fur = s.fur ∧ t.nc = s.nc ∧ t.out = s.out) ∧
  (∀ (s : State) (r : Req) (link ld tag : Nat),
      s.alone r → r.src = .ld link ld tag → s.fab.fencing.any (fun f => f.covers r.tine) = true → 
      ∃ t, exec (.requestAbandon r.id) s = .next t ∧ t.still ∧ t.out = s.out ∧ t.bitOf (FLT_STS_CAUSE (tcWin (r.tine / 32))) 5 = true ∧
        t.hp = s.hp ∧ s.promoOnly t) ∧
  (∀ (s : State) (a : Agent) (c : Fin 8) (i : Fin 32),
      s.reaches a (TIN_TINE_UNFENCE c) = true → s.still → s.tineUp (c.val * 32 + i.val) = false → s.fab.fencing.any (fun f => f.covers (c.val * 32 + i.val)) = false → 
      ∃ t, exec (.tineUnfence a c (BitVec.ofNat 32 (2 ^ i.val))) s = .next t ∧ t.tineUp (c.val * 32 + i.val) = true ∧
        t.hp = s.hp ∧ t.win = s.win ∧ t.dr = s.dr ∧ t.fur = s.fur ∧ t.nc = s.nc ∧ t.out = s.out) ∧
  (∀ (s : State) (a : Agent) (c : Fin 8),
      s.reaches a (TIN_CL_CTL c) = true → s.still → s.rd (TIN_CL_STS_STATE c) = 2 → 
      ∃ t, exec (.clusterUnfence a c) s = .next t ∧ t.clusterOut c = false ∧ t.on (UNIT_FENCED (tcWin c)) = false ∧
        t.hp = s.hp ∧ t.win = s.win ∧ t.dr = s.dr ∧ t.fur = s.fur ∧ t.nc = s.nc ∧ t.out = s.out) ∧
  (∀ (s : State) (n : Fin 256),
      s.still → s.tineOk n = true → s.holds (tcWin (n.val / 32)) = false → s.tinesUp ≠ [n.val] → 
      ∃ t, exec (.tineSelfCheckFail n false) s = .next t ∧ t.fab.fencing = s.fab.fencing ++ [⟨n.val / 32, [n.val % 32], false⟩] ∧ t.rd (TIN_CL_STS_CAUSE (n.val / 32)) = 3 ∧ t.bitOf (FLT_LIVE_PRESENT (tcWin (n.val / 32))) 4 = true ∧
        s.promoOnly t ∧ t.hp = s.hp ∧ t.dr = s.dr ∧ t.nc = s.nc ∧ t.out = s.out) ∧
  (∀ (s : State) (n : Fin 256),
      s.fab.selfBad = [n.val] → 
      ∃ t, exec (.tineSelfCheckFail n true) s = .next t ∧ t.fab = { s.fab with selfBad := [] } ∧ t.bitOf (FLT_LIVE_PRESENT (tcWin (n.val / 32))) 4 = false ∧
        RegsBut [FLT_LIVE (tcWin (n.val / 32))] s t ∧ t = { s with csr := t.csr, fab := t.fab }) ∧
  (∀ (s : State) (a : Agent) (c : Fin 8),
      s.reaches a (TIN_HINT_CTL c) = true → 
      exec (.hintFlush a c) s = .next ({ s with fab := { s.fab with hints := s.fab.hints.filter (fun h => h.cluster != c.val) }, shadow := s.shadow.filter (fun h => h.a != a) })) ∧
  (∀ (s : State) (a : Agent),
      s.reaches a TIN_ALT_STS = true → 
      ∃ t, exec (.altPeakClr a) s = .next t ∧ t.rd TIN_ALT_STS_PEAK = s.rd TIN_ALT_STS_IN_USE ∧ t.rd TIN_ALT_STS_IN_USE = s.rd TIN_ALT_STS_IN_USE ∧
        RegsBut [TIN_ALT_STS] s t ∧ t = { s with csr := t.csr, shadow := s.shadow.filter (fun h => h.a != a) }) ∧
  (∀ (s : State) (a : Agent) (c : Fin 8),
      s.reaches a (TIN_CB_USE c) = true → 
      ∃ t, exec (.cbUsePeakClr a c) s = .next t ∧ t.rd (TIN_CB_USE_PEAK c) = s.rd (TIN_CB_USE_IN_USE c) ∧ t.rd (TIN_CB_USE_IN_USE c) = s.rd (TIN_CB_USE_IN_USE c) ∧
        RegsBut [TIN_CB_USE c] s t ∧ t = { s with csr := t.csr, shadow := s.shadow.filter (fun h => h.a != a) })

/-- Fills and prefetches are delivered, invalidations start and end, CACHE_EN and the fence empty a bank, an unfence returns it (R153, R155, R157, R163, R165, R167, R169, R174) -/
def Obligations.NearCacheBanksFillInvalidateFenceAndReturn : Prop :=
  (∀ (s : State) (line : BitVec 40) (r : Req) (link ld tag : Nat) (m : MissEnt) (d : Line),
      s.alone r → (s.ncOf (bankOfLine line.toNat)).miss = [m] → m.line = line.toNat → m.prefetch = false → m.reads = [r.id] → m.data = some (d, false) → r.line = line.toNat → r.kind = .read → r.src = .ld link ld tag → tag < 65536 → s.rgnKeyed r.region = true → s.cbOf r.line = none → s.linkUp link = true → 
      ∃ t, exec (.missFillReturn line) s = .next t ∧ t.out = .drs link ld tag d false (s.devLoad (link / 4)) :: s.out ∧ (t.ncOf (bankOfLine line.toNat)).miss = [] ∧ t.still ∧
        t.dr = s.dr ∧ t.fur = s.fur ∧ t.hp = s.hp) ∧
  (∀ (s : State) (line : BitVec 40) (m : MissEnt) (d : Line),
      (s.ncOf (bankOfLine line.toNat)).miss = [m] → m.line = line.toNat → m.prefetch = true → m.killed = false → m.noInstall = false → s.ncOn (bankOfLine line.toNat) = true → s.dramData line.toNat = some d → (s.ncOf (bankOfLine line.toNat)).sb = [] → s.wayListed (bankOfLine line.toNat) true 0 0 = false → 
      ∃ t, exec (.prefetchReturn line) s = .next t ∧ (t.ncOf (bankOfLine line.toNat)).sb = [⟨0, line.toNat, d⟩] ∧ (t.ncOf (bankOfLine line.toNat)).miss = [] ∧
        t = { s with nc := t.nc }) ∧
  (∀ (s : State) (a : Agent),
      s.reaches a NCH_INV_CTL = true → s.on NCH_INV_CTL_BUSY = false → s.nc.length = 16 → ∀ k ∈ s.nc, k.invNow = none ∧ k.inv = [] ∧ k.invWait = [] → 
      ∃ t, exec (.rangeInvalidate a) s = .next t ∧ t.on NCH_INV_CTL_BUSY = true ∧ t.nc.length = 16 ∧ (∀ k ∈ t.nc, k.invNow = some ⟨s.rd NCH_INV_BASE_PAGE, max 1 (s.rd NCH_INV_LEN_PAGES), .firmware⟩) ∧
        t.hp = s.hp ∧ t.win = s.win ∧ t.dr = s.dr ∧ t.fur = s.fur ∧ t.out = s.out) ∧
  (∀ (s : State) (a : Agent),
      s.reaches a NCH_INV_CTL = true → s.nc.length = 16 → 
      ∃ t, exec (.wholeCacheInvalidate a) s = .next t ∧ t.on NCH_INV_CTL_BUSY = true ∧ t.nc.length = 16 ∧ (∀ k ∈ t.nc, k.ways = [] ∧ k.sb = [] ∧ k.sweeping = true ∧ ∀ m ∈ k.miss, m.killed = true) ∧
        t.hp = s.hp ∧ t.win = s.win ∧ t.dr = s.dr ∧ t.fur = s.fur ∧ t.out = s.out) ∧
  (∀ (s : State) (b : Fin 16) (q : InvReq),
      (s.ncOf b).invNow = some q → (s.ncOf b).inv = [] → (s.ncOf b).invWait = [] → 
      ∃ t, exec (.rangeInvEnd b) s = .next t ∧ (t.ncOf b).invNow = none ∧ (t.ncOf b).ways = (s.ncOf b).ways.filter (fun e => !decide (q.base ≤ pageOf e.line ∧ pageOf e.line < q.base + q.len)) ∧ (t.ncOf b).sb = (s.ncOf b).sb.filter (fun e => !decide (q.base ≤ pageOf e.line ∧ pageOf e.line < q.base + q.len)) ∧
        t.dr = s.dr ∧ t.fur = s.fur ∧ t.hp = s.hp ∧ t.out = s.out ∧
        (∀ c, c ≠ b.val → t.ncOf c = s.ncOf c)) ∧
  (∀ (s : State) (b : Fin 16),
      ∀ k ∈ modNth s.nc b.val (fun k => { k with sweeping := false }), k.sweeping = false → s.invPending .firmware = false → 
      ∃ t, exec (.zeroSweepEnd b) s = .next t ∧ (t.ncOf b).sweeping = false ∧ t.on NCH_INV_CTL_BUSY = false ∧
        RegsBut [NCH_INV_CTL] s t ∧ t = { s with csr := t.csr, nc := t.nc }) ∧
  (∀ (s : State) (a : Agent) (b : Fin 16),
      s.reaches a (NCH_CTL b) = true → 
      ∃ t, exec (.cacheEnWrite a b true) s = .next t ∧ t.on (NCH_CTL_CACHE_EN b) = true ∧
        RegsBut [NCH_CTL b] s t ∧ t = { s with csr := t.csr, shadow := s.shadow.filter (fun h => h.a != a) }) ∧
  (∀ (s : State) (a : Agent) (b : Fin 16),
      s.reaches a (NCH_CTL b) = true → 
      ∃ t, exec (.cacheEnWrite a b false) s = .next t ∧ t.on (NCH_CTL_CACHE_EN b) = false ∧ (t.ncOf b).ways = [] ∧ (t.ncOf b).sb = [] ∧ (∀ m ∈ (t.ncOf b).miss, m.killed = true) ∧
        RegsBut [NCH_CTL b, NCH_STS b, NCH_FILL_DROP_CNT b] s t ∧ t = { s with csr := t.csr, nc := t.nc, shadow := s.shadow.filter (fun h => h.a != a) }) ∧
  (∀ (s : State) (a : Agent) (b : Fin 16),
      s.reaches a (NCH_FENCE_CTL b) = true → s.on (UNIT_FENCED (wNCH b)) = false → s.holds (wNCH b) = false → 
      ∃ t, exec (.ncBankFence a b) s = .next t ∧ t.on (UNIT_FENCED (wNCH b)) = true ∧ (t.ncOf b).ways = [] ∧ (t.ncOf b).sb = [] ∧ (∀ m ∈ (t.ncOf b).miss, m.killed = true) ∧
        RegsBut ([UNIT (wNCH b), NCH_STS b, NCH_FILL_DROP_CNT b] ++ recKeys) s t ∧ t = { s with csr := t.csr, nc := t.nc, rcd := t.rcd, shadow := s.shadow.filter (fun h => h.a != a) }) ∧
  (∀ (s : State) (a : Agent) (b : Fin 16),
      s.reaches a (NCH_FENCE_CTL b) = true → s.on (UNIT_FENCED (wNCH b)) = true → 
      ∃ t, exec (.ncBankUnfence a b) s = .next t ∧ t.on (UNIT_FENCED (wNCH b)) = false ∧ (t.ncOf b).ways = [] ∧ (t.ncOf b).sb = [] ∧
        RegsBut ([UNIT (wNCH b), NCH_STS b] ++ recKeys) s t ∧ t = { s with csr := t.csr, nc := t.nc, rcd := t.rcd, shadow := s.shadow.filter (fun h => h.a != a) })

/-- DRAM reads answer, corrected errors are counted, refresh is postponed and made up, panic changes classes, self-refresh is entered and left (R184, R185, R186, R187, R188, R190, R191, R193, R195) -/
def Obligations.DramReadsReturnAndCommandsAreScheduled : Prop :=
  (∀ (s : State) (r : Req) (link ld tag f : Nat),
      s.alone r → r.src = .ld link ld tag → tag < 65536 → r.kind = .read → r.phase = .dram f → s.rgnKeyed r.region = true → s.cbOf r.line = none → s.missOf r.line r.id = none → s.linkUp link = true → s.dramHeld = false → 
      ∃ t, exec (.dramReadReturn (.req r.id) .good) s = .next t ∧ t.out = .drs link ld tag (s.frameLine f r.line (s.rgnKey r.region)) false (s.devLoad (link / 4)) :: s.out ∧ t.still ∧ t.dr.mem = s.dr.mem ∧
        t.fur = s.fur ∧ t.hp = s.hp ∧ t.yk = s.yk) ∧
  (∀ (s : State) (page : BitVec 34) (f : BitVec 31) (i : Fin 64) (dev : Fin 10),
      s.rd CPH_STS_STATE = 1 → 
      ∃ t, exec (.dramReadReturn (.tierLine page f i) (.corrected dev)) s = .next t ∧ t.rd (DRM_ERR_CNT_CE (s.frameChan f.toNat)) = min (s.rd (DRM_ERR_CNT_CE (s.frameChan f.toNat)) + 1) 65535 ∧ t.bitOf (FLT_STS_CAUSE (wDRM (s.frameChan f.toNat))) 2 = true ∧ t.out = s.out ∧ t.fab = s.fab ∧
        t.hp = s.hp ∧ t.fur = s.fur ∧ t.nc = s.nc) ∧
  (∀ (s : State) (c : Fin 16) (rank : Fin 4),
      s.shape → s.rd (DRM_STS_STATE c) = 2 → rank.val < s.ranksOf c → s.rankWaits c rank = true → s.owedOf c rank < s.postponeMax c → 
      ∃ t, exec (.refreshInterval c rank true) s = .next t ∧ t.owedOf c rank = s.owedOf c rank + 1 ∧
        RegsBut [DRM_REF c] s t ∧ t = { s with csr := t.csr, dr := t.dr }) ∧
  (∀ (s : State) (c : Fin 16) (rank : Fin 4),
      s.rd (DRM_STS_STATE c) = 2 → 
      exec (.refreshInterval c rank false) s = .next (s)) ∧
  (∀ (s : State) (c : Fin 16) (hot : BitVec 4),
      s.shape → 
      ∃ t, exec (.mr4Poll c hot) s = .next t ∧ (t.chOf c).hot = (List.range 4).filter hot.toNat.testBit ∧ t.rd (DRM_REF_HOT c) = (if hot = 0 then 0 else 1) ∧ t.bitOf (FLT_LIVE_PRESENT (wDRM c)) 9 = decide (hot ≠ 0) ∧
        RegsBut (DRM_REF c :: (fltKeys (wDRM c) ++ recKeys)) s t ∧ t = { s with csr := t.csr, rcd := t.rcd, dr := t.dr }) ∧
  (∀ (s : State) (c : Fin 16) (rank : Fin 4),
      0 < s.owedOf c rank → s.rankWaits c rank = false ∨ s.owedOf c rank = s.postponeMax c → 
      ∃ t, exec (.refreshMakeupBurst c rank) s = .next t ∧ t.owedOf c rank = 0 ∧ t.rd (DRM_REFB_CNT_COUNT c) = min (s.rd (DRM_REFB_CNT_COUNT c) + 1) (2 ^ 64 - 1) ∧
        RegsBut [DRM_REF c, DRM_REFB_CNT c] s t ∧ t = { s with csr := t.csr, dr := t.dr }) ∧
  (∀ (s : State) (c : Fin 16) (idx : Nat) (e : DqEnt),
      (s.chOf c).q[idx]? = some e → e.cls ≠ .panic → 
      ∃ t, exec (.requestAged c idx) s = .next t ∧ (t.chOf c).q[idx]? = some { e with cls := .aged } ∧ (t.chOf c).q.length = (s.chOf c).q.length ∧
        t = { s with dr := t.dr } ∧
        (∀ j, j ≠ idx → (t.chOf c).q[j]? = (s.chOf c).q[j]?)) ∧
  (∀ (s : State) (c : Fin 16) (bank : BitVec 10),
      
      ∃ t, exec (.rowIdlePrecharge c bank) s = .next t ∧ (t.chOf c).openRows = (s.chOf c).openRows.filter (fun r => r.1 != bank.toNat) ∧ (t.chOf c).q = (s.chOf c).q ∧
        t = { s with dr := t.dr }) ∧
  (∀ (s : State) (c : Fin 16) (sub : Fin 2),
      s.shape → (s.chOf c).caps + 1 < max 1 (s.rd (DRM_CAP_LIMIT c)) → 
      ∃ t, exec (.caParityAlert c sub) s = .next t ∧ (t.chOf c).caps = (s.chOf c).caps + 1 ∧ t.rd (DRM_ERR_CNT_CAP c) = min (s.rd (DRM_ERR_CNT_CAP c) + 1) 65535 ∧ t.bitOf (FLT_STS_CAUSE (wDRM c)) 4 = true ∧
        RegsBut ([DRM_ERR_CNT c, DRM_ERR_LAST c] ++ fltKeys (wDRM c) ++ recKeys) s t ∧ t = { s with csr := t.csr, rcd := t.rcd, dr := t.dr }) ∧
  (∀ (s : State) (c : Fin 16) (sub : Fin 2),
      s.shape → max 1 (s.rd (DRM_CAP_LIMIT c)) ≤ (s.chOf c).caps + 1 → (s.chOf c).fencing = [] → s.dramFenced c none = false → s.holds (wDRM c) = false → s.lastDram c none = false → 
      ∃ t, exec (.caParityAlert c sub) s = .next t ∧ (t.chOf c).caps = 0 ∧ (t.chOf c).fencing = [⟨none, false⟩] ∧ t.rd (DRM_STS_STATE c) = 4 ∧
        t.fur = s.fur) ∧
  (∀ (s : State) (src : PanicSrc),
      s.shape → (match src with | .yoke => s.dr.yokePanic | .drill => s.dr.drillPanic) = false → 
      ∃ t, exec (.panicRaise src) s = .next t ∧ (match src with | .yoke => t.dr.yokePanic | .drill => t.dr.drillPanic) = true ∧ (∀ c : Fin 16, t.on (match src with | .yoke => DRM_RT_YOKE_PANIC c | .drill => DRM_RT_DRILL_PANIC c) = true) ∧ (∀ c : Fin 16, t.panicOn c src = true → ∀ e ∈ (t.chOf c).q, e.origin = some src → e.cls = .panic) ∧
        t.hp = s.hp ∧ t.fab = s.fab ∧ t.out = s.out ∧ t.dr.mem = s.dr.mem) ∧
  (∀ (s : State) (src : PanicSrc),
      s.shape → (match src with | .yoke => s.dr.yokePanic | .drill => s.dr.drillPanic) = true → 
      ∃ t, exec (.panicFall src) s = .next t ∧ (match src with | .yoke => t.dr.yokePanic | .drill => t.dr.drillPanic) = false ∧ (∀ c : Fin 16, t.on (match src with | .yoke => DRM_RT_YOKE_PANIC c | .drill => DRM_RT_DRILL_PANIC c) = false) ∧ (∀ c : Fin 16, ∀ e ∈ (t.chOf c).q, e.origin = some src → e.cls ≠ .panic) ∧
        t.hp = s.hp ∧ t.fab = s.fab ∧ t.out = s.out ∧ t.dr.mem = s.dr.mem) ∧
  (∀ (s : State) (a : Agent) (c : Fin 16),
      s.shape → s.reaches a (DRM_SR c) = true → s.rd (DRM_STS_STATE c) = 2 → (s.chOf c).q = [] → 
      ∃ t, exec (.srEnterRequest a c) s = .next t ∧ (t.chOf c).sr = .inSr ∧ t.rd (DRM_STS_STATE c) = 3 ∧ (t.chOf c).openRows = [] ∧
        RegsBut [DRM_STS c, DRM_REF c, DRM_REFB_CNT c] s t ∧ t = { s with csr := t.csr, dr := t.dr, shadow := s.shadow.filter (fun h => h.a != a) }) ∧
  (∀ (s : State) (c : Fin 16),
      s.shape → s.on (DRM_SR_AUTO c) = true ∨ (s.chOf c).sr = .asked → s.rd (DRM_STS_STATE c) = 2 → (s.chOf c).q = [] → 
      ∃ t, exec (.srIdleEntry c) s = .next t ∧ (t.chOf c).sr = .inSr ∧ t.rd (DRM_STS_STATE c) = 3 ∧
        RegsBut [DRM_STS c, DRM_REF c, DRM_REFB_CNT c] s t ∧ t = { s with csr := t.csr, dr := t.dr }) ∧
  (∀ (s : State) (a : Agent) (c : Fin 16),
      s.reaches a (DRM_SR c) = true → (s.chOf c).sr = .inSr → 
      ∃ t, exec (.srExitRequest a c) s = .next t ∧ (t.chOf c).sr = .awake ∧ t.rd (DRM_STS_STATE c) = 2 ∧
        RegsBut [DRM_STS c] s t ∧ t = { s with csr := t.csr, dr := t.dr, shadow := s.shadow.filter (fun h => h.a != a) })

/-- Mode-register commands, training, delays, activation, drift, Harrow and the fences of ranks and channels have their effect (R178, R197, R198, R199, R204, R207, R208, R209, R210) -/
def Obligations.DramTrainingDelaysHarrowAndFencesFollowTheirRules : Prop :=
  (∀ (s : State) (a : Agent) (c : Fin 16) (v : BitVec 28),
      s.reaches a (DRM_MR_CMD c) = true → 
      ∃ t, exec (.mrWrite a c v) s = .next t ∧ t.rd (DRM_MR_CMD_OP c) = 0 ∧ t.on (DRM_MR_CMD_DONE c) = true ∧ t.rd (DRM_MR_CMD_DATA c) = v.toNat % 256 ∧ t.rd (DRM_MR_CMD_ADDR c) = v.toNat / 256 % 256 ∧
        RegsBut [DRM_MR_CMD c] s t ∧ t = { s with csr := t.csr, shadow := s.shadow.filter (fun h => h.a != a) }) ∧
  (∀ (s : State) (a : Agent) (c : Fin 16) (v : BitVec 28) (data : Byte),
      s.reaches a (DRM_MR_CMD c) = true → 
      ∃ t, exec (.mrRead a c v data) s = .next t ∧ t.rd (DRM_MR_CMD_OP c) = 1 ∧ t.on (DRM_MR_CMD_DONE c) = true ∧ t.rd (DRM_MR_CMD_DATA c) = v.toNat % 256 ∧ t.rd (DRM_MR_CMD_ADDR c) = v.toNat / 256 % 256 ∧ t.rd (DRM_MR_DATA_DATA c) = data.toNat ∧
        RegsBut [DRM_MR_CMD c, DRM_MR_DATA c] s t ∧ t = { s with csr := t.csr, shadow := s.shadow.filter (fun h => h.a != a) }) ∧
  (∀ (s : State) (a : Agent) (c : Fin 16) (v : BitVec 28),
      s.reaches a (DRM_MR_CMD c) = true → 
      ∃ t, exec (.mpcCommand a c v) s = .next t ∧ t.rd (DRM_MR_CMD_OP c) = 2 ∧ t.on (DRM_MR_CMD_DONE c) = true ∧ t.rd (DRM_MR_CMD_DATA c) = v.toNat % 256 ∧ t.rd (DRM_MR_CMD_ADDR c) = v.toNat / 256 % 256 ∧
        RegsBut [DRM_MR_CMD c] s t ∧ t = { s with csr := t.csr, shadow := s.shadow.filter (fun h => h.a != a) }) ∧
  (∀ (s : State) (a : Agent) (c : Fin 16) (v : BitVec 28) (pass : BitVec 40),
      s.shape → s.reaches a (DRM_MR_CMD c) = true → s.rd (DRM_STS_STATE c) = 1 → 
      ∃ t, exec (.trainingReadCompare a c v pass) s = .next t ∧ t.rd (DRM_MR_CMD_OP c) = 3 ∧ t.on (DRM_MR_CMD_DONE c) = true ∧ t.rd (DRM_MR_CMD_DATA c) = v.toNat % 256 ∧ t.rd (DRM_MR_CMD_ADDR c) = v.toNat / 256 % 256 ∧ t.rd (DRM_TRN_PASS c) = pass.toNat ∧ (t.chOf c).trained = (pass == 0xFFFFFFFFFF) ∧
        RegsBut [DRM_MR_CMD c, DRM_TRN c] s t ∧ t = { s with csr := t.csr, dr := t.dr, shadow := s.shadow.filter (fun h => h.a != a) }) ∧
  (∀ (s : State) (a : Agent) (c : Fin 16),
      s.reaches a (DRM_DLY_CTL c) = true → 
      ∃ t, exec (.delayApply a c) s = .next t ∧ t.on (DRM_DLY_CTL_PENDING c) = true ∧
        RegsBut [DRM_DLY_CTL c] s t ∧ t = { s with csr := t.csr, shadow := s.shadow.filter (fun h => h.a != a) }) ∧
  (∀ (s : State) (c : Fin 16) (k : Nat) (v : Word64),
      s.on (DRM_DLY_CTL_PENDING c) = true → (s.chOf c).shadow = [(k, v)] → k ≠ DRM_DLY_CTL c → 
      ∃ t, exec (.delayShadowLoad c) s = .next t ∧ t.rdW k = v ∧ t.on (DRM_DLY_CTL_PENDING c) = false ∧
        RegsBut [k, DRM_DLY_CTL c] s t ∧ CsrOnly s t) ∧
  (∀ (s : State) (a : Agent) (c : Fin 16),
      s.reaches a (DRM_CFG c) = true → s.rd (DRM_STS_STATE c) = 1 → (s.chOf c).trained = true → 
      ∃ t, exec (.channelActivate a c) s = .next t ∧ t.on (DRM_CFG_ACTIVE c) = true ∧ t.rd (DRM_STS_STATE c) = 2 ∧
        RegsBut ([DRM_CFG c, DRM_STS c, WIN_FRAME_CNT, WIN_PAGE_CNT] ++ fltKeys 54 ++ recKeys) s t ∧ t = { s with csr := t.csr, rcd := t.rcd, shadow := s.shadow.filter (fun h => h.a != a) }) ∧
  (∀ (s : State) (c : Fin 16) (rank : Fin 4) (dly : List (BitVec 12)),
      s.rd (DRM_STS_STATE c) = 2 → 
      ∃ t, exec (.oscillatorDriftCheck c rank true dly) s = .next t ∧ t.on (DRM_DLY_CTL_PENDING c) = true ∧ t.bitOf (FLT_STS_CAUSE (wDRM c)) 8 = true ∧ t.rd (DRM_STS_STATE c) = 2 ∧
        RegsBut (DRM_DLY_CTL c :: (fltKeys (wDRM c) ++ recKeys)) s t ∧ t = { s with csr := t.csr, rcd := t.rcd, dr := t.dr }) ∧
  (∀ (s : State) (c : Fin 16) (rank : Fin 4) (dly : List (BitVec 12)),
      
      exec (.oscillatorDriftCheck c rank false dly) s = .next (s)) ∧
  (∀ (s : State) (p f : Nat),
      s.on HRW_CTL_ENABLE = true → s.fab.hold = false → s.hrvBusy = false → s.rd HRW_STS_PHASE = 0 → s.nextDramPage (s.rd HRW_STS_POS) = some (p, f) → p = s.rd HRW_STS_POS → s.dr.hrwLine < 63 → 
      ∃ t, exec (.harrowPatrolRead .good) s = .next t ∧ t.dr.hrwLine = s.dr.hrwLine + 1 ∧ t.rd HRW_STS_POS = p ∧ t.rd HRW_STS_PHASE = 0 ∧ t.dr.mem = s.dr.mem ∧
        RegsBut (HRW_STS :: (fltKeys 53 ++ recKeys)) s t ∧ t = { s with csr := t.csr, rcd := t.rcd, dr := t.dr }) ∧
  (∀ (s : State) (a : Agent) (c : Fin 16) (r : Fin 4),
      s.shape → s.reaches a (DRM_FENCE_CTL c) = true → r.val < s.ranksOf c → s.dramFenced c (some r.val) = false → s.lastDram c (some r.val) = false → s.holds (wDRM c) = false → 
      ∃ t, exec (.rankFence a c (BitVec.ofNat 4 (2 ^ r.val))) s = .next t ∧ (t.chOf c).fencing = (s.chOf c).fencing ++ [⟨some r.val, s.on (DRM_FENCE_CTL_MODE c)⟩] ∧ t.rd (DRM_STS_STATE c) = 4 ∧
        t.fur = s.fur) ∧
  (∀ (s : State) (a : Agent) (c : Fin 16),
      s.shape → s.reaches a (DRM_FENCE_CTL c) = true → s.dramFenced c none = false → s.lastDram c none = false → s.holds (wDRM c) = false → 
      ∃ t, exec (.channelFence a c) s = .next t ∧ (t.chOf c).fencing = (s.chOf c).fencing ++ [⟨none, s.on (DRM_FENCE_CTL_MODE c)⟩] ∧ t.rd (DRM_STS_STATE c) = 4 ∧
        t.fur = s.fur) ∧
  (∀ (s : State) (a : Agent) (c : Fin 16),
      s.reaches a (DRM_FENCE_CTL c) = true → s.dramFenced c none = false → s.lastDram c none = true → s.rcd.queue.length < 127 → 
      ∃ t, exec (.channelFence a c) s = .next t ∧ (t.chOf c).fencing = (s.chOf c).fencing ∧ t.rd (DRM_STS_STATE c) = s.rd (DRM_STS_STATE c) ∧ t.rcd.queue.take (s.rcd.queue.length + 1) = s.rcd.queue ++ [badRec s a true false 5 (DRM_FENCE_CTL c) 32] ∧
        RegsBut (fltKeys (wDRM c) ++ recKeys) s t ∧ t = { s with csr := t.csr, rcd := t.rcd, shadow := s.shadow.filter (fun h => h.a != a) }) ∧
  (∀ (s : State) (c : Fin 16) (dst : BitVec 28) (r : Nat) (d : Bool),
      s.shape → (s.chOf c).fencing = [⟨some r, d⟩] → s.pagesOn c (some r) = [] → s.sysLocals c ≤ r * s.framesPerRank c → 
      ∃ t, exec (.evacuationEnd c dst) s = .next t ∧ (t.chOf c).fencing = [] ∧ (t.chOf c).fencedRanks = (s.chOf c).fencedRanks ++ [r] ∧ t.rd (DRM_STS_STATE c) = 2 ∧ t.on (UNIT_DEGRADED (wDRM c)) = true ∧
        t.fur = s.fur ∧ t.fab = s.fab ∧ t.out = s.out ∧ t.dr.mem = s.dr.mem) ∧
  (∀ (s : State) (c : Fin 16) (dst : BitVec 28) (d : Bool),
      s.shape → (s.chOf c).fencing = [⟨none, d⟩] → s.win.frames = [] → 
      ∃ t, exec (.evacuationEnd c dst) s = .next t ∧ (t.chOf c).fencing = [] ∧ t.rd (DRM_STS_STATE c) = 5 ∧ t.rd (DRM_STS_RANKS_UP c) = 0 ∧ t.on (UNIT_FENCED (wDRM c)) = true ∧
        t.fur = s.fur ∧ t.fab = s.fab ∧ t.out = s.out ∧ t.dr.mem = s.dr.mem) ∧
  (∀ (s : State) (a : Agent) (c : Fin 16),
      s.shape → s.reaches a (DRM_FENCE_CTL c) = true → (s.chOf c).fencing = [] → s.on (UNIT_FENCED (wDRM c)) = true → 
      ∃ t, exec (.dramUnfence a c) s = .next t ∧ (t.chOf c).fencedRanks = [] ∧ t.on (UNIT_FENCED (wDRM c)) = false ∧ t.rd (DRM_STS_STATE c) = 0 ∧ t.on (DRM_CFG_ACTIVE c) = false ∧
        t.fur = s.fur ∧ t.fab = s.fab ∧ t.out = s.out ∧ t.dr.mem = s.dr.mem)

/-- An epoch starts, decays the heat and ends; demotion, ceiling demotion, cleaning and frame moves start on the page their rules choose (R221, R224, R228, R229, R230, R231, R233, R234) -/
def Obligations.EpochsSweepAndMovesStart : Prop :=
  (∀ (s : State),
      s.win.epochOn = false → s.on WIN_CTL_SWEEP_EN = true → 
      ∃ t, exec .epochStart s = .next t ∧ t.win.epochOn = true ∧ t.win.epochAt = s.now ∧ t.win.sweepDone = true ∧ t.win.tier = s.win.tier.map (fun e => if e.2.frame.isSome then (e.1, { e.2 with heat := e.2.heat / 2 ^ s.decay }) else e) ∧
        t = { s with win := t.win }) ∧
  (∀ (s : State),
      s.win.epochOn = true → s.win.sweepDone = true → s.win.epochAt + s.epochNs ≤ s.now → 
      ∃ t, exec .epochEnd s = .next t ∧ t.win.epochOn = false ∧ t.rd WIN_STS_EPOCH = (s.rd WIN_STS_EPOCH + 1) % 65536 ∧ (s.win.epochAt + s.epochNs < s.now → t.on WIN_STS_STRETCH = true) ∧
        RegsBut [WIN_STS] s t ∧ t = { s with csr := t.csr, win := { s.win with epochOn := false } }) ∧
  (∀ (s : State) (page : BitVec 34) (r : FRead) (x : FSlot) (m : Move),
      s.still → s.fur.rds = [r] → r.page = page.toNat → r.done = some true → r.why = .promote → s.slotAt r.loc = some x → s.win.moves = [m] → m.page = page.toNat → 
      ∃ t, exec (.flashDataStaged page) s = .next t ∧ t.win.moves = [{ m with staged := some x.img }] ∧ t.fur.rds = [] ∧
        t.dr = s.dr ∧ t.hp = s.hp ∧ t.out = s.out ∧ t.fur.map = s.fur.map) ∧
  (∀ (s : State) (p f : Nat) (rest : List Nat),
      s.hrvBusy = false → s.slotFree false = true → s.rd WIN_FRAME_CNT_FREE ≠ 0 → s.demoterOn = true → s.win.ring = p :: rest → (s.tierOf p).migrating = false → s.eligible p = true → (s.tierOf p).frame = some f → 
      ∃ t, exec .demotionStart s = .next t ∧ t.win.moves.map (fun m => (m.page, m.kind)) = s.win.moves.map (fun m => (m.page, m.kind)) ++ [(p, .demotion)] ∧ (t.tierOf p).migrating = true ∧ t.win.ring = rest ∧ t.win.demoting = true ∧
        t.hp = s.hp ∧ t.dr = s.dr ∧ t.nc = s.nc ∧ t.out = s.out ∧ t.fab = s.fab ∧ t.fur = s.fur) ∧
  (∀ (s : State) (r : Fin 256) (p f : Nat),
      s.hrvBusy = false → s.slotFree false = true → s.ceilOver r = true → s.ceilPick r = some p → (s.tierOf p).frame = some f → 
      ∃ t, exec (.ceilingDemotion r) s = .next t ∧ t.win.moves.map (fun m => (m.page, m.kind)) = s.win.moves.map (fun m => (m.page, m.kind)) ++ [(p, .demotion)] ∧ (t.tierOf p).migrating = true ∧ t.ceilScan r = (p + 1, 0) ∧
        t.hp = s.hp ∧ t.dr = s.dr ∧ t.nc = s.nc ∧ t.out = s.out ∧ t.fab = s.fab ∧ t.fur = s.fur) ∧
  (∀ (s : State) (p f : Nat),
      s.hrvBusy = false → s.cleans = true → s.slotFree false = true → s.coldest = some p → (s.tierOf p).frame = some f → 
      ∃ t, exec .cleaningStart s = .next t ∧ t.win.moves = s.win.moves ++ [{ kind := .cleaning, page := p, staged := some (s.frameImg f) }] ∧ (t.tierOf p).migrating = true ∧ t.win.cleaning = true ∧
        t.hp = s.hp ∧ t.dr = s.dr ∧ t.nc = s.nc ∧ t.out = s.out ∧ t.fab = s.fab ∧ t.fur = s.fur) ∧
  (∀ (s : State) (page : BitVec 34) (dest : BitVec 31) (f : Nat) (ret : Bool),
      (s.tierOf page.toNat).frame = some f → s.mustLeave f s.vacating = some ret → (s.tierOf page.toNat).migrating = false → (s.tierOf page.toNat).poison = false → s.hrvBusy = false → s.slotFree false = true → s.frameFree dest.toNat = true → 
      ∃ t, exec (.frameMoveStart page dest) s = .next t ∧ t.win.moves = s.win.moves ++ [{ kind := .frameMove ret, page := page.toNat, dest := some dest.toNat, staged := some (s.frameImg f) }] ∧ (t.tierOf page.toNat).migrating = true ∧ t.frameUse dest.toNat = .page page.toNat ∧
        t.hp = s.hp ∧ t.dr = s.dr ∧ t.nc = s.nc ∧ t.out = s.out ∧ t.fab = s.fab ∧ t.fur = s.fur)

/-- A copied move switches the page's entry, a page whose poisoning is due is written POISONED, a rebuilt frame-table line frees its quarantine (R235, R236, R238, R239, R243) -/
def Obligations.MovesSwitchAndPoisonAndRebuildsEnd : Prop :=
  (∀ (s : State) (page : BitVec 34) (dest : BitVec 38) (m : Move) (im : PageImg),
      s.win.moves = [m] → m.page = page.toNat → m.kind = .promotion → m.staged = some im → m.copied = false → s.frameFree dest.toNat = true → 
      ∃ t, exec (.moveCopyDone page dest true) s = .next t ∧ t.win.moves = [{ m with dest := some dest.toNat, copied := true, hold := true }] ∧ t.frameUse dest.toNat = .page page.toNat ∧ t.win.tier = s.win.tier ∧
        t.hp = s.hp ∧ t.nc = s.nc ∧ t.out = s.out ∧ t.fab = s.fab ∧ t.fur = s.fur) ∧
  (∀ (s : State) (page : BitVec 34) (m : Move) (d : Nat),
      s.still → s.fab.cb = [] → s.moveOf page.toNat = some m → m.kind = .promotion → m.copied = true → m.dest = some d → 
      ∃ t, exec (.moveSwitch page) s = .next t ∧ (t.tierOf page.toNat).state = .dramClean ∧ (t.tierOf page.toNat).frame = some d ∧ (t.tierOf page.toNat).migrating = false ∧ (t.tierOf page.toNat).heat = max (s.tierOf page.toNat).heat (s.rd WIN_HEAT_PROMO_HEAT) ∧ t.rd WIN_PROMO_CNT_COUNT = min (s.rd WIN_PROMO_CNT_COUNT + 1) (2 ^ 64 - 1) ∧ t.moveOf page.toNat = none ∧
        t.hp = s.hp ∧ t.nc = s.nc ∧ t.out = s.out ∧ t.dr = s.dr) ∧
  (∀ (s : State) (page : BitVec 34) (m : Move) (f : Nat),
      s.still → s.fab.cb = [] → s.moveOf page.toNat = some m → m.kind = .cleaning → m.copied = true → m.mask = 0 → (s.tierOf page.toNat).frame = some f → 
      ∃ t, exec (.moveSwitch page) s = .next t ∧ (t.tierOf page.toNat).state = .dramClean ∧ (t.tierOf page.toNat).frame = some f ∧ (t.tierOf page.toNat).dirty = false ∧ (t.tierOf page.toNat).migrating = false ∧ t.rd WIN_CLEAN_CNT_COUNT = min (s.rd WIN_CLEAN_CNT_COUNT + 1) (2 ^ 64 - 1) ∧
        t.hp = s.hp ∧ t.nc = s.nc ∧ t.out = s.out ∧ t.dr = s.dr ∧ t.fur = s.fur) ∧
  (∀ (s : State) (page : BitVec 34) (m : Move) (f : Nat),
      s.still → s.fab.cb = [] → s.moveOf page.toNat = some m → m.kind = .demotion → m.copied = true → m.mask = 0 → (s.tierOf page.toNat).frame = some f → 
      ∃ t, exec (.moveSwitch page) s = .next t ∧ (t.tierOf page.toNat).state = .flashOnly ∧ (t.tierOf page.toNat).frame = none ∧ (t.tierOf page.toNat).dirty = false ∧ (t.tierOf page.toNat).heat = 0 ∧ (t.tierOf page.toNat).migrating = false ∧ t.frameUse f = .free ∧ t.rd WIN_DEMO_CNT_COUNT = min (s.rd WIN_DEMO_CNT_COUNT + 1) (2 ^ 64 - 1) ∧
        t.hp = s.hp ∧ t.nc = s.nc ∧ t.out = s.out ∧ t.fur = s.fur) ∧
  (∀ (s : State) (page : BitVec 34) (q : Poisoning),
      s.still → s.fab.cb = [] → s.win.poisoning = [q] → q.page = page.toNat → q.psrc = 2 → q.healing = false → s.invPending (.poison page.toNat) = false → 
      ∃ t, exec (.poisonPageFinalize page) s = .next t ∧ (t.tierOf page.toNat).state = .poisoned ∧ (t.tierOf page.toNat).poison = true ∧ (t.tierOf page.toNat).frame = none ∧ (t.tierOf page.toNat).psrc = 2 ∧ t.furLoc page.toNat = none ∧ t.win.poisoning = [] ∧
        t.hp = s.hp ∧ t.nc = s.nc ∧ t.out = s.out) ∧
  (∀ (s : State) (f g : Nat) (rest : List Rebuild) (e : Nat × TierEnt),
      s.win.rebuild = .frameLine f :: rest → s.win.frames = [(g, .quarantined)] → (tableLine f).contains g = true → (s.win.tier.find? fun e => e.2.frame == some g) = some e → s.fab.cb = [] → 
      ∃ t, exec .metaRebuildDone s = .next t ∧ t.frameUse g = .page e.1 ∧ t.win.rebuild = rest ∧ t.bitOf (FLT_STS_CAUSE 54) 3 = true ∧
        RegsBut ([WIN_FRAME_CNT, WIN_ERR_LAST, WIN_STS] ++ fltKeys 54 ++ recKeys) s t ∧ t = { s with csr := t.csr, rcd := t.rcd, win := t.win })

/-- PIN and UNPIN are taken when their check passes and pin every page of the range; loads end; policies are stored or ignored (R224, R225, R226, R227, R244) -/
def Obligations.PinsAndPoliciesAreWrittenAsTheirRulesSay : Prop :=
  (∀ (s : State) (a : Agent),
      s.reaches a WIN_PIN_CTL = true → s.on WIN_PIN_CTL_BUSY = false → (s.wr WIN_PIN_CTL_OP 1).pinCheck true (s.rd WIN_PIN_BASE_PAGE) (max 1 (s.rd WIN_PIN_LEN_PAGES)) = 0 → 
      ∃ t, exec (.pinOp a) s = .next t ∧ t.on WIN_PIN_CTL_BUSY = true ∧ t.rd WIN_PIN_CTL_OP = 1 ∧ t.win.pinOp = some ⟨true, s.rd WIN_PIN_BASE_PAGE, max 1 (s.rd WIN_PIN_LEN_PAGES)⟩ ∧
        RegsBut ([WIN_PIN_CTL, WIN_PAGE_CNT] ++ fltKeys 54 ++ recKeys) s t ∧ t = { s with csr := t.csr, rcd := t.rcd, win := t.win, shadow := s.shadow.filter (fun h => h.a != a) }) ∧
  (∀ (s : State) (a : Agent) (e : Nat),
      s.reaches a WIN_PIN_CTL = true → s.on WIN_PIN_CTL_BUSY = false → (s.wr WIN_PIN_CTL_OP 1).pinCheck true (s.rd WIN_PIN_BASE_PAGE) (max 1 (s.rd WIN_PIN_LEN_PAGES)) = e → e ≠ 0 → 
      ∃ t, exec (.pinOp a) s = .next t ∧ t.rd WIN_PIN_CTL_RESULT = e ∧ t.on WIN_PIN_CTL_BUSY = false ∧ t.win = s.win ∧
        RegsBut [WIN_PIN_CTL] s t ∧ t = { s with csr := t.csr, shadow := s.shadow.filter (fun h => h.a != a) }) ∧
  (∀ (s : State) (a : Agent),
      s.reaches a WIN_PIN_CTL = true → s.on WIN_PIN_CTL_BUSY = false → (s.wr WIN_PIN_CTL_OP 2).pinCheck false (s.rd WIN_PIN_BASE_PAGE) (max 1 (s.rd WIN_PIN_LEN_PAGES)) = 0 → 
      ∃ t, exec (.unpinOp a) s = .next t ∧ t.on WIN_PIN_CTL_BUSY = true ∧ t.rd WIN_PIN_CTL_OP = 2 ∧ t.win.pinOp = some ⟨false, s.rd WIN_PIN_BASE_PAGE, max 1 (s.rd WIN_PIN_LEN_PAGES)⟩ ∧
        RegsBut ([WIN_PIN_CTL, WIN_PAGE_CNT] ++ fltKeys 54 ++ recKeys) s t ∧ t = { s with csr := t.csr, rcd := t.rcd, win := t.win, shadow := s.shadow.filter (fun h => h.a != a) }) ∧
  (∀ (s : State) (a : Agent) (three : Bool),
      s.reaches a WIN_PIN_CTL = true → s.on WIN_PIN_CTL_BUSY = false → 
      ∃ t, exec (.pinOpNone a three) s = .next t ∧ t.rd WIN_PIN_CTL_OP = (if three then 3 else 0) ∧ t.on WIN_PIN_CTL_BUSY = false ∧ t.rd WIN_PIN_CTL_RESULT = s.rd WIN_PIN_CTL_RESULT ∧
        RegsBut [WIN_PIN_CTL] s t ∧ t = { s with csr := t.csr, shadow := s.shadow.filter (fun h => h.a != a) }) ∧
  (∀ (s : State) (pin : Bool) (b n : Nat),
      s.win.pinOp = some ⟨pin, b, n⟩ → 
      ∃ t, exec .pinOpDone s = .next t ∧ (∀ i < n, (t.tierOf (b + i)).pinned = pin) ∧ t.win.pinOp = none ∧ t.on WIN_PIN_CTL_BUSY = false ∧ t.rd WIN_PIN_CTL_RESULT = 0 ∧
        t.hp = s.hp ∧ t.nc = s.nc ∧ t.out = s.out ∧ t.fab = s.fab ∧ t.dr = s.dr ∧ t.fur.map = s.fur.map) ∧
  (∀ (s : State) (r : Fin 256),
      s.toLoad r = [] → 
      ∃ t, exec (.pinLoadDone r) s = .next t ∧ t.on (WIN_RGN_POL_LOADING r) = false ∧
        RegsBut [WIN_RGN_POL r] s t ∧ CsrOnly s t) ∧
  (∀ (s : State) (r : Fin 256) (p l : Nat),
      s.toLoad r = [p] → s.slotFree false = true → (s.tierOf p).migrating = false → s.belowCeil r = true → s.furLoc p = some l → 
      ∃ t, exec (.pinLoadDone r) s = .next t ∧ t.win.moves = s.win.moves ++ [{ kind := .promotion, page := p }] ∧ t.fur.rds = s.fur.rds ++ [{ page := p, loc := l, why := .promote }] ∧ (t.tierOf p).migrating = true ∧
        t.hp = s.hp ∧ t.dr = s.dr ∧ t.nc = s.nc ∧ t.out = s.out ∧ t.fab = s.fab) ∧
  (∀ (s : State) (a : Agent) (r : Fin 256) (v : Word64),
      s.reaches a (WIN_RGN_POL r) = true → s.fab.cb = [] → getBits v.toNat 17 17 = 0 → getBits v.toNat 0 17 = s.rd (WIN_RGN_POL_FLOOR_GIB r) → 
      ∃ t, exec (.regionPolicyWrite a r v) s = .next t ∧ t.rd (WIN_RGN_POL_FLOOR_GIB r) = getBits v.toNat 0 17 ∧ t.rd (WIN_RGN_POL_CEIL_GIB r) = 0 ∧ t.rd (WIN_RGN_POL_BIAS r) = getBits v.toNat 34 4 ∧
        RegsBut ([WIN_RGN_POL r, WIN_STS] ++ fltKeys 54 ++ recKeys) s t ∧ t = { s with csr := t.csr, rcd := t.rcd, shadow := s.shadow.filter (fun h => h.a != a) }) ∧
  (∀ (s : State) (a : Agent) (r : Fin 256) (v : Word64),
      s.reaches a (WIN_RGN_POL r) = true → getBits v.toNat 17 17 ≠ 0 → getBits v.toNat 17 17 < getBits v.toNat 0 17 → 
      exec (.regionPolicyWrite a r v) s = .next (((s.dropShadow a).badAccess a true true 5 (WIN_RGN_POL r) v)))

/-- The governor admits 4,096 bytes at a time and is recomputed hourly; a stripe leaves the write buffer; a slot read ends; operations suspend and resume (R259, R260, R263, R264, R265, R276, R277) -/
def Obligations.TheGovernorAdmitsAndFurrowReadsAndPrograms : Prop :=
  (∀ (s : State) (page : BitVec 34) (m : Move),
      s.win.moves = [m] → m.page = page.toNat → m.kind = .cleaning → m.admitted = false → s.furWrites = true → 4096 ≤ s.govAccrue.rd FUR_GOV_ALLOW_BYTES → 
      ∃ t, exec (.governorAdmit page) s = .next t ∧ t.win.moves = [{ m with admitted := true }] ∧ t.rd FUR_GOV_ALLOW_BYTES = s.govAccrue.rd FUR_GOV_ALLOW_BYTES - 4096 ∧ t.fur.admitted = s.fur.admitted + 4096 ∧ t.fur.govAt = s.now ∧ t.rd FUR_HOST_WR_CNT_COUNT = min (s.rd FUR_HOST_WR_CNT_COUNT + 1) (2 ^ 64 - 1) ∧
        t.hp = s.hp ∧ t.dr = s.dr ∧ t.nc = s.nc ∧ t.out = s.out ∧ t.fab = s.fab ∧ t.fur.slots = s.fur.slots ∧ t.fur.map = s.fur.map) ∧
  (∀ (s : State),
      s.on FUR_GEOM_LOCKED = true → 
      ∃ t, exec .governorRecompute s = .next t ∧ s.fur.g0 * min 100 (s.rd FUR_GOV_FLOOR_PCT) / 100 ≤ t.fur.g ∧ t.fur.week = ((s.fur.admitted, s.fur.programmed) :: s.fur.week).take 168 ∧ t.fur.admitted = 0 ∧ t.fur.programmed = 0 ∧ t.fur.govAt = s.now ∧ t.rd FUR_LIFE_HOURS_LEFT = (lifeSec - (s.now - s.fur.formatAt) / 1000000000) / 3600 ∧
        t.hp = s.hp ∧ t.dr = s.dr ∧ t.nc = s.nc ∧ t.out = s.out ∧ t.fab = s.fab ∧ t.fur.slots = s.fur.slots ∧ t.fur.map = s.fur.map) ∧
  (∀ (s : State) (loc : BitVec 38) (re : List (BitVec 38)),
      (s.fur.slots.any fun x => s.sameStripe x.loc loc.toNat && x.inBuf) = true → s.stripeFull loc.toNat = true → (s.fur.ops.any fun o => o.sb == s.sbOf loc.toNat && o.suspended) = false → 
      ∃ t, exec (.stripeProgramDone loc [] re) s = .next t ∧ (∀ x ∈ t.fur.slots, s.sameStripe x.loc loc.toNat = true → x.inBuf = false) ∧ t.fur.slots.length = s.fur.slots.length ∧ t.rd FUR_PROG_CNT_COUNT = min (s.rd FUR_PROG_CNT_COUNT + (s.sbLive (s.sbOf loc.toNat)).length) (2 ^ 64 - 1) ∧
        RegsBut [FUR_PROG_CNT] s t ∧ t = { s with csr := t.csr, fur := t.fur } ∧ t.fur.map = s.fur.map) ∧
  (∀ (s : State) (loc re : BitVec 38) (r : FRead) (b : Nat) (x : FSlot),
      s.fur.rds = [r] → r.loc = loc.toNat → r.done = none → r.why = .promote → s.slotAt r.loc = some x → x.inBuf = false → (s.sbAt (s.sbOf r.loc)).gone.contains (locLun r.loc / 16) = false → s.lunUp (locLun r.loc) = true → b < 16 → mget (fun _ => 0) s.fur.reads (r.loc / 2 ^ 15) + 1 < max 1 (s.rd FUR_RDIST_RD_LIMIT_K) * 1000 → 
      ∃ t, exec (.slotReadReturn loc (.hard b) re) s = .next t ∧ t.fur.rds = [{ r with done := some true }] ∧ t.rd FUR_RD_CNT_COUNT = min (s.rd FUR_RD_CNT_COUNT + 1) (2 ^ 64 - 1) ∧ mget (fun _ => 0) t.fur.reads (r.loc / 2 ^ 15) = mget (fun _ => 0) s.fur.reads (r.loc / 2 ^ 15) + 1 ∧ t.fur.slots = s.fur.slots ∧
        RegsBut [FUR_RD_CNT] s t ∧ t = { s with csr := t.csr, fur := t.fur } ∧ t.fur.map = s.fur.map) ∧
  (∀ (s : State) (loc re : BitVec 38) (r : FRead),
      s.fur.rds = [r] → r.loc = loc.toNat → r.done = none → r.why = .promote → (s.slotAt r.loc).all (fun x => !x.inBuf) = true → s.furLoc r.page = some r.loc → (s.tierOf r.page).state = .flashOnly → mget (fun _ => 0) s.fur.reads (r.loc / 2 ^ 15) + 1 < max 1 (s.rd FUR_RDIST_RD_LIMIT_K) * 1000 → 
      ∃ t, exec (.slotReadReturn loc .bad re) s = .next t ∧ t.fur.rds = [{ r with done := some false }] ∧ t.rd FUR_UE_CNT_COUNT = min (s.rd FUR_UE_CNT_COUNT + 1) (2 ^ 64 - 1) ∧ t.bitOf (FLT_STS_CAUSE 55) 3 = true ∧ t.on FUR_ERR_LAST_VALID = true ∧
        RegsBut ([FUR_RD_CNT, FUR_UE_CNT, FUR_ERR_LAST] ++ fltKeys 55 ++ recKeys) s t ∧ t = { s with csr := t.csr, rcd := t.rcd, fur := t.fur }) ∧
  (∀ (s : State) (lun : Fin 512),
      s.demandOn lun = true → (s.fur.ops.any fun o => o.lun == lun.val && !o.suspended) = true → 
      ∃ t, exec (.demandSuspend lun) s = .next t ∧ (∀ o ∈ t.fur.ops, o.lun = lun.val → o.suspended = true) ∧ t.fur.ops.length = s.fur.ops.length ∧ t.rd (FUR_CH_CNT_SUSPENDS (lun.val / 16)) = (s.rd (FUR_CH_CNT_SUSPENDS (lun.val / 16)) + 1) % 65536 ∧
        RegsBut [FUR_CH_CNT (lun.val / 16)] s t ∧ t = { s with csr := t.csr, fur := { s.fur with ops := t.fur.ops } }) ∧
  (∀ (s : State) (lun : Fin 512),
      s.demandOn lun = false → s.rd FUR_STS_STATE ≠ 4 → 
      ∃ t, exec (.suspendedOpResume lun) s = .next t ∧ (∀ o ∈ t.fur.ops, o.lun = lun.val → o.suspended = false) ∧ t.fur.ops.length = s.fur.ops.length ∧
        t = { s with fur := { s.fur with ops := t.fur.ops } })

/-- Collection, the relocation's exchange, erasure, wear levelling and the retention scan act on the superblock their rules choose (R267, R268, R269, R270, R271) -/
def Obligations.SuperblocksAreCollectedErasedLevelledAndRefreshed : Prop :=
  (∀ (s : State) (b : Nat),
      s.furWrites = true → s.freeSb < max 8 (s.rd FUR_GC_LOW) → s.victim .data = some b → (s.sbAt b).relocating = false → (s.sbAt b).role = .data → 
      ∃ t, exec (.gcStart false) s = .next t ∧ (t.sbAt b).relocating = true ∧ (t.sbAt b).gc = true ∧ (t.sbAt b).role = .data ∧ t.on FUR_STS_GC_ACTIVE = true ∧
        RegsBut [FUR_STS] s t ∧ t = { s with csr := t.csr, fur := t.fur } ∧ t.fur.slots = s.fur.slots ∧ t.fur.map = s.fur.map) ∧
  (∀ (s : State) (page : BitVec 34) (x : Reloc) (d : Nat),
      s.fur.relocs = [x] → x.page = page.toNat → x.dst = some d → s.furLoc page.toNat = some x.src → 
      ∃ t, exec (.relocationCas page) s = .next t ∧ t.furLoc page.toNat = some d ∧ t.fur.relocs = [] ∧
        t = { s with fur := { s.fur with relocs := [], map := t.fur.map } } ∧
        (∀ p, p ≠ page.toNat → t.furLoc p = s.furLoc p)) ∧
  (∀ (s : State) (page : BitVec 34) (x : Reloc),
      s.fur.relocs = [x] → x.page = page.toNat → s.furLoc page.toNat ≠ some x.src → 
      exec (.relocationCas page) s = .next ({ s with fur := { s.fur with relocs := [], lost := s.fur.lost + 1 } })) ∧
  (∀ (s : State) (sb : BitVec 18),
      (s.sbAt sb.toNat).relocating = true → (s.sbAt sb.toNat).erasing = false → s.rd FUR_STS_STATE ≠ 4 → s.validIn sb.toNat = [] → (s.fur.rds.any fun r => s.sbOf r.loc == sb.toNat) = false → (s.fur.relocs.any fun x => s.sbOf x.src == sb.toNat) = false → 
      ∃ t, exec (.superblockErase sb) s = .next t ∧ (t.sbAt sb.toNat).erasing = true ∧ t.fur.ops = s.fur.ops ++ (s.sbLive sb.toNat).map (fun c => ({ lun := c * 16 + sb.toNat / 16384, erase := true, sb := sb.toNat } : LunOp)) ∧ t.fur.slots = s.fur.slots ∧
        t = { s with fur := t.fur }) ∧
  (∀ (s : State) (sb : BitVec 18),
      (s.sbAt sb.toNat).erasing = true → (s.fur.ops.any fun o => o.sb == sb.toNat && o.erase && o.suspended) = false → s.fur.failing = [] → 
      ∃ t, exec (.superblockEraseDone sb []) s = .next t ∧ (t.sbAt sb.toNat).role = .free ∧ (t.sbAt sb.toNat).erases = (s.sbAt sb.toNat).erases + 1 ∧ (t.sbAt sb.toNat).erasing = false ∧ (∀ x ∈ t.fur.slots, s.sbOf x.loc ≠ sb.toNat) ∧ t.fur.map = s.fur.map ∧
        t.hp = s.hp ∧ t.dr = s.dr ∧ t.nc = s.nc ∧ t.out = s.out ∧ t.fab = s.fab) ∧
  (∀ (s : State) (b : Nat) (q : FSuper),
      s.furWrites = true → s.on FUR_CTL_WL_EN = true → max 16 (s.rd FUR_WL_SPREAD) + s.rd FUR_WEAR_MIN_PE < s.rd FUR_WEAR_MAX_PE → s.fur.sbs = [(b, q)] → q.closed ≠ 0 → q.relocating = false → q.role = .data → s.sbReserve b = false → 
      ∃ t, exec .wearLevel s = .next t ∧ (t.sbAt b).relocating = true ∧ (t.sbAt b).gc = false ∧
        RegsBut [FUR_STS] s t ∧ t = { s with csr := t.csr, fur := t.fur } ∧ t.fur.slots = s.fur.slots ∧ t.fur.map = s.fur.map) ∧
  (∀ (s : State) (sb : BitVec 18),
      s.furWrites = true → s.on FUR_CTL_RET_EN = true → (s.sbAt sb.toNat).closed ≠ 0 → (s.sbAt sb.toNat).relocating = false → (s.sbAt sb.toNat).role = .data → 
      ∃ t, exec (.retentionScan [sb]) s = .next t ∧ (t.sbAt sb.toNat).relocating = true ∧
        RegsBut [FUR_STS, FUR_REFRESH_CNT] s t ∧ t = { s with csr := t.csr, fur := t.fur } ∧ t.fur.slots = s.fur.slots ∧ t.fur.map = s.fur.map) ∧
  (∀ (s : State) (sb : BitVec 18) (q : FSuper),
      s.furWrites = true → s.on FUR_CTL_RET_EN = true → (s.sbAt sb.toNat).closed ≠ 0 → (s.sbAt sb.toNat).relocating = false → (s.sbAt sb.toNat).role = .data → s.fur.sbs = [(sb.toNat, q)] → s.fur.reads = [] → (s.sbReadable sb.toNat).length ≤ 32 → 
      ∃ t, exec (.retentionScan [sb]) s = .next t ∧ (t.sbAt sb.toNat).relocating = true ∧ t.rd FUR_REFRESH_CNT_COUNT = min (s.rd FUR_REFRESH_CNT_COUNT + 1) (2 ^ 64 - 1) ∧
        RegsBut [FUR_STS, FUR_REFRESH_CNT] s t ∧ t = { s with csr := t.csr, fur := t.fur } ∧ t.fur.slots = s.fur.slots ∧ t.fur.map = s.fur.map)

/-- LUNs retire and return, channels are fenced and unfenced, ONFI commands are stored with DONE, format locks the geometry and starts Furrow (R247, R272, R273, R274, R281, R603) -/
def Obligations.LunsAndChannelsLeaveAndReturnAndFirmwareDrivesAChannel : Prop :=
  (∀ (s : State) (lun : Fin 512),
      s.bitOf (FUR_CH_STS_LUNS_UP (lun.val / 16)) (lun.val % 16) = true → s.fur.retired.contains lun.val = false → s.holds (wFC (lun.val / 16)) = false → 
      ∃ t, exec (.lunReadyTimeout lun) s = .next t ∧ t.fur.retired.contains lun.val = true ∧ t.bitOf (FUR_CH_STS_LUNS_UP (lun.val / 16)) (lun.val % 16) = false ∧ t.bitOf (FLT_STS_CAUSE (wFC (lun.val / 16))) 4 = true ∧ t.rd (FUR_CH_CNT_TIMEOUT (lun.val / 16)) = min (s.rd (FUR_CH_CNT_TIMEOUT (lun.val / 16)) + 1) 65535 ∧
        t.dr = s.dr ∧ t.nc = s.nc ∧ t.fab = s.fab ∧ t.fur.map = s.fur.map) ∧
  (∀ (s : State) (a : Agent) (c : Fin 32) (i : Fin 16),
      s.reaches a (FUR_CH_LUN_FENCE c) = true → s.bitOf (FUR_CH_STS_LUNS_UP c) i = true → s.fur.retired.contains (c.val * 16 + i.val) = false → s.holds (wFC c) = false → 
      ∃ t, exec (.lunRetire a c (BitVec.ofNat 16 (2 ^ i.val))) s = .next t ∧ t.fur.retired.contains (c.val * 16 + i.val) = true ∧ t.bitOf (FUR_CH_STS_LUNS_UP c) i = false ∧ t.on (UNIT_DEGRADED wFUR) = true ∧
        t.dr = s.dr ∧ t.nc = s.nc ∧ t.fab = s.fab ∧ t.fur.map = s.fur.map) ∧
  (∀ (s : State),
      (s.fur.sbs.any fun e => e.2.relocating) = false → 
      ∃ t, exec .rebuildDone s = .next t ∧ t.on FUR_STS_REBUILDING = false ∧
        RegsBut [FUR_STS] s t ∧ CsrOnly s t) ∧
  (∀ (s : State) (a : Agent) (c : Fin 32),
      s.reaches a (FUR_CH_CTL c) = true → s.rd (FUR_CH_STS_STATE c) ≠ 4 → s.holds (wFC c) = false → 
      ∃ t, exec (.flashChannelFence a c) s = .next t ∧ t.rd (FUR_CH_STS_STATE c) = 4 ∧ t.on (UNIT_FENCED (wFC c)) = true ∧ (∀ i ∈ s.lunPos, t.fur.retired.contains (c.val * 16 + i) = true) ∧
        t.dr = s.dr ∧ t.nc = s.nc ∧ t.fab = s.fab ∧ t.fur.map = s.fur.map) ∧
  (∀ (s : State) (a : Agent) (c : Fin 32),
      s.reaches a (FUR_CH_CTL c) = true → s.rd (FUR_CH_STS_STATE c) = 4 → 
      ∃ t, exec (.flashChannelUnfence a c) s = .next t ∧ t.rd (FUR_CH_STS_STATE c) = 1 ∧ t.on (UNIT_FENCED (wFC c)) = false ∧ (∀ i ∈ s.lunPos, t.fur.retired.contains (c.val * 16 + i) = false) ∧
        t.dr = s.dr ∧ t.nc = s.nc ∧ t.out = s.out ∧ t.fab = s.fab ∧ t.fur.map = s.fur.map) ∧
  (∀ (s : State) (a : Agent) (c : Fin 32) (i : Fin 16),
      s.reaches a (FUR_CH_LUN_FENCE c) = true → s.fchUp c = true → s.fur.retired.contains (c.val * 16 + i.val) = true → 
      ∃ t, exec (.lunUnfence a c (BitVec.ofNat 16 (2 ^ i.val))) s = .next t ∧ t.fur.retired.contains (c.val * 16 + i.val) = false ∧ t.bitOf (FUR_CH_STS_LUNS_UP c) i = true ∧
        t.dr = s.dr ∧ t.nc = s.nc ∧ t.out = s.out ∧ t.fab = s.fab ∧ t.fur.map = s.fur.map) ∧
  (∀ (s : State) (c : Fin 32),
      
      exec (.sequencerSelfCheckFail c true) s = .next ((s.wrBit (FLT_LIVE_PRESENT (wFC c)) 6 false))) ∧
  (∀ (s : State) (c : Fin 32),
      s.rd (FUR_CH_STS_STATE c) ≠ 4 → s.holds (wFC c) = false → 
      ∃ t, exec (.sequencerSelfCheckFail c false) s = .next t ∧ t.rd (FUR_CH_STS_STATE c) = 4 ∧ t.on (UNIT_FENCED (wFC c)) = true ∧ t.bitOf (FLT_LIVE_PRESENT (wFC c)) 6 = true ∧
        t.dr = s.dr ∧ t.nc = s.nc ∧ t.fab = s.fab ∧ t.fur.map = s.fur.map) ∧
  (∀ (s : State) (a : Agent) (c : Fin 32) (ce : Fin 4) (b : Byte),
      s.reaches a (FUR_CH_CMD c) = true → s.rd (FUR_CH_STS_STATE c) = 1 ∨ s.rd (FUR_CH_STS_STATE c) = 2 → 
      ∃ t, exec (.onfiCommandByte a c ce b) s = .next t ∧ t.rd (FUR_CH_CMD_OP c) = 0 ∧ t.rd (FUR_CH_CMD_CE c) = ce ∧ t.rd (FUR_CH_CMD_LEN c) = 0 ∧ t.rd (FUR_CH_CMD_BYTE c) = b.toNat ∧ t.on (FUR_CH_CMD_DONE c) = true ∧
        RegsBut [FUR_CH_CMD c] s t ∧ t = { s with csr := t.csr, shadow := s.shadow.filter (fun h => h.a != a) }) ∧
  (∀ (s : State) (a : Agent) (c : Fin 32) (ce : Fin 4) (b : Byte),
      s.reaches a (FUR_CH_CMD c) = true → s.rd (FUR_CH_STS_STATE c) = 1 ∨ s.rd (FUR_CH_STS_STATE c) = 2 → 
      ∃ t, exec (.onfiAddressByte a c ce b) s = .next t ∧ t.rd (FUR_CH_CMD_OP c) = 1 ∧ t.rd (FUR_CH_CMD_CE c) = ce ∧ t.rd (FUR_CH_CMD_LEN c) = 0 ∧ t.rd (FUR_CH_CMD_BYTE c) = b.toNat ∧ t.on (FUR_CH_CMD_DONE c) = true ∧
        RegsBut [FUR_CH_CMD c] s t ∧ t = { s with csr := t.csr, shadow := s.shadow.filter (fun h => h.a != a) }) ∧
  (∀ (s : State) (a : Agent) (c : Fin 32) (ce : Fin 4) (b : Byte),
      s.reaches a (FUR_CH_CMD c) = true → s.rd (FUR_CH_STS_STATE c) ≠ 1 → s.rd (FUR_CH_STS_STATE c) ≠ 2 → 
      exec (.onfiCommandByte a c ce b) s = .next (((s.dropShadow a).ignored a (FUR_CH_CMD c) (2 ^ 31 + cmdBits 0 ce 0 b.toNat)))) ∧
  (∀ (s : State) (a : Agent) (c : Fin 32) (ce : Fin 4) (len : BitVec 13),
      s.reaches a (FUR_CH_CMD c) = true → s.rd (FUR_CH_STS_STATE c) = 1 ∨ s.rd (FUR_CH_STS_STATE c) = 2 → 
      ∃ t, exec (.onfiDataOut a c ce len) s = .next t ∧ t.rd (FUR_CH_CMD_OP c) = 2 ∧ t.rd (FUR_CH_CMD_CE c) = ce ∧ t.rd (FUR_CH_CMD_LEN c) = len.toNat ∧ t.rd (FUR_CH_CMD_BYTE c) = 0 ∧ t.on (FUR_CH_CMD_DONE c) = true ∧
        RegsBut [FUR_CH_CMD c] s t ∧ t = { s with csr := t.csr, shadow := s.shadow.filter (fun h => h.a != a) }) ∧
  (∀ (s : State) (a : Agent) (c : Fin 32) (ce : Fin 4) (len : BitVec 13) (data : List (BitVec 32)),
      s.reaches a (FUR_CH_CMD c) = true → s.rd (FUR_CH_STS_STATE c) = 1 ∨ s.rd (FUR_CH_STS_STATE c) = 2 → 
      ∃ t, exec (.onfiDataIn a c ce len data) s = .next t ∧ t.rd (FUR_CH_CMD_OP c) = 3 ∧ t.rd (FUR_CH_CMD_CE c) = ce ∧ t.rd (FUR_CH_CMD_LEN c) = len.toNat ∧ t.rd (FUR_CH_CMD_BYTE c) = 0 ∧ t.on (FUR_CH_CMD_DONE c) = true ∧ ((List.range (min 1024 (len.toNat / 4))).all fun i => data[i]?.all fun x => t.rd (FUR_CH_XBUF_DATA c i) == x.toNat) = true ∧
        t = { s with csr := t.csr, shadow := s.shadow.filter (fun h => h.a != a) } ∧
        RegsBut (FUR_CH_CMD c :: (List.range 1024).map (fun i => FUR_CH_XBUF c i)) s t) ∧
  (∀ (s : State) (a : Agent) (c : Fin 32) (ce : Fin 4),
      s.reaches a (FUR_CH_CMD c) = true → s.rd (FUR_CH_STS_STATE c) = 1 ∨ s.rd (FUR_CH_STS_STATE c) = 2 → 
      ∃ t, exec (.onfiWaitReady a c ce) s = .next t ∧ t.rd (FUR_CH_CMD_OP c) = 4 ∧ t.rd (FUR_CH_CMD_CE c) = ce ∧ t.rd (FUR_CH_CMD_LEN c) = 0 ∧ t.rd (FUR_CH_CMD_BYTE c) = 0 ∧ t.on (FUR_CH_CMD_DONE c) = true ∧
        RegsBut [FUR_CH_CMD c] s t ∧ t = { s with csr := t.csr, shadow := s.shadow.filter (fun h => h.a != a) }) ∧
  (∀ (s : State) (a : Agent) (c : Fin 32) (k : Nat) (v : Word64),
      s.reaches a (FUR_CH_DLY_CTL c) = true → s.fur.shadow = [(k, v)] → winIdx k = some (wFC c) → k ≠ FUR_CH_DLY_CTL c → 
      ∃ t, exec (.onfiDelayApply a c) s = .next t ∧ t.rdW k = v ∧ t.on (FUR_CH_DLY_CTL_PENDING c) = false ∧
        RegsBut [k, FUR_CH_DLY_CTL c] s t ∧ t = { s with csr := t.csr, shadow := s.shadow.filter (fun h => h.a != a) }) ∧
  (∀ (s : State) (a : Agent),
      s.reaches a FUR_CTL = true → s.rd FUR_STS_STATE = 0 → s.fur.formatted = false → s.geomOk = true → s.vseqOk = true → ∀ c : Fin 32, s.rd (FUR_CH_STS_STATE c) ≠ 4 → 
      ∃ t, exec (.furrowFormat a true) s = .next t ∧ t.rd FUR_STS_STATE = 2 ∧ t.on FUR_GEOM_LOCKED = true ∧ t.on FUR_CTL_ENABLE = true ∧ t.fur.formatted = true ∧ (∀ c : Fin 32, t.rd (FUR_CH_STS_STATE c) = 3) ∧
        t.dr = s.dr ∧ t.nc = s.nc ∧ t.out = s.out ∧ t.fab = s.fab ∧ t.fur.map = s.fur.map)

/-- A power-up enables the slots whose dependencies are GOOD, a stable slot enables those that wait for it, and failures and the shutdown order act as ruled (R554, R557, R558, R559, R560, R561, R562, R564, R565, R566) -/
def Obligations.TheSequencerPowersSlotsUpAndDownInTheOrderOfTheTable : Prop :=
  (∀ (s : State) (a : Agent) (n : Fin 24),
      s.reaches a PWR_CTL = true → s.pwr = 0 → s.tableErr = 0 → s.on (PWR_RAIL_USED n) = true → s.on (PWR_RSTS_EN n) = false → s.rd (PWR_RAIL_DEPS n) = 0 → 
      ∃ t, exec (.pwrCtlOn a true false) s = .next t ∧ t.pwr = 1 ∧ t.on (PWR_RSTS_EN n) = true ∧ t.slotSt n = 2 ∧
        t = { s with csr := t.csr, pw := t.pw, shadow := s.shadow.filter (fun h => h.a != a) } ∧
        RegsBut ([PWR_STS] ++ (List.range 24).map (fun i => PWR_RSTS i) ++ (List.range 8).map (fun i => RST_MS i)) s t) ∧
  (∀ (s : State) (a : Agent) (flt : Bool),
      s.reaches a PWR_CTL = true → 
      exec (.pwrCtlOn a flt true) s = .next ((((s.dropShadow a).wr PWR_STS_FLT_IN (if flt then 1 else 0)).ignored a PWR_CTL (2 ^ 31)))) ∧
  (∀ (s : State) (n : Fin 24),
      s.pw.sbBad = false → s.on PWR_CFG_AUTO_ON = true → s.pwr = 0 → s.tableErr = 0 → s.on (PWR_RAIL_USED n) = true → s.on (PWR_RSTS_EN n) = false → s.rd (PWR_RAIL_DEPS n) = 0 → 
      ∃ t, exec .plossRise s = .next t ∧ t.pwr = 1 ∧ t.on (PWR_RSTS_EN n) = true ∧ t.slotSt n = 2 ∧ t.on PWR_STS_PLOSS = true ∧
        t = { s with csr := t.csr, pw := t.pw } ∧
        RegsBut ([PWR_STS] ++ (List.range 24).map (fun i => PWR_RSTS i) ++ (List.range 8).map (fun i => RST_MS i)) s t) ∧
  (∀ (s : State) (n : Fin 24),
      s.pwr = 1 → s.on (PWR_RAIL_USED n) = true → s.on (PWR_RSTS_PG n) = false → s.slotSt n = 2 → s.pw.risen.contains n.val = false → 
      ∃ t, exec (.railPgChange n true) s = .next t ∧ t.on (PWR_RSTS_PG n) = true ∧ t.pw.risen = s.pw.risen ++ [n.val] ∧ t.slotSt n = 2 ∧
        RegsBut [PWR_RSTS n] s t ∧ t = { s with csr := t.csr, pw := { s.pw with risen := t.pw.risen } }) ∧
  (∀ (s : State) (n : Fin 24) (level : Bool),
      s.pwr = 1 → s.on (PWR_RAIL_USED n) = true → s.on (PWR_RSTS_PG n) ≠ level → s.slotSt n = 2 → s.pw.risen.contains n.val = true → s.rd (PWR_RSTS_STEP_CHAT n) + 1 ≤ s.rd (PWR_RAIL_CHATTER_LIM n) → 
      ∃ t, exec (.railPgChange n level) s = .next t ∧ t.rd (PWR_RSTS_STEP_CHAT n) = min 15 (s.rd (PWR_RSTS_STEP_CHAT n) + 1) ∧ t.rd (PWR_RCNT_CHATTER n) = min (s.rd (PWR_RCNT_CHATTER n) + 1) 65535 ∧ t.bitOf (FLT_STS_CAUSE 96) 2 = true ∧ t.slotSt n = 2 ∧
        RegsBut ([PWR_RSTS n, PWR_RCNT n] ++ fltKeys 96 ++ recKeys) s t ∧ RecOnly s t) ∧
  (∀ (s : State) (n m : Fin 24),
      s.slotSt n = 2 → s.pw.risen.contains n.val = true → s.on (PWR_RSTS_PG n) = true → s.on (PWR_RSTS_EN n) = true → s.pwr = 1 → m ≠ n → s.on (PWR_RAIL_USED m) = true → s.on (PWR_RSTS_EN m) = false → s.rd (PWR_RAIL_DEPS m) = 2 ^ n.val → 
      ∃ t, exec (.railStable n) s = .next t ∧ t.slotSt n = 3 ∧ t.on (PWR_RSTS_EN m) = true ∧ t.slotSt m = 2 ∧ t.pwr = 1 ∧
        t = { s with csr := t.csr, pw := { s.pw with risen := t.pw.risen } } ∧
        RegsBut ((List.range 24).map (fun i => PWR_RSTS i)) s t) ∧
  (∀ (s : State) (n : Fin 24),
      s.slotSt n = 2 → s.pw.risen.contains n.val = true → s.on (PWR_RSTS_PG n) = true → s.on (PWR_RSTS_EN n) = true → s.pwr = 1 → s.slots = [n.val] → 
      ∃ t, exec (.railStable n) s = .next t ∧ t.slotSt n = 3 ∧ t.pwr = 2 ∧ t.hp.stopped = false ∧ (∀ d : Fin 12, 2 ≤ d.val → t.rd (PWR_PD_STATE d) = 2) ∧
        t.dr = s.dr ∧ t.fur = s.fur ∧ t.out = s.out) ∧
  (∀ (s : State) (n : Fin 24),
      s.pwr = 1 → s.slotSt n = 2 → s.on (PWR_RAIL_USED n) = true → s.on (PWR_RSTS_EN n) = true → s.on PWR_EVT_LAST_VALID = false → ∀ d : Fin 36, 2 ≤ d.val → s.rd (PWR_PD_STATE d) = 0 → 
      ∃ t, exec (.railOnTimeout n) s = .next t ∧ t.pwr = 4 ∧ t.slotSt n = 6 ∧ t.on PWR_STS_FLT_DRIVEN = true ∧ t.rd (PWR_RCNT_ON_FAIL n) = min (s.rd (PWR_RCNT_ON_FAIL n) + 1) 65535 ∧ t.rd PWR_EVT_LAST_CAUSE = 2 ∧ t.rd PWR_EVT_LAST_SLOT = n ∧ t.pw.taking.contains n.val = true ∧ t.pw.goal = some 6 ∧ t.bitOf (FLT_STS_CAUSE 96) 3 = true ∧
        t.fab = s.fab ∧ t.dr = s.dr ∧ t.nc = s.nc ∧ t.win = s.win ∧ t.fur = s.fur ∧ t.hp = s.hp ∧ t.out = s.out) ∧
  (∀ (s : State) (n : Fin 24),
      s.slotSt n = 3 → s.on (PWR_RSTS_PG n) = false → s.pwr = 3 → s.on (PWR_RAIL_HARVEST n) = true → 
      ∃ t, exec (.railPgLost n) s = .next t ∧ t.hv.failSlot = some (s.hv.failSlot.getD n.val) ∧ t.slotSt n = 6 ∧ t.rd (PWR_RCNT_LOST n) = min (s.rd (PWR_RCNT_LOST n) + 1) 65535 ∧ t.bitOf (FLT_STS_CAUSE 96) 4 = true ∧ t.pwr = 3 ∧
        RegsBut ([PWR_RSTS n, PWR_RCNT n, PWR_EVT_LAST] ++ fltKeys 96 ++ recKeys) s t ∧ t = { s with csr := t.csr, rcd := t.rcd, hv := { s.hv with failSlot := t.hv.failSlot } }) ∧
  (∀ (s : State) (n : Fin 24),
      s.slotSt n = 3 → s.on (PWR_RSTS_PG n) = false → s.pwr = 2 → s.harvestable = true → s.hv.pend = none → s.hv.run = none → 
      ∃ t, exec (.railPgLost n) s = .next t ∧ t.hv = { s.hv with pend := some { cause := 1, best := !s.on HRV_STS_ARMED, t0 := s.now, ts := s.stampTime, fault := true } } ∧ t.slotSt n = 6 ∧ t.on PWR_STS_FLT_DRIVEN = true ∧ t.rd (PWR_RCNT_LOST n) = min (s.rd (PWR_RCNT_LOST n) + 1) 65535 ∧
        RegsBut ([PWR_STS, PWR_RSTS n, PWR_RCNT n, PWR_EVT_LAST] ++ fltKeys 96 ++ recKeys) s t ∧ t = { s with csr := t.csr, rcd := t.rcd, hv := t.hv }) ∧
  (∀ (s : State) (n : Fin 24),
      s.pw.taking.contains n.val = true → s.on (PWR_RSTS_EN n) = true → (s.pw.taking.any fun m => m != n.val && (s.depsOf m).contains n.val) = false → s.on (PWR_RSTS_PG n) = true → 
      ∃ t, exec (.railOffDelay n) s = .next t ∧ t.on (PWR_RSTS_EN n) = false ∧ t.slotSt n = 4 ∧
        RegsBut [PWR_RSTS n] s t ∧ CsrOnly s t) ∧
  (∀ (s : State) (n : Fin 24) (g : Nat),
      s.pw.taking = [n.val] → s.on (PWR_RSTS_EN n) = true → s.on (PWR_RSTS_PG n) = false → s.pw.goal = some g → g < 8 → 
      ∃ t, exec (.railOffDelay n) s = .next t ∧ t.on (PWR_RSTS_EN n) = false ∧ t.slotSt n = 0 ∧ t.pwr = g ∧ t.pw.taking = [] ∧ t.pw.goal = none ∧ t.on PWR_STS_FAULT = (g == 6) ∧
        RegsBut [PWR_RSTS n, PWR_STS] s t ∧ t = { s with csr := t.csr, pw := { s.pw with taking := [], goal := none } }) ∧
  (∀ (s : State) (n : Fin 24),
      s.slotSt n = 4 → 
      ∃ t, exec (.railOffTimeout n) s = .next t ∧ t.slotSt n = 5 ∧ t.rd (PWR_RCNT_OFF_STUCK n) = min (s.rd (PWR_RCNT_OFF_STUCK n) + 1) 65535 ∧ t.bitOf (FLT_STS_CAUSE 96) 5 = true ∧ t.pw.taking = s.pw.taking.filter (fun x => x != n.val) ∧
        RegsBut ([PWR_RSTS n, PWR_RCNT n, PWR_EVT_LAST, PWR_STS] ++ fltKeys 96 ++ recKeys) s t ∧ t = { s with csr := t.csr, rcd := t.rcd, pw := t.pw }) ∧
  (∀ (s : State) (a : Agent),
      s.reaches a PWR_STS = true → s.pwr = 6 → 
      ∃ t, exec (.pwrFaultClear a) s = .next t ∧ t.pwr = 0 ∧ t.on PWR_STS_FAULT = false ∧ t.on PWR_STS_FLT_DRIVEN = false ∧
        RegsBut [PWR_STS] s t ∧ t = { s with csr := t.csr, shadow := s.shadow.filter (fun h => h.a != a) }) ∧
  (∀ (s : State) (a : Agent),
      s.reaches a PWR_STS = true → s.pwr ≠ 6 → 
      exec (.pwrFaultClear a) s = .next (s.dropShadow a))

/-- In ON, once Resow has armed Harvest, PLOSS_N low, PWR_CTL.OFF, PWR_FLT_N, and RST_POR_N low each start a Harvest with their cause (R294, R311, R560, R564, R582, R654) -/
def Obligations.ALossOfPowerStartsAHarvestOnceArmed : Prop :=
  (∀ (s : State),
      s.pwr = 2 → s.harvestable = true → s.hv.pend = none → s.hv.run = none → 
      ∃ t, exec .plossDeglitched s = .next t ∧ t.hv = { s.hv with pend := some { cause := 1, best := !s.on HRV_STS_ARMED, t0 := s.now, ts := s.stampTime } } ∧ t.on PWR_STS_PLOSS = false ∧
        RegsBut [PWR_STS] s t ∧ t = { s with csr := t.csr, hv := t.hv }) ∧
  (∀ (s : State) (a : Agent),
      s.reaches a PWR_CTL = true → s.pwr = 2 → s.harvestable = true → s.hv.pend = none → s.hv.run = none → 
      exec (.pwrCtlOff a) s = .next ({ s with hv := { s.hv with pend := some { cause := 2, best := !s.on HRV_STS_ARMED, t0 := s.now, ts := s.stampTime } }, shadow := s.shadow.filter (fun h => h.a != a) })) ∧
  (∀ (s : State) (a : Agent) (r : HvRun),
      s.reaches a PWR_CTL = true → s.pwr = 2 → s.harvestable = true → s.hv.run = some r → 
      exec (.pwrCtlOff a) s = .next (s.dropShadow a)) ∧
  (∀ (s : State),
      s.pwr = 2 → s.harvestable = true → s.hv.pend = none → s.hv.run = none → 
      exec .deviceReset s = .next ({ s with hv := { s.hv with pend := some { cause := 3, best := !s.on HRV_STS_ARMED, t0 := s.now, ts := s.stampTime } } })) ∧
  (∀ (s : State),
      s.on PWR_CFG_FLT_IN_EN = true → s.on PWR_STS_FLT_DRIVEN = false → s.pwr = 2 → s.harvestable = true → s.hv.pend = none → s.hv.run = none → 
      ∃ t, exec .pwrFltNFall s = .next t ∧ t.hv = { s.hv with pend := some { cause := 1, best := !s.on HRV_STS_ARMED, t0 := s.now, ts := s.stampTime, fault := true } } ∧ t.on PWR_STS_FLT_DRIVEN = false ∧ t.bitOf (FLT_STS_CAUSE 96) 6 = true ∧ t.on PWR_STS_FLT_IN = false ∧ t.on PWR_EVT_LAST_VALID = true ∧
        RegsBut ([PWR_STS, PWR_EVT_LAST] ++ fltKeys 96 ++ recKeys) s t ∧ t = { s with csr := t.csr, rcd := t.rcd, hv := t.hv }) ∧
  (∀ (s : State),
      s.on PWR_CFG_FLT_IN_EN = false → 
      exec .pwrFltNFall s = .next (s.wr PWR_STS_FLT_IN 0))

/-- PWR_PD_ON and PWR_PD_OFF switch domains, the loop steps VDD_CORE by 5 mV, the PMBus master transacts, and supplies and references are recorded (R551, R568, R569, R570, R571, R572, R651, R660) -/
def Obligations.DomainsTheVoltageLoopThePmbusAndTheSuppliesActAsRuled : Prop :=
  (∀ (s : State) (a : Agent) (d : Fin 36),
      s.reaches a PWR_PD_ON = true → s.pwr = 2 → s.rd (PWR_PD_STATE d) ≠ 2 → 
      ∃ t, exec (.pdOn a (BitVec.ofNat 36 (2 ^ d.val))) s = .next t ∧ t.rd (PWR_PD_STATE d) = 2 ∧ (∀ w : Fin 100, winPdom w = d → t.powered w = true) ∧
        t.dr = s.dr ∧ t.nc = s.nc ∧ t.win = s.win ∧ t.fur = s.fur ∧ t.hp = s.hp ∧ t.out = s.out) ∧
  (∀ (s : State) (a : Agent) (v : BitVec 36),
      s.reaches a PWR_PD_ON = true → s.pwr ≠ 2 → 
      exec (.pdOn a v) s = .next (((s.dropShadow a).badAccess a true true 5 PWR_PD_ON (BitVec.ofNat 64 v.toNat)))) ∧
  (∀ (s : State) (a : Agent) (d : Fin 36),
      s.reaches a PWR_PD_OFF = true → s.pwr = 2 → s.rd (PWR_PD_STATE d) ≠ 0 → s.pdIdle d = true → 
      ∃ t, exec (.pdOff a (BitVec.ofNat 36 (2 ^ d.val))) s = .next t ∧ t.rd (PWR_PD_STATE d) = 0 ∧ t.on (PWR_PD_FW_OFF d) = true ∧
        (d.val < 8 ∨ 12 ≤ d.val → ∀ w : Fin 100, winPdom w = d → t.powered w = false)) ∧
  (∀ (s : State) (a : Agent) (d : Fin 36),
      s.reaches a PWR_PD_OFF = true → s.pwr = 2 → s.pdIdle d = false → 
      exec (.pdOff a (BitVec.ofNat 36 (2 ^ d.val))) s = .next (((s.dropShadow a).badAccess a true true 5 PWR_PD_OFF (BitVec.ofNat 64 (2 ^ d.val))))) ∧
  (∀ (s : State) (lo hi : Nat) (want read : BitVec 10),
      s.on PWR_VLOOP_ENABLE = true → s.pwr = 2 → s.vBounds = (lo, hi) → s.aboveCap = true → 
      ∃ t, exec (.voltageLoopStep want read) s = .next t ∧ t.pw.vset = max 650 (read.toNat - 5) ∧ t.rd PWR_VLOOP_STS_VDD_MV = read.toNat ∧
        RegsBut ([PWR_VLOOP_STS] ++ fltKeys 96 ++ recKeys) s t ∧ t = { s with csr := t.csr, rcd := t.rcd, pw := { s.pw with vset := t.pw.vset } }) ∧
  (∀ (s : State) (lo hi : Nat) (want read : BitVec 10),
      s.on PWR_VLOOP_ENABLE = true → s.pwr = 2 → s.vBounds = (lo, hi) → s.aboveCap = false → max lo (min hi want.toNat) < read.toNat → 
      ∃ t, exec (.voltageLoopStep want read) s = .next t ∧ t.pw.vset = max (max lo (min hi want.toNat)) (read.toNat - 5) ∧ t.rd PWR_VLOOP_STS_VDD_MV = read.toNat ∧
        RegsBut ([PWR_VLOOP_STS] ++ fltKeys 96 ++ recKeys) s t ∧ t = { s with csr := t.csr, rcd := t.rcd, pw := { s.pw with vset := t.pw.vset } }) ∧
  (∀ (s : State) (lo hi : Nat) (want read : BitVec 10),
      s.on PWR_VLOOP_ENABLE = true → s.pwr = 2 → s.vBounds = (lo, hi) → s.rd PWR_CAP_CAP_W = 0 ∨ s.rd PWR_VLOOP_STS_POWER_W + 2 ≤ s.rd PWR_CAP_CAP_W → read.toNat < max lo (min hi want.toNat) → 
      ∃ t, exec (.voltageLoopStep want read) s = .next t ∧ t.pw.vset = min (max lo (min hi want.toNat)) (read.toNat + 5) ∧ t.rd PWR_VLOOP_STS_VDD_MV = read.toNat ∧
        RegsBut ([PWR_VLOOP_STS] ++ fltKeys 96 ++ recKeys) s t ∧ t = { s with csr := t.csr, rcd := t.rcd, pw := { s.pw with vset := t.pw.vset } }) ∧
  (∀ (s : State) (want read : BitVec 10),
      s.on PWR_VLOOP_ENABLE = true → s.pwr = 3 → 
      ∃ t, exec (.voltageLoopStep want read) s = .next t ∧ t.pw.vset = 750 ∧ t.rd PWR_VLOOP_STS_VDD_MV = read.toNat ∧
        RegsBut [PWR_VLOOP_STS] s t ∧ t = { s with csr := t.csr, pw := { s.pw with vset := 750 } }) ∧
  (∀ (s : State) (w floor : BitVec 10),
      s.on PWR_VLOOP_ENABLE = true → s.pwr = 2 ∨ s.pwr = 3 → 
      ∃ t, exec (.powerMeasure w floor) s = .next t ∧ t.rd PWR_VLOOP_STS_POWER_W = w.toNat ∧ t.rd PWR_VLOOP_STS_FLOOR_W = floor.toNat ∧
        RegsBut ([PWR_VLOOP_STS] ++ fltKeys 96 ++ recKeys) s t ∧ RecOnly s t) ∧
  (∀ (s : State) (a : Agent) (v : BitVec 31) (data : List Byte),
      s.reaches a PWR_PMB_CMD = true → s.on PWR_VLOOP_ENABLE = false → getBits v.toNat 24 3 < 3 → 
      ∃ t, exec (.pmbusTransaction a v 0 data) s = .next t ∧ t.rd PWR_PMB_CMD_KIND = getBits v.toNat 24 3 ∧ t.rd PWR_PMB_CMD_LEN = getBits v.toNat 16 6 ∧ t.rd PWR_PMB_CMD_ADDR = getBits v.toNat 8 7 ∧ t.rd PWR_PMB_CMD_CODE = getBits v.toNat 0 8 ∧ t.rd PWR_PMB_CMD_RESULT = 0 ∧ t.out = .pmbus (getBits v.toNat 8 7) (getBits v.toNat 0 8) (getBits v.toNat 24 3) (s.pmbSent (getBits v.toNat 24 3) (getBits v.toNat 16 6)) :: s.out ∧
        RegsBut [PWR_PMB_CMD] s t ∧ t = { s with csr := t.csr, out := t.out, shadow := s.shadow.filter (fun h => h.a != a) }) ∧
  (∀ (s : State) (a : Agent) (v : BitVec 31) (x y : Byte),
      s.reaches a PWR_PMB_CMD = true → getBits v.toNat 24 3 = 4 → 
      ∃ t, exec (.pmbusTransaction a v 0 [x, y]) s = .next t ∧ t.rd PWR_PMB_CMD_KIND = getBits v.toNat 24 3 ∧ t.rd PWR_PMB_CMD_LEN = getBits v.toNat 16 6 ∧ t.rd PWR_PMB_CMD_ADDR = getBits v.toNat 8 7 ∧ t.rd PWR_PMB_CMD_CODE = getBits v.toNat 0 8 ∧ t.rd PWR_PMB_CMD_RESULT = 0 ∧ t.rd (PWR_PMB_DATA_BYTES 0) = x.toNat + 256 * y.toNat + 65536 * (s.rd (PWR_PMB_DATA_BYTES 0) / 65536) ∧ t.out = .pmbus (getBits v.toNat 8 7) (getBits v.toNat 0 8) (getBits v.toNat 24 3) (s.pmbSent (getBits v.toNat 24 3) (getBits v.toNat 16 6)) :: s.out ∧
        RegsBut [PWR_PMB_CMD, PWR_PMB_DATA 0] s t ∧ t = { s with csr := t.csr, out := t.out, shadow := s.shadow.filter (fun h => h.a != a) }) ∧
  (∀ (s : State) (a : Agent) (v : BitVec 31) (res : Fin 4) (data : List Byte),
      s.reaches a PWR_PMB_CMD = true → s.on PWR_VLOOP_ENABLE = false → res ≠ 0 → 
      ∃ t, exec (.pmbusTransaction a v res data) s = .next t ∧ t.rd PWR_PMB_CMD_KIND = getBits v.toNat 24 3 ∧ t.rd PWR_PMB_CMD_LEN = getBits v.toNat 16 6 ∧ t.rd PWR_PMB_CMD_ADDR = getBits v.toNat 8 7 ∧ t.rd PWR_PMB_CMD_CODE = getBits v.toNat 0 8 ∧ t.rd PWR_PMB_CMD_RESULT = res ∧ t.bitOf (FLT_STS_CAUSE 96) 8 = true ∧ t.out = .pmbus (getBits v.toNat 8 7) (getBits v.toNat 0 8) (getBits v.toNat 24 3) (s.pmbSent (getBits v.toNat 24 3) (getBits v.toNat 16 6)) :: s.out ∧
        RegsBut ([PWR_PMB_CMD] ++ fltKeys 96 ++ recKeys) s t ∧ t = { s with csr := t.csr, rcd := t.rcd, out := t.out, shadow := s.shadow.filter (fun h => h.a != a) }) ∧
  (∀ (s : State) (a : Agent) (v : BitVec 31) (n : Fin 24) (res : Fin 4) (data : List Byte),
      s.reaches a PWR_PMB_CMD = true → s.on PWR_VLOOP_ENABLE = true → s.on (PWR_RAIL_USED n) = true → s.on (PWR_RAIL_CORE n) = true → s.rd (PWR_RADDR_ADDR n) = getBits v.toNat 8 7 → getBits v.toNat 24 3 < 3 → getBits v.toNat 0 8 = 0x21 → 
      ∃ t, exec (.pmbusTransaction a v res data) s = .next t ∧ t.rd PWR_PMB_CMD_KIND = getBits v.toNat 24 3 ∧ t.rd PWR_PMB_CMD_LEN = getBits v.toNat 16 6 ∧ t.rd PWR_PMB_CMD_ADDR = getBits v.toNat 8 7 ∧ t.rd PWR_PMB_CMD_CODE = getBits v.toNat 0 8 ∧ t.rd PWR_PMB_CMD_RESULT = 4 ∧
        RegsBut [PWR_PMB_CMD] s t ∧ t = { s with csr := t.csr, shadow := s.shadow.filter (fun h => h.a != a) }) ∧
  (∀ (s : State),
      s.rcd.queue.length < 128 → 
      ∃ t, exec .vddioSbLow s = .next t ∧ t.pw.sbBad = true ∧ t.on PWR_STS_PLOSS = false ∧ t.rcd.queue = s.rcd.queue ++ [⟨0x06, 96, s.stampTime, leBytes (s.rdW PWR_EVT_LAST).toNat 8⟩] ∧
        RegsBut (PWR_STS :: recKeys) s t ∧ t = { s with csr := t.csr, rcd := t.rcd, pw := { s.pw with sbBad := true } }) ∧
  (∀ (s : State),
      
      exec .vddioSbReturn s = .next ({ s with pw := { s.pw with sbBad := false } })) ∧
  (∀ (s : State) (h : Fin 2),
      s.pw.holdover.contains h.val = false → 
      ∃ t, exec (.ddrRefclkLoss h) s = .next t ∧ t.pw.holdover = s.pw.holdover ++ [h.val] ∧
        RegsBut recKeys s t ∧ t = { s with csr := t.csr, rcd := t.rcd, pw := { s.pw with holdover := t.pw.holdover } }) ∧
  (∀ (s : State) (h : Fin 2),
      s.pw.holdover.contains h.val = true → s.refBusy h = false → 
      ∃ t, exec (.ddrRefclkReturn h) s = .next t ∧ t.pw.holdover = s.pw.holdover.filter (fun x => x != h.val) ∧
        RegsBut recKeys s t ∧ t = { s with csr := t.csr, rcd := t.rcd, pw := { s.pw with holdover := t.pw.holdover } })

/-- A Harvest that begins stops the device and drains or records its lines; the seal leaves a dump of the DIRTY pages, a failed store an unsealed one (R294, R295, R296, R298, R299, R300, R302, R304, R563) -/
def Obligations.AHarvestSavesTheDirtyPagesAndSealsItsDump : Prop :=
  (∀ (s : State) (a : Agent),
      s.reaches a HRV_CTL = true → s.on HRV_STS_ARMED = true → s.hv.pend = none → s.hv.run = none → 
      exec (.harvestCommandStart a) s = .next ({ s with hv := { s.hv with pend := some { cause := 2, best := !s.on HRV_STS_ARMED, t0 := s.now, ts := s.stampTime } }, shadow := s.shadow.filter (fun h => h.a != a) })) ∧
  (∀ (s : State) (a : Agent),
      s.reaches a HRV_CTL = true → s.on HRV_STS_ARMED = false → 
      exec (.harvestCommandStart a) s = .next (((s.dropShadow a).ignored a HRV_CTL (2 ^ 30)))) ∧
  (∀ (s : State) (r : HvRun) (bad : List (BitVec 40)),
      s.pwr = 2 → s.hv.pend = some r → s.fab.cb = [] → 
      ∃ t, exec (.harvestStart bad) s = .next t ∧ t.pwr = 3 ∧ t.rd HRV_STS_STATE = 4 ∧ t.on HRV_STS_ARMED = false ∧ t.hp.stopped = true ∧ t.fab.cb = [] ∧ t.still ∧ t.win.moves = [] ∧ t.rd FUR_STS_STATE = 4 ∧ t.hv.pend = none ∧ t.hv.run = some { r with recs := [] } ∧ ((List.range 16).all fun c => (t.chOf c).q.isEmpty) = true ∧
        t.fur.slots = s.fur.slots ∧ t.fur.map = s.fur.map ∧ t.dr.mem = s.dr.mem ∧ t.nc = s.nc) ∧
  (∀ (s : State) (r : HvRun) (l : CbLine) (f : Nat),
      s.pwr = 2 → s.hv.pend = some r → s.fab.cb = [l] → s.win.moves = [] → (s.tierOf (pageOf l.line)).state = .dramOnly → (s.tierOf (pageOf l.line)).frame = some f → s.altOf l.line = none → s.rgnKeyed l.region = true → 
      ∃ t, exec (.harvestStart []) s = .next t ∧ t.pwr = 3 ∧ t.rd HRV_STS_STATE = 4 ∧ t.on HRV_STS_ARMED = false ∧ t.hp.stopped = true ∧ t.fab.cb = [] ∧ t.still ∧ t.win.moves = [] ∧ t.rd FUR_STS_STATE = 4 ∧ t.hv.pend = none ∧ t.hv.run = some { r with recs := [] } ∧ t.frameLine f l.line (t.rgnKey l.region) = mergeLine (s.frameLine f l.line (s.rgnKey l.region)) l.data l.mask ∧
        t.fur.slots = s.fur.slots ∧ t.fur.map = s.fur.map) ∧
  (∀ (s : State) (r : HvRun) (l : CbLine),
      s.pwr = 2 → s.hv.pend = some r → s.fab.cb = [l] → (s.tierOf (pageOf l.line)).frame = none → s.win.moves = [] → s.altOf l.line = none → 
      ∃ t, exec (.harvestStart []) s = .next t ∧ t.pwr = 3 ∧ t.rd HRV_STS_STATE = 4 ∧ t.on HRV_STS_ARMED = false ∧ t.hp.stopped = true ∧ t.fab.cb = [] ∧ t.still ∧ t.win.moves = [] ∧ t.rd FUR_STS_STATE = 4 ∧ t.hv.pend = none ∧ t.hv.run = some { r with recs := [⟨l.line, l.mask, l.data, false, false, l.region⟩] } ∧
        t.fur.slots = s.fur.slots ∧ t.fur.map = s.fur.map ∧ t.dr.mem = s.dr.mem) ∧
  (∀ (s : State) (r : HvRun) (n : Fin 24),
      s.hv.run = some r → s.hv.failSlot = none → r.recs = [] → s.on (PWR_RAIL_USED n) = true → s.on (PWR_RSTS_EN n) = true → s.on (PWR_RAIL_FALLOW n) = false → r.fault = false → s.on PWR_STS_PLOSS = false → s.on HRV_CTL_FALLOW_EN = false → s.on HRV_STS_FALLOW_HELD = false → 
      ∃ t, exec (.harvestSeal [] [] [] []) s = .next t ∧ t.hv.run = none ∧ t.hv.armed = false ∧ t.rd HRV_CNT_COMPLETE = min (s.rd HRV_CNT_COMPLETE + 1) 65535 ∧ t.rd HRV_SEQ_DSEQ = s.hv.armSeq % 2 ^ 48 ∧ (t.hv.dump.map fun d => (d.dseq, d.cause, d.outcome, d.sealed, d.pages)) = some (s.hv.armSeq, r.cause, (if r.best then 4 else 1), true, s.dumpPages []) ∧ t.pwr = 4 ∧ t.pw.goal = some 0 ∧ t.pw.taking.contains n.val = true ∧
        t.fur.slots = s.fur.slots) ∧
  (∀ (s : State) (r : HvRun) (n : Fin 24),
      s.hv.run = some r → s.hv.failSlot = none → r.recs = [] → s.on (PWR_RAIL_USED n) = true → s.on (PWR_RSTS_EN n) = true → s.on (PWR_RAIL_FALLOW n) = false → r.fault = false → s.on PWR_STS_PLOSS = false → s.on HRV_CTL_FALLOW_EN = true → 
      ∃ t, exec (.harvestSeal [] [] [] []) s = .next t ∧ t.hv.run = none ∧ t.hv.armed = false ∧ t.rd HRV_CNT_COMPLETE = min (s.rd HRV_CNT_COMPLETE + 1) 65535 ∧ t.rd HRV_SEQ_DSEQ = s.hv.armSeq % 2 ^ 48 ∧ (t.hv.dump.map fun d => (d.dseq, d.cause, d.outcome, d.sealed, d.pages)) = some (s.hv.armSeq, r.cause, (if r.best then 4 else 1), true, s.dumpPages []) ∧ t.pwr = 4 ∧ t.pw.goal = some 5 ∧ t.on HRV_STS_FALLOW_HELD = true ∧
        t.fur.slots = s.fur.slots) ∧
  (∀ (s : State) (r : HvRun) (m : Nat) (save : Bool),
      s.hv.run = some r → s.hv.failSlot.isSome = true → 
      ∃ t, exec (.harvestStoreFail m save []) s = .next t ∧ (t.hv.dump.map fun d => (d.dseq, d.cause, d.outcome, d.sealed, d.pages)) = some (s.hv.armSeq, r.cause, 3, false, if save then (s.dumpPages []).take m else []) ∧ t.hv.run = none ∧ t.hv.failSlot = none ∧ t.rd HRV_CNT_INCOMPLETE = min (s.rd HRV_CNT_INCOMPLETE + 1) 65535 ∧ t.on PWR_STS_FLT_DRIVEN = true ∧
        t.fur.slots = s.fur.slots) ∧
  (∀ (s : State) (a : Agent),
      s.reaches a HRV_CTL = true → 
      exec (.fallowEnd a) s = .next (((s.dropShadow a).wr HRV_STS_FALLOW_HELD 0)))

/-- Resow takes its path, the sweep settles the pages left, Harvest arms when its conditions hold, and its configuration is stored unless Harvest runs (R291, R292, R306, R307, R309, R310, R314) -/
def Obligations.ResowRestoresArmsAndItsConfigurationIsWritten : Prop :=
  (∀ (s : State) (a : Agent) (v : BitVec 32),
      s.reaches a HRV_CAP = true → s.hrvBusy = false → 
      ∃ t, exec (.harvestConfigWrite a 0 v) s = .next t ∧ t.rd HRV_CAP_CAP_GIB = v.toNat % 512 ∧
        RegsBut ([HRV_CAP, HRV_CAP, HRV_STS, HRV_NEED, HRV_LIMITS, HRV_CNT] ++ fltKeys 88 ++ recKeys) s t ∧ t = { s with csr := t.csr, rcd := t.rcd, hv := { s.hv with declared := t.hv.declared }, shadow := s.shadow.filter (fun h => h.a != a) }) ∧
  (∀ (s : State) (a : Agent) (v : BitVec 32),
      s.reaches a HRV_BOARD = true → s.hrvBusy = false → 
      ∃ t, exec (.harvestConfigWrite a 1 v) s = .next t ∧ t.rdW HRV_BOARD = (s.rdW HRV_BOARD &&& 0xFFFFFFFF00000000) ||| v.setWidth 64 ∧ t.hv = s.hv ∧
        RegsBut ([HRV_BOARD, HRV_CAP, HRV_STS, HRV_NEED, HRV_LIMITS, HRV_CNT] ++ fltKeys 88 ++ recKeys) s t ∧ t = { s with csr := t.csr, rcd := t.rcd, hv := { s.hv with declared := t.hv.declared }, shadow := s.shadow.filter (fun h => h.a != a) }) ∧
  (∀ (s : State) (a : Agent) (v : BitVec 32),
      s.reaches a HRV_STORE = true → s.hrvBusy = false → 
      ∃ t, exec (.harvestConfigWrite a 2 v) s = .next t ∧ t.rdW HRV_STORE = (s.rdW HRV_STORE &&& 0xFFFFFFFF00000000) ||| v.setWidth 64 ∧ t.hv.declared = s.now ∧ t.bitOf (FLT_LIVE_PRESENT 88) 4 = false ∧
        RegsBut ([HRV_STORE, HRV_CAP, HRV_STS, HRV_NEED, HRV_LIMITS, HRV_CNT] ++ fltKeys 88 ++ recKeys) s t ∧ t = { s with csr := t.csr, rcd := t.rcd, hv := { s.hv with declared := t.hv.declared }, shadow := s.shadow.filter (fun h => h.a != a) }) ∧
  (∀ (s : State) (a : Agent) (v : BitVec 32),
      s.reaches a HRV_NAND = true → s.hrvBusy = false → 
      ∃ t, exec (.harvestConfigWrite a 3 v) s = .next t ∧ t.rd HRV_NAND_TPROG_SLC_US = v.toNat % 65536 ∧ t.hv = s.hv ∧
        RegsBut ([HRV_NAND, HRV_CAP, HRV_STS, HRV_NEED, HRV_LIMITS, HRV_CNT] ++ fltKeys 88 ++ recKeys) s t ∧ t = { s with csr := t.csr, rcd := t.rcd, hv := { s.hv with declared := t.hv.declared }, shadow := s.shadow.filter (fun h => h.a != a) }) ∧
  (∀ (s : State) (a : Agent) (r : Fin 4) (v : BitVec 32) (k : Nat),
      s.reaches a k = true → k = [HRV_CAP, HRV_BOARD, HRV_STORE, HRV_NAND].getD r 0 → s.hrvBusy = true → 
      exec (.harvestConfigWrite a r v) s = .next (((s.dropShadow a).ignored a k v.toNat))) ∧
  (∀ (s : State),
      
      ∃ t, exec .storeDeclarationStale s = .next t ∧ t.bitOf (FLT_LIVE_PRESENT 88) 4 = true ∧
        RegsBut (fltKeys 88 ++ recKeys) s t ∧ RecOnly s t) ∧
  (∀ (s : State),
      s.pwr = 2 → s.rd HRV_STS_STATE = 1 → s.fur.formatted = false → 
      ∃ t, exec (.resowStart true true false [] []) s = .next t ∧ t.rd HRV_RESOW_PATH = 0 ∧ t.rd HRV_STS_STATE = 2 ∧ t.hv.resown = true ∧ t.hv.replay = [] ∧ t.rd HRV_RESOW_PAGES = 0 ∧ t.rd HRV_SEQ_DSEQ = s.rd HRV_SEQ_DSEQ ∧
        t.fur = s.fur ∧ t.pw = s.pw) ∧
  (∀ (s : State) (d : Dump) (tok : Bool),
      s.pwr = 2 → s.rd HRV_STS_STATE = 1 → s.fur.formatted = true → s.rd FUR_STS_STATE = 2 → s.hv.dump = some d → d.sealed = true → d.lines = [] → s.on HRV_STS_FALLOW_HELD = false → 
      ∃ t, exec (.resowStart true tok false [] []) s = .next t ∧ t.rd HRV_RESOW_PATH = 2 ∧ t.rd HRV_STS_STATE = 2 ∧ t.hv.resown = true ∧ t.rd HRV_RESOW_PAGES = d.pages.length % 2 ^ 32 ∧ t.rd HRV_SEQ_DSEQ = d.dseq % 2 ^ 48 ∧ t.rcd.image = d.image ∧ t.hv.replay = [] ∧ t.hv.journal = d.journal) ∧
  (∀ (s : State),
      s.pwr = 2 → s.rd HRV_STS_STATE = 1 → s.fur.formatted = true → s.rd FUR_STS_STATE = 2 → s.hv.dump = none → s.hv.armSeq ≠ 0 → 
      ∃ t, exec (.resowStart false false false [] []) s = .next t ∧ t.rd HRV_RESOW_PATH = 3 ∧ t.rd HRV_STS_STATE = 2 ∧ t.hv.resown = true ∧ t.hv.dirtyShut = s.hv.dirtyShut + 1 ∧ t.bitOf (FLT_STS_CAUSE 88) 5 = true) ∧
  (∀ (s : State) (p : Nat),
      s.hv.resown = true → s.win.unswept = [p] → (s.tierOf p).pinned = false → s.rgnPinned (s.tierOf p).region = false → 
      ∃ t, exec .resowSweep s = .next t ∧ t.win.unswept = [] ∧ t.tierOf p = { s.tierOf p with heat := 0 } ∧
        RegsBut [HRV_DIRTY] s t ∧ t = { s with csr := t.csr, win := t.win } ∧
        (∀ q, q ≠ p → t.tierOf q = s.tierOf q)) ∧
  (∀ (s : State) (sb : BitVec 18),
      s.pwr = 2 → s.rd HRV_STS_STATE = 2 → s.noArm = 0 → s.hv.armed = false → s.still → 
      ∃ t, exec (.harvestArmed sb) s = .next t ∧ t.rd HRV_STS_STATE = 3 ∧ t.on HRV_STS_ARMED = true ∧ t.hv.armed = true ∧ t.hv.armSeq = (max s.hv.armSeq (s.rd HRV_SEQ_DSEQ) + 1) % 2 ^ 48 ∧ t.hv.armSb = sb.toNat ∧ t.hv.dump = none ∧ t.on HRV_STS_FALLOW_HELD = false ∧ t.rd HRV_STS_NOARM = 0 ∧
        t.dr = s.dr ∧ t.nc = s.nc ∧ t.win = s.win ∧ t.fab = s.fab ∧ t.hp = s.hp ∧ t.fur.slots = s.fur.slots ∧ t.fur.map = s.fur.map ∧ t.pw = s.pw ∧ t.out = s.out) ∧
  (∀ (s : State) (sb : BitVec 18),
      s.pwr = 2 → s.rd HRV_STS_STATE = 2 → s.noArm = 0 → s.hv.armed = true → s.still → 
      ∃ t, exec (.harvestArmed sb) s = .next t ∧ t.rd HRV_STS_STATE = 3 ∧ t.on HRV_STS_ARMED = true ∧ t.rd HRV_STS_NOARM = 0 ∧
        RegsBut (HRV_STS :: fltKeys 88 ++ recKeys) s t ∧ RecOnly s t)

/-- A group reset begins, is latched, waits or is ignored as ruled, ends with its groups released, and a power-on leaves only non-volatile media (R577, R578, R580, R581, R582, R583, R586, R589, R302) -/
def Obligations.ResetsActOnTheirGroupsAndPowerOnLeavesNonVolatileMediaOnly : Prop :=
  (∀ (s : State) (a : Agent) (g : Fin 11),
      s.reaches a RST_GRP_CTL = true → s.hrvBusy = false → s.on RST_GRP_STS_BUSY = false → g.val = 4 → s.on YOK_CTL_ENABLE = false → 
      ∃ t, exec (.groupResetRequest a (BitVec.ofNat 28 (2 ^ g.val))) s = .next t ∧ t.rs.groups = 2 ^ g.val ∧ t.rd RST_GRP_STS_IN_RESET = 2 ^ g.val ∧ t.on RST_GRP_STS_BUSY = true ∧ t.rd RST_CAUSE_GRP_CAUSE = 1 ∧ t.rd RST_CAUSE_GRP_LAST = g ∧ t.rd RST_CNT_GROUP = min (s.rd RST_CNT_GROUP + 1) 65535 ∧ t.fab = { s.fab with hold := s.fab.hold || g.val == 0 } ∧
        t = { s with csr := t.csr, rcd := t.rcd, rs := t.rs, fab := t.fab, shadow := s.shadow.filter (fun h => h.a != a) } ∧
        RegsBut ([RST_GRP_STS, RST_CAUSE, RST_CNT] ++ recKeys) s t) ∧
  (∀ (s : State) (a : Agent) (g : Fin 11),
      s.reaches a RST_GRP_CTL = true → s.hrvBusy = true → 
      ∃ t, exec (.groupResetRequest a (BitVec.ofNat 28 (2 ^ g.val))) s = .next t ∧ t.hv.latched = s.hv.latched ||| 2 ^ g.val ∧ t.on HRV_STS_RESET_LATCHED = true ∧ t.rd RST_CNT_LATCHED = min (s.rd RST_CNT_LATCHED + 1) 65535 ∧
        RegsBut [HRV_STS, RST_CNT] s t ∧ t = { s with csr := t.csr, hv := { s.hv with latched := t.hv.latched }, shadow := s.shadow.filter (fun h => h.a != a) }) ∧
  (∀ (s : State) (a : Agent) (g : Fin 11),
      s.reaches a RST_GRP_CTL = true → s.hrvBusy = false → s.on RST_GRP_STS_BUSY = true → s.rs.groups.testBit g.val = false → s.rs.pend = 0 → 
      ∃ t, exec (.groupResetRequest a (BitVec.ofNat 28 (2 ^ g.val))) s = .next t ∧ t.rs.pend = 2 ^ g.val ∧ t.rd RST_CAUSE_PENDING = 2 ^ g.val ∧ t.rs.groups = s.rs.groups ∧
        RegsBut [RST_CAUSE] s t ∧ t = { s with csr := t.csr, rs := t.rs, shadow := s.shadow.filter (fun h => h.a != a) }) ∧
  (∀ (s : State) (a : Agent) (c : Fin 16),
      s.reaches a RST_GRP_CTL = true → s.rd (DRM_STS_STATE c) ≠ 0 → s.rd (DRM_STS_STATE c) ≠ 5 → 
      ∃ t, exec (.groupResetRequest a (BitVec.ofNat 28 (2 ^ (12 + c.val)))) s = .next t ∧ t.rd RST_CNT_IGNORED = min (s.rd RST_CNT_IGNORED + 1) 65535 ∧ t.bitOf (FLT_STS_CAUSE 97) 3 = true ∧ t.rs = s.rs ∧
        RegsBut ([RST_CNT] ++ fltKeys 97 ++ recKeys) s t ∧ t = { s with csr := t.csr, rcd := t.rcd, shadow := s.shadow.filter (fun h => h.a != a) }) ∧
  (∀ (s : State),
      s.on RST_GRP_STS_BUSY = true → s.rs.groups.testBit 0 = true → s.coreQuiet = true → s.rs.pend = 0 → 
      ∃ t, exec .groupResetRelease s = .next t ∧ t.rs.groups = 0 ∧ t.rd RST_GRP_STS_IN_RESET = 0 ∧ t.on RST_GRP_STS_BUSY = false ∧
        t.pw = s.pw ∧
        (s.rs.groups.testBit 0 = true → t.on RST_GRP_STS_HOLD = true)) ∧
  (∀ (s : State),
      s.on RST_GRP_STS_BUSY = false ∨ (s.rs.groups.testBit 0 = true ∧ s.coreQuiet = false) → 
      exec .groupResetRelease s = .next (s)) ∧
  (∀ (s : State) (a : Agent),
      s.reaches a RST_GRP_CTL = true → s.on RST_GRP_STS_HOLD = true → s.still → 
      ∃ t, exec (.admitTines a) s = .next t ∧ t.fab.hold = false ∧ t.on RST_GRP_STS_HOLD = false ∧
        t.pw = s.pw ∧ t.rs = s.rs) ∧
  (∀ (s : State) (a : Agent),
      s.reaches a RST_GRP_CTL = true → s.on RST_GRP_STS_HOLD = false → 
      exec (.admitTines a) s = .next (s.dropShadow a)) ∧
  (∀ (s : State) (aon : Bool),
      aon = true ∨ s.pwr = 0 ∨ s.pwr = 5 ∨ s.pwr = 6 → s.efl.erase = none → 
      ∃ t, exec (.powerOnReset aon) s = .next t ∧ t.pw = { held := true } ∧ t.fab = {} ∧ t.dr = {} ∧ t.cph = {} ∧ t.yk = {} ∧ t.dl = {} ∧ t.hp = {} ∧ t.efl = { words := s.efl.words, otp := s.efl.otp, otpDone := s.efl.otpDone } ∧ t.fur.slots = s.fur.slots ∧ t.fur.map = s.fur.map ∧ t.hv.dump = s.hv.dump ∧ t.hv.journal = s.hv.journal ∧ t.hv.armSeq = s.hv.armSeq ∧ t.hv.world = s.hv.world ∧
        (∀ k, t.rdW k = csrDefault k)) ∧
  (∀ (s : State),
      s.pwr ≠ 0 → s.pwr ≠ 5 → s.pwr ≠ 6 → 
      exec (.powerOnReset false) s = .next (s)) ∧
  (∀ (s : State) (strap : Fin 4),
      s.pw.held = true → 
      exec (.aonResetRelease strap) s = .next ({ s with pw := { s.pw with held := false, strap := strap } })) ∧
  (∀ (s : State),
      
      exec .tapReset s = .next (s)) ∧
  (∀ (s : State),
      s.pwr = 2 → s.hv.armed = true → s.hp.memActive = false → 
      ∃ t, exec .memoryActiveSet s = .next t ∧ t.hp.memActive = true ∧ t.on DRL_CTL_ENABLE = true ∧ t.rd (RST_MS_TIME 7) = s.msNow % 2 ^ 32 ∧
        RegsBut [RST_MS 7, DRL_CTL] s t ∧ t = { s with csr := t.csr, hp := { s.hp with memActive := true, owed := t.hp.owed } }) ∧
  (∀ (s : State) (k : Fin 8),
      
      ∃ t, exec (.pulseOverrun k) s = .next t ∧ t.rdW RST_XOVR = s.rdW RST_XOVR ||| BitVec.ofNat 64 (2 ^ k.val) ∧ t.bitOf (FLT_STS_CAUSE 97) 2 = true ∧
        RegsBut ([RST_XOVR] ++ fltKeys 97 ++ recKeys) s t ∧ RecOnly s t)

/-- Fault bits are cleared, injected and captured; records are written at WPOS, lost when the memory is full, cleared by epoch, and firmware adds its own (R593, R595, R597, R614, R616, R617, R618, R619, R620, R625) -/
def Obligations.FaultRegistersAndTheRecorderHoldWhatHappened : Prop :=
  (∀ (s : State) (a : Agent) (w : Fin 100) (v : BitVec 32),
      s.reaches a (FLT_STS w) = true → 
      ∃ t, exec (.fltStsClear a w v) s = .next t ∧ t.rdW (FLT_STS w) = s.rdW (FLT_STS w) &&& ~~~ (v.setWidth 64 &&& ~~~ s.rdW (FLT_LIVE w)) ∧
        RegsBut [FLT_STS w] s t ∧ t = { s with csr := t.csr, shadow := s.shadow.filter (fun h => h.a != a) }) ∧
  (∀ (s : State) (a : Agent) (w : Fin 100),
      s.reaches a (FLT_INFO w) = true → 
      ∃ t, exec (.fltInfoClear a w) s = .next t ∧ t.on (FLT_INFO_VALID w) = false ∧
        RegsBut [FLT_INFO w] s t ∧ t = { s with csr := t.csr, shadow := s.shadow.filter (fun h => h.a != a) }) ∧
  (∀ (s : State) (a : Agent) (w : Fin 100) (b : Fin 32),
      s.reaches a (FLT_INJ w) = true → s.bitOf (FLT_STS_CAUSE w) b = false → (fltCauses w).testBit b = true → s.on (FLT_INFO_VALID w) = false → s.rcd.queue.length < 128 → 
      ∃ t, exec (.fltInject a w (BitVec.ofNat 32 (2 ^ b.val))) s = .next t ∧ t.bitOf (FLT_STS_CAUSE w) b = true ∧ t.rd (FLT_CNT_COUNT w) = min (s.rd (FLT_CNT_COUNT w) + 1) (2 ^ 32 - 1) ∧ t.on (FLT_INFO_VALID w) = true ∧ t.rd (FLT_INFO_BIT w) = b ∧ t.rd (FLT_INFO_SUB w) = 0x1FFF ∧ t.rd (FLT_INFO_MERGED w) = 0 ∧ t.rd (FLT_INFO_TIME w) = s.stampTime % 2 ^ 32 ∧ (t.rcd.queue.map fun r => (r.ty, r.src)) = (s.rcd.queue.map fun r => (r.ty, r.src)) ++ [(1, w.val)] ∧
        RegsBut (fltKeys w ++ recKeys) s t ∧ t = { s with csr := t.csr, rcd := t.rcd, shadow := s.shadow.filter (fun h => h.a != a) }) ∧
  (∀ (s : State) (a : Agent) (w : Fin 100) (b : Fin 32),
      s.reaches a (FLT_INJ w) = true → (fltCauses w).testBit b = false → 
      exec (.fltInject a w (BitVec.ofNat 32 (2 ^ b.val))) s = .next (s.dropShadow a)) ∧
  (∀ (s : State) (a : Agent) (w : Fin 100) (b : Fin 32),
      s.reaches a (FLT_INJ w) = true → s.bitOf (FLT_STS_CAUSE w) b = true → (fltCauses w).testBit b = true → s.on (FLT_INFO_VALID w) = true → 
      ∃ t, exec (.fltInject a w (BitVec.ofNat 32 (2 ^ b.val))) s = .next t ∧ t.rd (FLT_CNT_COUNT w) = min (s.rd (FLT_CNT_COUNT w) + 1) (2 ^ 32 - 1) ∧ t.rd (FLT_INFO_MERGED w) = min (s.rd (FLT_INFO_MERGED w) + 1) 8191 ∧ t.rd (FLT_STS_CAUSE w) = s.rd (FLT_STS_CAUSE w) ∧
        RegsBut [FLT_STS w, FLT_CNT w, FLT_INFO w] s t ∧ t = { s with csr := t.csr, shadow := s.shadow.filter (fun h => h.a != a) }) ∧
  (∀ (s : State) (r : Rec) (q : List Rec),
      s.rcd.queue = r :: q → s.rcd.lostSince = 0 → s.on REC_STS_FULL = false → s.rd REC_POS_WPOS + 8 * r.words ≤ 0xFFFC0 → 
      ∃ t, exec .recordWrite s = .next t ∧ rdBytes t.rcd.mem (s.rd REC_POS_WPOS) (8 * r.words) = r.bytes (s.rd REC_SEQ_NEXT) ∧ t.rcd.queue = q ∧ t.rd REC_POS_WPOS = s.rd REC_POS_WPOS + 8 * r.words ∧ t.rd REC_SEQ_NEXT = (s.rd REC_SEQ_NEXT + 1) % 2 ^ 32 ∧ t.rcd.written = s.rcd.written + 1 ∧
        RegsBut [REC_STS, REC_POS, REC_SEQ] s t ∧ RecOnly s t) ∧
  (∀ (s : State) (r : Rec) (q : List Rec),
      s.rcd.queue = r :: q → s.rcd.lostSince ≠ 0 → s.on REC_STS_FULL = true ∨ s.rd REC_POS_WPOS + 8 * r.words ≤ 0xFFFC0 → 
      ∃ t, exec .recordWrite s = .next t ∧ t.rcd.queue = q ++ [⟨0x0A, 0xFE, s.stampTime, leBytes s.rcd.lostSince 4⟩] ∧ t.rcd.lostSince = 0 ∧
        RecOnly s t) ∧
  (∀ (s : State) (r : Rec) (q : List Rec),
      s.rcd.queue = r :: q → s.rcd.lostSince = 0 → s.on REC_STS_FULL = true → 
      ∃ t, exec .recordWrite s = .next t ∧ t.rcd = { s.rcd with queue := q } ∧ t.rd REC_LOST_LOST_FULL = min (s.rd REC_LOST_LOST_FULL + 1) (2 ^ 32 - 1) ∧
        RegsBut [REC_STS, REC_LOST] s t ∧ RecOnly s t) ∧
  (∀ (s : State) (r : Rec) (q : List Rec),
      s.rcd.queue = r :: q → s.on REC_STS_FULL = false → 0xFFFC0 < s.rd REC_POS_WPOS + 8 * r.words → 
      ∃ t, exec .recordWrite s = .next t ∧ t.on REC_STS_FULL = true ∧ t.rd REC_LOST_LOST_FULL = min (s.rd REC_LOST_LOST_FULL + 1) (2 ^ 32 - 1) ∧ t.bitOf (FLT_LIVE_PRESENT 98) 2 = true ∧ t.rd REC_SEQ_NEXT = (s.rd REC_SEQ_NEXT + 1) % 2 ^ 32 ∧
        RegsBut ([REC_POS, REC_SEQ] ++ fltKeys 98 ++ recKeys) s t ∧ RecOnly s t) ∧
  (∀ (s : State) (a : Agent),
      s.reaches a REC_CLEAR = true → s.hrvBusy = false → 
      ∃ t, exec (.recClear a (BitVec.ofNat 32 (s.rd REC_POS_EPOCH))) s = .next t ∧ t.rd REC_POS_WPOS = 32 ∧ t.rd REC_POS_EPOCH = (s.rd REC_POS_EPOCH + 1) % 2 ^ 32 ∧ t.rd REC_LOST_LOST_FULL = 0 ∧ t.rd REC_LOST_LOST_QUEUE = 0 ∧ t.on REC_STS_FULL = false ∧ t.rd (REC_CLEAR_STS_RESULT.bank a) = 0 ∧ t.rd REC_SEQ_NEXT = (s.rd REC_SEQ_NEXT + 1) % 2 ^ 32 ∧ t.rcd.written = 1 ∧ t.rcd.queue = s.rcd.queue ∧
        RegsBut [REC_POS, REC_LOST, REC_STS, REC_SEQ, FLT_LIVE 98, bankKey a REC_CLEAR_STS] s t ∧ t = { s with csr := t.csr, rcd := t.rcd, shadow := s.shadow.filter (fun h => h.a != a) }) ∧
  (∀ (s : State) (a : Agent) (e : BitVec 32),
      s.reaches a REC_CLEAR = true → s.rd REC_POS_EPOCH ≠ e.toNat → 
      exec (.recClear a e) s = .next (((s.dropShadow a).wr (REC_CLEAR_STS_RESULT.bank a) 1))) ∧
  (∀ (s : State) (a : Agent),
      s.reaches a REC_CLEAR = true → s.hrvBusy = true → 
      exec (.recClear a (BitVec.ofNat 32 (s.rd REC_POS_EPOCH))) s = .next (((s.dropShadow a).wr (REC_CLEAR_STS_RESULT.bank a) 2))) ∧
  (∀ (s : State) (a : Agent) (v : Word64),
      s.reaches a REC_TIME_SET = true → a ≠ .sb → s.rcd.queue.length < 128 → 
      ∃ t, exec (.recTimeSet a v) s = .next t ∧ t.rdW REC_TIME = v ∧ t.rcd.queue = s.rcd.queue ++ [⟨0x0D, 0xFE, v.toNat, leBytes s.stampTime 8⟩] ∧
        RegsBut (REC_TIME :: recKeys) s t ∧ t = { s with csr := t.csr, rcd := t.rcd, shadow := s.shadow.filter (fun h => h.a != a) }) ∧
  (∀ (s : State) (v : Word64),
      
      ∃ t, exec (.recTimeSet .sb v) s = .next t ∧ t.rdW REC_TIME = s.rdW REC_TIME ∧ t.bitOf (FLT_STS_CAUSE 98) 0 = true ∧
        RegsBut (fltKeys 98 ++ recKeys) s t) ∧
  (∀ (s : State) (a : Agent) (ty : Byte) (len : BitVec 6),
      s.reaches a REC_FW_CTL = true → a ≠ .sb → 0x20 ≤ ty.toNat → ty.toNat ≤ 0x3F → s.rcd.queue.length < 128 → 
      ∃ t, exec (.recFwRecord a ty len) s = .next t ∧ t.rcd.queue = s.rcd.queue ++ [⟨ty.toNat, 0xF0 + agentNum a, s.stampTime, (List.range (max 2 (min 32 len.toNat) - 2)).flatMap fun k => leBytes (s.rd ((REC_FW_DATA_BYTES k).bank a)) 8⟩] ∧ (∀ k : Fin 30, t.rd ((REC_FW_DATA_BYTES k).bank a) = 0) ∧ t.rd (REC_FW_CTL_TYPE.bank a) = ty.toNat ∧ t.rd (REC_FW_CTL_LEN.bank a) = len.toNat ∧
        t = { s with csr := t.csr, rcd := t.rcd, shadow := s.shadow.filter (fun h => h.a != a) } ∧
        RegsBut (bankKey a REC_FW_CTL :: (List.range 30).map (fun k => bankKey a (REC_FW_DATA k)) ++ recKeys) s t) ∧
  (∀ (s : State) (a : Agent) (ty : Byte) (len : BitVec 6),
      s.reaches a REC_FW_CTL = true → a = .sb ∨ ty.toNat < 0x20 ∨ 0x3F < ty.toNat → 
      ∃ t, exec (.recFwRecord a ty len) s = .next t ∧ t.bitOf (FLT_STS_CAUSE 98) 0 = true ∧
        RegsBut (bankKey a REC_FW_CTL :: fltKeys 98 ++ recKeys) s t ∧ t = { s with csr := t.csr, rcd := t.rcd, shadow := s.shadow.filter (fun h => h.a != a) })

/-- Tithe adds its samples, closes an interval with a record per tenant and one for the device, releases records, and starts a life with its START record (R626, R628, R630, R631, R634, R638, R640) -/
def Obligations.TitheMetersClosesIntervalsAndStartsLives : Prop :=
  (∀ (s : State) (uj : Nat),
      s.th.started = true → s.rd (PWR_PD_STATE 2) ≠ 2 → 
      exec (.titheCounterSample uj) s = .next ({ s with th := { s.th with ms := s.th.ms + 1, uj := s.th.uj + uj, rd := addGain s.th.rdc s.th.rds s.th.rd, wr := addGain s.th.wrc s.th.wrs s.th.wr, rds := s.th.rdc, wrs := s.th.wrc } })) ∧
  (∀ (s : State) (uj r : Nat),
      s.th.started = true → s.rd (PWR_PD_STATE 2) = 2 → s.validRgns = [r] → s.residentOk = true → 
      ∃ t, exec (.titheCounterSample uj) s = .next t ∧ t.th.ms = s.th.ms + 1 ∧ mget cnt0 t.th.held (s.rd (TIN_RGN_ATTR_TENANT r)) = mget cnt0 s.th.held (s.rd (TIN_RGN_ATTR_TENANT r)) + s.rgnSize r * 1048576 ∧ mget cnt0 t.th.dram (s.rd (TIN_RGN_ATTR_TENANT r)) = mget cnt0 s.th.dram (s.rd (TIN_RGN_ATTR_TENANT r)) + 4 * s.rd (WIN_RGN_RES_RESIDENT r) ∧
        t = { s with th := t.th }) ∧
  (∀ (s : State),
      s.th.started = true → s.th.wait = [] → s.titheRoom (s.titheTenants.length + 1) = true → 
      ∃ t, exec .titheIntervalClose s = .next t ∧ t.th.ring.length = s.th.ring.length + (s.titheTenants.length + 1) ∧ t.rd TTH_LIFE_NEXT = (s.rd TTH_LIFE_NEXT + (s.titheTenants.length + 1)) % 2 ^ 32 ∧ t.rd TTH_STS_USED = (s.th.ring.length + (s.titheTenants.length + 1)) % 2 ^ 15 ∧ t.rd TTH_STS_STATE = 1 ∧ t.th.held = [] ∧ t.th.dram = [] ∧ t.th.rd = [] ∧ t.th.wr = [] ∧ t.th.uj = 0 ∧ t.th.since = s.titheSec ∧
        RegsBut ([TTH_STS, TTH_LIFE] ++ fltKeys 99 ++ recKeys) s t ∧ t = { s with csr := t.csr, rcd := t.rcd, th := t.th }) ∧
  (∀ (s : State),
      s.th.started = true → s.titheRoom (s.th.wait.length + s.titheTenants.length + 1) = false → 
      ∃ t, exec .titheIntervalClose s = .next t ∧ t.rd TTH_STS_STATE = 2 ∧ t.bitOf (FLT_LIVE_PRESENT 99) 2 = true ∧ t.th = s.th ∧
        RegsBut (TTH_STS :: fltKeys 99 ++ recKeys) s t ∧ RecOnly s t) ∧
  (∀ (s : State) (upto : BitVec 32),
      s.reaches .sb TTH_REL = true → s.th.wait = [] → 
      ∃ t, exec (.titheRelease .sb upto) s = .next t ∧ t.th.ring = s.th.ring.filter (fun r => !(r.life == s.rd TTH_LIFE_LIFE && decide (r.num ≤ upto.toNat))) ∧ t.rd TTH_STS_USED = t.th.ring.length % 2 ^ 15 ∧
        RegsBut [TTH_STS] s t ∧ t = { s with csr := t.csr, th := { s.th with ring := t.th.ring }, shadow := s.shadow.filter (fun h => h.a != .sb) }) ∧
  (∀ (s : State) (a : Agent) (upto : BitVec 32),
      s.reaches a TTH_REL = true → a ≠ .sb → 
      exec (.titheRelease a upto) s = .next (((s.dropShadow a).ignored a TTH_REL upto.toNat))) ∧
  (∀ (s : State) (v : BitVec 32),
      s.reaches .sb TTH_CFG = true → s.th.started = false → 
      exec (.titheCfgWrite .sb v) s = .next (((s.dropShadow .sb).wr TTH_CFG_INTERVAL_S (v.toNat % 2 ^ 17)))) ∧
  (∀ (s : State) (v : BitVec 32),
      s.reaches .sb TTH_CFG = true → s.rd TTH_CFG_INTERVAL_S ≠ v.toNat % 2 ^ 17 → s.titheRoom (s.titheTenants.length + 2) = true → s.th.started = true → s.th.wait = [] → 
      ∃ t, exec (.titheCfgWrite .sb v) s = .next t ∧ t.rd TTH_CFG_INTERVAL_S = v.toNat % 2 ^ 17 ∧ t.th.ring.length = s.th.ring.length + (s.titheTenants.length + 2) ∧ t.rd TTH_LIFE_NEXT = (s.rd TTH_LIFE_NEXT + (s.titheTenants.length + 2)) % 2 ^ 32 ∧ t.rd TTH_STS_USED = (s.th.ring.length + (s.titheTenants.length + 2)) % 2 ^ 15 ∧ t.th.held = [] ∧ t.th.since = s.titheSec ∧
        RegsBut ([TTH_CFG, TTH_STS, TTH_LIFE] ++ fltKeys 99 ++ recKeys) s t) ∧
  (∀ (s : State) (a : Agent) (v : BitVec 32),
      s.reaches a TTH_CFG = true → a ≠ .sb → 
      exec (.titheCfgWrite a v) s = .next (((s.dropShadow a).ignored a TTH_CFG v.toNat))) ∧
  (∀ (s : State),
      s.th.started = false → s.pw.held = false → s.titheRoom 1 = true → 
      ∃ t, exec .titheLifeStart s = .next t ∧ t.rd TTH_LIFE_LIFE = min 512 (s.th.fuse + 1) ∧ t.th.fuse = min 512 (s.th.fuse + 1) ∧ t.rd TTH_LIFE_NEXT = 2 ∧ t.rd TTH_STS_STATE = 1 ∧ t.th.started = true ∧ t.th.ring.length = s.th.ring.length + 1 ∧ t.on TTH_STS_LIFE_SAT = decide (512 ≤ s.th.fuse) ∧ t.th.held = [] ∧ t.th.uj = 0 ∧
        t = { s with csr := t.csr, rcd := t.rcd, th := t.th }) ∧
  (∀ (s : State),
      s.th.started = true → s.titheRoom 1 = true → 
      ∃ t, exec .titheWatchdogRestart s = .next t ∧ t.rd TTH_LIFE_LIFE = min 512 (s.th.fuse + 1) ∧ t.th.fuse = min 512 (s.th.fuse + 1) ∧ t.rd TTH_LIFE_NEXT = 2 ∧ t.rd TTH_STS_STATE = 1 ∧ t.th.started = true ∧ t.th.ring.length = s.th.ring.length + 1 ∧ t.on TTH_STS_LIFE_SAT = decide (512 ≤ s.th.fuse) ∧ t.th.held = [] ∧ t.th.uj = 0 ∧ t.bitOf (FLT_STS_CAUSE 99) 4 = true ∧
        t = { s with csr := t.csr, rcd := t.rcd, th := t.th }) ∧
  (∀ (s : State),
      
      ∃ t, exec .energyMonitorFail s = .next t ∧ t.th = { s.th with monFail := true } ∧ t.bitOf (FLT_LIVE_PRESENT 99) 5 = true ∧
        RegsBut (fltKeys 99 ++ recKeys) s t ∧ t = { s with csr := t.csr, rcd := t.rcd, th := t.th })

/-- Yoke sends its queue in frames, takes acknowledgements, sends again what is not acknowledged, and applies received frames in order (R329, R330, R331, R333, R334, R335, R336, R340) -/
def Obligations.YokeFramesAreSentAcknowledgedRetransmittedAndApplied : Prop :=
  (∀ (s : State) (p : Fin 2) (e : YSent),
      s.shape → (s.pairAt p).queue = [e] → (s.pairAt p).keyed = true → (s.pairAt p).log = [] → s.usable p = [0] → s.pathOpen p 0 → s.twinUp = true → e.cls ≤ 3 → entrySize e.ent ≤ s.frameRoom p → 
      ∃ t, exec (.yokeFrameSend p) s = .next t ∧ (t.pairAt p).queue = [] ∧ (t.pairAt p).log = [⟨(s.pairAt p).txFsn, s.on (YOK_PAIR_KEYGEN p), [e], 0⟩] ∧ (t.pairAt p).txFsn = (s.pairAt p).txFsn + 1 ∧ t.rd (YOK_TXSEQ_FSN p) = ((s.pairAt p).txFsn + 1) % 2 ^ 48 ∧ t.out = .yokeData p 0 (s.pairAt p).txFsn (s.on (YOK_PAIR_KEYGEN p)) 0 [e.ent] (s.pairAt p).applied (s.pairAt p).rxGen :: s.out ∧
        RegsBut [YOK_TXSEQ p, YOK_ACKED p, YOK_RXSEQ p] s t ∧ t = { s with csr := t.csr, yk := t.yk, out := t.out }) ∧
  (∀ (s : State) (h : YokeHdr),
      s.shape → s.authOk h = true → (s.csnTake h).2 = true → s.pathState h.pair h.path ≠ 0 → (s.pairAt h.pair).log = [] → s.portUp (pathPort h.pair h.path) = true → 
      ∃ t, exec (.yokeHbReceive h) s = .next t ∧ (if h.path = 0 then (t.pairAt h.pair).csnA else (t.pairAt h.pair).csnB) = h.seq.toNat ∧ t.rd (NPT_MAC_CNT_RX_GOOD (pathPort h.pair h.path)) = min (s.rd (NPT_MAC_CNT_RX_GOOD (pathPort h.pair h.path)) + 1) (2 ^ 32 - 1) ∧
        RegsBut [NPT_MAC_CNT (pathPort h.pair h.path)] s t ∧ t = { s with csr := t.csr, yk := t.yk }) ∧
  (∀ (s : State) (h : YokeHdr),
      s.authOk h = true → (s.csnTake h).2 = false → s.portUp (pathPort h.pair h.path) = true → 
      exec (.yokeHbReceive h) s = .next (s.frameIn h.pair h.path)) ∧
  (∀ (s : State) (h : YokeHdr),
      s.authOk h = false → s.portUp (pathPort h.pair h.path) = true → 
      ∃ t, exec (.yokeHbReceive h) s = .next t ∧ t.rd (YOK_PATH_CNT_AUTH_FAIL (2 * h.pair.val + h.path.val)) = min (s.rd (YOK_PATH_CNT_AUTH_FAIL (2 * h.pair.val + h.path.val)) + 1) 65535 ∧ t.bitOf (FLT_STS_CAUSE 89) 4 = true ∧
        RegsBut ([NPT_MAC_CNT (pathPort h.pair h.path), YOK_PATH_CNT (2 * h.pair.val + h.path.val)] ++ fltKeys 89 ++ recKeys) s t ∧ RecOnly s t) ∧
  (∀ (s : State) (h : YokeHdr) (f : YFrame) (e : YSent),
      s.shape → s.authOk h = true → (s.csnTake h).2 = true → s.pathState h.pair h.path ≠ 0 → s.still → s.yk.rsv = none → (s.pairAt h.pair).log = [f] → f.gen = h.akgen → f.fsn ≤ h.ack.toNat → f.ents = [e] → e.cls = 2 → e.req = none → e.ent ≠ .genEnd → s.portUp (pathPort h.pair h.path) = true → 
      ∃ t, exec (.yokeAckReceive h [] []) s = .next t ∧ (t.pairAt h.pair).log = [] ∧ t.rd (YOK_ACKED_FSN h.pair) = ((s.pairAt h.pair).txFsn - 1) % 2 ^ 48 ∧ (if h.path = 0 then (t.pairAt h.pair).csnA else (t.pairAt h.pair).csnB) = h.seq.toNat ∧ t.rd (NPT_MAC_CNT_RX_GOOD (pathPort h.pair h.path)) = min (s.rd (NPT_MAC_CNT_RX_GOOD (pathPort h.pair h.path)) + 1) (2 ^ 32 - 1) ∧
        t.dr = s.dr ∧ t.win = s.win ∧ t.fur = s.fur ∧ t.hp = s.hp ∧ t.nc = s.nc ∧ t.out = s.out) ∧
  (∀ (s : State) (h : YokeHdr) (f : YFrame) (e : YSent) (r : Req) (link ld tag : Nat) (line : BitVec 40) (d : List Line),
      s.shape → s.authOk h = true → (s.csnTake h).2 = true → s.pathState h.pair h.path ≠ 0 → s.alone r → r.phase = .twin 1 → r.src = .ld link ld tag → tag < 65536 → r.kind = .write → s.linkUp link = true → s.yk.rsv = none → (s.pairAt h.pair).log = [f] → f.gen = h.akgen → f.fsn ≤ h.ack.toNat → f.ents = [e] → e.cls = 1 → e.req = some r.id → e.ent = .full line d → s.cbOf line.toNat = none → s.portUp (pathPort h.pair h.path) = true → 
      ∃ t, exec (.yokeAckReceive h [] []) s = .next t ∧ (t.pairAt h.pair).log = [] ∧ t.still ∧ t.out = .ndr link ld tag (t.devLoad (link / 4)) :: s.out ∧
        t.dr = s.dr ∧ t.win = s.win ∧ t.fur = s.fur ∧ t.hp = s.hp ∧ t.nc = s.nc) ∧
  (∀ (s : State) (p : Fin 2) (f : YFrame) (fsn : BitVec 48),
      s.shape → (s.pairAt p).log = [f] → f.fsn = fsn.toNat → (s.pairAt p).keyed = true → s.usable p = [0] → s.pathOpen p 0 → 
      ∃ t, exec (.yokeRtoExpiry p fsn f.gen) s = .next t ∧ (t.pairAt p).log = [{ f with attempt := f.attempt + 1 }] ∧ t.rd YOK_CNT_RETX = min (s.rd YOK_CNT_RETX + 1) (2 ^ 32 - 1) ∧ t.out = .yokeData p 0 f.fsn f.gen (f.attempt + 1) (f.ents.map fun e => e.ent) (s.pairAt p).applied (s.pairAt p).rxGen :: s.out ∧
        RegsBut [YOK_CNT] s t ∧ t = { s with csr := t.csr, yk := t.yk, out := t.out }) ∧
  (∀ (s : State) (h : YokeHdr) (r : Fin 256) (cls : Fin 4) (role : Fin 2) (epoch : BitVec 24) (size : Nat),
      s.shape → s.authOk h = true → s.pathState h.pair h.path ≠ 0 → s.usable h.pair = [0] → s.pathOpen h.pair 0 → (s.pairAt h.pair).log = [] → h.gen = (s.pairAt h.pair).rxGen → h.seq.toNat = (s.pairAt h.pair).applied + 1 → (s.pairAt h.pair).held = [] → (s.pairAt h.pair).rxOp = none → (s.pairAt h.pair).rxIdx = 0 → (s.pairAt h.pair).seen = [] → (s.pairAt h.pair).errs = [] → s.yk.healIn = [] → s.yk.healDone = [] → s.still → s.rgnValid r = true → s.rgnClass r = cls → cls ≠ 0 → s.rgnSize r = size → s.portUp (pathPort h.pair h.path) = true → 
      ∃ t, exec (.yokeDataReceive h [.role r 0 cls role epoch size]) s = .next t ∧ (t.pairAt h.pair).applied = h.seq.toNat ∧ (t.pairAt h.pair).held = [] ∧ t.yk.twinSaid = (r.val, role.val, epoch.toNat) :: s.yk.twinSaid.filter (fun x => x.1 != r.val) ∧ (match t.out with | .yokeCtl a b op csn ack g pay :: rest => a == h.pair.val && b == 0 && op == 2 && csn == (s.pairAt h.pair).csnTxA + 1 && ack == (t.pairAt h.pair.val).applied && g == (t.pairAt h.pair.val).rxGen && pay == leBytes h.seq.toNat 6 ++ leBytes 0 10 && rest == s.out | _ => false) = true ∧
        t.dr = s.dr ∧ t.win = s.win ∧ t.fur = s.fur ∧ t.hp = s.hp ∧ t.nc = s.nc) ∧
  (∀ (s : State) (h : YokeHdr) (ents : List YokeEntry),
      s.shape → h.gen = (s.pairAt h.pair).rxGen → h.seq.toNat ≤ (s.pairAt h.pair).applied → s.usable h.pair = [0] → s.pathOpen h.pair 0 → (s.pairAt h.pair).errs = [] → s.portUp (pathPort h.pair h.path) = true → 
      ∃ t, exec (.yokeDataReceive h ents) s = .next t ∧ (t.pairAt h.pair).applied = (s.pairAt h.pair).applied ∧ (t.pairAt h.pair).held = (s.pairAt h.pair).held ∧ (match t.out with | .yokeCtl a b op csn ack g pay :: rest => a == h.pair.val && b == 0 && op == 2 && csn == (s.pairAt h.pair).csnTxA + 1 && ack == (t.pairAt h.pair.val).applied && g == (t.pairAt h.pair.val).rxGen && pay == leBytes (s.pairAt h.pair).applied 6 ++ leBytes 0 10 && rest == s.out | _ => false) = true ∧
        RegsBut [NPT_MAC_CNT (pathPort h.pair h.path)] s t ∧ t = { s with csr := t.csr, yk := t.yk, out := t.out }) ∧
  (∀ (s : State) (p : Fin 2),
      s.shape → s.naks p ≠ [] → s.usable p = [0] → s.pathOpen p 0 → (s.pairAt p).errs = [] → 
      ∃ t, exec (.yokeGapTimer p) s = .next t ∧ (match t.out with | .yokeCtl a b op csn ack g pay :: rest => a == p.val && b == 0 && op == 2 && csn == (s.pairAt p).csnTxA + 1 && ack == (t.pairAt p.val).applied && g == (t.pairAt p.val).rxGen && pay == leBytes (s.pairAt p).applied 6 ++ leBytes (s.naks p).length 2 ++ leBytes 0 8 ++ ((s.naks p).flatMap fun x => leBytes x.1 6 ++ leBytes x.2 2) && rest == s.out | _ => false) = true ∧
        t = { s with yk := t.yk, out := t.out }) ∧
  (∀ (s : State) (p path : Fin 2),
      s.shape → s.on YOK_CTL_ENABLE = true → s.pairsOn.contains p.val = true → (s.pairAt p).keyed = true → s.pathOpen p path → 
      ∃ t, exec (.yokeHeartbeat p path) s = .next t ∧ (match t.out with | .yokeCtl a b op csn ack g pay :: rest => a == p.val && b == path.val && op == 3 && csn == (if path = 0 then (s.pairAt p).csnTxA else (s.pairAt p).csnTxB) + 1 && ack == (t.pairAt p.val).applied && g == (t.pairAt p.val).rxGen && pay.isEmpty && rest == s.out | _ => false) = true ∧
        t = { s with yk := t.yk, out := t.out })

/-- Paths go down and rejoin, the twin is lost with its regions, handshakes exchange nonces and put keys in force, and a rollover starts a new one (R338, R339, R340, R343, R344, R345, R316) -/
def Obligations.YokePathsHandshakesAndTheTwinFollowTheirEvents : Prop :=
  (∀ (s : State) (p path : Fin 2),
      s.pathState p path ≠ 0 → s.pathState p (1 - path).val ≠ 0 → 
      ∃ t, exec (.pathDownTimer p path) s = .next t ∧ t.pathState p path = 0 ∧ t.rd (YOK_PATH_CNT_DOWN_EVT (2 * p.val + path.val)) = min (s.rd (YOK_PATH_CNT_DOWN_EVT (2 * p.val + path.val)) + 1) 65535 ∧ t.rd YOK_STS_TWIN = s.rd YOK_STS_TWIN ∧
        RecOnly s t ∧
        RegsBut ([YOK_PAIR p, YOK_PATH_CNT (2 * p.val + path.val), UNIT wYOK] ++ fltKeys 89 ++ recKeys) s t) ∧
  (∀ (s : State) (p path : Fin 2),
      s.pathState p path = 1 → s.pathState p (1 - path).val ≠ 0 → 
      ∃ t, exec (.pathProbationGap p path) s = .next t ∧ t.pathState p path = 0 ∧ t.rd (YOK_PATH_CNT_DOWN_EVT (2 * p.val + path.val)) = min (s.rd (YOK_PATH_CNT_DOWN_EVT (2 * p.val + path.val)) + 1) 65535 ∧
        RecOnly s t ∧
        RegsBut ([YOK_PAIR p, YOK_PATH_CNT (2 * p.val + path.val), UNIT wYOK] ++ fltKeys 89 ++ recKeys) s t) ∧
  (∀ (s : State) (p path : Fin 2),
      s.pathState p path = 1 → 
      ∃ t, exec (.pathRejoin p path) s = .next t ∧ t.pathState p path = 2 ∧
        RecOnly s t ∧
        RegsBut ([YOK_PAIR p, YOK_PATH_CNT (2 * p.val + path.val), UNIT wYOK] ++ fltKeys 89 ++ recKeys) s t) ∧
  (∀ (s : State) (p path : Fin 2),
      s.pathState p path ≠ 0 → s.pathState p (1 - path).val = 0 → s.pairsOn.contains p.val = true → s.still → s.rd YOK_STS_TWIN = 2 → ∀ r : Fin 256, s.rd (YOK_RGN_STATE r) ≠ 1 ∧ s.rd (YOK_RGN_STATE r) ≠ 2 ∧ s.rd (YOK_RGN_STATE r) ≠ 4 → 
      ∃ t, exec (.pathDownTimer p path) s = .next t ∧ t.pathState p path = 0 ∧ t.rd YOK_STS_TWIN = 3 ∧ t.rd YOK_CNT_LOST = min (s.rd YOK_CNT_LOST + 1) (2 ^ 32 - 1) ∧ t.bitOf (FLT_LIVE_PRESENT 89) 3 = true ∧
        t.dr = s.dr ∧ t.win = s.win ∧ t.fur = s.fur ∧ t.nc = s.nc) ∧
  (∀ (s : State) (p : Fin 2),
      s.still → (s.pairAt p).log ≠ [] → s.rd YOK_STS_TWIN = 2 → ∀ r : Fin 256, s.rd (YOK_RGN_STATE r) ≠ 1 ∧ s.rd (YOK_RGN_STATE r) ≠ 2 ∧ s.rd (YOK_RGN_STATE r) ≠ 4 → 
      ∃ t, exec (.yokeStallTimer p) s = .next t ∧ t.rd YOK_STS_TWIN = 3 ∧ t.rd YOK_CNT_LOST = min (s.rd YOK_CNT_LOST + 1) (2 ^ 32 - 1) ∧ t.bitOf (FLT_LIVE_PRESENT 89) 3 = true ∧
        t.dr = s.dr ∧ t.win = s.win ∧ t.fur = s.fur ∧ t.nc = s.nc ∧ t.yk = s.yk) ∧
  (∀ (s : State) (p : Fin 2) (r : Fin 256),
      s.still → (s.pairAt p).log ≠ [] → s.rd YOK_STS_TWIN = 2 → s.rd (YOK_RGN_STATE r) = 2 → s.unacked.any (fun e => e.region == r.val) = false → ∀ q : Fin 256, q ≠ r → s.rd (YOK_RGN_STATE q) = 0 → 
      ∃ t, exec (.yokeStallTimer p) s = .next t ∧ t.rd (YOK_RGN_STATE r) = (if s.on (YOK_RGN_ON_LOSS r) then 5 else 3) ∧ mget (fun _ => 0) t.yk.prior r.val = 2 ∧ t.rd YOK_STS_TWIN = 3 ∧ t.rd YOK_CNT_LOST = min (s.rd YOK_CNT_LOST + 1) (2 ^ 32 - 1) ∧ t.bitOf (FLT_LIVE_PRESENT 89) 3 = true ∧
        t.dr = s.dr ∧ t.win = s.win ∧ t.fur = s.fur ∧ t.nc = s.nc) ∧
  (∀ (s : State) (p path : Fin 2) (serial : BitVec 128) (nonce : BitVec 256) (gen : Bool) (pairs : Fin 4),
      s.shape → s.on YOK_CTL_ENABLE = true → s.pairsOn.contains p.val = true → s.initiator = false → serial.toNat = s.yk.serialTwin → pairs.val = s.pairsOn.length → s.pairKeyed = true → s.pathOpen p path → s.portUp (pathPort p path) = true → 
      ∃ t, exec (.yokeHelloReceive p path serial nonce gen pairs) s = .next t ∧ (t.pairAt p).hand = .rsp ∧ (t.pairAt p).handGen = gen ∧ (t.pairAt p).nonceI = nonce ∧ t.genLoaded p gen = true ∧ t.on (YOK_PAIR_HANDSHAKE p) = true ∧ t.fresh = s.fresh + 1 ∧ (match t.out with | .yokeCtl a b op _ _ _ pay :: rest => a == p.val && b == path.val && op == 0x21 && pay == s.hsPay ((t.pairAt p).nonceR) gen && rest == s.out | _ => false) = true ∧
        RegsBut [NPT_MAC_CNT (pathPort p path), CPH_CNT, CPH_PFSLOT, YOK_PAIR p] s t) ∧
  (∀ (s : State) (p path : Fin 2) (serial : BitVec 128) (nonce : BitVec 256) (gen : Bool) (pairs : Fin 4),
      s.shape → (s.pairAt p).hand = .hello → gen = (s.pairAt p).handGen → serial.toNat = s.yk.serialTwin → pairs.val = s.pairsOn.length → s.portUp (pathPort p path) = true → 
      ∃ t, exec (.yokeHelloRspReceive p path serial nonce gen pairs true) s = .next t ∧ (t.pairAt p).hand = .idle ∧ (t.pairAt p).keyed = true ∧ (t.pairAt p).txFsn = 1 ∧ t.on (YOK_PAIR_KEYGEN p) = gen ∧ t.on (YOK_PAIR_HANDSHAKE p) = false ∧ t.genLoaded p gen = true ∧ (t.pairAt p).nonceR = nonce ∧
        t.dr = s.dr ∧ t.win = s.win ∧ t.fur = s.fur ∧ t.hp = s.hp ∧ t.nc = s.nc) ∧
  (∀ (s : State) (p path : Fin 2) (gen : Bool),
      s.shape → (s.pairAt p).hand = .rsp → gen = (s.pairAt p).handGen → s.portUp (pathPort p path) = true → 
      ∃ t, exec (.yokeConfirmReceive p path true) s = .next t ∧ (t.pairAt p).hand = .idle ∧ (t.pairAt p).keyed = true ∧ (t.pairAt p).txFsn = 1 ∧ t.on (YOK_PAIR_KEYGEN p) = gen ∧ t.on (YOK_PAIR_HANDSHAKE p) = false ∧
        t.dr = s.dr ∧ t.win = s.win ∧ t.fur = s.fur ∧ t.hp = s.hp ∧ t.nc = s.nc) ∧
  (∀ (s : State) (p : Fin 2),
      s.on YOK_CTL_ENABLE = true → s.pairsOn.contains p.val = true → (s.pairAt p).hand = .hello → s.pathOpen p (s.hsPath p) → 
      exec (.yokeHelloRepeat p) s = .next ({ s with out := .yokeCtl p (s.hsPath p) 0x20 0 0 false (s.hsPay (s.pairAt p).nonceI (s.pairAt p).handGen) :: s.out })) ∧
  (∀ (s : State) (p path : Fin 2) (reason : Byte),
      s.shape → (s.pairAt p).hand ≠ .idle → reason ≠ 7 → s.rd YOK_STS_TWIN = 1 → s.on YOK_ERR_LAST_VALID = false → s.portUp (pathPort p path) = true → 
      ∃ t, exec (.yokeCloseReceive p path reason) s = .next t ∧ (t.pairAt p).hand = .idle ∧ t.on (YOK_PAIR_HANDSHAKE p) = false ∧ t.rd YOK_STS_TWIN = 3 ∧ t.rd YOK_ERR_LAST_CODE = reason.toNat % 128 ∧ t.bitOf (FLT_LIVE_PRESENT 89) 3 = true ∧
        t.dr = s.dr ∧ t.win = s.win ∧ t.fur = s.fur ∧ t.hp = s.hp ∧ t.nc = s.nc ∧ t.out = s.out) ∧
  (∀ (s : State) (p : Fin 2),
      s.shape → (s.pairAt p).keyed = true → (s.pairAt p).hand = .idle → (s.pairAt p).oldTx = false → s.initiator = false → 
      ∃ t, exec (.keygenRollover p) s = .next t ∧ (t.pairAt p).handGen = !(s.on (YOK_PAIR_KEYGEN p)) ∧ t.on (YOK_PAIR_HANDSHAKE p) = true ∧
        RegsBut [YOK_PAIR p] s t ∧ t = { s with csr := t.csr, yk := t.yk }) ∧
  (∀ (s : State) (a : Agent) (on : Bool),
      s.reaches a YOK_CTL = true → ∀ r : Fin 256, s.rd (YOK_RGN_STATE r) = 0 ∨ s.rd (YOK_RGN_STATE r) = 3 → 
      exec (.yokePairsWrite a on) s = .next (((s.dropShadow a).wr YOK_CTL_PAIRS (if on then 1 else 0)))) ∧
  (∀ (s : State) (a : Agent) (on : Bool) (r : Fin 256),
      s.reaches a YOK_CTL = true → s.rd (YOK_RGN_STATE r) ≠ 0 → s.rd (YOK_RGN_STATE r) ≠ 3 → 
      exec (.yokePairsWrite a on) s = .next (((s.dropShadow a).ignored a YOK_CTL (if on then 2 ^ 30 else 0))))

/-- Heals are taken, answered and fail; SPLIT regions resolve their roles; relay messages are delivered; the resilver starts and stops (R321, R325, R341, R348, R349, R350, R355, R454, R457, R503) -/
def Obligations.HealsRolesTheRelayAndTheResilverActAsRuled : Prop :=
  (∀ (s : State) (h : YokeHdr) (num : BitVec 32) (page g0 g1 : Bool) (line : BitVec 40) (n0 n1 : BitVec 48),
      s.shape → s.authOk h = true → (s.csnTake h).2 = true → s.pathState h.pair h.path ≠ 0 → (s.pairAt h.pair).log = [] → s.yk.healIn = [] → h.pair = 0 → g0 ≠ (s.pairAt 0).rxGen → s.portUp (pathPort h.pair h.path) = true → 
      ∃ t, exec (.healReqReceive h num page line g0 g1 n0 n1) s = .next t ∧ t.yk.healIn = [{ num := num.toNat, line := line.toNat, page := page, need := [(g0, n0.toNat), (g1, n1.toNat)] }] ∧
        RegsBut [NPT_MAC_CNT (pathPort h.pair h.path)] s t ∧ t = { s with csr := t.csr, yk := t.yk }) ∧
  (∀ (s : State) (h : YokeHdr) (num : BitVec 32) (page g0 g1 : Bool) (line : BitVec 40) (n0 n1 : BitVec 48),
      s.shape → s.authOk h = true → (s.csnTake h).2 = true → s.pathState h.pair h.path ≠ 0 → (s.pairAt h.pair).log = [] → s.yk.healIn = [] → s.rgnOfLine line.toNat = none → s.healReady { num := num.toNat, line := line.toNat, page := page, need := [(g0, n0.toNat), (g1, n1.toNat)] } = true → s.usable (s.pairOf line.toNat) = [0] → s.pathOpen (s.pairOf line.toNat) 0 → s.pairOf line.toNat = h.pair → s.portUp (pathPort h.pair h.path) = true → 
      ∃ t, exec (.healReqReceive h num page line g0 g1 n0 n1) s = .next t ∧ t.yk.healIn = [] ∧ (match t.out with | .yokeCtl a b op csn ack g pay :: rest => a == h.pair.val && b == 0 && op == 5 && csn == (s.pairAt h.pair).csnTxA + 1 && ack == (t.pairAt h.pair.val).applied && g == (t.pairAt h.pair.val).rxGen && pay == leBytes num.toNat 4 ++ [1, 0, 0, 0] && rest == s.out | _ => false) = true ∧
        RegsBut [NPT_MAC_CNT (pathPort h.pair h.path)] s t ∧ t = { s with csr := t.csr, yk := t.yk, out := t.out }) ∧
  (∀ (s : State) (h : YokeHdr) (x : Heal) (f : Nat) (data : List Line) (fr : BitVec 31),
      s.shape → s.authOk h = true → (s.csnTake h).2 = true → s.pathState h.pair h.path ≠ 0 → (s.pairAt h.pair).log = [] → s.still → s.yk.heals = [x] → s.yk.healQ = [] → s.yk.healDone = [] → x.why = .command → x.num < 2 ^ 32 → s.fab.cb = [] → (s.tierOf (pageOf x.line)).frame = some f → (s.tierOf (pageOf x.line)).state = .poisoned → s.portUp (pathPort h.pair h.path) = true → 
      ∃ t, exec (.healRspReceive h (BitVec.ofNat 32 x.num) 0 data fr) s = .next t ∧ (t.tierOf (pageOf x.line)).state = .dramOnly ∧ (t.tierOf (pageOf x.line)).poison = false ∧ (t.tierOf (pageOf x.line)).frame = some f ∧ t.yk.heals = [] ∧ t.yk.healEnded = s.yk.healEnded ++ [(x.num, 0)] ∧ t.rd YOK_HEAL_CNT_HEALED = min (s.rd YOK_HEAL_CNT_HEALED + 1) (2 ^ 32 - 1) ∧
        t.fur = s.fur ∧ t.hp = s.hp ∧ t.out = s.out) ∧
  (∀ (s : State) (x : Heal),
      s.yk.heals = [x] → s.yk.healQ = [] → x.why = .command → x.num < 2 ^ 32 → x.win ≠ 53 → 
      ∃ t, exec (.healTimeout (BitVec.ofNat 32 x.num)) s = .next t ∧ t.rd YOK_HEAL_CNT_FAILED = min (s.rd YOK_HEAL_CNT_FAILED + 1) (2 ^ 32 - 1) ∧ t.bitOf (FLT_STS_CAUSE 89) 6 = true ∧ t.yk.heals = [] ∧ t.yk.healEnded = s.yk.healEnded ++ [(x.num, 0xFF)] ∧
        t = { s with csr := t.csr, rcd := t.rcd, yk := t.yk }) ∧
  (∀ (s : State) (r : Fin 256) (epoch : Nat),
      s.yk.twinSaid = [(r.val, 1, epoch)] → epoch < 2 ^ 24 → s.rd (YOK_RGN_STATE r) = 3 → s.twinUp = true → s.rd (YOK_RGN_ROLE r) = 0 → s.rgnMarks r = [] → s.yk.owesRsv.contains r.val = false → s.rd (YOK_RGN_EPOCH r) < epoch → 
      ∃ t, exec (.roleResolve r []) s = .next t ∧ t.rd (YOK_RGN_ROLE r) = 1 ∧ t.rd (YOK_RGN_EPOCH r) = epoch ∧ t.rd (YOK_RGN_STATE r) = 4 ∧
        t.dr = s.dr ∧ t.win = s.win ∧ t.fur = s.fur ∧ t.hp = s.hp ∧ t.fab = s.fab ∧ t.out = s.out) ∧
  (∀ (s : State) (r : Fin 256) (epoch : Nat),
      s.yk.twinSaid = [(r.val, 1, epoch)] → epoch < 2 ^ 24 → s.rd (YOK_RGN_STATE r) = 3 → s.twinUp = true → s.rd (YOK_RGN_ROLE r) = 0 → s.rgnMarks r = [] → s.yk.owesRsv.contains r.val = false → epoch ≤ s.rd (YOK_RGN_EPOCH r) → 
      ∃ t, exec (.roleResolve r []) s = .next t ∧ t.rd (YOK_RGN_ROLE r) = 0 ∧ t.rd (YOK_RGN_EPOCH r) = s.rd (YOK_RGN_EPOCH r) ∧ t.rd (YOK_RGN_STATE r) = 2 ∧
        t.dr = s.dr ∧ t.win = s.win ∧ t.fur = s.fur ∧ t.hp = s.hp ∧ t.fab = s.fab ∧ t.out = s.out) ∧
  (∀ (s : State) (r : Fin 256) (epoch : Nat),
      s.yk.twinSaid = [(r.val, 0, epoch)] → epoch < 2 ^ 24 → s.rd (YOK_RGN_STATE r) = 3 → s.twinUp = true → s.rd (YOK_RGN_ROLE r) = 1 → s.rgnMarks r = [] → s.yk.owesRsv.contains r.val = false → s.rd (YOK_RGN_EPOCH r) ≤ epoch → 
      ∃ t, exec (.roleResolve r []) s = .next t ∧ t.rd (YOK_RGN_ROLE r) = 1 ∧ t.rd (YOK_RGN_EPOCH r) = epoch ∧ t.rd (YOK_RGN_STATE r) = 4 ∧
        t.dr = s.dr ∧ t.win = s.win ∧ t.fur = s.fur ∧ t.hp = s.hp ∧ t.fab = s.fab ∧ t.out = s.out) ∧
  (∀ (s : State) (r : Fin 256) (epoch : Nat),
      s.yk.twinSaid = [(r.val, 0, epoch)] → epoch < 2 ^ 24 → s.rd (YOK_RGN_STATE r) = 3 → s.twinUp = true → s.rd (YOK_RGN_ROLE r) = 1 → s.rgnMarks r = [] → s.yk.owesRsv.contains r.val = false → epoch < s.rd (YOK_RGN_EPOCH r) → 
      ∃ t, exec (.roleResolve r []) s = .next t ∧ t.rd (YOK_RGN_ROLE r) = 0 ∧ t.rd (YOK_RGN_STATE r) = 2 ∧
        t.dr = s.dr ∧ t.win = s.win ∧ t.fur = s.fur ∧ t.hp = s.hp ∧ t.fab = s.fab ∧ t.out = s.out) ∧
  (∀ (s : State) (r : Fin 256) (epoch : Nat),
      s.yk.twinSaid = [(r.val, 0, epoch)] → epoch < 2 ^ 24 → s.rd (YOK_RGN_STATE r) = 3 → s.twinUp = true → s.rd (YOK_RGN_ROLE r) = 0 → s.rgnMarks r = [] → s.yk.owesRsv.contains r.val = false → epoch < s.rd (YOK_RGN_EPOCH r) → 
      ∃ t, exec (.roleResolve r []) s = .next t ∧ t.rd (YOK_RGN_ROLE r) = 0 ∧ t.rd (YOK_RGN_STATE r) = 2 ∧ t.bitOf (FLT_STS_CAUSE 89) 7 = true ∧
        t.dr = s.dr ∧ t.win = s.win ∧ t.fur = s.fur ∧ t.hp = s.hp ∧ t.fab = s.fab ∧ t.out = s.out) ∧
  (∀ (s : State) (r : Req) (link ld tag : Nat) (env : FabEnv),
      s.alone r → s.mayMerge r link ld tag → r.phase = .lag → env.voted = none → 
      ∃ t, exec (.lagLimitResume r.id env) s = .next t ∧ s.merged t r link ld tag ∧
        t.dr = s.dr ∧ t.fur = s.fur ∧ t.hp = s.hp) ∧
  (∀ (s : State) (g : BitVec 20) (r : Nat),
      s.rgnOfGib (g.toNat / 16) = some r → s.rgnClass r = 2 → s.rd (YOK_RGN_STATE r) = 1 ∨ s.rd (YOK_RGN_STATE r) = 2 ∨ s.rd (YOK_RGN_STATE r) = 4 ∨ s.rd (YOK_RGN_STATE r) = 5 → s.yk.lagOnly.contains g.toNat = true → (s.unacked.any fun e => e.cls == 1 && (entLine e.ent).any fun l => granuleOf l == g.toNat) = false → 
      ∃ t, exec (.granuleClearTimer g) s = .next t ∧ t.yk.marks = s.yk.marks.filter (fun x => x != g.toNat) ∧ t.rd YOK_STS_MARKED = t.yk.marks.length % 2 ^ 21 ∧
        RegsBut [YOK_STS] s t ∧ t = { s with csr := t.csr, yk := t.yk }) ∧
  (∀ (s : State) (a : Agent) (v : BitVec 30) (r : Fin 256),
      s.reaches a YOK_RSV_CTL = true → s.on YOK_RSV_CTL_BUSY = false → getBits v.toNat 16 8 = r → s.rd (YOK_RGN_ROLE r) = 0 → s.rd (YOK_RGN_STATE r) = 1 → 
      ∃ t, exec (.resilverGo a v) s = .next t ∧ (t.yk.rsv.map fun x => (x.region, x.resync, x.stop)) = some (r.val, false, false) ∧ t.on YOK_RSV_CTL_BUSY = true ∧ t.on YOK_STS_RSV_BUSY = true ∧ t.on YOK_RSV_CTL_RESYNC = false ∧ t.rd YOK_RSV_CTL_REGION = r ∧ t.rd YOK_RSV_CTL_RATE_PCT = getBits v.toNat 8 8 ∧
        RegsBut [YOK_RSV_CTL, YOK_STS, YOK_RSV_POS] s t ∧ t = { s with csr := t.csr, yk := t.yk, shadow := s.shadow.filter (fun h => h.a != a) }) ∧
  (∀ (s : State) (a : Agent) (v : BitVec 30),
      s.reaches a YOK_RSV_CTL = true → s.on YOK_RSV_CTL_BUSY = true → 
      exec (.resilverGo a v) s = .next (((s.dropShadow a).ignored a YOK_RSV_CTL (2 ^ 31 + v.toNat)))) ∧
  (∀ (s : State) (a : Agent) (x : Resilver),
      s.reaches a YOK_RSV_CTL = true → s.yk.rsv = some x → 
      exec (.resilverStop a) s = .next ({ s with yk := { s.yk with rsv := some { x with stop := true } }, shadow := s.shadow.filter (fun h => h.a != a) })) ∧
  (∀ (s : State) (h : YokeHdr) (c : Fin 64) (hdr : Word64) (msg : List Byte),
      s.shape → s.authOk h = true → (s.csnTake h).2 = true → s.pathState h.pair h.path ≠ 0 → (s.pairAt h.pair).log = [] → 56 ≤ c.val → s.yk.relaySeen.contains (c.val, hdr.toNat) = false → s.mbxFull c false = false → hdr.getLsbD 60 = s.chanSecure c → s.pathOpen h.pair h.path → s.portUp (pathPort h.pair h.path) = true → 
      ∃ t, exec (.yokeMbxReceive h c hdr msg) s = .next t ∧ t.mbxFull c false = true ∧ t.mbxSeq c false = (s.mbxSeq c false + 1) % 2 ^ 32 ∧ t.rd (MBX_IN_MSG c 0) = ofBytes (msg.take 8) ∧ (c.val, hdr.toNat) ∈ t.yk.relaySeen ∧ (match t.out with | .yokeCtl a b op csn ack g pay :: rest => a == h.pair.val && b == h.path.val && op == 7 && csn == (if h.path = 0 then (s.pairAt h.pair).csnTxA else (s.pairAt h.pair).csnTxB) + 1 && ack == (t.pairAt h.pair.val).applied && g == (t.pairAt h.pair.val).rxGen && pay == leBytes h.seq.toNat 8 && rest == s.out | _ => false) = true ∧
        t.dr = s.dr ∧ t.win = s.win ∧ t.fur = s.fur ∧ t.hp = s.hp ∧ t.nc = s.nc) ∧
  (∀ (s : State) (h : YokeHdr) (c : Nat) (csn : BitVec 48),
      s.shape → s.authOk h = true → (s.csnTake h).2 = true → s.pathState h.pair h.path ≠ 0 → (s.pairAt h.pair).log = [] → c < 64 → s.yk.relay = [(c, [(h.path.val, csn.toNat)])] → s.portUp (pathPort h.pair h.path) = true → 
      ∃ t, exec (.yokeMbxAckReceive h csn) s = .next t ∧ t.yk.relay = [] ∧ t.mbxFull c true = false ∧
        RegsBut [NPT_MAC_CNT (pathPort h.pair h.path), MBX_CH_STS c] s t ∧ t = { s with csr := t.csr, yk := t.yk }) ∧
  (∀ (s : State) (c : Fin 64) (l : List (Nat × Nat)) (p : Nat),
      s.shape → s.yk.relay = [(c.val, l)] → s.relayPair = p → p < 2 → (s.pairAt p).keyed = true → s.usable p = [0] → s.pathOpen p 0 → 
      ∃ t, exec (.yokeMbxRepeat c) s = .next t ∧ t.yk.relay = [(c.val, l ++ [(0, (s.pairAt p).csnTxA + 1)])] ∧ (match t.out with | .yokeCtl a b op csn ack g pay :: rest => a == p && b == 0 && op == 6 && csn == (s.pairAt p).csnTxA + 1 && ack == (t.pairAt p).applied && g == (t.pairAt p).rxGen && pay == [BitVec.ofNat 8 c.val, 0, 0, 0, 0, 0, 0, 0] ++ leBytes (s.rd (fHdr c true)) 8 ++ s.mbxMsg c true && rest == s.out | _ => false) = true ∧
        t = { s with yk := t.yk, out := t.out })

/-- Port modes, links up and down, failed trainings, priority pauses, address requests and discarded frames act on their port (R359, R387, R388, R389, R390) -/
def Obligations.NetworkPortsTrainGoDownPauseAndDiscard : Prop :=
  (∀ (s : State) (a : Agent) (n : Fin 8) (v : BitVec 32),
      s.reaches a (NPT_CTL n) = true → s.on (NPT_CTL_ENABLE n) = false → s.yokePort n = false → getBits v.toNat 28 2 ≠ 3 → s.rd (NPT_STS_SUB_UP n) = 0 → 
      ∃ t, exec (.netPortModeWrite a n v) s = .next t ∧ t.rd (NPT_CTL_MODE n) = getBits v.toNat 28 2 ∧ t.rd (NPT_CTL_MEDIA n) = getBits v.toNat 26 2 ∧ t.rd (NPT_CTL_LANE_REV n) = getBits v.toNat 25 1 ∧ t.rd (NPT_CTL_TX_POL n) = getBits v.toNat 20 4 ∧ t.rd (NPT_CTL_RX_POL n) = getBits v.toNat 16 4 ∧ t.rd (NPT_CTL_ENABLE n) = getBits v.toNat 31 1 ∧ t.rd (NPT_CTL_RETRAIN n) = s.rd (NPT_CTL_RETRAIN n) ∧ t.rd (NPT_STS_STATE n) = getBits v.toNat 31 1 ∧ t.bitOf (FLT_LIVE_PRESENT (wNPT n)) 2 = v.getLsbD 31 ∧
        RegsBut ([NPT_CTL n, NPT_STS n] ++ fltKeys (wNPT n) ++ recKeys) s t ∧ t = { s with csr := t.csr, rcd := t.rcd, shadow := s.shadow.filter (fun h => h.a != a) }) ∧
  (∀ (s : State) (a : Agent) (n : Fin 8) (v : BitVec 32),
      s.reaches a (NPT_CTL n) = true → s.on (NPT_CTL_ENABLE n) = true → getBits v.toNat 28 2 ≠ 3 → getBits v.toNat 28 2 ≠ s.rd (NPT_CTL_MODE n) → getBits v.toNat 30 2 = 2 → s.bitOf (FLT_LIVE_PRESENT (wNPT n)) 2 = true → s.rcd.queue.length < 128 → 
      ∃ t, exec (.netPortModeWrite a n v) s = .next t ∧ t.rd (NPT_CTL_MODE n) = s.rd (NPT_CTL_MODE n) ∧ t.rcd.queue = s.rcd.queue ++ [badRec s a true false 5 (NPT_CTL n) (v.setWidth 64)] ∧
        RegsBut ([NPT_CTL n, NPT_STS n] ++ fltKeys (wNPT n) ++ recKeys) s t ∧ t = { s with csr := t.csr, rcd := t.rcd, shadow := s.shadow.filter (fun h => h.a != a) }) ∧
  (∀ (s : State) (a : Agent) (n : Fin 8),
      s.reaches a (NPT_CTL n) = true → s.on (NPT_CTL_ENABLE n) = true → s.rd (NPT_STS_SUB_UP n) = 1 → s.rd (NPT_CTL_MODE n) = 0 → s.on (NPT_CTL_ENABLE n) = true → (n.val < 4 ∨ s.on YOK_CTL_ENABLE = false) → 
      ∃ t, exec (.netPortRetrain a n) s = .next t ∧ t.rd (NPT_STS_SUB_UP n) = 0 ∧ t.rd (NPT_STS_FEC_LOCK n) = 0 ∧ t.rd (NPT_STS_STATE n) = 1 ∧ t.rd (NPT_LCNT_DOWN_EVT n) = min (s.rd (NPT_LCNT_DOWN_EVT n) + 1) 65535 ∧ t.bitOf (FLT_LIVE_PRESENT (wNPT n)) 2 = true ∧
        RegsBut ([NPT_STS n, NPT_LCNT n] ++ fltKeys (wNPT n) ++ recKeys) s t ∧ t = { s with csr := t.csr, rcd := t.rcd, shadow := s.shadow.filter (fun h => h.a != a) }) ∧
  (∀ (s : State) (n : Fin 8) (lanes : BitVec 4),
      s.on (NPT_CTL_ENABLE n) = true → s.rd (NPT_CTL_MODE n) = 0 → 
      ∃ t, exec (.netLinkUp n 0 lanes) s = .next t ∧ t.bitOf (NPT_STS_SUB_UP n) 0 = true ∧ t.rd (NPT_STS_FEC_LOCK n) = lanes.toNat ∧ t.rd (NPT_STS_STATE n) = 2 ∧ t.bitOf (FLT_LIVE_PRESENT (wNPT n)) 2 = false ∧
        RegsBut [NPT_STS n, FLT_LIVE (wNPT n)] s t ∧ t = { s with csr := t.csr }) ∧
  (∀ (s : State) (n : Fin 8) (k : Fin 4) (lanes : BitVec 4),
      s.subPorts n ≤ k.val ∨ s.on (NPT_CTL_ENABLE n) = false → 
      exec (.netLinkUp n k lanes) s = .next (s)) ∧
  (∀ (s : State) (n : Fin 8),
      s.on (NPT_CTL_ENABLE n) = true → s.rd (NPT_STS_SUB_UP n) = 1 → s.rd (NPT_CTL_MODE n) = 0 → s.on (NPT_CTL_ENABLE n) = true → (n.val < 4 ∨ s.on YOK_CTL_ENABLE = false) → 
      ∃ t, exec (.netLinkDown n 0) s = .next t ∧ t.rd (NPT_STS_SUB_UP n) = 0 ∧ t.rd (NPT_STS_FEC_LOCK n) = 0 ∧ t.rd (NPT_STS_STATE n) = 1 ∧ t.rd (NPT_LCNT_DOWN_EVT n) = min (s.rd (NPT_LCNT_DOWN_EVT n) + 1) 65535 ∧ t.bitOf (FLT_LIVE_PRESENT (wNPT n)) 2 = true ∧
        RegsBut ([NPT_STS n, NPT_LCNT n] ++ fltKeys (wNPT n) ++ recKeys) s t ∧ RecOnly s t) ∧
  (∀ (s : State) (n : Fin 8) (k : Fin 4),
      s.bitOf (NPT_STS_SUB_UP n) k = false → 
      exec (.netLinkDown n k) s = .next (s)) ∧
  (∀ (s : State) (n : Fin 8) (k : Fin 4),
      s.on (NPT_CTL_ENABLE n) = true → k.val < s.subPorts n → s.bitOf (NPT_STS_SUB_UP n) k = false → 
      ∃ t, exec (.netTrainFail n k) s = .next t ∧ t.rd (NPT_LCNT_TRAIN_FAIL n) = min (s.rd (NPT_LCNT_TRAIN_FAIL n) + 1) 65535 ∧
        RegsBut [NPT_LCNT n] s t ∧ CsrOnly s t) ∧
  (∀ (s : State) (n : Fin 8) (pause : BitVec 8),
      s.rd (NPT_STS_SUB_UP n) ≠ 0 → 
      ∃ t, exec (.pfcFrameReceive n pause 0) s = .next t ∧ t.rd (NPT_MAC_CNT_RX_GOOD n) = min (s.rd (NPT_MAC_CNT_RX_GOOD n) + 1) (2 ^ 32 - 1) ∧ t.rd (NPT_PFC_CNT_RECEIVED n) = min (s.rd (NPT_PFC_CNT_RECEIVED n) + 1) (2 ^ 32 - 1) ∧ (∀ p : Fin 8, (n.val, p.val) ∈ t.net.paused ↔ (pause.getLsbD p = true ∨ (n.val, p.val) ∈ s.net.paused)) ∧ t.net.held = s.net.held ∧
        RegsBut [NPT_MAC_CNT n, NPT_PFC_CNT n] s t ∧ t = { s with csr := t.csr, net := t.net }) ∧
  (∀ (s : State) (n : Fin 8) (p : Fin 8) (o : Out),
      s.bitOf (NPT_STS_SUB_UP n) 0 = true → s.rd (NPT_CTL_MODE n) = 0 → s.net.paused = [(n.val, p.val)] → s.net.held = [(n.val, p.val, o)] → 
      ∃ t, exec (.pfcFrameReceive n 0 (BitVec.ofNat 8 (2 ^ p.val))) s = .next t ∧ t.net.paused = [] ∧ t.net.held = [] ∧ t.out = o.onSub 0 :: s.out ∧ t.rd (NPT_MAC_CNT_RX_GOOD n) = min (s.rd (NPT_MAC_CNT_RX_GOOD n) + 1) (2 ^ 32 - 1) ∧
        RegsBut [NPT_MAC_CNT n, NPT_PFC_CNT n] s t ∧ t = { s with csr := t.csr, net := t.net, out := t.out }) ∧
  (∀ (s : State) (n : Fin 8) (sub : Fin 4),
      s.bitOf (NPT_STS_SUB_UP n) sub = true → s.on DRL_CTL_ENABLE = true → s.drillPort n = true → 
      ∃ t, exec (.addressResolutionRx n sub 0) s = .next t ∧ t.out = .neigh n sub 0 :: s.out ∧ t.rd (NPT_MAC_CNT_RX_GOOD n) = min (s.rd (NPT_MAC_CNT_RX_GOOD n) + 1) (2 ^ 32 - 1) ∧
        RegsBut [NPT_MAC_CNT n] s t ∧ t = { s with csr := t.csr, out := t.out }) ∧
  (∀ (s : State) (n : Fin 8) (sub : Fin 4) (vlan : BitVec 12),
      s.bitOf (NPT_STS_SUB_UP n) sub = true → s.drillPort n = false → 
      ∃ t, exec (.addressResolutionRx n sub vlan) s = .next t ∧ t.rd (NPT_MAC_CNT_RX_GOOD n) = min (s.rd (NPT_MAC_CNT_RX_GOOD n) + 1) (2 ^ 32 - 1) ∧
        RegsBut [NPT_MAC_CNT n] s t ∧ CsrOnly s t) ∧
  (∀ (s : State) (n : Fin 8),
      
      ∃ t, exec (.macFrameDiscard n .fcs) s = .next t ∧ t.rd (NPT_MAC_CNT_FCS_ERR n) = min (s.rd (NPT_MAC_CNT_FCS_ERR n) + 1) 65535 ∧ t.bitOf (FLT_STS_CAUSE (wNPT n)) 4 = true ∧
        RegsBut ([NPT_MAC_CNT n] ++ fltKeys (wNPT n) ++ recKeys) s t ∧ RecOnly s t) ∧
  (∀ (s : State) (n : Fin 8),
      
      ∃ t, exec (.macFrameDiscard n .length) s = .next t ∧ t.rd (NPT_MAC_CNT_LEN_ERR n) = min (s.rd (NPT_MAC_CNT_LEN_ERR n) + 1) 65535 ∧ t.bitOf (FLT_STS_CAUSE (wNPT n)) 4 = true ∧
        RegsBut ([NPT_MAC_CNT n] ++ fltKeys (wNPT n) ++ recKeys) s t ∧ RecOnly s t) ∧
  (∀ (s : State) (n : Fin 8),
      
      ∃ t, exec (.macFrameDiscard n .notDrill) s = .next t ∧ t.rd (NPT_MAC_CNT_RX_GOOD n) = min (s.rd (NPT_MAC_CNT_RX_GOOD n) + 1) (2 ^ 32 - 1) ∧
        RegsBut [NPT_MAC_CNT n] s t ∧ CsrOnly s t) ∧
  (∀ (s : State) (n : Fin 8),
      
      ∃ t, exec (.fecUncorrectableCodeword n) s = .next t ∧ t.rd (NPT_FEC_CNT_UNCORRECTED n) = min (s.rd (NPT_FEC_CNT_UNCORRECTED n) + 1) (2 ^ 32 - 1) ∧ t.bitOf (FLT_STS_CAUSE (wNPT n)) 3 = true ∧
        RegsBut ([NPT_FEC_CNT n] ++ fltKeys (wNPT n) ++ recKeys) s t ∧ RecOnly s t)

/-- MBX_SEND fills a slot, a collision is counted, MBX_ACK empties it by its SEQ, hardware senders wait for EMPTY, host OUT messages leave (R448, R451, R452, R453, R454, R455, R457, R459) -/
def Obligations.MailboxSlotsAreSentToAcknowledgedAndDelivered : Prop :=
  (∀ (s : State) (a : Agent) (c : Fin 64),
      s.reaches a MBX_SEND = true → s.maySend a c false = true → s.mbxFull c false = false → 
      ∃ t, exec (.mbxSend a false c) s = .next t ∧ (∀ k : Fin 8, t.rd (MBX_IN_MSG c k) = s.rd ((MBX_STG_BYTES k).bank a) ∧ t.rd ((MBX_STG_BYTES k).bank a) = 0) ∧ t.rd (fHdr c false) = mbxHdr (if a == .sb then 3 else 0) (s.chanSecure c) (if a == .sb then 0 else agentNum a) 0 0 + (s.mbxSeq c false + 1) % 2 ^ 32 ∧ t.mbxFull c false = true ∧ t.rd (MBX_OP_STS_OP.bank a) = 1 ∧ t.rd (MBX_OP_STS_RESULT.bank a) = 0 ∧ t.rd (MBX_OP_STS_CHANNEL.bank a) = c ∧ (c.val, s.cs.admin.testBit c) ∈ t.mb.arrived ∧
        RegsBut ([MBX_CH_STS c, MBX_IN_HDR c, MBX_CNT] ++ (List.range 8).map (fun k => (MBX_IN_MSG c k).addr) ++ (List.range 8).map (fun k => ((MBX_STG_BYTES k).bank a).addr) ++ [(MBX_SEND_GO.bank a).addr, (MBX_OP_STS_OP.bank a).addr]) s t ∧ t = { s with csr := t.csr, mb := t.mb, shadow := s.shadow.filter (fun h => h.a != a) }) ∧
  (∀ (s : State) (a : Agent) (c : Fin 64),
      s.reaches a MBX_SEND = true → s.maySend a c false = true → s.mbxFull c false = true → 
      ∃ t, exec (.mbxSend a false c) s = .next t ∧ (∀ k : Fin 8, t.rd (MBX_IN_MSG c k) = s.rd ((MBX_STG_BYTES k).bank a) ∧ t.rd ((MBX_STG_BYTES k).bank a) = 0) ∧ t.rd (fHdr c false) = mbxHdr (if a == .sb then 3 else 0) (s.chanSecure c) (if a == .sb then 0 else agentNum a) 0 0 + (s.mbxSeq c false + 1) % 2 ^ 32 ∧ t.mbxFull c false = true ∧ t.rd (MBX_OP_STS_OP.bank a) = 1 ∧ t.rd (MBX_OP_STS_RESULT.bank a) = 1 ∧ t.rd (MBX_OP_STS_CHANNEL.bank a) = c ∧ t.on (fColl c false) = true ∧ t.rd (MBX_CH_STS_COLL_CNT c) = min (s.rd (MBX_CH_STS_COLL_CNT c) + 1) 65535 ∧ t.rd MBX_CNT_COLLIDED = min (s.rd MBX_CNT_COLLIDED + 1) 65535 ∧ t.bitOf (FLT_STS_CAUSE 94) 2 = true ∧
        RegsBut ([MBX_CH_STS c, MBX_IN_HDR c, MBX_CNT] ++ (List.range 8).map (fun k => (MBX_IN_MSG c k).addr) ++ (List.range 8).map (fun k => ((MBX_STG_BYTES k).bank a).addr) ++ [(MBX_SEND_GO.bank a).addr, (MBX_OP_STS_OP.bank a).addr] ++ fltKeys 94 ++ recKeys) s t ∧ t = { s with csr := t.csr, rcd := t.rcd, mb := t.mb, shadow := s.shadow.filter (fun h => h.a != a) }) ∧
  (∀ (s : State) (a : Agent) (dir : Bool) (c : Fin 64),
      s.reaches a MBX_SEND = true → s.maySend a c dir = false → s.rcd.queue.length < 128 → 
      ∃ t, exec (.mbxSend a dir c) s = .next t ∧ t.rd (MBX_OP_STS_OP.bank a) = 1 ∧ t.rd (MBX_OP_STS_RESULT.bank a) = 3 ∧ t.rd (MBX_OP_STS_CHANNEL.bank a) = c ∧ t.rcd.queue = s.rcd.queue ++ [badRec s a true false 5 MBX_SEND (BitVec.ofNat 64 (2 ^ 31 + (if dir then 2 ^ 30 else 0) + c.val))] ∧
        RegsBut ([(MBX_SEND_GO.bank a).addr, (MBX_OP_STS_OP.bank a).addr] ++ fltKeys 94 ++ recKeys) s t ∧ t = { s with csr := t.csr, rcd := t.rcd, shadow := s.shadow.filter (fun h => h.a != a) }) ∧
  (∀ (s : State) (a : Agent) (c : Fin 64) (seq : BitVec 32),
      s.reaches a MBX_ACK = true → s.mayAck a c false = true → s.mbxFull c false = true → s.mbxSeq c false = seq.toNat → 
      ∃ t, exec (.mbxAck a false c seq) s = .next t ∧ t.mbxFull c false = false ∧ t.mb.told = s.mb.told.filter (fun x => x != c.val) ∧ t.mb.arrived = s.mb.arrived.filter (fun x => x.1 != c.val) ∧ t.rd (MBX_OP_STS_OP.bank a) = 2 ∧ t.rd (MBX_OP_STS_RESULT.bank a) = 0 ∧ t.rd (MBX_OP_STS_CHANNEL.bank a) = c ∧
        RegsBut [MBX_CH_STS c, (MBX_ACK_GO.bank a).addr, (MBX_OP_STS_OP.bank a).addr] s t ∧ t = { s with csr := t.csr, mb := t.mb, shadow := s.shadow.filter (fun h => h.a != a) }) ∧
  (∀ (s : State) (a : Agent) (c : Fin 64) (seq : BitVec 32),
      s.reaches a MBX_ACK = true → s.mayAck a c false = true → s.mbxFull c false = true → s.mbxSeq c false ≠ seq.toNat → 
      ∃ t, exec (.mbxAck a false c seq) s = .next t ∧ t.mbxFull c false = true ∧ t.mb = s.mb ∧ t.rd (MBX_OP_STS_OP.bank a) = 2 ∧ t.rd (MBX_OP_STS_RESULT.bank a) = 2 ∧ t.rd (MBX_OP_STS_CHANNEL.bank a) = c ∧
        RegsBut [MBX_CH_STS c, (MBX_ACK_GO.bank a).addr, (MBX_OP_STS_OP.bank a).addr] s t ∧ t = { s with csr := t.csr, mb := t.mb, shadow := s.shadow.filter (fun h => h.a != a) }) ∧
  (∀ (s : State) (a : Agent) (c : Fin 64) (seq : BitVec 32),
      s.reaches a MBX_ACK = true → s.mayAck a c false = true → s.mbxFull c false = false → 
      ∃ t, exec (.mbxAck a false c seq) s = .next t ∧ t.mbxFull c false = false ∧ t.mb = s.mb ∧ t.rd (MBX_OP_STS_OP.bank a) = 2 ∧ t.rd (MBX_OP_STS_RESULT.bank a) = 5 ∧ t.rd (MBX_OP_STS_CHANNEL.bank a) = c ∧
        RegsBut [MBX_CH_STS c, (MBX_ACK_GO.bank a).addr, (MBX_OP_STS_OP.bank a).addr] s t ∧ t = { s with csr := t.csr, mb := t.mb, shadow := s.shadow.filter (fun h => h.a != a) }) ∧
  (∀ (s : State) (c : Fin 64) (seq : BitVec 32),
      s.powered 94 = true → 32 ≤ c.val → c.val < 48 → s.mbxFull c true = true → s.mbxSeq c true = seq.toNat → 
      ∃ t, exec (.mbxAck .sb true c seq) s = .next t ∧ t.mbxFull c true = false ∧ t.rd (MBX_OP_STS_RESULT.bank .sb) = 0 ∧
        RegsBut [MBX_CH_STS c, (MBX_ACK_GO.bank .sb).addr, (MBX_OP_STS_OP.bank .sb).addr] s t ∧ t.mb = s.mb) ∧
  (∀ (s : State) (a : Agent) (dir : Bool) (c : Fin 64) (seq : BitVec 32),
      s.reaches a MBX_ACK = true → s.mayAck a c dir = false → s.rcd.queue.length < 128 → 
      ∃ t, exec (.mbxAck a dir c seq) s = .next t ∧ t.rd (MBX_OP_STS_OP.bank a) = 2 ∧ t.rd (MBX_OP_STS_RESULT.bank a) = 3 ∧ t.rd (MBX_OP_STS_CHANNEL.bank a) = c ∧ t.rcd.queue = s.rcd.queue ++ [badRec s a true true 5 MBX_ACK (BitVec.ofNat 64 (2 ^ 63 + (if dir then 2 ^ 62 else 0) + c.val * 2 ^ 32 + seq.toNat))] ∧
        RegsBut ([(MBX_ACK_GO.bank a).addr, (MBX_OP_STS_OP.bank a).addr] ++ fltKeys 94 ++ recKeys) s t ∧ t = { s with csr := t.csr, rcd := t.rcd, shadow := s.shadow.filter (fun h => h.a != a) }) ∧
  (∀ (s : State) (link ld : Fin 16) (op : BitVec 16) (pay : List Byte) (n : Fin 64) (c : Nat),
      s.powered 94 = true → (s.ldOf (link.val * 16 + ld.val)).mbxQueued = false → (s.ldOf (link.val * 16 + ld.val)).mbxStarted = false → s.locked = true → s.ldIndex link ld = some n → s.on (HPT_LDMBX_VALID n) = true → s.rd (HPT_LDMBX_CHANNEL n) = c → s.mbxFull c false = false → 
      ∃ t, exec (.hwSenderPresent (.cxl link ld op pay)) s = .next t ∧ t.mbxFull c false = true ∧ t.rd (fHdr c false) = mbxHdr 1 (s.on (TIN_LDB_WORLD n)) n 0 0 + (s.mbxSeq c false + 1) % 2 ^ 32 ∧ t.rd (MBX_IN_MSG c 0) = op.toNat + 2 ^ 48 * min 4096 pay.length ∧ (t.ldOf (link.val * 16 + ld.val)).mbxStarted = true ∧ (t.ldOf (link.val * 16 + ld.val)).mbxQueued = false ∧ rdBytes t.mb.bulk (bulkBase c false) (min 4096 pay.length) = pay.take 4096 ∧
        t.fab = s.fab ∧ t.dr = s.dr ∧ t.win = s.win ∧ t.out = s.out) ∧
  (∀ (s : State) (link ld : Fin 16) (op : BitVec 16) (pay : List Byte),
      s.powered 94 = true → (s.ldOf (link.val * 16 + ld.val)).mbxQueued = false → (s.ldOf (link.val * 16 + ld.val)).mbxStarted = false → s.locked = true → s.ldIndex link ld = none → 
      exec (.hwSenderPresent (.cxl link ld op pay)) s = .next ({ s with out := .ldMbx link ld op.toNat 3 [] :: s.out })) ∧
  (∀ (s : State) (c : Fin 64) (n : Fin 64),
      c.val < 32 → s.mbxFull c true = true → getBits (s.rd (fHdr c true)) 45 3 = 1 → getBits (s.rd (fHdr c true)) 33 12 = n → s.on (TIN_LDB_VALID n) = true → (s.ldOf (s.rd (TIN_LDB_LINK n) * 16 + s.rd (TIN_LDB_LD n))).mbxStarted = true → (s.ldOf (s.rd (TIN_LDB_LINK n) * 16 + s.rd (TIN_LDB_LD n))).mbxDiscard = false → 
      ∃ t, exec (.outSlotDeliver c) s = .next t ∧ t.out = .ldMbx (s.rd (TIN_LDB_LINK n)) (s.rd (TIN_LDB_LD n)) (ofBytes ((s.mbxMsg c true).take 2)) (ofBytes (((s.mbxMsg c true).drop 4).take 2)) (s.bulkOf c true) :: s.out ∧ t.mbxFull c true = false ∧ (t.ldOf (s.rd (TIN_LDB_LINK n) * 16 + s.rd (TIN_LDB_LD n))).mbxStarted = false ∧
        RegsBut [MBX_CH_STS c] s t ∧ t = { s with csr := t.csr, hp := t.hp, out := t.out }) ∧
  (∀ (s : State) (c : Fin 64) (n : Fin 64),
      c.val < 32 → s.mbxFull c true = true → getBits (s.rd (fHdr c true)) 45 3 = 1 → getBits (s.rd (fHdr c true)) 33 12 = n → s.on (TIN_LDB_VALID n) = false → 
      ∃ t, exec (.outSlotDeliver c) s = .next t ∧ t.mbxFull c true = false ∧ t.rd MBX_CNT_DISCARD = min (s.rd MBX_CNT_DISCARD + 1) 65535 ∧ t.bitOf (FLT_STS_CAUSE 94) 3 = true ∧
        RegsBut ([MBX_CH_STS c, MBX_CNT] ++ fltKeys 94 ++ recKeys) s t ∧ RecOnly s t) ∧
  (∀ (s : State),
      
      ∃ t, exec .mbxPollTimer s = .next t ∧ (∀ c : Fin 64, c.val ∈ t.mb.told ↔ (c.val ∈ s.mb.told ∨ (s.on (MBX_CH_CTL_IRQ_EN c) = false ∧ s.mbxFull c false = true ∧ s.coreState (s.rd (MBX_CH_CTL_CORE c)) = 2))) ∧
        t = { s with mb := t.mb })

/-- A semaphore is acquired by a read, released by its holder or by force; cores sleep, wake, are fenced with their routes and unfenced (R444, R445, R446, R461, R463, R604, R605) -/
def Obligations.SemaphoresAndCoresFollowTheirCommands : Prop :=
  (∀ (s : State) (a : Agent) (k : Fin 32),
      s.reaches a (MBX_SEM k) = true → s.semHeld k = false → 
      ∃ t, exec (.semRead a k) s = .next t ∧ t.semHeld k = true ∧ t.rd (MBX_SEM_OWNER k) = agentNum a ∧ t.bitOf MBX_SEM_HELD_HELD k = true ∧ t.out = .ctrl a (BitVec.ofNat 64 (2 ^ 31 + 2 ^ 30 + agentNum a)) :: s.out ∧
        RegsBut [MBX_SEM k, MBX_SEM_HELD] s t ∧ t = { s with csr := t.csr, out := t.out, shadow := s.shadow.filter (fun h => h.a != a) }) ∧
  (∀ (s : State) (a : Agent) (k : Fin 32),
      s.reaches a (MBX_SEM k) = true → s.semHeld k = true → 
      exec (.semRead a k) s = .next ({ s with out := .ctrl a (BitVec.ofNat 64 (2 ^ 30 + s.rd (MBX_SEM_OWNER k))) :: s.out, shadow := s.shadow.filter (fun h => h.a != a) })) ∧
  (∀ (s : State) (a : Agent) (k : Fin 32),
      s.reaches a (MBX_SEM k) = true → s.semHeld k = true → s.rd (MBX_SEM_OWNER k) = agentNum a → 
      ∃ t, exec (.semRelease a k) s = .next t ∧ t.semHeld k = false ∧ t.rd (MBX_SEM_OWNER k) = 0 ∧ t.bitOf MBX_SEM_HELD_HELD k = false ∧
        RegsBut [MBX_SEM k, MBX_SEM_HELD] s t ∧ t = { s with csr := t.csr, shadow := s.shadow.filter (fun h => h.a != a) }) ∧
  (∀ (s : State) (a : Agent) (k : Fin 32),
      s.reaches a (MBX_SEM k) = true → s.semHeld k = false ∨ s.rd (MBX_SEM_OWNER k) ≠ agentNum a → 
      ∃ t, exec (.semRelease a k) s = .next t ∧ t.bitOf (FLT_STS_CAUSE 94) 4 = true ∧ t.bitOf (FLT_STS_CAUSE 94) 0 = true ∧
        RegsBut (fltKeys 94 ++ recKeys) s t ∧ t = { s with csr := t.csr, rcd := t.rcd, shadow := s.shadow.filter (fun h => h.a != a) }) ∧
  (∀ (s : State) (a : Agent) (k : Fin 32),
      s.reaches a MBX_SEM_FORCE = true → a ≠ .sb → s.agentSecure a = true → 
      ∃ t, exec (.semForce a k) s = .next t ∧ t.semHeld k = false ∧ t.rd (MBX_SEM_OWNER k) = 0 ∧ t.bitOf MBX_SEM_HELD_HELD k = false ∧
        RegsBut [MBX_SEM k, MBX_SEM_HELD, MBX_SEM_FORCE] s t ∧ t = { s with csr := t.csr, shadow := s.shadow.filter (fun h => h.a != a) }) ∧
  (∀ (s : State) (a : Agent) (k : Fin 32),
      s.reaches a MBX_SEM_FORCE = true → a = .sb ∨ s.agentSecure a = false → 
      exec (.semForce a k) s = .next (((s.dropShadow a).ignored a MBX_SEM_FORCE (2 ^ 31 + k.val)))) ∧
  (∀ (s : State) (n : Fin 4),
      s.coreState n = 2 → s.on (HDL_CORE_CTL_SLEEP_EN n) = true → 
      ∃ t, exec (.coreSleep n) s = .next t ∧ t.coreState n = 3 ∧ t.rd (PWR_PD_STATE (8 + n)) = 1 ∧
        RegsBut [HDL_CORE_STS n, PWR_PD (8 + n)] s t ∧ CsrOnly s t) ∧
  (∀ (s : State) (n : Fin 4),
      s.coreState n ≠ 2 ∨ s.on (HDL_CORE_CTL_SLEEP_EN n) = false → 
      exec (.coreSleep n) s = .next (s)) ∧
  (∀ (s : State) (n : Fin 4),
      s.coreState n = 3 → n.val ∈ s.mb.wakes → 
      ∃ t, exec (.coreWake n) s = .next t ∧ t.coreState n = 2 ∧ t.rd (PWR_PD_STATE (8 + n)) = 2 ∧ t.rd (HDL_CORE_STS_WAKES n) = min (s.rd (HDL_CORE_STS_WAKES n) + 1) 65535 ∧ n.val ∉ t.mb.wakes ∧
        RegsBut [HDL_CORE_STS n, PWR_PD (8 + n)] s t ∧ t = { s with csr := t.csr, mb := t.mb }) ∧
  (∀ (s : State) (a : Agent) (n m : Fin 4),
      s.reaches a (HDL_CORE_CTL n) = true → s.coreState n ≠ 4 → s.standIn n = some m.val → s.holds wHDL = false → 
      ∃ t, exec (.coreFence a n) s = .next t ∧ t.coreState n = 4 ∧ t.rd (HDL_CORE_STS_CAUSE n) = 1 ∧ (∀ i : Fin 100, t.rd (HDL_IRQ_ROUTE_CORE i) = if s.rd (HDL_IRQ_ROUTE_CORE i) = n then m.val else s.rd (HDL_IRQ_ROUTE_CORE i)) ∧ (∀ c : Fin 64, t.rd (MBX_CH_CTL_CORE c) = if s.rd (MBX_CH_CTL_CORE c) = n then m.val else s.rd (MBX_CH_CTL_CORE c)) ∧ t.on (UNIT_DEGRADED wHDL) = true ∧
        RegsBut ([HDL_CORE_STS n, UNIT wHDL] ++ (List.range 100).map (fun i => HDL_IRQ_ROUTE i) ++ (List.range 64).map (fun c => MBX_CH_CTL c) ++ [] ++ fltKeys 93 ++ recKeys) s t ∧ t = { s with csr := t.csr, rcd := t.rcd, mb := t.mb, shadow := s.shadow.filter (fun h => h.a != a) }) ∧
  (∀ (s : State) (a : Agent) (n : Fin 4),
      s.reaches a (HDL_CORE_CTL n) = true → s.lastCore n = true → s.rcd.queue.length < 127 → 
      ∃ t, exec (.coreFence a n) s = .next t ∧ t.rcd.queue = s.rcd.queue ++ [⟨0x02, 93, s.stampTime, [4, 1] ++ leBytes n 2 ++ [2, 0]⟩, badRec s a true false 5 (HDL_CORE_CTL n) (BitVec.ofNat 64 (2 ^ 31))] ∧
        RegsBut (fltKeys 93 ++ recKeys) s t ∧ t = { s with csr := t.csr, rcd := t.rcd, shadow := s.shadow.filter (fun h => h.a != a) }) ∧
  (∀ (s : State) (n m : Fin 4),
      s.coreState n ≠ 0 → s.coreState n ≠ 4 → s.standIn n = some m.val → s.holds wHDL = false → 
      ∃ t, exec (.coreSelfCheckFail n) s = .next t ∧ t.coreState n = 4 ∧ t.rd (HDL_CORE_STS_CAUSE n) = 2 ∧ t.bitOf (FLT_STS_CAUSE 93) 2 = true ∧ t.bitOf (FLT_STS_CAUSE 93) 1 = true ∧ t.on (UNIT_DEGRADED wHDL) = true ∧
        RegsBut ([HDL_CORE_STS n, UNIT wHDL] ++ (List.range 100).map (fun i => HDL_IRQ_ROUTE i) ++ (List.range 64).map (fun c => MBX_CH_CTL c) ++ [] ++ fltKeys 93 ++ recKeys) s t ∧ t = { s with csr := t.csr, rcd := t.rcd, mb := t.mb }) ∧
  (∀ (s : State) (a : Agent) (n : Fin 4),
      s.reaches a (HDL_CORE_CTL n) = true → s.coreState n = 4 → 
      ∃ t, exec (.coreUnfence a n) s = .next t ∧ t.coreState n = 1 ∧ t.on (UNIT_DEGRADED wHDL) = ((List.range 4).any fun m => m != n.val && s.coreState m == 4) ∧
        RegsBut ([HDL_CORE_STS n, UNIT wHDL] ++ fltKeys 93 ++ recKeys) s t ∧ t = { s with csr := t.csr, rcd := t.rcd, mb := t.mb, shadow := s.shadow.filter (fun h => h.a != a) }) ∧
  (∀ (s : State) (a : Agent) (n : Fin 4),
      s.reaches a (HDL_CORE_CTL n) = true → s.coreState n ≠ 4 → 
      exec (.coreUnfence a n) s = .next (((s.dropShadow a).ignored a (HDL_CORE_CTL n) (2 ^ 30))))

/-- ALLOC charges a buffer to its owner, ADDREF and RELEASE count references, the last release frees or withdraws, and the pool is enabled and sized (R409, R410, R411, R412, R413, R415) -/
def Obligations.TheGranaryAllocatesCountsReferencesAndReleases : Prop :=
  (∀ (s : State) (o : Fin 64) (b : Nat) (l : List Nat),
      s.grnMay o = true → s.grn.stack = b :: l → 
      ∃ t, exec (.granaryAlloc o) s = .next t ∧ t.grn.stack = l ∧ t.grn.held = s.grn.held ++ [⟨b, o, 1, false⟩] ∧ t.grn.next = s.grn.next ∧ t.grnHeld o = s.grnHeld o + 1 ∧ t.rd (GRN_OWN_HELD o) = t.grnHeld o % 2 ^ (GRN_OWN_HELD o).width ∧ t.rd GRN_STS_FREE = t.grnFree % 2 ^ GRN_STS_FREE.width ∧
        RegsBut [GRN_OWN o, GRN_STS, GRN_UNMET] s t ∧ t = { s with csr := t.csr, grn := t.grn }) ∧
  (∀ (s : State) (o : Fin 64),
      s.grnMay o = false → 
      ∃ t, exec (.granaryAlloc o) s = .next t ∧ t.rd GRN_CNT_ALLOC_FAIL = min (s.rd GRN_CNT_ALLOC_FAIL + 1) (2 ^ GRN_CNT_ALLOC_FAIL.width - 1) ∧ t.bitOf (FLT_STS_CAUSE 91) 5 = true ∧
        RegsBut ([GRN_CNT] ++ fltKeys 91 ++ recKeys) s t ∧ RecOnly s t) ∧
  (∀ (s : State) (b : BitVec 20) (x : GBuf),
      s.grn.held.find? (fun y => y.idx == b.toNat) = some x → x.refs ≠ 255 → 
      exec (.granaryAddref b) s = .next ({ s with grn := { s.grn with held := s.grn.held.map fun y => if y.idx == b.toNat then { y with refs := y.refs + 1 } else y } })) ∧
  (∀ (s : State) (b : BitVec 20) (x : GBuf),
      s.grn.held.find? (fun y => y.idx == b.toNat) = some x → x.refs = 255 → s.on GRN_ERR_LAST_VALID = false → x.owner < 64 → 
      ∃ t, exec (.granaryAddref b) s = .next t ∧ t.rd GRN_ERR_LAST_KIND = 4 ∧ t.rd GRN_ERR_LAST_OWNER = x.owner ∧ t.rd GRN_ERR_LAST_BUFFER = b.toNat ∧ t.on GRN_ERR_LAST_VALID = true ∧ t.rd GRN_CNT_REF_ERR = min (s.rd GRN_CNT_REF_ERR + 1) (2 ^ GRN_CNT_REF_ERR.width - 1) ∧ t.bitOf (FLT_STS_CAUSE 91) 4 = true ∧
        RegsBut ([GRN_CNT, GRN_ERR_LAST] ++ fltKeys 91 ++ recKeys) s t ∧ RecOnly s t) ∧
  (∀ (s : State) (b : BitVec 20),
      s.grn.held.find? (fun y => y.idx == b.toNat) = none → s.on GRN_ERR_LAST_VALID = false → 
      ∃ t, exec (.granaryAddref b) s = .next t ∧ t.rd GRN_ERR_LAST_KIND = 4 ∧ t.rd GRN_ERR_LAST_BUFFER = b.toNat ∧ t.rd GRN_CNT_REF_ERR = min (s.rd GRN_CNT_REF_ERR + 1) (2 ^ GRN_CNT_REF_ERR.width - 1) ∧ t.bitOf (FLT_STS_CAUSE 91) 4 = true ∧
        RegsBut ([GRN_CNT, GRN_ERR_LAST] ++ fltKeys 91 ++ recKeys) s t ∧ RecOnly s t) ∧
  (∀ (s : State) (b : BitVec 20) (x : GBuf),
      s.grn.held.find? (fun y => y.idx == b.toNat) = some x → 1 < x.refs → 
      exec (.granaryRelease b) s = .next ({ s with grn := { s.grn with held := s.grn.held.map fun y => if y.idx == b.toNat then { y with refs := y.refs - 1 } else y } })) ∧
  (∀ (s : State) (b : BitVec 20) (x : GBuf),
      s.grn.held.find? (fun y => y.idx == b.toNat) = some x → x.refs ≤ 1 → x.bad = false → 
      ∃ t, exec (.granaryRelease b) s = .next t ∧ t.grn.stack = b.toNat :: s.grn.stack ∧ t.grn.held = s.grn.held.filter (fun y => y.idx != b.toNat) ∧ t.rd (GRN_OWN_HELD (x.owner)) = t.grnHeld (x.owner) % 2 ^ (GRN_OWN_HELD (x.owner)).width ∧ t.rd GRN_STS_FREE = t.grnFree % 2 ^ GRN_STS_FREE.width ∧
        RegsBut [GRN_OWN x.owner, GRN_STS, GRN_UNMET] s t ∧ t = { s with csr := t.csr, grn := t.grn }) ∧
  (∀ (s : State) (b : BitVec 20) (x : GBuf),
      s.grn.held.find? (fun y => y.idx == b.toNat) = some x → x.refs ≤ 1 → x.bad = true → 
      ∃ t, exec (.granaryRelease b) s = .next t ∧ t.grn.held = s.grn.held.filter (fun y => y.idx != b.toNat) ∧ t.grn.withdrawn = s.grn.withdrawn ++ [b.toNat] ∧ t.grn.stack = s.grn.stack.filter (fun y => y != b.toNat) ∧ t.rd GRN_CNT_WITHDRAWN = min (s.rd GRN_CNT_WITHDRAWN + 1) (2 ^ GRN_CNT_WITHDRAWN.width - 1) ∧ t.bitOf (FLT_STS_CAUSE 91) 2 = true ∧ t.bitOf (FLT_STS_CAUSE 91) 1 = true ∧ t.on (UNIT_DEGRADED 91) = true ∧
        RegsBut ([GRN_OWN x.owner, GRN_STS, GRN_UNMET, GRN_CNT, GRN_ERR_LAST, UNIT 91] ++ fltKeys 91 ++ recKeys) s t ∧ t = { s with csr := t.csr, rcd := t.rcd, grn := t.grn }) ∧
  (∀ (s : State) (b : BitVec 20),
      s.grn.held.find? (fun y => y.idx == b.toNat) = none → s.on GRN_ERR_LAST_VALID = false → 
      ∃ t, exec (.granaryRelease b) s = .next t ∧ t.rd GRN_ERR_LAST_KIND = 3 ∧ t.rd GRN_ERR_LAST_BUFFER = b.toNat ∧ t.rd GRN_CNT_REF_ERR = min (s.rd GRN_CNT_REF_ERR + 1) (2 ^ GRN_CNT_REF_ERR.width - 1) ∧ t.bitOf (FLT_STS_CAUSE 91) 4 = true ∧
        RegsBut ([GRN_CNT, GRN_ERR_LAST] ++ fltKeys 91 ++ recKeys) s t ∧ RecOnly s t) ∧
  (∀ (s : State) (a : Agent),
      s.reaches a GRN_CTL = true → s.on GRN_CTL_ENABLE = false → 
      ∃ t, exec (.granaryEnable a true) s = .next t ∧ t.on GRN_CTL_ENABLE = true ∧ t.on GRN_STS_READY = false ∧ t.grn = { s.grn with building := true } ∧
        RegsBut [GRN_CTL, GRN_STS] s t ∧ t = { s with csr := t.csr, grn := t.grn, shadow := s.shadow.filter (fun h => h.a != a) }) ∧
  (∀ (s : State) (a : Agent),
      s.reaches a GRN_CTL = true → 
      ∃ t, exec (.granaryEnable a false) s = .next t ∧ t.on GRN_CTL_ENABLE = false ∧ t.on GRN_STS_READY = false ∧ t.grn = { s.grn with building := false } ∧
        RegsBut [GRN_CTL, GRN_STS] s t ∧ t = { s with csr := t.csr, grn := t.grn, shadow := s.shadow.filter (fun h => h.a != a) }) ∧
  (∀ (s : State),
      s.grn.building = true → 
      ∃ t, exec .granaryReady s = .next t ∧ t.grn = { s.grn with building := false, stack := [], next := 0, held := [] } ∧ t.on GRN_STS_READY = true ∧ (∀ o : Fin 64, t.rd (GRN_OWN_HELD o) = 0) ∧ t.rd GRN_STS_FREE = t.grnFree % 2 ^ GRN_STS_FREE.width ∧
        RegsBut ([GRN_STS, GRN_UNMET] ++ (List.range 64).map (fun o => GRN_OWN o)) s t ∧ t = { s with csr := t.csr, grn := t.grn }) ∧
  (∀ (s : State),
      s.grn.building = false → 
      exec .granaryReady s = .next (s)) ∧
  (∀ (s : State) (a : Agent) (v : BitVec 32),
      s.reaches a GRN_CFG = true → s.on GRN_CTL_ENABLE = false → ∀ r : Fin 256, s.rgnValid r = false ∧ s.rgnReleasing r = false → 
      ∃ t, exec (.granaryCountWrite a v) s = .next t ∧ t.rd GRN_CFG_COUNT_KI = getBits v.toNat 0 11 ∧ t.rd GRN_CFG_YOKE_OWNER = getBits v.toNat 24 6 ∧ t.grnCount = max 16 (min 1024 (getBits v.toNat 0 11)) * 1024 ∧
        RegsBut [GRN_CFG, GRN_STS] s t ∧ t = { s with csr := t.csr, shadow := s.shadow.filter (fun h => h.a != a) }) ∧
  (∀ (s : State) (a : Agent) (v : BitVec 32),
      s.reaches a GRN_CFG = true → getBits v.toNat 0 11 ≠ s.rd GRN_CFG_COUNT_KI → s.on GRN_CTL_ENABLE = true → s.rcd.queue.length < 128 → 
      ∃ t, exec (.granaryCountWrite a v) s = .next t ∧ t.rd GRN_CFG_COUNT_KI = s.rd GRN_CFG_COUNT_KI ∧ t.rd GRN_CFG_YOKE_OWNER = getBits v.toNat 24 6 ∧ t.rcd.queue = s.rcd.queue ++ [badRec s a true false 5 GRN_CFG (v.setWidth 64)] ∧
        RegsBut ([GRN_CFG] ++ fltKeys 91 ++ recKeys) s t ∧ t = { s with csr := t.csr, rcd := t.rcd, shadow := s.shadow.filter (fun h => h.a != a) }) ∧
  (∀ (s : State) (a : Agent) (o : Fin 64) (m : BitVec 21),
      s.reaches a (GRN_OWN o) = true → ((List.range 64).map fun x => if x == o.val then 0 else s.rd (GRN_OWN_MIN x)).sum + m.toNat ≤ s.grnCount → 
      ∃ t, exec (.granaryMinWrite a o m) s = .next t ∧ t.rd (GRN_OWN_MIN o) = m.toNat ∧ t.rd (GRN_OWN_HELD o) = s.grnHeld o % 2 ^ (GRN_OWN_HELD o).width ∧
        RegsBut [GRN_OWN o, GRN_STS, GRN_UNMET] s t ∧ t = { s with csr := t.csr, shadow := s.shadow.filter (fun h => h.a != a) }) ∧
  (∀ (s : State) (a : Agent) (o : Fin 64) (m : BitVec 21),
      s.reaches a (GRN_OWN o) = true → s.grnCount < ((List.range 64).map fun x => if x == o.val then 0 else s.rd (GRN_OWN_MIN x)).sum + m.toNat → 
      exec (.granaryMinWrite a o m) s = .next (((s.dropShadow a).ignored a (GRN_OWN o) m.toNat)))

/-- The next request of a connection is checked, takes a buffer, is presented and completes; duplicates, gaps and requests out of order are handled as ruled (R362, R363, R371, R372, R373, R374, R375, R376, R398, R407) -/
def Obligations.DrillRequestsAreCheckedPresentedAndCompleted : Prop :=
  (∀ (s : State) (h : DrlHdr) (data : List Byte) (dpa len b line rg : Nat),
      s.drlOk h 2 → s.drlCalm h.conn.toNat → h.final = false → (s.connAt h.conn.toNat).c + 1 = h.seq.toNat → (s.connAt h.conn.toNat).next = h.seq.toNat → (s.connAt h.conn.toNat).done = [] → (s.connAt h.conn.toNat).reqs = [] → h.seq.toNat + 1 < 2 ^ 47 → s.ackHeld h.conn.toNat → s.still → s.fab.alt = [] → s.fab.cb = [] → s.fab.ops = [] → s.fab.hold = false → s.hv.armed = true → s.on HRV_STS_ARMED = true → s.bufFor h.conn.toNat b → dpa < 2 ^ 46 → 1 ≤ data.length → data.length ≤ (s.connAt h.conn.toNat).maxpl → dpa / 64 = line → (dpa + data.length - 1) / 64 = line → len = data.length → s.cgAdmits (s.connAt h.conn.toNat).group line rg true → s.rgnKeyed rg = true → s.rgnClass rg = 0 → (s.altWay line).isSome = true → 
      ∃ t, exec (.drlWrite h (BitVec.ofNat 128 (dpa + len * 2 ^ 64)) data) s = .next t ∧ ((t.cbOf line).map fun l => (l.data, l.mask, l.region, l.tine)) = some (mergeLine 0 (sliceLine dpa data line).2 (sliceLine dpa data line).1, (sliceLine dpa data line).1, rg, s.homeTine (bucketOf line)) ∧ t.still ∧ t.fab.ops = [] ∧ (t.connAt h.conn.toNat) = { (s.connAt h.conn.toNat) with c := h.seq.toNat, next := h.seq.toNat + 1, ackWait := true } ∧ t.grn.held = s.grn.held ∧ t.grn.stack = s.grn.stack ∧ t.rd DRL_RX_CNT_PACKETS = min (s.rd DRL_RX_CNT_PACKETS + 1) (2 ^ 32 - 1) ∧
        t.dr = s.dr ∧ t.fur = { s.fur with rds := t.fur.rds } ∧ t.hp = s.hp ∧ t.yk = { s.yk with heals := t.yk.heals } ∧ t.out = s.out ∧
        (∀ k, k ≠ h.conn.toNat → t.connAt k = s.connAt k)) ∧
  (∀ (s : State) (h : DrlHdr) (b line rg : Nat),
      s.drlOk h 2 → s.drlCalm h.conn.toNat → h.final = false → (s.connAt h.conn.toNat).c + 1 = h.seq.toNat → (s.connAt h.conn.toNat).next = h.seq.toNat → (s.connAt h.conn.toNat).done = [] → (s.connAt h.conn.toNat).reqs = [] → h.seq.toNat + 1 < 2 ^ 47 → s.still → s.fab.alt = [] → s.fab.cb = [] → s.fab.ops = [] → s.fab.hold = false → s.hv.armed = true → s.on HRV_STS_ARMED = true → s.bufFor h.conn.toNat b → line < 2 ^ 40 → h.off = 0 → s.cgAdmits (s.connAt h.conn.toNat).group line rg false → s.rgnKeyed rg = true → (s.altWay line).isSome = true → s.on TIN_RUNAHEAD_ENABLE = false → s.ncOn (bankOfLine line) = false → s.nc.length = 16 → (s.ncOf (bankOfLine line)).miss = [] → s.on (NCH_CTL_PF_EN (bankOfLine line)) = false → 
      ∃ t, exec (.drlRead h (BitVec.ofNat 128 (line * 64 + 64 * 2 ^ 64))) s = .next t ∧ t.fab.act = [{ id := s.fab.nextId + 1, src := .conn h.conn.toNat s.fab.nextId, kind := .read, line := line, region := rg, tenant := s.rd (TIN_RGN_ATTR_TENANT rg), tine := s.homeTine (bucketOf line), phase := .entry, fill := true }] ∧ t.fab.ops = [{ id := s.fab.nextId, left := 1, group := (s.connAt h.conn.toNat).group, buf := some b, hold := 0 }] ∧ (t.connAt h.conn.toNat) = { (s.connAt h.conn.toNat) with next := h.seq.toNat + 1, reqs := [(⟨h.seq.toNat, .read, false, h.off.toNat, BitVec.ofNat 128 (line * 64 + 64 * 2 ^ 64), [], .run s.fab.nextId, none, false⟩ : DReq)] } ∧ t.rd DRL_RX_CNT_PACKETS = min (s.rd DRL_RX_CNT_PACKETS + 1) (2 ^ 32 - 1) ∧
        t.dr = s.dr ∧ t.fur = s.fur ∧ t.hp = s.hp ∧ t.yk = s.yk ∧ t.out = s.out ∧ t.win = s.win ∧
        (∀ k, k ≠ h.conn.toNat → t.connAt k = s.connAt k)) ∧
  (∀ (s : State) (h : DrlHdr) (x y : Word64) (b line rg : Nat),
      s.drlOk h 2 → s.drlCalm h.conn.toNat → h.final = false → (s.connAt h.conn.toNat).c + 1 = h.seq.toNat → (s.connAt h.conn.toNat).next = h.seq.toNat → (s.connAt h.conn.toNat).done = [] → (s.connAt h.conn.toNat).reqs = [] → h.seq.toNat + 1 < 2 ^ 47 → s.still → s.fab.alt = [] → s.fab.cb = [] → s.fab.ops = [] → s.fab.hold = false → s.hv.armed = true → s.on HRV_STS_ARMED = true → s.bufFor h.conn.toNat b → line < 2 ^ 40 → h.off = 0 → s.cgAdmits (s.connAt h.conn.toNat).group line rg true → s.rgnKeyed rg = true → s.rgnClass rg = 0 → (s.altWay line).isSome = true → s.on TIN_RUNAHEAD_ENABLE = false → s.ncOn (bankOfLine line) = false → s.nc.length = 16 → (s.ncOf (bankOfLine line)).miss = [] → s.on (NCH_CTL_PF_EN (bankOfLine line)) = false → 
      ∃ t, exec (.drlAtomic h (BitVec.ofNat 128 (line * 64 + 8 + 1 * 2 ^ 64)) x y) s = .next t ∧ t.fab.act.map (fun r => (r.id, r.src, r.kind, r.line, r.region, r.phase)) = [(s.fab.nextId + 1, .conn h.conn.toNat s.fab.nextId, .atomic .swap 1 x y, line, rg, .entry)] ∧ t.fab.ops = [{ id := s.fab.nextId, left := 1, group := (s.connAt h.conn.toNat).group, buf := some b, hold := 0 }] ∧ (t.connAt h.conn.toNat) = { (s.connAt h.conn.toNat) with next := h.seq.toNat + 1, reqs := [(⟨h.seq.toNat, .atomic, false, h.off.toNat, BitVec.ofNat 128 (line * 64 + 8 + 1 * 2 ^ 64), leBytes x.toNat 8 ++ leBytes y.toNat 8, .run s.fab.nextId, none, false⟩ : DReq)] } ∧ t.rd DRL_RX_CNT_PACKETS = min (s.rd DRL_RX_CNT_PACKETS + 1) (2 ^ 32 - 1) ∧
        t.dr = s.dr ∧ t.fur = s.fur ∧ t.hp = s.hp ∧ t.yk = s.yk ∧ t.out = s.out ∧ t.win = s.win ∧
        (∀ k, k ≠ h.conn.toNat → t.connAt k = s.connAt k)) ∧
  (∀ (s : State) (h : DrlHdr) (x y : Word64) (e : BitVec 128) (v : Word64),
      s.drlOk h 2 → s.drlCalm h.conn.toNat → s.drlOut h.conn.toNat → h.seq.toNat ≤ (s.connAt h.conn.toNat).c → h.seq.toNat + 1 < 2 ^ 47 → ((s.connAt h.conn.toNat).atoms.find? fun a => a.1 == h.seq.toNat) = some (h.seq.toNat, 0, v) → 
      ∃ t, exec (.drlAtomic h e x y) s = .next t ∧ t.out = .drill ((s.connAt h.conn.toNat).port 0) 0 ⟨h.conn.toNat, 0, 0x23, 0, (s.connAt h.conn.toNat).rsn, (s.connAt h.conn.toNat).c, false, 0, rspExt h.seq.toNat 0 v⟩ :: s.out ∧ (t.connAt h.conn.toNat) = { (s.connAt h.conn.toNat) with rsn := (s.connAt h.conn.toNat).rsn + 1 } ∧ t.rd DRL_RX_CNT_PACKETS = min (s.rd DRL_RX_CNT_PACKETS + 1) (2 ^ 32 - 1) ∧
        RegsBut [NPT_MAC_CNT h.port, DRL_STS, DRL_RX_CNT] s t ∧ t = { s with csr := t.csr, dl := t.dl, out := t.out } ∧
        (∀ k, k ≠ h.conn.toNat → t.connAt k = s.connAt k)) ∧
  (∀ (s : State) (h : DrlHdr) (q : Fin 1024) (descs : List Byte) (b : Nat),
      s.drlOk h 2 → s.drlCalm h.conn.toNat → h.final = false → (s.connAt h.conn.toNat).c + 1 = h.seq.toNat → (s.connAt h.conn.toNat).next = h.seq.toNat → (s.connAt h.conn.toNat).done = [] → (s.connAt h.conn.toNat).reqs = [] → h.seq.toNat + 1 < 2 ^ 47 → s.ackHeld h.conn.toNat → s.still → s.fab.alt = [] → s.dl.jobs = [] → s.bufFor h.conn.toNat b → descs.length = 64 → 64 ≤ (s.connAt h.conn.toNat).maxpl → s.jqState q = 1 → s.jobCause h.conn.toNat q (jobDescs descs 1) = 0 → 
      ∃ t, exec (.drlJob h (BitVec.ofNat 128 (q.val + 65536)) descs) s = .next t ∧ (t.jqAt q).ring = (s.jqAt q).ring ++ [⟨(s.jqAt q).nextNum, BitVec.ofNat 512 (ofBytes descs)⟩] ∧ (t.jqAt q).nextNum = (s.jqAt q).nextNum + 1 ∧ t.rd (DRL_JQ_STATE_USED q) = ((t.jqAt q).ring.length + (t.jqRuns q).length) % 512 ∧ (t.connAt h.conn.toNat) = { (s.connAt h.conn.toNat) with c := h.seq.toNat, next := h.seq.toNat + 1, ackWait := true } ∧ t.grn.held = s.grn.held ∧ t.grn.stack = s.grn.stack ∧ t.rd DRL_RX_CNT_PACKETS = min (s.rd DRL_RX_CNT_PACKETS + 1) (2 ^ 32 - 1) ∧
        t.dr = s.dr ∧ t.fur = s.fur ∧ t.hp = s.hp ∧ t.yk = s.yk ∧ t.win = s.win ∧ t.out = s.out ∧ t.still ∧
        (∀ k, k ≠ h.conn.toNat → t.connAt k = s.connAt k)) ∧
  (∀ (s : State) (h : DrlHdr) (q : Fin 1024) (w : Nat) (b : Nat),
      s.drlOk h 2 → s.drlCalm h.conn.toNat → h.final = false → (s.connAt h.conn.toNat).c + 1 = h.seq.toNat → (s.connAt h.conn.toNat).next = h.seq.toNat → (s.connAt h.conn.toNat).done = [] → (s.connAt h.conn.toNat).reqs = [] → h.seq.toNat + 1 < 2 ^ 47 → s.ackHeld h.conn.toNat → s.still → s.fab.alt = [] → s.dl.jobs = [] → s.drlOut h.conn.toNat → s.bufFor h.conn.toNat b → s.jqState q = 1 → s.jqConn q = h.conn.toNat → w ≤ s.jqCount q → 
      ∃ t, exec (.drlJqRead h (BitVec.ofNat 128 (q.val + w * 2 ^ 64))) s = .next t ∧ t.out = .drill ((s.connAt h.conn.toNat).port 0) 0 ⟨h.conn.toNat, 0, 0x24, 0, (s.connAt h.conn.toNat).rsn, (s.connAt h.conn.toNat).c, false, 0, rspExt h.seq.toNat 0 (BitVec.ofNat 64 (s.jqCount q))⟩ :: s.out ∧ (t.connAt h.conn.toNat) = { (s.connAt h.conn.toNat) with c := h.seq.toNat, next := h.seq.toNat + 1, ackWait := true, rsn := (s.connAt h.conn.toNat).rsn + 1 } ∧ t.grn.held = s.grn.held ∧ t.grn.stack = s.grn.stack ∧ t.rd DRL_RX_CNT_PACKETS = min (s.rd DRL_RX_CNT_PACKETS + 1) (2 ^ 32 - 1) ∧
        t.dr = s.dr ∧ t.fur = s.fur ∧ t.hp = s.hp ∧ t.yk = s.yk ∧ t.win = s.win ∧ t.still ∧
        (∀ k, k ≠ h.conn.toNat → t.connAt k = s.connAt k)) ∧
  (∀ (s : State) (h : DrlHdr) (msg : List Byte) (b c : Nat),
      s.drlOk h 2 → s.drlCalm h.conn.toNat → h.final = false → (s.connAt h.conn.toNat).c + 1 = h.seq.toNat → (s.connAt h.conn.toNat).next = h.seq.toNat → (s.connAt h.conn.toNat).done = [] → (s.connAt h.conn.toNat).reqs = [] → h.seq.toNat + 1 < 2 ^ 47 → s.ackHeld h.conn.toNat → s.still → s.fab.alt = [] → s.dl.jobs = [] → s.bufFor h.conn.toNat b → msg.length = 64 → (s.connAt h.conn.toNat).control = true → (s.connAt h.conn.toNat).chan = c → c < 32 → s.mbxFull c false = false → 
      ∃ t, exec (.drlMbxReceive h msg) s = .next t ∧ t.mbxFull c false = true ∧ (∀ k : Fin 8, t.rd (MBX_IN_MSG c k) = ofBytes ((msg.drop (8 * k.val)).take 8)) ∧ t.rd (fHdr c false) = mbxHdr 2 (s.cgSecure (s.connAt h.conn.toNat).group) h.conn.toNat 0 0 + (s.mbxSeq c false + 1) % 2 ^ 32 ∧ (t.connAt h.conn.toNat) = { (s.connAt h.conn.toNat) with c := h.seq.toNat, next := h.seq.toNat + 1, ackWait := true } ∧ t.grn.held = s.grn.held ∧ t.grn.stack = s.grn.stack ∧ t.rd DRL_RX_CNT_PACKETS = min (s.rd DRL_RX_CNT_PACKETS + 1) (2 ^ 32 - 1) ∧
        t.dr = s.dr ∧ t.fur = s.fur ∧ t.hp = s.hp ∧ t.yk = s.yk ∧ t.win = s.win ∧ t.out = s.out ∧ t.still ∧
        (∀ k, k ≠ h.conn.toNat → t.connAt k = s.connAt k)) ∧
  (∀ (s : State) (h : DrlHdr) (recs : List Byte) (b : Nat),
      s.drlOk h 2 → s.drlCalm h.conn.toNat → h.final = false → (s.connAt h.conn.toNat).c + 1 = h.seq.toNat → (s.connAt h.conn.toNat).next = h.seq.toNat → (s.connAt h.conn.toNat).done = [] → (s.connAt h.conn.toNat).reqs = [] → h.seq.toNat + 1 < 2 ^ 47 → s.ackHeld h.conn.toNat → s.still → s.fab.alt = [] → s.dl.jobs = [] → s.bufFor h.conn.toNat b → recs.length = 8 → s.on DRL_ERR_LAST_VALID = false → 
      ∃ t, exec (.drlErrorReceive h 1 recs) s = .next t ∧ t.rd DRL_ERR_LAST_KIND = 1 ∧ t.rd DRL_ERR_LAST_CODE = ofBytes ((recs.drop 6).take 1) % 128 ∧ t.rd DRL_ERR_LAST_CONN = h.conn.toNat ∧ t.rd DRL_ERR_LAST_PSN_LO = ofBytes (recs.take 6) % 2 ^ 40 ∧ t.on DRL_ERR_LAST_VALID = true ∧ (t.connAt h.conn.toNat) = { (s.connAt h.conn.toNat) with c := h.seq.toNat, next := h.seq.toNat + 1, ackWait := true } ∧ t.grn.held = s.grn.held ∧ t.grn.stack = s.grn.stack ∧ t.rd DRL_RX_CNT_PACKETS = min (s.rd DRL_RX_CNT_PACKETS + 1) (2 ^ 32 - 1) ∧
        t.dr = s.dr ∧ t.fur = s.fur ∧ t.hp = s.hp ∧ t.yk = s.yk ∧ t.win = s.win ∧ t.out = s.out ∧ t.still ∧
        (∀ k, k ≠ h.conn.toNat → t.connAt k = s.connAt k)) ∧
  (∀ (s : State) (h : DrlHdr) (e : BitVec 128) (data : List Byte) (b : Nat),
      s.drlOk h 2 → s.drlCalm h.conn.toNat → h.final = false → (s.connAt h.conn.toNat).relaxed = false → (s.connAt h.conn.toNat).next < h.seq.toNat → (s.connAt h.conn.toNat).c < h.seq.toNat → h.seq.toNat ≤ (s.connAt h.conn.toNat).c + 65536 → (s.connAt h.conn.toNat).done = [] → (s.connAt h.conn.toNat).reqs = [] → h.seq.toNat + 1 < 2 ^ 47 → s.bufFor h.conn.toNat b → 
      ∃ t, exec (.drlWrite h e data) s = .next t ∧ (t.connAt h.conn.toNat) = { (s.connAt h.conn.toNat) with reqs := [⟨h.seq.toNat, .write, false, h.off.toNat, e, data, .wait, some b, false⟩] } ∧ t.grn.held = s.grn.held ++ [⟨b, s.groupOwner (s.connAt h.conn.toNat).group, 1, false⟩] ∧ t.rd DRL_RX_CNT_PACKETS = min (s.rd DRL_RX_CNT_PACKETS + 1) (2 ^ 32 - 1) ∧
        t = { s with csr := t.csr, dl := t.dl, grn := t.grn } ∧
        (∀ k, k ≠ h.conn.toNat → t.connAt k = s.connAt k)) ∧
  (∀ (s : State) (h : DrlHdr) (e : BitVec 128) (data : List Byte),
      s.drlOk h 2 → s.drlCalm h.conn.toNat → s.ackHeld h.conn.toNat → h.seq.toNat ≤ (s.connAt h.conn.toNat).c → h.seq.toNat + 1 < 2 ^ 47 → 
      ∃ t, exec (.drlWrite h e data) s = .next t ∧ (t.connAt h.conn.toNat) = { (s.connAt h.conn.toNat) with dup := min 65535 ((s.connAt h.conn.toNat).dup + 1), ackWait := true } ∧ t.rd DRL_DROP_CNT_DUP = min (s.rd DRL_DROP_CNT_DUP + 1) 65535 ∧ t.rd DRL_RX_CNT_PACKETS = min (s.rd DRL_RX_CNT_PACKETS + 1) (2 ^ 32 - 1) ∧
        RegsBut [NPT_MAC_CNT h.port, DRL_STS, DRL_RX_CNT, DRL_DROP_CNT] s t ∧ t = { s with csr := t.csr, dl := t.dl } ∧
        (∀ k, k ≠ h.conn.toNat → t.connAt k = s.connAt k)) ∧
  (∀ (s : State) (h : DrlHdr) ,
      s.on DRL_CTL_ENABLE = true → s.drillPort h.port = true → s.portUp h.port = true → h.fifo.toNat * 100 < max 1 (min 100 (s.rd DRL_RX_PANIC_PCT)) * 4096 → s.dr.drillPanic = false → s.on DRL_STS_PFC = false → s.on DRL_CTL_PFC_EN = false → (s.connAt h.conn.toNat).state = 2 → h.auth = false → s.on DRL_ERR_LAST_VALID = false → 
      ∃ t, exec (.drlWrite h 0 []) s = .next t ∧ t.rd DRL_RX_CNT_AUTH_FAIL = min (s.rd DRL_RX_CNT_AUTH_FAIL + 1) 65535 ∧ t.bitOf (FLT_STS_CAUSE 90) 2 = true ∧ t.rd DRL_ERR_LAST_KIND = 3 ∧ t.rd DRL_ERR_LAST_CONN = h.conn.toNat ∧
        RegsBut ([NPT_MAC_CNT h.port, DRL_STS, DRL_RX_CNT, DRL_ERR_LAST] ++ fltKeys 90 ++ recKeys) s t ∧ RecOnly s t) ∧
  (∀ (s : State) (n : BitVec 12) (psn : BitVec 48) (q : Fin 1024) (w : Nat) (x : BitVec 128),
      s.still → s.fab.alt = [] → s.dl.jobs = [] → (s.connAt n.toNat).state = 2 → s.ackHeld n.toNat → s.drlOut n.toNat → (s.connAt n.toNat).reqs = [⟨psn.toNat, .jqRead, false, 0, x, [], .wait, none, false⟩] → x = BitVec.ofNat 128 (q.val + w * 2 ^ 64) → (s.connAt n.toNat).c + 1 = psn.toNat → (s.connAt n.toNat).done = [] → (s.connAt n.toNat).next = psn.toNat → s.jqState q = 1 → s.jqConn q = n.toNat → w ≤ s.jqCount q → 
      ∃ t, exec (.orderedPresent n psn) s = .next t ∧ t.out = .drill ((s.connAt n.toNat).port 0) 0 ⟨n.toNat, 0, 0x24, 0, (s.connAt n.toNat).rsn, (s.connAt n.toNat).c, false, 0, rspExt psn.toNat 0 (BitVec.ofNat 64 (s.jqCount q))⟩ :: s.out ∧ (t.connAt n.toNat).c = psn.toNat ∧ (t.connAt n.toNat).next = psn.toNat + 1 ∧ (t.connAt n.toNat).reqs = [] ∧
        t.dr = s.dr ∧ t.fur = s.fur ∧ t.hp = s.hp ∧ t.yk = s.yk ∧ t.win = s.win ∧ t.grn = s.grn ∧
        (∀ k, k ≠ n.toNat → t.connAt k = s.connAt k)) ∧
  (∀ (s : State) (n : BitVec 12) (psn : BitVec 48) (r : DReq),
      (s.connAt n.toNat).reqs = [r] → r.psn = psn.toNat → (s.connAt n.toNat).relaxed = false → (s.connAt n.toNat).next < r.psn → r.again = false → 
      exec (.orderedPresent n psn) s = .next (s)) ∧
  (∀ (s : State) (n : BitVec 12) (psn off : Nat) (data : List Byte) (x : BitVec 128) (dpa line rg : Nat),
      s.still → s.fab.alt = [] → s.fab.cb = [] → s.fab.ops = [] → s.fab.hold = false → s.hv.armed = true → s.on HRV_STS_ARMED = true → (s.connAt n.toNat).state = 2 → s.ackHeld n.toNat → s.dl.jobs = [] → (s.connAt n.toNat).reqs = [⟨psn, .write, true, off, x, data, .final, none, false⟩] → x = BitVec.ofNat 128 (dpa + data.length * 2 ^ 64) → (s.connAt n.toNat).c + 1 = psn → (s.connAt n.toNat).done = [] → (s.connAt n.toNat).next = psn → dpa < 2 ^ 46 → 1 ≤ data.length → data.length ≤ (s.connAt n.toNat).maxpl → dpa / 64 = line → (dpa + data.length - 1) / 64 = line → s.cgAdmits (s.connAt n.toNat).group line rg true → s.rgnKeyed rg = true → s.rgnClass rg = 0 → (s.altWay line).isSome = true → 
      ∃ t, exec (.finalPresent n) s = .next t ∧ ((t.cbOf line).map fun l => (l.data, l.mask, l.region)) = some (mergeLine 0 (sliceLine dpa data line).2 (sliceLine dpa data line).1, (sliceLine dpa data line).1, rg) ∧ (t.connAt n.toNat).c = psn ∧ (t.connAt n.toNat).reqs = [] ∧ t.still ∧
        t.dr = s.dr ∧ t.fur = { s.fur with rds := t.fur.rds } ∧ t.hp = s.hp ∧ t.yk = { s.yk with heals := t.yk.heals } ∧ t.out = s.out ∧
        (∀ k, k ≠ n.toNat → t.connAt k = s.connAt k))

/-- ACK packets release or send again, ACKs and keepalives are sent on their timers, an expired RTO sends again, and a connection closes (R364, R369, R370, R378, R379, R380, R382) -/
def Obligations.DrillAcknowledgesRetransmitsAndClosesConnections : Prop :=
  (∀ (s : State) (h : DrlHdr) (p : DSent),
      s.drlOk h 2 → (s.connAt h.conn.toNat).sent = [p] → (s.connAt h.conn.toNat).txWait = [] → (s.connAt h.conn.toNat).txPsn < 2 ^ 47 → (s.connAt h.conn.toNat).rsn < 2 ^ 47 → p.psn ≤ h.ack.toNat → p.job = none → p.err = none → p.buf = none → 
      ∃ t, exec (.drlAckReceive h [] [] false) s = .next t ∧ (t.connAt h.conn.toNat) = { (s.connAt h.conn.toNat) with sent := [] } ∧ t.rd DRL_RX_CNT_PACKETS = min (s.rd DRL_RX_CNT_PACKETS + 1) (2 ^ 32 - 1) ∧
        RegsBut [NPT_MAC_CNT h.port, DRL_STS, DRL_RX_CNT] s t ∧ t = { s with csr := t.csr, dl := t.dl } ∧
        (∀ k, k ≠ h.conn.toNat → t.connAt k = s.connAt k)) ∧
  (∀ (s : State) (h : DrlHdr) (p : DSent),
      s.drlOk h 2 → s.drlOut h.conn.toNat → (s.connAt h.conn.toNat).sent = [p] → (s.connAt h.conn.toNat).txWait = [] → (s.connAt h.conn.toNat).txPsn < 2 ^ 47 → (s.connAt h.conn.toNat).rsn < 2 ^ 47 → h.ack.toNat < p.psn → p.psn < 2 ^ 48 → 
      ∃ t, exec (.drlAckReceive h [] [(BitVec.ofNat 48 p.psn, 0)] false) s = .next t ∧ (t.connAt h.conn.toNat) = { (s.connAt h.conn.toNat) with sent := [{ p with attempt := min 255 (p.attempt + 1) }], retx := min 65535 ((s.connAt h.conn.toNat).retx + 1) } ∧ t.out = .drill ((s.connAt h.conn.toNat).port 0) 0 ⟨h.conn.toNat, 0, p.op, (min 255 (p.attempt + 1)), p.psn, (s.connAt h.conn.toNat).c, p.final, p.off, p.pay⟩ :: s.out ∧ t.rd DRL_TX_CNT_RETX = min (s.rd DRL_TX_CNT_RETX + 1) (2 ^ 32 - 1) ∧ t.rd DRL_RX_CNT_PACKETS = min (s.rd DRL_RX_CNT_PACKETS + 1) (2 ^ 32 - 1) ∧
        RegsBut [NPT_MAC_CNT h.port, DRL_STS, DRL_RX_CNT, DRL_TX_CNT] s t ∧ t = { s with csr := t.csr, dl := t.dl, out := t.out } ∧
        (∀ k, k ≠ h.conn.toNat → t.connAt k = s.connAt k)) ∧
  (∀ (s : State) (h : DrlHdr) (p : DSent) (l : List (BitVec 48 × BitVec 16)),
      s.drlOk h 2 → (s.connAt h.conn.toNat).sent = [p] → (s.connAt h.conn.toNat).txWait = [] → (s.connAt h.conn.toNat).txPsn < 2 ^ 47 → (s.connAt h.conn.toNat).rsn < 2 ^ 47 → h.ack.toNat < p.psn → 
      ∃ t, exec (.drlAckReceive h [] l true) s = .next t ∧ (t.connAt h.conn.toNat) = { (s.connAt h.conn.toNat) with sent := [p] } ∧ t.out = s.out ∧ t.rd DRL_RX_CNT_PACKETS = min (s.rd DRL_RX_CNT_PACKETS + 1) (2 ^ 32 - 1) ∧
        RegsBut [NPT_MAC_CNT h.port, DRL_STS, DRL_RX_CNT] s t ∧ t = { s with csr := t.csr, dl := t.dl } ∧
        (∀ k, k ≠ h.conn.toNat → t.connAt k = s.connAt k)) ∧
  (∀ (s : State) (h : DrlHdr) ,
      s.drlOk h 2 → s.drlCalm h.conn.toNat → 
      ∃ t, exec (.drlKeepaliveReceive h) s = .next t ∧ (t.connAt h.conn.toNat) = (s.connAt h.conn.toNat) ∧ t.rd DRL_RX_CNT_PACKETS = min (s.rd DRL_RX_CNT_PACKETS + 1) (2 ^ 32 - 1) ∧ t.rd DRL_STS_FIFO_KIB = h.fifo.toNat ∧
        RegsBut [NPT_MAC_CNT h.port, DRL_STS, DRL_RX_CNT] s t ∧ t = { s with csr := t.csr, dl := t.dl } ∧
        (∀ k, k ≠ h.conn.toNat → t.connAt k = s.connAt k)) ∧
  (∀ (s : State) (h : DrlHdr) (reason : Byte),
      s.drlOk h 2 → s.drlCalm h.conn.toNat → (s.connAt h.conn.toNat).reqs = [] → reason ≠ 0x20 → s.dl.jqs = [] → s.dl.waits = [] → 
      ∃ t, exec (.drlCloseReceive h reason) s = .next t ∧ (t.connAt h.conn.toNat).state = 0 ∧ (t.connAt h.conn.toNat).reqs = [] ∧ (t.connAt h.conn.toNat).sent = [] ∧ (t.connAt h.conn.toNat).closing = none ∧ (t.connAt h.conn.toNat).lastClose = reason.toNat ∧ t.ckeyed h.conn.toNat = false ∧ t.rd DRL_STS_OPEN = ((t.dl.conns.filter fun x => x.2.state != 0).length) % 2 ^ 13 ∧ t.rd DRL_RX_CNT_PACKETS = min (s.rd DRL_RX_CNT_PACKETS + 1) (2 ^ 32 - 1) ∧
        t.dr = s.dr ∧ t.fur = s.fur ∧ t.hp = s.hp ∧ t.yk = s.yk ∧ t.fab = s.fab ∧ t.grn = s.grn ∧ t.out = s.out ∧
        (∀ k, k ≠ h.conn.toNat → t.connAt k = s.connAt k)) ∧
  (∀ (s : State) (n : BitVec 12),
      (s.connAt n.toNat).state = 2 → (s.connAt n.toNat).ackWait = true → s.drlOut n.toNat → s.drlCalm n.toNat → (s.connAt n.toNat).done = [] → (s.connAt n.toNat).ackNobuf = false → (s.connAt n.toNat).ackWindow = false → 
      ∃ t, exec (.drlAckSend n) s = .next t ∧ t.out = .drill ((s.connAt n.toNat).port 0) 0 ⟨n.toNat, 0, 0x21, 0, (s.connAt n.toNat).rsn, (s.connAt n.toNat).c, false, 0, List.replicate 8 0⟩ :: s.out ∧ (t.connAt n.toNat) = { (s.connAt n.toNat) with rsn := (s.connAt n.toNat).rsn + 1, ackAt := some s.clk, ackWait := false } ∧
        t = { s with dl := t.dl, out := t.out } ∧
        (∀ k, k ≠ n.toNat → t.connAt k = s.connAt k)) ∧
  (∀ (s : State) (n : BitVec 12) (x : Nat),
      (s.connAt n.toNat).state = 2 → s.drlOut n.toNat → s.drlCalm n.toNat → (s.connAt n.toNat).done = [x] → (s.connAt n.toNat).reqs = [] → (s.connAt n.toNat).c + 1 < x → (s.connAt n.toNat).ackNobuf = false → (s.connAt n.toNat).ackWindow = false → 
      ∃ t, exec (.drlGapTimer n) s = .next t ∧ t.out = .drill ((s.connAt n.toNat).port 0) 0 ⟨n.toNat, 0, 0x21, 0, (s.connAt n.toNat).rsn, (s.connAt n.toNat).c, false, 0, ([1, 1, 0, 0, 0, 0, 0, 0] ++ ackRec (x, 1) ++ ackRec ((s.connAt n.toNat).c + 1, x - (s.connAt n.toNat).c - 1))⟩ :: s.out ∧ (t.connAt n.toNat) = { (s.connAt n.toNat) with rsn := (s.connAt n.toNat).rsn + 1, ackAt := some s.clk, ackWait := false } ∧
        t = { s with dl := t.dl, out := t.out } ∧
        (∀ k, k ≠ n.toNat → t.connAt k = s.connAt k)) ∧
  (∀ (s : State) (n : BitVec 12) (psn : BitVec 48) (p : DSent),
      (s.connAt n.toNat).sent = [p] → p.psn = psn.toNat → p.attempt < max 1 (s.rd DRL_TMR_RETRY_MAX) → s.drlOut n.toNat → 
      ∃ t, exec (.drlRtoExpiry n psn) s = .next t ∧ (t.connAt n.toNat) = { (s.connAt n.toNat) with sent := [{ p with attempt := min 255 (p.attempt + 1) }], retx := min 65535 ((s.connAt n.toNat).retx + 1) } ∧ t.out = .drill ((s.connAt n.toNat).port 0) 0 ⟨n.toNat, 0, p.op, (min 255 (p.attempt + 1)), p.psn, (s.connAt n.toNat).c, p.final, p.off, p.pay⟩ :: s.out ∧ t.rd DRL_TX_CNT_RETX = min (s.rd DRL_TX_CNT_RETX + 1) (2 ^ 32 - 1) ∧
        RegsBut [DRL_TX_CNT] s t ∧ t = { s with csr := t.csr, dl := t.dl, out := t.out } ∧
        (∀ k, k ≠ n.toNat → t.connAt k = s.connAt k)) ∧
  (∀ (s : State) (n : BitVec 12) (psn : BitVec 48) (p : DSent),
      (s.connAt n.toNat).sent = [p] → p.psn = psn.toNat → max 1 (s.rd DRL_TMR_RETRY_MAX) ≤ p.attempt → s.drlOut n.toNat → (s.connAt n.toNat).state ≠ 0 → (s.connAt n.toNat).closing = none → 
      ∃ t, exec (.drlRtoExpiry n psn) s = .next t ∧ t.out = .drill ((s.connAt n.toNat).port 0) 0 ⟨n.toNat, 0, 0x26, 0, (s.connAt n.toNat).rsn, (s.connAt n.toNat).c, false, 0, (BitVec.ofNat 8 0x20 :: leBytes 0 7)⟩ :: s.out ∧ (t.connAt n.toNat) = { (s.connAt n.toNat) with rsn := (s.connAt n.toNat).rsn + 1, closing := some (0x20, 2) } ∧
        t = { s with dl := t.dl, out := t.out } ∧
        (∀ k, k ≠ n.toNat → t.connAt k = s.connAt k)) ∧
  (∀ (s : State) (n : BitVec 12),
      (s.connAt n.toNat).state = 2 → (s.connAt n.toNat).closing = none → s.drlOut n.toNat → 
      ∃ t, exec (.drlIdleTimeout n) s = .next t ∧ t.out = .drill ((s.connAt n.toNat).port 0) 0 ⟨n.toNat, 0, 0x26, 0, (s.connAt n.toNat).rsn, (s.connAt n.toNat).c, false, 0, (BitVec.ofNat 8 0x20 :: leBytes 0 7)⟩ :: s.out ∧ (t.connAt n.toNat) = { (s.connAt n.toNat) with rsn := (s.connAt n.toNat).rsn + 1, closing := some (0x20, 2) } ∧
        t = { s with dl := t.dl, out := t.out } ∧
        (∀ k, k ≠ n.toNat → t.connAt k = s.connAt k)) ∧
  (∀ (s : State) (n : BitVec 12),
      (s.connAt n.toNat).state = 1 → (s.connAt n.toNat).reqs = [] → (s.connAt n.toNat).sent = [] → (s.connAt n.toNat).txWait = [] → s.dl.jqs = [] → s.dl.waits = [] → 
      ∃ t, exec (.drlOpeningTimeout n) s = .next t ∧ (t.connAt n.toNat).state = 0 ∧ (t.connAt n.toNat).reqs = [] ∧ (t.connAt n.toNat).sent = [] ∧ (t.connAt n.toNat).closing = none ∧ (t.connAt n.toNat).lastClose = 0x20 ∧ t.ckeyed n.toNat = false ∧ t.rd DRL_STS_OPEN = ((t.dl.conns.filter fun x => x.2.state != 0).length) % 2 ^ 13 ∧ t.bitOf (FLT_STS_CAUSE 90) 5 = true ∧
        t.dr = s.dr ∧ t.fur = s.fur ∧ t.hp = s.hp ∧ t.yk = s.yk ∧ t.fab = s.fab ∧ t.grn = s.grn ∧ t.out = s.out ∧
        (∀ k, k ≠ n.toNat → t.connAt k = s.connAt k)) ∧
  (∀ (s : State) (n : BitVec 12) (path : Fin 2),
      (s.connAt n.toNat).state = 2 → (s.connAt n.toNat).paths.contains path.val = true → s.drlCalm n.toNat → s.net.paused = [] → s.rd (NPT_CTL_MODE ((s.connAt n.toNat).port path)) = 0 → s.bitOf (NPT_STS_SUB_UP ((s.connAt n.toNat).port path)) 0 = true → 
      ∃ t, exec (.drlKeepaliveTimer n path) s = .next t ∧ t.out = .drill ((s.connAt n.toNat).port path) 0 ⟨n.toNat, path, 0x25, 0, (s.connAt n.toNat).rsn, (s.connAt n.toNat).c, false, 0, []⟩ :: s.out ∧ (t.connAt n.toNat) = { (s.connAt n.toNat) with rsn := (s.connAt n.toNat).rsn + 1 } ∧
        t = { s with dl := t.dl, out := t.out } ∧
        (∀ k, k ≠ n.toNat → t.connAt k = s.connAt k)) ∧
  (∀ (s : State) (n : BitVec 12) (code k : Nat),
      (s.connAt n.toNat).closing = some (code, k) → 1 < k → s.drlOut n.toNat → 
      ∃ t, exec (.drlCloseRepeat n) s = .next t ∧ t.out = .drill ((s.connAt n.toNat).port 0) 0 ⟨n.toNat, 0, 0x26, 0, (s.connAt n.toNat).rsn, (s.connAt n.toNat).c, false, 0, (BitVec.ofNat 8 code :: leBytes 0 7)⟩ :: s.out ∧ (t.connAt n.toNat) = { (s.connAt n.toNat) with rsn := (s.connAt n.toNat).rsn + 1, closing := some (code, k - 1) } ∧
        t = { s with dl := t.dl, out := t.out } ∧
        (∀ k, k ≠ n.toNat → t.connAt k = s.connAt k)) ∧
  (∀ (s : State) (n : BitVec 12) (code k : Nat),
      (s.connAt n.toNat).closing = some (code, k) → k ≤ 1 → s.drlOut n.toNat → (s.connAt n.toNat).state = 2 → (s.connAt n.toNat).reqs = [] → (s.connAt n.toNat).sent = [] → (s.connAt n.toNat).txWait = [] → s.dl.jqs = [] → s.dl.waits = [] → 
      ∃ t, exec (.drlCloseRepeat n) s = .next t ∧ t.out = .drill ((s.connAt n.toNat).port 0) 0 ⟨n.toNat, 0, 0x26, 0, (s.connAt n.toNat).rsn, (s.connAt n.toNat).c, false, 0, (BitVec.ofNat 8 code :: leBytes 0 7)⟩ :: s.out ∧ (t.connAt n.toNat).state = 0 ∧ (t.connAt n.toNat).reqs = [] ∧ (t.connAt n.toNat).sent = [] ∧ (t.connAt n.toNat).closing = none ∧ (t.connAt n.toNat).lastClose = code ∧ t.ckeyed n.toNat = false ∧ t.rd DRL_STS_OPEN = ((t.dl.conns.filter fun x => x.2.state != 0).length) % 2 ^ 13 ∧
        t.dr = s.dr ∧ t.fur = s.fur ∧ t.hp = s.hp ∧ t.yk = s.yk ∧ t.fab = s.fab ∧ t.grn = s.grn ∧
        (∀ k, k ≠ n.toNat → t.connAt k = s.connAt k))

/-- OPEN takes the staged descriptor where its checks pass, the handshake makes the connection OPEN, CLOSE and SNAPSHOT act on it, PORTS closes its users (R365, R366, R367, R368, R369, R392, R393) -/
def Obligations.DrillConnectionsOpenAndAreCommanded : Prop :=
  (∀ (s : State) (a : Agent) (n : BitVec 12),
      s.reaches a DRL_CONN_CMD = true → s.on DRL_CONN_STATUS_BUSY = false → s.openCheck a n.toNat ({ desc := s.drlStaged } : DConn) = 0 → 
      ∃ t, exec (.connOpen a n) s = .next t ∧ (t.connAt n.toNat).state = 1 ∧ (t.connAt n.toNat).desc = s.drlStaged ∧ (t.connAt n.toNat).reqs = [] ∧ (t.connAt n.toNat).lastClose = (s.connAt n.toNat).lastClose ∧ t.bitOf (CPH_CUSED_BITS (n.toNat / 32)) (n.toNat % 32) = true ∧ t.fresh = s.fresh + 1 ∧ t.rd DRL_CONN_STATUS_RESULT = 0 ∧ t.rd DRL_CONN_STATUS_CONN = n.toNat ∧
        RegsBut [DRL_CONN_CMD, DRL_CONN_STATUS, DRL_STS, (CPH_CUSED_BITS (n.toNat / 32)).addr] s t ∧ t = { s with csr := t.csr, dl := t.dl, fresh := t.fresh, shadow := s.shadow.filter (fun h => h.a != a) } ∧
        (∀ k, k ≠ n.toNat → t.connAt k = s.connAt k)) ∧
  (∀ (s : State) (a : Agent) (n : BitVec 12),
      s.reaches a DRL_CONN_CMD = true → s.on DRL_CONN_STATUS_BUSY = false → s.openCheck a n.toNat ({ desc := s.drlStaged } : DConn) ≠ 0 → 
      ∃ t, exec (.connOpen a n) s = .next t ∧ t.rd DRL_CONN_STATUS_RESULT = s.openCheck a n.toNat ({ desc := s.drlStaged } : DConn) ∧ t.rd DRL_CONN_STATUS_CONN = n.toNat ∧
        RegsBut [DRL_CONN_CMD, DRL_CONN_STATUS] s t ∧ t = { s with csr := t.csr, shadow := s.shadow.filter (fun h => h.a != a) }) ∧
  (∀ (s : State) (a : Agent) (n : BitVec 12),
      s.reaches a DRL_CONN_CMD = true → s.on DRL_CONN_STATUS_BUSY = true → 
      exec (.connOpen a n) s = .next (((s.dropShadow a).ignored a DRL_CONN_CMD (2 ^ 31 + 2 ^ 24 + n.toNat)))) ∧
  (∀ (s : State) (h : DrlHdr) (id ne : BitVec 128) (code mode : Byte),
      s.drlOk h 1 → h.path = 0 → h.seq = 1 → id.toNat = (s.connAt h.conn.toNat).fld 64 16 → mode.toNat = (s.connAt h.conn.toNat).fld 0 1 → (s.connAt h.conn.toNat).ne = none → s.drlOut h.conn.toNat → 
      ∃ t, exec (.drlHelloReceive h id ne code mode) s = .next t ∧ (t.connAt h.conn.toNat) = { (s.connAt h.conn.toNat) with ne := some ne, code := min 3 (min ((s.connAt h.conn.toNat).fld 3 1) code.toNat) } ∧ t.out = .drill ((s.connAt h.conn.toNat).port 0) 0 ⟨h.conn.toNat, 0, 0x31, h.attempt.toNat, 2, (s.connAt h.conn.toNat).c, false, 0, (leBytes s.serial 16 ++ leBytes (s.connAt h.conn.toNat).nd.toNat 16 ++ [BitVec.ofNat 8 (min 3 (min ((s.connAt h.conn.toNat).fld 3 1) code.toNat))] ++ leBytes 0 15)⟩ :: s.out ∧ t.rd DRL_RX_CNT_PACKETS = min (s.rd DRL_RX_CNT_PACKETS + 1) (2 ^ 32 - 1) ∧
        RegsBut [NPT_MAC_CNT h.port, DRL_STS, DRL_RX_CNT] s t ∧ t = { s with csr := t.csr, dl := t.dl, out := t.out } ∧
        (∀ k, k ≠ h.conn.toNat → t.connAt k = s.connAt k)) ∧
  (∀ (s : State) (h : DrlHdr) (id ne : BitVec 128) (code mode : Byte),
      s.drlOk h 1 → id.toNat ≠ (s.connAt h.conn.toNat).fld 64 16 → 
      ∃ t, exec (.drlHelloReceive h id ne code mode) s = .next t ∧ t.rd DRL_RX_CNT_AUTH_FAIL = min (s.rd DRL_RX_CNT_AUTH_FAIL + 1) 65535 ∧ t.bitOf (FLT_STS_CAUSE 90) 2 = true ∧ t.dl = s.dl ∧ t.out = s.out) ∧
  (∀ (s : State) (h : DrlHdr) (ne nd : BitVec 128),
      s.drlOk h 1 → h.path = 0 → h.seq = 3 → (s.connAt h.conn.toNat).ne = some ne → nd = (s.connAt h.conn.toNat).nd → 
      ∃ t, exec (.drlConfirmReceive h ne nd) s = .next t ∧ (t.connAt h.conn.toNat) = { (s.connAt h.conn.toNat) with state := 2, c := 0, done := [], reqs := [], next := 1, atoms := [], txPsn := 1, rsn := 1 } ∧ t.rd DRL_RX_CNT_PACKETS = min (s.rd DRL_RX_CNT_PACKETS + 1) (2 ^ 32 - 1) ∧
        RegsBut [NPT_MAC_CNT h.port, DRL_STS, DRL_RX_CNT] s t ∧ t = { s with csr := t.csr, dl := t.dl } ∧
        (∀ k, k ≠ h.conn.toNat → t.connAt k = s.connAt k)) ∧
  (∀ (s : State) (h : DrlHdr) (ne nd : BitVec 128),
      s.drlOk h 1 → nd ≠ (s.connAt h.conn.toNat).nd → 
      ∃ t, exec (.drlConfirmReceive h ne nd) s = .next t ∧ t.rd DRL_RX_CNT_AUTH_FAIL = min (s.rd DRL_RX_CNT_AUTH_FAIL + 1) 65535 ∧ t.bitOf (FLT_STS_CAUSE 90) 2 = true ∧ t.dl = s.dl ∧ t.out = s.out) ∧
  (∀ (s : State) (a : Agent) (n : BitVec 12),
      s.reaches a DRL_CONN_CMD = true → s.on DRL_CONN_STATUS_BUSY = false → (s.connAt n.toNat).state ≠ 0 → (s.connAt n.toNat).closing = none → s.drlOut n.toNat → 
      ∃ t, exec (.connCloseOp a n) s = .next t ∧ t.out = .drill ((s.connAt n.toNat).port 0) 0 ⟨n.toNat, 0, 0x26, 0, (s.connAt n.toNat).rsn, (s.connAt n.toNat).c, false, 0, (BitVec.ofNat 8 0x22 :: leBytes 0 7)⟩ :: s.out ∧ (t.connAt n.toNat) = { (s.connAt n.toNat) with rsn := (s.connAt n.toNat).rsn + 1, closing := some (0x22, 2) } ∧ t.rd DRL_CONN_STATUS_RESULT = 0 ∧ t.rd DRL_CONN_STATUS_CONN = n.toNat ∧
        RegsBut [DRL_CONN_CMD, DRL_CONN_STATUS] s t ∧ t = { s with csr := t.csr, dl := t.dl, out := t.out, shadow := s.shadow.filter (fun h => h.a != a) } ∧
        (∀ k, k ≠ n.toNat → t.connAt k = s.connAt k)) ∧
  (∀ (s : State) (a : Agent) (n : BitVec 12),
      s.reaches a DRL_CONN_CMD = true → s.on DRL_CONN_STATUS_BUSY = false → (s.connAt n.toNat).state = 0 → 
      ∃ t, exec (.connCloseOp a n) s = .next t ∧ t.rd DRL_CONN_STATUS_RESULT = 2 ∧ t.rd DRL_CONN_STATUS_CONN = n.toNat ∧
        RegsBut [DRL_CONN_CMD, DRL_CONN_STATUS] s t ∧ t = { s with csr := t.csr, shadow := s.shadow.filter (fun h => h.a != a) }) ∧
  (∀ (s : State) (a : Agent) (n : BitVec 12),
      s.reaches a DRL_CONN_CMD = true → s.on DRL_CONN_STATUS_BUSY = false → 
      ∃ t, exec (.connSnapshot a n) s = .next t ∧ t.rd DRL_SNAP_STATE_STATE = (s.connAt n.toNat).state % 16 ∧ t.rd DRL_SNAP_STATE_LAST_CLOSE = (s.connAt n.toNat).lastClose % 256 ∧ t.rd DRL_SNAP_STATE_TX_PSN = (s.connAt n.toNat).txPsn % 2 ^ 48 ∧ t.rd DRL_SNAP_SEQ_C = (s.connAt n.toNat).c % 2 ^ 48 ∧ t.rd DRL_SNAP_CNT_RETX = (s.connAt n.toNat).retx % 65536 ∧ t.rd DRL_SNAP_CNT_DUP = (s.connAt n.toNat).dup % 65536 ∧ t.rd DRL_SNAP_CNT_ERRORS = (s.connAt n.toNat).errors % 65536 ∧ t.rd DRL_CONN_STATUS_RESULT = 0 ∧ t.rd DRL_CONN_STATUS_CONN = n.toNat ∧
        RegsBut [DRL_CONN_CMD, DRL_CONN_STATUS, DRL_SNAP_STATE, DRL_SNAP_SEQ, DRL_SNAP_CNT] s t ∧ t = { s with csr := t.csr, shadow := s.shadow.filter (fun h => h.a != a) }) ∧
  (∀ (s : State) (a : Agent) (v : BitVec 32) (n : Nat),
      s.reaches a DRL_CTL = true → ∀ x ∈ s.dl.conns, x.1 = n → n < 4096 → (s.connAt n).state ≠ 0 → (s.connAt n).closing = none → s.drlOut n → (s.connAt n).port 0 < 6 → s.bitOf DRL_CTL_PORTS ((s.connAt n).port 0) = true → v.getLsbD ((s.connAt n).port 0) = false → s.dl.conns.length = 1 → 
      ∃ t, exec (.drillPortRemove a v) s = .next t ∧ t.rd DRL_CTL_PORTS = getBits v.toNat 0 6 ∧ t.rd DRL_CTL_ENABLE = getBits v.toNat 31 1 ∧ t.rd DRL_CTL_PFC_EN = getBits v.toNat 8 1 ∧ t.out = .drill ((s.connAt n).port 0) 0 ⟨n, 0, 0x26, 0, (s.connAt n).rsn, (s.connAt n).c, false, 0, (BitVec.ofNat 8 0x22 :: leBytes 0 7)⟩ :: s.out ∧ (t.connAt n) = { (s.connAt n) with rsn := (s.connAt n).rsn + 1, closing := some (0x22, 2) } ∧
        RegsBut [DRL_CTL] s t ∧ t = { s with csr := t.csr, dl := t.dl, out := t.out, shadow := s.shadow.filter (fun h => h.a != a) }) ∧
  (∀ (s : State) (a : Agent) (v : BitVec 32),
      s.reaches a DRL_CTL = true → s.dl.conns = [] → 
      ∃ t, exec (.drillPortRemove a v) s = .next t ∧ t.rd DRL_CTL_PORTS = getBits v.toNat 0 6 ∧ t.rd DRL_CTL_ENABLE = getBits v.toNat 31 1 ∧ t.rd DRL_CTL_PFC_EN = getBits v.toNat 8 1 ∧
        RegsBut [DRL_CTL] s t ∧ t = { s with csr := t.csr, shadow := s.shadow.filter (fun h => h.a != a) })

/-- Queues are bound and unbound, jobs start and complete in order, waits time out, PUSH packets leave, and waiting JQ_READs are answered (R394, R396, R399, R400, R402, R403, R404, R405, R406, R407) -/
def Obligations.JobQueuesBindStartCompleteFailAndUnbind : Prop :=
  (∀ (s : State) (a : Agent) (q : Fin 1024) (n : BitVec 12),
      s.reaches a DRL_JQ_CMD = true → s.on DRL_JQ_CMD_STS_BUSY = false → s.jqState q = 0 → (s.connAt n.toNat).state = 2 → s.cgSecure (s.connAt n.toNat).group = false ∨ s.agentSecure a = true → s.dl.jobs = [] → 
      ∃ t, exec (.jqBind a q n) s = .next t ∧ t.jqState q = 1 ∧ t.jqConn q = n.toNat ∧ t.jqCount q = 0 ∧ t.rd (DRL_JQ_STATE_USED q) = 0 ∧ t.jqAt q = { bound := true, group := (s.connAt n.toNat).group } ∧ t.rd DRL_JQ_CMD_STS_RESULT = 0 ∧ t.rd DRL_JQ_CMD_STS_QUEUE = q ∧
        RegsBut [DRL_JQ_CMD, DRL_JQ_CMD_STS, DRL_JQ_STATE q, DRL_JQ_COUNT q, DRL_JQ_STS] s t ∧ t = { s with csr := t.csr, dl := t.dl, shadow := s.shadow.filter (fun h => h.a != a) }) ∧
  (∀ (s : State) (a : Agent) (q : Fin 1024) (n : BitVec 12),
      s.reaches a DRL_JQ_CMD = true → s.on DRL_JQ_CMD_STS_BUSY = false → s.jqState q ≠ 0 → 
      ∃ t, exec (.jqBind a q n) s = .next t ∧ t.rd DRL_JQ_CMD_STS_RESULT = 1 ∧ t.rd DRL_JQ_CMD_STS_QUEUE = q ∧
        RegsBut [DRL_JQ_CMD, DRL_JQ_CMD_STS] s t ∧ t = { s with csr := t.csr, shadow := s.shadow.filter (fun h => h.a != a) }) ∧
  (∀ (s : State) (a : Agent) (q : Fin 1024) (n : BitVec 12),
      s.reaches a DRL_JQ_CMD = true → s.on DRL_JQ_CMD_STS_BUSY = false → s.jqState q = 0 → (s.connAt n.toNat).state ≠ 2 → 
      ∃ t, exec (.jqBind a q n) s = .next t ∧ t.rd DRL_JQ_CMD_STS_RESULT = 2 ∧ t.rd DRL_JQ_CMD_STS_QUEUE = q ∧
        RegsBut [DRL_JQ_CMD, DRL_JQ_CMD_STS] s t ∧ t = { s with csr := t.csr, shadow := s.shadow.filter (fun h => h.a != a) }) ∧
  (∀ (s : State) (a : Agent) (q : Fin 1024),
      s.reaches a DRL_JQ_CMD = true → s.on DRL_JQ_CMD_STS_BUSY = false → s.jqState q = 1 ∨ s.jqState q = 2 → s.jqRuns q = [] → 
      ∃ t, exec (.jqUnbind a q) s = .next t ∧ t.jqState q = 3 ∧ (t.jqAt q).ring = [] ∧ (t.jqAt q).unbind = true ∧ t.rd (DRL_JQ_STATE_USED q) = 0 ∧ t.on DRL_JQ_CMD_STS_BUSY = true ∧ t.rd DRL_JQ_CMD_STS_QUEUE = q ∧
        RegsBut [DRL_JQ_CMD, DRL_JQ_CMD_STS, DRL_JQ_STATE q, DRL_JQ_COUNT q, DRL_JQ_STS] s t ∧ t = { s with csr := t.csr, dl := t.dl, shadow := s.shadow.filter (fun h => h.a != a) }) ∧
  (∀ (s : State) (a : Agent) (q : Fin 1024),
      s.reaches a DRL_JQ_CMD = true → s.on DRL_JQ_CMD_STS_BUSY = false → s.jqState q = 0 → 
      ∃ t, exec (.jqUnbind a q) s = .next t ∧ t.rd DRL_JQ_CMD_STS_RESULT = 3 ∧ t.rd DRL_JQ_CMD_STS_QUEUE = q ∧
        RegsBut [DRL_JQ_CMD, DRL_JQ_CMD_STS] s t ∧ t = { s with csr := t.csr, shadow := s.shadow.filter (fun h => h.a != a) }) ∧
  (∀ (s : State) (a : Agent) (q : Fin 1024) (n : BitVec 12),
      s.reaches a DRL_JQ_CMD = true → s.on DRL_JQ_CMD_STS_BUSY = true → 
      exec (.jqBind a q n) s = .next (((s.dropShadow a).ignored a DRL_JQ_CMD (2 ^ 31 + 2 ^ 24 + n.toNat * 1024 + q.val)))) ∧
  (∀ (s : State) (q : Fin 1024),
      s.jqState q = 3 → (s.dl.jobs.any fun j => j.queue == q.val) = false → (s.jqAt q).unbind = true → s.dl.jqs.map (fun x => x.1) = [q.val] → s.dl.waits = [] → 
      ∃ t, exec (.jqUnboundReached q) s = .next t ∧ t.jqState q = 0 ∧ t.jqConn q = 0 ∧ t.jqAt q = {} ∧ t.on DRL_JQ_CMD_STS_BUSY = false ∧ t.rd DRL_JQ_CMD_STS_RESULT = 0 ∧
        t.fab = s.fab ∧ t.grn = s.grn ∧ t.out = s.out ∧ t.dr = s.dr ∧ t.fur = s.fur ∧ t.hp = s.hp ∧ t.yk = s.yk) ∧
  (∀ (s : State) (q : Fin 1024),
      s.jqState q ≠ 3 → 
      exec (.jqUnboundReached q) s = .next (s)) ∧
  (∀ (s : State) (q : Fin 1024) (j : JDesc) (l : List JDesc),
      (s.jqAt q).ring = j :: l → s.depDead j.d = false → s.jobReady q j = true → jf j.d 0 1 = 4 → (s.jqAt q).failed = none → j.num = s.jqCount q + 1 → (s.jqAt q).done = [] → s.dl.jobs = [] → s.fab.ops = [] → l = [] → s.dl.jqs.map (fun x => x.1) = [q.val] → s.jqCount q + 1 < 2 ^ 64 → s.dl.waits = [] → 
      ∃ t, exec (.jobStart q) s = .next t ∧ t.jqCount q = s.jqCount q + 1 ∧ (t.jqAt q).ring = [] ∧ t.dl.jobs = [] ∧ t.rd DRL_JQ_CNT_JOBS = min (s.rd DRL_JQ_CNT_JOBS + 1) (2 ^ 32 - 1) ∧ t.rd (DRL_JQ_STATE_USED q) = 0 ∧ t.jqState q = 1 ∧
        t.grn = s.grn ∧ t.out = s.out ∧ t.dr = s.dr ∧ t.fur = s.fur ∧ t.hp = s.hp ∧ t.yk = s.yk) ∧
  (∀ (s : State) (q : Fin 1024) (j : JDesc) (l : List JDesc) (line rg : Nat),
      (s.jqAt q).ring = j :: l → s.depDead j.d = false → s.jobReady q j = true → jf j.d 0 1 = 2 → jf j.d 4 4 = 64 → jf j.d 16 8 = line * 64 → s.dl.jobs = [] → s.cgAdmits (s.jqAt q).group line rg true → s.rgnKeyed rg = true → s.rgnClass rg = 0 → (s.altWay line).isSome = true → s.still → s.fab.alt = [] → s.fab.cb = [] → s.fab.ops = [] → s.fab.hold = false → s.hv.armed = true → s.on HRV_STS_ARMED = true → 
      ∃ t, exec (.jobStart q) s = .next t ∧ (t.jqAt q).ring = l ∧ (t.cbOf line).isSome = true ∧ t.still ∧ t.dl.jobs.map (fun x => (x.id, x.queue, x.num, x.next, x.ended)) = [(s.fab.nextId, q.val, j.num, 1, true)] ∧ t.rd DRL_JQ_STS_SLOTS_USED = 1 ∧ t.jqCount q = s.jqCount q ∧
        t.grn = s.grn ∧ t.out = s.out ∧ t.dr = s.dr ∧ t.fur = { s.fur with rds := t.fur.rds } ∧ t.hp = s.hp ∧ t.yk = { s.yk with heals := t.yk.heals }) ∧
  (∀ (s : State) (q : Fin 1024) (j : JDesc),
      (s.jqAt q).ring.head? = some j → s.jqState q ≠ 1 → 
      exec (.jobStart q) s = .next (s)) ∧
  (∀ (s : State) (q : Fin 1024) (j : JRun),
      s.dl.jobs = [j] → j.ended = true → j.queue = q.val → j.parts = [] → j.status = 0 → j.pois = false → (s.jqAt q).failed = none → j.num = s.jqCount q + 1 → (s.jqAt q).done = [] → s.jqState q ≠ 1 ∨ (s.jqAt q).ring = [] → s.dl.jqs.map (fun x => x.1) = [q.val] → s.jqCount q + 1 < 2 ^ 64 → s.dl.waits = [] → 
      ∃ t, exec .jobComplete s = .next t ∧ t.dl.jobs = [] ∧ t.jqCount q = s.jqCount q + 1 ∧ t.rd DRL_JQ_CNT_JOBS = min (s.rd DRL_JQ_CNT_JOBS + 1) (2 ^ 32 - 1) ∧ t.rd DRL_JQ_STS_SLOTS_USED = 0 ∧
        t.fab = s.fab ∧ t.grn = s.grn ∧ t.out = s.out ∧ t.dr = s.dr ∧ t.fur = s.fur ∧ t.hp = s.hp ∧ t.yk = s.yk) ∧
  (∀ (s : State) (q : Fin 1024) (j : JRun),
      s.dl.jobs = [j] → j.ended = true → j.queue = q.val → j.parts = [] → 0 < j.status → j.status < 256 → (s.jqAt q).failed = none → j.num = s.jqCount q + 1 → (s.jqAt q).done = [] → s.jqState q = 1 → (s.jqAt q).ring = [] → s.dl.jqs.map (fun x => x.1) = [q.val] → s.jqCount q + 1 < 2 ^ 64 → s.dl.waits = [] → 
      ∃ t, exec .jobComplete s = .next t ∧ t.jqState q = 2 ∧ (t.jqAt q).failed = some j.num ∧ t.rd (DRL_JQ_FAIL_STATUS q) = j.status ∧ t.rd (DRL_JQ_FAIL_OPCODE q) = jf j.d 0 1 ∧ t.rd (DRL_JQ_TAG_TAG q) = jf j.d 32 8 ∧ t.rd DRL_JQ_CNT_FAILED = min (s.rd DRL_JQ_CNT_FAILED + 1) 65535 ∧ t.bitOf (FLT_STS_CAUSE 90) 6 = true ∧ t.dl.jobs = [] ∧ t.jqCount q = s.jqCount q + 1 ∧
        t.fab = s.fab ∧ t.grn = s.grn ∧ t.out = s.out ∧ t.dr = s.dr ∧ t.fur = s.fur ∧ t.hp = s.hp ∧ t.yk = s.yk) ∧
  (∀ (s : State),
      (s.dl.jobs.any fun j => j.ended) = false → 
      exec .jobComplete s = .next (s)) ∧
  (∀ (s : State) (q : Fin 1024) (j : JDesc) (w v : Nat),
      (s.jqAt q).ring = [j] → jobWait j.d = some (w, v) → s.jqState q = 1 → s.jqCount w < v → (s.jqAt q).failed = none → j.num = s.jqCount q + 1 → (s.jqAt q).done = [] → s.jqRuns q = [] → s.dl.jqs.map (fun x => x.1) = [q.val] → s.jqCount q + 1 < 2 ^ 64 → s.dl.waits = [] → 
      ∃ t, exec (.jobWaitTimeout q) s = .next t ∧ t.jqState q = 2 ∧ (t.jqAt q).failed = some j.num ∧ t.rd (DRL_JQ_FAIL_STATUS q) = 0x41 ∧ t.rd (DRL_JQ_FAIL_OPCODE q) = jf j.d 0 1 ∧ t.rd (DRL_JQ_TAG_TAG q) = jf j.d 32 8 ∧ t.rd DRL_JQ_CNT_FAILED = min (s.rd DRL_JQ_CNT_FAILED + 1) 65535 ∧ t.bitOf (FLT_STS_CAUSE 90) 6 = true ∧ (t.jqAt q).ring = [] ∧
        t.fab = s.fab ∧ t.grn = s.grn ∧ t.out = s.out ∧ t.dr = s.dr ∧ t.fur = s.fur ∧ t.hp = s.hp ∧ t.yk = s.yk) ∧
  (∀ (s : State) (q : Fin 1024) (j : JRun) (o : MemOp),
      s.dl.jobs = [j] → j.queue = q.val → jf j.d 0 1 = 3 → j.stop = false → j.orphan = false → j.parts = [(0, o.id)] → s.fab.ops = [o] → o.left = 0 → s.partCount j = 1 → j.next = 1 → (jf j.d 1 1).testBit 2 = false → s.still → (s.connAt (s.jqConn q)).state = 2 → (s.connAt (s.jqConn q)).sent = [] → (s.connAt (s.jqConn q)).txWait = [] → s.drlOut (s.jqConn q) → 
      ∃ t, exec (.pushPacketSend q) s = .next t ∧ t.fab.ops = [] ∧ t.dl.jobs = [{ j with parts := [], unacked := j.unacked + 1 }] ∧ (t.connAt (s.jqConn q)).txPsn = (s.connAt (s.jqConn q)).txPsn + 1 ∧ (t.connAt (s.jqConn q)).sent.map (fun p => (p.psn, p.op, p.buf, p.job)) = [((s.connAt (s.jqConn q)).txPsn, 7, o.buf, some j.id)] ∧ t.out = .drill ((s.connAt (s.jqConn q)).port 0) 0 ⟨(s.jqConn q), 0, 7, 0, (s.connAt (s.jqConn q)).txPsn, (s.connAt (s.jqConn q)).c, false, 0, (leBytes (jf j.d 16 8) 8 ++ leBytes ((sortLines o.data).flatMap (fun x => leBytes x.2.1.toNat 64)).length 4 ++ leBytes q.val 2 ++ [0, 0] ++ (sortLines o.data).flatMap (fun x => leBytes x.2.1.toNat 64))⟩ :: s.out ∧
        t.dr = s.dr ∧ t.fur = s.fur ∧ t.hp = s.hp ∧ t.yk = s.yk ∧ t.grn = s.grn) ∧
  (∀ (s : State),
      (s.dl.jobs.all fun j => !j.noBuf) = true → s.still → 
      exec .jobAllocRetry s = .next (s)) ∧
  (∀ (s : State) (j : JRun) (b line rg : Nat),
      s.dl.jobs = [j] → j.noBuf = true → j.parts = [] → j.next = 0 → j.stop = false → jf j.d 0 1 = 3 → jf j.d 4 4 = 64 → jf j.d 8 8 = line * 64 → s.grnMay (s.groupOwner (s.jqAt j.queue).group) = true → s.grn.stack.head? = some b → s.cgAdmits (s.jqAt j.queue).group line rg false → s.rgnKeyed rg = true → (s.altWay line).isSome = true → s.on TIN_RUNAHEAD_ENABLE = false → s.ncOn (bankOfLine line) = false → s.nc.length = 16 → (s.ncOf (bankOfLine line)).miss = [] → s.on (NCH_CTL_PF_EN (bankOfLine line)) = false → s.still → s.fab.alt = [] → s.fab.cb = [] → s.fab.ops = [] → s.fab.hold = false → s.hv.armed = true → s.on HRV_STS_ARMED = true → 
      ∃ t, exec .jobAllocRetry s = .next t ∧ t.dl.jobs = [{ j with noBuf := false, next := 1, parts := [(0, s.fab.nextId)] }] ∧ t.fab.ops.map (fun o => (o.id, o.left, o.buf)) = [(s.fab.nextId, 1, some b)] ∧ t.fab.act.map (fun r => (r.line, r.phase)) = [(line, .entry)] ∧
        t.dr = s.dr ∧ t.fur = s.fur ∧ t.hp = s.hp ∧ t.yk = s.yk ∧ t.out = s.out) ∧
  (∀ (s : State) (n : BitVec 12) (psn : BitVec 48) (q : Fin 1024) (x : BitVec 128),
      (s.connAt n.toNat).state = 2 → s.ackHeld n.toNat → s.drlOut n.toNat → (s.connAt n.toNat).reqs = [⟨psn.toNat, .jqRead, false, 0, x, [], .jq, none, false⟩] → getBits x.toNat 0 16 = q → (s.connAt n.toNat).c + 1 = psn.toNat → (s.connAt n.toNat).done = [] → s.dl.waits = [(n.toNat, psn.toNat)] → 
      ∃ t, exec (.jqReadTimeout n psn) s = .next t ∧ t.out = .drill ((s.connAt n.toNat).port 0) 0 ⟨n.toNat, 0, 0x24, 0, (s.connAt n.toNat).rsn, (s.connAt n.toNat).c, false, 0, rspExt psn.toNat 0 (BitVec.ofNat 64 (s.jqCount q))⟩ :: s.out ∧ (t.connAt n.toNat).c = psn.toNat ∧ (t.connAt n.toNat).reqs = [] ∧ t.dl.waits = [] ∧ t.rd DRL_JQ_STS_READS_WAITING = 0 ∧
        RegsBut [DRL_JQ_STS] s t ∧ t = { s with csr := t.csr, dl := t.dl, out := t.out } ∧
        (∀ k, k ≠ n.toNat → t.connAt k = s.connAt k))

/-- LOAD takes the staged key where its checks pass and zeroes the staging; ERASE empties a slot; FORGET also drops its KCV; other OPs do nothing (R425, R427, R428, R429, R430, R434, R441) -/
def Obligations.KeySlotsAreLoadedErasedAndForgotten : Prop :=
  (∀ (s : State) (a : Agent) (idx : Fin 256),
      s.reaches a CPH_SLOT_CMD = true → s.loadResult a 0 idx (s.staged a) = 0 → s.hv.replay = [] → s.yk.rsv = none → s.still → 
      ∃ t, exec (.keySlotLoad a 0 (BitVec.ofNat 12 idx)) s = .next t ∧ mget key0 t.cph.rkey idx = s.staged a ∧ t.keyLoaded idx = true ∧ t.on (CPH_RSLOT_KCV_SET idx) = true ∧ t.rd (CPH_RSLOT_KCV idx) = (kcv (s.staged a)).toNat ∧ (∀ k : Fin 16, t.rd ((CPH_KLD_KEY k).bank a) = 0) ∧ t.rd (CPH_SLOT_STS_RESULT.bank a) = 0 ∧ t.rd CPH_CNT_LOADS = min (s.rd CPH_CNT_LOADS + 1) (2 ^ 32 - 1) ∧
        RegsBut ([(CPH_SLOT_CMD_OP.bank a).addr, (CPH_SLOT_STS_KCV.bank a).addr, CPH_RSLOT idx, CPH_CNT, HRV_REPLAY] ++ (List.range 16).map (fun k => ((CPH_KLD_KEY k).bank a).addr)) s t ∧ t = { s with csr := t.csr, cph := t.cph, shadow := s.shadow.filter (fun h => h.a != a) }) ∧
  (∀ (s : State) (a : Agent) (idx : BitVec 12),
      s.reaches a CPH_SLOT_CMD = true → s.loadResult a 1 idx.toNat (s.staged a) = 0 → 
      ∃ t, exec (.keySlotLoad a 1 idx) s = .next t ∧ mget key0 t.cph.ckey idx.toNat = s.staged a ∧ t.ckeyed idx.toNat = true ∧ t.bitOf (CPH_CUSED_BITS (idx.toNat / 32)) (idx.toNat % 32) = false ∧ t.bitOf (CPH_CSEC_BITS (idx.toNat / 32)) (idx.toNat % 32) = s.agentSecure a ∧ (∀ k : Fin 16, t.rd ((CPH_KLD_KEY k).bank a) = 0) ∧ t.rd (CPH_SLOT_STS_RESULT.bank a) = 0 ∧ t.rd CPH_CNT_LOADS = min (s.rd CPH_CNT_LOADS + 1) (2 ^ 32 - 1) ∧
        RegsBut ([(CPH_SLOT_CMD_OP.bank a).addr, (CPH_SLOT_STS_KCV.bank a).addr, CPH_CNT, CPH_CLOAD (idx.toNat / 32), CPH_CUSED (idx.toNat / 32), CPH_CSEC (idx.toNat / 32)] ++ (List.range 16).map (fun k => ((CPH_KLD_KEY k).bank a).addr)) s t ∧ t = { s with csr := t.csr, cph := t.cph, shadow := s.shadow.filter (fun h => h.a != a) }) ∧
  (∀ (s : State) (a : Agent) (cls : Fin 4) (idx : BitVec 12),
      s.reaches a CPH_SLOT_CMD = true → s.loadResult a cls idx.toNat (s.staged a) ≠ 0 → 
      ∃ t, exec (.keySlotLoad a cls idx) s = .next t ∧ (∀ k : Fin 16, t.rd ((CPH_KLD_KEY k).bank a) = 0) ∧ t.rd (CPH_SLOT_STS_RESULT.bank a) = s.loadResult a cls idx.toNat (s.staged a) ∧
        RegsBut ([(CPH_SLOT_CMD_OP.bank a).addr, (CPH_SLOT_STS_KCV.bank a).addr] ++ (List.range 16).map (fun k => ((CPH_KLD_KEY k).bank a).addr)) s t ∧ t = { s with csr := t.csr, shadow := s.shadow.filter (fun h => h.a != a) }) ∧
  (∀ (s : State) (a : Agent) (cls : Fin 4) (idx : BitVec 12),
      s.reaches a CPH_SLOT_CMD = true → idx.toNat < slotCount cls → s.agentSecure a = true ∨ s.keySecure cls idx.toNat = false → cls ≠ 2 → 
      ∃ t, exec (.keySlotErase a cls idx) s = .next t ∧ t.slotLoaded cls idx.toNat = false ∧ t.rd (CPH_SLOT_STS_RESULT.bank a) = 0 ∧ mget key0 (if cls = 0 then t.cph.rkey else if cls = 1 then t.cph.ckey else t.cph.fkey) idx.toNat = 0 ∧
        RegsBut [(CPH_SLOT_CMD_OP.bank a).addr, (CPH_SLOT_STS_KCV.bank a).addr, CPH_RSLOT idx.toNat, CPH_CLOAD (idx.toNat / 32), CPH_PFSLOT] s t ∧ t = { s with csr := t.csr, cph := t.cph, shadow := s.shadow.filter (fun h => h.a != a) }) ∧
  (∀ (s : State) (a : Agent) (idx : Fin 8),
      s.reaches a CPH_SLOT_CMD = true → (s.pairAt (idx / 4)).keyed = false → 
      ∃ t, exec (.keySlotErase a 2 (BitVec.ofNat 12 idx)) s = .next t ∧ t.slotLoaded 2 idx = false ∧ mget key0 t.cph.pkey idx = 0 ∧ t.rd (CPH_SLOT_STS_RESULT.bank a) = 0 ∧
        RegsBut [(CPH_SLOT_CMD_OP.bank a).addr, (CPH_SLOT_STS_KCV.bank a).addr, CPH_PFSLOT] s t ∧ t = { s with csr := t.csr, cph := t.cph, shadow := s.shadow.filter (fun h => h.a != a) }) ∧
  (∀ (s : State) (a : Agent) (cls : Fin 4) (idx : BitVec 12),
      s.reaches a CPH_SLOT_CMD = true → slotCount cls ≤ idx.toNat → 
      ∃ t, exec (.keySlotErase a cls idx) s = .next t ∧ t.rd (CPH_SLOT_STS_RESULT.bank a) = 8 ∧
        RegsBut [(CPH_SLOT_CMD_OP.bank a).addr, (CPH_SLOT_STS_KCV.bank a).addr] s t ∧ t = { s with csr := t.csr, shadow := s.shadow.filter (fun h => h.a != a) }) ∧
  (∀ (s : State) (a : Agent) (cls : Fin 4) (idx : BitVec 12),
      s.reaches a CPH_SLOT_CMD = true → idx.toNat < slotCount cls → s.agentSecure a = false → s.keySecure cls idx.toNat = true → 
      ∃ t, exec (.keySlotErase a cls idx) s = .next t ∧ t.rd (CPH_SLOT_STS_RESULT.bank a) = 4 ∧
        RegsBut [(CPH_SLOT_CMD_OP.bank a).addr, (CPH_SLOT_STS_KCV.bank a).addr] s t ∧ t = { s with csr := t.csr, shadow := s.shadow.filter (fun h => h.a != a) }) ∧
  (∀ (s : State) (a : Agent) (idx : Fin 256),
      s.reaches a CPH_SLOT_CMD = true → s.slotNamed idx = 0 → 
      ∃ t, exec (.keySlotForget a 0 (BitVec.ofNat 12 idx)) s = .next t ∧ t.keyLoaded idx = false ∧ t.on (CPH_RSLOT_KCV_SET idx) = false ∧ mget key0 t.cph.rkey idx = 0 ∧ t.rd (CPH_SLOT_STS_RESULT.bank a) = 0 ∧
        RegsBut [(CPH_SLOT_CMD_OP.bank a).addr, (CPH_SLOT_STS_KCV.bank a).addr, CPH_RSLOT idx] s t ∧ t = { s with csr := t.csr, cph := t.cph, shadow := s.shadow.filter (fun h => h.a != a) }) ∧
  (∀ (s : State) (a : Agent) (idx : Fin 256),
      s.reaches a CPH_SLOT_CMD = true → s.slotNamed idx ≠ 0 → 
      ∃ t, exec (.keySlotForget a 0 (BitVec.ofNat 12 idx)) s = .next t ∧ t.rd (CPH_SLOT_STS_RESULT.bank a) = 1 ∧
        RegsBut [(CPH_SLOT_CMD_OP.bank a).addr, (CPH_SLOT_STS_KCV.bank a).addr] s t ∧ t = { s with csr := t.csr, shadow := s.shadow.filter (fun h => h.a != a) }) ∧
  (∀ (s : State) (a : Agent) (cls : Fin 4) (idx : BitVec 12),
      s.reaches a CPH_SLOT_CMD = true → cls ≠ 0 ∨ slotCount cls ≤ idx.toNat → 
      ∃ t, exec (.keySlotForget a cls idx) s = .next t ∧ t.rd (CPH_SLOT_STS_RESULT.bank a) = (if slotCount cls ≤ idx.toNat then 8 else 5) ∧
        RegsBut [(CPH_SLOT_CMD_OP.bank a).addr, (CPH_SLOT_STS_KCV.bank a).addr] s t ∧ t = { s with csr := t.csr, shadow := s.shadow.filter (fun h => h.a != a) }) ∧
  (∀ (s : State) (a : Agent) (op : Fin 5) (cls : Fin 4) (idx : BitVec 12),
      s.reaches a CPH_SLOT_CMD = true → 
      ∃ t, exec (.slotCmdNone a op cls idx) s = .next t ∧ t.rd (CPH_SLOT_CMD_OP.bank a) = noneOp op ∧ t.rd (CPH_SLOT_CMD_CLASS.bank a) = cls ∧ t.rd (CPH_SLOT_CMD_INDEX.bank a) = idx.toNat ∧
        RegsBut [(CPH_SLOT_CMD_OP.bank a).addr] s t ∧ t = { s with csr := t.csr, shadow := s.shadow.filter (fun h => h.a != a) })

/-- An alarm zeroes every key, a second merges, the device key is derived again, lanes are tested, fenced and unfenced, firmware jobs run and end (R422, R424, R430, R431, R432, R433, R434, R438, R440, R671) -/
def Obligations.TheCipherEngineAlarmsTestsItsLanesAndRunsFirmwareJobs : Prop :=
  (∀ (s : State) (src : Fin 7),
      s.powered wCPH = true → s.alarmArmed src = true → s.rd CPH_STS_STATE ≠ 2 → s.rd CPH_STS_STATE ≠ 3 → s.dl.conns = [] → s.still → s.on CPH_CTL_CB_ZERO = false → s.cph.fwq = [] → s.rd YOK_STS_TWIN = 0 → 
      ∃ t, exec (.cipherAlarm src) s = .next t ∧ t.bitOf CPH_ALARM_STS_SOURCE src = true ∧ t.rd CPH_CNT_ALARMS = min (s.rd CPH_CNT_ALARMS + 1) 65535 ∧ t.on CPH_STS_ALARM_ACTIVE = true ∧ t.bitOf (FLT_LIVE_PRESENT 92) 2 = true ∧ t.rd CPH_STS_STATE = 3 ∧ t.cph.rkey = [] ∧ t.cph.ckey = [] ∧ t.cph.pkey = [] ∧ t.cph.fkey = [] ∧ t.cph.devKey = 0 ∧ t.cph.fwq = [] ∧ (∀ i : Fin 256, t.keyLoaded i = false) ∧ t.rd CPH_PFSLOT_FW_LOADED = 0 ∧ t.rd CPH_PFSLOT_PATH_LOADED = 0 ∧ (∀ k : Fin 16, t.rd ((CPH_KLD_KEY k).bank .h0) = 0 ∧ t.rd ((CPH_KLD_KEY k).bank .h1) = 0 ∧ t.rd ((CPH_KLD_KEY k).bank .h2) = 0 ∧ t.rd ((CPH_KLD_KEY k).bank .h3) = 0) ∧ (∀ i : Fin 256, t.on (CPH_RSLOT_KCV_SET i) = s.on (CPH_RSLOT_KCV_SET i)) ∧
        t.dr = s.dr ∧ t.win = s.win ∧ t.fur = s.fur ∧ t.hp = s.hp ∧ t.out = s.out) ∧
  (∀ (s : State) (src : Fin 7),
      s.powered wCPH = true → s.alarmArmed src = true → s.rd CPH_STS_STATE = 3 → 
      ∃ t, exec (.cipherAlarm src) s = .next t ∧ t.bitOf CPH_ALARM_STS_SOURCE src = true ∧ t.rd CPH_CNT_ALARMS = min (s.rd CPH_CNT_ALARMS + 1) 65535 ∧ t.on CPH_STS_ALARM_ACTIVE = true ∧ t.bitOf (FLT_LIVE_PRESENT 92) 2 = true ∧ t.rd CPH_STS_STATE = 3 ∧
        RegsBut ([CPH_ALARM_STS, CPH_CNT, CPH_ERR_LAST, CPH_STS] ++ fltKeys 92 ++ recKeys) s t ∧ RecOnly s t) ∧
  (∀ (s : State) (src : Fin 7),
      s.alarmArmed src = false → 
      exec (.cipherAlarm src) s = .next (s)) ∧
  (∀ (s : State) (a : Agent) (src : Nat),
      s.reaches a CPH_CTL = true → src = 5 → s.rd CPH_STS_STATE ≠ 2 → s.rd CPH_STS_STATE ≠ 3 → s.dl.conns = [] → s.still → s.on CPH_CTL_CB_ZERO = false → s.cph.fwq = [] → s.rd YOK_STS_TWIN = 0 → 
      ∃ t, exec (.cipherForce a) s = .next t ∧ t.bitOf CPH_ALARM_STS_SOURCE src = true ∧ t.rd CPH_CNT_ALARMS = min (s.rd CPH_CNT_ALARMS + 1) 65535 ∧ t.on CPH_STS_ALARM_ACTIVE = true ∧ t.bitOf (FLT_LIVE_PRESENT 92) 2 = true ∧ t.rd CPH_STS_STATE = 3 ∧ t.cph.rkey = [] ∧ t.cph.ckey = [] ∧ t.cph.pkey = [] ∧ t.cph.fkey = [] ∧ t.cph.devKey = 0 ∧ t.cph.fwq = [] ∧ (∀ i : Fin 256, t.keyLoaded i = false) ∧ t.rd CPH_PFSLOT_FW_LOADED = 0 ∧ t.rd CPH_PFSLOT_PATH_LOADED = 0 ∧ (∀ k : Fin 16, t.rd ((CPH_KLD_KEY k).bank .h0) = 0 ∧ t.rd ((CPH_KLD_KEY k).bank .h1) = 0 ∧ t.rd ((CPH_KLD_KEY k).bank .h2) = 0 ∧ t.rd ((CPH_KLD_KEY k).bank .h3) = 0) ∧
        t.dr = s.dr ∧ t.win = s.win ∧ t.fur = s.fur ∧ t.hp = s.hp ∧ t.out = s.out) ∧
  (∀ (s : State),
      s.powered wCPH = true → s.rd CPH_STS_STATE = 3 ∨ s.rd CPH_STS_STATE = 0 → s.otpRoot ≠ 0 → 
      ∃ t, exec .deviceKeyRederived s = .next t ∧ t.cph = { s.cph with devKey := deviceKey s.otpRoot } ∧ t.rd CPH_STS_STATE = 1 ∧
        RegsBut [CPH_STS] s t ∧ t = { s with csr := t.csr, cph := t.cph }) ∧
  (∀ (s : State),
      s.powered wCPH = true → s.rd CPH_STS_STATE = 3 ∨ s.rd CPH_STS_STATE = 0 → s.otpRoot = 0 → 
      ∃ t, exec .deviceKeyRederived s = .next t ∧ t.rd CPH_STS_STATE = 0 ∧
        RegsBut [CPH_STS] s t ∧ CsrOnly s t) ∧
  (∀ (s : State) (a : Agent) (v present : BitVec 7),
      s.reaches a CPH_ALARM_STS = true → s.bitOf (FLT_LIVE_PRESENT 92) 2 = true → 
      ∃ t, exec (.alarmStatusClear a v present) s = .next t ∧ t.rd CPH_ALARM_STS_SOURCE = (BitVec.ofNat 7 (s.rd CPH_ALARM_STS_SOURCE) &&& ~~~ (v &&& ~~~ present)).toNat ∧ t.on CPH_STS_ALARM_ACTIVE = (t.rd CPH_ALARM_STS_SOURCE != 0) ∧ t.bitOf (FLT_LIVE_PRESENT 92) 2 = (t.rd CPH_ALARM_STS_SOURCE != 0) ∧
        RegsBut [CPH_ALARM_STS, CPH_STS, FLT_LIVE 92] s t ∧ t = { s with csr := t.csr, shadow := s.shadow.filter (fun h => h.a != a) }) ∧
  (∀ (s : State) (a : Agent),
      s.reaches a CPH_CTL = true → s.cph.testing = [] → 
      ∃ t, exec (.cipherSelftest a) s = .next t ∧ t.cph = { s.cph with testing := List.range 69 } ∧ t.on CPH_STS_SELFTEST_BUSY = true ∧
        RegsBut [CPH_STS, UNIT wCPH] s t ∧ t = { s with csr := t.csr, cph := t.cph, shadow := s.shadow.filter (fun h => h.a != a) }) ∧
  (∀ (s : State) (l : Nat) (rest : List Nat),
      s.cph.testing = l :: rest → s.cph.lanesOut.contains l = false → l ≠ 68 → 
      ∃ t, exec (.laneTestEnd true) s = .next t ∧ t.cph = { s.cph with testing := rest } ∧ t.on CPH_STS_SELFTEST_BUSY = !rest.isEmpty ∧ t.rd CPH_STS_XTS_UP = t.lanesUp 0 36 % 256 ∧ t.rd CPH_STS_GCM_UP = t.lanesUp 36 68 % 256 ∧
        RegsBut [CPH_STS, UNIT wCPH] s t ∧ t = { s with csr := t.csr, cph := t.cph }) ∧
  (∀ (s : State) (l : Nat) (rest : List Nat),
      s.cph.testing = l :: rest → s.cph.lanesOut = [] → l < 68 → s.holds wCPH = false → s.on CPH_ERR_LAST_VALID = false → 
      ∃ t, exec (.laneTestEnd false) s = .next t ∧ t.cph = { s.cph with testing := rest, lanesOut := [l] } ∧ t.rd CPH_ERR_LAST_KIND = 2 ∧ t.rd CPH_ERR_LAST_INDEX = l ∧ t.bitOf (FLT_STS_CAUSE 92) 3 = true ∧ t.bitOf (FLT_STS_CAUSE 92) 1 = true ∧ t.on (UNIT_DEGRADED wCPH) = true ∧
        RegsBut ([CPH_STS, UNIT wCPH, CPH_ERR_LAST] ++ fltKeys 92 ++ recKeys) s t ∧ t = { s with csr := t.csr, rcd := t.rcd, cph := t.cph }) ∧
  (∀ (s : State) (a : Agent) (mode : Fin 4) (dec : Bool) (slot : Fin 16),
      s.reaches a CPH_FJ_CTL = true → s.on (CPH_FJ_CTL_BUSY.bank a) = false → s.cph.fwq = [] → 
      ∃ t, exec (.firmwareJob a mode dec slot) s = .next t ∧ t.on (CPH_FJ_CTL_BUSY.bank a) = true ∧ t.rd (CPH_FJ_CTL_MODE.bank a) = mode ∧ t.rd (CPH_FJ_CTL_SLOT.bank a) = slot ∧ t.cph.fwq.map (fun j => (j.agent, j.mode, j.dec, j.slot, j.len, j.key)) = [(a, mode.val, dec, slot.val, s.rd (CPH_FJ_LEN_LEN.bank a), some (if s.slotLoaded 3 slot then some (mget key0 s.cph.fkey slot) else none))] ∧
        RegsBut [(CPH_FJ_CTL_BUSY.bank a).addr] s t ∧ t = { s with csr := t.csr, cph := t.cph, shadow := s.shadow.filter (fun h => h.a != a) }) ∧
  (∀ (s : State) (a : Agent) (mode : Fin 4) (dec : Bool) (slot : Fin 16),
      s.reaches a CPH_FJ_CTL = true → s.on (CPH_FJ_CTL_BUSY.bank a) = true → 
      ∃ t, exec (.firmwareJob a mode dec slot) s = .next t ∧ t.rd (CPH_FJ_CTL_MODE.bank a) = mode ∧ t.on (CPH_FJ_CTL_DECRYPT.bank a) = dec ∧ t.rd (CPH_FJ_CTL_SLOT.bank a) = slot ∧ t.on (CPH_FJ_CTL_BUSY.bank a) = true ∧
        RegsBut [(CPH_FJ_CTL_MODE.bank a).addr] s t ∧ t = { s with csr := t.csr, shadow := s.shadow.filter (fun h => h.a != a) }) ∧
  (∀ (s : State) (j : FwJob) (k : Key) (na : Nat),
      s.cph.fwq = [j] → s.on CPH_STS_FW_UP = true → s.cph.fwBad = false → s.agentSecure j.agent = true ∨ 8 ≤ j.slot → j.lenOk = true → j.key = some (some k) → j.mode = 3 → na = 0 → j.dst + j.len ≤ workBytes → 
      ∃ t, exec .firmwareJobEnd s = .next t ∧ t.rd (CPH_FJ_CTL_RESULT.bank j.agent) = 0 ∧ t.on (CPH_FJ_CTL_BUSY.bank j.agent) = false ∧ t.cph.fwq = [] ∧ t.cph.work = wrBytes s.cph.work j.dst (j.run k (s.workRead j.src (na + j.len) |>.take na) (s.workRead j.src (na + j.len) |>.drop na)).1 ∧ t.rd (CPH_FJ_IV_LO_IV.bank j.agent) = (j.run k (s.workRead j.src (na + j.len) |>.take na) (s.workRead j.src (na + j.len) |>.drop na)).2.2.toNat % 2 ^ 64 ∧
        RegsBut [(CPH_FJ_CTL_BUSY.bank j.agent).addr, (CPH_FJ_IV_LO_IV.bank j.agent).addr, (CPH_FJ_IV_HI_IV.bank j.agent).addr] s t ∧ t = { s with csr := t.csr, cph := t.cph, fresh := t.fresh }) ∧
  (∀ (s : State) (j : FwJob),
      s.cph.fwq = [j] → s.on CPH_STS_FW_UP = true → s.cph.fwBad = false → s.agentSecure j.agent = true ∨ 8 ≤ j.slot → j.lenOk = true → j.key = some none → 
      ∃ t, exec .firmwareJobEnd s = .next t ∧ t.rd (CPH_FJ_CTL_RESULT.bank j.agent) = 2 ∧ t.on (CPH_FJ_CTL_BUSY.bank j.agent) = false ∧ t.cph.fwq = [] ∧ t.rd CPH_CNT_KEY_LOST = min (s.rd CPH_CNT_KEY_LOST + 1) 65535 ∧ t.bitOf (FLT_STS_CAUSE 92) 4 = true ∧
        t.cph.work = s.cph.work ∧ t.out = s.out) ∧
  (∀ (s : State) (j : FwJob),
      s.cph.fwq = [j] → s.on CPH_STS_FW_UP = true → s.cph.fwBad = false → s.agentSecure j.agent = true ∨ 8 ≤ j.slot → j.lenOk = false → 
      ∃ t, exec .firmwareJobEnd s = .next t ∧ t.rd (CPH_FJ_CTL_RESULT.bank j.agent) = 3 ∧ t.on (CPH_FJ_CTL_BUSY.bank j.agent) = false ∧ t.cph.fwq = [] ∧
        RegsBut [(CPH_FJ_CTL_BUSY.bank j.agent).addr] s t ∧ t = { s with csr := t.csr, cph := t.cph }) ∧
  (∀ (s : State) (j : FwJob),
      s.cph.fwq = [j] → s.on CPH_STS_FW_UP = true → s.cph.fwBad = false → s.agentSecure j.agent = false → j.slot < 8 → 
      ∃ t, exec .firmwareJobEnd s = .next t ∧ t.rd (CPH_FJ_CTL_RESULT.bank j.agent) = 4 ∧ t.on (CPH_FJ_CTL_BUSY.bank j.agent) = false ∧ t.cph.fwq = [] ∧
        RegsBut [(CPH_FJ_CTL_BUSY.bank j.agent).addr] s t ∧ t = { s with csr := t.csr, cph := t.cph }) ∧
  (∀ (s : State) (j : FwJob),
      s.cph.fwq = [j] → s.on CPH_STS_FW_UP = false → 
      ∃ t, exec .firmwareJobEnd s = .next t ∧ t.rd (CPH_FJ_CTL_RESULT.bank j.agent) = 5 ∧ t.on (CPH_FJ_CTL_BUSY.bank j.agent) = false ∧ t.cph.fwq = [] ∧
        RegsBut [(CPH_FJ_CTL_BUSY.bank j.agent).addr] s t ∧ t = { s with csr := t.csr, cph := t.cph })

/-- PROGRAM stores its words; ERASE begins, is suspended, resumed or aborted and ends pulse by pulse; a call that may not run answers its result (R526, R530, R531, R532, R533, R534, R535, R536) -/
def Obligations.TheRomRoutineProgramsAndErasesTheEmbeddedFlash : Prop :=
  (∀ (s : State) (n : Fin 4) (bank word : Nat) (data : List (BitVec 256)),
      s.romCaller n = true → s.programErr bank word data.length = none → 
      ∃ t, exec (.eflProgram n bank word data []) s = .next t ∧ t.rd EFL_STS_RESULT = 0 ∧ t.rd EFL_STS_FUNC = 1 ∧ (∀ i : Fin 124, i.val < data.length → t.eflWord bank (word + i) = data.getD i 0) ∧ t.rd EFL_CNT_PROGRAMS = min (s.rd EFL_CNT_PROGRAMS + data.length) (2 ^ 32 - 1) ∧
        RegsBut ([EFL_CMD, EFL_ADDR, EFL_STS, EFL_CNT] ++ (List.range 4).map EFL_WDATA) s t ∧ t = { s with csr := t.csr, efl := { s.efl with words := t.efl.words } } ∧
        (∀ k, (k < bank * 524288 + word ∨ bank * 524288 + word + data.length ≤ k) → mget eflOnes t.efl.words k = mget eflOnes s.efl.words k)) ∧
  (∀ (s : State) (n : Fin 4) (bank word e : Nat) (data : List (BitVec 256)) (bad : List Nat),
      s.romCaller n = true → s.programErr bank word data.length = some e → 
      ∃ t, exec (.eflProgram n bank word data bad) s = .next t ∧ t.rd EFL_STS_RESULT = e ∧ t.rd EFL_STS_FUNC = 1 ∧
        RegsBut [EFL_STS] s t ∧ CsrOnly s t) ∧
  (∀ (s : State) (n : Fin 4) (bank word : Nat) (d : BitVec 256),
      s.romCaller n = true → s.programErr bank word 1 = none → 
      ∃ t, exec (.eflProgram n bank word [d] [0]) s = .next t ∧ t.rd EFL_STS_RESULT = 5 ∧ t.rd EFL_STS_FUNC = 1 ∧ t.bitOf (FLT_STS_CAUSE 95) 3 = true ∧ t.fresh = s.fresh + 1 ∧
        RegsBut ([EFL_CMD, EFL_ADDR, EFL_STS, EFL_CNT] ++ (List.range 4).map EFL_WDATA ++ fltKeys 95 ++ recKeys) s t) ∧
  (∀ (s : State) (n : Fin 4) (self : Option Bool) (bank sector : Nat),
      s.romCaller n = true → s.efl.erase = none → bank ≤ 1 → sector ≤ 255 → self ≠ some (decide (bank = 1)) → 
      ∃ t, exec (.eflErase n self bank sector) s = .next t ∧ t.rd EFL_STS_RESULT = 0 ∧ t.rd EFL_STS_FUNC = 2 ∧ t.efl = { s.efl with erase := some { bank := bank, sector := sector, since := s.now } } ∧ t.rd EFL_STS_STATE = 2 ∧ t.rd EFL_STS_ERASE_BANK = bank ∧ t.rd EFL_STS_ERASE_SECTOR = sector ∧ t.on EFL_ERASE_STS_STARVED = false ∧ t.rd EFL_ERASE_STS_PULSES = 0 ∧ t.rd EFL_ERASE_STS_SUSPENDS = 0 ∧ t.rd EFL_ERASE_STS_ELAPSED_MS = 0 ∧
        RegsBut ([EFL_CMD, EFL_ADDR, EFL_STS, EFL_ERASE_STS] ++ (List.range 4).map EFL_WDATA) s t ∧ t = { s with csr := t.csr, efl := t.efl }) ∧
  (∀ (s : State) (n : Fin 4) (bank sector : Nat),
      s.romCaller n = true → bank ≤ 1 → 
      ∃ t, exec (.eflErase n (some (decide (bank = 1))) bank sector) s = .next t ∧ t.rd EFL_STS_RESULT = 1 ∧ t.rd EFL_STS_FUNC = 2 ∧
        RegsBut [EFL_STS] s t ∧ CsrOnly s t) ∧
  (∀ (s : State) (n : Fin 4) (bank sector : Nat),
      s.romCaller n = true → s.efl.erase.isSome = true → 
      ∃ t, exec (.eflErase n none bank sector) s = .next t ∧ t.rd EFL_STS_RESULT = 2 ∧ t.rd EFL_STS_FUNC = 2 ∧
        RegsBut [EFL_STS] s t ∧ CsrOnly s t) ∧
  (∀ (s : State) (n : Fin 4) (bank sector : Nat),
      s.romCaller n = true → s.efl.erase = none → 1 < bank ∨ 255 < sector → 
      ∃ t, exec (.eflErase n none bank sector) s = .next t ∧ t.rd EFL_STS_RESULT = 3 ∧ t.rd EFL_STS_FUNC = 2 ∧
        RegsBut [EFL_STS] s t ∧ CsrOnly s t) ∧
  (∀ (s : State) (n : Fin 4) (e : EraseOp),
      s.romCaller n = true → s.efl.erase = some e → e.suspended = false → e.resumes < 16 → 
      ∃ t, exec (.eflSuspend n) s = .next t ∧ t.rd EFL_STS_RESULT = 0 ∧ t.rd EFL_STS_FUNC = 3 ∧ t.efl = { s.efl with erase := some { e with suspended := true } } ∧ t.rd EFL_STS_STATE = 3 ∧ t.rd EFL_ERASE_STS_SUSPENDS = min (s.rd EFL_ERASE_STS_SUSPENDS + 1) 65535 ∧ t.rd EFL_ERASE_STS_ELAPSED_MS = min (2 ^ 24 - 1) ((s.now - e.since) / 1000000) ∧
        RegsBut [EFL_CMD, EFL_STS, EFL_ERASE_STS] s t ∧ t = { s with csr := t.csr, efl := t.efl }) ∧
  (∀ (s : State) (n : Fin 4) (e : EraseOp),
      s.romCaller n = true → s.efl.erase = some e → e.suspended = false → 16 ≤ e.resumes → 
      ∃ t, exec (.eflSuspend n) s = .next t ∧ t.rd EFL_STS_RESULT = 0 ∧ t.rd EFL_STS_FUNC = 3 ∧ t.efl = { s.efl with erase := some { e with suspended := true } } ∧ t.rd EFL_STS_STATE = 3 ∧ t.on EFL_ERASE_STS_STARVED = true ∧ t.bitOf (FLT_LIVE_PRESENT 95) 4 = true ∧
        RegsBut ([EFL_CMD, EFL_STS, EFL_ERASE_STS] ++ fltKeys 95 ++ recKeys) s t ∧ t = { s with csr := t.csr, rcd := t.rcd, efl := t.efl }) ∧
  (∀ (s : State) (n : Fin 4) (e : EraseOp),
      s.romCaller n = true → s.efl.erase = some e → e.suspended = true → 
      ∃ t, exec (.eflResume n) s = .next t ∧ t.rd EFL_STS_RESULT = 0 ∧ t.rd EFL_STS_FUNC = 4 ∧ t.efl = { s.efl with erase := some { e with suspended := false, resumes := e.resumes + 1 } } ∧ t.rd EFL_STS_STATE = 2 ∧
        RegsBut [EFL_CMD, EFL_STS, EFL_ERASE_STS] s t ∧ t = { s with csr := t.csr, efl := t.efl }) ∧
  (∀ (s : State) (n : Fin 4),
      s.romCaller n = true → s.efl.erase = none → 
      exec (.eflStatus n) s = .next ({ s with out := .ctrl (coreAgent n) (s.rdW EFL_ERASE_STS) :: .ctrl (coreAgent n) (s.rdW EFL_STS) :: s.out })) ∧
  (∀ (s : State) (n : Fin 4) (e : EraseOp),
      s.romCaller n = true → s.efl.erase = some e → e.bank ≤ 1 → e.sector ≤ 255 → 
      ∃ t, exec (.eflAbort n) s = .next t ∧ t.rd EFL_STS_RESULT = 0 ∧ t.rd EFL_STS_FUNC = 6 ∧ t.efl.erase = none ∧ t.incmp e.bank e.sector = true ∧ t.rd EFL_CNT_ABORTS = min (s.rd EFL_CNT_ABORTS + 1) 65535 ∧ t.on EFL_ERASE_STS_STARVED = false ∧ t.bitOf (FLT_LIVE_PRESENT 95) 4 = false ∧ t.rd EFL_STS_STATE = 0 ∧ t.fresh = s.fresh + 2048 ∧
        RegsBut [EFL_CMD, EFL_STS, EFL_ERASE_STS, EFL_CNT, FLT_LIVE 95, EFL_INCMP (8 * e.bank + e.sector / 32)] s t ∧ t = { s with csr := t.csr, efl := t.efl, fresh := t.fresh } ∧
        (∀ k, (k < e.bank * 524288 + e.sector * 2048 ∨ e.bank * 524288 + e.sector * 2048 + 2048 ≤ k) → mget eflOnes t.efl.words k = mget eflOnes s.efl.words k)) ∧
  (∀ (s : State) (n : Fin 4),
      s.romCaller n = true → s.efl.erase = none → 
      ∃ t, exec (.eflSuspend n) s = .next t ∧ t.rd EFL_STS_RESULT = 6 ∧ t.rd EFL_STS_FUNC = 3 ∧
        RegsBut [EFL_STS] s t ∧ CsrOnly s t) ∧
  (∀ (s : State) (n : Fin 4),
      s.romCaller n = true → s.efl.erase = none → 
      ∃ t, exec (.eflResume n) s = .next t ∧ t.rd EFL_STS_RESULT = 6 ∧ t.rd EFL_STS_FUNC = 4 ∧
        RegsBut [EFL_STS] s t ∧ CsrOnly s t) ∧
  (∀ (s : State) (n : Fin 4),
      s.romCaller n = true → s.efl.erase = none → 
      ∃ t, exec (.eflAbort n) s = .next t ∧ t.rd EFL_STS_RESULT = 6 ∧ t.rd EFL_STS_FUNC = 6 ∧
        RegsBut [EFL_STS] s t ∧ CsrOnly s t) ∧
  (∀ (s : State) (e : EraseOp),
      s.efl.erase = some e → e.suspended = false → e.bank ≤ 1 → e.sector ≤ 255 → 
      ∃ t, exec (.erasePulseEnd true) s = .next t ∧ t.rd EFL_STS_RESULT = 0 ∧ t.rd EFL_STS_FUNC = 2 ∧ t.efl.erase = none ∧ (∀ k : Fin 2048, t.eflWord e.bank (e.sector * 2048 + k) = BitVec.allOnes 256) ∧ t.incmp e.bank e.sector = false ∧ t.rd EFL_CNT_ERASES = min (s.rd EFL_CNT_ERASES + 1) 65535 ∧ t.rd EFL_STS_STATE = 0 ∧ (e.sector = 0 → t.rd (failsFld e.bank) = 0) ∧
        RegsBut [EFL_STS, EFL_ERASE_STS, EFL_CNT, FLT_LIVE 95, EFL_BOOT, EFL_INCMP (8 * e.bank + e.sector / 32)] s t ∧ t = { s with csr := t.csr, efl := t.efl } ∧
        (∀ k, (k < e.bank * 524288 + e.sector * 2048 ∨ e.bank * 524288 + e.sector * 2048 + 2048 ≤ k) → mget eflOnes t.efl.words k = mget eflOnes s.efl.words k)) ∧
  (∀ (s : State) (e : EraseOp),
      s.efl.erase = some e → e.suspended = false → e.pulses < 119 → 
      ∃ t, exec (.erasePulseEnd false) s = .next t ∧ t.efl = { s.efl with erase := some { e with pulses := e.pulses + 1, resumes := 0 } } ∧ t.rd EFL_ERASE_STS_PULSES = e.pulses + 1 ∧
        RegsBut [EFL_ERASE_STS] s t ∧ t = { s with csr := t.csr, efl := t.efl }) ∧
  (∀ (s : State) (e : EraseOp),
      s.efl.erase = some e → e.suspended = false → e.pulses = 119 → e.bank ≤ 1 → e.sector ≤ 255 → 
      ∃ t, exec (.erasePulseEnd false) s = .next t ∧ t.rd EFL_STS_RESULT = 5 ∧ t.rd EFL_STS_FUNC = 2 ∧ t.efl.erase = none ∧ t.incmp e.bank e.sector = true ∧ t.bitOf (FLT_STS_CAUSE 95) 3 = true ∧ t.rd EFL_STS_STATE = 0 ∧
        t = { s with csr := t.csr, rcd := t.rcd, efl := t.efl, fresh := t.fresh } ∧
        (∀ k, (k < e.bank * 524288 + e.sector * 2048 ∨ e.bank * 524288 + e.sector * 2048 + 2048 ≤ k) → mget eflOnes t.efl.words k = mget eflOnes s.efl.words k))

/-- OTP words are programmed where ruled, the root is generated once, the ROM boots the first bank that verifies or recovers, the watchdog counts and resets (R537, R538, R541, R542, R543, R544, R545, R546) -/
def Obligations.OtpBootAndTheWatchdogFollowTheirRules : Prop :=
  (∀ (s : State) (n : Fin 4) (w : Nat) (v : Word64),
      s.romCaller n = true → s.otpErr n w v = none → 
      ∃ t, exec (.otpProgram n w v true) s = .next t ∧ t.rd EFL_STS_RESULT = 0 ∧ t.rd EFL_STS_FUNC = 7 ∧ t.otpWord w = (if 22 ≤ w ∧ w ≤ 30 then s.otpWord w ||| v else v) ∧ (∀ k : Fin 64, k.val ≠ w → t.otpWord k = s.otpWord k) ∧ t.efl.otpDone.contains w = true ∧ t.rd EFL_BOOT_FLOOR = t.floor ∧
        RegsBut ([EFL_CMD, EFL_ADDR, EFL_STS, EFL_BOOT] ++ (List.range 4).map EFL_WDATA) s t ∧ t = { s with csr := t.csr, efl := t.efl }) ∧
  (∀ (s : State) (n : Fin 4) (w e : Nat) (v : Word64) (ok : Bool),
      s.romCaller n = true → s.otpErr n w v = some e → 
      ∃ t, exec (.otpProgram n w v ok) s = .next t ∧ t.rd EFL_STS_RESULT = e ∧ t.rd EFL_STS_FUNC = 7 ∧
        RegsBut [EFL_STS] s t ∧ CsrOnly s t) ∧
  (∀ (s : State) (n : Fin 4),
      s.romCaller n = true → s.eflBusy = false → s.agentSecure (coreAgent n) = true → ∀ i : Fin 4, s.otpWord (4 + i) = 0 → 
      ∃ t, exec (.otpGenRoot n) s = .next t ∧ t.rd EFL_STS_RESULT = 0 ∧ t.rd EFL_STS_FUNC = 8 ∧ (∀ i : Fin 4, t.otpWord (4 + i) = Config.freeWord (s.fresh + i)) ∧ t.fresh = s.fresh + 4 ∧
        RegsBut [EFL_CMD, EFL_STS] s t ∧ t = { s with csr := t.csr, efl := t.efl, fresh := t.fresh } ∧
        (∀ k, (k < 4 ∨ 7 < k) → t.otpWord k = s.otpWord k)) ∧
  (∀ (s : State) (n : Fin 4) (i : Fin 4),
      s.romCaller n = true → s.eflBusy = false → s.agentSecure (coreAgent n) = true → s.otpWord (4 + i) ≠ 0 → 
      ∃ t, exec (.otpGenRoot n) s = .next t ∧ t.rd EFL_STS_RESULT = 4 ∧ t.rd EFL_STS_FUNC = 8 ∧
        RegsBut [EFL_STS] s t ∧ CsrOnly s t) ∧
  (∀ (s : State) (n : Fin 4),
      s.romCaller n = true → s.eflBusy = false → s.agentSecure (coreAgent n) = false → 
      ∃ t, exec (.otpGenRoot n) s = .next t ∧ t.rd EFL_STS_RESULT = 7 ∧ t.rd EFL_STS_FUNC = 8 ∧
        RegsBut [EFL_STS] s t ∧ CsrOnly s t) ∧
  (∀ (s : State),
      ((List.range 4).any fun n => s.coreState n == 1) = true → 
      ∃ t, exec (.romBoot [] 0 0) s = .next t ∧ (s.bootOrder.find? s.verifies = none → t.on EFL_BOOT_RECOVERY = true ∧ t.bitOf (FLT_LIVE_PRESENT 95) 8 = true ∧ t.efl.running = s.efl.running ∧ ∀ n : Fin 4, t.coreState n = s.coreState n) ∧ (∀ b ∈ s.bootOrder, s.bootOrder.find? s.verifies = some b → t.on EFL_BOOT_RECOVERY = false ∧ t.rd EFL_BOOT_BANK_RUN = b ∧ t.efl.running = some b ∧ t.efl.kicked = false ∧ t.rd (HDL_CORE_STS_STATE 0) ≠ 1) ∧
        t.efl.words = s.efl.words ∧ t.efl.otp = s.efl.otp ∧ t.rd EFL_BOOT_FLOOR = s.floor) ∧
  (∀ (s : State) (otp : List (Fin 64)) (dram nand : Fin 6),
      ((List.range 4).any fun n => s.coreState n == 1) = false → 
      exec (.romBoot otp dram nand) s = .next (s)) ∧
  (∀ (s : State) (b : Nat),
      s.efl.running = some b → ((List.range 4).any fun n => s.coreState n == 2) = true → (s.eflNum b 0x00A 2).testBit 0 = true → (s.eflNum b 0x00A 2).testBit 1 = false → 
      ∃ t, exec .imageFlagActivation s = .next t ∧ min 64 (s.rollback b) ≤ t.floor ∧ t.rd EFL_BOOT_FLOOR = t.floor ∧
        RegsBut [EFL_BOOT] s t ∧ t = { s with csr := t.csr, efl := t.efl } ∧ t.efl.words = s.efl.words) ∧
  (∀ (s : State) (b : Nat),
      s.efl.running = some b → ((List.range 4).any fun n => s.coreState n == 2) = true → (s.eflNum b 0x00A 2).testBit 0 = false → (s.eflNum b 0x00A 2).testBit 1 = true → s.efl.keyB = true → s.keyBPresent = true → 
      ∃ t, exec .imageFlagActivation s = .next t ∧ t.otpWord 22 = BitVec.allOnes 64 ∧
        t = { s with efl := t.efl } ∧
        (∀ k, k ≠ 22 → t.otpWord k = s.otpWord k)) ∧
  (∀ (s : State) (b : Nat),
      s.efl.running = some b → (s.eflNum b 0x00A 2).testBit 0 = false → (s.eflNum b 0x00A 2).testBit 1 = false → 
      exec .imageFlagActivation s = .next (s)) ∧
  (∀ (s : State) (a : Agent),
      s.reaches a EFL_WDT_CTL = true → 
      ∃ t, exec (.wdtKick a) s = .next t ∧ t.efl = { s.efl with wdtAt := s.now, kicked := true, resetAt := none } ∧ t.on EFL_WDT_STS_WINDOW = false ∧ t.rd EFL_WDT_STS_ABSENT_S = 0 ∧
        RegsBut [EFL_WDT_STS] s t ∧ t = { s with csr := t.csr, efl := t.efl, shadow := s.shadow.filter (fun h => h.a != a) }) ∧
  (∀ (s : State) (b : Nat),
      s.on EFL_WDT_CTL_ENABLE = true → s.cs.fw = none → s.efl.erase = none → s.efl.running = some b → b ≤ 1 → s.hrvBusy = true → 
      ∃ t, exec (.wdtExpiry none) s = .next t ∧ t.rd EFL_WDT_STS_EXPIRIES = min (s.rd EFL_WDT_STS_EXPIRIES + 1) 65535 ∧ t.bitOf (FLT_STS_CAUSE 95) 5 = true ∧ t.rd (failsFld b) = (if s.efl.kicked then s.rd (failsFld b) else min (s.rd (failsFld b) + 1) 3) ∧ t.hv.latched = s.hv.latched ||| 2 ^ 5 ∧ t.on HRV_STS_RESET_LATCHED = true ∧ t.efl = { s.efl with wdtAt := s.now } ∧
        RegsBut ([EFL_WDT_STS, EFL_BOOT, HRV_STS, RST_CNT] ++ fltKeys 95 ++ recKeys) s t ∧ t = { s with csr := t.csr, rcd := t.rcd, efl := t.efl, hv := t.hv }) ∧
  (∀ (s : State) (e : EraseOp),
      s.on EFL_WDT_CTL_ENABLE = true → s.cs.fw = none → s.efl.erase = some e → e.bank ≤ 1 → e.sector ≤ 255 → s.hrvBusy = true → 
      ∃ t, exec (.wdtExpiry none) s = .next t ∧ t.rd EFL_WDT_STS_EXPIRIES = min (s.rd EFL_WDT_STS_EXPIRIES + 1) 65535 ∧ t.bitOf (FLT_STS_CAUSE 95) 5 = true ∧ t.efl.erase = none ∧ t.incmp e.bank e.sector = true ∧ t.rd EFL_CNT_ABORTS = min (s.rd EFL_CNT_ABORTS + 1) 65535 ∧ t.on EFL_ERASE_STS_STARVED = false ∧ t.bitOf (FLT_LIVE_PRESENT 95) 4 = false ∧ t.rd EFL_STS_STATE = 0 ∧ t.rd EFL_STS_RESULT = 8 ∧ t.rd EFL_STS_FUNC = 2 ∧
        t.efl.otp = s.efl.otp ∧
        (∀ k, (k < e.bank * 524288 + e.sector * 2048 ∨ e.bank * 524288 + e.sector * 2048 + 2048 ≤ k) → mget eflOnes t.efl.words k = mget eflOnes s.efl.words k)) ∧
  (∀ (s : State),
      s.on EFL_WDT_CTL_ENABLE = true → s.cs.fw = none → s.efl.erase = none → s.hrvBusy = false → s.on RST_GRP_STS_BUSY = false → 
      ∃ t, exec (.wdtExpiry none) s = .next t ∧ t.rd EFL_WDT_STS_EXPIRIES = min (s.rd EFL_WDT_STS_EXPIRIES + 1) 65535 ∧ t.bitOf (FLT_STS_CAUSE 95) 5 = true ∧ t.rs.groups = 2 ^ 5 ∧ t.rd RST_GRP_STS_IN_RESET = 2 ^ 5 ∧ t.on RST_GRP_STS_BUSY = true ∧ t.rd RST_CAUSE_GRP_CAUSE = 2 ∧
        t.efl.words = s.efl.words ∧ t.efl.otp = s.efl.otp) ∧
  (∀ (s : State) (cut : Option EflCut),
      s.on EFL_WDT_CTL_ENABLE = false → 
      exec (.wdtExpiry cut) s = .next (s)) ∧
  (∀ (s : State),
      s.on EFL_WDT_STS_WINDOW = true → s.pwr ≠ 2 → 
      ∃ t, exec .wdtEscalation s = .next t ∧ t.rd EFL_WDT_STS_ABSENT_S = 60 ∧ t.on EFL_WDT_STS_ESCALATED = true ∧ t.bitOf (FLT_STS_CAUSE 95) 6 = true ∧
        RegsBut (EFL_WDT_STS :: fltKeys 95 ++ recKeys) s t ∧ RecOnly s t) ∧
  (∀ (s : State),
      s.on EFL_WDT_STS_WINDOW = false → 
      exec .wdtEscalation s = .next (s))

/-- IDENTIFY, HEALTH and BG_STATUS answer the device's state; ACCESS_SET, WORLD_CONFIG, CAPACITY_SET, LD_BIND and CG_SET take effect or answer why not (R467, R468, R471, R477, R478, R479, R480, R481, R482, R488, R489) -/
def Obligations.IdentityHealthAccessWorldsAndCapacityAreAnswered : Prop :=
  (∀ (s : State) (c : Fin 64) (m : Cmd),
      s.asked c 0xC000 m .q true [0] false [] → 
      ∃ t, exec (.identify c) s = .next t ∧ s.answered t m 0 ∧ (t.ansP m).take 16 = padTo 16 partNumber ∧ t.ans m 16 3 = ofBytes s.fwVersion ∧ t.ans m 19 1 = s.rd EFL_BOOT_BANK_RUN ∧ t.ans m 20 8 = (s.otpWord 0).toNat ∧ t.ans m 28 8 = (s.otpWord 1).toNat ∧ t.ans m 36 4 = s.rd TIN_DPA_LIMIT_CAP_GIB ∧ t.ans m 47 1 = (if m.kind = 1 then m.source % 256 else 0xFF) ∧ t.ans m 48 4 = s.fwBuild % 2 ^ 32 ∧ t.ans m 52 1 = (if s.locked then 1 else 0) + (if s.hv.world.isSome then 2 else 0) ∧
        (s.plain c m → RegsBut (mailKeys c) s t ∧ t = { s with csr := t.csr, rcd := t.rcd, mb := t.mb, cs := s.cs.but t.cs, out := t.out })) ∧
  (∀ (s : State) (c : Fin 64) (m : Cmd) (temp : BitVec 16),
      s.asked c 0xC001 m .q false [0] false [] → 
      ∃ t, exec (.health c temp) s = .next t ∧ s.answered t m 0 ∧ t.ans m 0 4 = s.healthBits ∧ t.ans m 8 4 = s.poisonedPages % 2 ^ 32 ∧ t.ans m 16 2 = temp.toNat ∧ t.ans m 18 2 = s.rd PWR_VLOOP_STS_POWER_W * 10 % 65536 ∧ t.ans m 20 4 = s.lifeUsed % 2 ^ 32 ∧ t.ans m 24 4 = s.hv.dirtyShut % 2 ^ 32 ∧
        (s.plain c m → RegsBut (mailKeys c) s t ∧ t = { s with csr := t.csr, rcd := t.rcd, mb := t.mb, cs := s.cs.but t.cs, out := t.out })) ∧
  (∀ (s : State) (c : Fin 64) (m : Cmd),
      s.asked c 0xC002 m .q false [0] false [] → s.bgOf c = none → 
      ∃ t, exec (.bgStatus c) s = .next t ∧ s.answered t m 0 ∧ t.ansP m = List.replicate 56 0 ∧
        (s.plain c m → RegsBut (mailKeys c) s t ∧ t = { s with csr := t.csr, rcd := t.rcd, mb := t.mb, cs := s.cs.but t.cs, out := t.out })) ∧
  (∀ (s : State) (c : Fin 64) (m : Cmd) (b : BgCmd),
      s.asked c 0xC002 m .q false [0] false [] → s.bgOf c = some b → b.done = true → 
      ∃ t, exec (.bgStatus c) s = .next t ∧ s.answered t m 0 ∧ t.ans m 0 2 = b.op % 65536 ∧ t.ans m 2 1 = 2 ∧ t.ans m 3 1 = 100 ∧ t.ans m 4 2 = b.final % 65536 ∧ t.ans m 8 4 = (b.til - b.since) / 1000000 % 2 ^ 32 ∧
        (s.plain c m → RegsBut (mailKeys c) s t ∧ t = { s with csr := t.csr, rcd := t.rcd, mb := t.mb, cs := s.cs.but t.cs, out := t.out })) ∧
  (∀ (s : State) (c : Fin 64) (m : Cmd) (b : BgCmd),
      s.asked c 0xC002 m .q false [0] false [] → s.bgOf c = some b → b.done = false → b.job = .granary → s.grn.building = true → 
      ∃ t, exec (.bgStatus c) s = .next t ∧ s.answered t m 0 ∧ t.ans m 0 2 = b.op % 65536 ∧ t.ans m 2 1 = 1 ∧ t.ans m 4 2 = 0 ∧ t.ans m 8 4 = (s.now - b.since) / 1000000 % 2 ^ 32 ∧
        (s.plain c m → RegsBut (mailKeys c) s t ∧ t = { s with csr := t.csr, rcd := t.rcd, mb := t.mb, cs := s.cs.but t.cs, out := t.out })) ∧
  (∀ (s : State) (c : Fin 64) (m : Cmd),
      s.asked c 0xC003 m .b false [0] false [(0, 4)] → 
      ∃ t, exec (.accessSet c) s = .next t ∧ s.answered t m 0 ∧ t.cs.admin = m.num 0 4 ∧
        (s.plain c m → RegsBut (mailKeys c) s t ∧ t = { s with csr := t.csr, rcd := t.rcd, mb := t.mb, cs := { s.cs.but t.cs with admin := t.cs.admin }, out := t.out })) ∧
  (∀ (s : State) (c : Fin 64) (m : Cmd),
      s.asked c 0xC004 m .b false [0] false [(0, 25)] → s.hv.world = none → s.locked = false → m.num 22 2 ≤ 256 → m.byte 24 ≤ 1 → 
      ∃ t, exec (.worldConfig c) s = .next t ∧ s.answered t m 0 ∧ (∀ n : Fin 64, t.on (TIN_LDB_WORLD n) = (m.num 0 8).testBit n ∧ t.on (TIN_CGB_WORLD n) = (m.num 8 8).testBit n) ∧ t.rd TIN_WORLD_MBX_HOST_S = m.num 16 4 ∧ t.rd TIN_WORLD_MBX_INT_S = m.num 20 2 ∧ t.rd TIN_WORLD_KEYS_S_SLOTS = m.num 22 2 ∧ t.locked = decide (m.byte 24 = 1) ∧ t.hv.world.isSome = true ∧
        (s.plain c m → RegsBut (mailKeys c ++ worldRegs ++ [TIN_WORLD_LOCK]) s t) ∧
        (s.plain c m → t = { s with csr := t.csr, rcd := t.rcd, mb := t.mb, cs := s.cs.but t.cs, out := t.out, hv := { s.hv with world := t.hv.world } })) ∧
  (∀ (s : State) (c : Fin 64) (m : Cmd),
      s.asked c 0xC004 m .b false [0] false [(0, 25)] → s.hv.world ≠ none → s.anyRegion = false → m.num 22 2 ≤ 256 → m.byte 24 ≤ 1 → 
      ∃ t, exec (.worldConfig c) s = .next t ∧ s.answered t m 0 ∧ t.hv.world = some (s.worldOf m) ∧
        (s.plain c m → RegsBut (mailKeys c) s t ∧ t = { s with csr := t.csr, rcd := t.rcd, mb := t.mb, cs := s.cs.but t.cs, out := t.out, hv := { s.hv with world := t.hv.world } })) ∧
  (∀ (s : State) (c : Fin 64) (m : Cmd),
      s.asked c 0xC004 m .b false [0] false [(0, 25)] → s.hv.world ≠ none ∧ s.anyRegion = true ∨ s.hv.world = none ∧ s.locked = true → s.worldInForce m = false → m.num 22 2 ≤ 256 → m.byte 24 ≤ 1 → 
      ∃ t, exec (.worldConfig c) s = .next t ∧ s.answered t m 0xC004 ∧
        (s.plain c m → RegsBut (mailKeys c) s t ∧ t = { s with csr := t.csr, rcd := t.rcd, mb := t.mb, cs := s.cs.but t.cs, out := t.out })) ∧
  (∀ (s : State) (c : Fin 64) (m : Cmd),
      s.asked c 0xC004 m .b false [0] false [(0, 25)] → s.anyRegion = true → s.worldInForce m = true → m.num 22 2 ≤ 256 → m.byte 24 ≤ 1 → 
      ∃ t, exec (.worldConfig c) s = .next t ∧ s.answered t m 0 ∧
        (s.plain c m → RegsBut (mailKeys c) s t ∧ t = { s with csr := t.csr, rcd := t.rcd, mb := t.mb, cs := s.cs.but t.cs, out := t.out })) ∧
  (∀ (s : State) (c : Fin 64) (m : Cmd),
      s.asked c 0xC004 m .b false [0] false [(0, 25)] → 256 < m.num 22 2 ∨ 1 < m.byte 24 → 
      ∃ t, exec (.worldConfig c) s = .next t ∧ s.answered t m 2 ∧
        (s.plain c m → RegsBut (mailKeys c) s t ∧ t = { s with csr := t.csr, rcd := t.rcd, mb := t.mb, cs := s.cs.but t.cs, out := t.out })) ∧
  (∀ (s : State) (c : Fin 64) (m : Cmd),
      s.asked c 0xC100 m .a false [0] false [(0, 4)] → s.bgRuns c = false → s.capInForce (m.num 0 4) = false → 0 < m.num 0 4 → m.num 0 4 ≤ 65536 → s.anyRegion = false → (s.dl.conns.any fun x => x.2.state != 0) = false → s.grn.held = [] → 2 * (reserveGib (m.num 0 4) * 262144 + s.grnCount) ≤ s.totalFrames → s.fur.formatted = false → 
      ∃ t, exec (.capacitySet c) s = .next t ∧ s.answered t m 1 ∧ t.rd TIN_DPA_LIMIT_CAP_GIB = m.num 0 4 ∧ t.win.tier = [] ∧ t.fur.map = [] ∧ t.grn.building = true ∧ t.on GRN_CTL_ENABLE = true ∧ t.bgOf c = some { op := m.op, job := .granary, since := s.now, ld := m.ld } ∧
        t.locked = s.locked ∧ t.hv.world = s.hv.world) ∧
  (∀ (s : State) (c : Fin 64) (m : Cmd),
      s.asked c 0xC100 m .a false [0] false [(0, 4)] → s.bgRuns c = false → m.num 0 4 = 0 ∨ 65536 < m.num 0 4 → 
      ∃ t, exec (.capacitySet c) s = .next t ∧ s.answered t m 2 ∧
        (s.plain c m → RegsBut (mailKeys c) s t ∧ t = { s with csr := t.csr, rcd := t.rcd, mb := t.mb, cs := s.cs.but t.cs, out := t.out })) ∧
  (∀ (s : State) (c : Fin 64) (m : Cmd),
      s.asked c 0xC100 m .a false [0] false [(0, 4)] → s.bgRuns c = true → 
      ∃ t, exec (.capacitySet c) s = .next t ∧ s.answered t m 6 ∧
        (s.plain c m → RegsBut (mailKeys c) s t ∧ t = { s with csr := t.csr, rcd := t.rcd, mb := t.mb, cs := s.cs.but t.cs, out := t.out })) ∧
  (∀ (s : State) (c : Fin 64) (m : Cmd),
      s.asked c 0xC100 m .a false [0] false [(0, 4)] → s.bgRuns c = false → 0 < m.num 0 4 → m.num 0 4 ≤ 65536 → s.capInForce (m.num 0 4) = false → s.anyRegion = true → 
      ∃ t, exec (.capacitySet c) s = .next t ∧ s.answered t m 0xC004 ∧
        (s.plain c m → RegsBut (mailKeys c) s t ∧ t = { s with csr := t.csr, rcd := t.rcd, mb := t.mb, cs := s.cs.but t.cs, out := t.out })) ∧
  (∀ (s : State) (c : Fin 64) (m : Cmd),
      s.asked c 0xC100 m .a false [0] false [(0, 4)] → s.bgRuns c = false → 0 < m.num 0 4 → m.num 0 4 ≤ 65536 → s.on GRN_CTL_ENABLE = true → s.rd TIN_DPA_LIMIT_CAP_GIB = m.num 0 4 → 
      ∃ t, exec (.capacitySet c) s = .next t ∧ s.answered t m 0 ∧
        (s.plain c m → RegsBut (mailKeys c) s t ∧ t = { s with csr := t.csr, rcd := t.rcd, mb := t.mb, cs := s.cs.but t.cs, out := t.out })) ∧
  (∀ (s : State) (c : Fin 64) (m : Cmd),
      s.asked c 0xC106 m .a false [0] false [(0, 5)] → m.byte 0 ≤ 63 → m.byte 1 ≤ 15 → m.byte 2 ≤ 15 → m.byte 3 ≤ 31 ∨ m.byte 3 = 0xFF → m.byte 4 ≤ 1 → s.ldSeen m (m.byte 0) = true → m.byte 4 = 0 ∨ ∀ x : Fin 64, x.val ≠ m.byte 0 → s.on (TIN_LDB_VALID x) = true → s.rd (TIN_LDB_LINK x) ≠ m.byte 1 ∨ s.rd (TIN_LDB_LD x) ≠ m.byte 2 → m.byte 3 = 0xFF ∨ s.chanSecure (m.byte 3) = s.on (TIN_LDB_WORLD (m.byte 0)) → 
      ∃ t, exec (.ldBind c) s = .next t ∧ s.answered t m 0 ∧ t.rd (TIN_LDB_VALID (m.byte 0)) = m.byte 4 ∧ t.rd (TIN_LDB_LINK (m.byte 0)) = m.byte 1 ∧ t.rd (TIN_LDB_LD (m.byte 0)) = m.byte 2 ∧ t.on (TIN_LDB_WORLD (m.byte 0)) = s.on (TIN_LDB_WORLD (m.byte 0)) ∧ t.on (HPT_LDMBX_VALID (m.byte 0)) = decide (m.byte 3 ≠ 0xFF) ∧ (m.byte 3 ≠ 0xFF → t.rd (HPT_LDMBX_CHANNEL (m.byte 0)) = m.byte 3) ∧
        (s.plain c m → (m.kind ≠ 1 ∨ m.source ≠ m.byte 0) → RegsBut (mailKeys c ++ [TIN_LDB (m.byte 0), HPT_LDMBX (m.byte 0)]) s t ∧ t = { s with csr := t.csr, rcd := t.rcd, mb := t.mb, cs := s.cs.but t.cs, out := t.out })) ∧
  (∀ (s : State) (c : Fin 64) (m : Cmd),
      s.asked c 0xC106 m .a false [0] false [(0, 5)] → 63 < m.byte 0 ∨ 15 < m.byte 1 ∨ 15 < m.byte 2 ∨ 31 < m.byte 3 ∧ m.byte 3 ≠ 0xFF ∨ 1 < m.byte 4 → 
      ∃ t, exec (.ldBind c) s = .next t ∧ s.answered t m 2 ∧
        (s.plain c m → RegsBut (mailKeys c) s t ∧ t = { s with csr := t.csr, rcd := t.rcd, mb := t.mb, cs := s.cs.but t.cs, out := t.out })) ∧
  (∀ (s : State) (c : Fin 64) (m : Cmd),
      s.asked c 0xC107 m .a false [0] false [(0, 3), (4, 4)] → m.byte 0 ≤ 63 → m.byte 1 ≤ 1 → m.byte 2 ≤ 63 → s.cgSeen m (m.byte 0) = true → m.byte 1 = 1 ∨ (s.dl.conns.any fun x => x.2.state != 0 && x.2.group == m.byte 0) = false → m.num 4 4 = 0xFFFFFFFF → 
      ∃ t, exec (.cgSet c) s = .next t ∧ s.answered t m 0 ∧ t.rd (TIN_CGB_VALID (m.byte 0)) = m.byte 1 ∧ t.rd (GRN_GMAP_OWNER (m.byte 0)) = m.byte 2 ∧
        (s.plain c m → RegsBut (mailKeys c ++ [TIN_CGB (m.byte 0), GRN_GMAP (m.byte 0)]) s t ∧ t = { s with csr := t.csr, rcd := t.rcd, mb := t.mb, cs := s.cs.but t.cs, out := t.out })) ∧
  (∀ (s : State) (c : Fin 64) (m : Cmd),
      s.asked c 0xC107 m .a false [0] false [(0, 3), (4, 4)] → 63 < m.byte 0 ∨ 1 < m.byte 1 ∨ 63 < m.byte 2 → 
      ∃ t, exec (.cgSet c) s = .next t ∧ s.answered t m 2 ∧
        (s.plain c m → RegsBut (mailKeys c) s t ∧ t = { s with csr := t.csr, rcd := t.rcd, mb := t.mb, cs := s.cs.but t.cs, out := t.out })) ∧
  (∀ (s : State) (c : Fin 64) (m : Cmd),
      s.asked c 0xC107 m .a false [0] false [(0, 3), (4, 4)] → m.byte 0 ≤ 63 → m.byte 1 ≤ 1 → m.byte 2 ≤ 63 → s.cgSeen m (m.byte 0) = false → 
      ∃ t, exec (.cgSet c) s = .next t ∧ s.answered t m 0xC001 ∧
        (s.plain c m → RegsBut (mailKeys c) s t ∧ t = { s with csr := t.csr, rcd := t.rcd, mb := t.mb, cs := s.cs.but t.cs, out := t.out })) ∧
  (∀ (s : State) (c : Fin 64) (m : Cmd),
      s.asked c 0xC107 m .a false [0] false [(0, 3), (4, 4)] → m.byte 0 ≤ 63 → m.byte 1 = 0 → m.byte 2 ≤ 63 → s.cgSeen m (m.byte 0) = true → (s.dl.conns.any fun x => x.2.state != 0 && x.2.group == m.byte 0) = true → 
      ∃ t, exec (.cgSet c) s = .next t ∧ s.answered t m 0xC003 ∧
        (s.plain c m → RegsBut (mailKeys c) s t ∧ t = { s with csr := t.csr, rcd := t.rcd, mb := t.mb, cs := s.cs.but t.cs, out := t.out }))

/-- REGION, DURABILITY, PLACEMENT and PIN requests take effect on their region, are answered once it has been committed, or answer why not (R65, R73, R471, R482, R483, R484, R485, R486, R487, R490, R491, R492) -/
def Obligations.RegionCommandsCommitTheirChangesAndAnswerWhenTheyAreDone : Prop :=
  (∀ (s : State) (c : Fin 64) (m : Cmd),
      s.asked c 0xC101 m .a false [0] false [(0, 5), (8, 40)] → m.byte 1 ≤ 1 → m.byte 3 ≤ 1 → 0 < m.num 12 4 → m.num 12 4 ≤ 65536 → s.on TIN_RGN_STATUS_BUSY = false → s.rgnHidden m (m.byte 0) = false → (m.byte 1 == 1) = m.world → s.rgnValid (m.byte 0) = false → m.num 8 4 < 65536 → (s.createStage m).commitResult (s.cmdSecure m) (m.byte 0) = 0 → 
      ∃ t, exec (.regionCreate c) s = .next t ∧ t.rgnValid (m.byte 0) = true ∧ t.rgnBase (m.byte 0) = m.num 8 4 ∧ t.rgnSize (m.byte 0) = m.num 12 4 ∧ t.rd (TIN_RGN_ATTR_KEY_SLOT (m.byte 0)) = m.byte 2 ∧ t.rgnPinned (m.byte 0) = decide (m.byte 3 = 1) ∧ t.rd (TIN_RGN_ATTR_TENANT (m.byte 0)) = m.byte 4 ∧ t.rgnClass (m.byte 0) = 0 ∧ t.rgnSecure (m.byte 0) = m.world ∧ t.rd (TIN_RGN_LDRD_MASK (m.byte 0)) = m.num 16 8 ∧ t.rd (TIN_RGN_LDWR_MASK (m.byte 0)) = m.num 24 8 ∧ t.rd (TIN_RGN_CGRD_MASK (m.byte 0)) = m.num 32 8 ∧ t.rd (TIN_RGN_CGWR_MASK (m.byte 0)) = m.num 40 8 ∧ t.stageOf c = 1 ∧ t.on TIN_RGN_STATUS_BUSY = true ∧ t.rd TIN_RGN_STATUS_REGION = m.byte 0 ∧ t.mbxFull c false = true ∧ t.mbxFull c true = false ∧
        (∀ q : Fin 256, q.val ≠ m.byte 0 → ∀ k ∈ rgnKeys q, t.rdW k = s.rdW k)) ∧
  (∀ (s : State) (c : Fin 64) (m : Cmd),
      s.asked c 0xC101 m .a false [0] false [(0, 5), (8, 40)] → m.byte 1 ≤ 1 → m.byte 3 ≤ 1 → 0 < m.num 12 4 → m.num 12 4 ≤ 65536 → s.on TIN_RGN_STATUS_BUSY = false → s.rgnHidden m (m.byte 0) = false → (m.byte 1 == 1) = m.world → s.rgnValid (m.byte 0) = false → m.num 8 4 < 65536 → (s.createStage m).commitResult (s.cmdSecure m) (m.byte 0) ≠ 0 → 
      ∃ t, exec (.regionCreate c) s = .next t ∧ s.answered t m (rgnStatus ((s.createStage m).commitResult (s.cmdSecure m) (m.byte 0))) ∧
        (s.plain c m → RegsBut (mailKeys c ++ [TIN_STG_EXT, TIN_STG_ATTR, TIN_STG_LDRD, TIN_STG_LDWR, TIN_STG_CGRD, TIN_STG_CGWR, TIN_RGN_STATUS]) s t ∧ t = { s with csr := t.csr, rcd := t.rcd, mb := t.mb, cs := s.cs.but t.cs, out := t.out })) ∧
  (∀ (s : State) (c : Fin 64) (m : Cmd),
      s.asked c 0xC101 m .a false [0] false [(0, 5), (8, 40)] → m.byte 1 ≤ 1 → m.byte 3 ≤ 1 → 0 < m.num 12 4 → m.num 12 4 ≤ 65536 → s.on TIN_RGN_STATUS_BUSY = false → s.rgnHidden m (m.byte 0) = false → (m.byte 1 == 1) = m.world → s.rgnValid (m.byte 0) = true → s.rgnBase (m.byte 0) = m.num 8 4 → s.rgnSize (m.byte 0) = m.num 12 4 → s.rd (TIN_RGN_ATTR_KEY_SLOT (m.byte 0)) = m.byte 2 → s.rd (TIN_RGN_ATTR_PLACE (m.byte 0)) = m.byte 3 → s.rd (TIN_RGN_ATTR_TENANT (m.byte 0)) = m.byte 4 → s.masksAre (m.byte 0) (m.num 16 8) (m.num 24 8) (m.num 32 8) (m.num 40 8) = true → 
      ∃ t, exec (.regionCreate c) s = .next t ∧ s.answered t m 0 ∧
        (s.plain c m → RegsBut (mailKeys c) s t ∧ t = { s with csr := t.csr, rcd := t.rcd, mb := t.mb, cs := s.cs.but t.cs, out := t.out })) ∧
  (∀ (s : State) (c : Fin 64) (m : Cmd),
      s.asked c 0xC101 m .a false [0] false [(0, 5), (8, 40)] → m.byte 1 ≤ 1 → m.byte 3 ≤ 1 → 0 < m.num 12 4 → m.num 12 4 ≤ 65536 → s.on TIN_RGN_STATUS_BUSY = false → s.rgnHidden m (m.byte 0) = false → (m.byte 1 == 1) = m.world → s.rgnValid (m.byte 0) = true → s.rgnBase (m.byte 0) ≠ m.num 8 4 → 
      ∃ t, exec (.regionCreate c) s = .next t ∧ s.answered t m 0xC003 ∧
        (s.plain c m → RegsBut (mailKeys c) s t ∧ t = { s with csr := t.csr, rcd := t.rcd, mb := t.mb, cs := s.cs.but t.cs, out := t.out })) ∧
  (∀ (s : State) (c : Fin 64) (m : Cmd),
      s.asked c 0xC101 m .a false [0] false [(0, 5), (8, 40)] → m.byte 1 ≤ 1 → m.byte 3 ≤ 1 → 0 < m.num 12 4 → m.num 12 4 ≤ 65536 → s.on TIN_RGN_STATUS_BUSY = false → s.rgnHidden m (m.byte 0) = true → 
      ∃ t, exec (.regionCreate c) s = .next t ∧ s.answered t m 0xC001 ∧
        (s.plain c m → RegsBut (mailKeys c) s t ∧ t = { s with csr := t.csr, rcd := t.rcd, mb := t.mb, cs := s.cs.but t.cs, out := t.out })) ∧
  (∀ (s : State) (c : Fin 64) (m : Cmd),
      s.asked c 0xC101 m .a false [0] false [(0, 5), (8, 40)] → s.on TIN_RGN_STATUS_BUSY = false → 1 < m.byte 1 ∨ 1 < m.byte 3 ∨ m.num 12 4 = 0 ∨ 65536 < m.num 12 4 → 
      ∃ t, exec (.regionCreate c) s = .next t ∧ s.answered t m 2 ∧
        (s.plain c m → RegsBut (mailKeys c) s t ∧ t = { s with csr := t.csr, rcd := t.rcd, mb := t.mb, cs := s.cs.but t.cs, out := t.out })) ∧
  (∀ (s : State) (c : Fin 64) (m : Cmd),
      s.askedAt c 0xC101 m 1 → s.on TIN_RGN_STATUS_BUSY = false → 
      ∃ t, exec (.regionCreate c) s = .next t ∧ s.answered t m 0 ∧ t.stageOf c = 0 ∧
        (s.plain c m → RegsBut (mailKeys c) s t ∧ t = { s with csr := t.csr, rcd := t.rcd, mb := t.mb, cs := s.cs.but t.cs, out := t.out })) ∧
  (∀ (s : State) (c : Fin 64) (m : Cmd),
      s.asked c 0xC102 m .a true [0] false [(0, 1), (8, 32)] → s.on TIN_RGN_STATUS_BUSY = false → m.kind ≠ 4 → s.rgnSeen m (m.byte 0) = true → s.rgnValid (m.byte 0) = true → s.masksAre (m.byte 0) (m.num 8 8) (m.num 16 8) (m.num 24 8) (m.num 32 8) = false → ((s.rgnLoad (m.byte 0)).stageMasks (m.num 8 8) (m.num 16 8) (m.num 24 8) (m.num 32 8)).commitResult (s.cmdSecure m) (m.byte 0) = 0 → 
      ∃ t, exec (.regionRights c) s = .next t ∧ t.rd (TIN_RGN_LDRD_MASK (m.byte 0)) = m.num 8 8 ∧ t.rd (TIN_RGN_LDWR_MASK (m.byte 0)) = m.num 16 8 ∧ t.rd (TIN_RGN_CGRD_MASK (m.byte 0)) = m.num 24 8 ∧ t.rd (TIN_RGN_CGWR_MASK (m.byte 0)) = m.num 32 8 ∧ t.rdW (TIN_RGN_EXT (m.byte 0)) = s.rdW (TIN_RGN_EXT (m.byte 0)) ∧ t.rgnClass (m.byte 0) = s.rgnClass (m.byte 0) ∧ t.stageOf c = 1 ∧ t.on TIN_RGN_STATUS_BUSY = true ∧ t.rd TIN_RGN_STATUS_REGION = m.byte 0 ∧ t.mbxFull c false = true ∧ t.mbxFull c true = false ∧
        (∀ q : Fin 256, q.val ≠ m.byte 0 → ∀ k ∈ rgnKeys q, t.rdW k = s.rdW k)) ∧
  (∀ (s : State) (c : Fin 64) (m : Cmd),
      s.asked c 0xC102 m .a true [0] false [(0, 1), (8, 32)] → s.on TIN_RGN_STATUS_BUSY = false → m.kind ≠ 4 → s.rgnSeen m (m.byte 0) = true → s.rgnValid (m.byte 0) = true → s.masksAre (m.byte 0) (m.num 8 8) (m.num 16 8) (m.num 24 8) (m.num 32 8) = true → 
      ∃ t, exec (.regionRights c) s = .next t ∧ s.answered t m 0 ∧
        (s.plain c m → RegsBut (mailKeys c) s t ∧ t = { s with csr := t.csr, rcd := t.rcd, mb := t.mb, cs := { s.cs.but t.cs with handed := t.cs.handed }, out := t.out })) ∧
  (∀ (s : State) (c : Fin 64) (m : Cmd),
      s.asked c 0xC102 m .a true [0] false [(0, 1), (8, 32)] → s.on TIN_RGN_STATUS_BUSY = false → m.kind ≠ 4 → (s.rgnSeen m (m.byte 0) && s.rgnValid (m.byte 0)) = false → 
      ∃ t, exec (.regionRights c) s = .next t ∧ s.answered t m 0xC001 ∧
        (s.plain c m → RegsBut (mailKeys c) s t ∧ t = { s with csr := t.csr, rcd := t.rcd, mb := t.mb, cs := s.cs.but t.cs, out := t.out })) ∧
  (∀ (s : State) (c : Fin 64) (m : Cmd),
      s.asked c 0xC102 m .a true [0] false [(0, 1), (8, 32)] → s.on TIN_RGN_STATUS_BUSY = false → m.kind = 4 → s.cs.handed.contains (m.byte 0) = false → 
      ∃ t, exec (.regionRights c) s = .next t ∧ s.answered t m 0xC002 ∧ t.rgnValid (m.byte 0) = s.rgnValid (m.byte 0) ∧
        (s.plain c m → RegsBut (mailKeys c) s t ∧ t = { s with csr := t.csr, rcd := t.rcd, mb := t.mb, cs := s.cs.but t.cs, out := t.out })) ∧
  (∀ (s : State) (c : Fin 64) (m : Cmd),
      s.asked c 0xC103 m .a false [0] false [(0, 4)] → s.on TIN_RGN_STATUS_BUSY = false → m.byte 1 ≤ 1 → m.byte 3 = 2 → s.rgnSeen m (m.byte 0) = true → s.rgnValid (m.byte 0) = true → m.byte 2 ≠ s.rd (TIN_RGN_ATTR_TENANT (m.byte 0)) → (((s.rgnLoad (m.byte 0)).wr TIN_STG_ATTR_PLACE (s.rd (TIN_RGN_ATTR_PLACE (m.byte 0)))).wr TIN_STG_ATTR_TENANT (m.byte 2)).commitResult (s.cmdSecure m) (m.byte 0) = 0 → 
      ∃ t, exec (.regionAttr c) s = .next t ∧ t.rd (TIN_RGN_ATTR_TENANT (m.byte 0)) = m.byte 2 ∧ t.rgnPinned (m.byte 0) = s.rgnPinned (m.byte 0) ∧ t.rdW (TIN_RGN_EXT (m.byte 0)) = s.rdW (TIN_RGN_EXT (m.byte 0)) ∧ t.stageOf c = 1 ∧ t.on TIN_RGN_STATUS_BUSY = true ∧ t.rd TIN_RGN_STATUS_REGION = m.byte 0 ∧ t.mbxFull c false = true ∧ t.mbxFull c true = false ∧
        (∀ q : Fin 256, q.val ≠ m.byte 0 → ∀ k ∈ rgnKeys q, t.rdW k = s.rdW k)) ∧
  (∀ (s : State) (c : Fin 64) (m : Cmd),
      s.asked c 0xC103 m .a false [0] false [(0, 4)] → s.on TIN_RGN_STATUS_BUSY = false → m.byte 1 ≤ 1 → m.byte 3 = 0 → s.rgnSeen m (m.byte 0) = true → s.rgnValid (m.byte 0) = true → 
      ∃ t, exec (.regionAttr c) s = .next t ∧ s.answered t m 0 ∧
        (s.plain c m → RegsBut (mailKeys c) s t ∧ t = { s with csr := t.csr, rcd := t.rcd, mb := t.mb, cs := s.cs.but t.cs, out := t.out })) ∧
  (∀ (s : State) (c : Fin 64) (m : Cmd),
      s.asked c 0xC103 m .a false [0] false [(0, 4)] → s.on TIN_RGN_STATUS_BUSY = false → 1 < m.byte 1 ∨ 3 < m.byte 3 → 
      ∃ t, exec (.regionAttr c) s = .next t ∧ s.answered t m 2 ∧
        (s.plain c m → RegsBut (mailKeys c) s t ∧ t = { s with csr := t.csr, rcd := t.rcd, mb := t.mb, cs := s.cs.but t.cs, out := t.out })) ∧
  (∀ (s : State) (c : Fin 64) (m : Cmd),
      s.asked c 0xC104 m .a false [0] false [(0, 1)] → s.on TIN_RGN_STATUS_BUSY = false → s.rgnSeen m (m.byte 0) = true → s.rgnValid (m.byte 0) = true → s.rd (YOK_RGN_STATE (m.byte 0)) = 0 → s.destroyResult (s.cmdSecure m) (m.byte 0) = 0 → 
      ∃ t, exec (.regionDestroy c) s = .next t ∧ t.rgnValid (m.byte 0) = false ∧ t.rgnReleasing (m.byte 0) = true ∧ t.stageOf c = 1 ∧ t.on TIN_RGN_STATUS_BUSY = true ∧ t.rd TIN_RGN_STATUS_REGION = m.byte 0 ∧ t.mbxFull c false = true ∧ t.mbxFull c true = false ∧
        (∀ q : Fin 256, q.val ≠ m.byte 0 → ∀ k ∈ rgnKeys q, t.rdW k = s.rdW k)) ∧
  (∀ (s : State) (c : Fin 64) (m : Cmd),
      s.asked c 0xC104 m .a false [0] false [(0, 1)] → s.on TIN_RGN_STATUS_BUSY = false → s.rgnSeen m (m.byte 0) = true → s.rgnValid (m.byte 0) = false → 
      ∃ t, exec (.regionDestroy c) s = .next t ∧ s.answered t m 0 ∧
        (s.plain c m → RegsBut (mailKeys c) s t ∧ t = { s with csr := t.csr, rcd := t.rcd, mb := t.mb, cs := s.cs.but t.cs, out := t.out })) ∧
  (∀ (s : State) (c : Fin 64) (m : Cmd),
      s.asked c 0xC104 m .a false [0] false [(0, 1)] → s.on TIN_RGN_STATUS_BUSY = false → s.rgnSeen m (m.byte 0) = true → s.rgnValid (m.byte 0) = true → s.rd (YOK_RGN_STATE (m.byte 0)) ≠ 0 → 
      ∃ t, exec (.regionDestroy c) s = .next t ∧ s.answered t m 0xC004 ∧
        (s.plain c m → RegsBut (mailKeys c) s t ∧ t = { s with csr := t.csr, rcd := t.rcd, mb := t.mb, cs := s.cs.but t.cs, out := t.out })) ∧
  (∀ (s : State) (c : Fin 64) (m : Cmd),
      s.asked c 0xC104 m .a false [0] false [(0, 1)] → s.on TIN_RGN_STATUS_BUSY = false → s.rgnSeen m (m.byte 0) = false → 
      ∃ t, exec (.regionDestroy c) s = .next t ∧ s.answered t m 0xC001 ∧
        (s.plain c m → RegsBut (mailKeys c) s t ∧ t = { s with csr := t.csr, rcd := t.rcd, mb := t.mb, cs := s.cs.but t.cs, out := t.out })) ∧
  (∀ (s : State) (c : Fin 64) (m : Cmd),
      s.asked c 0xC105 m .q true [0] false [(0, 1)] → s.rgnSeen m (m.byte 0) = true → s.mayQuery m (m.byte 0) = true → 
      ∃ t, exec (.regionInfo c) s = .next t ∧ s.answered t m 0 ∧ t.ans m 0 1 = m.byte 0 ∧ t.ans m 2 1 = s.rgnClass (m.byte 0) ∧ t.ans m 3 1 = s.rd (TIN_RGN_ATTR_KEY_SLOT (m.byte 0)) ∧ t.ans m 4 1 = s.rd (TIN_RGN_ATTR_TENANT (m.byte 0)) ∧ t.ans m 8 4 = s.rgnBase (m.byte 0) ∧ t.ans m 12 4 = s.rgnSize (m.byte 0) ∧ t.ans m 24 8 = s.rd (TIN_RGN_LDRD_MASK (m.byte 0)) ∧ t.ans m 32 8 = s.rd (TIN_RGN_LDWR_MASK (m.byte 0)) ∧ t.ans m 40 8 = s.rd (TIN_RGN_CGRD_MASK (m.byte 0)) ∧ t.ans m 48 8 = s.rd (TIN_RGN_CGWR_MASK (m.byte 0)) ∧
        (s.plain c m → RegsBut (mailKeys c) s t ∧ t = { s with csr := t.csr, rcd := t.rcd, mb := t.mb, cs := s.cs.but t.cs, out := t.out })) ∧
  (∀ (s : State) (c : Fin 64) (m : Cmd),
      s.asked c 0xC105 m .q true [0] false [(0, 1)] → (s.rgnSeen m (m.byte 0) && s.mayQuery m (m.byte 0)) = false → 
      ∃ t, exec (.regionInfo c) s = .next t ∧ s.answered t m 0xC001 ∧
        (s.plain c m → RegsBut (mailKeys c) s t ∧ t = { s with csr := t.csr, rcd := t.rcd, mb := t.mb, cs := s.cs.but t.cs, out := t.out })) ∧
  (∀ (s : State) (c : Fin 64) (m : Cmd),
      s.asked c 0xC200 m .a true [0] false [(0, 12)] → 2 < m.byte 1 ∨ m.byte 2 ≠ (if m.kind = 4 then 1 else 0) ∨ 1 < m.byte 3 ∨ 1023 < m.num 4 4 ∨ 131071 < m.num 8 4 → 
      ∃ t, exec (.durabilitySet c) s = .next t ∧ s.answered t m 2 ∧
        (s.plain c m → RegsBut (mailKeys c) s t ∧ t = { s with csr := t.csr, rcd := t.rcd, mb := t.mb, cs := s.cs.but t.cs, out := t.out })) ∧
  (∀ (s : State) (c : Fin 64) (m : Cmd),
      s.asked c 0xC200 m .a true [0] false [(0, 12)] → m.byte 1 ≤ 2 → m.byte 2 = 0 → m.byte 3 ≤ 1 → m.num 4 4 ≤ 1023 → m.num 8 4 ≤ 131071 → m.kind ≠ 4 → (s.rgnSeen m (m.byte 0) && s.rgnValid (m.byte 0)) = false → 
      ∃ t, exec (.durabilitySet c) s = .next t ∧ s.answered t m 0xC001 ∧
        (s.plain c m → RegsBut (mailKeys c) s t ∧ t = { s with csr := t.csr, rcd := t.rcd, mb := t.mb, cs := s.cs.but t.cs, out := t.out })) ∧
  (∀ (s : State) (c : Fin 64) (m : Cmd),
      s.asked c 0xC200 m .a true [0] false [(0, 12)] → m.byte 1 ≤ 2 → m.byte 2 = 0 → m.byte 3 ≤ 1 → m.num 4 4 ≤ 1023 → m.num 8 4 ≤ 131071 → m.kind ≠ 4 → s.rgnSeen m (m.byte 0) = true → s.rgnValid (m.byte 0) = true → (s.rd (YOK_RGN_STATE (m.byte 0)) != 0 && s.rd (YOK_RGN_ROLE (m.byte 0)) == 1) = false → m.byte 1 = s.rgnClass (m.byte 0) → m.byte 1 = 0 ∨ s.rd (YOK_RGN_STATE (m.byte 0)) ≠ 0 → 
      ∃ t, exec (.durabilitySet c) s = .next t ∧ s.answered t m 0 ∧ t.rd (YOK_RGN_ON_LOSS (m.byte 0)) = m.byte 3 ∧ t.rd (YOK_RGN_LIM_US (m.byte 0)) = m.num 4 4 ∧ t.rd (YOK_RGN_LIM_KIB (m.byte 0)) = m.num 8 4 ∧
        (s.plain c m → RegsBut (mailKeys c ++ [YOK_RGN (m.byte 0)]) s t ∧ t = { s with csr := t.csr, rcd := t.rcd, mb := t.mb, cs := s.cs.but t.cs, out := t.out })) ∧
  (∀ (s : State) (c : Fin 64) (m : Cmd),
      s.asked c 0xC200 m .a true [0] false [(0, 12)] → m.byte 1 ≤ 2 → m.byte 2 = 0 → m.byte 3 ≤ 1 → m.num 4 4 ≤ 1023 → m.num 8 4 ≤ 131071 → m.kind ≠ 4 → s.rgnSeen m (m.byte 0) = true → s.rgnValid (m.byte 0) = true → s.rd (YOK_RGN_STATE (m.byte 0)) ≠ 0 → s.rd (YOK_RGN_ROLE (m.byte 0)) = 1 → 
      ∃ t, exec (.durabilitySet c) s = .next t ∧ s.answered t m 0xC004 ∧
        (s.plain c m → RegsBut (mailKeys c) s t ∧ t = { s with csr := t.csr, rcd := t.rcd, mb := t.mb, cs := s.cs.but t.cs, out := t.out })) ∧
  (∀ (s : State) (c : Fin 64) (m : Cmd),
      s.asked c 0xC200 m .a true [0] false [(0, 12)] → m.byte 1 ≤ 2 → m.byte 2 = 0 → m.byte 3 ≤ 1 → m.num 4 4 ≤ 1023 → m.num 8 4 ≤ 131071 → m.kind ≠ 4 → s.rgnSeen m (m.byte 0) = true → s.rgnValid (m.byte 0) = true → (s.rd (YOK_RGN_STATE (m.byte 0)) != 0 && s.rd (YOK_RGN_ROLE (m.byte 0)) == 1) = false → m.byte 1 ≠ s.rgnClass (m.byte 0) → s.on TIN_RGN_STATUS_BUSY = false → m.byte 1 = 0 → ((s.rgnLoad (m.byte 0)).wr TIN_STG_ATTR_CLASS 0).commitResult (s.cmdSecure m) (m.byte 0) = 0 → 
      ∃ t, exec (.durabilitySet c) s = .next t ∧ t.stageOf c = 4 ∧ t.on TIN_RGN_STATUS_BUSY = true ∧ t.rgnClass (m.byte 0) = 0 ∧ t.rd (YOK_RGN_STATE (m.byte 0)) = 0 ∧
        (∀ q : Fin 256, q.val ≠ m.byte 0 → ∀ k ∈ rgnKeys q, t.rdW k = s.rdW k)) ∧
  (∀ (s : State) (c : Fin 64) (m : Cmd),
      s.asked c 0xC200 m .a true [0] false [(0, 12)] → m.byte 1 ≤ 2 → m.byte 2 = 0 → m.byte 3 ≤ 1 → m.num 4 4 ≤ 1023 → m.num 8 4 ≤ 131071 → m.kind ≠ 4 → s.rgnSeen m (m.byte 0) = true → s.rgnValid (m.byte 0) = true → (s.rd (YOK_RGN_STATE (m.byte 0)) != 0 && s.rd (YOK_RGN_ROLE (m.byte 0)) == 1) = false → m.byte 1 ≠ s.rgnClass (m.byte 0) → s.on TIN_RGN_STATUS_BUSY = false → m.byte 1 ≠ 0 → s.on YOK_CTL_ENABLE = false → 
      ∃ t, exec (.durabilitySet c) s = .next t ∧ s.answered t m 0xC00F ∧
        (s.plain c m → RegsBut (mailKeys c) s t ∧ t = { s with csr := t.csr, rcd := t.rcd, mb := t.mb, cs := s.cs.but t.cs, out := t.out })) ∧
  (∀ (s : State) (c : Fin 64) (m : Cmd),
      s.asked c 0xC200 m .a true [0] false [(0, 12)] → m.byte 1 ≤ 2 → m.byte 2 = 0 → m.byte 3 ≤ 1 → m.num 4 4 ≤ 1023 → m.num 8 4 ≤ 131071 → m.kind ≠ 4 → s.rgnSeen m (m.byte 0) = true → s.rgnValid (m.byte 0) = true → (s.rd (YOK_RGN_STATE (m.byte 0)) != 0 && s.rd (YOK_RGN_ROLE (m.byte 0)) == 1) = false → m.byte 1 ≠ s.rgnClass (m.byte 0) → s.on TIN_RGN_STATUS_BUSY = false → m.byte 1 ≠ 0 → s.on YOK_CTL_ENABLE = true → s.twinUp = false → 
      ∃ t, exec (.durabilitySet c) s = .next t ∧ s.answered t m 0xC010 ∧
        (s.plain c m → RegsBut (mailKeys c) s t ∧ t = { s with csr := t.csr, rcd := t.rcd, mb := t.mb, cs := s.cs.but t.cs, out := t.out })) ∧
  (∀ (s : State) (c : Fin 64) (m : Cmd),
      s.asked c 0xC200 m .a true [0] false [(0, 12)] → m.byte 1 ≤ 2 → m.byte 2 = 0 → m.byte 3 ≤ 1 → m.num 4 4 ≤ 1023 → m.num 8 4 ≤ 131071 → m.kind ≠ 4 → s.rgnSeen m (m.byte 0) = true → s.rgnValid (m.byte 0) = true → (s.rd (YOK_RGN_STATE (m.byte 0)) != 0 && s.rd (YOK_RGN_ROLE (m.byte 0)) == 1) = false → m.byte 1 ≠ s.rgnClass (m.byte 0) → s.on TIN_RGN_STATUS_BUSY = false → m.byte 1 ≠ 0 → s.on YOK_CTL_ENABLE = true → s.twinUp = true → s.mbxFull 56 true = false → s.rd (YOK_RGN_STATE (m.byte 0)) = 0 → 
      ∃ t, exec (.durabilitySet c) s = .next t ∧ t.stageOf c = 1 ∧ t.cs.relay = some (c.val, m.op, (s.cs.tag + 1) % 65536) ∧ t.mbxFull 56 true = true ∧ (t.mbxMsg 56 true).drop 8 = m.asMirror ∧ getBits (t.rd (fMsg 56 true 0)) 0 32 = m.op + (s.cs.tag + 1) % 65536 * 2 ^ 16 ∧
        (∀ q : Fin 256, ∀ k ∈ rgnKeys q, t.rdW k = s.rdW k)) ∧
  (∀ (s : State) (c : Fin 64) (m : Cmd),
      s.askedAt c 0xC200 m 2 → s.on TIN_RGN_STATUS_BUSY = false → m.byte 1 ≤ 2 → m.byte 2 = 0 → m.byte 3 ≤ 1 → m.num 4 4 ≤ 1023 → m.num 8 4 ≤ 131071 → m.kind ≠ 4 → 
      ∃ t, exec (.durabilitySet c) s = .next t ∧ s.answered t m 0 ∧ t.stageOf c = 0 ∧
        (s.plain c m → RegsBut (mailKeys c) s t ∧ t = { s with csr := t.csr, rcd := t.rcd, mb := t.mb, cs := s.cs.but t.cs, out := t.out })) ∧
  (∀ (s : State) (c : Fin 64) (m : Cmd),
      s.asked c 0xC200 m .a true [0] false [(0, 12)] → m.byte 1 ≤ 2 → m.byte 2 = 1 → m.byte 3 ≤ 1 → m.num 4 4 ≤ 1023 → m.num 8 4 ≤ 131071 → m.kind = 4 → s.on TIN_RGN_STATUS_BUSY = false → s.rgnSeen m (m.byte 0) = true → s.rgnValid (m.byte 0) = true → m.byte 1 = s.rgnClass (m.byte 0) → 
      ∃ t, exec (.durabilitySet c) s = .next t ∧ s.answered t m 0 ∧ t.rd (YOK_RGN_ON_LOSS (m.byte 0)) = m.byte 3 ∧ t.rd (YOK_RGN_LIM_US (m.byte 0)) = m.num 4 4 ∧
        t.rgnClass (m.byte 0) = s.rgnClass (m.byte 0)) ∧
  (∀ (s : State) (c : Fin 64) (m : Cmd) (op tag : Nat),
      s.cs.relay = some (c.val, op, tag) → s.isReply 56 = false → s.cmdAt c (fun _ => true) = some m → s.stageOf c = 3 → 
      ∃ t, exec .relayReplyTimeout s = .next t ∧ s.answered t m 0 ∧ t.ans m 0 1 = 1 ∧ t.cs.relay = none ∧
        (s.plain c m → RegsBut (mailKeys c) s t ∧ t = { s with csr := t.csr, rcd := t.rcd, mb := t.mb, cs := { s.cs.but t.cs with relay := none }, out := t.out })) ∧
  (∀ (s : State) (c : Fin 64) (m : Cmd) (op tag : Nat),
      s.cs.relay = some (c.val, op, tag) → s.isReply 56 = false → s.cmdAt c (fun _ => true) = some m → s.stageOf c = 1 → 
      ∃ t, exec .relayReplyTimeout s = .next t ∧ s.answered t m 0xC010 ∧ t.ans m 0 1 = 2 ∧ t.cs.relay = none ∧
        (s.plain c m → RegsBut (mailKeys c) s t ∧ t = { s with csr := t.csr, rcd := t.rcd, mb := t.mb, cs := { s.cs.but t.cs with relay := none }, out := t.out })) ∧
  (∀ (s : State),
      s.cs.relay = none → 
      exec .relayReplyTimeout s = .next (s)) ∧
  (∀ (s : State) (c : Fin 64) (m : Cmd),
      s.asked c 0xC201 m .a false [0] false [(0, 2), (4, 8)] → m.byte 1 ≤ 7 ∨ 248 ≤ m.byte 1 → m.num 4 4 ≤ 131071 → m.num 8 4 ≤ 131071 → s.rgnSeen m (m.byte 0) = true → s.rgnValid (m.byte 0) = true → s.polBad (m.byte 0) (m.num 4 4 + m.num 8 4 * 2 ^ 17 + m.byte 1 % 16 * 2 ^ 34) = false → 
      ∃ t, exec (.placementSet c) s = .next t ∧ s.answered t m 0 ∧ t.rd (WIN_RGN_POL_FLOOR_GIB (m.byte 0)) = m.num 4 4 ∧ t.rd (WIN_RGN_POL_CEIL_GIB (m.byte 0)) = m.num 8 4 ∧ t.rd (WIN_RGN_POL_BIAS (m.byte 0)) = m.byte 1 % 16 ∧
        t.hv.world = s.hv.world) ∧
  (∀ (s : State) (c : Fin 64) (m : Cmd),
      s.asked c 0xC201 m .a false [0] false [(0, 2), (4, 8)] → m.byte 1 ≤ 7 ∨ 248 ≤ m.byte 1 → m.num 4 4 ≤ 131071 → m.num 8 4 ≤ 131071 → s.rgnSeen m (m.byte 0) = true → s.rgnValid (m.byte 0) = true → s.polBad (m.byte 0) (m.num 4 4 + m.num 8 4 * 2 ^ 17 + m.byte 1 % 16 * 2 ^ 34) = true → 
      ∃ t, exec (.placementSet c) s = .next t ∧ s.answered t m 0xC00D ∧
        (s.plain c m → RegsBut (mailKeys c) s t ∧ t = { s with csr := t.csr, rcd := t.rcd, mb := t.mb, cs := s.cs.but t.cs, out := t.out })) ∧
  (∀ (s : State) (c : Fin 64) (m : Cmd),
      s.asked c 0xC201 m .a false [0] false [(0, 2), (4, 8)] → m.byte 1 ≤ 7 ∨ 248 ≤ m.byte 1 → m.num 4 4 ≤ 131071 → m.num 8 4 ≤ 131071 → (s.rgnSeen m (m.byte 0) && s.rgnValid (m.byte 0)) = false → 
      ∃ t, exec (.placementSet c) s = .next t ∧ s.answered t m 0xC001 ∧
        (s.plain c m → RegsBut (mailKeys c) s t ∧ t = { s with csr := t.csr, rcd := t.rcd, mb := t.mb, cs := s.cs.but t.cs, out := t.out })) ∧
  (∀ (s : State) (c : Fin 64) (m : Cmd),
      s.asked c 0xC201 m .a false [0] false [(0, 2), (4, 8)] → (7 < m.byte 1 ∧ m.byte 1 < 248) ∨ 131071 < m.num 4 4 ∨ 131071 < m.num 8 4 → 
      ∃ t, exec (.placementSet c) s = .next t ∧ s.answered t m 2 ∧
        (s.plain c m → RegsBut (mailKeys c) s t ∧ t = { s with csr := t.csr, rcd := t.rcd, mb := t.mb, cs := s.cs.but t.cs, out := t.out })) ∧
  (∀ (s : State) (c : Fin 64) (m : Cmd),
      s.asked c 0xC202 m .a false [0] false [(0, 1), (8, 16)] → s.bgRuns c = false → m.byte 0 = 1 ∨ m.byte 0 = 2 → m.num 8 8 < 2 ^ 34 → 0 < m.num 16 8 → m.num 16 8 ≤ 2 ^ 34 → s.on WIN_PIN_CTL_BUSY = false → (match s.rgnOfPage (m.num 8 8) with | none => true | some r => s.rgnSecure r == m.world) = true → ((((s.wr WIN_PIN_BASE_PAGE (m.num 8 8)).wr WIN_PIN_LEN_PAGES (m.num 16 8)).wr WIN_PIN_CTL_OP (m.byte 0)).pinCheck (m.byte 0 == 1) (m.num 8 8) (m.num 16 8)) = 0 → 
      ∃ t, exec (.pinCommand c) s = .next t ∧ s.answered t m 1 ∧ t.on WIN_PIN_CTL_BUSY = true ∧ t.win.pinOp = some ⟨m.byte 0 == 1, m.num 8 8, m.num 16 8⟩ ∧ t.bgOf c = some { op := m.op, job := .pin, since := s.now, ld := m.ld } ∧
        (s.plain c m → RegsBut (mailKeys c ++ [WIN_PIN_BASE, WIN_PIN_LEN, WIN_PIN_CTL, WIN_PAGE_CNT] ++ fltKeys 54) s t ∧ t = { s with csr := t.csr, rcd := t.rcd, mb := t.mb, cs := { s.cs.but t.cs with bg := t.cs.bg }, out := t.out, win := { s.win with pinOp := t.win.pinOp } })) ∧
  (∀ (s : State) (c : Fin 64) (m : Cmd),
      s.asked c 0xC202 m .a false [0] false [(0, 1), (8, 16)] → s.bgRuns c = false → m.byte 0 = 1 ∨ m.byte 0 = 2 → m.num 8 8 < 2 ^ 34 → 0 < m.num 16 8 → m.num 16 8 ≤ 2 ^ 34 → s.on WIN_PIN_CTL_BUSY = false → (match s.rgnOfPage (m.num 8 8) with | none => true | some r => s.rgnSecure r == m.world) = true → ((((s.wr WIN_PIN_BASE_PAGE (m.num 8 8)).wr WIN_PIN_LEN_PAGES (m.num 16 8)).wr WIN_PIN_CTL_OP (m.byte 0)).pinCheck (m.byte 0 == 1) (m.num 8 8) (m.num 16 8)) = 2 → 
      ∃ t, exec (.pinCommand c) s = .next t ∧ s.answered t m 0xC001 ∧
        (s.plain c m → RegsBut (mailKeys c ++ [WIN_PIN_BASE, WIN_PIN_LEN, WIN_PIN_CTL]) s t ∧ t = { s with csr := t.csr, rcd := t.rcd, mb := t.mb, cs := s.cs.but t.cs, out := t.out })) ∧
  (∀ (s : State) (c : Fin 64) (m : Cmd),
      s.asked c 0xC202 m .a false [0] false [(0, 1), (8, 16)] → s.bgRuns c = false → m.byte 0 = 0 ∨ 2 < m.byte 0 ∨ 2 ^ 34 ≤ m.num 8 8 ∨ m.num 16 8 = 0 ∨ 2 ^ 34 < m.num 16 8 → 
      ∃ t, exec (.pinCommand c) s = .next t ∧ s.answered t m 2 ∧
        (s.plain c m → RegsBut (mailKeys c) s t ∧ t = { s with csr := t.csr, rcd := t.rcd, mb := t.mb, cs := s.cs.but t.cs, out := t.out }))

/-- SESSION_OPEN, CLOSE, KEY_LOAD, ERASE, STATUS and SANITISE load, empty and report the slots of the requester's world, or answer why not (R429, R471, R493, R494, R495, R496, R497, R498, R522) -/
def Obligations.KeyAndSessionCommandsActOnTheSlotsOfTheRequestersWorld : Prop :=
  (∀ (s : State) (c : Fin 64) (m : Cmd),
      s.asked c 0xC300 m .a false [32, 60] false [(0, 8)] → m.byte 0 = 0 → m.d.length = 32 → m.num 1 7 = 0 → s.sessions m.world = [] → s.loadResult m.core 3 ((sessionSlots m.world).headD 0) (BitVec.ofNat 512 (ofBytes m.d) : Key) = 0 → 
      ∃ t, exec (.sessionOpen c) s = .next t ∧ s.answered t m 0 ∧ t.ans m 0 1 = ((sessionSlots m.world).headD 0) ∧ t.ans m 4 4 = (kcv (BitVec.ofNat 512 (ofBytes m.d) : Key)).toNat ∧ t.slotLoaded 3 ((sessionSlots m.world).headD 0) = true ∧ mget key0 t.cph.fkey ((sessionSlots m.world).headD 0) = (BitVec.ofNat 512 (ofBytes m.d) : Key) ∧
        t.fab = s.fab ∧ t.win = s.win ∧ t.dr = s.dr) ∧
  (∀ (s : State) (c : Fin 64) (m : Cmd),
      s.asked c 0xC300 m .a false [32, 60] false [(0, 8)] → m.byte 0 = 0 → m.d.length = 32 → m.num 1 7 = 0 → s.sessions m.world ≠ [] → 
      ∃ t, exec (.sessionOpen c) s = .next t ∧ ((∀ n ∈ s.sessions m.world, s.sessionKcv n ≠ kcv (BitVec.ofNat 512 (ofBytes m.d) : Key)) → s.answered t m 0xC004 ∧ t.cph = s.cph) ∧ (∀ n ∈ s.sessions m.world, s.sessionKcv n = kcv (BitVec.ofNat 512 (ofBytes m.d) : Key) → t.cph = s.cph ∧ s.answered t m 0) ∧
        (s.plain c m → RegsBut (mailKeys c) s t ∧ t = { s with csr := t.csr, rcd := t.rcd, mb := t.mb, cs := s.cs.but t.cs, out := t.out })) ∧
  (∀ (s : State) (c : Fin 64) (m : Cmd),
      s.asked c 0xC300 m .a false [32, 60] false [(0, 8)] → m.byte 0 ≤ 1 → m.d.length ≠ (if m.byte 0 = 1 then 60 else 32) → 
      ∃ t, exec (.sessionOpen c) s = .next t ∧ s.answered t m 0x16 ∧ t.cph = s.cph ∧
        (s.plain c m → RegsBut (mailKeys c) s t ∧ t = { s with csr := t.csr, rcd := t.rcd, mb := t.mb, cs := s.cs.but t.cs, out := t.out })) ∧
  (∀ (s : State) (c : Fin 64) (m : Cmd),
      s.asked c 0xC300 m .a false [32, 60] false [(0, 8)] → 1 < m.byte 0 → 
      ∃ t, exec (.sessionOpen c) s = .next t ∧ s.answered t m 2 ∧ t.cph = s.cph ∧
        (s.plain c m → RegsBut (mailKeys c) s t ∧ t = { s with csr := t.csr, rcd := t.rcd, mb := t.mb, cs := s.cs.but t.cs, out := t.out })) ∧
  (∀ (s : State) (c : Fin 64) (m : Cmd),
      s.asked c 0xC300 m .a false [32, 60] false [(0, 8)] → m.byte 0 = 1 → m.d.length = 60 → m.num 2 6 = 0 → (s.sessions m.world).contains (m.byte 1) = false → 
      ∃ t, exec (.sessionOpen c) s = .next t ∧ s.answered t m 0xC015 ∧ t.cph = s.cph ∧
        (s.plain c m → RegsBut (mailKeys c) s t ∧ t = { s with csr := t.csr, rcd := t.rcd, mb := t.mb, cs := s.cs.but t.cs, out := t.out })) ∧
  (∀ (s : State) (c : Fin 64) (m : Cmd),
      s.asked c 0xC301 m .a false [0] false [(0, 1)] → (s.sessions m.world).contains (m.byte 0) = true → s.agentSecure m.core = true ∨ 8 ≤ m.byte 0 → 
      ∃ t, exec (.sessionClose c) s = .next t ∧ s.answered t m 0 ∧ t.slotLoaded 3 (m.byte 0) = false ∧ mget key0 t.cph.fkey (m.byte 0) = 0 ∧
        t.fab = s.fab ∧ t.win = s.win ∧ t.dr = s.dr) ∧
  (∀ (s : State) (c : Fin 64) (m : Cmd),
      s.asked c 0xC301 m .a false [0] false [(0, 1)] → (s.sessions m.world).contains (m.byte 0) = false → 
      ∃ t, exec (.sessionClose c) s = .next t ∧ s.answered t m 0xC015 ∧
        (s.plain c m → RegsBut (mailKeys c) s t ∧ t = { s with csr := t.csr, rcd := t.rcd, mb := t.mb, cs := s.cs.but t.cs, out := t.out })) ∧
  (∀ (s : State) (c : Fin 64) (m : Cmd),
      s.asked c 0xC302 m .a false [60, 92] false [(0, 8)] → m.byte 0 = 0 → m.d.length = 92 → m.num 4 4 = 0 → m.num 2 2 < 256 → s.slotSeen m (m.num 2 2) = true → 
      ∃ t, exec (.keyLoad c) s = .next t ∧ ((s.unwrap m (m.byte 1) 64).1 = 0 → s.loadResult m.core 0 (m.num 2 2) (BitVec.ofNat 512 (ofBytes (s.unwrap m (m.byte 1) 64).2) : Key) = 0 → s.answered t m 0 ∧ t.ans m 0 4 = (kcv (BitVec.ofNat 512 (ofBytes (s.unwrap m (m.byte 1) 64).2) : Key)).toNat ∧ t.slotLoaded 0 (m.num 2 2) = true ∧ mget key0 t.cph.rkey (m.num 2 2) = (BitVec.ofNat 512 (ofBytes (s.unwrap m (m.byte 1) 64).2) : Key)) ∧ ((s.unwrap m (m.byte 1) 64).1 ≠ 0 → s.answered t m (s.unwrap m (m.byte 1) 64).1) ∧ ((s.unwrap m (m.byte 1) 64).1 = 0 → s.loadResult m.core 0 (m.num 2 2) (BitVec.ofNat 512 (ofBytes (s.unwrap m (m.byte 1) 64).2) : Key) ≠ 0 → s.answered t m (keyStatus (s.loadResult m.core 0 (m.num 2 2) (BitVec.ofNat 512 (ofBytes (s.unwrap m (m.byte 1) 64).2) : Key))) ∨ s.answered t m 0) ∧
        t.hv.world = s.hv.world) ∧
  (∀ (s : State) (c : Fin 64) (m : Cmd),
      s.asked c 0xC302 m .a false [60, 92] false [(0, 8)] → m.byte 0 = 1 → m.d.length = 60 → m.num 4 4 = 0 → m.num 2 2 < 4096 → 
      ∃ t, exec (.keyLoad c) s = .next t ∧ ((s.unwrap m (m.byte 1) 32).1 = 0 → s.loadResult m.core 1 (m.num 2 2) (BitVec.ofNat 512 (ofBytes (s.unwrap m (m.byte 1) 32).2) : Key) = 0 → s.answered t m 0 ∧ t.ans m 0 4 = (kcv (BitVec.ofNat 512 (ofBytes (s.unwrap m (m.byte 1) 32).2) : Key)).toNat ∧ t.slotLoaded 1 (m.num 2 2) = true ∧ mget key0 t.cph.ckey (m.num 2 2) = (BitVec.ofNat 512 (ofBytes (s.unwrap m (m.byte 1) 32).2) : Key)) ∧ ((s.unwrap m (m.byte 1) 32).1 ≠ 0 → s.answered t m (s.unwrap m (m.byte 1) 32).1) ∧ ((s.unwrap m (m.byte 1) 32).1 = 0 → s.loadResult m.core 1 (m.num 2 2) (BitVec.ofNat 512 (ofBytes (s.unwrap m (m.byte 1) 32).2) : Key) ≠ 0 → s.answered t m (keyStatus (s.loadResult m.core 1 (m.num 2 2) (BitVec.ofNat 512 (ofBytes (s.unwrap m (m.byte 1) 32).2) : Key))) ∨ s.answered t m 0) ∧
        t.fab = s.fab) ∧
  (∀ (s : State) (c : Fin 64) (m : Cmd),
      s.asked c 0xC302 m .a false [60, 92] false [(0, 8)] → m.byte 0 = 0 → m.d.length = 92 → m.num 4 4 = 0 → m.num 2 2 < 256 → s.slotSeen m (m.num 2 2) = false → 
      ∃ t, exec (.keyLoad c) s = .next t ∧ s.answered t m 0xC001 ∧
        (s.plain c m → RegsBut (mailKeys c) s t ∧ t = { s with csr := t.csr, rcd := t.rcd, mb := t.mb, cs := s.cs.but t.cs, out := t.out })) ∧
  (∀ (s : State) (c : Fin 64) (m : Cmd),
      s.asked c 0xC302 m .a false [60, 92] false [(0, 8)] → 2 < m.byte 0 → 
      ∃ t, exec (.keyLoad c) s = .next t ∧ s.answered t m 2 ∧
        (s.plain c m → RegsBut (mailKeys c) s t ∧ t = { s with csr := t.csr, rcd := t.rcd, mb := t.mb, cs := s.cs.but t.cs, out := t.out })) ∧
  (∀ (s : State) (c : Fin 64) (m : Cmd),
      s.asked c 0xC303 m .a false [0] false [(0, 4)] → m.byte 0 = 0 → m.byte 1 = 0 → m.num 2 2 < 256 → s.slotSeen m (m.num 2 2) = true → s.agentSecure m.core = true ∨ s.slotSecure (m.num 2 2) = false → 
      ∃ t, exec (.keyErase c) s = .next t ∧ s.answered t m 0 ∧ t.slotLoaded 0 (m.num 2 2) = false ∧ mget key0 t.cph.rkey (m.num 2 2) = 0 ∧ t.on (CPH_RSLOT_KCV_SET (m.num 2 2)) = s.on (CPH_RSLOT_KCV_SET (m.num 2 2)) ∧
        t.fab = s.fab ∧ t.win = s.win ∧ t.dr = s.dr) ∧
  (∀ (s : State) (c : Fin 64) (m : Cmd),
      s.asked c 0xC303 m .a false [0] false [(0, 4)] → m.byte 0 = 0 → m.byte 1 = 1 → m.num 2 2 < 256 → s.slotSeen m (m.num 2 2) = true → s.slotNamed (m.num 2 2) = 0 → 
      ∃ t, exec (.keyErase c) s = .next t ∧ s.answered t m 0 ∧ t.slotLoaded 0 (m.num 2 2) = false ∧ mget key0 t.cph.rkey (m.num 2 2) = 0 ∧ t.on (CPH_RSLOT_KCV_SET (m.num 2 2)) = false ∧
        t.fab = s.fab ∧ t.win = s.win ∧ t.dr = s.dr) ∧
  (∀ (s : State) (c : Fin 64) (m : Cmd),
      s.asked c 0xC303 m .a false [0] false [(0, 4)] → m.byte 0 = 0 → m.byte 1 = 1 → m.num 2 2 < 256 → s.slotSeen m (m.num 2 2) = true → s.slotNamed (m.num 2 2) ≠ 0 → 
      ∃ t, exec (.keyErase c) s = .next t ∧ s.answered t m 0xC003 ∧
        (s.plain c m → RegsBut (mailKeys c) s t ∧ t = { s with csr := t.csr, rcd := t.rcd, mb := t.mb, cs := s.cs.but t.cs, out := t.out })) ∧
  (∀ (s : State) (c : Fin 64) (m : Cmd),
      s.asked c 0xC303 m .a false [0] false [(0, 4)] → m.byte 0 = 1 → m.byte 1 = 0 → m.num 2 2 < 4096 → s.connSeen m (m.num 2 2) = true → 
      ∃ t, exec (.keyErase c) s = .next t ∧ s.answered t m 0xC003 ∧
        (s.plain c m → RegsBut (mailKeys c) s t ∧ t = { s with csr := t.csr, rcd := t.rcd, mb := t.mb, cs := s.cs.but t.cs, out := t.out })) ∧
  (∀ (s : State) (c : Fin 64) (m : Cmd),
      s.asked c 0xC303 m .a false [0] false [(0, 4)] → m.byte 0 = 2 → m.byte 1 = 0 → s.on YOK_CTL_ENABLE = true → 
      ∃ t, exec (.keyErase c) s = .next t ∧ s.answered t m 0xC004 ∧
        (s.plain c m → RegsBut (mailKeys c) s t ∧ t = { s with csr := t.csr, rcd := t.rcd, mb := t.mb, cs := s.cs.but t.cs, out := t.out })) ∧
  (∀ (s : State) (c : Fin 64) (m : Cmd),
      s.asked c 0xC303 m .a false [0] false [(0, 4)] → m.byte 0 = 3 → m.byte 1 = 0 → m.num 2 2 < 16 → (s.sessions m.world).contains (m.num 2 2) = false → 
      ∃ t, exec (.keyErase c) s = .next t ∧ s.answered t m 0xC015 ∧
        (s.plain c m → RegsBut (mailKeys c) s t ∧ t = { s with csr := t.csr, rcd := t.rcd, mb := t.mb, cs := s.cs.but t.cs, out := t.out })) ∧
  (∀ (s : State) (c : Fin 64) (m : Cmd),
      s.asked c 0xC303 m .a false [0] false [(0, 4)] → 3 < m.byte 0 ∨ 1 < m.byte 1 ∨ m.byte 1 = 1 ∧ m.byte 0 ≠ 0 → 
      ∃ t, exec (.keyErase c) s = .next t ∧ s.answered t m 2 ∧
        (s.plain c m → RegsBut (mailKeys c) s t ∧ t = { s with csr := t.csr, rcd := t.rcd, mb := t.mb, cs := s.cs.but t.cs, out := t.out })) ∧
  (∀ (s : State) (c : Fin 64) (m : Cmd),
      s.asked c 0xC304 m .q false [0] false [(0, 1), (2, 2)] → m.byte 0 = 0 → m.num 2 2 < 256 → s.slotSeen m (m.num 2 2) = true → s.mayQuerySlot m (m.num 2 2) = true → 
      ∃ t, exec (.keyStatus c) s = .next t ∧ s.answered t m 0 ∧ t.ans m 0 1 = (if s.slotLoaded 0 (m.num 2 2) then 1 else 0) ∧ t.ans m 1 1 = (if s.on (CPH_RSLOT_KCV_SET (m.num 2 2)) then 1 else 0) ∧ t.ans m 2 1 = (if s.slotSecure (m.num 2 2) then 1 else 0) ∧ t.ans m 3 1 = min 255 (s.slotNamed (m.num 2 2)) ∧ t.ans m 4 4 = s.rd (CPH_RSLOT_KCV (m.num 2 2)) ∧
        (s.plain c m → RegsBut (mailKeys c) s t ∧ t = { s with csr := t.csr, rcd := t.rcd, mb := t.mb, cs := s.cs.but t.cs, out := t.out })) ∧
  (∀ (s : State) (c : Fin 64) (m : Cmd),
      s.asked c 0xC304 m .q false [0] false [(0, 1), (2, 2)] → m.byte 0 = 1 → m.num 2 2 < 4096 → m.isA = true → s.connHidden m (m.num 2 2) = false → 
      ∃ t, exec (.keyStatus c) s = .next t ∧ s.answered t m 0 ∧ t.ans m 0 1 = (if s.slotLoaded 1 (m.num 2 2) then 1 else 0) ∧ t.ans m 1 1 = (if s.bitOf (CPH_CUSED_BITS (m.num 2 2 / 32)) (m.num 2 2 % 32) then 1 else 0) ∧
        (s.plain c m → RegsBut (mailKeys c) s t ∧ t = { s with csr := t.csr, rcd := t.rcd, mb := t.mb, cs := s.cs.but t.cs, out := t.out })) ∧
  (∀ (s : State) (c : Fin 64) (m : Cmd),
      s.asked c 0xC304 m .q false [0] false [(0, 1), (2, 2)] → m.byte 0 = 0 → m.num 2 2 < 256 → s.slotSeen m (m.num 2 2) = false → 
      ∃ t, exec (.keyStatus c) s = .next t ∧ s.answered t m 0xC001 ∧
        (s.plain c m → RegsBut (mailKeys c) s t ∧ t = { s with csr := t.csr, rcd := t.rcd, mb := t.mb, cs := s.cs.but t.cs, out := t.out })) ∧
  (∀ (s : State) (c : Fin 64) (m : Cmd),
      s.asked c 0xC304 m .q false [0] false [(0, 1), (2, 2)] → 3 < m.byte 0 → 
      ∃ t, exec (.keyStatus c) s = .next t ∧ s.answered t m 2 ∧
        (s.plain c m → RegsBut (mailKeys c) s t ∧ t = { s with csr := t.csr, rcd := t.rcd, mb := t.mb, cs := s.cs.but t.cs, out := t.out })) ∧
  (∀ (s : State) (c : Fin 64) (m : Cmd),
      s.asked c 0xC900 m .a false [0] false [(0, 1), (2, 6)] → s.bgRuns c = false → m.byte 0 = 1 → m.num 4 4 = 0x5A544E53 → m.num 2 2 < 256 → s.slotSeen m (m.num 2 2) = true → (s.slotRegions (m.num 2 2)).all s.rgnLocal = true → 
      ∃ t, exec (.sanitise c) s = .next t ∧ s.answered t m 1 ∧ t.bgOf c = some { op := m.op, job := .sanitise (m.num 2 2), since := s.now, ld := m.ld } ∧
        (s.plain c m → RegsBut (mailKeys c) s t ∧ t = { s with csr := t.csr, rcd := t.rcd, mb := t.mb, cs := { s.cs.but t.cs with bg := t.cs.bg }, out := t.out })) ∧
  (∀ (s : State) (c : Fin 64) (m : Cmd),
      s.asked c 0xC900 m .a false [0] false [(0, 1), (2, 6)] → s.bgRuns c = false → m.byte 0 = 1 → m.num 4 4 = 0x5A544E53 → m.num 2 2 < 256 → s.slotSeen m (m.num 2 2) = true → (s.slotRegions (m.num 2 2)).all s.rgnLocal = false → 
      ∃ t, exec (.sanitise c) s = .next t ∧ s.answered t m 0xC004 ∧
        (s.plain c m → RegsBut (mailKeys c) s t ∧ t = { s with csr := t.csr, rcd := t.rcd, mb := t.mb, cs := s.cs.but t.cs, out := t.out })) ∧
  (∀ (s : State) (c : Fin 64) (m : Cmd),
      s.asked c 0xC900 m .a false [0] false [(0, 1), (2, 6)] → s.bgRuns c = false → m.byte 0 ≠ 1 ∨ m.num 4 4 ≠ 0x5A544E53 ∨ 256 ≤ m.num 2 2 → 
      ∃ t, exec (.sanitise c) s = .next t ∧ s.answered t m 2 ∧
        (s.plain c m → RegsBut (mailKeys c) s t ∧ t = { s with csr := t.csr, rcd := t.rcd, mb := t.mb, cs := s.cs.but t.cs, out := t.out })) ∧
  (∀ (s : State) (c : Fin 64) (k r : Nat) (b : BgCmd),
      (s.cmdAt c fun o => o == 0xC900) = none → s.bgOf c = some b → b.job = .sanitise k → b.done = false → s.on TIN_RGN_STATUS_BUSY = false → (s.slotRegions k).find? (fun r => s.rgnValid r) = some r → s.destroyResult (s.agentSecure (coreAgent (s.rd (MBX_CH_CTL_CORE c)))) r = 0 → 
      ∃ t, exec (.sanitise c) s = .next t ∧ t.rgnValid r = false ∧ t.rgnReleasing r = true ∧ t.on TIN_RGN_STATUS_BUSY = true ∧ t.bgOf c = some b ∧
        (∀ q : Fin 256, q.val ≠ r → ∀ k ∈ rgnKeys q, t.rdW k = s.rdW k)) ∧
  (∀ (s : State) (c : Fin 64) (k : Fin 256) (b : BgCmd),
      (s.cmdAt c fun o => o == 0xC900) = none → s.bgOf c = some b → b.job = .sanitise k → b.done = false → s.on TIN_RGN_STATUS_BUSY = false → s.slotRegions k = [] → 
      ∃ t, exec (.sanitise c) s = .next t ∧ t.keyLoaded k = false ∧ mget key0 t.cph.rkey k = 0 ∧ t.on (CPH_RSLOT_KCV_SET k) = false ∧ t.bgOf c = some { b with done := true, final := 0, til := s.now } ∧
        t.fab = s.fab ∧ t.win = s.win ∧ t.dr = s.dr)

/-- PAIR_SET, ROLE_HANDOVER, TAKE and SPLIT, RESILVER and YOKE_STATUS take the effect of their rules step by step, or answer why not (R316, R319, R320, R322, R343, R350, R471, R499, R500, R501, R502, R503) -/
def Obligations.PairingAndMirroringCommandsAreCarriedOutStepByStep : Prop :=
  (∀ (s : State) (c : Fin 64) (m : Cmd),
      s.asked c 0xC400 m .a false [128, 256] false [(0, 2), (8, 16)] → m.byte 0 = 0 → m.byte 1 ≤ 1 → m.d.length = 128 * (m.byte 1 + 1) → s.pairsFree = true → s.on YOK_CTL_ENABLE = false → 
      ∃ t, exec (.pairSet c) s = .next t ∧ s.answered t m 0 ∧ (∀ i : Fin 64, i.val < m.d.length / 4 → t.rd (YOK_PATHDESC_DATA i) = m.dat (4 * i) 4) ∧ t.rd YOK_CTL_PAIRS = m.byte 1 ∧ t.yk.serialTwin = m.num 8 16 ∧
        (s.plain c m → RegsBut (mailKeys c ++ YOK_CTL :: (List.range 64).map YOK_PATHDESC) s t) ∧
        (s.plain c m → t = { s with csr := t.csr, rcd := t.rcd, mb := t.mb, cs := s.cs.but t.cs, out := t.out, yk := { s.yk with serialTwin := t.yk.serialTwin } })) ∧
  (∀ (s : State) (c : Fin 64) (m : Cmd),
      s.asked c 0xC400 m .a false [128, 256] false [(0, 2), (8, 16)] → m.byte 0 ≤ 1 → m.byte 1 ≤ 1 → m.d.length = 128 * (m.byte 1 + 1) → m.byte 1 ≠ s.rd YOK_CTL_PAIRS → s.pairsFree = false → 
      ∃ t, exec (.pairSet c) s = .next t ∧ s.answered t m 0xC004 ∧ t.yk = s.yk ∧
        t.cph = s.cph) ∧
  (∀ (s : State) (c : Fin 64) (m : Cmd),
      s.asked c 0xC400 m .a false [128, 256] false [(0, 2), (8, 16)] → m.byte 0 = 1 → m.byte 1 ≤ 1 → m.d.length = 128 * (m.byte 1 + 1) → s.pairsFree = true → s.pairKeyed = false → 
      ∃ t, exec (.pairSet c) s = .next t ∧ s.answered t m 0xC008 ∧ t.on YOK_CTL_ENABLE = s.on YOK_CTL_ENABLE ∧
        t.cph = s.cph) ∧
  (∀ (s : State) (c : Fin 64) (m : Cmd),
      s.asked c 0xC400 m .a false [128, 256] false [(0, 2), (8, 16)] → 1 < m.byte 0 → m.byte 1 ≤ 1 → m.d.length = 128 * (m.byte 1 + 1) → 
      ∃ t, exec (.pairSet c) s = .next t ∧ s.answered t m 2 ∧
        (s.plain c m → RegsBut (mailKeys c) s t ∧ t = { s with csr := t.csr, rcd := t.rcd, mb := t.mb, cs := s.cs.but t.cs, out := t.out })) ∧
  (∀ (s : State) (c : Fin 64) (m : Cmd),
      s.asked c 0xC401 m .a false [0] false [(0, 1), (8, 48)] → s.rgnSeen m (m.byte 0) = true → s.rgnValid (m.byte 0) = true → s.twinUp = true → s.rd (YOK_RGN_ROLE (m.byte 0)) = 0 → s.rd (YOK_RGN_STATE (m.byte 0)) = 2 → s.on TIN_RGN_STATUS_BUSY = false → ((s.rgnLoad (m.byte 0)).stageMasks (m.num 40 8) 0 (m.num 48 8) 0).commitResult (s.cmdSecure m) (m.byte 0) = 0 → 
      ∃ t, exec (.roleHandover c) s = .next t ∧ t.rd (TIN_RGN_LDRD_MASK (m.byte 0)) = m.num 40 8 ∧ t.rd (TIN_RGN_LDWR_MASK (m.byte 0)) = 0 ∧ t.rd (TIN_RGN_CGRD_MASK (m.byte 0)) = m.num 48 8 ∧ t.rd (TIN_RGN_CGWR_MASK (m.byte 0)) = 0 ∧ t.stageOf c = 1 ∧ t.on TIN_RGN_STATUS_BUSY = true ∧ t.rd TIN_RGN_STATUS_REGION = m.byte 0 ∧ t.mbxFull c false = true ∧ t.mbxFull c true = false ∧
        (∀ q : Fin 256, q.val ≠ m.byte 0 → ∀ k ∈ rgnKeys q, t.rdW k = s.rdW k)) ∧
  (∀ (s : State) (c : Fin 64) (m : Cmd),
      s.askedAt c 0xC401 m 1 → s.on TIN_RGN_STATUS_BUSY = false → s.twinUp = true → s.rd (YOK_RGN_STATE (m.byte 0)) = 2 → 
      ∃ t, exec (.roleHandover c) s = .next t ∧ t.rd (YOK_RGN_ROLE (m.byte 0)) = 1 ∧ t.rd (YOK_RGN_EPOCH (m.byte 0)) = (s.rd (YOK_RGN_EPOCH (m.byte 0)) + 1) % 2 ^ 24 ∧ t.stageOf c = 2 ∧ t.mbxFull c false = true ∧
        RegsBut [YOK_RGN (m.byte 0)] s t) ∧
  (∀ (s : State) (c : Fin 64) (m : Cmd),
      s.askedAt c 0xC401 m 2 → s.twinUp = false → 
      ∃ t, exec (.roleHandover c) s = .next t ∧ s.answered t m 0xC010 ∧ t.ans m 0 1 = 1 ∧
        (s.plain c m → RegsBut (mailKeys c) s t ∧ t = { s with csr := t.csr, rcd := t.rcd, mb := t.mb, cs := s.cs.but t.cs, out := t.out })) ∧
  (∀ (s : State) (c : Fin 64) (m : Cmd),
      s.asked c 0xC401 m .a false [0] false [(0, 1), (8, 48)] → s.rgnSeen m (m.byte 0) = true → s.rgnValid (m.byte 0) = true → s.twinUp = false → 
      ∃ t, exec (.roleHandover c) s = .next t ∧ s.answered t m 0xC010 ∧
        (s.plain c m → RegsBut (mailKeys c) s t ∧ t = { s with csr := t.csr, rcd := t.rcd, mb := t.mb, cs := s.cs.but t.cs, out := t.out })) ∧
  (∀ (s : State) (c : Fin 64) (m : Cmd),
      s.asked c 0xC401 m .a false [0] false [(0, 1), (8, 48)] → s.rgnSeen m (m.byte 0) = true → s.rgnValid (m.byte 0) = true → s.twinUp = true → s.rd (YOK_RGN_ROLE (m.byte 0)) ≠ 0 ∨ s.rd (YOK_RGN_STATE (m.byte 0)) ≠ 2 → 
      ∃ t, exec (.roleHandover c) s = .next t ∧ s.answered t m 0xC004 ∧
        (s.plain c m → RegsBut (mailKeys c) s t ∧ t = { s with csr := t.csr, rcd := t.rcd, mb := t.mb, cs := s.cs.but t.cs, out := t.out })) ∧
  (∀ (s : State) (c : Fin 64) (m : Cmd),
      s.asked c 0xC401 m .a false [0] false [(0, 1), (8, 48)] → (s.rgnSeen m (m.byte 0) && s.rgnValid (m.byte 0)) = false → 
      ∃ t, exec (.roleHandover c) s = .next t ∧ s.answered t m 0xC001 ∧
        (s.plain c m → RegsBut (mailKeys c) s t ∧ t = { s with csr := t.csr, rcd := t.rcd, mb := t.mb, cs := s.cs.but t.cs, out := t.out })) ∧
  (∀ (s : State) (c : Fin 64) (m : Cmd),
      s.asked c 0xC402 m .a false [0] false [(0, 1), (8, 32)] → s.on TIN_RGN_STATUS_BUSY = false → s.rgnSeen m (m.byte 0) = true → s.rgnValid (m.byte 0) = true → s.rd (YOK_RGN_STATE (m.byte 0)) ≠ 0 → s.rd (YOK_RGN_ROLE (m.byte 0)) = 1 → ((s.rgnLoad (m.byte 0)).stageMasks (m.num 8 8) (m.num 16 8) (m.num 24 8) (m.num 32 8)).commitResult (s.cmdSecure m) (m.byte 0) = 0 → 
      ∃ t, exec (.roleTake c) s = .next t ∧ t.rd (YOK_RGN_ROLE (m.byte 0)) = 0 ∧ t.rd (YOK_RGN_STATE (m.byte 0)) = 3 ∧ t.rd (YOK_RGN_EPOCH (m.byte 0)) = (s.rd (YOK_RGN_EPOCH (m.byte 0)) + 1) % 2 ^ 24 ∧ t.cs.taken.contains (m.byte 0) = true ∧ t.rd (TIN_RGN_LDRD_MASK (m.byte 0)) = m.num 8 8 ∧ t.rd (TIN_RGN_LDWR_MASK (m.byte 0)) = m.num 16 8 ∧ t.rd (TIN_RGN_CGRD_MASK (m.byte 0)) = m.num 24 8 ∧ t.rd (TIN_RGN_CGWR_MASK (m.byte 0)) = m.num 32 8 ∧ t.stageOf c = 1 ∧ t.on TIN_RGN_STATUS_BUSY = true ∧ t.rd TIN_RGN_STATUS_REGION = m.byte 0 ∧ t.mbxFull c false = true ∧ t.mbxFull c true = false ∧
        (∀ q : Fin 256, q.val ≠ m.byte 0 → ∀ k ∈ rgnKeys q, t.rdW k = s.rdW k)) ∧
  (∀ (s : State) (c : Fin 64) (m : Cmd),
      s.asked c 0xC402 m .a false [0] false [(0, 1), (8, 32)] → s.on TIN_RGN_STATUS_BUSY = false → s.rgnSeen m (m.byte 0) = true → s.rgnValid (m.byte 0) = true → s.rd (YOK_RGN_STATE (m.byte 0)) = 0 → 
      ∃ t, exec (.roleTake c) s = .next t ∧ s.answered t m 0xC004 ∧
        (s.plain c m → RegsBut (mailKeys c) s t ∧ t = { s with csr := t.csr, rcd := t.rcd, mb := t.mb, cs := s.cs.but t.cs, out := t.out })) ∧
  (∀ (s : State) (c : Fin 64) (m : Cmd),
      s.asked c 0xC402 m .a false [0] false [(0, 1), (8, 32)] → s.on TIN_RGN_STATUS_BUSY = false → (s.rgnSeen m (m.byte 0) && s.rgnValid (m.byte 0)) = false → 
      ∃ t, exec (.roleTake c) s = .next t ∧ s.answered t m 0xC001 ∧
        (s.plain c m → RegsBut (mailKeys c) s t ∧ t = { s with csr := t.csr, rcd := t.rcd, mb := t.mb, cs := s.cs.but t.cs, out := t.out })) ∧
  (∀ (s : State) (c : Fin 64) (m : Cmd),
      s.asked c 0xC403 m .a false [0] false [(0, 1)] → s.rgnSeen m (m.byte 0) = true → s.rgnValid (m.byte 0) = true → s.rd (YOK_RGN_STATE (m.byte 0)) = 5 → s.still → 
      ∃ t, exec (.roleSplit c) s = .next t ∧ s.answered t m 0 ∧ t.rd (YOK_RGN_STATE (m.byte 0)) = 3 ∧
        (∀ q : Fin 256, q.val ≠ m.byte 0 → ∀ k ∈ rgnKeys q, t.rdW k = s.rdW k)) ∧
  (∀ (s : State) (c : Fin 64) (m : Cmd),
      s.asked c 0xC403 m .a false [0] false [(0, 1)] → s.rgnSeen m (m.byte 0) = true → s.rgnValid (m.byte 0) = true → s.rd (YOK_RGN_STATE (m.byte 0)) = 3 → 
      ∃ t, exec (.roleSplit c) s = .next t ∧ s.answered t m 0 ∧
        (s.plain c m → RegsBut (mailKeys c) s t ∧ t = { s with csr := t.csr, rcd := t.rcd, mb := t.mb, cs := s.cs.but t.cs, out := t.out })) ∧
  (∀ (s : State) (c : Fin 64) (m : Cmd),
      s.asked c 0xC403 m .a false [0] false [(0, 1)] → s.rgnSeen m (m.byte 0) = true → s.rgnValid (m.byte 0) = true → s.rd (YOK_RGN_STATE (m.byte 0)) ≠ 3 → s.rd (YOK_RGN_STATE (m.byte 0)) ≠ 5 → 
      ∃ t, exec (.roleSplit c) s = .next t ∧ s.answered t m 0xC004 ∧
        (s.plain c m → RegsBut (mailKeys c) s t ∧ t = { s with csr := t.csr, rcd := t.rcd, mb := t.mb, cs := s.cs.but t.cs, out := t.out })) ∧
  (∀ (s : State) (c : Fin 64) (m : Cmd),
      s.asked c 0xC404 m .a false [0] false [(0, 3)] → m.byte 0 = 1 → m.byte 2 ≤ 100 → s.rgnSeen m (m.byte 1) = true → s.rgnValid (m.byte 1) = true → s.rd (YOK_RGN_ROLE (m.byte 1)) = 0 → s.rd (YOK_RGN_STATE (m.byte 1)) = 1 ∨ s.rd (YOK_RGN_STATE (m.byte 1)) = 4 → s.twinUp = false → 
      ∃ t, exec (.resilver c) s = .next t ∧ s.answered t m 0 ∧ t.rsvQueued (m.byte 1) = true ∧ t.rd YOK_RSV_CTL_RATE_PCT = (if m.byte 2 = 0 then s.rd YOK_RSV_CTL_RATE_PCT else m.byte 2) ∧
        (s.plain c m → RegsBut (mailKeys c ++ [YOK_RSV_CTL]) s t ∧ t = { s with csr := t.csr, rcd := t.rcd, mb := t.mb, cs := s.cs.but t.cs, out := t.out, yk := { s.yk with rsvQ := t.yk.rsvQ } })) ∧
  (∀ (s : State) (c : Fin 64) (m : Cmd),
      s.asked c 0xC404 m .a false [0] false [(0, 3)] → m.byte 0 = 2 → m.byte 2 ≤ 100 → s.rgnSeen m (m.byte 1) = true → s.rgnValid (m.byte 1) = true → s.rd (YOK_RGN_ROLE (m.byte 1)) = 0 → s.rd (YOK_RGN_STATE (m.byte 1)) = 1 ∨ s.rd (YOK_RGN_STATE (m.byte 1)) = 4 → 
      ∃ t, exec (.resilver c) s = .next t ∧ s.answered t m 0 ∧ t.rsvQueued (m.byte 1) = false ∧
        (s.plain c m → RegsBut (mailKeys c ++ [YOK_RSV_CTL]) s t ∧ t = { s with csr := t.csr, rcd := t.rcd, mb := t.mb, cs := s.cs.but t.cs, out := t.out, yk := { s.yk with rsvQ := t.yk.rsvQ, rsv := t.yk.rsv } })) ∧
  (∀ (s : State) (c : Fin 64) (m : Cmd),
      s.asked c 0xC404 m .a false [0] false [(0, 3)] → m.byte 0 = 1 ∨ m.byte 0 = 2 → m.byte 2 ≤ 100 → s.rgnSeen m (m.byte 1) = true → s.rgnValid (m.byte 1) = true → s.rd (YOK_RGN_ROLE (m.byte 1)) ≠ 0 ∨ (s.rd (YOK_RGN_STATE (m.byte 1)) ≠ 1 ∧ s.rd (YOK_RGN_STATE (m.byte 1)) ≠ 4) → 
      ∃ t, exec (.resilver c) s = .next t ∧ s.answered t m 0xC004 ∧
        (s.plain c m → RegsBut (mailKeys c) s t ∧ t = { s with csr := t.csr, rcd := t.rcd, mb := t.mb, cs := s.cs.but t.cs, out := t.out })) ∧
  (∀ (s : State) (c : Fin 64) (m : Cmd),
      s.asked c 0xC404 m .a false [0] false [(0, 3)] → m.byte 0 = 0 ∨ 2 < m.byte 0 ∨ 100 < m.byte 2 → 
      ∃ t, exec (.resilver c) s = .next t ∧ s.answered t m 2 ∧
        (s.plain c m → RegsBut (mailKeys c) s t ∧ t = { s with csr := t.csr, rcd := t.rcd, mb := t.mb, cs := s.cs.but t.cs, out := t.out })) ∧
  (∀ (s : State) (c : Fin 64) (m : Cmd),
      s.asked c 0xC405 m .q true [0] false [(0, 1)] → m.byte 0 = 0xFF → 
      ∃ t, exec (.yokeStatus c) s = .next t ∧ s.answered t m 0 ∧ t.ans m 0 1 = s.rd YOK_STS_TWIN ∧ t.ans m 1 1 = s.rd YOK_CTL_PAIRS ∧ t.ans m 4 4 = s.yk.marks.length % 2 ^ 32 ∧ t.ans m 16 8 = s.rd YOK_RSV_POS_PAGE ∧ t.ans m 24 8 = (s.rdW (YOK_ACKED 0)).toNat ∧ t.ans m 32 8 = (s.rdW (YOK_TXSEQ 0)).toNat ∧ t.ans m 40 8 = (s.rdW (YOK_ACKED 1)).toNat ∧ t.ans m 48 8 = (s.rdW (YOK_TXSEQ 1)).toNat ∧
        (s.plain c m → RegsBut (mailKeys c) s t ∧ t = { s with csr := t.csr, rcd := t.rcd, mb := t.mb, cs := s.cs.but t.cs, out := t.out })) ∧
  (∀ (s : State) (c : Fin 64) (m : Cmd),
      s.asked c 0xC405 m .q true [0] false [(0, 1)] → m.byte 0 ≠ 0xFF → s.rgnSeen m (m.byte 0) = true → s.mayQuery m (m.byte 0) = true → 
      ∃ t, exec (.yokeStatus c) s = .next t ∧ s.answered t m 0 ∧ t.ans m 0 8 = (s.rdW (YOK_RGN (m.byte 0))).toNat ∧ t.ans m 8 8 = (s.rdW (YOK_RGN_LAG (m.byte 0))).toNat ∧ t.ans m 16 1 = (if s.rsvQueued (m.byte 0) then 1 else 0) ∧
        (s.plain c m → RegsBut (mailKeys c) s t ∧ t = { s with csr := t.csr, rcd := t.rcd, mb := t.mb, cs := s.cs.but t.cs, out := t.out })) ∧
  (∀ (s : State) (c : Fin 64) (m : Cmd),
      s.asked c 0xC405 m .q true [0] false [(0, 1)] → m.byte 0 ≠ 0xFF → (s.rgnSeen m (m.byte 0) && s.mayQuery m (m.byte 0)) = false → 
      ∃ t, exec (.yokeStatus c) s = .next t ∧ s.answered t m 0xC001 ∧
        (s.plain c m → RegsBut (mailKeys c) s t ∧ t = { s with csr := t.csr, rcd := t.rcd, mb := t.mb, cs := s.cs.but t.cs, out := t.out }))

/-- PORT_SET writes a port's registers; CONN and JQ requests run the register operation of the same name and answer its result, its end or its registers (R365, R366, R369, R392, R393, R394, R396, R471, R505, R506, R507, R508) -/
def Obligations.DrillCommandsActOnPortsConnectionsAndJobQueues : Prop :=
  (∀ (s : State) (c : Fin 64) (m : Cmd),
      s.asked c 0xC500 m .a false [64] false [(0, 3)] → m.byte 0 ≤ 5 → m.byte 1 ≤ 7 → m.byte 2 ≤ 7 → m.byte 1 % 2 = 1 ∨ s.bitOf DRL_CTL_PORTS (m.byte 0) = false → 
      ∃ t, exec (.portSet c) s = .next t ∧ s.answered t m 0 ∧ (∀ i : Fin 16, t.rd (DRL_PORTDESC_DATA (16 * m.byte 0 + i)) = m.dat (4 * i) 4) ∧ t.bitOf DRL_CTL_PORTS (m.byte 0) = decide (m.byte 1 % 2 = 1) ∧ t.on DRL_CTL_ENABLE = (m.byte 1).testBit 1 ∧ t.on DRL_CTL_PFC_EN = (m.byte 1).testBit 2 ∧ t.rd DRL_RX_PFC_PRIO = m.byte 2 ∧
        t.dl = s.dl ∧ t.net = s.net) ∧
  (∀ (s : State) (c : Fin 64) (m : Cmd),
      s.asked c 0xC500 m .a false [64] false [(0, 3)] → 5 < m.byte 0 ∨ 7 < m.byte 1 ∨ 7 < m.byte 2 → 
      ∃ t, exec (.portSet c) s = .next t ∧ s.answered t m 2 ∧
        (s.plain c m → RegsBut (mailKeys c) s t ∧ t = { s with csr := t.csr, rcd := t.rcd, mb := t.mb, cs := s.cs.but t.cs, out := t.out })) ∧
  (∀ (s : State) (c : Fin 64) (m : Cmd),
      s.asked c 0xC501 m .a false [128] false [(0, 2)] → m.num 0 2 ≤ 4095 → s.on DRL_CONN_STATUS_BUSY = false → s.connHidden m (m.num 0 2) = false → m.dat 1 1 < 64 → s.on (TIN_CGB_VALID (m.dat 1 1)) = true → s.cgSeen m (m.dat 1 1) = true → (s.connAt (m.num 0 2)).state = 0 ∨ (s.connAt (m.num 0 2)).desc ≠ ofBytes m.d → 
      ∃ t, exec (.connOpenCommand c) s = .next t ∧ s.answered t m (openStatus (t.rd DRL_CONN_STATUS_RESULT)) ∧ t.rd DRL_CONN_STATUS_CONN = m.num 0 2 ∧ t.rd DRL_CONN_CMD_OP = 1 ∧ t.dl = (((List.range 32).foldl (fun (u : State) i => u.wr (DRL_STG_DATA i) (m.dat (4 * i) 4)) s).connCmd m.core 1 (m.num 0 2)).dl ∧ t.rd DRL_CONN_STATUS_RESULT = (((List.range 32).foldl (fun (u : State) i => u.wr (DRL_STG_DATA i) (m.dat (4 * i) 4)) s).connCmd m.core 1 (m.num 0 2)).rd DRL_CONN_STATUS_RESULT ∧
        (∀ i : Fin 32, t.rd (DRL_STG_DATA i) = m.dat (4 * i) 4)) ∧
  (∀ (s : State) (c : Fin 64) (m : Cmd),
      s.asked c 0xC501 m .a false [128] false [(0, 2)] → m.num 0 2 ≤ 4095 → s.connHidden m (m.num 0 2) = false → m.dat 1 1 < 64 → s.on (TIN_CGB_VALID (m.dat 1 1)) = true → s.cgSeen m (m.dat 1 1) = true → (s.connAt (m.num 0 2)).state ≠ 0 → (s.connAt (m.num 0 2)).desc = ofBytes m.d → 
      ∃ t, exec (.connOpenCommand c) s = .next t ∧ s.answered t m 0 ∧
        (s.plain c m → RegsBut (mailKeys c) s t ∧ t = { s with csr := t.csr, rcd := t.rcd, mb := t.mb, cs := s.cs.but t.cs, out := t.out })) ∧
  (∀ (s : State) (c : Fin 64) (m : Cmd),
      s.asked c 0xC501 m .a false [128] false [(0, 2)] → m.num 0 2 ≤ 4095 → s.connHidden m (m.num 0 2) = true → 
      ∃ t, exec (.connOpenCommand c) s = .next t ∧ s.answered t m 0xC001 ∧
        (s.plain c m → RegsBut (mailKeys c) s t ∧ t = { s with csr := t.csr, rcd := t.rcd, mb := t.mb, cs := s.cs.but t.cs, out := t.out })) ∧
  (∀ (s : State) (c : Fin 64) (m : Cmd),
      s.asked c 0xC501 m .a false [128] false [(0, 2)] → 4095 < m.num 0 2 → 
      ∃ t, exec (.connOpenCommand c) s = .next t ∧ s.answered t m 2 ∧
        (s.plain c m → RegsBut (mailKeys c) s t ∧ t = { s with csr := t.csr, rcd := t.rcd, mb := t.mb, cs := s.cs.but t.cs, out := t.out })) ∧
  (∀ (s : State) (c : Fin 64) (m : Cmd),
      s.asked c 0xC502 m .a false [0] false [(0, 2)] → m.num 0 2 ≤ 4095 → (s.connAt (m.num 0 2)).state = 0 → 
      ∃ t, exec (.connCloseCommand c) s = .next t ∧ s.answered t m 0 ∧ t.stageOf c = 0 ∧
        (s.plain c m → RegsBut (mailKeys c) s t ∧ t = { s with csr := t.csr, rcd := t.rcd, mb := t.mb, cs := s.cs.but t.cs, out := t.out })) ∧
  (∀ (s : State) (c : Fin 64) (m : Cmd),
      s.asked c 0xC502 m .a false [0] false [(0, 2)] → m.num 0 2 ≤ 4095 → s.on DRL_CONN_STATUS_BUSY = false → (s.connAt (m.num 0 2)).state ≠ 0 → s.connHidden m (m.num 0 2) = false → 
      ∃ t, exec (.connCloseCommand c) s = .next t ∧ t.stageOf c = 1 ∧ t.mbxFull c false = true ∧ t.dl = (s.connCmd m.core 2 (m.num 0 2)).dl ∧ t.rd DRL_CONN_STATUS_RESULT = 0 ∧
        t.cs = { s.cs with stage := t.cs.stage }) ∧
  (∀ (s : State) (c : Fin 64) (m : Cmd),
      s.askedAt c 0xC502 m 1 → m.num 0 2 ≤ 4095 → (s.connAt (m.num 0 2)).state = 0 → 
      ∃ t, exec (.connCloseCommand c) s = .next t ∧ s.answered t m 0 ∧ t.stageOf c = 0 ∧
        (s.plain c m → RegsBut (mailKeys c) s t ∧ t = { s with csr := t.csr, rcd := t.rcd, mb := t.mb, cs := s.cs.but t.cs, out := t.out })) ∧
  (∀ (s : State) (c : Fin 64) (m : Cmd),
      s.asked c 0xC502 m .a false [0] false [(0, 2)] → m.num 0 2 ≤ 4095 → s.connHidden m (m.num 0 2) = true → 
      ∃ t, exec (.connCloseCommand c) s = .next t ∧ s.answered t m 0xC001 ∧
        (s.plain c m → RegsBut (mailKeys c) s t ∧ t = { s with csr := t.csr, rcd := t.rcd, mb := t.mb, cs := s.cs.but t.cs, out := t.out })) ∧
  (∀ (s : State) (c : Fin 64) (m : Cmd),
      s.asked c 0xC503 m .q false [0] false [(0, 2)] → m.num 0 2 ≤ 4095 → s.on DRL_CONN_STATUS_BUSY = false → s.connHidden m (m.num 0 2) = false → m.isA = true ∨ (m.kind = 2 ∧ m.source = m.num 0 2) → 
      ∃ t, exec (.connInfo c) s = .next t ∧ s.answered t m 0 ∧ t.ans m 0 8 = (t.rdW DRL_SNAP_STATE).toNat ∧ t.ans m 8 8 = (t.rdW DRL_SNAP_SEQ).toNat ∧ t.ans m 16 8 = (t.rdW DRL_SNAP_CNT).toNat ∧ t.rd DRL_SNAP_STATE_STATE = (s.connAt (m.num 0 2)).state % 16 ∧ t.rd DRL_SNAP_STATE_TX_PSN = (s.connAt (m.num 0 2)).txPsn % 2 ^ 48 ∧ t.rd DRL_CONN_STATUS_CONN = m.num 0 2 ∧
        (s.plain c m → RegsBut (mailKeys c ++ [DRL_CONN_CMD, DRL_CONN_STATUS, DRL_SNAP_STATE, DRL_SNAP_SEQ, DRL_SNAP_CNT]) s t ∧ t = { s with csr := t.csr, rcd := t.rcd, mb := t.mb, cs := s.cs.but t.cs, out := t.out })) ∧
  (∀ (s : State) (c : Fin 64) (m : Cmd),
      s.asked c 0xC503 m .q false [0] false [(0, 2)] → m.num 0 2 ≤ 4095 → s.connHidden m (m.num 0 2) = true → 
      ∃ t, exec (.connInfo c) s = .next t ∧ s.answered t m 0xC001 ∧
        (s.plain c m → RegsBut (mailKeys c) s t ∧ t = { s with csr := t.csr, rcd := t.rcd, mb := t.mb, cs := s.cs.but t.cs, out := t.out })) ∧
  (∀ (s : State) (c : Fin 64) (m : Cmd),
      s.asked c 0xC504 m .a false [0] false [(0, 4)] → m.num 0 2 ≤ 1023 → m.num 2 2 ≤ 4095 → s.jqHidden m (m.num 0 2) = false → s.connHidden m (m.num 2 2) = false → s.on DRL_JQ_CMD_STS_BUSY = false → (s.jqState (m.num 0 2) ≠ 1 ∧ s.jqState (m.num 0 2) ≠ 2) ∨ s.jqConn (m.num 0 2) ≠ m.num 2 2 → 
      ∃ t, exec (.jqBindCommand c) s = .next t ∧ s.answered t m (match t.rd DRL_JQ_CMD_STS_RESULT with | 0 => 0 | 1 => 0xC003 | 2 => 0xC004 | _ => 0xC001) ∧ t.dl = (s.jqCmd m.core 1 (m.num 2 2) (m.num 0 2)).dl ∧ t.rd DRL_JQ_CMD_CONN = m.num 2 2 ∧ t.rd DRL_JQ_CMD_QUEUE = m.num 0 2 ∧ t.jqState (m.num 0 2) = (s.jqCmd m.core 1 (m.num 2 2) (m.num 0 2)).jqState (m.num 0 2) ∧
        t.hv.world = s.hv.world) ∧
  (∀ (s : State) (c : Fin 64) (m : Cmd),
      s.asked c 0xC504 m .a false [0] false [(0, 4)] → m.num 0 2 ≤ 1023 → m.num 2 2 ≤ 4095 → s.jqHidden m (m.num 0 2) = false → s.connHidden m (m.num 2 2) = false → s.on DRL_JQ_CMD_STS_BUSY = false → s.jqState (m.num 0 2) = 1 ∨ s.jqState (m.num 0 2) = 2 → s.jqConn (m.num 0 2) = m.num 2 2 → 
      ∃ t, exec (.jqBindCommand c) s = .next t ∧ s.answered t m 0 ∧
        (s.plain c m → RegsBut (mailKeys c) s t ∧ t = { s with csr := t.csr, rcd := t.rcd, mb := t.mb, cs := s.cs.but t.cs, out := t.out })) ∧
  (∀ (s : State) (c : Fin 64) (m : Cmd),
      s.asked c 0xC504 m .a false [0] false [(0, 4)] → 1023 < m.num 0 2 ∨ 4095 < m.num 2 2 → 
      ∃ t, exec (.jqBindCommand c) s = .next t ∧ s.answered t m 2 ∧
        (s.plain c m → RegsBut (mailKeys c) s t ∧ t = { s with csr := t.csr, rcd := t.rcd, mb := t.mb, cs := s.cs.but t.cs, out := t.out })) ∧
  (∀ (s : State) (c : Fin 64) (m : Cmd),
      s.asked c 0xC505 m .a false [0] false [(0, 2)] → m.num 0 2 ≤ 1023 → s.jqState (m.num 0 2) = 0 → 
      ∃ t, exec (.jqUnbindCommand c) s = .next t ∧ s.answered t m 0 ∧ t.stageOf c = 0 ∧
        (s.plain c m → RegsBut (mailKeys c) s t ∧ t = { s with csr := t.csr, rcd := t.rcd, mb := t.mb, cs := s.cs.but t.cs, out := t.out })) ∧
  (∀ (s : State) (c : Fin 64) (m : Cmd),
      s.askedAt c 0xC505 m 1 → m.num 0 2 ≤ 1023 → s.jqState (m.num 0 2) = 0 → 
      ∃ t, exec (.jqUnbindCommand c) s = .next t ∧ s.answered t m 0 ∧ t.stageOf c = 0 ∧
        (s.plain c m → RegsBut (mailKeys c) s t ∧ t = { s with csr := t.csr, rcd := t.rcd, mb := t.mb, cs := s.cs.but t.cs, out := t.out })) ∧
  (∀ (s : State) (c : Fin 64) (m : Cmd),
      s.asked c 0xC505 m .a false [0] false [(0, 2)] → m.num 0 2 ≤ 1023 → s.jqState (m.num 0 2) ≠ 0 → s.jqHidden m (m.num 0 2) = false → s.on DRL_JQ_CMD_STS_BUSY = false → 
      ∃ t, exec (.jqUnbindCommand c) s = .next t ∧ t.stageOf c = 1 ∧ t.mbxFull c false = true ∧ t.dl = (s.jqCmd m.core 2 (s.rd DRL_JQ_CMD_CONN) (m.num 0 2)).dl ∧
        t.cs = { s.cs with stage := t.cs.stage }) ∧
  (∀ (s : State) (c : Fin 64) (m : Cmd),
      s.asked c 0xC505 m .a false [0] false [(0, 2)] → 1023 < m.num 0 2 → 
      ∃ t, exec (.jqUnbindCommand c) s = .next t ∧ s.answered t m 2 ∧
        (s.plain c m → RegsBut (mailKeys c) s t ∧ t = { s with csr := t.csr, rcd := t.rcd, mb := t.mb, cs := s.cs.but t.cs, out := t.out })) ∧
  (∀ (s : State) (c : Fin 64) (m : Cmd),
      s.asked c 0xC506 m .q false [0] false [(0, 2)] → m.num 0 2 ≤ 1023 → s.jqHidden m (m.num 0 2) = false → m.isA = true ∨ (m.kind = 2 ∧ s.jqState (m.num 0 2) ≠ 0 ∧ s.jqConn (m.num 0 2) = m.source) → 
      ∃ t, exec (.jqInfo c) s = .next t ∧ s.answered t m 0 ∧ t.ans m 0 8 = (s.rdW (DRL_JQ_STATE (m.num 0 2))).toNat ∧ t.ans m 8 8 = (s.rdW (DRL_JQ_COUNT (m.num 0 2))).toNat ∧ t.ans m 16 8 = (s.rdW (DRL_JQ_FAIL (m.num 0 2))).toNat ∧ t.ans m 24 8 = (s.rdW (DRL_JQ_TAG (m.num 0 2))).toNat ∧
        (s.plain c m → RegsBut (mailKeys c) s t ∧ t = { s with csr := t.csr, rcd := t.rcd, mb := t.mb, cs := s.cs.but t.cs, out := t.out })) ∧
  (∀ (s : State) (c : Fin 64) (m : Cmd),
      s.asked c 0xC506 m .q false [0] false [(0, 2)] → 1023 < m.num 0 2 → 
      ∃ t, exec (.jqInfo c) s = .next t ∧ s.answered t m 2 ∧
        (s.plain c m → RegsBut (mailKeys c) s t ∧ t = { s with csr := t.csr, rcd := t.rcd, mb := t.mb, cs := s.cs.but t.cs, out := t.out }))

/-- HARVEST_SET, STORE_DECLARE, POWER_CAP and RECORDER_CLEAR write their registers; STATUS, RECORDER_READ, TITHE_READ and INFO answer what stands there (R291, R294, R314, R510, R511, R512, R513, R514, R520, R521, R569, R620) -/
def Obligations.HarvestPowerRecorderAndTitheCommandsAnswerTheirTables : Prop :=
  (∀ (s : State) (c : Fin 64) (m : Cmd),
      s.asked c 0xC600 m .a false [0] false [(0, 3), (4, 8)] → m.byte 0 ≤ 3 → m.num 4 2 ≤ 511 → s.hrvBusy = false → 
      ∃ t, exec (.harvestSet c) s = .next t ∧ t.rd HRV_CTL_ENABLE = m.byte 0 % 2 ∧ t.rd HRV_CTL_FALLOW_EN = m.byte 0 / 2 ∧ t.rd HRV_CTL_DEGLITCH_US = m.byte 1 ∧ t.rd HRV_CAP_CAP_GIB = m.num 4 2 ∧ t.rd HRV_NAND_TPROG_SLC_US = m.num 6 2 ∧ t.rd HRV_BOARD_RUN_W = m.num 8 2 ∧ t.rd HRV_BOARD_HARV_W = m.num 10 2 ∧ t.rd HRV_STORE_EFF_PCT = m.byte 2 ∧ t.stageOf c = 1 ∧ t.mbxFull c false = true ∧
        t.hv.world = s.hv.world) ∧
  (∀ (s : State) (c : Fin 64) (m : Cmd),
      s.askedAt c 0xC600 m 1 → 
      ∃ t, exec (.harvestSet c) s = .next t ∧ s.answered t m 0 ∧ t.ans m 0 2 = s.rd HRV_CAP_EFF_GIB ∧ t.ans m 4 4 = s.rd HRV_NEED_NEED_J ∧ t.stageOf c = 0 ∧
        (s.plain c m → RegsBut (mailKeys c) s t ∧ t = { s with csr := t.csr, rcd := t.rcd, mb := t.mb, cs := s.cs.but t.cs, out := t.out })) ∧
  (∀ (s : State) (c : Fin 64) (m : Cmd),
      s.asked c 0xC600 m .a false [0] false [(0, 3), (4, 8)] → 3 < m.byte 0 ∨ 511 < m.num 4 2 → 
      ∃ t, exec (.harvestSet c) s = .next t ∧ s.answered t m 2 ∧
        (s.plain c m → RegsBut (mailKeys c) s t ∧ t = { s with csr := t.csr, rcd := t.rcd, mb := t.mb, cs := s.cs.but t.cs, out := t.out })) ∧
  (∀ (s : State) (c : Fin 64) (m : Cmd),
      s.asked c 0xC601 m .a false [0] false [(0, 4)] → m.num 0 4 < 2 ^ 24 → s.hrvBusy = false → 
      ∃ t, exec (.storeDeclare c) s = .next t ∧ s.answered t m 0 ∧ t.rd HRV_STORE_STORE_J = m.num 0 4 ∧ t.rd HRV_STORE_EFF_PCT = s.rd HRV_STORE_EFF_PCT ∧ t.hv.declared = s.now ∧ t.bitOf (FLT_LIVE_PRESENT 88) 4 = false ∧ t.ans m 0 2 = t.rd HRV_LIMITS_CAP_STORE_GIB ∧ t.ans m 2 2 = t.rd HRV_CAP_EFF_GIB ∧ t.ans m 4 4 = t.rd HRV_NEED_NEED_J ∧
        t.hv.world = s.hv.world) ∧
  (∀ (s : State) (c : Fin 64) (m : Cmd),
      s.asked c 0xC601 m .a false [0] false [(0, 4)] → 2 ^ 24 ≤ m.num 0 4 → 
      ∃ t, exec (.storeDeclare c) s = .next t ∧ s.answered t m 2 ∧
        (s.plain c m → RegsBut (mailKeys c) s t ∧ t = { s with csr := t.csr, rcd := t.rcd, mb := t.mb, cs := s.cs.but t.cs, out := t.out })) ∧
  (∀ (s : State) (c : Fin 64) (m : Cmd),
      s.asked c 0xC602 m .q false [0] false [] → 
      ∃ t, exec (.harvestStatus c) s = .next t ∧ s.answered t m 0 ∧ t.ans m 0 1 = s.rd HRV_STS_STATE ∧ t.ans m 1 1 = s.rd HRV_STS_NOARM ∧ t.ans m 2 1 % 2 = s.rd HRV_STS_ARMED ∧ t.ans m 3 1 = 16 * s.rd HRV_LAST_CAUSE + s.rd HRV_LAST_OUTCOME ∧ t.ans m 4 2 = s.rd HRV_CAP_EFF_GIB ∧ t.ans m 6 2 = s.rd HRV_LIMITS_CAP_STORE_GIB ∧ t.ans m 8 2 = s.rd HRV_LIMITS_CAP_RESERVE_GIB ∧ t.ans m 10 2 = s.rd HRV_LIMITS_RATE_F ∧ t.ans m 12 4 = s.rd HRV_NEED_NEED_J ∧ t.ans m 16 4 = s.rd HRV_DIRTY_PAGES ∧ t.ans m 20 4 = s.rd HRV_LAST_DUR_MS ∧ t.ans m 32 4 = s.rd HRV_LOSS_PAGES ∧ t.ans m 36 4 = s.rd HRV_LOSS_LINES ∧ t.ans m 40 6 = s.rd HRV_SEQ_DSEQ ∧
        (s.plain c m → RegsBut (mailKeys c) s t ∧ t = { s with csr := t.csr, rcd := t.rcd, mb := t.mb, cs := s.cs.but t.cs, out := t.out })) ∧
  (∀ (s : State) (c : Fin 64) (m : Cmd),
      s.asked c 0xC603 m .a false [0] false [(0, 4)] → s.cs.start = none → m.num 0 4 = 0x54535648 → s.on HRV_STS_ARMED = true → 
      ∃ t, exec (.harvestStartCommand c) s = .next t ∧ s.answered t m 0 ∧ t.cs.start = some (c.val, s.now) ∧
        (s.plain c m → RegsBut (mailKeys c) s t ∧ t = { s with csr := t.csr, rcd := t.rcd, mb := t.mb, cs := { s.cs.but t.cs with start := t.cs.start }, out := t.out })) ∧
  (∀ (s : State) (c : Fin 64) (m : Cmd),
      s.asked c 0xC603 m .a false [0] false [(0, 4)] → s.cs.start = none → m.num 0 4 = 0x54535648 → s.on HRV_STS_ARMED = false → 
      ∃ t, exec (.harvestStartCommand c) s = .next t ∧ s.answered t m 0xC020 ∧
        (s.plain c m → RegsBut (mailKeys c) s t ∧ t = { s with csr := t.csr, rcd := t.rcd, mb := t.mb, cs := s.cs.but t.cs, out := t.out })) ∧
  (∀ (s : State) (c : Fin 64) (m : Cmd),
      s.asked c 0xC603 m .a false [0] false [(0, 4)] → s.cs.start = none → m.num 0 4 ≠ 0x54535648 → 
      ∃ t, exec (.harvestStartCommand c) s = .next t ∧ s.answered t m 2 ∧
        (s.plain c m → RegsBut (mailKeys c) s t ∧ t = { s with csr := t.csr, rcd := t.rcd, mb := t.mb, cs := s.cs.but t.cs, out := t.out })) ∧
  (∀ (s : State) (c : Fin 64) (t0 : Nat),
      s.cs.start = some (c.val, t0) → s.mbxFull c true = true → s.now < t0 + 10000000 → 
      exec (.harvestStartCommand c) s = .next (s)) ∧
  (∀ (s : State) (c : Fin 64) (t0 : Nat),
      s.cs.start = some (c.val, t0) → s.mbxFull c true = false ∨ t0 + 10000000 ≤ s.now → 
      exec (.harvestStartCommand c) s = .next (({ s with cs := { s.cs with start := none } }.writeHrvStart (coreAgent (s.rd (MBX_CH_CTL_CORE c)))))) ∧
  (∀ (s : State) (c : Fin 64) (m : Cmd),
      s.asked c 0xC604 m .a false [0] false [(0, 1), (2, 2)] → m.byte 0 = 0 → 
      ∃ t, exec (.powerCap c) s = .next t ∧ s.answered t m 0 ∧ t.ans m 0 2 = s.rd PWR_CAP_CAP_W ∧ t.ans m 2 2 = s.rd PWR_VLOOP_STS_POWER_W * 10 ∧ t.ans m 4 2 = s.rd PWR_VLOOP_STS_VDD_MV ∧ t.ans m 6 2 = s.rd PWR_VLOOP_STS_FLOOR_W ∧
        (s.plain c m → RegsBut (mailKeys c) s t ∧ t = { s with csr := t.csr, rcd := t.rcd, mb := t.mb, cs := s.cs.but t.cs, out := t.out })) ∧
  (∀ (s : State) (c : Fin 64) (m : Cmd),
      s.asked c 0xC604 m .a false [0] false [(0, 1), (2, 2)] → m.byte 0 = 1 → 0 < m.num 2 2 → m.num 2 2 ≤ 1023 → s.rd PWR_VLOOP_STS_FLOOR_W ≤ m.num 2 2 → 
      ∃ t, exec (.powerCap c) s = .next t ∧ s.answered t m 0 ∧ t.rd PWR_CAP_CAP_W = m.num 2 2 ∧ t.ans m 0 2 = m.num 2 2 ∧
        (s.plain c m → RegsBut (mailKeys c ++ [PWR_CAP, PWR_VLOOP_STS] ++ fltKeys 96) s t ∧ t = { s with csr := t.csr, rcd := t.rcd, mb := t.mb, cs := s.cs.but t.cs, out := t.out })) ∧
  (∀ (s : State) (c : Fin 64) (m : Cmd),
      s.asked c 0xC604 m .a false [0] false [(0, 1), (2, 2)] → m.byte 0 = 2 → 
      ∃ t, exec (.powerCap c) s = .next t ∧ s.answered t m 0 ∧ t.rd PWR_CAP_CAP_W = 0 ∧ t.ans m 0 2 = 0 ∧
        (s.plain c m → RegsBut (mailKeys c ++ [PWR_CAP, PWR_VLOOP_STS] ++ fltKeys 96) s t ∧ t = { s with csr := t.csr, rcd := t.rcd, mb := t.mb, cs := s.cs.but t.cs, out := t.out })) ∧
  (∀ (s : State) (c : Fin 64) (m : Cmd),
      s.asked c 0xC604 m .a false [0] false [(0, 1), (2, 2)] → m.byte 0 = 1 → 0 < m.num 2 2 → m.num 2 2 ≤ 1023 → m.num 2 2 < s.rd PWR_VLOOP_STS_FLOOR_W → 
      ∃ t, exec (.powerCap c) s = .next t ∧ s.answered t m 0xC01D ∧
        (s.plain c m → RegsBut (mailKeys c) s t ∧ t = { s with csr := t.csr, rcd := t.rcd, mb := t.mb, cs := s.cs.but t.cs, out := t.out })) ∧
  (∀ (s : State) (c : Fin 64) (m : Cmd),
      s.asked c 0xC604 m .a false [0] false [(0, 1), (2, 2)] → 2 < m.byte 0 ∨ m.byte 0 = 1 ∧ (m.num 2 2 = 0 ∨ 1023 < m.num 2 2) → 
      ∃ t, exec (.powerCap c) s = .next t ∧ s.answered t m 2 ∧
        (s.plain c m → RegsBut (mailKeys c) s t ∧ t = { s with csr := t.csr, rcd := t.rcd, mb := t.mb, cs := s.cs.but t.cs, out := t.out })) ∧
  (∀ (s : State) (c : Fin 64) (m : Cmd),
      s.asked c 0xC705 m .a false [0] true [(0, 6)] → 0 < m.num 4 2 → m.num 4 2 ≤ 4096 → m.num 0 4 + m.num 4 2 ≤ s.rd REC_POS_WPOS → s.rd REC_POS_WPOS ≤ 1048576 → m.kind ≠ 1 → 
      ∃ t, exec (.recorderRead c) s = .next t ∧ s.answered t m 0 ∧ t.ansD m = rdBytes s.rcd.mem (m.num 0 4) (m.num 4 2) ∧ t.ans m 0 4 = s.rd REC_POS_WPOS ∧ t.ans m 4 4 = s.rd REC_POS_EPOCH ∧ t.ans m 8 1 = s.rd REC_STS_FULL ∧
        (s.plain c m → RegsBut (mailKeys c) s t ∧ t = { s with csr := t.csr, rcd := t.rcd, mb := t.mb, cs := s.cs.but t.cs, out := t.out, fresh := t.fresh })) ∧
  (∀ (s : State) (c : Fin 64) (m : Cmd),
      s.asked c 0xC705 m .a false [0] true [(0, 6)] → 0 < m.num 4 2 → m.num 4 2 ≤ 4096 → 1048576 ≤ m.num 0 4 → m.num 0 4 + m.num 4 2 ≤ 2097152 → m.kind ≠ 1 → 
      ∃ t, exec (.recorderRead c) s = .next t ∧ s.answered t m 0 ∧ t.ansD m = rdBytes s.rcd.image (m.num 0 4 - 1048576) (m.num 4 2) ∧ t.ans m 0 4 = s.rd REC_POS_WPOS ∧
        (s.plain c m → RegsBut (mailKeys c) s t ∧ t = { s with csr := t.csr, rcd := t.rcd, mb := t.mb, cs := s.cs.but t.cs, out := t.out, fresh := t.fresh })) ∧
  (∀ (s : State) (c : Fin 64) (m : Cmd),
      s.asked c 0xC705 m .a false [0] true [(0, 6)] → m.num 4 2 = 0 ∨ 4096 < m.num 4 2 ∨ 2097152 < m.num 0 4 + m.num 4 2 → 
      ∃ t, exec (.recorderRead c) s = .next t ∧ s.answered t m 2 ∧
        (s.plain c m → RegsBut (mailKeys c) s t ∧ t = { s with csr := t.csr, rcd := t.rcd, mb := t.mb, cs := s.cs.but t.cs, out := t.out })) ∧
  (∀ (s : State) (c : Fin 64) (m : Cmd),
      s.asked c 0xC706 m .b false [0] false [(0, 4)] → m.num 0 4 = s.rd REC_POS_EPOCH → s.hrvBusy = false → 
      ∃ t, exec (.recorderClear c) s = .next t ∧ s.answered t m 0 ∧ t.rd REC_POS_EPOCH = (s.rd REC_POS_EPOCH + 1) % 2 ^ 32 ∧ t.rd REC_POS_WPOS = 32 ∧ t.on REC_STS_FULL = false ∧ t.rcd.written = 1 ∧
        t.th = s.th) ∧
  (∀ (s : State) (c : Fin 64) (m : Cmd),
      s.asked c 0xC706 m .b false [0] false [(0, 4)] → m.num 0 4 ≠ s.rd REC_POS_EPOCH → 
      ∃ t, exec (.recorderClear c) s = .next t ∧ s.answered t m 0xC004 ∧ t.rd REC_POS_EPOCH = s.rd REC_POS_EPOCH ∧ t.rd REC_POS_WPOS = s.rd REC_POS_WPOS ∧
        (s.plain c m → RegsBut (mailKeys c ++ [bankKey m.core REC_CLEAR_STS]) s t ∧ t = { s with csr := t.csr, rcd := t.rcd, mb := t.mb, cs := s.cs.but t.cs, out := t.out })) ∧
  (∀ (s : State) (c : Fin 64) (m : Cmd),
      s.asked c 0xC706 m .b false [0] false [(0, 4)] → m.num 0 4 = s.rd REC_POS_EPOCH → s.hrvBusy = true → 
      ∃ t, exec (.recorderClear c) s = .next t ∧ s.answered t m 6 ∧ t.rd REC_POS_EPOCH = s.rd REC_POS_EPOCH ∧ t.rd REC_POS_WPOS = s.rd REC_POS_WPOS ∧
        (s.plain c m → RegsBut (mailKeys c ++ [bankKey m.core REC_CLEAR_STS]) s t ∧ t = { s with csr := t.csr, rcd := t.rcd, mb := t.mb, cs := s.cs.but t.cs, out := t.out })) ∧
  (∀ (s : State) (c : Fin 64) (m : Cmd),
      s.asked c 0xC800 m .a false [0] true [(0, 1), (4, 6)] → 
      ∃ t, exec (.titheRead c) s = .next t ∧ s.answered t m 0 ∧ t.ans m 0 4 = min (min 16 (m.num 8 2)) (s.th.ring.filter fun r => r.tenant == m.byte 0 && r.life == s.rd TTH_LIFE_LIFE && decide (m.num 4 4 ≤ r.num)).length ∧ ((s.th.ring.filter fun r => r.tenant == m.byte 0 && r.life == s.rd TTH_LIFE_LIFE && decide (m.num 4 4 ≤ r.num)) = [] → t.ans m 4 4 = s.rd TTH_LIFE_NEXT) ∧ (m.kind ≠ 1 → (∀ r ∈ s.th.ring, r.bytes.length ≤ 256) → t.ansD m = ((s.th.ring.filter fun r => r.tenant == m.byte 0 && r.life == s.rd TTH_LIFE_LIFE && decide (m.num 4 4 ≤ r.num)).take (min 16 (m.num 8 2))).flatMap (fun r => r.bytes)) ∧
        (s.plain c m → RegsBut (mailKeys c) s t ∧ t = { s with csr := t.csr, rcd := t.rcd, mb := t.mb, cs := s.cs.but t.cs, out := t.out })) ∧
  (∀ (s : State) (c : Fin 64) (m : Cmd),
      s.asked c 0xC801 m .q false [0] false [] → 
      ∃ t, exec (.titheInfo c) s = .next t ∧ s.answered t m 0 ∧ (t.ansP m).take 48 = beBytes romHash 48 ∧ t.ans m 48 4 = s.th.ring.length % 2 ^ 32 ∧
        (s.plain c m → RegsBut (mailKeys c) s t ∧ t = { s with csr := t.csr, rcd := t.rcd, mb := t.mb, cs := s.cs.but t.cs, out := t.out }))

/-- FAULT_LIST and CLEAR, FENCE, TRAIN and HEAL act on the windows and units they name, DRAM and NAND ones in the background; other opcodes answer UNSUPPORTED (R197, R248, R347, R446, R468, R473, R515, R516, R517, R518, R519, R597) -/
def Obligations.FaultFenceTrainingAndHealCommandsActAndAnswer : Prop :=
  (∀ (s : State) (c : Fin 64) (m : Cmd),
      s.asked c 0xC700 m .a false [0] true [(0, 2)] → 0 < m.byte 1 → m.byte 1 ≤ 100 → m.byte 0 + m.byte 1 ≤ 100 → 
      ∃ t, exec (.faultList c) s = .next t ∧ s.answered t m 0 ∧ (m.kind ≠ 1 → (t.ansD m).length = 16 * m.byte 1) ∧ (∀ i : Fin 100, i.val < m.byte 1 → ofBytes (((t.ansD m).drop (16 * i)).take 1) = m.byte 0 + i ∧ ofBytes (((t.ansD m).drop (16 * i + 4)).take 4) = s.rd (FLT_STS_CAUSE (m.byte 0 + i)) ∧ ofBytes (((t.ansD m).drop (16 * i + 8)).take 4) = s.rd (FLT_CNT_COUNT (m.byte 0 + i))) ∧
        (s.plain c m → RegsBut (mailKeys c) s t ∧ t = { s with csr := t.csr, rcd := t.rcd, mb := t.mb, cs := s.cs.but t.cs, out := t.out })) ∧
  (∀ (s : State) (c : Fin 64) (m : Cmd),
      s.asked c 0xC700 m .a false [0] true [(0, 2)] → m.byte 1 = 0 ∨ 100 < m.byte 1 ∨ 100 < m.byte 0 + m.byte 1 → 
      ∃ t, exec (.faultList c) s = .next t ∧ s.answered t m 2 ∧
        (s.plain c m → RegsBut (mailKeys c) s t ∧ t = { s with csr := t.csr, rcd := t.rcd, mb := t.mb, cs := s.cs.but t.cs, out := t.out })) ∧
  (∀ (s : State) (c : Fin 64) (m : Cmd),
      s.asked c 0xC702 m .a false [0] false [(0, 1), (4, 4)] → m.byte 0 ≤ 99 → 
      ∃ t, exec (.faultClear c) s = .next t ∧ s.answered t m (if t.rd (FLT_STS_CAUSE (m.byte 0)) &&& m.num 4 4 = 0 then 0 else 0xC01C) ∧ (∀ b : Fin 32, t.bitOf (FLT_STS_CAUSE (m.byte 0)) b = (s.bitOf (FLT_STS_CAUSE (m.byte 0)) b && !((m.num 4 4).testBit b && !s.bitOf (FLT_LIVE_PRESENT (m.byte 0)) b))) ∧ t.ans m 0 4 = t.rd (FLT_STS_CAUSE (m.byte 0)) ∧
        (s.plain c m → RegsBut (mailKeys c ++ [FLT_STS (m.byte 0)]) s t ∧ t = { s with csr := t.csr, rcd := t.rcd, mb := t.mb, cs := s.cs.but t.cs, out := t.out })) ∧
  (∀ (s : State) (c : Fin 64) (m : Cmd),
      s.asked c 0xC702 m .a false [0] false [(0, 1), (4, 4)] → 99 < m.byte 0 → 
      ∃ t, exec (.faultClear c) s = .next t ∧ s.answered t m 2 ∧
        (s.plain c m → RegsBut (mailKeys c) s t ∧ t = { s with csr := t.csr, rcd := t.rcd, mb := t.mb, cs := s.cs.but t.cs, out := t.out })) ∧
  (∀ (s : State) (c : Fin 64) (m : Cmd),
      s.asked c 0xC701 m .a false [0] false [(0, 5)] → m.byte 1 = 1 → fenceBg (m.byte 0) = false → s.fenceLast (m.byte 0) (m.byte 2 == 0) (m.byte 3) = false → m.byte 2 ≤ 1 → m.byte 4 ≤ 1 → fenceListed (m.byte 0) (m.byte 2 == 0) (m.byte 3) = true → s.powered (m.byte 0) = true → 
      ∃ t, exec (.fenceCommand c) s = .next t ∧ s.answered t m 0 ∧ t.hp = (s.fenceDo m.core (m.byte 0) (m.byte 2 == 0) (m.byte 3) (m.byte 4)).hp ∧ t.nc = (s.fenceDo m.core (m.byte 0) (m.byte 2 == 0) (m.byte 3) (m.byte 4)).nc ∧ t.fab = (s.fenceDo m.core (m.byte 0) (m.byte 2 == 0) (m.byte 3) (m.byte 4)).fab ∧
        (s.plain c m → RegsBut (mailKeys c) (s.fenceDo m.core (m.byte 0) (m.byte 2 == 0) (m.byte 3) (m.byte 4)) t)) ∧
  (∀ (s : State) (c : Fin 64) (m : Cmd),
      s.asked c 0xC701 m .a false [0] false [(0, 5)] → m.byte 1 = 2 → fenceBg (m.byte 0) = false → s.rd (FLT_STS_CAUSE (m.byte 0)) = 0 → m.byte 2 ≤ 1 → m.byte 4 ≤ 1 → fenceListed (m.byte 0) (m.byte 2 == 0) (m.byte 3) = true → s.powered (m.byte 0) = true → 
      ∃ t, exec (.fenceCommand c) s = .next t ∧ s.answered t m 0 ∧ t.hp = (s.unfenceDo m.core (m.byte 0) (m.byte 2 == 0) (m.byte 3)).hp ∧ t.nc = (s.unfenceDo m.core (m.byte 0) (m.byte 2 == 0) (m.byte 3)).nc ∧ t.fab = (s.unfenceDo m.core (m.byte 0) (m.byte 2 == 0) (m.byte 3)).fab ∧
        (s.plain c m → RegsBut (mailKeys c) (s.unfenceDo m.core (m.byte 0) (m.byte 2 == 0) (m.byte 3)) t)) ∧
  (∀ (s : State) (c : Fin 64) (m : Cmd),
      s.asked c 0xC701 m .a false [0] false [(0, 5)] → m.byte 1 = 1 → fenceBg (m.byte 0) = true → s.bgRuns c = false → s.fenceLast (m.byte 0) (m.byte 2 == 0) (m.byte 3) = false → m.byte 2 ≤ 1 → m.byte 4 ≤ 1 → fenceListed (m.byte 0) (m.byte 2 == 0) (m.byte 3) = true → s.powered (m.byte 0) = true → 
      ∃ t, exec (.fenceCommand c) s = .next t ∧ s.answered t m 1 ∧ t.bgOf c = some { op := m.op, job := .fence (m.byte 0) (if m.byte 2 = 0 then noSub else m.byte 3) false, since := s.now, ld := m.ld } ∧ t.dr = (s.fenceDo m.core (m.byte 0) (m.byte 2 == 0) (m.byte 3) (m.byte 4)).dr ∧ t.fur = (s.fenceDo m.core (m.byte 0) (m.byte 2 == 0) (m.byte 3) (m.byte 4)).fur ∧
        (s.plain c m → RegsBut (mailKeys c) (s.fenceDo m.core (m.byte 0) (m.byte 2 == 0) (m.byte 3) (m.byte 4)) t)) ∧
  (∀ (s : State) (c : Fin 64) (m : Cmd),
      s.asked c 0xC701 m .a false [0] false [(0, 5)] → m.byte 1 = 2 → s.rd (FLT_STS_CAUSE (m.byte 0)) ≠ 0 → m.byte 2 ≤ 1 → m.byte 4 ≤ 1 → fenceListed (m.byte 0) (m.byte 2 == 0) (m.byte 3) = true → s.powered (m.byte 0) = true → 
      ∃ t, exec (.fenceCommand c) s = .next t ∧ s.answered t m 0xC01C ∧
        (s.plain c m → RegsBut (mailKeys c) s t ∧ t = { s with csr := t.csr, rcd := t.rcd, mb := t.mb, cs := s.cs.but t.cs, out := t.out })) ∧
  (∀ (s : State) (c : Fin 64) (m : Cmd),
      s.asked c 0xC701 m .a false [0] false [(0, 5)] → m.byte 1 = 1 → fenceBg (m.byte 0) = false → s.fenceLast (m.byte 0) (m.byte 2 == 0) (m.byte 3) = true → m.byte 2 ≤ 1 → m.byte 4 ≤ 1 → fenceListed (m.byte 0) (m.byte 2 == 0) (m.byte 3) = true → s.powered (m.byte 0) = true → 
      ∃ t, exec (.fenceCommand c) s = .next t ∧ s.answered t m 0xC01B ∧
        (s.plain c m → RegsBut (mailKeys c) s t ∧ t = { s with csr := t.csr, rcd := t.rcd, mb := t.mb, cs := s.cs.but t.cs, out := t.out })) ∧
  (∀ (s : State) (c : Fin 64) (m : Cmd),
      s.asked c 0xC701 m .a false [0] false [(0, 5)] → m.byte 1 = 1 ∨ m.byte 1 = 2 → m.byte 2 ≤ 1 → m.byte 4 ≤ 1 → fenceListed (m.byte 0) (m.byte 2 == 0) (m.byte 3) = true → s.powered (m.byte 0) = false → 
      ∃ t, exec (.fenceCommand c) s = .next t ∧ s.answered t m 0xC004 ∧
        (s.plain c m → RegsBut (mailKeys c) s t ∧ t = { s with csr := t.csr, rcd := t.rcd, mb := t.mb, cs := s.cs.but t.cs, out := t.out })) ∧
  (∀ (s : State) (c : Fin 64) (m : Cmd),
      s.asked c 0xC701 m .a false [0] false [(0, 5)] → m.byte 1 = 0 ∨ 2 < m.byte 1 ∨ 1 < m.byte 2 ∨ 1 < m.byte 4 ∨ fenceListed (m.byte 0) (m.byte 2 == 0) (m.byte 3) = false → 
      ∃ t, exec (.fenceCommand c) s = .next t ∧ s.answered t m 2 ∧
        (s.plain c m → RegsBut (mailKeys c) s t ∧ t = { s with csr := t.csr, rcd := t.rcd, mb := t.mb, cs := s.cs.but t.cs, out := t.out })) ∧
  (∀ (s : State) (c : Fin 64) (b : BgCmd) (w sub : Nat),
      (s.cmdAt c fun o => o == 0xC701) = none → s.bgOf c = some b → b.job = .fence w sub false → b.done = false → s.fenceDone w sub false = true → 
      ∃ t, exec (.fenceCommand c) s = .next t ∧ t.bgOf c = some { b with done := true, final := 0, til := s.now } ∧
        t = { s with cs := { s.cs with bg := t.cs.bg }, out := (s.bgTell b.ld).out }) ∧
  (∀ (s : State) (c : Fin 64) (m : Cmd) (ok : Bool) (rate : Fin 5),
      s.asked c 0xC703 m .a false [0] false [(0, 2)] → m.byte 0 ≤ 1 → m.byte 1 ≤ (if m.byte 0 = 1 then 31 else 15) → s.bgRuns c = false → s.mayRetrain (m.byte 0 == 1) (m.byte 1) = true → 
      ∃ t, exec (.train c ok rate) s = .next t ∧ s.answered t m 1 ∧ t.bgOf c = some { op := m.op, job := .train (m.byte 0 == 1) (m.byte 1), since := s.now, ld := m.ld } ∧ (m.byte 0 = 1 → t.rd (FUR_CH_STS_STATE (m.byte 1)) = (if s.rd (FUR_CH_STS_STATE (m.byte 1)) = 0 then 2 else s.rd (FUR_CH_STS_STATE (m.byte 1)))) ∧ (m.byte 0 = 0 → t.rd (DRM_STS_STATE (m.byte 1)) = (if s.rd (DRM_STS_STATE (m.byte 1)) = 0 then 1 else s.rd (DRM_STS_STATE (m.byte 1)))) ∧
        t.hv.world = s.hv.world) ∧
  (∀ (s : State) (c : Fin 64) (m : Cmd) (ok : Bool) (rate : Fin 5),
      s.asked c 0xC703 m .a false [0] false [(0, 2)] → m.byte 0 ≤ 1 → m.byte 1 ≤ (if m.byte 0 = 1 then 31 else 15) → s.bgRuns c = false → s.mayRetrain (m.byte 0 == 1) (m.byte 1) = false → 
      ∃ t, exec (.train c ok rate) s = .next t ∧ s.answered t m 0xC004 ∧
        (s.plain c m → RegsBut (mailKeys c) s t ∧ t = { s with csr := t.csr, rcd := t.rcd, mb := t.mb, cs := s.cs.but t.cs, out := t.out })) ∧
  (∀ (s : State) (c : Fin 64) (m : Cmd) (ok : Bool) (rate : Fin 5),
      s.asked c 0xC703 m .a false [0] false [(0, 2)] → 1 < m.byte 0 ∨ (if m.byte 0 = 1 then 31 else 15) < m.byte 1 → 
      ∃ t, exec (.train c ok rate) s = .next t ∧ s.answered t m 2 ∧
        (s.plain c m → RegsBut (mailKeys c) s t ∧ t = { s with csr := t.csr, rcd := t.rcd, mb := t.mb, cs := s.cs.but t.cs, out := t.out })) ∧
  (∀ (s : State) (c : Fin 64) (b : BgCmd) (ch : Fin 32) (rate : Fin 5),
      (s.cmdAt c fun o => o == 0xC703) = none → s.bgOf c = some b → b.job = .train true ch → b.done = false → 
      ∃ t, exec (.train c true rate) s = .next t ∧ t.rd (FUR_CH_STS_RATE ch) = min rate.val (min 4 (s.rd (FUR_CH_CTL_MAX_RATE ch))) ∧ t.bgOf c = some { b with done := true, final := 0, til := s.now } ∧
        RegsBut [FUR_CH_STS ch] s t ∧ t = { s with csr := t.csr, cs := { s.cs with bg := t.cs.bg }, out := (s.bgTell b.ld).out }) ∧
  (∀ (s : State) (c : Fin 64) (b : BgCmd) (ch : Fin 16) (rate : Fin 5),
      (s.cmdAt c fun o => o == 0xC703) = none → s.bgOf c = some b → b.job = .train false ch → b.done = false → s.shape → 
      ∃ t, exec (.train c true rate) s = .next t ∧ (t.chOf ch).trained = true ∧ t.bgOf c = some { b with done := true, final := 0, til := s.now } ∧
        t = { s with dr := t.dr, cs := { s.cs with bg := t.cs.bg }, out := (s.bgTell b.ld).out }) ∧
  (∀ (s : State) (c : Fin 64) (b : BgCmd) (ch : Fin 32) (rate : Fin 5),
      (s.cmdAt c fun o => o == 0xC703) = none → s.bgOf c = some b → b.job = .train true ch → b.done = false → s.rd (FUR_CH_STS_STATE ch) = 2 → 
      ∃ t, exec (.train c false rate) s = .next t ∧ t.rd (FUR_CH_STS_STATE ch) = 1 ∧ t.bgOf c = some { b with done := true, final := 4, til := s.now } ∧
        RegsBut [FUR_CH_STS ch] s t ∧ t = { s with csr := t.csr, cs := { s.cs with bg := t.cs.bg }, out := (s.bgTell b.ld).out }) ∧
  (∀ (s : State) (c : Fin 64) (m : Cmd),
      s.asked c 0xC704 m .a false [0] false [(8, 8)] → m.num 8 8 < 2 ^ 34 → (match s.rgnOfPage (m.num 8 8) with | none => true | some r => s.rgnSecure r == m.world) = true → (s.tierOf (m.num 8 8)).state = .poisoned → s.healable (m.num 8 8) = true → 
      ∃ t, exec (.heal c) s = .next t ∧ t.stageOf c = s.yk.healNum + 1 ∧ t.yk.healNum = s.yk.healNum + 1 ∧ t.mbxFull c false = true ∧ (∃ h ∈ t.yk.heals ++ t.yk.healQ, h.num = s.yk.healNum ∧ h.line = m.num 8 8 * 64 ∧ h.page = true) ∧
        t.win = s.win) ∧
  (∀ (s : State) (c : Fin 64) (m : Cmd) (n : Nat),
      s.askedAt c 0xC704 m (n + 1) → s.yk.healEnded.find? (fun x => x.1 == n) = some (n, 0) → 
      ∃ t, exec (.heal c) s = .next t ∧ s.answered t m 0 ∧ t.yk.healEnded = s.yk.healEnded.filter (fun x => x.1 != n) ∧ t.stageOf c = 0 ∧
        (s.plain c m → RegsBut (mailKeys c) s t ∧ t = { s with csr := t.csr, rcd := t.rcd, mb := t.mb, cs := s.cs.but t.cs, out := t.out, yk := { s.yk with healEnded := t.yk.healEnded } })) ∧
  (∀ (s : State) (c : Fin 64) (m : Cmd) (n code : Nat),
      s.askedAt c 0xC704 m (n + 1) → s.yk.healEnded.find? (fun x => x.1 == n) = some (n, code) → code ≠ 0 → 
      ∃ t, exec (.heal c) s = .next t ∧ s.answered t m 0xC01F ∧ t.yk.healEnded = s.yk.healEnded.filter (fun x => x.1 != n) ∧
        (s.plain c m → RegsBut (mailKeys c) s t ∧ t = { s with csr := t.csr, rcd := t.rcd, mb := t.mb, cs := s.cs.but t.cs, out := t.out, yk := { s.yk with healEnded := t.yk.healEnded } })) ∧
  (∀ (s : State) (c : Fin 64) (m : Cmd),
      s.asked c 0xC704 m .a false [0] false [(8, 8)] → m.num 8 8 < 2 ^ 34 → (match s.rgnOfPage (m.num 8 8) with | none => true | some r => s.rgnSecure r == m.world) = true → (s.tierOf (m.num 8 8)).state ≠ .poisoned → 
      ∃ t, exec (.heal c) s = .next t ∧ s.answered t m 0xC01E ∧
        (s.plain c m → RegsBut (mailKeys c) s t ∧ t = { s with csr := t.csr, rcd := t.rcd, mb := t.mb, cs := s.cs.but t.cs, out := t.out })) ∧
  (∀ (s : State) (c : Fin 64) (m : Cmd),
      s.asked c 0xC704 m .a false [0] false [(8, 8)] → m.num 8 8 < 2 ^ 34 → (match s.rgnOfPage (m.num 8 8) with | none => true | some r => s.rgnSecure r == m.world) = true → (s.tierOf (m.num 8 8)).state = .poisoned → s.healable (m.num 8 8) = false → 
      ∃ t, exec (.heal c) s = .next t ∧ s.answered t m 0xC01F ∧
        (s.plain c m → RegsBut (mailKeys c) s t ∧ t = { s with csr := t.csr, rcd := t.rcd, mb := t.mb, cs := s.cs.but t.cs, out := t.out })) ∧
  (∀ (s : State) (c : Fin 64) (m : Cmd),
      s.asked c 0xC704 m .a false [0] false [(8, 8)] → 2 ^ 34 ≤ m.num 8 8 → 
      ∃ t, exec (.heal c) s = .next t ∧ s.answered t m 2 ∧
        (s.plain c m → RegsBut (mailKeys c) s t ∧ t = { s with csr := t.csr, rcd := t.rcd, mb := t.mb, cs := s.cs.but t.cs, out := t.out })) ∧
  (∀ (s : State) (c : Fin 64) (m : Cmd),
      s.cmdAt c (fun _ => true) = some m → s.recovers c = false → geltiaOps.contains m.op = false → ((fwOps ++ cxlOps).contains m.op && m.stdOk) = false → 
      ∃ t, exec (.commandUnsupported c) s = .next t ∧ s.answered t m 3 ∧
        (s.plain c m → RegsBut (mailKeys c) s t ∧ t = { s with csr := t.csr, rcd := t.rcd, mb := t.mb, cs := s.cs.but t.cs, out := t.out })) ∧
  (∀ (s : State) (c : Fin 64),
      s.cmdAt c (fun _ => true) = none → 
      exec (.commandUnsupported c) s = .next (s))

/-- Standard commands answer identity, events, logs, time, health and alerts, and set what they may; payload layouts are the model's (log 26) (R90, R91, R97, R106, R108, R468, R473, R525, R619, notes/assumptions/26.md) -/
def Obligations.StandardCommandsAnswerEventsPoliciesIdentityAndHealth : Prop :=
  (∀ (s : State) (c : Fin 64) (m : Cmd),
      s.askedStd c 0x0001 m 0 → 
      ∃ t, exec (.cxlIdentify c) s = .next t ∧ s.answered t m 0 ∧ t.ansC m 0 2 = (s.otpWord 2).toNat % 65536 ∧ t.ansC m 2 2 = 0x6400 ∧ t.ansC m 8 8 = (s.otpWord 0).toNat ∧ t.ansC m 16 1 = 12 ∧ t.ansC m 17 1 = 3 ∧
        (s.plain c m → RegsBut (mailKeys c) s t ∧ t = { s with csr := t.csr, rcd := t.rcd, mb := t.mb, cs := s.cs.but t.cs, out := t.out })) ∧
  (∀ (s : State) (c : Fin 64) (m : Cmd) (len : Nat),
      s.askedStd c 0x0001 m len → len ≠ 0 → 
      ∃ t, exec (.cxlIdentify c) s = .next t ∧ s.answered t m 0x16 ∧
        (s.plain c m → RegsBut (mailKeys c) s t ∧ t = { s with csr := t.csr, rcd := t.rcd, mb := t.mb, cs := s.cs.but t.cs, out := t.out })) ∧
  (∀ (s : State) (c : Fin 64) (m : Cmd),
      s.askedStd c 0x0002 m 0 → s.bgOf c = none → 
      ∃ t, exec (.backgroundOperationStatus c) s = .next t ∧ s.answered t m 0 ∧ t.bulkOf m.chan true = List.replicate 8 0 ∧
        (s.plain c m → RegsBut (mailKeys c) s t ∧ t = { s with csr := t.csr, rcd := t.rcd, mb := t.mb, cs := s.cs.but t.cs, out := t.out })) ∧
  (∀ (s : State) (c : Fin 64) (m : Cmd) (b : BgCmd),
      s.askedStd c 0x0002 m 0 → s.bgOf c = some b → b.done = true → 
      ∃ t, exec (.backgroundOperationStatus c) s = .next t ∧ s.answered t m 0 ∧ t.ansC m 0 1 = 200 ∧ t.ansC m 2 2 = b.op % 65536 ∧ t.ansC m 4 2 = b.final % 65536 ∧
        (s.plain c m → RegsBut (mailKeys c) s t ∧ t = { s with csr := t.csr, rcd := t.rcd, mb := t.mb, cs := s.cs.but t.cs, out := t.out })) ∧
  (∀ (s : State) (c : Fin 64) (m : Cmd),
      s.askedStd c 0x0100 m 1 → m.pay 0 1 ≤ 4 → 
      ∃ t, exec (.getEventRecords c) s = .next t ∧ s.answered t m 0 ∧ t.ansC m 20 2 = min 31 ((s.ldOf (s.ldKey m.source)).logLen (m.pay 0 1 + 1)) ∧ t.ansC m 0 1 / 2 % 2 = (if 31 < (s.ldOf (s.ldKey m.source)).logLen (m.pay 0 1 + 1) then 1 else 0) ∧
        (s.plain c m → RegsBut (mailKeys c) s t ∧ t = { s with csr := t.csr, rcd := t.rcd, mb := t.mb, cs := s.cs.but t.cs, out := t.out })) ∧
  (∀ (s : State) (c : Fin 64) (m : Cmd),
      s.askedStd c 0x0100 m 1 → 5 ≤ m.pay 0 1 → 
      ∃ t, exec (.getEventRecords c) s = .next t ∧ s.answered t m 2 ∧
        (s.plain c m → RegsBut (mailKeys c) s t ∧ t = { s with csr := t.csr, rcd := t.rcd, mb := t.mb, cs := s.cs.but t.cs, out := t.out })) ∧
  (∀ (s : State) (c : Fin 64) (m : Cmd) (len : Nat),
      s.askedStd c 0x0101 m len → 6 ≤ len → m.pay 0 1 ≤ 4 → m.pay 1 1 % 2 = 1 → 
      ∃ t, exec (.clearEventRecords c) s = .next t ∧ s.answered t m 0 ∧ (t.ldOf (s.ldKey m.source)).logLen (m.pay 0 1 + 1) = 0 ∧
        (s.plain c m → RegsBut (mailKeys c) s t ∧ t = { s with csr := t.csr, rcd := t.rcd, mb := t.mb, cs := s.cs.but t.cs, out := t.out, hp := t.hp }) ∧
        (∀ k, k ≠ s.ldKey m.source → t.ldOf k = s.ldOf k)) ∧
  (∀ (s : State) (c : Fin 64) (m : Cmd) (n : Nat),
      s.askedStd c 0x0101 m (6 + 2 * n) → n = m.pay 2 1 → m.pay 0 1 ≤ 4 → m.pay 1 1 % 2 = 0 → n ≤ (s.ldOf (s.ldKey m.source)).logLen (m.pay 0 1 + 1) → (List.range n).all (fun i => m.pay (6 + 2 * i) 2 == (s.ldOf (s.ldKey m.source)).handleOf (m.pay 0 1 + 1) i) = true → 
      ∃ t, exec (.clearEventRecords c) s = .next t ∧ s.answered t m 0 ∧ (t.ldOf (s.ldKey m.source)).logLen (m.pay 0 1 + 1) = (s.ldOf (s.ldKey m.source)).logLen (m.pay 0 1 + 1) - n ∧
        (s.plain c m → RegsBut (mailKeys c) s t ∧ t = { s with csr := t.csr, rcd := t.rcd, mb := t.mb, cs := s.cs.but t.cs, out := t.out, hp := t.hp }) ∧
        (∀ k, k ≠ s.ldKey m.source → t.ldOf k = s.ldOf k)) ∧
  (∀ (s : State) (c : Fin 64) (m : Cmd) (n : Nat),
      s.askedStd c 0x0101 m (6 + 2 * n) → n = m.pay 2 1 → m.pay 0 1 ≤ 4 → m.pay 1 1 % 2 = 0 → ((s.ldOf (s.ldKey m.source)).logLen (m.pay 0 1 + 1) < n ∨ (List.range n).all (fun i => m.pay (6 + 2 * i) 2 == (s.ldOf (s.ldKey m.source)).handleOf (m.pay 0 1 + 1) i) = false) → 
      ∃ t, exec (.clearEventRecords c) s = .next t ∧ s.answered t m 0xE ∧
        (s.plain c m → RegsBut (mailKeys c) s t ∧ t = { s with csr := t.csr, rcd := t.rcd, mb := t.mb, cs := s.cs.but t.cs, out := t.out })) ∧
  (∀ (s : State) (c : Fin 64) (m : Cmd),
      s.askedStd c 0x0102 m 0 → 
      ∃ t, exec (.getEventInterruptPolicy c) s = .next t ∧ s.answered t m 0 ∧ (∀ i : Fin 5, t.ansC m i 1 = getBits (s.ldOf (s.ldKey m.source)).policy.toNat (8 * i) 2 + 16 * logVec (i + 1)) ∧
        (s.plain c m → RegsBut (mailKeys c) s t ∧ t = { s with csr := t.csr, rcd := t.rcd, mb := t.mb, cs := s.cs.but t.cs, out := t.out })) ∧
  (∀ (s : State) (c : Fin 64) (m : Cmd),
      s.askedStd c 0x0103 m 5 → (List.range 5).all (fun i => m.pay i 1 % 4 != 3) = true → 
      ∃ t, exec (.setEventInterruptPolicy c) s = .next t ∧ s.answered t m 0 ∧ (∀ i : Fin 5, getBits (t.ldOf (s.ldKey m.source)).policy.toNat (8 * i) 2 = m.pay i 1 % 4) ∧
        (s.plain c m → RegsBut (mailKeys c) s t ∧ t = { s with csr := t.csr, rcd := t.rcd, mb := t.mb, cs := s.cs.but t.cs, out := t.out, hp := t.hp }) ∧
        (∀ k, k ≠ s.ldKey m.source → t.ldOf k = s.ldOf k)) ∧
  (∀ (s : State) (c : Fin 64) (m : Cmd),
      s.askedStd c 0x0103 m 4 → (List.range 4).any (fun i => m.pay i 1 % 4 == 3) = true → 
      ∃ t, exec (.setEventInterruptPolicy c) s = .next t ∧ s.answered t m 2 ∧
        (s.plain c m → RegsBut (mailKeys c) s t ∧ t = { s with csr := t.csr, rcd := t.rcd, mb := t.mb, cs := s.cs.but t.cs, out := t.out })) ∧
  (∀ (s : State) (c : Fin 64) (m : Cmd),
      s.askedStd c 0x0300 m 0 → 
      ∃ t, exec (.getTimestamp c) s = .next t ∧ s.answered t m 0 ∧ t.ansC m 0 8 = s.stampTime % 2 ^ 64 ∧
        (s.plain c m → RegsBut (mailKeys c) s t ∧ t = { s with csr := t.csr, rcd := t.rcd, mb := t.mb, cs := s.cs.but t.cs, out := t.out })) ∧
  (∀ (s : State) (c : Fin 64) (m : Cmd),
      s.askedStd c 0x0301 m 8 → m.core ≠ .sb → 
      ∃ t, exec (.setTimestamp c) s = .next t ∧ s.answered t m 0 ∧ (t.rdW REC_TIME).toNat = m.pay 0 8 ∧
        (s.plain c m → RegsBut (mailKeys c ++ [REC_TIME]) s t ∧ t = { s with csr := t.csr, rcd := t.rcd, mb := t.mb, cs := s.cs.but t.cs, out := t.out })) ∧
  (∀ (s : State) (c : Fin 64) (m : Cmd),
      s.askedStd c 0x0400 m 0 → 
      ∃ t, exec (.getSupportedLogs c) s = .next t ∧ s.answered t m 0 ∧ t.ansC m 0 2 = 1 ∧ ((t.bulkOf m.chan true).drop 8).take 16 = uuidEffects ∧ t.ansC m 24 4 = effectsLog.length ∧
        (s.plain c m → RegsBut (mailKeys c) s t ∧ t = { s with csr := t.csr, rcd := t.rcd, mb := t.mb, cs := s.cs.but t.cs, out := t.out })) ∧
  (∀ (s : State) (c : Fin 64) (m : Cmd),
      s.askedStd c 0x0401 m 24 → m.raw.take 16 = uuidEffects → m.pay 16 4 + m.pay 20 4 ≤ effectsLog.length → 
      ∃ t, exec (.getLog c) s = .next t ∧ s.answered t m 0 ∧ t.bulkOf m.chan true = (effectsLog.drop (m.pay 16 4)).take (m.pay 20 4) ∧
        (s.plain c m → RegsBut (mailKeys c) s t ∧ t = { s with csr := t.csr, rcd := t.rcd, mb := t.mb, cs := s.cs.but t.cs, out := t.out })) ∧
  (∀ (s : State) (c : Fin 64) (m : Cmd),
      s.askedStd c 0x0401 m 24 → m.raw.take 16 ≠ uuidEffects → 
      ∃ t, exec (.getLog c) s = .next t ∧ s.answered t m 0x17 ∧
        (s.plain c m → RegsBut (mailKeys c) s t ∧ t = { s with csr := t.csr, rcd := t.rcd, mb := t.mb, cs := s.cs.but t.cs, out := t.out })) ∧
  (∀ (s : State) (c : Fin 64) (m : Cmd),
      s.askedStd c 0x4000 m 0 → 
      ∃ t, exec (.identifyMemoryDevice c) s = .next t ∧ s.answered t m 0 ∧ ((t.bulkOf m.chan true).drop 16).take 24 = List.replicate 24 0 ∧ t.ansC m 56 4 = 0 ∧ t.ansC m 60 3 = 256 ∧ t.ansC m 63 2 = 16 ∧
        (s.plain c m → RegsBut (mailKeys c) s t ∧ t = { s with csr := t.csr, rcd := t.rcd, mb := t.mb, cs := s.cs.but t.cs, out := t.out })) ∧
  (∀ (s : State) (c : Fin 64) (m : Cmd) (temp : BitVec 16),
      s.askedStd c 0x4200 m 0 → 
      ∃ t, exec (.getHealthInfo c temp) s = .next t ∧ s.answered t m 0 ∧ t.ansC m 3 1 = min 255 (s.lifeUsed / 10) ∧ t.ansC m 4 2 = temp.toNat ∧ t.ansC m 6 4 = s.hv.dirtyShut % 2 ^ 32 ∧ t.ansC m 14 4 = s.rd FUR_RECON_CNT_COUNT % 2 ^ 32 ∧
        (s.plain c m → RegsBut (mailKeys c) s t ∧ t = { s with csr := t.csr, rcd := t.rcd, mb := t.mb, cs := s.cs.but t.cs, out := t.out })) ∧
  (∀ (s : State) (c : Fin 64) (m : Cmd),
      s.askedStd c 0x4201 m 0 → 
      ∃ t, exec (.getAlertConfiguration c) s = .next t ∧ s.answered t m 0 ∧ t.ansC m 0 1 = (s.ldOf (s.ldKey m.source)).alert.toNat % 256 ∧ t.ansC m 3 1 = getBits (s.ldOf (s.ldKey m.source)).alert.toNat 8 8 ∧ t.ansC m 8 4 = getBits (s.ldOf (s.ldKey m.source)).alert.toNat 16 32 ∧
        (s.plain c m → RegsBut (mailKeys c) s t ∧ t = { s with csr := t.csr, rcd := t.rcd, mb := t.mb, cs := s.cs.but t.cs, out := t.out })) ∧
  (∀ (s : State) (c : Fin 64) (m : Cmd),
      s.askedStd c 0x4202 m 12 → m.pay 0 1 = 1 → 
      ∃ t, exec (.setAlertConfiguration c) s = .next t ∧ s.answered t m 0 ∧ getBits (t.ldOf (s.ldKey m.source)).alert.toNat 8 8 = m.pay 2 1 ∧ getBits (t.ldOf (s.ldKey m.source)).alert.toNat 0 1 = m.pay 1 1 % 2 ∧ getBits (t.ldOf (s.ldKey m.source)).alert.toNat 16 32 = getBits (s.ldOf (s.ldKey m.source)).alert.toNat 16 32 ∧
        (s.plain c m → RegsBut (mailKeys c) s t ∧ t = { s with csr := t.csr, rcd := t.rcd, mb := t.mb, cs := s.cs.but t.cs, out := t.out, hp := t.hp })) ∧
  (∀ (s : State) (c : Fin 64) (m : Cmd),
      s.askedStd c 0x4202 m 12 → 7 < m.pay 0 1 → 
      ∃ t, exec (.setAlertConfiguration c) s = .next t ∧ s.answered t m 2 ∧
        (s.plain c m → RegsBut (mailKeys c) s t ∧ t = { s with csr := t.csr, rcd := t.rcd, mb := t.mb, cs := s.cs.but t.cs, out := t.out })) ∧
  (∀ (s : State) (c : Fin 64) (m : Cmd),
      s.askedStd c 0x4203 m 0 → 
      ∃ t, exec (.getShutdownState c) s = .next t ∧ s.answered t m 0 ∧ t.ansC m 0 1 = (s.ldOf (s.ldKey m.source)).shutdown % 256 ∧
        (s.plain c m → RegsBut (mailKeys c) s t ∧ t = { s with csr := t.csr, rcd := t.rcd, mb := t.mb, cs := s.cs.but t.cs, out := t.out })) ∧
  (∀ (s : State) (c : Fin 64) (m : Cmd),
      s.askedStd c 0x4204 m 1 → m.pay 0 1 ≤ 1 → 
      ∃ t, exec (.setShutdownState c) s = .next t ∧ s.answered t m 0 ∧ (t.ldOf (s.ldKey m.source)) = { (s.ldOf (s.ldKey m.source)) with shutdown := m.pay 0 1 } ∧
        (s.plain c m → RegsBut (mailKeys c) s t ∧ t = { s with csr := t.csr, rcd := t.rcd, mb := t.mb, cs := s.cs.but t.cs, out := t.out, hp := t.hp }) ∧
        (∀ k, k ≠ s.ldKey m.source → t.ldOf k = s.ldOf k)) ∧
  (∀ (s : State) (c : Fin 64) (m : Cmd),
      s.askedStd c 0x4204 m 1 → 1 < m.pay 0 1 → 
      ∃ t, exec (.setShutdownState c) s = .next t ∧ s.answered t m 2 ∧
        (s.plain c m → RegsBut (mailKeys c) s t ∧ t = { s with csr := t.csr, rcd := t.rcd, mb := t.mb, cs := s.cs.but t.cs, out := t.out }))

/-- Transfer and Activate FW, the poison commands and the Dynamic Capacity commands act on flash, pages and extents, or answer why not (layouts: log 26) (R95, R96, R98, R105, R106, R239, R240, R523, R524, R525, R542, notes/assumptions/26.md) -/
def Obligations.FirmwarePoisonAndDynamicCapacityCommandsActAsRuled : Prop :=
  (∀ (s : State) (c : Fin 64) (m : Cmd),
      s.askedStd c 0x0200 m 0 → 
      ∃ t, exec (.getFwInfo c) s = .next t ∧ s.answered t m 0 ∧ t.ansC m 0 1 = 2 ∧ t.ansC m 1 1 = (s.slotRun + 8 * s.slotNext) % 256 ∧ t.ansC m 2 1 = 1 ∧
        (s.plain c m → RegsBut (mailKeys c) s t ∧ t = { s with csr := t.csr, rcd := t.rcd, mb := t.mb, cs := s.cs.but t.cs, out := t.out })) ∧
  (∀ (s : State) (c : Fin 64) (m : Cmd) (len : Nat) (bad : List Nat),
      s.askedStd c 0x0201 m len → m.pay 0 1 = 1 → (m.raw.drop 128).length ≤ 3968 → (m.raw.drop 128).length % 128 = 0 → 128 ≤ len → s.cs.fw = none → m.pay 1 1 = 1 ∨ m.pay 1 1 = 2 → m.pay 1 1 ≠ s.slotRun → m.pay 4 4 = 0 → s.bgRuns m.chan = false → 
      ∃ t, exec (.transferFw c bad) s = .next t ∧ s.answered t m 1 ∧ t.cs.fw = some { chan := m.chan, bank := m.pay 1 1 - 1, data := (m.raw.drop 128), full := false } ∧ t.bgOf m.chan = some { op := m.op, job := .erase, since := s.now, ld := m.ld } ∧
        (s.plain c m → RegsBut (mailKeys c) s t ∧ t = { s with csr := t.csr, rcd := t.rcd, mb := t.mb, cs := { s.cs.but t.cs with fw := t.cs.fw, bg := t.cs.bg }, out := t.out })) ∧
  (∀ (s : State) (c : Fin 64) (m : Cmd) (len : Nat) (bad : List Nat),
      s.askedStd c 0x0201 m len → m.pay 0 1 = 2 → (m.raw.drop 128).length ≤ 3968 → (m.raw.drop 128).length % 128 = 0 → 128 ≤ len → s.cs.fw = none → 
      ∃ t, exec (.transferFw c bad) s = .next t ∧ s.answered t m 9 ∧
        (s.plain c m → RegsBut (mailKeys c) s t ∧ t = { s with csr := t.csr, rcd := t.rcd, mb := t.mb, cs := s.cs.but t.cs, out := t.out })) ∧
  (∀ (s : State) (c : Fin 64) (m : Cmd) (len : Nat) (bad : List Nat),
      s.askedStd c 0x0201 m len → m.pay 0 1 = 1 → (m.raw.drop 128).length ≤ 3968 → (m.raw.drop 128).length % 128 = 0 → 128 ≤ len → s.cs.fw = none → m.pay 1 1 = 0 ∨ 2 < m.pay 1 1 ∨ m.pay 1 1 = s.slotRun → 
      ∃ t, exec (.transferFw c bad) s = .next t ∧ s.answered t m 0xB ∧
        (s.plain c m → RegsBut (mailKeys c) s t ∧ t = { s with csr := t.csr, rcd := t.rcd, mb := t.mb, cs := s.cs.but t.cs, out := t.out })) ∧
  (∀ (s : State) (c : Fin 64) (m : Cmd) (len : Nat) (f : FwXfer) (bad : List Nat),
      s.askedStd c 0x0201 m len → m.pay 0 1 = 1 → (m.raw.drop 128).length ≤ 3968 → (m.raw.drop 128).length % 128 = 0 → 128 ≤ len → s.cs.fw = some f → 
      ∃ t, exec (.transferFw c bad) s = .next t ∧ s.answered t m 8 ∧
        (s.plain c m → RegsBut (mailKeys c) s t ∧ t = { s with csr := t.csr, rcd := t.rcd, mb := t.mb, cs := s.cs.but t.cs, out := t.out })) ∧
  (∀ (s : State) (c : Fin 64) (m : Cmd) (len : Nat) (f : FwXfer) (bad : List Nat),
      s.askedStd c 0x0201 m len → m.pay 0 1 = 4 → (m.raw.drop 128).length ≤ 3968 → (m.raw.drop 128).length % 128 = 0 → 128 ≤ len → s.cs.fw = some f → f.chan = m.chan → 
      ∃ t, exec (.transferFw c bad) s = .next t ∧ s.answered t m 0 ∧ t.cs.fw = none ∧
        (s.plain c m → RegsBut (mailKeys c) s t ∧ t = { s with csr := t.csr, rcd := t.rcd, mb := t.mb, cs := { s.cs.but t.cs with fw := t.cs.fw, bg := t.cs.bg }, out := t.out })) ∧
  (∀ (s : State) (c : Fin 64) (m : Cmd) (len : Nat) (f : FwXfer),
      s.askedStd c 0x0201 m len → m.pay 0 1 = 2 → (m.raw.drop 128).length ≤ 3968 → (m.raw.drop 128).length % 128 = 0 → 128 < len → s.cs.fw = some f → f.chan = m.chan → s.bgRuns m.chan = false → m.pay 4 4 * 128 = f.next → f.next + (len - 128) ≤ 192 * 65536 → s.eflBusy = false → s.programErr f.bank (f.next / 32) (wordsOf (m.raw.drop 128)).length = none → 
      ∃ t, exec (.transferFw c []) s = .next t ∧ s.answered t m 0 ∧ (∀ i : Fin 124, i.val < (wordsOf (m.raw.drop 128)).length → t.eflWord f.bank (f.next / 32 + i) = (wordsOf (m.raw.drop 128)).getD i 0) ∧ t.cs.fw = some { f with next := f.next + (len - 128) } ∧
        t.efl.otp = s.efl.otp) ∧
  (∀ (s : State) (c : Fin 64) (m : Cmd) (len : Nat) (f : FwXfer) (bad : List Nat),
      s.askedStd c 0x0201 m len → m.pay 0 1 = 2 → (m.raw.drop 128).length ≤ 3968 → (m.raw.drop 128).length % 128 = 0 → 128 ≤ len → s.cs.fw = some f → f.chan = m.chan → s.bgRuns m.chan = false → m.pay 4 4 * 128 ≠ f.next → 
      ∃ t, exec (.transferFw c bad) s = .next t ∧ s.answered t m 9 ∧
        (s.plain c m → RegsBut (mailKeys c) s t ∧ t = { s with csr := t.csr, rcd := t.rcd, mb := t.mb, cs := s.cs.but t.cs, out := t.out })) ∧
  (∀ (s : State) (c : Fin 64) (f : FwXfer) (bad : List Nat),
      (s.cmdAt c fun o => o == 0x0201) = none → s.cs.fw = some f → f.chan = c → s.bgRuns c = true → s.efl.erase = none → f.busy = false → f.sector < 192 → f.bank ≤ 1 → 
      ∃ t, exec (.transferFw c bad) s = .next t ∧ t.efl = { s.efl with erase := some { bank := f.bank, sector := f.sector, since := s.now } } ∧ t.cs.fw = some { f with busy := true } ∧ t.rd EFL_STS_STATE = 2 ∧
        RegsBut ([EFL_CMD, EFL_ADDR, EFL_STS, EFL_ERASE_STS] ++ (List.range 4).map EFL_WDATA) s t) ∧
  (∀ (s : State) (c : Fin 64) (m : Cmd),
      s.askedStd c 0x0202 m 2 → m.pay 0 1 ≤ 1 → m.pay 1 1 = 1 ∨ m.pay 1 1 = 2 → s.efl.erase = none → 
      ∃ t, exec (.activateFw c) s = .next t ∧ (s.imageOk (m.pay 1 1 - 1) = false → s.answered t m 0xB) ∧ (s.imageOk (m.pay 1 1 - 1) = true → s.answered t m 0 ∧ (m.pay 0 1 = 0 → t.cs.activate = some s.now)) ∧
        t.efl.otp = s.efl.otp) ∧
  (∀ (s : State) (c : Fin 64) (m : Cmd),
      s.askedStd c 0x0202 m 2 → 1 < m.pay 0 1 → 
      ∃ t, exec (.activateFw c) s = .next t ∧ s.answered t m 2 ∧
        (s.plain c m → RegsBut (mailKeys c) s t ∧ t = { s with csr := t.csr, rcd := t.rcd, mb := t.mb, cs := s.cs.but t.cs, out := t.out })) ∧
  (∀ (s : State) (c : Fin 64) (t0 : Nat),
      (s.cmdAt c fun o => o == 0x0202) = none → s.cs.activate = some t0 → t0 + 1000000 ≤ s.now → s.hrvBusy = true → 
      ∃ t, exec (.activateFw c) s = .next t ∧ t.cs.activate = none ∧ t.hv.latched = s.hv.latched ||| 2 ^ 5 ∧
        RegsBut [HRV_STS, RST_CNT] s t) ∧
  (∀ (s : State) (c : Fin 64) (m : Cmd),
      s.askedStd c 0x4300 m 16 → 
      ∃ t, exec (.getPoisonList c) s = .next t ∧ s.answered t m 0 ∧ t.ansC m 10 2 = min 254 (s.poisonList m.source (m.pay 0 8 / 64) (m.pay 8 8)).length ∧ t.ansC m 0 1 % 2 = (if 254 < (s.poisonList m.source (m.pay 0 8 / 64) (m.pay 8 8)).length then 1 else 0) ∧
        (s.plain c m → RegsBut (mailKeys c) s t ∧ t = { s with csr := t.csr, rcd := t.rcd, mb := t.mb, cs := s.cs.but t.cs, out := t.out })) ∧
  (∀ (s : State) (c : Fin 64) (m : Cmd),
      s.askedStd c 0x4301 m 8 → (s.ldLine m.source (m.pay 0 8 / 64) true).isNone = true → 
      ∃ t, exec (.injectPoison c) s = .next t ∧ s.answered t m 0xF ∧
        (s.plain c m → RegsBut (mailKeys c) s t ∧ t = { s with csr := t.csr, rcd := t.rcd, mb := t.mb, cs := s.cs.but t.cs, out := t.out })) ∧
  (∀ (s : State) (c : Fin 64) (m : Cmd),
      s.askedStd c 0x4301 m 8 → (s.ldLine m.source (m.pay 0 8 / 64) true).isSome = true → (s.tierOf (m.pay 0 8 / 64 / 64)).state = .poisoned → 
      ∃ t, exec (.injectPoison c) s = .next t ∧ s.answered t m 0 ∧ t.win = s.win ∧
        (s.plain c m → RegsBut (mailKeys c) s t ∧ t = { s with csr := t.csr, rcd := t.rcd, mb := t.mb, cs := s.cs.but t.cs, out := t.out })) ∧
  (∀ (s : State) (c : Fin 64) (m : Cmd),
      s.askedStd c 0x4301 m 8 → (s.ldLine m.source (m.pay 0 8 / 64) true).isSome = true → (s.tierOf (m.pay 0 8 / 64 / 64)).state ≠ .poisoned → 16 ≤ s.injected → 
      ∃ t, exec (.injectPoison c) s = .next t ∧ s.answered t m 0x10 ∧ t.win = s.win ∧
        (s.plain c m → RegsBut (mailKeys c) s t ∧ t = { s with csr := t.csr, rcd := t.rcd, mb := t.mb, cs := s.cs.but t.cs, out := t.out })) ∧
  (∀ (s : State) (c : Fin 64) (m : Cmd),
      s.askedStd c 0x4301 m 8 → (s.ldLine m.source (m.pay 0 8 / 64) true).isSome = true → (s.tierOf (m.pay 0 8 / 64 / 64)).state ≠ .poisoned → s.injected < 16 → 
      ∃ t, exec (.injectPoison c) s = .next t ∧ t.stageOf c = 1 ∧ t.mbxFull c false = true ∧
        t.hv.world = s.hv.world) ∧
  (∀ (s : State) (c : Fin 64) (m : Cmd),
      (s.cmdAt c fun o => o == 0x4301) = some m → m.stdOk = true → m.raw.length = 8 → s.stageOf c = 1 → (s.win.poisoning.any fun q => q.page == (m.pay 0 8 / 64 / 64)) = false → 
      ∃ t, exec (.injectPoison c) s = .next t ∧ s.answered t m 0 ∧ t.stageOf c = 0 ∧
        (s.plain c m → RegsBut (mailKeys c) s t ∧ t = { s with csr := t.csr, rcd := t.rcd, mb := t.mb, cs := s.cs.but t.cs, out := t.out })) ∧
  (∀ (s : State) (c : Fin 64) (m : Cmd) (env : FabEnv),
      s.askedStd c 0x4302 m 72 → (s.ldLine m.source (m.pay 0 8 / 64) true).isNone = true → 
      ∃ t, exec (.clearPoison c env) s = .next t ∧ s.answered t m 0xF ∧
        (s.plain c m → RegsBut (mailKeys c) s t ∧ t = { s with csr := t.csr, rcd := t.rcd, mb := t.mb, cs := s.cs.but t.cs, out := t.out })) ∧
  (∀ (s : State) (c : Fin 64) (m : Cmd) (env : FabEnv),
      s.askedStd c 0x4302 m 72 → (s.ldLine m.source (m.pay 0 8 / 64) true).isSome = true → 
      ∃ t, exec (.clearPoison c env) s = .next t ∧ t.stageOf c = 1 ∧ t.mbxFull c false = true ∧
        t.hv.world = s.hv.world) ∧
  (∀ (s : State) (c : Fin 64) (m : Cmd) (env : FabEnv),
      (s.cmdAt c fun o => o == 0x4302) = some m → m.stdOk = true → m.raw.length = 72 → s.stageOf c = 1 → s.fwWrites (s.ldKey m.source / 16) (s.ldKey m.source % 16) c = false → 
      ∃ t, exec (.clearPoison c env) s = .next t ∧ s.answered t m 0 ∧ t.stageOf c = 0 ∧
        (s.plain c m → RegsBut (mailKeys c) s t ∧ t = { s with csr := t.csr, rcd := t.rcd, mb := t.mb, cs := s.cs.but t.cs, out := t.out })) ∧
  (∀ (s : State) (c : Fin 64) (m : Cmd),
      s.askedStd c 0x4800 m 2 → m.pay 1 1 < s.dcRegions.length → 
      ∃ t, exec (.getDcConfiguration c) s = .next t ∧ s.answered t m 0 ∧ t.ansC m 0 1 = s.dcRegions.length ∧ t.ansC m 1 1 = min (m.pay 0 1) (s.dcRegions.length - m.pay 1 1) ∧ (0 < m.pay 0 1 → t.ansC m 8 8 = (s.dcRegions.getD (m.pay 1 1) (0, 0)).1 * 2 ^ 43 ∧ t.ansC m 24 8 = (s.dcRegions.getD (m.pay 1 1) (0, 0)).2 * 2 ^ 30) ∧
        (s.plain c m → RegsBut (mailKeys c) s t ∧ t = { s with csr := t.csr, rcd := t.rcd, mb := t.mb, cs := s.cs.but t.cs, out := t.out })) ∧
  (∀ (s : State) (c : Fin 64) (m : Cmd),
      s.askedStd c 0x4800 m 2 → s.dcRegions.length ≤ m.pay 1 1 → 
      ∃ t, exec (.getDcConfiguration c) s = .next t ∧ s.answered t m 2 ∧
        (s.plain c m → RegsBut (mailKeys c) s t ∧ t = { s with csr := t.csr, rcd := t.rcd, mb := t.mb, cs := s.cs.but t.cs, out := t.out })) ∧
  (∀ (s : State) (c : Fin 64) (m : Cmd),
      s.askedStd c 0x4801 m 8 → m.pay 4 4 ≤ (s.dcList m.source).length → 
      ∃ t, exec (.getDcExtentList c) s = .next t ∧ s.answered t m 0 ∧ t.ansC m 0 4 = min (min 102 (m.pay 0 4)) ((s.dcList m.source).length - m.pay 4 4) ∧ t.ansC m 4 4 = (s.dcList m.source).length % 2 ^ 32 ∧
        (s.plain c m → RegsBut (mailKeys c) s t ∧ t = { s with csr := t.csr, rcd := t.rcd, mb := t.mb, cs := s.cs.but t.cs, out := t.out })) ∧
  (∀ (s : State) (c : Fin 64) (m : Cmd),
      s.askedStd c 0x4802 m 8 → m.pay 0 4 = 0 → 
      ∃ t, exec (.addDcResponse c) s = .next t ∧ s.answered t m 0 ∧ (t.ldOf (s.ldKey m.source)).extents = dropOffer (s.ldOf (s.ldKey m.source)).extents ∧
        (s.plain c m → RegsBut (mailKeys c) s t ∧ t = { s with csr := t.csr, rcd := t.rcd, mb := t.mb, cs := s.cs.but t.cs, out := t.out, hp := t.hp }) ∧
        (∀ k, k ≠ s.ldKey m.source → t.ldOf k = s.ldOf k)) ∧
  (∀ (s : State) (c : Fin 64) (m : Cmd) (n : Nat),
      s.askedStd c 0x4802 m (8 + 24 * n) → m.pay 0 4 = n → 0 < n → (m.extents.all fun x => (s.ldOf (s.ldKey m.source)).extents.any fun e => e.is x && !e.accepted) = true → 
      ∃ t, exec (.addDcResponse c) s = .next t ∧ s.answered t m 0 ∧ (t.ldOf (s.ldKey m.source)).extents = (s.ldOf (s.ldKey m.source)).extents.map (fun e => if m.extents.any (fun x => e.is x) then { e with accepted := true } else e) ∧
        (s.plain c m → RegsBut (mailKeys c) s t ∧ t = { s with csr := t.csr, rcd := t.rcd, mb := t.mb, cs := s.cs.but t.cs, out := t.out, hp := t.hp })) ∧
  (∀ (s : State) (c : Fin 64) (m : Cmd) (n : Nat),
      s.askedStd c 0x4802 m (8 + 24 * n) → m.pay 0 4 = n → 0 < n → (m.extents.all fun x => (s.ldOf (s.ldKey m.source)).extents.any fun e => e.is x && !e.accepted) = false → 
      ∃ t, exec (.addDcResponse c) s = .next t ∧ s.answered t m 0xF ∧
        (s.plain c m → RegsBut (mailKeys c) s t ∧ t = { s with csr := t.csr, rcd := t.rcd, mb := t.mb, cs := s.cs.but t.cs, out := t.out })) ∧
  (∀ (s : State) (c : Fin 64) (m : Cmd) (n : Nat),
      s.askedStd c 0x4803 m (8 + 24 * n) → m.pay 0 4 = n → 0 < n → (m.extents.all fun x => (s.ldOf (s.ldKey m.source)).extents.any fun e => e.is x && e.accepted) = true → 
      ∃ t, exec (.releaseDc c) s = .next t ∧ s.answered t m 0 ∧ (t.ldOf (s.ldKey m.source)).extents = (s.ldOf (s.ldKey m.source)).extents.filter (fun e => !(e.accepted && m.extents.any fun x => e.is x)) ∧
        (s.plain c m → RegsBut (mailKeys c) s t ∧ t = { s with csr := t.csr, rcd := t.rcd, mb := t.mb, cs := s.cs.but t.cs, out := t.out, hp := t.hp })) ∧
  (∀ (s : State) (c : Fin 64) (m : Cmd),
      s.askedStd c 0x4803 m 8 → m.pay 0 4 = 0 → 
      ∃ t, exec (.releaseDc c) s = .next t ∧ s.answered t m 0x1E ∧
        (s.plain c m → RegsBut (mailKeys c) s t ∧ t = { s with csr := t.csr, rcd := t.rcd, mb := t.mb, cs := s.cs.but t.cs, out := t.out })) ∧
  (∀ (s : State) (c : Fin 64) (m : Cmd) (n : Nat),
      s.askedStd c 0x4803 m (8 + 24 * n) → m.pay 0 4 = n → 0 < n → (m.extents.all fun x => (s.ldOf (s.ldKey m.source)).extents.any fun e => e.is x && e.accepted) = false → 
      ∃ t, exec (.releaseDc c) s = .next t ∧ s.answered t m 0xF ∧
        (s.plain c m → RegsBut (mailKeys c) s t ∧ t = { s with csr := t.csr, rcd := t.rcd, mb := t.mb, cs := s.cs.but t.cs, out := t.out })) ∧
  (∀ (s : State) (c : Fin 64) (m : Cmd) (len : Nat),
      s.askedStd c 0x4803 m len → 8 ≤ len → len ≠ 8 + 24 * m.pay 0 4 → 
      ∃ t, exec (.releaseDc c) s = .next t ∧ s.answered t m 0x16 ∧
        (s.plain c m → RegsBut (mailKeys c) s t ∧ t = { s with csr := t.csr, rcd := t.rcd, mb := t.mb, cs := s.cs.but t.cs, out := t.out }))

/-- A write of TIN_RGN_COMMIT while BUSY is 1 starts nothing, leaves TIN_RGN_STATUS as it stands and is recorded (R64) -/
def Obligations.AWriteOfTheCommitRegisterIsRefusedWhileItIsBusy : Prop :=
  (∀ (s : State) (a : Agent) (r : Fin 256),
      s.reaches a TIN_RGN_COMMIT = true → s.on TIN_RGN_STATUS_BUSY = true → 
      ∃ t, exec (.rgnOpNone a r) s = .next t ∧ t.rdW TIN_RGN_STATUS = s.rdW TIN_RGN_STATUS ∧ t.fab = s.fab ∧
        RegsBut (fltKeys 12 ++ recKeys) s t ∧ t = { s with csr := t.csr, rcd := t.rcd, shadow := s.shadow.filter (fun h => h.a != a) }) ∧
  (∀ (s : State) (a : Agent) (r : Fin 256),
      s.reaches a TIN_RGN_COMMIT = true → s.on TIN_RGN_STATUS_BUSY = true → s.rcd.queue.length < 128 → 
      ∃ t, exec (.rgnOpNone a r) s = .next t ∧ t.rcd.queue = s.rcd.queue ++ [badRec s a true false 5 TIN_RGN_COMMIT (BitVec.ofNat 64 (0 + r.val))]) ∧
  (∀ (s : State) (a : Agent) (r : Fin 256),
      s.reaches a TIN_RGN_COMMIT = true → s.on TIN_RGN_STATUS_BUSY = true → 
      ∃ t, exec (.rgnLoad a r) s = .next t ∧ t.rdW TIN_RGN_STATUS = s.rdW TIN_RGN_STATUS ∧ t.fab = s.fab ∧
        RegsBut (fltKeys 12 ++ recKeys) s t ∧ t = { s with csr := t.csr, rcd := t.rcd, shadow := s.shadow.filter (fun h => h.a != a) }) ∧
  (∀ (s : State) (a : Agent) (r : Fin 256),
      s.reaches a TIN_RGN_COMMIT = true → s.on TIN_RGN_STATUS_BUSY = true → s.rcd.queue.length < 128 → 
      ∃ t, exec (.rgnLoad a r) s = .next t ∧ t.rcd.queue = s.rcd.queue ++ [badRec s a true false 5 TIN_RGN_COMMIT (BitVec.ofNat 64 (256 + r.val))]) ∧
  (∀ (s : State) (a : Agent) (r : Fin 256),
      s.reaches a TIN_RGN_COMMIT = true → s.on TIN_RGN_STATUS_BUSY = true → 
      ∃ t, exec (.rgnCommit a r) s = .next t ∧ t.rdW TIN_RGN_STATUS = s.rdW TIN_RGN_STATUS ∧ t.fab = s.fab ∧
        RegsBut (fltKeys 12 ++ recKeys) s t ∧ t = { s with csr := t.csr, rcd := t.rcd, shadow := s.shadow.filter (fun h => h.a != a) }) ∧
  (∀ (s : State) (a : Agent) (r : Fin 256),
      s.reaches a TIN_RGN_COMMIT = true → s.on TIN_RGN_STATUS_BUSY = true → s.rcd.queue.length < 128 → 
      ∃ t, exec (.rgnCommit a r) s = .next t ∧ t.rcd.queue = s.rcd.queue ++ [badRec s a true false 5 TIN_RGN_COMMIT (BitVec.ofNat 64 (512 + r.val))]) ∧
  (∀ (s : State) (a : Agent) (r : Fin 256),
      s.reaches a TIN_RGN_COMMIT = true → s.on TIN_RGN_STATUS_BUSY = true → 
      ∃ t, exec (.rgnDestroy a r) s = .next t ∧ t.rdW TIN_RGN_STATUS = s.rdW TIN_RGN_STATUS ∧ t.fab = s.fab ∧
        RegsBut (fltKeys 12 ++ recKeys) s t ∧ t = { s with csr := t.csr, rcd := t.rcd, shadow := s.shadow.filter (fun h => h.a != a) }) ∧
  (∀ (s : State) (a : Agent) (r : Fin 256),
      s.reaches a TIN_RGN_COMMIT = true → s.on TIN_RGN_STATUS_BUSY = true → s.rcd.queue.length < 128 → 
      ∃ t, exec (.rgnDestroy a r) s = .next t ∧ t.rcd.queue = s.rcd.queue ++ [badRec s a true false 5 TIN_RGN_COMMIT (BitVec.ofNat 64 (768 + r.val))]) ∧
  (∀ (s : State) (a : Agent) (v : Word64) (env : BusEnv),
      s.reaches a TIN_RGN_COMMIT = true → s.on TIN_RGN_STATUS_BUSY = true → 
      ∃ t, exec (.ctrlRegWrite a (BitVec.ofNat 32 TIN_RGN_COMMIT) false v env) s = .next t ∧ t.rdW TIN_RGN_STATUS = s.rdW TIN_RGN_STATUS ∧ t.fab = s.fab ∧
        RegsBut (fltKeys 12 ++ recKeys) s t ∧ t = { s with csr := t.csr, rcd := t.rcd, shadow := s.shadow.filter (fun h => h.a != a) }) ∧
  (∀ (s : State) (a : Agent) (v : Word64) (env : BusEnv),
      s.reaches a TIN_RGN_COMMIT = true → s.on TIN_RGN_STATUS_BUSY = true → s.rcd.queue.length < 128 → 
      ∃ t, exec (.ctrlRegWrite a (BitVec.ofNat 32 TIN_RGN_COMMIT) false v env) s = .next t ∧ t.rcd.queue.length = s.rcd.queue.length + 1 ∧
        RegsBut (fltKeys 12 ++ recKeys) s t ∧ t = { s with csr := t.csr, rcd := t.rcd, shadow := s.shadow.filter (fun h => h.a != a) })

/-- A 32-bit read of MBX_SEM_k acquires a free semaphore and changes nothing of a held one; an 8- or 16-bit read acquires nothing (R461) -/
def Obligations.AReadOfASemaphoreAcquiresItWhenItIsFree : Prop :=
  (∀ (s : State) (a : Agent) (k : Fin 32),
      s.reaches a (MBX_SEM k) = true → s.semHeld k = false → 
      ∃ t, exec (.semRead a k) s = .next t ∧ t.semHeld k = true ∧ t.rd (MBX_SEM_OWNER k) = agentNum a ∧ t.out = .ctrl a (BitVec.ofNat 64 (2 ^ 31 + 2 ^ 30 + agentNum a)) :: s.out ∧
        RegsBut [MBX_SEM k, MBX_SEM_HELD] s t ∧ t = { s with csr := t.csr, out := t.out, shadow := s.shadow.filter (fun h => h.a != a) }) ∧
  (∀ (s : State) (a : Agent) (k : Fin 32),
      s.reaches a (MBX_SEM k) = true → s.semHeld k = true → 
      exec (.semRead a k) s = .next ({ s with out := .ctrl a (BitVec.ofNat 64 (2 ^ 30 + s.rd (MBX_SEM_OWNER k))) :: s.out, shadow := s.shadow.filter (fun h => h.a != a) })) ∧
  (∀ (s : State) (a : Agent) (k : Fin 32), s.reaches a (MBX_SEM k) = true →
      exec (.lowHalfRead a (BitVec.ofNat 32 (MBX_SEM k))) s = exec (.semRead a k) s) ∧
  (∀ (s : State) (a : Agent) (k : Fin 32) (size : AccSize) (v : Word64),
      s.reaches a (MBX_SEM k) = true → size = .b1 ∨ size = .b2 → 
      ∃ t, exec (.badWidthAccess a false (BitVec.ofNat 32 (MBX_SEM k)) size v) s = .next t ∧ t.out = .ctrl a 0 :: s.out ∧ (∀ j : Fin 32, t.rdW (MBX_SEM j) = s.rdW (MBX_SEM j)) ∧ t.rdW MBX_SEM_HELD = s.rdW MBX_SEM_HELD ∧
        RegsBut (fltKeys 94 ++ recKeys) s t ∧ t = { s with csr := t.csr, rcd := t.rcd, out := t.out, shadow := s.shadow.filter (fun h => h.a != a) })

/-- A send to a FULL slot replaces its message, sets COLL, advances COLL_CNT and SEQ, and reports COLLIDED to the sender (R453) -/
def Obligations.ASendToAFullSlotReplacesItsMessage : Prop :=
  (∀ (s : State) (a : Agent) (c : Fin 64),
      s.reaches a MBX_SEND = true → s.maySend a c false = true → s.mbxFull c false = true → 
      ∃ t, exec (.mbxSend a false c) s = .next t ∧ t.on (fColl c false) = true ∧ t.rd (MBX_CH_STS_COLL_CNT c) = min (s.rd (MBX_CH_STS_COLL_CNT c) + 1) 65535 ∧ t.rd (MBX_OP_STS_RESULT.bank a) = 1 ∧ t.mbxFull c false = true ∧ t.mbxSeq c false = (s.mbxSeq c false + 1) % 2 ^ 32 ∧ (∀ k : Fin 8, t.rd (fMsg c false k) = s.rd ((MBX_STG_BYTES k).bank a))) ∧
  (∀ (s : State) (a : Agent) (c : Fin 64),
      s.reaches a MBX_SEND = true → s.maySend a c true = true → s.destOk c (s.rd (MBX_DEST_DKIND.bank a)) (s.rd (MBX_DEST_DEST.bank a)) = true → s.mbxFull c true = true → 
      ∃ t, exec (.mbxSend a true c) s = .next t ∧ t.on (fColl c true) = true ∧ t.rd (MBX_CH_STS_COLL_CNT c) = min (s.rd (MBX_CH_STS_COLL_CNT c) + 1) 65535 ∧ t.rd (MBX_OP_STS_RESULT.bank a) = 1 ∧ t.mbxFull c true = true ∧ t.mbxSeq c true = (s.mbxSeq c true + 1) % 2 ^ 32 ∧ (∀ k : Fin 8, t.rd (fMsg c true k) = s.rd ((MBX_STG_BYTES k).bank a))) ∧
  (∀ (s : State) (a : Agent) (c : Fin 64) (out : Bool),
      s.reaches a MBX_SEND = true → s.maySend a c out = true → out = true → s.destOk c (s.rd (MBX_DEST_DKIND.bank a)) (s.rd (MBX_DEST_DEST.bank a)) = true → s.mbxFull c out = false → 
      ∃ t, exec (.mbxSend a out c) s = .next t ∧ t.rd (MBX_OP_STS_RESULT.bank a) = 0 ∧ t.rd (MBX_CH_STS_COLL_CNT c) = s.rd (MBX_CH_STS_COLL_CNT c) ∧ t.mbxSeq c out = (s.mbxSeq c out + 1) % 2 ^ 32)

/-- Every command of the table completes and keeps the canonical form; the form is the model's own, log entries 4 and 10 (01_architecture.md, R11, notes/assumptions/4.md, notes/assumptions/10.md) -/
def Obligations.EveryStepAnswersANextStateAndKeepsTheCanonicalForm : Prop :=
  (∀ (s : State), s.Wf → ∃ t, step s = .next t ∧ t.Wf)

/-- The state right after power-on is well-formed, with every register at its reset value, no command waiting and no memory byte listed (R582, R583, notes/assumptions/3.md, notes/assumptions/4.md) -/
def Obligations.ResetIsWellFormed : Prop :=
  (State.reset.Wf ∧ State.reset.pending = [] ∧ State.reset.out = [] ∧ State.reset.pwr = 0 ∧
    (∀ k, State.reset.rdW k = csrDefault k) ∧ (∀ a, mget byte0 State.reset.dr.mem a = 0))
end

