-- ==== Sys2Proof/Laws/Map.lean ====
section
/-!
SUPPORT. Laws/Map.lean: reading a sparse map after a write, and that a write keeps the canonical form.
-/
namespace Sys2Proof.Machine
open Sys2Proof

variable {α : Type}

theorem mget_merase_same (d : Nat → α) (m : SMap α) (k : Nat) : mget d (merase k m) k = d k := by
  induction m with
  | nil => rfl
  | cons x t ih => obtain ⟨a, w⟩ := x; by_cases h : a = k <;> simp [merase, mget, h, ih]

theorem mget_merase_ne (d : Nat → α) (m : SMap α) (k j : Nat) (h : j ≠ k) : mget d (merase k m) j = mget d m j := by
  induction m with
  | nil => rfl
  | cons x t ih =>
    obtain ⟨a, w⟩ := x
    by_cases ha : a = k
    · have : a ≠ j := fun e => h (e ▸ ha)
      simp [merase, mget, ha, ih, ha ▸ this]
    · by_cases hj : a = j
      · subst hj; simp [merase, mget, h]
      · simp [merase, mget, ha, hj, ih]

theorem mget_minsert_same (d : Nat → α) (m : SMap α) (k : Nat) (v : α) :
    mget d (minsert k v (merase k m)) k = v := by
  induction m with
  | nil => simp [merase, minsert, mget]
  | cons x t ih =>
    obtain ⟨a, w⟩ := x
    by_cases ha : a = k
    · simpa [merase, ha] using ih
    · by_cases hk : k < a <;> simp [merase, minsert, mget, ha, hk, ih]

theorem mget_minsert_ne (d : Nat → α) (m : SMap α) (k j : Nat) (v : α) (h : j ≠ k) :
    mget d (minsert k v m) j = mget d m j := by
  induction m with
  | nil => simp [minsert, mget, Ne.symm h]
  | cons x t ih =>
    obtain ⟨a, w⟩ := x
    by_cases hk : k < a
    · simp [minsert, mget, hk, Ne.symm h]
    · by_cases hj : a = j
      · subst hj; simp [minsert, mget, hk]
      · simp [minsert, mget, hk, hj, ih]

/-- A read after a write of the same key gives the value written. -/
@[simp] theorem mget_mset_same [DecidableEq α] (d : Nat → α) (m : SMap α) (k : Nat) (v : α) :
    mget d (mset d m k v) k = v := by
  unfold mset; split
  · rename_i h; rw [mget_merase_same, h]
  · exact mget_minsert_same d m k v

/-- A write leaves every other key alone. -/
theorem mget_mset_ne [DecidableEq α] (d : Nat → α) (m : SMap α) (k j : Nat) (v : α) (h : j ≠ k) :
    mget d (mset d m k v) j = mget d m j := by
  unfold mset; split
  · exact mget_merase_ne d m k j h
  · rw [mget_minsert_ne d _ k j v h, mget_merase_ne d m k j h]

/-- Reading any key after a write. -/
theorem mget_mset [DecidableEq α] (d : Nat → α) (m : SMap α) (k j : Nat) (v : α) :
    mget d (mset d m k v) j = if j = k then v else mget d m j := by
  split
  · rename_i h; rw [h, mget_mset_same]
  · rename_i h; exact mget_mset_ne d m k j v h

/-- The canonical form, as a statement about every entry. -/
theorem mwf_cons [DecidableEq α] (d : Nat → α) (k : Nat) (v : α) (t : SMap α) :
    mwf d ((k, v) :: t) = true ↔ v ≠ d k ∧ (∀ e ∈ t.head?, k < e.1) ∧ mwf d t = true := by
  cases t with
  | nil => simp [mwf]
  | cons e t => obtain ⟨k', v'⟩ := e; simp [mwf, and_assoc]

theorem mwf_tail [DecidableEq α] {d : Nat → α} {x : Nat × α} {t : SMap α} (h : mwf d (x :: t) = true) : mwf d t = true := by
  obtain ⟨k, v⟩ := x; exact ((mwf_cons d k v t).1 h).2.2

theorem mwf_lt [DecidableEq α] {d : Nat → α} {k : Nat} {v : α} {t : SMap α} (h : mwf d ((k, v) :: t) = true) :
    ∀ e ∈ t, k < e.1 := by
  induction t generalizing k v with
  | nil => simp
  | cons e t ih =>
    obtain ⟨k', v'⟩ := e
    obtain ⟨-, h1, h2⟩ := (mwf_cons d k v _).1 h
    have hk : k < k' := h1 (k', v') (by simp)
    intro e he
    rcases List.mem_cons.1 he with rfl | he
    · exact hk
    · exact Nat.lt_trans hk (ih h2 e he)

theorem head_merase (k : Nat) {m : SMap α} {b : Nat} (h : ∀ e ∈ m, b < e.1) : ∀ e ∈ merase k m, b < e.1 := by
  induction m with
  | nil => simp [merase]
  | cons x t ih =>
    obtain ⟨a, w⟩ := x
    have ht := ih fun e he => h e (List.mem_cons_of_mem _ he)
    by_cases ha : a = k
    · simpa [merase, ha] using ht
    · intro e he
      simp only [merase, ha, if_false, List.mem_cons] at he
      rcases he with rfl | he
      · exact h _ (by simp)
      · exact ht e he

theorem mwf_merase [DecidableEq α] {d : Nat → α} {m : SMap α} (k : Nat) (h : mwf d m = true) : mwf d (merase k m) = true := by
  induction m with
  | nil => simpa [merase] using h
  | cons x t ih =>
    obtain ⟨a, w⟩ := x
    have ht := ih (mwf_tail h)
    by_cases ha : a = k
    · simpa [merase, ha] using ht
    · simp only [merase, ha, if_false]
      refine (mwf_cons d a w _).2 ⟨((mwf_cons d a w t).1 h).1, fun e he => ?_, ht⟩
      exact head_merase k (mwf_lt h) e (List.mem_of_mem_head? he)

theorem mwf_minsert [DecidableEq α] {d : Nat → α} {m : SMap α} {k : Nat} {v : α} (hv : v ≠ d k) (h : mwf d m = true)
    (hk : ∀ e ∈ m, e.1 ≠ k) : mwf d (minsert k v m) = true := by
  induction m with
  | nil => simp [minsert, mwf, hv]
  | cons x t ih =>
    obtain ⟨a, w⟩ := x
    have hne : a ≠ k := hk (a, w) (by simp)
    by_cases hlt : k < a
    · simp only [minsert, hlt, if_true]
      exact (mwf_cons d k v _).2 ⟨hv, by simpa using hlt, h⟩
    · simp only [minsert, hlt, if_false]
      have hak : a < k := by omega
      refine (mwf_cons d a w _).2 ⟨((mwf_cons d a w t).1 h).1, ?_, ih (mwf_tail h) fun e he => hk e (List.mem_cons_of_mem _ he)⟩
      have hlt' := mwf_lt h
      intro e he
      cases t with
      | nil => simp [minsert] at he; rw [← he]; exact hak
      | cons y t =>
        obtain ⟨b, u⟩ := y
        by_cases hb : k < b
        · simp [minsert, hb] at he; rw [← he]; exact hak
        · simp [minsert, hb] at he; rw [← he]; exact hlt' (b, u) (by simp)

theorem merase_not_mem (k : Nat) (m : SMap α) : ∀ e ∈ merase k m, e.1 ≠ k := by
  induction m with
  | nil => simp [merase]
  | cons x t ih =>
    obtain ⟨a, w⟩ := x
    by_cases ha : a = k
    · simpa [merase, ha] using ih
    · intro e he
      simp only [merase, ha, if_false, List.mem_cons] at he
      rcases he with rfl | he
      · exact ha
      · exact ih e he

/-- A write keeps the canonical form. -/
theorem mwf_mset [DecidableEq α] {d : Nat → α} {m : SMap α} (k : Nat) (v : α) (h : mwf d m = true) :
    mwf d (mset d m k v) = true := by
  unfold mset; split
  · exact mwf_merase k h
  · rename_i hv; exact mwf_minsert hv (mwf_merase k h) (merase_not_mem k m)

/-- Dropping entries keeps the canonical form. -/
theorem mwf_filter [DecidableEq α] {d : Nat → α} {m : SMap α} (p : Nat × α → Bool) (h : mwf d m = true) :
    mwf d (m.filter p) = true := by
  induction m with
  | nil => simpa using h
  | cons x t ih =>
    obtain ⟨a, w⟩ := x
    have ht := ih (mwf_tail h)
    by_cases hp : p (a, w)
    · simp only [List.filter_cons, hp, if_true]
      refine (mwf_cons d a w _).2 ⟨((mwf_cons d a w t).1 h).1, fun e he => ?_, ht⟩
      exact mwf_lt h e (List.mem_filter.1 (List.mem_of_mem_head? he)).1
    · simpa [List.filter_cons, hp] using ht

end Sys2Proof.Machine
end

