-- ==== Sys2Proof/Laws/Fields.lean ====
section
/-!
SUPPORT. Laws/Fields.lean: reading a register or a field after a write of a register or a field.
-/
namespace Sys2Proof.Machine
open Sys2Proof

@[simp] theorem getBits_putBits_same (x lo w v : Nat) : getBits (putBits x lo w v) lo w = v % 2 ^ w := by
  unfold getBits putBits
  rw [Nat.add_mul_div_left _ _ (Nat.two_pow_pos lo), Nat.div_eq_of_lt (Nat.mod_lt _ (Nat.two_pow_pos lo)), Nat.zero_add,
    Nat.add_mul_mod_self_left, Nat.mod_mod]

theorem testBit_putBits (x lo w v i : Nat) :
    (putBits x lo w v).testBit i = if lo ≤ i ∧ i < lo + w then v.testBit (i - lo) else x.testBit i := by
  unfold putBits
  rw [Nat.add_comm, Nat.testBit_two_pow_mul_add _ (Nat.mod_lt _ (Nat.two_pow_pos lo))]
  by_cases h : i < lo
  · rw [if_pos h, if_neg (by omega), Nat.testBit_mod_two_pow]; simp [h]
  · rw [if_neg h, Nat.add_comm, Nat.testBit_two_pow_mul_add _ (Nat.mod_lt _ (Nat.two_pow_pos w))]
    by_cases h2 : i - lo < w
    · rw [if_pos h2, if_pos (by omega), Nat.testBit_mod_two_pow]; simp [h2]
    · rw [if_neg h2, if_neg (by omega), Nat.testBit_div_two_pow]
      congr 1; omega

theorem testBit_getBits (x lo w i : Nat) : (getBits x lo w).testBit i = (decide (i < w) && x.testBit (lo + i)) := by
  unfold getBits; rw [Nat.testBit_mod_two_pow, Nat.testBit_div_two_pow, Nat.add_comm]

/-- A field outside the bits written keeps its value. -/
theorem getBits_putBits_ne {x lo w v lo' w' : Nat} (h : lo' + w' ≤ lo ∨ lo + w ≤ lo') :
    getBits (putBits x lo w v) lo' w' = getBits x lo' w' := by
  apply Nat.eq_of_testBit_eq
  intro i
  rw [testBit_getBits, testBit_getBits, testBit_putBits]
  by_cases hi : i < w'
  · rw [if_neg (by omega)]
  · simp [hi]

theorem putBits_lt {x lo w v : Nat} (h : lo + w ≤ 64) (hx : x < 2 ^ 64) : putBits x lo w v < 2 ^ 64 := by
  apply Nat.lt_pow_two_of_testBit
  intro i hi
  rw [testBit_putBits, if_neg (by omega)]
  exact Nat.testBit_lt_two_pow (Nat.lt_of_lt_of_le hx (Nat.pow_le_pow_right (by omega) hi))

/-- The word at a key after a write of a word. -/
theorem rdW_wrW (s : State) (k j : Nat) (v : Word64) : (s.wrW k v).rdW j = if j = k then v else s.rdW j := by
  simp [State.rdW, State.wrW, mget_mset]

@[simp] theorem rdW_wrW_same (s : State) (k : Nat) (v : Word64) : (s.wrW k v).rdW k = v := by simp [rdW_wrW]

theorem rdW_wrW_ne (s : State) {k j : Nat} (v : Word64) (h : j ≠ k) : (s.wrW k v).rdW j = s.rdW j := by simp [rdW_wrW, h]

/-- The word at another key after a write of a field. -/
theorem rdW_wr_ne (s : State) {f : Fld} (v : Nat) {j : Nat} (h : j ≠ f.addr) : (s.wr f v).rdW j = s.rdW j :=
  rdW_wrW_ne s _ h

/-- A field after it has been written. -/
theorem rd_wr_same (s : State) (f : Fld) (v : Nat) (h : f.lo + f.width ≤ 64 := by decide) : (s.wr f v).rd f = v % 2 ^ f.width := by
  unfold State.rd State.wr
  rw [rdW_wrW_same, BitVec.toNat_ofNat, Nat.mod_eq_of_lt (putBits_lt h (s.rdW f.addr).isLt), getBits_putBits_same]

/-- A field of another register, or of other bits, keeps its value. -/
theorem rd_wr_ne (s : State) {f g : Fld} (v : Nat)
    (h : g.addr ≠ f.addr ∨ (f.lo + f.width ≤ 64 ∧ (g.lo + g.width ≤ f.lo ∨ f.lo + f.width ≤ g.lo))) :
    (s.wr f v).rd g = s.rd g := by
  by_cases ha : g.addr = f.addr
  · obtain ⟨h1, h2⟩ := h.resolve_left (fun e => e ha)
    unfold State.rd State.wr
    rw [ha, rdW_wrW_same, BitVec.toNat_ofNat, Nat.mod_eq_of_lt (putBits_lt h1 (s.rdW f.addr).isLt), getBits_putBits_ne h2]
  · unfold State.rd; rw [rdW_wr_ne s v ha]

/-- A field of another register keeps its value when a word is written. -/
theorem rd_wrW_ne (s : State) {k : Nat} {g : Fld} (v : Word64) (h : g.addr ≠ k) : (s.wrW k v).rd g = s.rd g := by
  unfold State.rd; rw [rdW_wrW_ne s v h]

theorem rd_lt (s : State) (f : Fld) : s.rd f < 2 ^ f.width := Nat.mod_lt _ (Nat.two_pow_pos _)

end Sys2Proof.Machine
end

