-- ==== Sys2Proof/Laws/Memory.lean ====
section
/-!
SUPPORT. Laws/Memory.lean: what each operation on a byte memory of Machine/Ops.lean does: it keeps the canonical form, and
changes the bytes it names and no others.
-/
namespace Sys2Proof.Machine
open Sys2Proof

/-! ## Every operation keeps the canonical form -/

theorem mwf_wrBytes {m : SMap Byte} (a : Nat) (l : List Byte) (h : mwf byte0 m = true) : mwf byte0 (wrBytes m a l) = true := by
  induction l generalizing m a with
  | nil => exact h
  | cons b t ih => exact ih (a + 1) (mwf_mset a b h)

theorem mwf_wrLineFrom {m : SMap Byte} (a : Nat) (d : Line) (mask : LMask) (js : List Nat) (h : mwf byte0 m = true) :
    mwf byte0 (wrLineFrom m a d mask js) = true := by
  induction js generalizing m with
  | nil => exact h
  | cons j t ih =>
    refine ih ?_
    split
    · exact mwf_mset _ _ h
    · exact h

theorem mwf_wrLine {m : SMap Byte} (a : Nat) (d : Line) (mask : LMask) (h : mwf byte0 m = true) :
    mwf byte0 (wrLine m a d mask) = true := mwf_wrLineFrom a d mask _ h

theorem mwf_clearRange {α : Type} [DecidableEq α] {d : Nat → α} {m : SMap α} (a n : Nat) (h : mwf d m = true) :
    mwf d (clearRange m a n) = true := mwf_filter _ h

/-- A fold of writes keeps the canonical form, whatever the keys and values written. -/
theorem mwf_foldl_mset {α β : Type} [DecidableEq α] {d : Nat → α} {m : SMap α} (l : List β) (k : β → Nat) (v : β → α)
    (h : mwf d m = true) : mwf d (l.foldl (fun x e => mset d x (k e) (v e)) m) = true := by
  induction l generalizing m with
  | nil => exact h
  | cons e t ih => exact ih (mwf_mset _ _ h)

theorem mwf_copyRange {src dst : SMap Byte} (a b n : Nat) (h : mwf byte0 dst = true) :
    mwf byte0 (copyRange src dst a b n) = true := mwf_foldl_mset _ _ _ (mwf_clearRange b n h)

/-! ## Bytes after a write -/

theorem mget_wrBytes_out (m : SMap Byte) (a : Nat) (l : List Byte) {j : Nat} (h : j < a ∨ a + l.length ≤ j) :
    mget byte0 (wrBytes m a l) j = mget byte0 m j := by
  induction l generalizing m a with
  | nil => rfl
  | cons b t ih =>
    simp only [List.length_cons] at h
    rw [wrBytes, ih _ _ (by omega), mget_mset_ne _ _ _ _ _ (by omega)]

theorem mget_wrBytes_in (m : SMap Byte) (a : Nat) (l : List Byte) (i : Nat) (h : i < l.length) :
    mget byte0 (wrBytes m a l) (a + i) = l[i] := by
  induction l generalizing m a i with
  | nil => simp at h
  | cons b t ih =>
    cases i with
    | zero => rw [wrBytes, Nat.add_zero, mget_wrBytes_out _ _ _ (by omega)]; simp
    | succ i => rw [wrBytes, show a + (i + 1) = a + 1 + i by omega, ih]; rfl

theorem length_rdBytes (m : SMap Byte) (a n : Nat) : (rdBytes m a n).length = n := by
  induction n generalizing a with
  | zero => rfl
  | succ n ih => simp [rdBytes, ih]

/-- Reading what was just written gives it back. -/
theorem rdBytes_wrBytes (m : SMap Byte) (a : Nat) (l : List Byte) : rdBytes (wrBytes m a l) a l.length = l := by
  have key : ∀ (m : SMap Byte) (a : Nat) (l : List Byte), (∀ i (h : i < l.length), mget byte0 m (a + i) = l[i]) →
      rdBytes m a l.length = l := by
    intro m a l
    induction l generalizing a with
    | nil => intro _; rfl
    | cons b t ih =>
      intro h
      simp only [List.length_cons, rdBytes]
      rw [ih (a + 1) fun i hi => by rw [show a + 1 + i = a + (i + 1) by omega]; exact h (i + 1) (by simpa using hi)]
      exact congrArg (· :: t) (h 0 (by simp))
  exact key _ a l fun i h => mget_wrBytes_in m a l i h

/-- A line write leaves every byte outside the line. -/
theorem mget_wrLine_out (m : SMap Byte) (a : Nat) (d : Line) (mask : LMask) {j : Nat} (h : j < a ∨ a + 64 ≤ j) :
    mget byte0 (wrLine m a d mask) j = mget byte0 m j := by
  have key : ∀ (js : List Nat) (m : SMap Byte), (∀ i ∈ js, i < 64) →
      mget byte0 (wrLineFrom m a d mask js) j = mget byte0 m j := by
    intro js
    induction js with
    | nil => intro m _; rfl
    | cons i t ih =>
      intro m hi
      rw [wrLineFrom, ih _ fun x hx => hi x (List.mem_cons_of_mem _ hx)]
      have := hi i (by simp)
      split
      · exact mget_mset_ne _ _ _ _ _ (by omega)
      · rfl
  exact key _ m fun i hi => by simpa using hi

end Sys2Proof.Machine
end

