-- ==== Sys2Proof/Laws/State.lean ====
section
/-!
SUPPORT. Laws/State.lean: every field of the state after every plain update, true by rfl. Registers are read through
`rdW` and `rd`: the lemmas of Laws/Fields.lean say what a write of a register does to them.
-/
namespace Sys2Proof.Machine
open Sys2Proof

variable (s : State)

@[simp] theorem wrW_pending (k : Nat) (v : Word64) : (s.wrW k v).pending = s.pending := rfl
@[simp] theorem wrW_clk (k : Nat) (v : Word64) : (s.wrW k v).clk = s.clk := rfl
@[simp] theorem wrW_shadow (k : Nat) (v : Word64) : (s.wrW k v).shadow = s.shadow := rfl
@[simp] theorem wrW_fresh (k : Nat) (v : Word64) : (s.wrW k v).fresh = s.fresh := rfl
@[simp] theorem wrW_out (k : Nat) (v : Word64) : (s.wrW k v).out = s.out := rfl
@[simp] theorem wrW_stamps (k : Nat) (v : Word64) : (s.wrW k v).stamps = s.stamps := rfl
@[simp] theorem wrW_rcd (k : Nat) (v : Word64) : (s.wrW k v).rcd = s.rcd := rfl
@[simp] theorem wrW_fab (k : Nat) (v : Word64) : (s.wrW k v).fab = s.fab := rfl
@[simp] theorem wrW_nc (k : Nat) (v : Word64) : (s.wrW k v).nc = s.nc := rfl
@[simp] theorem wrW_dr (k : Nat) (v : Word64) : (s.wrW k v).dr = s.dr := rfl
@[simp] theorem wrW_win (k : Nat) (v : Word64) : (s.wrW k v).win = s.win := rfl
@[simp] theorem wrW_hp (k : Nat) (v : Word64) : (s.wrW k v).hp = s.hp := rfl
@[simp] theorem wrW_fur (k : Nat) (v : Word64) : (s.wrW k v).fur = s.fur := rfl
@[simp] theorem wrW_hv (k : Nat) (v : Word64) : (s.wrW k v).hv = s.hv := rfl
@[simp] theorem wrW_cph (k : Nat) (v : Word64) : (s.wrW k v).cph = s.cph := rfl
@[simp] theorem wrW_pw (k : Nat) (v : Word64) : (s.wrW k v).pw = s.pw := rfl
@[simp] theorem wrW_rs (k : Nat) (v : Word64) : (s.wrW k v).rs = s.rs := rfl
@[simp] theorem wrW_yk (k : Nat) (v : Word64) : (s.wrW k v).yk = s.yk := rfl
@[simp] theorem wrW_dl (k : Nat) (v : Word64) : (s.wrW k v).dl = s.dl := rfl
@[simp] theorem wrW_mb (k : Nat) (v : Word64) : (s.wrW k v).mb = s.mb := rfl
@[simp] theorem wrW_cs (k : Nat) (v : Word64) : (s.wrW k v).cs = s.cs := rfl
@[simp] theorem wrW_net (k : Nat) (v : Word64) : (s.wrW k v).net = s.net := rfl
@[simp] theorem wrW_grn (k : Nat) (v : Word64) : (s.wrW k v).grn = s.grn := rfl
@[simp] theorem wrW_th (k : Nat) (v : Word64) : (s.wrW k v).th = s.th := rfl
@[simp] theorem wrW_efl (k : Nat) (v : Word64) : (s.wrW k v).efl = s.efl := rfl
@[simp] theorem wr_pending (x : Fld) (v : Nat) : (s.wr x v).pending = s.pending := rfl
@[simp] theorem wr_clk (x : Fld) (v : Nat) : (s.wr x v).clk = s.clk := rfl
@[simp] theorem wr_shadow (x : Fld) (v : Nat) : (s.wr x v).shadow = s.shadow := rfl
@[simp] theorem wr_fresh (x : Fld) (v : Nat) : (s.wr x v).fresh = s.fresh := rfl
@[simp] theorem wr_out (x : Fld) (v : Nat) : (s.wr x v).out = s.out := rfl
@[simp] theorem wr_stamps (x : Fld) (v : Nat) : (s.wr x v).stamps = s.stamps := rfl
@[simp] theorem wr_rcd (x : Fld) (v : Nat) : (s.wr x v).rcd = s.rcd := rfl
@[simp] theorem wr_fab (x : Fld) (v : Nat) : (s.wr x v).fab = s.fab := rfl
@[simp] theorem wr_nc (x : Fld) (v : Nat) : (s.wr x v).nc = s.nc := rfl
@[simp] theorem wr_dr (x : Fld) (v : Nat) : (s.wr x v).dr = s.dr := rfl
@[simp] theorem wr_win (x : Fld) (v : Nat) : (s.wr x v).win = s.win := rfl
@[simp] theorem wr_hp (x : Fld) (v : Nat) : (s.wr x v).hp = s.hp := rfl
@[simp] theorem wr_fur (x : Fld) (v : Nat) : (s.wr x v).fur = s.fur := rfl
@[simp] theorem wr_hv (x : Fld) (v : Nat) : (s.wr x v).hv = s.hv := rfl
@[simp] theorem wr_cph (x : Fld) (v : Nat) : (s.wr x v).cph = s.cph := rfl
@[simp] theorem wr_pw (x : Fld) (v : Nat) : (s.wr x v).pw = s.pw := rfl
@[simp] theorem wr_rs (x : Fld) (v : Nat) : (s.wr x v).rs = s.rs := rfl
@[simp] theorem wr_yk (x : Fld) (v : Nat) : (s.wr x v).yk = s.yk := rfl
@[simp] theorem wr_dl (x : Fld) (v : Nat) : (s.wr x v).dl = s.dl := rfl
@[simp] theorem wr_mb (x : Fld) (v : Nat) : (s.wr x v).mb = s.mb := rfl
@[simp] theorem wr_cs (x : Fld) (v : Nat) : (s.wr x v).cs = s.cs := rfl
@[simp] theorem wr_net (x : Fld) (v : Nat) : (s.wr x v).net = s.net := rfl
@[simp] theorem wr_grn (x : Fld) (v : Nat) : (s.wr x v).grn = s.grn := rfl
@[simp] theorem wr_th (x : Fld) (v : Nat) : (s.wr x v).th = s.th := rfl
@[simp] theorem wr_efl (x : Fld) (v : Nat) : (s.wr x v).efl = s.efl := rfl
@[simp] theorem bumpBy_pending (x : Fld) (n : Nat) : (s.bumpBy x n).pending = s.pending := rfl
@[simp] theorem bumpBy_clk (x : Fld) (n : Nat) : (s.bumpBy x n).clk = s.clk := rfl
@[simp] theorem bumpBy_shadow (x : Fld) (n : Nat) : (s.bumpBy x n).shadow = s.shadow := rfl
@[simp] theorem bumpBy_fresh (x : Fld) (n : Nat) : (s.bumpBy x n).fresh = s.fresh := rfl
@[simp] theorem bumpBy_out (x : Fld) (n : Nat) : (s.bumpBy x n).out = s.out := rfl
@[simp] theorem bumpBy_stamps (x : Fld) (n : Nat) : (s.bumpBy x n).stamps = s.stamps := rfl
@[simp] theorem bumpBy_rcd (x : Fld) (n : Nat) : (s.bumpBy x n).rcd = s.rcd := rfl
@[simp] theorem bumpBy_fab (x : Fld) (n : Nat) : (s.bumpBy x n).fab = s.fab := rfl
@[simp] theorem bumpBy_nc (x : Fld) (n : Nat) : (s.bumpBy x n).nc = s.nc := rfl
@[simp] theorem bumpBy_dr (x : Fld) (n : Nat) : (s.bumpBy x n).dr = s.dr := rfl
@[simp] theorem bumpBy_win (x : Fld) (n : Nat) : (s.bumpBy x n).win = s.win := rfl
@[simp] theorem bumpBy_hp (x : Fld) (n : Nat) : (s.bumpBy x n).hp = s.hp := rfl
@[simp] theorem bumpBy_fur (x : Fld) (n : Nat) : (s.bumpBy x n).fur = s.fur := rfl
@[simp] theorem bumpBy_hv (x : Fld) (n : Nat) : (s.bumpBy x n).hv = s.hv := rfl
@[simp] theorem bumpBy_cph (x : Fld) (n : Nat) : (s.bumpBy x n).cph = s.cph := rfl
@[simp] theorem bumpBy_pw (x : Fld) (n : Nat) : (s.bumpBy x n).pw = s.pw := rfl
@[simp] theorem bumpBy_rs (x : Fld) (n : Nat) : (s.bumpBy x n).rs = s.rs := rfl
@[simp] theorem bumpBy_yk (x : Fld) (n : Nat) : (s.bumpBy x n).yk = s.yk := rfl
@[simp] theorem bumpBy_dl (x : Fld) (n : Nat) : (s.bumpBy x n).dl = s.dl := rfl
@[simp] theorem bumpBy_mb (x : Fld) (n : Nat) : (s.bumpBy x n).mb = s.mb := rfl
@[simp] theorem bumpBy_cs (x : Fld) (n : Nat) : (s.bumpBy x n).cs = s.cs := rfl
@[simp] theorem bumpBy_net (x : Fld) (n : Nat) : (s.bumpBy x n).net = s.net := rfl
@[simp] theorem bumpBy_grn (x : Fld) (n : Nat) : (s.bumpBy x n).grn = s.grn := rfl
@[simp] theorem bumpBy_th (x : Fld) (n : Nat) : (s.bumpBy x n).th = s.th := rfl
@[simp] theorem bumpBy_efl (x : Fld) (n : Nat) : (s.bumpBy x n).efl = s.efl := rfl
@[simp] theorem bump_pending (x : Fld) : (s.bump x).pending = s.pending := rfl
@[simp] theorem bump_clk (x : Fld) : (s.bump x).clk = s.clk := rfl
@[simp] theorem bump_shadow (x : Fld) : (s.bump x).shadow = s.shadow := rfl
@[simp] theorem bump_fresh (x : Fld) : (s.bump x).fresh = s.fresh := rfl
@[simp] theorem bump_out (x : Fld) : (s.bump x).out = s.out := rfl
@[simp] theorem bump_stamps (x : Fld) : (s.bump x).stamps = s.stamps := rfl
@[simp] theorem bump_rcd (x : Fld) : (s.bump x).rcd = s.rcd := rfl
@[simp] theorem bump_fab (x : Fld) : (s.bump x).fab = s.fab := rfl
@[simp] theorem bump_nc (x : Fld) : (s.bump x).nc = s.nc := rfl
@[simp] theorem bump_dr (x : Fld) : (s.bump x).dr = s.dr := rfl
@[simp] theorem bump_win (x : Fld) : (s.bump x).win = s.win := rfl
@[simp] theorem bump_hp (x : Fld) : (s.bump x).hp = s.hp := rfl
@[simp] theorem bump_fur (x : Fld) : (s.bump x).fur = s.fur := rfl
@[simp] theorem bump_hv (x : Fld) : (s.bump x).hv = s.hv := rfl
@[simp] theorem bump_cph (x : Fld) : (s.bump x).cph = s.cph := rfl
@[simp] theorem bump_pw (x : Fld) : (s.bump x).pw = s.pw := rfl
@[simp] theorem bump_rs (x : Fld) : (s.bump x).rs = s.rs := rfl
@[simp] theorem bump_yk (x : Fld) : (s.bump x).yk = s.yk := rfl
@[simp] theorem bump_dl (x : Fld) : (s.bump x).dl = s.dl := rfl
@[simp] theorem bump_mb (x : Fld) : (s.bump x).mb = s.mb := rfl
@[simp] theorem bump_cs (x : Fld) : (s.bump x).cs = s.cs := rfl
@[simp] theorem bump_net (x : Fld) : (s.bump x).net = s.net := rfl
@[simp] theorem bump_grn (x : Fld) : (s.bump x).grn = s.grn := rfl
@[simp] theorem bump_th (x : Fld) : (s.bump x).th = s.th := rfl
@[simp] theorem bump_efl (x : Fld) : (s.bump x).efl = s.efl := rfl
@[simp] theorem wrBit_pending (x : Fld) (b : Nat) (v : Bool) : (s.wrBit x b v).pending = s.pending := rfl
@[simp] theorem wrBit_clk (x : Fld) (b : Nat) (v : Bool) : (s.wrBit x b v).clk = s.clk := rfl
@[simp] theorem wrBit_shadow (x : Fld) (b : Nat) (v : Bool) : (s.wrBit x b v).shadow = s.shadow := rfl
@[simp] theorem wrBit_fresh (x : Fld) (b : Nat) (v : Bool) : (s.wrBit x b v).fresh = s.fresh := rfl
@[simp] theorem wrBit_out (x : Fld) (b : Nat) (v : Bool) : (s.wrBit x b v).out = s.out := rfl
@[simp] theorem wrBit_stamps (x : Fld) (b : Nat) (v : Bool) : (s.wrBit x b v).stamps = s.stamps := rfl
@[simp] theorem wrBit_rcd (x : Fld) (b : Nat) (v : Bool) : (s.wrBit x b v).rcd = s.rcd := rfl
@[simp] theorem wrBit_fab (x : Fld) (b : Nat) (v : Bool) : (s.wrBit x b v).fab = s.fab := rfl
@[simp] theorem wrBit_nc (x : Fld) (b : Nat) (v : Bool) : (s.wrBit x b v).nc = s.nc := rfl
@[simp] theorem wrBit_dr (x : Fld) (b : Nat) (v : Bool) : (s.wrBit x b v).dr = s.dr := rfl
@[simp] theorem wrBit_win (x : Fld) (b : Nat) (v : Bool) : (s.wrBit x b v).win = s.win := rfl
@[simp] theorem wrBit_hp (x : Fld) (b : Nat) (v : Bool) : (s.wrBit x b v).hp = s.hp := rfl
@[simp] theorem wrBit_fur (x : Fld) (b : Nat) (v : Bool) : (s.wrBit x b v).fur = s.fur := rfl
@[simp] theorem wrBit_hv (x : Fld) (b : Nat) (v : Bool) : (s.wrBit x b v).hv = s.hv := rfl
@[simp] theorem wrBit_cph (x : Fld) (b : Nat) (v : Bool) : (s.wrBit x b v).cph = s.cph := rfl
@[simp] theorem wrBit_pw (x : Fld) (b : Nat) (v : Bool) : (s.wrBit x b v).pw = s.pw := rfl
@[simp] theorem wrBit_rs (x : Fld) (b : Nat) (v : Bool) : (s.wrBit x b v).rs = s.rs := rfl
@[simp] theorem wrBit_yk (x : Fld) (b : Nat) (v : Bool) : (s.wrBit x b v).yk = s.yk := rfl
@[simp] theorem wrBit_dl (x : Fld) (b : Nat) (v : Bool) : (s.wrBit x b v).dl = s.dl := rfl
@[simp] theorem wrBit_mb (x : Fld) (b : Nat) (v : Bool) : (s.wrBit x b v).mb = s.mb := rfl
@[simp] theorem wrBit_cs (x : Fld) (b : Nat) (v : Bool) : (s.wrBit x b v).cs = s.cs := rfl
@[simp] theorem wrBit_net (x : Fld) (b : Nat) (v : Bool) : (s.wrBit x b v).net = s.net := rfl
@[simp] theorem wrBit_grn (x : Fld) (b : Nat) (v : Bool) : (s.wrBit x b v).grn = s.grn := rfl
@[simp] theorem wrBit_th (x : Fld) (b : Nat) (v : Bool) : (s.wrBit x b v).th = s.th := rfl
@[simp] theorem wrBit_efl (x : Fld) (b : Nat) (v : Bool) : (s.wrBit x b v).efl = s.efl := rfl
@[simp] theorem emit_pending (o : Out) : (s.emit o).pending = s.pending := rfl
@[simp] theorem emit_clk (o : Out) : (s.emit o).clk = s.clk := rfl
@[simp] theorem emit_csr (o : Out) : (s.emit o).csr = s.csr := rfl
@[simp] theorem emit_shadow (o : Out) : (s.emit o).shadow = s.shadow := rfl
@[simp] theorem emit_fresh (o : Out) : (s.emit o).fresh = s.fresh := rfl
@[simp] theorem emit_out (o : Out) : (s.emit o).out = o :: s.out := rfl
@[simp] theorem emit_stamps (o : Out) : (s.emit o).stamps = s.stamps := rfl
@[simp] theorem emit_rcd (o : Out) : (s.emit o).rcd = s.rcd := rfl
@[simp] theorem emit_fab (o : Out) : (s.emit o).fab = s.fab := rfl
@[simp] theorem emit_nc (o : Out) : (s.emit o).nc = s.nc := rfl
@[simp] theorem emit_dr (o : Out) : (s.emit o).dr = s.dr := rfl
@[simp] theorem emit_win (o : Out) : (s.emit o).win = s.win := rfl
@[simp] theorem emit_hp (o : Out) : (s.emit o).hp = s.hp := rfl
@[simp] theorem emit_fur (o : Out) : (s.emit o).fur = s.fur := rfl
@[simp] theorem emit_hv (o : Out) : (s.emit o).hv = s.hv := rfl
@[simp] theorem emit_cph (o : Out) : (s.emit o).cph = s.cph := rfl
@[simp] theorem emit_pw (o : Out) : (s.emit o).pw = s.pw := rfl
@[simp] theorem emit_rs (o : Out) : (s.emit o).rs = s.rs := rfl
@[simp] theorem emit_yk (o : Out) : (s.emit o).yk = s.yk := rfl
@[simp] theorem emit_dl (o : Out) : (s.emit o).dl = s.dl := rfl
@[simp] theorem emit_mb (o : Out) : (s.emit o).mb = s.mb := rfl
@[simp] theorem emit_cs (o : Out) : (s.emit o).cs = s.cs := rfl
@[simp] theorem emit_net (o : Out) : (s.emit o).net = s.net := rfl
@[simp] theorem emit_grn (o : Out) : (s.emit o).grn = s.grn := rfl
@[simp] theorem emit_th (o : Out) : (s.emit o).th = s.th := rfl
@[simp] theorem emit_efl (o : Out) : (s.emit o).efl = s.efl := rfl
@[simp] theorem emit_rdW (o : Out) (j : Nat) : (s.emit o).rdW j = s.rdW j := rfl
@[simp] theorem emit_rd (o : Out) (g : Fld) : (s.emit o).rd g = s.rd g := rfl
@[simp] theorem emit_on (o : Out) (g : Fld) : (s.emit o).on g = s.on g := rfl
@[simp] theorem emit_bitOf (o : Out) (g : Fld) (i : Nat) : (s.emit o).bitOf g i = s.bitOf g i := rfl
@[simp] theorem draw_pending : s.draw.pending = s.pending := rfl
@[simp] theorem draw_clk : s.draw.clk = s.clk := rfl
@[simp] theorem draw_csr : s.draw.csr = s.csr := rfl
@[simp] theorem draw_shadow : s.draw.shadow = s.shadow := rfl
@[simp] theorem draw_fresh : s.draw.fresh = s.fresh + 1 := rfl
@[simp] theorem draw_out : s.draw.out = s.out := rfl
@[simp] theorem draw_stamps : s.draw.stamps = s.stamps := rfl
@[simp] theorem draw_rcd : s.draw.rcd = s.rcd := rfl
@[simp] theorem draw_fab : s.draw.fab = s.fab := rfl
@[simp] theorem draw_nc : s.draw.nc = s.nc := rfl
@[simp] theorem draw_dr : s.draw.dr = s.dr := rfl
@[simp] theorem draw_win : s.draw.win = s.win := rfl
@[simp] theorem draw_hp : s.draw.hp = s.hp := rfl
@[simp] theorem draw_fur : s.draw.fur = s.fur := rfl
@[simp] theorem draw_hv : s.draw.hv = s.hv := rfl
@[simp] theorem draw_cph : s.draw.cph = s.cph := rfl
@[simp] theorem draw_pw : s.draw.pw = s.pw := rfl
@[simp] theorem draw_rs : s.draw.rs = s.rs := rfl
@[simp] theorem draw_yk : s.draw.yk = s.yk := rfl
@[simp] theorem draw_dl : s.draw.dl = s.dl := rfl
@[simp] theorem draw_mb : s.draw.mb = s.mb := rfl
@[simp] theorem draw_cs : s.draw.cs = s.cs := rfl
@[simp] theorem draw_net : s.draw.net = s.net := rfl
@[simp] theorem draw_grn : s.draw.grn = s.grn := rfl
@[simp] theorem draw_th : s.draw.th = s.th := rfl
@[simp] theorem draw_efl : s.draw.efl = s.efl := rfl
@[simp] theorem draw_rdW (j : Nat) : s.draw.rdW j = s.rdW j := rfl
@[simp] theorem draw_rd (g : Fld) : s.draw.rd g = s.rd g := rfl
@[simp] theorem draw_on (g : Fld) : s.draw.on g = s.on g := rfl
@[simp] theorem draw_bitOf (g : Fld) (i : Nat) : s.draw.bitOf g i = s.bitOf g i := rfl
@[simp] theorem stamp_pending (k : StampKind) (u : Nat) : (s.stamp k u).pending = s.pending := rfl
@[simp] theorem stamp_clk (k : StampKind) (u : Nat) : (s.stamp k u).clk = s.clk := rfl
@[simp] theorem stamp_csr (k : StampKind) (u : Nat) : (s.stamp k u).csr = s.csr := rfl
@[simp] theorem stamp_shadow (k : StampKind) (u : Nat) : (s.stamp k u).shadow = s.shadow := rfl
@[simp] theorem stamp_fresh (k : StampKind) (u : Nat) : (s.stamp k u).fresh = s.fresh := rfl
@[simp] theorem stamp_out (k : StampKind) (u : Nat) : (s.stamp k u).out = s.out := rfl
@[simp] theorem stamp_stamps (k : StampKind) (u : Nat) : (s.stamp k u).stamps = ⟨k, u, s.now⟩ :: s.stamps := rfl
@[simp] theorem stamp_rcd (k : StampKind) (u : Nat) : (s.stamp k u).rcd = s.rcd := rfl
@[simp] theorem stamp_fab (k : StampKind) (u : Nat) : (s.stamp k u).fab = s.fab := rfl
@[simp] theorem stamp_nc (k : StampKind) (u : Nat) : (s.stamp k u).nc = s.nc := rfl
@[simp] theorem stamp_dr (k : StampKind) (u : Nat) : (s.stamp k u).dr = s.dr := rfl
@[simp] theorem stamp_win (k : StampKind) (u : Nat) : (s.stamp k u).win = s.win := rfl
@[simp] theorem stamp_hp (k : StampKind) (u : Nat) : (s.stamp k u).hp = s.hp := rfl
@[simp] theorem stamp_fur (k : StampKind) (u : Nat) : (s.stamp k u).fur = s.fur := rfl
@[simp] theorem stamp_hv (k : StampKind) (u : Nat) : (s.stamp k u).hv = s.hv := rfl
@[simp] theorem stamp_cph (k : StampKind) (u : Nat) : (s.stamp k u).cph = s.cph := rfl
@[simp] theorem stamp_pw (k : StampKind) (u : Nat) : (s.stamp k u).pw = s.pw := rfl
@[simp] theorem stamp_rs (k : StampKind) (u : Nat) : (s.stamp k u).rs = s.rs := rfl
@[simp] theorem stamp_yk (k : StampKind) (u : Nat) : (s.stamp k u).yk = s.yk := rfl
@[simp] theorem stamp_dl (k : StampKind) (u : Nat) : (s.stamp k u).dl = s.dl := rfl
@[simp] theorem stamp_mb (k : StampKind) (u : Nat) : (s.stamp k u).mb = s.mb := rfl
@[simp] theorem stamp_cs (k : StampKind) (u : Nat) : (s.stamp k u).cs = s.cs := rfl
@[simp] theorem stamp_net (k : StampKind) (u : Nat) : (s.stamp k u).net = s.net := rfl
@[simp] theorem stamp_grn (k : StampKind) (u : Nat) : (s.stamp k u).grn = s.grn := rfl
@[simp] theorem stamp_th (k : StampKind) (u : Nat) : (s.stamp k u).th = s.th := rfl
@[simp] theorem stamp_efl (k : StampKind) (u : Nat) : (s.stamp k u).efl = s.efl := rfl
@[simp] theorem stamp_rdW (k : StampKind) (u : Nat) (j : Nat) : (s.stamp k u).rdW j = s.rdW j := rfl
@[simp] theorem stamp_rd (k : StampKind) (u : Nat) (g : Fld) : (s.stamp k u).rd g = s.rd g := rfl
@[simp] theorem stamp_on (k : StampKind) (u : Nat) (g : Fld) : (s.stamp k u).on g = s.on g := rfl
@[simp] theorem stamp_bitOf (k : StampKind) (u : Nat) (g : Fld) (i : Nat) : (s.stamp k u).bitOf g i = s.bitOf g i := rfl
@[simp] theorem unstamp_pending (k : StampKind) (u : Nat) : (s.unstamp k u).pending = s.pending := rfl
@[simp] theorem unstamp_clk (k : StampKind) (u : Nat) : (s.unstamp k u).clk = s.clk := rfl
@[simp] theorem unstamp_csr (k : StampKind) (u : Nat) : (s.unstamp k u).csr = s.csr := rfl
@[simp] theorem unstamp_shadow (k : StampKind) (u : Nat) : (s.unstamp k u).shadow = s.shadow := rfl
@[simp] theorem unstamp_fresh (k : StampKind) (u : Nat) : (s.unstamp k u).fresh = s.fresh := rfl
@[simp] theorem unstamp_out (k : StampKind) (u : Nat) : (s.unstamp k u).out = s.out := rfl
@[simp] theorem unstamp_rcd (k : StampKind) (u : Nat) : (s.unstamp k u).rcd = s.rcd := rfl
@[simp] theorem unstamp_fab (k : StampKind) (u : Nat) : (s.unstamp k u).fab = s.fab := rfl
@[simp] theorem unstamp_nc (k : StampKind) (u : Nat) : (s.unstamp k u).nc = s.nc := rfl
@[simp] theorem unstamp_dr (k : StampKind) (u : Nat) : (s.unstamp k u).dr = s.dr := rfl
@[simp] theorem unstamp_win (k : StampKind) (u : Nat) : (s.unstamp k u).win = s.win := rfl
@[simp] theorem unstamp_hp (k : StampKind) (u : Nat) : (s.unstamp k u).hp = s.hp := rfl
@[simp] theorem unstamp_fur (k : StampKind) (u : Nat) : (s.unstamp k u).fur = s.fur := rfl
@[simp] theorem unstamp_hv (k : StampKind) (u : Nat) : (s.unstamp k u).hv = s.hv := rfl
@[simp] theorem unstamp_cph (k : StampKind) (u : Nat) : (s.unstamp k u).cph = s.cph := rfl
@[simp] theorem unstamp_pw (k : StampKind) (u : Nat) : (s.unstamp k u).pw = s.pw := rfl
@[simp] theorem unstamp_rs (k : StampKind) (u : Nat) : (s.unstamp k u).rs = s.rs := rfl
@[simp] theorem unstamp_yk (k : StampKind) (u : Nat) : (s.unstamp k u).yk = s.yk := rfl
@[simp] theorem unstamp_dl (k : StampKind) (u : Nat) : (s.unstamp k u).dl = s.dl := rfl
@[simp] theorem unstamp_mb (k : StampKind) (u : Nat) : (s.unstamp k u).mb = s.mb := rfl
@[simp] theorem unstamp_cs (k : StampKind) (u : Nat) : (s.unstamp k u).cs = s.cs := rfl
@[simp] theorem unstamp_net (k : StampKind) (u : Nat) : (s.unstamp k u).net = s.net := rfl
@[simp] theorem unstamp_grn (k : StampKind) (u : Nat) : (s.unstamp k u).grn = s.grn := rfl
@[simp] theorem unstamp_th (k : StampKind) (u : Nat) : (s.unstamp k u).th = s.th := rfl
@[simp] theorem unstamp_efl (k : StampKind) (u : Nat) : (s.unstamp k u).efl = s.efl := rfl
@[simp] theorem unstamp_rdW (k : StampKind) (u : Nat) (j : Nat) : (s.unstamp k u).rdW j = s.rdW j := rfl
@[simp] theorem unstamp_rd (k : StampKind) (u : Nat) (g : Fld) : (s.unstamp k u).rd g = s.rd g := rfl
@[simp] theorem unstamp_on (k : StampKind) (u : Nat) (g : Fld) : (s.unstamp k u).on g = s.on g := rfl
@[simp] theorem unstamp_bitOf (k : StampKind) (u : Nat) (g : Fld) (i : Nat) : (s.unstamp k u).bitOf g i = s.bitOf g i := rfl
@[simp] theorem dropShadow_pending (a : Agent) : (s.dropShadow a).pending = s.pending := rfl
@[simp] theorem dropShadow_clk (a : Agent) : (s.dropShadow a).clk = s.clk := rfl
@[simp] theorem dropShadow_csr (a : Agent) : (s.dropShadow a).csr = s.csr := rfl
@[simp] theorem dropShadow_shadow (a : Agent) : (s.dropShadow a).shadow = s.shadow.filter fun h => h.a != a := rfl
@[simp] theorem dropShadow_fresh (a : Agent) : (s.dropShadow a).fresh = s.fresh := rfl
@[simp] theorem dropShadow_out (a : Agent) : (s.dropShadow a).out = s.out := rfl
@[simp] theorem dropShadow_stamps (a : Agent) : (s.dropShadow a).stamps = s.stamps := rfl
@[simp] theorem dropShadow_rcd (a : Agent) : (s.dropShadow a).rcd = s.rcd := rfl
@[simp] theorem dropShadow_fab (a : Agent) : (s.dropShadow a).fab = s.fab := rfl
@[simp] theorem dropShadow_nc (a : Agent) : (s.dropShadow a).nc = s.nc := rfl
@[simp] theorem dropShadow_dr (a : Agent) : (s.dropShadow a).dr = s.dr := rfl
@[simp] theorem dropShadow_win (a : Agent) : (s.dropShadow a).win = s.win := rfl
@[simp] theorem dropShadow_hp (a : Agent) : (s.dropShadow a).hp = s.hp := rfl
@[simp] theorem dropShadow_fur (a : Agent) : (s.dropShadow a).fur = s.fur := rfl
@[simp] theorem dropShadow_hv (a : Agent) : (s.dropShadow a).hv = s.hv := rfl
@[simp] theorem dropShadow_cph (a : Agent) : (s.dropShadow a).cph = s.cph := rfl
@[simp] theorem dropShadow_pw (a : Agent) : (s.dropShadow a).pw = s.pw := rfl
@[simp] theorem dropShadow_rs (a : Agent) : (s.dropShadow a).rs = s.rs := rfl
@[simp] theorem dropShadow_yk (a : Agent) : (s.dropShadow a).yk = s.yk := rfl
@[simp] theorem dropShadow_dl (a : Agent) : (s.dropShadow a).dl = s.dl := rfl
@[simp] theorem dropShadow_mb (a : Agent) : (s.dropShadow a).mb = s.mb := rfl
@[simp] theorem dropShadow_cs (a : Agent) : (s.dropShadow a).cs = s.cs := rfl
@[simp] theorem dropShadow_net (a : Agent) : (s.dropShadow a).net = s.net := rfl
@[simp] theorem dropShadow_grn (a : Agent) : (s.dropShadow a).grn = s.grn := rfl
@[simp] theorem dropShadow_th (a : Agent) : (s.dropShadow a).th = s.th := rfl
@[simp] theorem dropShadow_efl (a : Agent) : (s.dropShadow a).efl = s.efl := rfl
@[simp] theorem dropShadow_rdW (a : Agent) (j : Nat) : (s.dropShadow a).rdW j = s.rdW j := rfl
@[simp] theorem dropShadow_rd (a : Agent) (g : Fld) : (s.dropShadow a).rd g = s.rd g := rfl
@[simp] theorem dropShadow_on (a : Agent) (g : Fld) : (s.dropShadow a).on g = s.on g := rfl
@[simp] theorem dropShadow_bitOf (a : Agent) (g : Fld) (i : Nat) : (s.dropShadow a).bitOf g i = s.bitOf g i := rfl
@[simp] theorem onFab_pending (f : Fabric → Fabric) : (s.onFab f).pending = s.pending := rfl
@[simp] theorem onFab_clk (f : Fabric → Fabric) : (s.onFab f).clk = s.clk := rfl
@[simp] theorem onFab_csr (f : Fabric → Fabric) : (s.onFab f).csr = s.csr := rfl
@[simp] theorem onFab_shadow (f : Fabric → Fabric) : (s.onFab f).shadow = s.shadow := rfl
@[simp] theorem onFab_fresh (f : Fabric → Fabric) : (s.onFab f).fresh = s.fresh := rfl
@[simp] theorem onFab_out (f : Fabric → Fabric) : (s.onFab f).out = s.out := rfl
@[simp] theorem onFab_stamps (f : Fabric → Fabric) : (s.onFab f).stamps = s.stamps := rfl
@[simp] theorem onFab_rcd (f : Fabric → Fabric) : (s.onFab f).rcd = s.rcd := rfl
@[simp] theorem onFab_fab (f : Fabric → Fabric) : (s.onFab f).fab = f s.fab := rfl
@[simp] theorem onFab_nc (f : Fabric → Fabric) : (s.onFab f).nc = s.nc := rfl
@[simp] theorem onFab_dr (f : Fabric → Fabric) : (s.onFab f).dr = s.dr := rfl
@[simp] theorem onFab_win (f : Fabric → Fabric) : (s.onFab f).win = s.win := rfl
@[simp] theorem onFab_hp (f : Fabric → Fabric) : (s.onFab f).hp = s.hp := rfl
@[simp] theorem onFab_fur (f : Fabric → Fabric) : (s.onFab f).fur = s.fur := rfl
@[simp] theorem onFab_hv (f : Fabric → Fabric) : (s.onFab f).hv = s.hv := rfl
@[simp] theorem onFab_cph (f : Fabric → Fabric) : (s.onFab f).cph = s.cph := rfl
@[simp] theorem onFab_pw (f : Fabric → Fabric) : (s.onFab f).pw = s.pw := rfl
@[simp] theorem onFab_rs (f : Fabric → Fabric) : (s.onFab f).rs = s.rs := rfl
@[simp] theorem onFab_yk (f : Fabric → Fabric) : (s.onFab f).yk = s.yk := rfl
@[simp] theorem onFab_dl (f : Fabric → Fabric) : (s.onFab f).dl = s.dl := rfl
@[simp] theorem onFab_mb (f : Fabric → Fabric) : (s.onFab f).mb = s.mb := rfl
@[simp] theorem onFab_cs (f : Fabric → Fabric) : (s.onFab f).cs = s.cs := rfl
@[simp] theorem onFab_net (f : Fabric → Fabric) : (s.onFab f).net = s.net := rfl
@[simp] theorem onFab_grn (f : Fabric → Fabric) : (s.onFab f).grn = s.grn := rfl
@[simp] theorem onFab_th (f : Fabric → Fabric) : (s.onFab f).th = s.th := rfl
@[simp] theorem onFab_efl (f : Fabric → Fabric) : (s.onFab f).efl = s.efl := rfl
@[simp] theorem onFab_rdW (f : Fabric → Fabric) (j : Nat) : (s.onFab f).rdW j = s.rdW j := rfl
@[simp] theorem onFab_rd (f : Fabric → Fabric) (g : Fld) : (s.onFab f).rd g = s.rd g := rfl
@[simp] theorem onFab_on (f : Fabric → Fabric) (g : Fld) : (s.onFab f).on g = s.on g := rfl
@[simp] theorem onFab_bitOf (f : Fabric → Fabric) (g : Fld) (i : Nat) : (s.onFab f).bitOf g i = s.bitOf g i := rfl
@[simp] theorem onNc_pending (b : Nat) (f : NcBank → NcBank) : (s.onNc b f).pending = s.pending := rfl
@[simp] theorem onNc_clk (b : Nat) (f : NcBank → NcBank) : (s.onNc b f).clk = s.clk := rfl
@[simp] theorem onNc_csr (b : Nat) (f : NcBank → NcBank) : (s.onNc b f).csr = s.csr := rfl
@[simp] theorem onNc_shadow (b : Nat) (f : NcBank → NcBank) : (s.onNc b f).shadow = s.shadow := rfl
@[simp] theorem onNc_fresh (b : Nat) (f : NcBank → NcBank) : (s.onNc b f).fresh = s.fresh := rfl
@[simp] theorem onNc_out (b : Nat) (f : NcBank → NcBank) : (s.onNc b f).out = s.out := rfl
@[simp] theorem onNc_stamps (b : Nat) (f : NcBank → NcBank) : (s.onNc b f).stamps = s.stamps := rfl
@[simp] theorem onNc_rcd (b : Nat) (f : NcBank → NcBank) : (s.onNc b f).rcd = s.rcd := rfl
@[simp] theorem onNc_fab (b : Nat) (f : NcBank → NcBank) : (s.onNc b f).fab = s.fab := rfl
@[simp] theorem onNc_nc (b : Nat) (f : NcBank → NcBank) : (s.onNc b f).nc = modNth s.nc b f := rfl
@[simp] theorem onNc_dr (b : Nat) (f : NcBank → NcBank) : (s.onNc b f).dr = s.dr := rfl
@[simp] theorem onNc_win (b : Nat) (f : NcBank → NcBank) : (s.onNc b f).win = s.win := rfl
@[simp] theorem onNc_hp (b : Nat) (f : NcBank → NcBank) : (s.onNc b f).hp = s.hp := rfl
@[simp] theorem onNc_fur (b : Nat) (f : NcBank → NcBank) : (s.onNc b f).fur = s.fur := rfl
@[simp] theorem onNc_hv (b : Nat) (f : NcBank → NcBank) : (s.onNc b f).hv = s.hv := rfl
@[simp] theorem onNc_cph (b : Nat) (f : NcBank → NcBank) : (s.onNc b f).cph = s.cph := rfl
@[simp] theorem onNc_pw (b : Nat) (f : NcBank → NcBank) : (s.onNc b f).pw = s.pw := rfl
@[simp] theorem onNc_rs (b : Nat) (f : NcBank → NcBank) : (s.onNc b f).rs = s.rs := rfl
@[simp] theorem onNc_yk (b : Nat) (f : NcBank → NcBank) : (s.onNc b f).yk = s.yk := rfl
@[simp] theorem onNc_dl (b : Nat) (f : NcBank → NcBank) : (s.onNc b f).dl = s.dl := rfl
@[simp] theorem onNc_mb (b : Nat) (f : NcBank → NcBank) : (s.onNc b f).mb = s.mb := rfl
@[simp] theorem onNc_cs (b : Nat) (f : NcBank → NcBank) : (s.onNc b f).cs = s.cs := rfl
@[simp] theorem onNc_net (b : Nat) (f : NcBank → NcBank) : (s.onNc b f).net = s.net := rfl
@[simp] theorem onNc_grn (b : Nat) (f : NcBank → NcBank) : (s.onNc b f).grn = s.grn := rfl
@[simp] theorem onNc_th (b : Nat) (f : NcBank → NcBank) : (s.onNc b f).th = s.th := rfl
@[simp] theorem onNc_efl (b : Nat) (f : NcBank → NcBank) : (s.onNc b f).efl = s.efl := rfl
@[simp] theorem onNc_rdW (b : Nat) (f : NcBank → NcBank) (j : Nat) : (s.onNc b f).rdW j = s.rdW j := rfl
@[simp] theorem onNc_rd (b : Nat) (f : NcBank → NcBank) (g : Fld) : (s.onNc b f).rd g = s.rd g := rfl
@[simp] theorem onNc_on (b : Nat) (f : NcBank → NcBank) (g : Fld) : (s.onNc b f).on g = s.on g := rfl
@[simp] theorem onNc_bitOf (b : Nat) (f : NcBank → NcBank) (g : Fld) (i : Nat) : (s.onNc b f).bitOf g i = s.bitOf g i := rfl
@[simp] theorem onDr_pending (f : Dram → Dram) : (s.onDr f).pending = s.pending := rfl
@[simp] theorem onDr_clk (f : Dram → Dram) : (s.onDr f).clk = s.clk := rfl
@[simp] theorem onDr_csr (f : Dram → Dram) : (s.onDr f).csr = s.csr := rfl
@[simp] theorem onDr_shadow (f : Dram → Dram) : (s.onDr f).shadow = s.shadow := rfl
@[simp] theorem onDr_fresh (f : Dram → Dram) : (s.onDr f).fresh = s.fresh := rfl
@[simp] theorem onDr_out (f : Dram → Dram) : (s.onDr f).out = s.out := rfl
@[simp] theorem onDr_stamps (f : Dram → Dram) : (s.onDr f).stamps = s.stamps := rfl
@[simp] theorem onDr_rcd (f : Dram → Dram) : (s.onDr f).rcd = s.rcd := rfl
@[simp] theorem onDr_fab (f : Dram → Dram) : (s.onDr f).fab = s.fab := rfl
@[simp] theorem onDr_nc (f : Dram → Dram) : (s.onDr f).nc = s.nc := rfl
@[simp] theorem onDr_dr (f : Dram → Dram) : (s.onDr f).dr = f s.dr := rfl
@[simp] theorem onDr_win (f : Dram → Dram) : (s.onDr f).win = s.win := rfl
@[simp] theorem onDr_hp (f : Dram → Dram) : (s.onDr f).hp = s.hp := rfl
@[simp] theorem onDr_fur (f : Dram → Dram) : (s.onDr f).fur = s.fur := rfl
@[simp] theorem onDr_hv (f : Dram → Dram) : (s.onDr f).hv = s.hv := rfl
@[simp] theorem onDr_cph (f : Dram → Dram) : (s.onDr f).cph = s.cph := rfl
@[simp] theorem onDr_pw (f : Dram → Dram) : (s.onDr f).pw = s.pw := rfl
@[simp] theorem onDr_rs (f : Dram → Dram) : (s.onDr f).rs = s.rs := rfl
@[simp] theorem onDr_yk (f : Dram → Dram) : (s.onDr f).yk = s.yk := rfl
@[simp] theorem onDr_dl (f : Dram → Dram) : (s.onDr f).dl = s.dl := rfl
@[simp] theorem onDr_mb (f : Dram → Dram) : (s.onDr f).mb = s.mb := rfl
@[simp] theorem onDr_cs (f : Dram → Dram) : (s.onDr f).cs = s.cs := rfl
@[simp] theorem onDr_net (f : Dram → Dram) : (s.onDr f).net = s.net := rfl
@[simp] theorem onDr_grn (f : Dram → Dram) : (s.onDr f).grn = s.grn := rfl
@[simp] theorem onDr_th (f : Dram → Dram) : (s.onDr f).th = s.th := rfl
@[simp] theorem onDr_efl (f : Dram → Dram) : (s.onDr f).efl = s.efl := rfl
@[simp] theorem onDr_rdW (f : Dram → Dram) (j : Nat) : (s.onDr f).rdW j = s.rdW j := rfl
@[simp] theorem onDr_rd (f : Dram → Dram) (g : Fld) : (s.onDr f).rd g = s.rd g := rfl
@[simp] theorem onDr_on (f : Dram → Dram) (g : Fld) : (s.onDr f).on g = s.on g := rfl
@[simp] theorem onDr_bitOf (f : Dram → Dram) (g : Fld) (i : Nat) : (s.onDr f).bitOf g i = s.bitOf g i := rfl
@[simp] theorem onCh_pending (c : Nat) (f : DramCh → DramCh) : (s.onCh c f).pending = s.pending := rfl
@[simp] theorem onCh_clk (c : Nat) (f : DramCh → DramCh) : (s.onCh c f).clk = s.clk := rfl
@[simp] theorem onCh_csr (c : Nat) (f : DramCh → DramCh) : (s.onCh c f).csr = s.csr := rfl
@[simp] theorem onCh_shadow (c : Nat) (f : DramCh → DramCh) : (s.onCh c f).shadow = s.shadow := rfl
@[simp] theorem onCh_fresh (c : Nat) (f : DramCh → DramCh) : (s.onCh c f).fresh = s.fresh := rfl
@[simp] theorem onCh_out (c : Nat) (f : DramCh → DramCh) : (s.onCh c f).out = s.out := rfl
@[simp] theorem onCh_stamps (c : Nat) (f : DramCh → DramCh) : (s.onCh c f).stamps = s.stamps := rfl
@[simp] theorem onCh_rcd (c : Nat) (f : DramCh → DramCh) : (s.onCh c f).rcd = s.rcd := rfl
@[simp] theorem onCh_fab (c : Nat) (f : DramCh → DramCh) : (s.onCh c f).fab = s.fab := rfl
@[simp] theorem onCh_nc (c : Nat) (f : DramCh → DramCh) : (s.onCh c f).nc = s.nc := rfl
@[simp] theorem onCh_dr (c : Nat) (f : DramCh → DramCh) : (s.onCh c f).dr = { s.dr with ch := modNth s.dr.ch c f } := rfl
@[simp] theorem onCh_win (c : Nat) (f : DramCh → DramCh) : (s.onCh c f).win = s.win := rfl
@[simp] theorem onCh_hp (c : Nat) (f : DramCh → DramCh) : (s.onCh c f).hp = s.hp := rfl
@[simp] theorem onCh_fur (c : Nat) (f : DramCh → DramCh) : (s.onCh c f).fur = s.fur := rfl
@[simp] theorem onCh_hv (c : Nat) (f : DramCh → DramCh) : (s.onCh c f).hv = s.hv := rfl
@[simp] theorem onCh_cph (c : Nat) (f : DramCh → DramCh) : (s.onCh c f).cph = s.cph := rfl
@[simp] theorem onCh_pw (c : Nat) (f : DramCh → DramCh) : (s.onCh c f).pw = s.pw := rfl
@[simp] theorem onCh_rs (c : Nat) (f : DramCh → DramCh) : (s.onCh c f).rs = s.rs := rfl
@[simp] theorem onCh_yk (c : Nat) (f : DramCh → DramCh) : (s.onCh c f).yk = s.yk := rfl
@[simp] theorem onCh_dl (c : Nat) (f : DramCh → DramCh) : (s.onCh c f).dl = s.dl := rfl
@[simp] theorem onCh_mb (c : Nat) (f : DramCh → DramCh) : (s.onCh c f).mb = s.mb := rfl
@[simp] theorem onCh_cs (c : Nat) (f : DramCh → DramCh) : (s.onCh c f).cs = s.cs := rfl
@[simp] theorem onCh_net (c : Nat) (f : DramCh → DramCh) : (s.onCh c f).net = s.net := rfl
@[simp] theorem onCh_grn (c : Nat) (f : DramCh → DramCh) : (s.onCh c f).grn = s.grn := rfl
@[simp] theorem onCh_th (c : Nat) (f : DramCh → DramCh) : (s.onCh c f).th = s.th := rfl
@[simp] theorem onCh_efl (c : Nat) (f : DramCh → DramCh) : (s.onCh c f).efl = s.efl := rfl
@[simp] theorem onCh_rdW (c : Nat) (f : DramCh → DramCh) (j : Nat) : (s.onCh c f).rdW j = s.rdW j := rfl
@[simp] theorem onCh_rd (c : Nat) (f : DramCh → DramCh) (g : Fld) : (s.onCh c f).rd g = s.rd g := rfl
@[simp] theorem onCh_on (c : Nat) (f : DramCh → DramCh) (g : Fld) : (s.onCh c f).on g = s.on g := rfl
@[simp] theorem onCh_bitOf (c : Nat) (f : DramCh → DramCh) (g : Fld) (i : Nat) : (s.onCh c f).bitOf g i = s.bitOf g i := rfl
@[simp] theorem onWin_pending (f : Winnow → Winnow) : (s.onWin f).pending = s.pending := rfl
@[simp] theorem onWin_clk (f : Winnow → Winnow) : (s.onWin f).clk = s.clk := rfl
@[simp] theorem onWin_csr (f : Winnow → Winnow) : (s.onWin f).csr = s.csr := rfl
@[simp] theorem onWin_shadow (f : Winnow → Winnow) : (s.onWin f).shadow = s.shadow := rfl
@[simp] theorem onWin_fresh (f : Winnow → Winnow) : (s.onWin f).fresh = s.fresh := rfl
@[simp] theorem onWin_out (f : Winnow → Winnow) : (s.onWin f).out = s.out := rfl
@[simp] theorem onWin_stamps (f : Winnow → Winnow) : (s.onWin f).stamps = s.stamps := rfl
@[simp] theorem onWin_rcd (f : Winnow → Winnow) : (s.onWin f).rcd = s.rcd := rfl
@[simp] theorem onWin_fab (f : Winnow → Winnow) : (s.onWin f).fab = s.fab := rfl
@[simp] theorem onWin_nc (f : Winnow → Winnow) : (s.onWin f).nc = s.nc := rfl
@[simp] theorem onWin_dr (f : Winnow → Winnow) : (s.onWin f).dr = s.dr := rfl
@[simp] theorem onWin_win (f : Winnow → Winnow) : (s.onWin f).win = f s.win := rfl
@[simp] theorem onWin_hp (f : Winnow → Winnow) : (s.onWin f).hp = s.hp := rfl
@[simp] theorem onWin_fur (f : Winnow → Winnow) : (s.onWin f).fur = s.fur := rfl
@[simp] theorem onWin_hv (f : Winnow → Winnow) : (s.onWin f).hv = s.hv := rfl
@[simp] theorem onWin_cph (f : Winnow → Winnow) : (s.onWin f).cph = s.cph := rfl
@[simp] theorem onWin_pw (f : Winnow → Winnow) : (s.onWin f).pw = s.pw := rfl
@[simp] theorem onWin_rs (f : Winnow → Winnow) : (s.onWin f).rs = s.rs := rfl
@[simp] theorem onWin_yk (f : Winnow → Winnow) : (s.onWin f).yk = s.yk := rfl
@[simp] theorem onWin_dl (f : Winnow → Winnow) : (s.onWin f).dl = s.dl := rfl
@[simp] theorem onWin_mb (f : Winnow → Winnow) : (s.onWin f).mb = s.mb := rfl
@[simp] theorem onWin_cs (f : Winnow → Winnow) : (s.onWin f).cs = s.cs := rfl
@[simp] theorem onWin_net (f : Winnow → Winnow) : (s.onWin f).net = s.net := rfl
@[simp] theorem onWin_grn (f : Winnow → Winnow) : (s.onWin f).grn = s.grn := rfl
@[simp] theorem onWin_th (f : Winnow → Winnow) : (s.onWin f).th = s.th := rfl
@[simp] theorem onWin_efl (f : Winnow → Winnow) : (s.onWin f).efl = s.efl := rfl
@[simp] theorem onWin_rdW (f : Winnow → Winnow) (j : Nat) : (s.onWin f).rdW j = s.rdW j := rfl
@[simp] theorem onWin_rd (f : Winnow → Winnow) (g : Fld) : (s.onWin f).rd g = s.rd g := rfl
@[simp] theorem onWin_on (f : Winnow → Winnow) (g : Fld) : (s.onWin f).on g = s.on g := rfl
@[simp] theorem onWin_bitOf (f : Winnow → Winnow) (g : Fld) (i : Nat) : (s.onWin f).bitOf g i = s.bitOf g i := rfl
@[simp] theorem onLd_pending (k : Nat) (f : LdSt → LdSt) : (s.onLd k f).pending = s.pending := rfl
@[simp] theorem onLd_clk (k : Nat) (f : LdSt → LdSt) : (s.onLd k f).clk = s.clk := rfl
@[simp] theorem onLd_csr (k : Nat) (f : LdSt → LdSt) : (s.onLd k f).csr = s.csr := rfl
@[simp] theorem onLd_shadow (k : Nat) (f : LdSt → LdSt) : (s.onLd k f).shadow = s.shadow := rfl
@[simp] theorem onLd_fresh (k : Nat) (f : LdSt → LdSt) : (s.onLd k f).fresh = s.fresh := rfl
@[simp] theorem onLd_out (k : Nat) (f : LdSt → LdSt) : (s.onLd k f).out = s.out := rfl
@[simp] theorem onLd_stamps (k : Nat) (f : LdSt → LdSt) : (s.onLd k f).stamps = s.stamps := rfl
@[simp] theorem onLd_rcd (k : Nat) (f : LdSt → LdSt) : (s.onLd k f).rcd = s.rcd := rfl
@[simp] theorem onLd_fab (k : Nat) (f : LdSt → LdSt) : (s.onLd k f).fab = s.fab := rfl
@[simp] theorem onLd_nc (k : Nat) (f : LdSt → LdSt) : (s.onLd k f).nc = s.nc := rfl
@[simp] theorem onLd_dr (k : Nat) (f : LdSt → LdSt) : (s.onLd k f).dr = s.dr := rfl
@[simp] theorem onLd_win (k : Nat) (f : LdSt → LdSt) : (s.onLd k f).win = s.win := rfl
@[simp] theorem onLd_fur (k : Nat) (f : LdSt → LdSt) : (s.onLd k f).fur = s.fur := rfl
@[simp] theorem onLd_hv (k : Nat) (f : LdSt → LdSt) : (s.onLd k f).hv = s.hv := rfl
@[simp] theorem onLd_cph (k : Nat) (f : LdSt → LdSt) : (s.onLd k f).cph = s.cph := rfl
@[simp] theorem onLd_pw (k : Nat) (f : LdSt → LdSt) : (s.onLd k f).pw = s.pw := rfl
@[simp] theorem onLd_rs (k : Nat) (f : LdSt → LdSt) : (s.onLd k f).rs = s.rs := rfl
@[simp] theorem onLd_yk (k : Nat) (f : LdSt → LdSt) : (s.onLd k f).yk = s.yk := rfl
@[simp] theorem onLd_dl (k : Nat) (f : LdSt → LdSt) : (s.onLd k f).dl = s.dl := rfl
@[simp] theorem onLd_mb (k : Nat) (f : LdSt → LdSt) : (s.onLd k f).mb = s.mb := rfl
@[simp] theorem onLd_cs (k : Nat) (f : LdSt → LdSt) : (s.onLd k f).cs = s.cs := rfl
@[simp] theorem onLd_net (k : Nat) (f : LdSt → LdSt) : (s.onLd k f).net = s.net := rfl
@[simp] theorem onLd_grn (k : Nat) (f : LdSt → LdSt) : (s.onLd k f).grn = s.grn := rfl
@[simp] theorem onLd_th (k : Nat) (f : LdSt → LdSt) : (s.onLd k f).th = s.th := rfl
@[simp] theorem onLd_efl (k : Nat) (f : LdSt → LdSt) : (s.onLd k f).efl = s.efl := rfl
@[simp] theorem onLd_rdW (k : Nat) (f : LdSt → LdSt) (j : Nat) : (s.onLd k f).rdW j = s.rdW j := rfl
@[simp] theorem onLd_rd (k : Nat) (f : LdSt → LdSt) (g : Fld) : (s.onLd k f).rd g = s.rd g := rfl
@[simp] theorem onLd_on (k : Nat) (f : LdSt → LdSt) (g : Fld) : (s.onLd k f).on g = s.on g := rfl
@[simp] theorem onLd_bitOf (k : Nat) (f : LdSt → LdSt) (g : Fld) (i : Nat) : (s.onLd k f).bitOf g i = s.bitOf g i := rfl
@[simp] theorem onCph_pending (f : Cipher → Cipher) : (s.onCph f).pending = s.pending := rfl
@[simp] theorem onCph_clk (f : Cipher → Cipher) : (s.onCph f).clk = s.clk := rfl
@[simp] theorem onCph_csr (f : Cipher → Cipher) : (s.onCph f).csr = s.csr := rfl
@[simp] theorem onCph_shadow (f : Cipher → Cipher) : (s.onCph f).shadow = s.shadow := rfl
@[simp] theorem onCph_fresh (f : Cipher → Cipher) : (s.onCph f).fresh = s.fresh := rfl
@[simp] theorem onCph_out (f : Cipher → Cipher) : (s.onCph f).out = s.out := rfl
@[simp] theorem onCph_stamps (f : Cipher → Cipher) : (s.onCph f).stamps = s.stamps := rfl
@[simp] theorem onCph_rcd (f : Cipher → Cipher) : (s.onCph f).rcd = s.rcd := rfl
@[simp] theorem onCph_fab (f : Cipher → Cipher) : (s.onCph f).fab = s.fab := rfl
@[simp] theorem onCph_nc (f : Cipher → Cipher) : (s.onCph f).nc = s.nc := rfl
@[simp] theorem onCph_dr (f : Cipher → Cipher) : (s.onCph f).dr = s.dr := rfl
@[simp] theorem onCph_win (f : Cipher → Cipher) : (s.onCph f).win = s.win := rfl
@[simp] theorem onCph_hp (f : Cipher → Cipher) : (s.onCph f).hp = s.hp := rfl
@[simp] theorem onCph_fur (f : Cipher → Cipher) : (s.onCph f).fur = s.fur := rfl
@[simp] theorem onCph_hv (f : Cipher → Cipher) : (s.onCph f).hv = s.hv := rfl
@[simp] theorem onCph_cph (f : Cipher → Cipher) : (s.onCph f).cph = f s.cph := rfl
@[simp] theorem onCph_pw (f : Cipher → Cipher) : (s.onCph f).pw = s.pw := rfl
@[simp] theorem onCph_rs (f : Cipher → Cipher) : (s.onCph f).rs = s.rs := rfl
@[simp] theorem onCph_yk (f : Cipher → Cipher) : (s.onCph f).yk = s.yk := rfl
@[simp] theorem onCph_dl (f : Cipher → Cipher) : (s.onCph f).dl = s.dl := rfl
@[simp] theorem onCph_mb (f : Cipher → Cipher) : (s.onCph f).mb = s.mb := rfl
@[simp] theorem onCph_cs (f : Cipher → Cipher) : (s.onCph f).cs = s.cs := rfl
@[simp] theorem onCph_net (f : Cipher → Cipher) : (s.onCph f).net = s.net := rfl
@[simp] theorem onCph_grn (f : Cipher → Cipher) : (s.onCph f).grn = s.grn := rfl
@[simp] theorem onCph_th (f : Cipher → Cipher) : (s.onCph f).th = s.th := rfl
@[simp] theorem onCph_efl (f : Cipher → Cipher) : (s.onCph f).efl = s.efl := rfl
@[simp] theorem onCph_rdW (f : Cipher → Cipher) (j : Nat) : (s.onCph f).rdW j = s.rdW j := rfl
@[simp] theorem onCph_rd (f : Cipher → Cipher) (g : Fld) : (s.onCph f).rd g = s.rd g := rfl
@[simp] theorem onCph_on (f : Cipher → Cipher) (g : Fld) : (s.onCph f).on g = s.on g := rfl
@[simp] theorem onCph_bitOf (f : Cipher → Cipher) (g : Fld) (i : Nat) : (s.onCph f).bitOf g i = s.bitOf g i := rfl
@[simp] theorem onCs_pending (f : Cmds → Cmds) : (s.onCs f).pending = s.pending := rfl
@[simp] theorem onCs_clk (f : Cmds → Cmds) : (s.onCs f).clk = s.clk := rfl
@[simp] theorem onCs_csr (f : Cmds → Cmds) : (s.onCs f).csr = s.csr := rfl
@[simp] theorem onCs_shadow (f : Cmds → Cmds) : (s.onCs f).shadow = s.shadow := rfl
@[simp] theorem onCs_fresh (f : Cmds → Cmds) : (s.onCs f).fresh = s.fresh := rfl
@[simp] theorem onCs_out (f : Cmds → Cmds) : (s.onCs f).out = s.out := rfl
@[simp] theorem onCs_stamps (f : Cmds → Cmds) : (s.onCs f).stamps = s.stamps := rfl
@[simp] theorem onCs_rcd (f : Cmds → Cmds) : (s.onCs f).rcd = s.rcd := rfl
@[simp] theorem onCs_fab (f : Cmds → Cmds) : (s.onCs f).fab = s.fab := rfl
@[simp] theorem onCs_nc (f : Cmds → Cmds) : (s.onCs f).nc = s.nc := rfl
@[simp] theorem onCs_dr (f : Cmds → Cmds) : (s.onCs f).dr = s.dr := rfl
@[simp] theorem onCs_win (f : Cmds → Cmds) : (s.onCs f).win = s.win := rfl
@[simp] theorem onCs_hp (f : Cmds → Cmds) : (s.onCs f).hp = s.hp := rfl
@[simp] theorem onCs_fur (f : Cmds → Cmds) : (s.onCs f).fur = s.fur := rfl
@[simp] theorem onCs_hv (f : Cmds → Cmds) : (s.onCs f).hv = s.hv := rfl
@[simp] theorem onCs_cph (f : Cmds → Cmds) : (s.onCs f).cph = s.cph := rfl
@[simp] theorem onCs_pw (f : Cmds → Cmds) : (s.onCs f).pw = s.pw := rfl
@[simp] theorem onCs_rs (f : Cmds → Cmds) : (s.onCs f).rs = s.rs := rfl
@[simp] theorem onCs_yk (f : Cmds → Cmds) : (s.onCs f).yk = s.yk := rfl
@[simp] theorem onCs_dl (f : Cmds → Cmds) : (s.onCs f).dl = s.dl := rfl
@[simp] theorem onCs_mb (f : Cmds → Cmds) : (s.onCs f).mb = s.mb := rfl
@[simp] theorem onCs_cs (f : Cmds → Cmds) : (s.onCs f).cs = f s.cs := rfl
@[simp] theorem onCs_net (f : Cmds → Cmds) : (s.onCs f).net = s.net := rfl
@[simp] theorem onCs_grn (f : Cmds → Cmds) : (s.onCs f).grn = s.grn := rfl
@[simp] theorem onCs_th (f : Cmds → Cmds) : (s.onCs f).th = s.th := rfl
@[simp] theorem onCs_efl (f : Cmds → Cmds) : (s.onCs f).efl = s.efl := rfl
@[simp] theorem onCs_rdW (f : Cmds → Cmds) (j : Nat) : (s.onCs f).rdW j = s.rdW j := rfl
@[simp] theorem onCs_rd (f : Cmds → Cmds) (g : Fld) : (s.onCs f).rd g = s.rd g := rfl
@[simp] theorem onCs_on (f : Cmds → Cmds) (g : Fld) : (s.onCs f).on g = s.on g := rfl
@[simp] theorem onCs_bitOf (f : Cmds → Cmds) (g : Fld) (i : Nat) : (s.onCs f).bitOf g i = s.bitOf g i := rfl
@[simp] theorem onDl_pending (f : Drill → Drill) : (s.onDl f).pending = s.pending := rfl
@[simp] theorem onDl_clk (f : Drill → Drill) : (s.onDl f).clk = s.clk := rfl
@[simp] theorem onDl_csr (f : Drill → Drill) : (s.onDl f).csr = s.csr := rfl
@[simp] theorem onDl_shadow (f : Drill → Drill) : (s.onDl f).shadow = s.shadow := rfl
@[simp] theorem onDl_fresh (f : Drill → Drill) : (s.onDl f).fresh = s.fresh := rfl
@[simp] theorem onDl_out (f : Drill → Drill) : (s.onDl f).out = s.out := rfl
@[simp] theorem onDl_stamps (f : Drill → Drill) : (s.onDl f).stamps = s.stamps := rfl
@[simp] theorem onDl_rcd (f : Drill → Drill) : (s.onDl f).rcd = s.rcd := rfl
@[simp] theorem onDl_fab (f : Drill → Drill) : (s.onDl f).fab = s.fab := rfl
@[simp] theorem onDl_nc (f : Drill → Drill) : (s.onDl f).nc = s.nc := rfl
@[simp] theorem onDl_dr (f : Drill → Drill) : (s.onDl f).dr = s.dr := rfl
@[simp] theorem onDl_win (f : Drill → Drill) : (s.onDl f).win = s.win := rfl
@[simp] theorem onDl_hp (f : Drill → Drill) : (s.onDl f).hp = s.hp := rfl
@[simp] theorem onDl_fur (f : Drill → Drill) : (s.onDl f).fur = s.fur := rfl
@[simp] theorem onDl_hv (f : Drill → Drill) : (s.onDl f).hv = s.hv := rfl
@[simp] theorem onDl_cph (f : Drill → Drill) : (s.onDl f).cph = s.cph := rfl
@[simp] theorem onDl_pw (f : Drill → Drill) : (s.onDl f).pw = s.pw := rfl
@[simp] theorem onDl_rs (f : Drill → Drill) : (s.onDl f).rs = s.rs := rfl
@[simp] theorem onDl_yk (f : Drill → Drill) : (s.onDl f).yk = s.yk := rfl
@[simp] theorem onDl_dl (f : Drill → Drill) : (s.onDl f).dl = f s.dl := rfl
@[simp] theorem onDl_mb (f : Drill → Drill) : (s.onDl f).mb = s.mb := rfl
@[simp] theorem onDl_cs (f : Drill → Drill) : (s.onDl f).cs = s.cs := rfl
@[simp] theorem onDl_net (f : Drill → Drill) : (s.onDl f).net = s.net := rfl
@[simp] theorem onDl_grn (f : Drill → Drill) : (s.onDl f).grn = s.grn := rfl
@[simp] theorem onDl_th (f : Drill → Drill) : (s.onDl f).th = s.th := rfl
@[simp] theorem onDl_efl (f : Drill → Drill) : (s.onDl f).efl = s.efl := rfl
@[simp] theorem onDl_rdW (f : Drill → Drill) (j : Nat) : (s.onDl f).rdW j = s.rdW j := rfl
@[simp] theorem onDl_rd (f : Drill → Drill) (g : Fld) : (s.onDl f).rd g = s.rd g := rfl
@[simp] theorem onDl_on (f : Drill → Drill) (g : Fld) : (s.onDl f).on g = s.on g := rfl
@[simp] theorem onDl_bitOf (f : Drill → Drill) (g : Fld) (i : Nat) : (s.onDl f).bitOf g i = s.bitOf g i := rfl
@[simp] theorem onConn_pending (n : Nat) (f : DConn → DConn) : (s.onConn n f).pending = s.pending := rfl
@[simp] theorem onConn_clk (n : Nat) (f : DConn → DConn) : (s.onConn n f).clk = s.clk := rfl
@[simp] theorem onConn_csr (n : Nat) (f : DConn → DConn) : (s.onConn n f).csr = s.csr := rfl
@[simp] theorem onConn_shadow (n : Nat) (f : DConn → DConn) : (s.onConn n f).shadow = s.shadow := rfl
@[simp] theorem onConn_fresh (n : Nat) (f : DConn → DConn) : (s.onConn n f).fresh = s.fresh := rfl
@[simp] theorem onConn_out (n : Nat) (f : DConn → DConn) : (s.onConn n f).out = s.out := rfl
@[simp] theorem onConn_stamps (n : Nat) (f : DConn → DConn) : (s.onConn n f).stamps = s.stamps := rfl
@[simp] theorem onConn_rcd (n : Nat) (f : DConn → DConn) : (s.onConn n f).rcd = s.rcd := rfl
@[simp] theorem onConn_fab (n : Nat) (f : DConn → DConn) : (s.onConn n f).fab = s.fab := rfl
@[simp] theorem onConn_nc (n : Nat) (f : DConn → DConn) : (s.onConn n f).nc = s.nc := rfl
@[simp] theorem onConn_dr (n : Nat) (f : DConn → DConn) : (s.onConn n f).dr = s.dr := rfl
@[simp] theorem onConn_win (n : Nat) (f : DConn → DConn) : (s.onConn n f).win = s.win := rfl
@[simp] theorem onConn_hp (n : Nat) (f : DConn → DConn) : (s.onConn n f).hp = s.hp := rfl
@[simp] theorem onConn_fur (n : Nat) (f : DConn → DConn) : (s.onConn n f).fur = s.fur := rfl
@[simp] theorem onConn_hv (n : Nat) (f : DConn → DConn) : (s.onConn n f).hv = s.hv := rfl
@[simp] theorem onConn_cph (n : Nat) (f : DConn → DConn) : (s.onConn n f).cph = s.cph := rfl
@[simp] theorem onConn_pw (n : Nat) (f : DConn → DConn) : (s.onConn n f).pw = s.pw := rfl
@[simp] theorem onConn_rs (n : Nat) (f : DConn → DConn) : (s.onConn n f).rs = s.rs := rfl
@[simp] theorem onConn_yk (n : Nat) (f : DConn → DConn) : (s.onConn n f).yk = s.yk := rfl
@[simp] theorem onConn_mb (n : Nat) (f : DConn → DConn) : (s.onConn n f).mb = s.mb := rfl
@[simp] theorem onConn_cs (n : Nat) (f : DConn → DConn) : (s.onConn n f).cs = s.cs := rfl
@[simp] theorem onConn_net (n : Nat) (f : DConn → DConn) : (s.onConn n f).net = s.net := rfl
@[simp] theorem onConn_grn (n : Nat) (f : DConn → DConn) : (s.onConn n f).grn = s.grn := rfl
@[simp] theorem onConn_th (n : Nat) (f : DConn → DConn) : (s.onConn n f).th = s.th := rfl
@[simp] theorem onConn_efl (n : Nat) (f : DConn → DConn) : (s.onConn n f).efl = s.efl := rfl
@[simp] theorem onConn_rdW (n : Nat) (f : DConn → DConn) (j : Nat) : (s.onConn n f).rdW j = s.rdW j := rfl
@[simp] theorem onConn_rd (n : Nat) (f : DConn → DConn) (g : Fld) : (s.onConn n f).rd g = s.rd g := rfl
@[simp] theorem onConn_on (n : Nat) (f : DConn → DConn) (g : Fld) : (s.onConn n f).on g = s.on g := rfl
@[simp] theorem onConn_bitOf (n : Nat) (f : DConn → DConn) (g : Fld) (i : Nat) : (s.onConn n f).bitOf g i = s.bitOf g i := rfl
@[simp] theorem onJq_pending (q : Nat) (f : JQueue → JQueue) : (s.onJq q f).pending = s.pending := rfl
@[simp] theorem onJq_clk (q : Nat) (f : JQueue → JQueue) : (s.onJq q f).clk = s.clk := rfl
@[simp] theorem onJq_csr (q : Nat) (f : JQueue → JQueue) : (s.onJq q f).csr = s.csr := rfl
@[simp] theorem onJq_shadow (q : Nat) (f : JQueue → JQueue) : (s.onJq q f).shadow = s.shadow := rfl
@[simp] theorem onJq_fresh (q : Nat) (f : JQueue → JQueue) : (s.onJq q f).fresh = s.fresh := rfl
@[simp] theorem onJq_out (q : Nat) (f : JQueue → JQueue) : (s.onJq q f).out = s.out := rfl
@[simp] theorem onJq_stamps (q : Nat) (f : JQueue → JQueue) : (s.onJq q f).stamps = s.stamps := rfl
@[simp] theorem onJq_rcd (q : Nat) (f : JQueue → JQueue) : (s.onJq q f).rcd = s.rcd := rfl
@[simp] theorem onJq_fab (q : Nat) (f : JQueue → JQueue) : (s.onJq q f).fab = s.fab := rfl
@[simp] theorem onJq_nc (q : Nat) (f : JQueue → JQueue) : (s.onJq q f).nc = s.nc := rfl
@[simp] theorem onJq_dr (q : Nat) (f : JQueue → JQueue) : (s.onJq q f).dr = s.dr := rfl
@[simp] theorem onJq_win (q : Nat) (f : JQueue → JQueue) : (s.onJq q f).win = s.win := rfl
@[simp] theorem onJq_hp (q : Nat) (f : JQueue → JQueue) : (s.onJq q f).hp = s.hp := rfl
@[simp] theorem onJq_fur (q : Nat) (f : JQueue → JQueue) : (s.onJq q f).fur = s.fur := rfl
@[simp] theorem onJq_hv (q : Nat) (f : JQueue → JQueue) : (s.onJq q f).hv = s.hv := rfl
@[simp] theorem onJq_cph (q : Nat) (f : JQueue → JQueue) : (s.onJq q f).cph = s.cph := rfl
@[simp] theorem onJq_pw (q : Nat) (f : JQueue → JQueue) : (s.onJq q f).pw = s.pw := rfl
@[simp] theorem onJq_rs (q : Nat) (f : JQueue → JQueue) : (s.onJq q f).rs = s.rs := rfl
@[simp] theorem onJq_yk (q : Nat) (f : JQueue → JQueue) : (s.onJq q f).yk = s.yk := rfl
@[simp] theorem onJq_mb (q : Nat) (f : JQueue → JQueue) : (s.onJq q f).mb = s.mb := rfl
@[simp] theorem onJq_cs (q : Nat) (f : JQueue → JQueue) : (s.onJq q f).cs = s.cs := rfl
@[simp] theorem onJq_net (q : Nat) (f : JQueue → JQueue) : (s.onJq q f).net = s.net := rfl
@[simp] theorem onJq_grn (q : Nat) (f : JQueue → JQueue) : (s.onJq q f).grn = s.grn := rfl
@[simp] theorem onJq_th (q : Nat) (f : JQueue → JQueue) : (s.onJq q f).th = s.th := rfl
@[simp] theorem onJq_efl (q : Nat) (f : JQueue → JQueue) : (s.onJq q f).efl = s.efl := rfl
@[simp] theorem onJq_rdW (q : Nat) (f : JQueue → JQueue) (j : Nat) : (s.onJq q f).rdW j = s.rdW j := rfl
@[simp] theorem onJq_rd (q : Nat) (f : JQueue → JQueue) (g : Fld) : (s.onJq q f).rd g = s.rd g := rfl
@[simp] theorem onJq_on (q : Nat) (f : JQueue → JQueue) (g : Fld) : (s.onJq q f).on g = s.on g := rfl
@[simp] theorem onJq_bitOf (q : Nat) (f : JQueue → JQueue) (g : Fld) (i : Nat) : (s.onJq q f).bitOf g i = s.bitOf g i := rfl
@[simp] theorem onJob_pending (n : Nat) (f : JRun → JRun) : (s.onJob n f).pending = s.pending := rfl
@[simp] theorem onJob_clk (n : Nat) (f : JRun → JRun) : (s.onJob n f).clk = s.clk := rfl
@[simp] theorem onJob_csr (n : Nat) (f : JRun → JRun) : (s.onJob n f).csr = s.csr := rfl
@[simp] theorem onJob_shadow (n : Nat) (f : JRun → JRun) : (s.onJob n f).shadow = s.shadow := rfl
@[simp] theorem onJob_fresh (n : Nat) (f : JRun → JRun) : (s.onJob n f).fresh = s.fresh := rfl
@[simp] theorem onJob_out (n : Nat) (f : JRun → JRun) : (s.onJob n f).out = s.out := rfl
@[simp] theorem onJob_stamps (n : Nat) (f : JRun → JRun) : (s.onJob n f).stamps = s.stamps := rfl
@[simp] theorem onJob_rcd (n : Nat) (f : JRun → JRun) : (s.onJob n f).rcd = s.rcd := rfl
@[simp] theorem onJob_fab (n : Nat) (f : JRun → JRun) : (s.onJob n f).fab = s.fab := rfl
@[simp] theorem onJob_nc (n : Nat) (f : JRun → JRun) : (s.onJob n f).nc = s.nc := rfl
@[simp] theorem onJob_dr (n : Nat) (f : JRun → JRun) : (s.onJob n f).dr = s.dr := rfl
@[simp] theorem onJob_win (n : Nat) (f : JRun → JRun) : (s.onJob n f).win = s.win := rfl
@[simp] theorem onJob_hp (n : Nat) (f : JRun → JRun) : (s.onJob n f).hp = s.hp := rfl
@[simp] theorem onJob_fur (n : Nat) (f : JRun → JRun) : (s.onJob n f).fur = s.fur := rfl
@[simp] theorem onJob_hv (n : Nat) (f : JRun → JRun) : (s.onJob n f).hv = s.hv := rfl
@[simp] theorem onJob_cph (n : Nat) (f : JRun → JRun) : (s.onJob n f).cph = s.cph := rfl
@[simp] theorem onJob_pw (n : Nat) (f : JRun → JRun) : (s.onJob n f).pw = s.pw := rfl
@[simp] theorem onJob_rs (n : Nat) (f : JRun → JRun) : (s.onJob n f).rs = s.rs := rfl
@[simp] theorem onJob_yk (n : Nat) (f : JRun → JRun) : (s.onJob n f).yk = s.yk := rfl
@[simp] theorem onJob_mb (n : Nat) (f : JRun → JRun) : (s.onJob n f).mb = s.mb := rfl
@[simp] theorem onJob_cs (n : Nat) (f : JRun → JRun) : (s.onJob n f).cs = s.cs := rfl
@[simp] theorem onJob_net (n : Nat) (f : JRun → JRun) : (s.onJob n f).net = s.net := rfl
@[simp] theorem onJob_grn (n : Nat) (f : JRun → JRun) : (s.onJob n f).grn = s.grn := rfl
@[simp] theorem onJob_th (n : Nat) (f : JRun → JRun) : (s.onJob n f).th = s.th := rfl
@[simp] theorem onJob_efl (n : Nat) (f : JRun → JRun) : (s.onJob n f).efl = s.efl := rfl
@[simp] theorem onJob_rdW (n : Nat) (f : JRun → JRun) (j : Nat) : (s.onJob n f).rdW j = s.rdW j := rfl
@[simp] theorem onJob_rd (n : Nat) (f : JRun → JRun) (g : Fld) : (s.onJob n f).rd g = s.rd g := rfl
@[simp] theorem onJob_on (n : Nat) (f : JRun → JRun) (g : Fld) : (s.onJob n f).on g = s.on g := rfl
@[simp] theorem onJob_bitOf (n : Nat) (f : JRun → JRun) (g : Fld) (i : Nat) : (s.onJob n f).bitOf g i = s.bitOf g i := rfl
@[simp] theorem onEfl_pending (f : Efl → Efl) : (s.onEfl f).pending = s.pending := rfl
@[simp] theorem onEfl_clk (f : Efl → Efl) : (s.onEfl f).clk = s.clk := rfl
@[simp] theorem onEfl_csr (f : Efl → Efl) : (s.onEfl f).csr = s.csr := rfl
@[simp] theorem onEfl_shadow (f : Efl → Efl) : (s.onEfl f).shadow = s.shadow := rfl
@[simp] theorem onEfl_fresh (f : Efl → Efl) : (s.onEfl f).fresh = s.fresh := rfl
@[simp] theorem onEfl_out (f : Efl → Efl) : (s.onEfl f).out = s.out := rfl
@[simp] theorem onEfl_stamps (f : Efl → Efl) : (s.onEfl f).stamps = s.stamps := rfl
@[simp] theorem onEfl_rcd (f : Efl → Efl) : (s.onEfl f).rcd = s.rcd := rfl
@[simp] theorem onEfl_fab (f : Efl → Efl) : (s.onEfl f).fab = s.fab := rfl
@[simp] theorem onEfl_nc (f : Efl → Efl) : (s.onEfl f).nc = s.nc := rfl
@[simp] theorem onEfl_dr (f : Efl → Efl) : (s.onEfl f).dr = s.dr := rfl
@[simp] theorem onEfl_win (f : Efl → Efl) : (s.onEfl f).win = s.win := rfl
@[simp] theorem onEfl_hp (f : Efl → Efl) : (s.onEfl f).hp = s.hp := rfl
@[simp] theorem onEfl_fur (f : Efl → Efl) : (s.onEfl f).fur = s.fur := rfl
@[simp] theorem onEfl_hv (f : Efl → Efl) : (s.onEfl f).hv = s.hv := rfl
@[simp] theorem onEfl_cph (f : Efl → Efl) : (s.onEfl f).cph = s.cph := rfl
@[simp] theorem onEfl_pw (f : Efl → Efl) : (s.onEfl f).pw = s.pw := rfl
@[simp] theorem onEfl_rs (f : Efl → Efl) : (s.onEfl f).rs = s.rs := rfl
@[simp] theorem onEfl_yk (f : Efl → Efl) : (s.onEfl f).yk = s.yk := rfl
@[simp] theorem onEfl_dl (f : Efl → Efl) : (s.onEfl f).dl = s.dl := rfl
@[simp] theorem onEfl_mb (f : Efl → Efl) : (s.onEfl f).mb = s.mb := rfl
@[simp] theorem onEfl_cs (f : Efl → Efl) : (s.onEfl f).cs = s.cs := rfl
@[simp] theorem onEfl_net (f : Efl → Efl) : (s.onEfl f).net = s.net := rfl
@[simp] theorem onEfl_grn (f : Efl → Efl) : (s.onEfl f).grn = s.grn := rfl
@[simp] theorem onEfl_th (f : Efl → Efl) : (s.onEfl f).th = s.th := rfl
@[simp] theorem onEfl_efl (f : Efl → Efl) : (s.onEfl f).efl = f s.efl := rfl
@[simp] theorem onEfl_rdW (f : Efl → Efl) (j : Nat) : (s.onEfl f).rdW j = s.rdW j := rfl
@[simp] theorem onEfl_rd (f : Efl → Efl) (g : Fld) : (s.onEfl f).rd g = s.rd g := rfl
@[simp] theorem onEfl_on (f : Efl → Efl) (g : Fld) : (s.onEfl f).on g = s.on g := rfl
@[simp] theorem onEfl_bitOf (f : Efl → Efl) (g : Fld) (i : Nat) : (s.onEfl f).bitOf g i = s.bitOf g i := rfl
@[simp] theorem onFur_pending (f : Furrow → Furrow) : (s.onFur f).pending = s.pending := rfl
@[simp] theorem onFur_clk (f : Furrow → Furrow) : (s.onFur f).clk = s.clk := rfl
@[simp] theorem onFur_csr (f : Furrow → Furrow) : (s.onFur f).csr = s.csr := rfl
@[simp] theorem onFur_shadow (f : Furrow → Furrow) : (s.onFur f).shadow = s.shadow := rfl
@[simp] theorem onFur_fresh (f : Furrow → Furrow) : (s.onFur f).fresh = s.fresh := rfl
@[simp] theorem onFur_out (f : Furrow → Furrow) : (s.onFur f).out = s.out := rfl
@[simp] theorem onFur_stamps (f : Furrow → Furrow) : (s.onFur f).stamps = s.stamps := rfl
@[simp] theorem onFur_rcd (f : Furrow → Furrow) : (s.onFur f).rcd = s.rcd := rfl
@[simp] theorem onFur_fab (f : Furrow → Furrow) : (s.onFur f).fab = s.fab := rfl
@[simp] theorem onFur_nc (f : Furrow → Furrow) : (s.onFur f).nc = s.nc := rfl
@[simp] theorem onFur_dr (f : Furrow → Furrow) : (s.onFur f).dr = s.dr := rfl
@[simp] theorem onFur_win (f : Furrow → Furrow) : (s.onFur f).win = s.win := rfl
@[simp] theorem onFur_hp (f : Furrow → Furrow) : (s.onFur f).hp = s.hp := rfl
@[simp] theorem onFur_fur (f : Furrow → Furrow) : (s.onFur f).fur = f s.fur := rfl
@[simp] theorem onFur_hv (f : Furrow → Furrow) : (s.onFur f).hv = s.hv := rfl
@[simp] theorem onFur_cph (f : Furrow → Furrow) : (s.onFur f).cph = s.cph := rfl
@[simp] theorem onFur_pw (f : Furrow → Furrow) : (s.onFur f).pw = s.pw := rfl
@[simp] theorem onFur_rs (f : Furrow → Furrow) : (s.onFur f).rs = s.rs := rfl
@[simp] theorem onFur_yk (f : Furrow → Furrow) : (s.onFur f).yk = s.yk := rfl
@[simp] theorem onFur_dl (f : Furrow → Furrow) : (s.onFur f).dl = s.dl := rfl
@[simp] theorem onFur_mb (f : Furrow → Furrow) : (s.onFur f).mb = s.mb := rfl
@[simp] theorem onFur_cs (f : Furrow → Furrow) : (s.onFur f).cs = s.cs := rfl
@[simp] theorem onFur_net (f : Furrow → Furrow) : (s.onFur f).net = s.net := rfl
@[simp] theorem onFur_grn (f : Furrow → Furrow) : (s.onFur f).grn = s.grn := rfl
@[simp] theorem onFur_th (f : Furrow → Furrow) : (s.onFur f).th = s.th := rfl
@[simp] theorem onFur_efl (f : Furrow → Furrow) : (s.onFur f).efl = s.efl := rfl
@[simp] theorem onFur_rdW (f : Furrow → Furrow) (j : Nat) : (s.onFur f).rdW j = s.rdW j := rfl
@[simp] theorem onFur_rd (f : Furrow → Furrow) (g : Fld) : (s.onFur f).rd g = s.rd g := rfl
@[simp] theorem onFur_on (f : Furrow → Furrow) (g : Fld) : (s.onFur f).on g = s.on g := rfl
@[simp] theorem onFur_bitOf (f : Furrow → Furrow) (g : Fld) (i : Nat) : (s.onFur f).bitOf g i = s.bitOf g i := rfl
@[simp] theorem onGrn_pending (f : Granary → Granary) : (s.onGrn f).pending = s.pending := rfl
@[simp] theorem onGrn_clk (f : Granary → Granary) : (s.onGrn f).clk = s.clk := rfl
@[simp] theorem onGrn_csr (f : Granary → Granary) : (s.onGrn f).csr = s.csr := rfl
@[simp] theorem onGrn_shadow (f : Granary → Granary) : (s.onGrn f).shadow = s.shadow := rfl
@[simp] theorem onGrn_fresh (f : Granary → Granary) : (s.onGrn f).fresh = s.fresh := rfl
@[simp] theorem onGrn_out (f : Granary → Granary) : (s.onGrn f).out = s.out := rfl
@[simp] theorem onGrn_stamps (f : Granary → Granary) : (s.onGrn f).stamps = s.stamps := rfl
@[simp] theorem onGrn_rcd (f : Granary → Granary) : (s.onGrn f).rcd = s.rcd := rfl
@[simp] theorem onGrn_fab (f : Granary → Granary) : (s.onGrn f).fab = s.fab := rfl
@[simp] theorem onGrn_nc (f : Granary → Granary) : (s.onGrn f).nc = s.nc := rfl
@[simp] theorem onGrn_dr (f : Granary → Granary) : (s.onGrn f).dr = s.dr := rfl
@[simp] theorem onGrn_win (f : Granary → Granary) : (s.onGrn f).win = s.win := rfl
@[simp] theorem onGrn_hp (f : Granary → Granary) : (s.onGrn f).hp = s.hp := rfl
@[simp] theorem onGrn_fur (f : Granary → Granary) : (s.onGrn f).fur = s.fur := rfl
@[simp] theorem onGrn_hv (f : Granary → Granary) : (s.onGrn f).hv = s.hv := rfl
@[simp] theorem onGrn_cph (f : Granary → Granary) : (s.onGrn f).cph = s.cph := rfl
@[simp] theorem onGrn_pw (f : Granary → Granary) : (s.onGrn f).pw = s.pw := rfl
@[simp] theorem onGrn_rs (f : Granary → Granary) : (s.onGrn f).rs = s.rs := rfl
@[simp] theorem onGrn_yk (f : Granary → Granary) : (s.onGrn f).yk = s.yk := rfl
@[simp] theorem onGrn_dl (f : Granary → Granary) : (s.onGrn f).dl = s.dl := rfl
@[simp] theorem onGrn_mb (f : Granary → Granary) : (s.onGrn f).mb = s.mb := rfl
@[simp] theorem onGrn_cs (f : Granary → Granary) : (s.onGrn f).cs = s.cs := rfl
@[simp] theorem onGrn_net (f : Granary → Granary) : (s.onGrn f).net = s.net := rfl
@[simp] theorem onGrn_grn (f : Granary → Granary) : (s.onGrn f).grn = f s.grn := rfl
@[simp] theorem onGrn_th (f : Granary → Granary) : (s.onGrn f).th = s.th := rfl
@[simp] theorem onGrn_efl (f : Granary → Granary) : (s.onGrn f).efl = s.efl := rfl
@[simp] theorem onGrn_rdW (f : Granary → Granary) (j : Nat) : (s.onGrn f).rdW j = s.rdW j := rfl
@[simp] theorem onGrn_rd (f : Granary → Granary) (g : Fld) : (s.onGrn f).rd g = s.rd g := rfl
@[simp] theorem onGrn_on (f : Granary → Granary) (g : Fld) : (s.onGrn f).on g = s.on g := rfl
@[simp] theorem onGrn_bitOf (f : Granary → Granary) (g : Fld) (i : Nat) : (s.onGrn f).bitOf g i = s.bitOf g i := rfl
@[simp] theorem onYk_pending (f : Yoke → Yoke) : (s.onYk f).pending = s.pending := rfl
@[simp] theorem onYk_clk (f : Yoke → Yoke) : (s.onYk f).clk = s.clk := rfl
@[simp] theorem onYk_csr (f : Yoke → Yoke) : (s.onYk f).csr = s.csr := rfl
@[simp] theorem onYk_shadow (f : Yoke → Yoke) : (s.onYk f).shadow = s.shadow := rfl
@[simp] theorem onYk_fresh (f : Yoke → Yoke) : (s.onYk f).fresh = s.fresh := rfl
@[simp] theorem onYk_out (f : Yoke → Yoke) : (s.onYk f).out = s.out := rfl
@[simp] theorem onYk_stamps (f : Yoke → Yoke) : (s.onYk f).stamps = s.stamps := rfl
@[simp] theorem onYk_rcd (f : Yoke → Yoke) : (s.onYk f).rcd = s.rcd := rfl
@[simp] theorem onYk_fab (f : Yoke → Yoke) : (s.onYk f).fab = s.fab := rfl
@[simp] theorem onYk_nc (f : Yoke → Yoke) : (s.onYk f).nc = s.nc := rfl
@[simp] theorem onYk_dr (f : Yoke → Yoke) : (s.onYk f).dr = s.dr := rfl
@[simp] theorem onYk_win (f : Yoke → Yoke) : (s.onYk f).win = s.win := rfl
@[simp] theorem onYk_hp (f : Yoke → Yoke) : (s.onYk f).hp = s.hp := rfl
@[simp] theorem onYk_fur (f : Yoke → Yoke) : (s.onYk f).fur = s.fur := rfl
@[simp] theorem onYk_hv (f : Yoke → Yoke) : (s.onYk f).hv = s.hv := rfl
@[simp] theorem onYk_cph (f : Yoke → Yoke) : (s.onYk f).cph = s.cph := rfl
@[simp] theorem onYk_pw (f : Yoke → Yoke) : (s.onYk f).pw = s.pw := rfl
@[simp] theorem onYk_rs (f : Yoke → Yoke) : (s.onYk f).rs = s.rs := rfl
@[simp] theorem onYk_yk (f : Yoke → Yoke) : (s.onYk f).yk = f s.yk := rfl
@[simp] theorem onYk_dl (f : Yoke → Yoke) : (s.onYk f).dl = s.dl := rfl
@[simp] theorem onYk_mb (f : Yoke → Yoke) : (s.onYk f).mb = s.mb := rfl
@[simp] theorem onYk_cs (f : Yoke → Yoke) : (s.onYk f).cs = s.cs := rfl
@[simp] theorem onYk_net (f : Yoke → Yoke) : (s.onYk f).net = s.net := rfl
@[simp] theorem onYk_grn (f : Yoke → Yoke) : (s.onYk f).grn = s.grn := rfl
@[simp] theorem onYk_th (f : Yoke → Yoke) : (s.onYk f).th = s.th := rfl
@[simp] theorem onYk_efl (f : Yoke → Yoke) : (s.onYk f).efl = s.efl := rfl
@[simp] theorem onYk_rdW (f : Yoke → Yoke) (j : Nat) : (s.onYk f).rdW j = s.rdW j := rfl
@[simp] theorem onYk_rd (f : Yoke → Yoke) (g : Fld) : (s.onYk f).rd g = s.rd g := rfl
@[simp] theorem onYk_on (f : Yoke → Yoke) (g : Fld) : (s.onYk f).on g = s.on g := rfl
@[simp] theorem onYk_bitOf (f : Yoke → Yoke) (g : Fld) (i : Nat) : (s.onYk f).bitOf g i = s.bitOf g i := rfl
@[simp] theorem onPair_pending (p : Nat) (f : YPair → YPair) : (s.onPair p f).pending = s.pending := rfl
@[simp] theorem onPair_clk (p : Nat) (f : YPair → YPair) : (s.onPair p f).clk = s.clk := rfl
@[simp] theorem onPair_csr (p : Nat) (f : YPair → YPair) : (s.onPair p f).csr = s.csr := rfl
@[simp] theorem onPair_shadow (p : Nat) (f : YPair → YPair) : (s.onPair p f).shadow = s.shadow := rfl
@[simp] theorem onPair_fresh (p : Nat) (f : YPair → YPair) : (s.onPair p f).fresh = s.fresh := rfl
@[simp] theorem onPair_out (p : Nat) (f : YPair → YPair) : (s.onPair p f).out = s.out := rfl
@[simp] theorem onPair_stamps (p : Nat) (f : YPair → YPair) : (s.onPair p f).stamps = s.stamps := rfl
@[simp] theorem onPair_rcd (p : Nat) (f : YPair → YPair) : (s.onPair p f).rcd = s.rcd := rfl
@[simp] theorem onPair_fab (p : Nat) (f : YPair → YPair) : (s.onPair p f).fab = s.fab := rfl
@[simp] theorem onPair_nc (p : Nat) (f : YPair → YPair) : (s.onPair p f).nc = s.nc := rfl
@[simp] theorem onPair_dr (p : Nat) (f : YPair → YPair) : (s.onPair p f).dr = s.dr := rfl
@[simp] theorem onPair_win (p : Nat) (f : YPair → YPair) : (s.onPair p f).win = s.win := rfl
@[simp] theorem onPair_hp (p : Nat) (f : YPair → YPair) : (s.onPair p f).hp = s.hp := rfl
@[simp] theorem onPair_fur (p : Nat) (f : YPair → YPair) : (s.onPair p f).fur = s.fur := rfl
@[simp] theorem onPair_hv (p : Nat) (f : YPair → YPair) : (s.onPair p f).hv = s.hv := rfl
@[simp] theorem onPair_cph (p : Nat) (f : YPair → YPair) : (s.onPair p f).cph = s.cph := rfl
@[simp] theorem onPair_pw (p : Nat) (f : YPair → YPair) : (s.onPair p f).pw = s.pw := rfl
@[simp] theorem onPair_rs (p : Nat) (f : YPair → YPair) : (s.onPair p f).rs = s.rs := rfl
@[simp] theorem onPair_dl (p : Nat) (f : YPair → YPair) : (s.onPair p f).dl = s.dl := rfl
@[simp] theorem onPair_mb (p : Nat) (f : YPair → YPair) : (s.onPair p f).mb = s.mb := rfl
@[simp] theorem onPair_cs (p : Nat) (f : YPair → YPair) : (s.onPair p f).cs = s.cs := rfl
@[simp] theorem onPair_net (p : Nat) (f : YPair → YPair) : (s.onPair p f).net = s.net := rfl
@[simp] theorem onPair_grn (p : Nat) (f : YPair → YPair) : (s.onPair p f).grn = s.grn := rfl
@[simp] theorem onPair_th (p : Nat) (f : YPair → YPair) : (s.onPair p f).th = s.th := rfl
@[simp] theorem onPair_efl (p : Nat) (f : YPair → YPair) : (s.onPair p f).efl = s.efl := rfl
@[simp] theorem onPair_rdW (p : Nat) (f : YPair → YPair) (j : Nat) : (s.onPair p f).rdW j = s.rdW j := rfl
@[simp] theorem onPair_rd (p : Nat) (f : YPair → YPair) (g : Fld) : (s.onPair p f).rd g = s.rd g := rfl
@[simp] theorem onPair_on (p : Nat) (f : YPair → YPair) (g : Fld) : (s.onPair p f).on g = s.on g := rfl
@[simp] theorem onPair_bitOf (p : Nat) (f : YPair → YPair) (g : Fld) (i : Nat) : (s.onPair p f).bitOf g i = s.bitOf g i := rfl
@[simp] theorem onMb_pending (f : Mbx → Mbx) : (s.onMb f).pending = s.pending := rfl
@[simp] theorem onMb_clk (f : Mbx → Mbx) : (s.onMb f).clk = s.clk := rfl
@[simp] theorem onMb_csr (f : Mbx → Mbx) : (s.onMb f).csr = s.csr := rfl
@[simp] theorem onMb_shadow (f : Mbx → Mbx) : (s.onMb f).shadow = s.shadow := rfl
@[simp] theorem onMb_fresh (f : Mbx → Mbx) : (s.onMb f).fresh = s.fresh := rfl
@[simp] theorem onMb_out (f : Mbx → Mbx) : (s.onMb f).out = s.out := rfl
@[simp] theorem onMb_stamps (f : Mbx → Mbx) : (s.onMb f).stamps = s.stamps := rfl
@[simp] theorem onMb_rcd (f : Mbx → Mbx) : (s.onMb f).rcd = s.rcd := rfl
@[simp] theorem onMb_fab (f : Mbx → Mbx) : (s.onMb f).fab = s.fab := rfl
@[simp] theorem onMb_nc (f : Mbx → Mbx) : (s.onMb f).nc = s.nc := rfl
@[simp] theorem onMb_dr (f : Mbx → Mbx) : (s.onMb f).dr = s.dr := rfl
@[simp] theorem onMb_win (f : Mbx → Mbx) : (s.onMb f).win = s.win := rfl
@[simp] theorem onMb_hp (f : Mbx → Mbx) : (s.onMb f).hp = s.hp := rfl
@[simp] theorem onMb_fur (f : Mbx → Mbx) : (s.onMb f).fur = s.fur := rfl
@[simp] theorem onMb_hv (f : Mbx → Mbx) : (s.onMb f).hv = s.hv := rfl
@[simp] theorem onMb_cph (f : Mbx → Mbx) : (s.onMb f).cph = s.cph := rfl
@[simp] theorem onMb_pw (f : Mbx → Mbx) : (s.onMb f).pw = s.pw := rfl
@[simp] theorem onMb_rs (f : Mbx → Mbx) : (s.onMb f).rs = s.rs := rfl
@[simp] theorem onMb_yk (f : Mbx → Mbx) : (s.onMb f).yk = s.yk := rfl
@[simp] theorem onMb_dl (f : Mbx → Mbx) : (s.onMb f).dl = s.dl := rfl
@[simp] theorem onMb_mb (f : Mbx → Mbx) : (s.onMb f).mb = f s.mb := rfl
@[simp] theorem onMb_cs (f : Mbx → Mbx) : (s.onMb f).cs = s.cs := rfl
@[simp] theorem onMb_net (f : Mbx → Mbx) : (s.onMb f).net = s.net := rfl
@[simp] theorem onMb_grn (f : Mbx → Mbx) : (s.onMb f).grn = s.grn := rfl
@[simp] theorem onMb_th (f : Mbx → Mbx) : (s.onMb f).th = s.th := rfl
@[simp] theorem onMb_efl (f : Mbx → Mbx) : (s.onMb f).efl = s.efl := rfl
@[simp] theorem onMb_rdW (f : Mbx → Mbx) (j : Nat) : (s.onMb f).rdW j = s.rdW j := rfl
@[simp] theorem onMb_rd (f : Mbx → Mbx) (g : Fld) : (s.onMb f).rd g = s.rd g := rfl
@[simp] theorem onMb_on (f : Mbx → Mbx) (g : Fld) : (s.onMb f).on g = s.on g := rfl
@[simp] theorem onMb_bitOf (f : Mbx → Mbx) (g : Fld) (i : Nat) : (s.onMb f).bitOf g i = s.bitOf g i := rfl
@[simp] theorem onPw_pending (f : Power → Power) : (s.onPw f).pending = s.pending := rfl
@[simp] theorem onPw_clk (f : Power → Power) : (s.onPw f).clk = s.clk := rfl
@[simp] theorem onPw_csr (f : Power → Power) : (s.onPw f).csr = s.csr := rfl
@[simp] theorem onPw_shadow (f : Power → Power) : (s.onPw f).shadow = s.shadow := rfl
@[simp] theorem onPw_fresh (f : Power → Power) : (s.onPw f).fresh = s.fresh := rfl
@[simp] theorem onPw_out (f : Power → Power) : (s.onPw f).out = s.out := rfl
@[simp] theorem onPw_stamps (f : Power → Power) : (s.onPw f).stamps = s.stamps := rfl
@[simp] theorem onPw_rcd (f : Power → Power) : (s.onPw f).rcd = s.rcd := rfl
@[simp] theorem onPw_fab (f : Power → Power) : (s.onPw f).fab = s.fab := rfl
@[simp] theorem onPw_nc (f : Power → Power) : (s.onPw f).nc = s.nc := rfl
@[simp] theorem onPw_dr (f : Power → Power) : (s.onPw f).dr = s.dr := rfl
@[simp] theorem onPw_win (f : Power → Power) : (s.onPw f).win = s.win := rfl
@[simp] theorem onPw_hp (f : Power → Power) : (s.onPw f).hp = s.hp := rfl
@[simp] theorem onPw_fur (f : Power → Power) : (s.onPw f).fur = s.fur := rfl
@[simp] theorem onPw_hv (f : Power → Power) : (s.onPw f).hv = s.hv := rfl
@[simp] theorem onPw_cph (f : Power → Power) : (s.onPw f).cph = s.cph := rfl
@[simp] theorem onPw_pw (f : Power → Power) : (s.onPw f).pw = f s.pw := rfl
@[simp] theorem onPw_rs (f : Power → Power) : (s.onPw f).rs = s.rs := rfl
@[simp] theorem onPw_yk (f : Power → Power) : (s.onPw f).yk = s.yk := rfl
@[simp] theorem onPw_dl (f : Power → Power) : (s.onPw f).dl = s.dl := rfl
@[simp] theorem onPw_mb (f : Power → Power) : (s.onPw f).mb = s.mb := rfl
@[simp] theorem onPw_cs (f : Power → Power) : (s.onPw f).cs = s.cs := rfl
@[simp] theorem onPw_net (f : Power → Power) : (s.onPw f).net = s.net := rfl
@[simp] theorem onPw_grn (f : Power → Power) : (s.onPw f).grn = s.grn := rfl
@[simp] theorem onPw_th (f : Power → Power) : (s.onPw f).th = s.th := rfl
@[simp] theorem onPw_efl (f : Power → Power) : (s.onPw f).efl = s.efl := rfl
@[simp] theorem onPw_rdW (f : Power → Power) (j : Nat) : (s.onPw f).rdW j = s.rdW j := rfl
@[simp] theorem onPw_rd (f : Power → Power) (g : Fld) : (s.onPw f).rd g = s.rd g := rfl
@[simp] theorem onPw_on (f : Power → Power) (g : Fld) : (s.onPw f).on g = s.on g := rfl
@[simp] theorem onPw_bitOf (f : Power → Power) (g : Fld) (i : Nat) : (s.onPw f).bitOf g i = s.bitOf g i := rfl
@[simp] theorem onHv_pending (f : Harvest → Harvest) : (s.onHv f).pending = s.pending := rfl
@[simp] theorem onHv_clk (f : Harvest → Harvest) : (s.onHv f).clk = s.clk := rfl
@[simp] theorem onHv_csr (f : Harvest → Harvest) : (s.onHv f).csr = s.csr := rfl
@[simp] theorem onHv_shadow (f : Harvest → Harvest) : (s.onHv f).shadow = s.shadow := rfl
@[simp] theorem onHv_fresh (f : Harvest → Harvest) : (s.onHv f).fresh = s.fresh := rfl
@[simp] theorem onHv_out (f : Harvest → Harvest) : (s.onHv f).out = s.out := rfl
@[simp] theorem onHv_stamps (f : Harvest → Harvest) : (s.onHv f).stamps = s.stamps := rfl
@[simp] theorem onHv_rcd (f : Harvest → Harvest) : (s.onHv f).rcd = s.rcd := rfl
@[simp] theorem onHv_fab (f : Harvest → Harvest) : (s.onHv f).fab = s.fab := rfl
@[simp] theorem onHv_nc (f : Harvest → Harvest) : (s.onHv f).nc = s.nc := rfl
@[simp] theorem onHv_dr (f : Harvest → Harvest) : (s.onHv f).dr = s.dr := rfl
@[simp] theorem onHv_win (f : Harvest → Harvest) : (s.onHv f).win = s.win := rfl
@[simp] theorem onHv_hp (f : Harvest → Harvest) : (s.onHv f).hp = s.hp := rfl
@[simp] theorem onHv_fur (f : Harvest → Harvest) : (s.onHv f).fur = s.fur := rfl
@[simp] theorem onHv_hv (f : Harvest → Harvest) : (s.onHv f).hv = f s.hv := rfl
@[simp] theorem onHv_cph (f : Harvest → Harvest) : (s.onHv f).cph = s.cph := rfl
@[simp] theorem onHv_pw (f : Harvest → Harvest) : (s.onHv f).pw = s.pw := rfl
@[simp] theorem onHv_rs (f : Harvest → Harvest) : (s.onHv f).rs = s.rs := rfl
@[simp] theorem onHv_yk (f : Harvest → Harvest) : (s.onHv f).yk = s.yk := rfl
@[simp] theorem onHv_dl (f : Harvest → Harvest) : (s.onHv f).dl = s.dl := rfl
@[simp] theorem onHv_mb (f : Harvest → Harvest) : (s.onHv f).mb = s.mb := rfl
@[simp] theorem onHv_cs (f : Harvest → Harvest) : (s.onHv f).cs = s.cs := rfl
@[simp] theorem onHv_net (f : Harvest → Harvest) : (s.onHv f).net = s.net := rfl
@[simp] theorem onHv_grn (f : Harvest → Harvest) : (s.onHv f).grn = s.grn := rfl
@[simp] theorem onHv_th (f : Harvest → Harvest) : (s.onHv f).th = s.th := rfl
@[simp] theorem onHv_efl (f : Harvest → Harvest) : (s.onHv f).efl = s.efl := rfl
@[simp] theorem onHv_rdW (f : Harvest → Harvest) (j : Nat) : (s.onHv f).rdW j = s.rdW j := rfl
@[simp] theorem onHv_rd (f : Harvest → Harvest) (g : Fld) : (s.onHv f).rd g = s.rd g := rfl
@[simp] theorem onHv_on (f : Harvest → Harvest) (g : Fld) : (s.onHv f).on g = s.on g := rfl
@[simp] theorem onHv_bitOf (f : Harvest → Harvest) (g : Fld) (i : Nat) : (s.onHv f).bitOf g i = s.bitOf g i := rfl
@[simp] theorem onRec_pending (f : Recorder → Recorder) : (s.onRec f).pending = s.pending := rfl
@[simp] theorem onRec_clk (f : Recorder → Recorder) : (s.onRec f).clk = s.clk := rfl
@[simp] theorem onRec_csr (f : Recorder → Recorder) : (s.onRec f).csr = s.csr := rfl
@[simp] theorem onRec_shadow (f : Recorder → Recorder) : (s.onRec f).shadow = s.shadow := rfl
@[simp] theorem onRec_fresh (f : Recorder → Recorder) : (s.onRec f).fresh = s.fresh := rfl
@[simp] theorem onRec_out (f : Recorder → Recorder) : (s.onRec f).out = s.out := rfl
@[simp] theorem onRec_stamps (f : Recorder → Recorder) : (s.onRec f).stamps = s.stamps := rfl
@[simp] theorem onRec_rcd (f : Recorder → Recorder) : (s.onRec f).rcd = f s.rcd := rfl
@[simp] theorem onRec_fab (f : Recorder → Recorder) : (s.onRec f).fab = s.fab := rfl
@[simp] theorem onRec_nc (f : Recorder → Recorder) : (s.onRec f).nc = s.nc := rfl
@[simp] theorem onRec_dr (f : Recorder → Recorder) : (s.onRec f).dr = s.dr := rfl
@[simp] theorem onRec_win (f : Recorder → Recorder) : (s.onRec f).win = s.win := rfl
@[simp] theorem onRec_hp (f : Recorder → Recorder) : (s.onRec f).hp = s.hp := rfl
@[simp] theorem onRec_fur (f : Recorder → Recorder) : (s.onRec f).fur = s.fur := rfl
@[simp] theorem onRec_hv (f : Recorder → Recorder) : (s.onRec f).hv = s.hv := rfl
@[simp] theorem onRec_cph (f : Recorder → Recorder) : (s.onRec f).cph = s.cph := rfl
@[simp] theorem onRec_pw (f : Recorder → Recorder) : (s.onRec f).pw = s.pw := rfl
@[simp] theorem onRec_rs (f : Recorder → Recorder) : (s.onRec f).rs = s.rs := rfl
@[simp] theorem onRec_yk (f : Recorder → Recorder) : (s.onRec f).yk = s.yk := rfl
@[simp] theorem onRec_dl (f : Recorder → Recorder) : (s.onRec f).dl = s.dl := rfl
@[simp] theorem onRec_mb (f : Recorder → Recorder) : (s.onRec f).mb = s.mb := rfl
@[simp] theorem onRec_cs (f : Recorder → Recorder) : (s.onRec f).cs = s.cs := rfl
@[simp] theorem onRec_net (f : Recorder → Recorder) : (s.onRec f).net = s.net := rfl
@[simp] theorem onRec_grn (f : Recorder → Recorder) : (s.onRec f).grn = s.grn := rfl
@[simp] theorem onRec_th (f : Recorder → Recorder) : (s.onRec f).th = s.th := rfl
@[simp] theorem onRec_efl (f : Recorder → Recorder) : (s.onRec f).efl = s.efl := rfl
@[simp] theorem onRec_rdW (f : Recorder → Recorder) (j : Nat) : (s.onRec f).rdW j = s.rdW j := rfl
@[simp] theorem onRec_rd (f : Recorder → Recorder) (g : Fld) : (s.onRec f).rd g = s.rd g := rfl
@[simp] theorem onRec_on (f : Recorder → Recorder) (g : Fld) : (s.onRec f).on g = s.on g := rfl
@[simp] theorem onRec_bitOf (f : Recorder → Recorder) (g : Fld) (i : Nat) : (s.onRec f).bitOf g i = s.bitOf g i := rfl
@[simp] theorem onRs_pending (f : Resets → Resets) : (s.onRs f).pending = s.pending := rfl
@[simp] theorem onRs_clk (f : Resets → Resets) : (s.onRs f).clk = s.clk := rfl
@[simp] theorem onRs_csr (f : Resets → Resets) : (s.onRs f).csr = s.csr := rfl
@[simp] theorem onRs_shadow (f : Resets → Resets) : (s.onRs f).shadow = s.shadow := rfl
@[simp] theorem onRs_fresh (f : Resets → Resets) : (s.onRs f).fresh = s.fresh := rfl
@[simp] theorem onRs_out (f : Resets → Resets) : (s.onRs f).out = s.out := rfl
@[simp] theorem onRs_stamps (f : Resets → Resets) : (s.onRs f).stamps = s.stamps := rfl
@[simp] theorem onRs_rcd (f : Resets → Resets) : (s.onRs f).rcd = s.rcd := rfl
@[simp] theorem onRs_fab (f : Resets → Resets) : (s.onRs f).fab = s.fab := rfl
@[simp] theorem onRs_nc (f : Resets → Resets) : (s.onRs f).nc = s.nc := rfl
@[simp] theorem onRs_dr (f : Resets → Resets) : (s.onRs f).dr = s.dr := rfl
@[simp] theorem onRs_win (f : Resets → Resets) : (s.onRs f).win = s.win := rfl
@[simp] theorem onRs_hp (f : Resets → Resets) : (s.onRs f).hp = s.hp := rfl
@[simp] theorem onRs_fur (f : Resets → Resets) : (s.onRs f).fur = s.fur := rfl
@[simp] theorem onRs_hv (f : Resets → Resets) : (s.onRs f).hv = s.hv := rfl
@[simp] theorem onRs_cph (f : Resets → Resets) : (s.onRs f).cph = s.cph := rfl
@[simp] theorem onRs_pw (f : Resets → Resets) : (s.onRs f).pw = s.pw := rfl
@[simp] theorem onRs_rs (f : Resets → Resets) : (s.onRs f).rs = f s.rs := rfl
@[simp] theorem onRs_yk (f : Resets → Resets) : (s.onRs f).yk = s.yk := rfl
@[simp] theorem onRs_dl (f : Resets → Resets) : (s.onRs f).dl = s.dl := rfl
@[simp] theorem onRs_mb (f : Resets → Resets) : (s.onRs f).mb = s.mb := rfl
@[simp] theorem onRs_cs (f : Resets → Resets) : (s.onRs f).cs = s.cs := rfl
@[simp] theorem onRs_net (f : Resets → Resets) : (s.onRs f).net = s.net := rfl
@[simp] theorem onRs_grn (f : Resets → Resets) : (s.onRs f).grn = s.grn := rfl
@[simp] theorem onRs_th (f : Resets → Resets) : (s.onRs f).th = s.th := rfl
@[simp] theorem onRs_efl (f : Resets → Resets) : (s.onRs f).efl = s.efl := rfl
@[simp] theorem onRs_rdW (f : Resets → Resets) (j : Nat) : (s.onRs f).rdW j = s.rdW j := rfl
@[simp] theorem onRs_rd (f : Resets → Resets) (g : Fld) : (s.onRs f).rd g = s.rd g := rfl
@[simp] theorem onRs_on (f : Resets → Resets) (g : Fld) : (s.onRs f).on g = s.on g := rfl
@[simp] theorem onRs_bitOf (f : Resets → Resets) (g : Fld) (i : Nat) : (s.onRs f).bitOf g i = s.bitOf g i := rfl
@[simp] theorem onTh_pending (f : Tithe → Tithe) : (s.onTh f).pending = s.pending := rfl
@[simp] theorem onTh_clk (f : Tithe → Tithe) : (s.onTh f).clk = s.clk := rfl
@[simp] theorem onTh_csr (f : Tithe → Tithe) : (s.onTh f).csr = s.csr := rfl
@[simp] theorem onTh_shadow (f : Tithe → Tithe) : (s.onTh f).shadow = s.shadow := rfl
@[simp] theorem onTh_fresh (f : Tithe → Tithe) : (s.onTh f).fresh = s.fresh := rfl
@[simp] theorem onTh_out (f : Tithe → Tithe) : (s.onTh f).out = s.out := rfl
@[simp] theorem onTh_stamps (f : Tithe → Tithe) : (s.onTh f).stamps = s.stamps := rfl
@[simp] theorem onTh_rcd (f : Tithe → Tithe) : (s.onTh f).rcd = s.rcd := rfl
@[simp] theorem onTh_fab (f : Tithe → Tithe) : (s.onTh f).fab = s.fab := rfl
@[simp] theorem onTh_nc (f : Tithe → Tithe) : (s.onTh f).nc = s.nc := rfl
@[simp] theorem onTh_dr (f : Tithe → Tithe) : (s.onTh f).dr = s.dr := rfl
@[simp] theorem onTh_win (f : Tithe → Tithe) : (s.onTh f).win = s.win := rfl
@[simp] theorem onTh_hp (f : Tithe → Tithe) : (s.onTh f).hp = s.hp := rfl
@[simp] theorem onTh_fur (f : Tithe → Tithe) : (s.onTh f).fur = s.fur := rfl
@[simp] theorem onTh_hv (f : Tithe → Tithe) : (s.onTh f).hv = s.hv := rfl
@[simp] theorem onTh_cph (f : Tithe → Tithe) : (s.onTh f).cph = s.cph := rfl
@[simp] theorem onTh_pw (f : Tithe → Tithe) : (s.onTh f).pw = s.pw := rfl
@[simp] theorem onTh_rs (f : Tithe → Tithe) : (s.onTh f).rs = s.rs := rfl
@[simp] theorem onTh_yk (f : Tithe → Tithe) : (s.onTh f).yk = s.yk := rfl
@[simp] theorem onTh_dl (f : Tithe → Tithe) : (s.onTh f).dl = s.dl := rfl
@[simp] theorem onTh_mb (f : Tithe → Tithe) : (s.onTh f).mb = s.mb := rfl
@[simp] theorem onTh_cs (f : Tithe → Tithe) : (s.onTh f).cs = s.cs := rfl
@[simp] theorem onTh_net (f : Tithe → Tithe) : (s.onTh f).net = s.net := rfl
@[simp] theorem onTh_grn (f : Tithe → Tithe) : (s.onTh f).grn = s.grn := rfl
@[simp] theorem onTh_th (f : Tithe → Tithe) : (s.onTh f).th = f s.th := rfl
@[simp] theorem onTh_efl (f : Tithe → Tithe) : (s.onTh f).efl = s.efl := rfl
@[simp] theorem onTh_rdW (f : Tithe → Tithe) (j : Nat) : (s.onTh f).rdW j = s.rdW j := rfl
@[simp] theorem onTh_rd (f : Tithe → Tithe) (g : Fld) : (s.onTh f).rd g = s.rd g := rfl
@[simp] theorem onTh_on (f : Tithe → Tithe) (g : Fld) : (s.onTh f).on g = s.on g := rfl
@[simp] theorem onTh_bitOf (f : Tithe → Tithe) (g : Fld) (i : Nat) : (s.onTh f).bitOf g i = s.bitOf g i := rfl

end Sys2Proof.Machine
end

