-- ==== Sys2Proof/Laws/Ops.lean ====
section
/-!
SUPPORT. Laws/Ops.lean: what each shared operation of Machine/Ops.lean and Machine/Access.lean can do, said once.
-/
namespace Sys2Proof.Machine
open Sys2Proof

variable (s t u : State)

/-! ## Frames of the registers -/

theorem RegsBut.refl (l : List Nat) : RegsBut l s s := fun _ _ => rfl

theorem RegsBut.trans {s t u : State} {l : List Nat} (h1 : RegsBut l s t) (h2 : RegsBut l t u) : RegsBut l s u :=
  fun k hk => (h2 k hk).trans (h1 k hk)

theorem RegsBut.mono {s t : State} {l m : List Nat} (h : RegsBut l s t) (hs : ∀ k ∈ l, k ∈ m) : RegsBut m s t :=
  fun k hk => h k fun hl => hk (hs k hl)

theorem regsBut_wrW (k : Nat) (v : Word64) : RegsBut [k] s (s.wrW k v) := fun j hj => rdW_wrW_ne s v (by simpa using hj)

theorem regsBut_wr (f : Fld) (v : Nat) : RegsBut [f.addr] s (s.wr f v) := regsBut_wrW s _ _

/-! ## Changes of the registers alone -/

theorem CsrOnly.refl : CsrOnly s s := rfl

theorem csrOnly_of_eq {s t : State} {c : SMap Word64} (h : t = { s with csr := c }) : CsrOnly s t := by subst h; rfl

theorem CsrOnly.trans {s t u : State} (h1 : CsrOnly s t) (h2 : CsrOnly t u) : CsrOnly s u := by
  unfold CsrOnly at h1; rw [h1] at h2; exact csrOnly_of_eq h2

theorem csrOnly_wrW (k : Nat) (v : Word64) : CsrOnly s (s.wrW k v) := rfl
theorem csrOnly_wr (f : Fld) (v : Nat) : CsrOnly s (s.wr f v) := rfl
theorem csrOnly_bump (f : Fld) : CsrOnly s (s.bump f) := rfl
theorem csrOnly_wrBit (f : Fld) (b : Nat) (v : Bool) : CsrOnly s (s.wrBit f b v) := rfl

theorem CsrOnly.wr {s t : State} (h : CsrOnly s t) (f : Fld) (v : Nat) : CsrOnly s (t.wr f v) := h.trans (csrOnly_wr _ _ _)
theorem CsrOnly.bump {s t : State} (h : CsrOnly s t) (f : Fld) : CsrOnly s (t.bump f) := h.trans (csrOnly_bump _ _)

theorem recOnly_of_eq {s t : State} {c : SMap Word64} {r : Recorder} (h : t = { s with csr := c, rcd := r }) : RecOnly s t := by
  subst h; rfl

theorem RecOnly.trans {s t u : State} (h1 : RecOnly s t) (h2 : RecOnly t u) : RecOnly s u := by
  unfold RecOnly at h1; rw [h1] at h2; exact recOnly_of_eq h2

theorem CsrOnly.toRec {s t : State} (h : CsrOnly s t) : RecOnly s t := by
  unfold CsrOnly at h; rw [h]; rfl

/-! ## Records and raises -/

/-- A new record touches the recorder and its status registers only. -/
theorem record_frame (ty src : Nat) (pay : List Byte) : RecOnly s (s.record ty src pay) := by
  unfold State.record; split <;> exact rfl

theorem regsBut_record (ty src : Nat) (pay : List Byte) : RegsBut recKeys s (s.record ty src pay) := by
  intro k hk
  have h1 : k ≠ REC_STS := fun e => hk (by simp [recKeys, e])
  have h2 : k ≠ REC_LOST := fun e => hk (by simp [recKeys, e])
  unfold State.record; split
  · exact rdW_wr_ne _ _ h1
  · exact rdW_wr_ne _ _ h2

/-- With room in the input queue the record enters it with the timestamp of that instant. -/
theorem record_queue (ty src : Nat) (pay : List Byte) (h : s.rcd.queue.length < 128) :
    (s.record ty src pay).rcd.queue = s.rcd.queue ++ [⟨ty, src, s.stampTime, pay⟩] := by
  simp [State.record, h]

/-- A raise without its record touches registers only. -/
theorem raiseQuiet_frame (w bit sub : Nat) : CsrOnly s (s.raiseQuiet w bit sub) := by
  have h := (csrOnly_wrBit s (FLT_STS_CAUSE w) bit true).bump (FLT_CNT_COUNT w)
  unfold State.raiseQuiet; dsimp only; split
  · exact h.bump _
  · exact ((((h.wr _ _).wr _ _).wr _ _).wr _ _).wr _ _

theorem raiseQuiet_rcd (w bit sub : Nat) : (s.raiseQuiet w bit sub).rcd = s.rcd := by
  have h := raiseQuiet_frame s w bit sub; unfold CsrOnly at h; rw [h]

theorem regsBut_raiseQuiet (w bit sub : Nat) : RegsBut (fltKeys w) s (s.raiseQuiet w bit sub) := by
  intro k hk
  have h1 : k ≠ FLT_STS w := fun e => hk (by simp [fltKeys, e])
  have h2 : k ≠ FLT_CNT w := fun e => hk (by simp [fltKeys, e])
  have h3 : k ≠ FLT_INFO w := fun e => hk (by simp [fltKeys, e])
  have a1 : ∀ (x : State) v, (x.wr (FLT_STS_CAUSE w) v).rdW k = x.rdW k := fun x v => rdW_wr_ne x v h1
  have a2 : ∀ (x : State) v, (x.wr (FLT_CNT_COUNT w) v).rdW k = x.rdW k := fun x v => rdW_wr_ne x v h2
  have a3 : ∀ (x : State) v, (x.wr (FLT_INFO_BIT w) v).rdW k = x.rdW k := fun x v => rdW_wr_ne x v h3
  have a4 : ∀ (x : State) v, (x.wr (FLT_INFO_SUB w) v).rdW k = x.rdW k := fun x v => rdW_wr_ne x v h3
  have a5 : ∀ (x : State) v, (x.wr (FLT_INFO_MERGED w) v).rdW k = x.rdW k := fun x v => rdW_wr_ne x v h3
  have a6 : ∀ (x : State) v, (x.wr (FLT_INFO_TIME w) v).rdW k = x.rdW k := fun x v => rdW_wr_ne x v h3
  have a7 : ∀ (x : State) v, (x.wr (FLT_INFO_VALID w) v).rdW k = x.rdW k := fun x v => rdW_wr_ne x v h3
  unfold State.raiseQuiet State.bump State.bumpBy State.wrBit
  dsimp only
  split <;> simp only [a1, a2, a3, a4, a5, a6, a7]

/-- A raise touches the window's fault registers and the recorder. -/
theorem raise_frame (w bit sub : Nat) : RecOnly s (s.raise w bit sub) := by
  unfold State.raise; dsimp only; split
  · exact (raiseQuiet_frame _ _ _ _).toRec
  · exact (raiseQuiet_frame _ _ _ _).toRec.trans (record_frame _ _ _ _)

theorem regsBut_raise (w bit sub : Nat) : RegsBut (fltKeys w ++ recKeys) s (s.raise w bit sub) := by
  unfold State.raise; dsimp only
  have h := (regsBut_raiseQuiet s w bit sub).mono (m := fltKeys w ++ recKeys) fun k hk => List.mem_append_left _ hk
  split
  · exact h
  · exact h.trans ((regsBut_record _ _ _ _).mono fun k hk => List.mem_append_right _ hk)

theorem raiseAs_frame (w bit sub ty : Nat) (pay : List Byte) : RecOnly s (s.raiseAs w bit sub ty pay) := by
  unfold State.raiseAs; dsimp only; split
  · exact (raiseQuiet_frame _ _ _ _).toRec
  · exact (raiseQuiet_frame _ _ _ _).toRec.trans (record_frame _ _ _ _)

theorem cond_frame (w bit sub : Nat) (p : Bool) : RecOnly s (s.cond w bit sub p) := by
  unfold State.cond; split
  · exact (csrOnly_wrBit _ _ _ _).toRec.trans (raise_frame _ _ _ _)
  · split
    · exact rfl
    · exact (csrOnly_wrBit _ _ _ _).toRec

/-- A raise sets its cause (R595). -/
theorem raiseQuiet_sets (w bit sub : Nat) (hb : bit < 32) : (s.raiseQuiet w bit sub).bitOf (FLT_STS_CAUSE w) bit = true := by
  have key : ∀ (x : State), (x.raiseQuiet w bit sub).rd (FLT_STS_CAUSE w) = (x.wrBit (FLT_STS_CAUSE w) bit true).rd (FLT_STS_CAUSE w) := by
    intro x
    have n1 : FLT_STS w ≠ FLT_CNT w := by simp [FLT_STS, FLT_CNT]
    have n2 : FLT_STS w ≠ FLT_INFO w := by simp [FLT_STS, FLT_INFO]
    have b1 : ∀ (y : State) v, (y.wr (FLT_CNT_COUNT w) v).rd (FLT_STS_CAUSE w) = y.rd (FLT_STS_CAUSE w) := fun y v => rd_wr_ne y v (.inl n1)
    have b2 : ∀ (y : State) v, (y.wr (FLT_INFO_BIT w) v).rd (FLT_STS_CAUSE w) = y.rd (FLT_STS_CAUSE w) := fun y v => rd_wr_ne y v (.inl n2)
    have b3 : ∀ (y : State) v, (y.wr (FLT_INFO_SUB w) v).rd (FLT_STS_CAUSE w) = y.rd (FLT_STS_CAUSE w) := fun y v => rd_wr_ne y v (.inl n2)
    have b4 : ∀ (y : State) v, (y.wr (FLT_INFO_MERGED w) v).rd (FLT_STS_CAUSE w) = y.rd (FLT_STS_CAUSE w) := fun y v => rd_wr_ne y v (.inl n2)
    have b5 : ∀ (y : State) v, (y.wr (FLT_INFO_TIME w) v).rd (FLT_STS_CAUSE w) = y.rd (FLT_STS_CAUSE w) := fun y v => rd_wr_ne y v (.inl n2)
    have b6 : ∀ (y : State) v, (y.wr (FLT_INFO_VALID w) v).rd (FLT_STS_CAUSE w) = y.rd (FLT_STS_CAUSE w) := fun y v => rd_wr_ne y v (.inl n2)
    unfold State.raiseQuiet State.bump State.bumpBy
    dsimp only
    split <;> simp only [b1, b2, b3, b4, b5, b6]
  unfold State.bitOf
  rw [key]
  unfold State.wrBit
  dsimp only
  rw [rd_wr_same _ _ _ (by simp [FLT_STS_CAUSE])]
  have hw : (FLT_STS_CAUSE w).width = 32 := rfl
  rw [hw, Nat.testBit_mod_two_pow, testBit_putBits, if_pos ⟨Nat.le_refl _, Nat.lt_succ_self _⟩]
  simp [hb]

/-! ## Accesses that are turned away -/

/-- An access turned away touches the fault registers of one window and the recorder (R599, R615). -/
theorem badAccess_frame (a : Agent) (wr wide : Bool) (reason addr : Nat) (v : Word64) :
    RecOnly s (s.badAccess a wr wide reason addr v) := by
  unfold State.badAccess; dsimp only
  split <;> exact (raiseQuiet_frame _ _ _ _).toRec.trans (record_frame _ _ _ _)

theorem regsBut_badAccess (a : Agent) (wr wide : Bool) (reason addr : Nat) (v : Word64) :
    RegsBut (fltKeys (badWin addr) ++ recKeys) s (s.badAccess a wr wide reason addr v) := by
  unfold State.badAccess badWin; dsimp only
  split <;> rename_i h <;> simp only [h, Option.getD] <;>
    exact ((regsBut_raiseQuiet _ _ _ _).mono fun k hk => List.mem_append_left _ hk).trans
      ((regsBut_record _ _ _ _).mono fun k hk => List.mem_append_right _ hk)

/-- With room in the input queue it leaves the BAD_ACCESS record of R615. -/
theorem badAccess_queue (a : Agent) (wr wide : Bool) (reason addr : Nat) (v : Word64) (h : s.rcd.queue.length < 128) :
    (s.badAccess a wr wide reason addr v).rcd.queue = s.rcd.queue ++ [badRec s a wr wide reason addr v] := by
  have ht : ∀ w, REC_TIME ≠ FLT_STS w → REC_TIME ≠ FLT_CNT w → REC_TIME ≠ FLT_INFO w → REC_TIME ≠ FLT_LIVE w →
      (s.raiseQuiet w 0 noSub).stampTime = s.stampTime := by
    intro w h1 h2 h3 h4
    unfold State.stampTime State.rd
    have : REC_TIME_TIME.addr = REC_TIME := rfl
    rw [this, regsBut_raiseQuiet s w 0 noSub REC_TIME (by simp [fltKeys, h1, h2, h3, h4])]
  have hw : ∀ w, (s.raiseQuiet w 0 noSub).stampTime = s.stampTime := by
    intro w
    apply ht <;> simp only [REC_TIME, FLT_STS, FLT_CNT, FLT_INFO, FLT_LIVE, ne_eq] <;> omega
  unfold State.badAccess badRec; dsimp only
  split <;> rename_i hi <;> rw [record_queue _ _ _ _ (by rw [raiseQuiet_rcd]; exact h), raiseQuiet_rcd, hw] <;> simp [hi]

/-! ## Accesses that reach their register -/

/-- A write that reaches its window is performed on the state without the requester's shadow (R17, R39, R42). -/
theorem atReg_reaches {s : State} {a : Agent} {addr : Nat} (v : Nat) (op : State → State) (h : s.reaches a addr = true) :
    s.atReg a addr v op = op (s.dropShadow a) := by
  unfold State.reaches at h
  unfold State.atReg
  dsimp only
  split at h
  · cases h
  · rename_i w hw
    have hp : (s.dropShadow a).powered w = true := by simpa [State.powered] using (Bool.and_eq_true .. ▸ h).2
    have hs : (a == Agent.sb && !sbWindow w) = false := by
      have h1 := (Bool.and_eq_true .. ▸ h).1
      revert h1; cases a <;> simp <;> decide
    simp [hw, hp, hs]

end Sys2Proof.Machine
end

