-- ==== Sys2Proof/Laws/PerInstr.lean ====
section
/-!
SUPPORT. Laws/PerInstr.lean: said of each command of the table: no word spells it, for the table gives no row any bits.
A command comes to the block through its queue alone.
-/
namespace Sys2Proof.Laws

/-- No word of any number of bits spells the command. -/
def WordFree.Statement (i : Instr) : Prop := ∀ nbits w, decodeTableWord nbits w ≠ some i

/-- A word spells nothing, so it does not spell this. -/
theorem WordFree.of_none (i : Instr) : WordFree.Statement i := fun _ _ h => nomatch h

theorem WordFree.ctrlRegWrite : ∀ x0 x1 x2 x3 x4, WordFree.Statement (.ctrlRegWrite x0 x1 x2 x3 x4) := fun _ _ _ _ _ => WordFree.of_none _
theorem WordFree.badWidthAccess : ∀ x0 x1 x2 x3 x4, WordFree.Statement (.badWidthAccess x0 x1 x2 x3 x4) := fun _ _ _ _ _ => WordFree.of_none _
theorem WordFree.lowHalfRead : ∀ x0 x1, WordFree.Statement (.lowHalfRead x0 x1) := fun _ _ => WordFree.of_none _
theorem WordFree.highHalfRead : ∀ x0 x1, WordFree.Statement (.highHalfRead x0 x1) := fun _ _ => WordFree.of_none _
theorem WordFree.unassignedAccess : ∀ x0 x1 x2 x3 x4, WordFree.Statement (.unassignedAccess x0 x1 x2 x3 x4) := fun _ _ _ _ _ => WordFree.of_none _
theorem WordFree.sidebandWindowDenied : ∀ x0 x1 x2 x3, WordFree.Statement (.sidebandWindowDenied x0 x1 x2 x3) := fun _ _ _ _ => WordFree.of_none _
theorem WordFree.poweredOffWindowAccess : ∀ x0 x1 x2 x3 x4, WordFree.Statement (.poweredOffWindowAccess x0 x1 x2 x3 x4) := fun _ _ _ _ _ => WordFree.of_none _
theorem WordFree.memWr : ∀ x0 x1 x2 x3 x4 x5 x6, WordFree.Statement (.memWr x0 x1 x2 x3 x4 x5 x6) := fun _ _ _ _ _ _ _ => WordFree.of_none _
theorem WordFree.memWrPtl : ∀ x0 x1 x2 x3 x4 x5 x6 x7, WordFree.Statement (.memWrPtl x0 x1 x2 x3 x4 x5 x6 x7) := fun _ _ _ _ _ _ _ _ => WordFree.of_none _
theorem WordFree.memRd : ∀ x0 x1 x2 x3 x4, WordFree.Statement (.memRd x0 x1 x2 x3 x4) := fun _ _ _ _ _ => WordFree.of_none _
theorem WordFree.memInv : ∀ x0 x1 x2, WordFree.Statement (.memInv x0 x1 x2) := fun _ _ _ => WordFree.of_none _
theorem WordFree.memClnEvct : ∀ x0 x1 x2, WordFree.Statement (.memClnEvct x0 x1 x2) := fun _ _ _ => WordFree.of_none _
theorem WordFree.memSpecRd : ∀ x0 x1 x2, WordFree.Statement (.memSpecRd x0 x1 x2) := fun _ _ _ => WordFree.of_none _
theorem WordFree.unsupportedM2sOpcode : ∀ x0 x1 x2, WordFree.Statement (.unsupportedM2sOpcode x0 x1 x2) := fun _ _ _ => WordFree.of_none _
theorem WordFree.tierEntryReturn : ∀ x0, WordFree.Statement (.tierEntryReturn x0) := fun _ => WordFree.of_none _
theorem WordFree.specDataReturn : ∀ x0, WordFree.Statement (.specDataReturn x0) := fun _ => WordFree.of_none _
theorem WordFree.lockWayFreed : ∀ x0 x1, WordFree.Statement (.lockWayFreed x0 x1) := fun _ _ => WordFree.of_none _
theorem WordFree.modifyAfterReads : ∀ x0 x1, WordFree.Statement (.modifyAfterReads x0 x1) := fun _ _ => WordFree.of_none _
theorem WordFree.mirrorWaitReadResume : ∀ x0 x1, WordFree.Statement (.mirrorWaitReadResume x0 x1) := fun _ _ => WordFree.of_none _
theorem WordFree.cbLineFreedWrite : ∀ x0 x1, WordFree.Statement (.cbLineFreedWrite x0 x1) := fun _ _ => WordFree.of_none _
theorem WordFree.workSteal : ∀ x0 x1, WordFree.Statement (.workSteal x0 x1) := fun _ _ => WordFree.of_none _
theorem WordFree.drainAgeExpiry : ∀ x0 x1, WordFree.Statement (.drainAgeExpiry x0 x1) := fun _ _ => WordFree.of_none _
theorem WordFree.frameReadyForDrain : ∀ x0 x1, WordFree.Statement (.frameReadyForDrain x0 x1) := fun _ _ => WordFree.of_none _
theorem WordFree.writeQueueAccept : ∀ x0, WordFree.Statement (.writeQueueAccept x0) := fun _ => WordFree.of_none _
theorem WordFree.tineFence : ∀ x0 x1 x2, WordFree.Statement (.tineFence x0 x1 x2) := fun _ _ _ => WordFree.of_none _
theorem WordFree.clusterFence : ∀ x0 x1, WordFree.Statement (.clusterFence x0 x1) := fun _ _ => WordFree.of_none _
theorem WordFree.fenceDrainEnd : ∀ x0, WordFree.Statement (.fenceDrainEnd x0) := fun _ => WordFree.of_none _
theorem WordFree.requestAbandon : ∀ x0, WordFree.Statement (.requestAbandon x0) := fun _ => WordFree.of_none _
theorem WordFree.tineUnfence : ∀ x0 x1 x2, WordFree.Statement (.tineUnfence x0 x1 x2) := fun _ _ _ => WordFree.of_none _
theorem WordFree.clusterUnfence : ∀ x0 x1, WordFree.Statement (.clusterUnfence x0 x1) := fun _ _ => WordFree.of_none _
theorem WordFree.hintFlush : ∀ x0 x1, WordFree.Statement (.hintFlush x0 x1) := fun _ _ => WordFree.of_none _
theorem WordFree.altPeakClr : ∀ x0, WordFree.Statement (.altPeakClr x0) := fun _ => WordFree.of_none _
theorem WordFree.cbUsePeakClr : ∀ x0 x1, WordFree.Statement (.cbUsePeakClr x0 x1) := fun _ _ => WordFree.of_none _
theorem WordFree.dpaLimitWrite : ∀ x0 x1, WordFree.Statement (.dpaLimitWrite x0 x1) := fun _ _ => WordFree.of_none _
theorem WordFree.worldLockSet : ∀ x0, WordFree.Statement (.worldLockSet x0) := fun _ => WordFree.of_none _
theorem WordFree.chkLastClear : ∀ x0, WordFree.Statement (.chkLastClear x0) := fun _ => WordFree.of_none _
theorem WordFree.rgnOpNone : ∀ x0 x1, WordFree.Statement (.rgnOpNone x0 x1) := fun _ _ => WordFree.of_none _
theorem WordFree.rgnLoad : ∀ x0 x1, WordFree.Statement (.rgnLoad x0 x1) := fun _ _ => WordFree.of_none _
theorem WordFree.rgnCommit : ∀ x0 x1, WordFree.Statement (.rgnCommit x0 x1) := fun _ _ => WordFree.of_none _
theorem WordFree.rgnDestroy : ∀ x0 x1, WordFree.Statement (.rgnDestroy x0 x1) := fun _ _ => WordFree.of_none _
theorem WordFree.rgnDrainEnd : WordFree.Statement .rgnDrainEnd := WordFree.of_none _
theorem WordFree.rgnReleaseEnd : WordFree.Statement .rgnReleaseEnd := WordFree.of_none _
theorem WordFree.bifurModeWrite : ∀ x0 x1 x2, WordFree.Statement (.bifurModeWrite x0 x1 x2) := fun _ _ _ => WordFree.of_none _
theorem WordFree.sublinkEnableChange : ∀ x0 x1 x2 x3, WordFree.Statement (.sublinkEnableChange x0 x1 x2 x3) := fun _ _ _ _ => WordFree.of_none _
theorem WordFree.linkRetrain : ∀ x0 x1 x2, WordFree.Statement (.linkRetrain x0 x1 x2) := fun _ _ _ => WordFree.of_none _
theorem WordFree.linkTrainDone : ∀ x0 x1 x2 x3 x4 x5, WordFree.Statement (.linkTrainDone x0 x1 x2 x3 x4 x5) := fun _ _ _ _ _ _ => WordFree.of_none _
theorem WordFree.linkModeFail : ∀ x0 x1, WordFree.Statement (.linkModeFail x0 x1) := fun _ _ => WordFree.of_none _
theorem WordFree.linkTrainRetryTimer : ∀ x0 x1, WordFree.Statement (.linkTrainRetryTimer x0 x1) := fun _ _ => WordFree.of_none _
theorem WordFree.linkRecovery : ∀ x0 x1 x2 x3 x4, WordFree.Statement (.linkRecovery x0 x1 x2 x3 x4) := fun _ _ _ _ _ => WordFree.of_none _
theorem WordFree.linkDown : ∀ x0 x1, WordFree.Statement (.linkDown x0 x1) := fun _ _ => WordFree.of_none _
theorem WordFree.sublinkFence : ∀ x0 x1 x2, WordFree.Statement (.sublinkFence x0 x1 x2) := fun _ _ _ => WordFree.of_none _
theorem WordFree.sublinkUnfence : ∀ x0 x1 x2, WordFree.Statement (.sublinkUnfence x0 x1 x2) := fun _ _ _ => WordFree.of_none _
theorem WordFree.devloadWrite : ∀ x0 x1 x2, WordFree.Statement (.devloadWrite x0 x1 x2) := fun _ _ _ => WordFree.of_none _
theorem WordFree.ldmbxWrite : ∀ x0 x1 x2, WordFree.Statement (.ldmbxWrite x0 x1 x2) := fun _ _ _ => WordFree.of_none _
theorem WordFree.perstAssert : ∀ x0 x1, WordFree.Statement (.perstAssert x0 x1) := fun _ _ => WordFree.of_none _
theorem WordFree.hotReset : ∀ x0 x1, WordFree.Statement (.hotReset x0 x1) := fun _ _ => WordFree.of_none _
theorem WordFree.functionLevelReset : ∀ x0 x1, WordFree.Statement (.functionLevelReset x0 x1) := fun _ _ => WordFree.of_none _
theorem WordFree.cxlReset : ∀ x0 x1, WordFree.Statement (.cxlReset x0 x1) := fun _ _ => WordFree.of_none _
theorem WordFree.cxlResetEnd : ∀ x0 x1, WordFree.Statement (.cxlResetEnd x0 x1) := fun _ _ => WordFree.of_none _
theorem WordFree.getLdInfo : ∀ x0, WordFree.Statement (.getLdInfo x0) := fun _ => WordFree.of_none _
theorem WordFree.getLdAllocations : ∀ x0, WordFree.Statement (.getLdAllocations x0) := fun _ => WordFree.of_none _
theorem WordFree.fmApiUnsupported : ∀ x0 x1, WordFree.Statement (.fmApiUnsupported x0 x1) := fun _ _ => WordFree.of_none _
theorem WordFree.hdmDecoderCommit : ∀ x0 x1 x2 x3, WordFree.Statement (.hdmDecoderCommit x0 x1 x2 x3) := fun _ _ _ _ => WordFree.of_none _
theorem WordFree.dcEventRaise : ∀ x0, WordFree.Statement (.dcEventRaise x0) := fun _ => WordFree.of_none _
theorem WordFree.gpfPhase2 : ∀ x0 x1, WordFree.Statement (.gpfPhase2 x0 x1) := fun _ _ => WordFree.of_none _
theorem WordFree.missFillReturn : ∀ x0, WordFree.Statement (.missFillReturn x0) := fun _ => WordFree.of_none _
theorem WordFree.prefetchReturn : ∀ x0, WordFree.Statement (.prefetchReturn x0) := fun _ => WordFree.of_none _
theorem WordFree.rangeInvalidate : ∀ x0, WordFree.Statement (.rangeInvalidate x0) := fun _ => WordFree.of_none _
theorem WordFree.wholeCacheInvalidate : ∀ x0, WordFree.Statement (.wholeCacheInvalidate x0) := fun _ => WordFree.of_none _
theorem WordFree.rangeInvEnd : ∀ x0, WordFree.Statement (.rangeInvEnd x0) := fun _ => WordFree.of_none _
theorem WordFree.zeroSweepEnd : ∀ x0, WordFree.Statement (.zeroSweepEnd x0) := fun _ => WordFree.of_none _
theorem WordFree.cacheEnWrite : ∀ x0 x1 x2, WordFree.Statement (.cacheEnWrite x0 x1 x2) := fun _ _ _ => WordFree.of_none _
theorem WordFree.ncBankFence : ∀ x0 x1, WordFree.Statement (.ncBankFence x0 x1) := fun _ _ => WordFree.of_none _
theorem WordFree.ncBankUnfence : ∀ x0 x1, WordFree.Statement (.ncBankUnfence x0 x1) := fun _ _ => WordFree.of_none _
theorem WordFree.dramReadReturn : ∀ x0 x1, WordFree.Statement (.dramReadReturn x0 x1) := fun _ _ => WordFree.of_none _
theorem WordFree.refreshInterval : ∀ x0 x1 x2, WordFree.Statement (.refreshInterval x0 x1 x2) := fun _ _ _ => WordFree.of_none _
theorem WordFree.mr4Poll : ∀ x0 x1, WordFree.Statement (.mr4Poll x0 x1) := fun _ _ => WordFree.of_none _
theorem WordFree.refreshMakeupBurst : ∀ x0 x1, WordFree.Statement (.refreshMakeupBurst x0 x1) := fun _ _ => WordFree.of_none _
theorem WordFree.requestAged : ∀ x0 x1, WordFree.Statement (.requestAged x0 x1) := fun _ _ => WordFree.of_none _
theorem WordFree.rowIdlePrecharge : ∀ x0 x1, WordFree.Statement (.rowIdlePrecharge x0 x1) := fun _ _ => WordFree.of_none _
theorem WordFree.caParityAlert : ∀ x0 x1, WordFree.Statement (.caParityAlert x0 x1) := fun _ _ => WordFree.of_none _
theorem WordFree.panicRaise : ∀ x0, WordFree.Statement (.panicRaise x0) := fun _ => WordFree.of_none _
theorem WordFree.panicFall : ∀ x0, WordFree.Statement (.panicFall x0) := fun _ => WordFree.of_none _
theorem WordFree.srEnterRequest : ∀ x0 x1, WordFree.Statement (.srEnterRequest x0 x1) := fun _ _ => WordFree.of_none _
theorem WordFree.srIdleEntry : ∀ x0, WordFree.Statement (.srIdleEntry x0) := fun _ => WordFree.of_none _
theorem WordFree.srExitRequest : ∀ x0 x1, WordFree.Statement (.srExitRequest x0 x1) := fun _ _ => WordFree.of_none _
theorem WordFree.mrWrite : ∀ x0 x1 x2, WordFree.Statement (.mrWrite x0 x1 x2) := fun _ _ _ => WordFree.of_none _
theorem WordFree.mrRead : ∀ x0 x1 x2 x3, WordFree.Statement (.mrRead x0 x1 x2 x3) := fun _ _ _ _ => WordFree.of_none _
theorem WordFree.mpcCommand : ∀ x0 x1 x2, WordFree.Statement (.mpcCommand x0 x1 x2) := fun _ _ _ => WordFree.of_none _
theorem WordFree.trainingReadCompare : ∀ x0 x1 x2 x3, WordFree.Statement (.trainingReadCompare x0 x1 x2 x3) := fun _ _ _ _ => WordFree.of_none _
theorem WordFree.delayApply : ∀ x0 x1, WordFree.Statement (.delayApply x0 x1) := fun _ _ => WordFree.of_none _
theorem WordFree.delayShadowLoad : ∀ x0, WordFree.Statement (.delayShadowLoad x0) := fun _ => WordFree.of_none _
theorem WordFree.channelActivate : ∀ x0 x1, WordFree.Statement (.channelActivate x0 x1) := fun _ _ => WordFree.of_none _
theorem WordFree.oscillatorDriftCheck : ∀ x0 x1 x2 x3, WordFree.Statement (.oscillatorDriftCheck x0 x1 x2 x3) := fun _ _ _ _ => WordFree.of_none _
theorem WordFree.harrowPatrolRead : ∀ x0, WordFree.Statement (.harrowPatrolRead x0) := fun _ => WordFree.of_none _
theorem WordFree.rankFence : ∀ x0 x1 x2, WordFree.Statement (.rankFence x0 x1 x2) := fun _ _ _ => WordFree.of_none _
theorem WordFree.channelFence : ∀ x0 x1, WordFree.Statement (.channelFence x0 x1) := fun _ _ => WordFree.of_none _
theorem WordFree.evacuationEnd : ∀ x0 x1, WordFree.Statement (.evacuationEnd x0 x1) := fun _ _ => WordFree.of_none _
theorem WordFree.dramUnfence : ∀ x0 x1, WordFree.Statement (.dramUnfence x0 x1) := fun _ _ => WordFree.of_none _
theorem WordFree.epochStart : WordFree.Statement .epochStart := WordFree.of_none _
theorem WordFree.epochEnd : WordFree.Statement .epochEnd := WordFree.of_none _
theorem WordFree.flashDataStaged : ∀ x0, WordFree.Statement (.flashDataStaged x0) := fun _ => WordFree.of_none _
theorem WordFree.demotionStart : WordFree.Statement .demotionStart := WordFree.of_none _
theorem WordFree.ceilingDemotion : ∀ x0, WordFree.Statement (.ceilingDemotion x0) := fun _ => WordFree.of_none _
theorem WordFree.cleaningStart : WordFree.Statement .cleaningStart := WordFree.of_none _
theorem WordFree.frameMoveStart : ∀ x0 x1, WordFree.Statement (.frameMoveStart x0 x1) := fun _ _ => WordFree.of_none _
theorem WordFree.moveCopyDone : ∀ x0 x1 x2, WordFree.Statement (.moveCopyDone x0 x1 x2) := fun _ _ _ => WordFree.of_none _
theorem WordFree.moveSwitch : ∀ x0, WordFree.Statement (.moveSwitch x0) := fun _ => WordFree.of_none _
theorem WordFree.poisonPageFinalize : ∀ x0, WordFree.Statement (.poisonPageFinalize x0) := fun _ => WordFree.of_none _
theorem WordFree.metaRebuildDone : WordFree.Statement .metaRebuildDone := WordFree.of_none _
theorem WordFree.pinOp : ∀ x0, WordFree.Statement (.pinOp x0) := fun _ => WordFree.of_none _
theorem WordFree.unpinOp : ∀ x0, WordFree.Statement (.unpinOp x0) := fun _ => WordFree.of_none _
theorem WordFree.pinOpNone : ∀ x0 x1, WordFree.Statement (.pinOpNone x0 x1) := fun _ _ => WordFree.of_none _
theorem WordFree.pinOpDone : WordFree.Statement .pinOpDone := WordFree.of_none _
theorem WordFree.pinLoadDone : ∀ x0, WordFree.Statement (.pinLoadDone x0) := fun _ => WordFree.of_none _
theorem WordFree.regionPolicyWrite : ∀ x0 x1 x2, WordFree.Statement (.regionPolicyWrite x0 x1 x2) := fun _ _ _ => WordFree.of_none _
theorem WordFree.governorAdmit : ∀ x0, WordFree.Statement (.governorAdmit x0) := fun _ => WordFree.of_none _
theorem WordFree.governorRecompute : WordFree.Statement .governorRecompute := WordFree.of_none _
theorem WordFree.stripeProgramDone : ∀ x0 x1 x2, WordFree.Statement (.stripeProgramDone x0 x1 x2) := fun _ _ _ => WordFree.of_none _
theorem WordFree.slotReadReturn : ∀ x0 x1 x2, WordFree.Statement (.slotReadReturn x0 x1 x2) := fun _ _ _ => WordFree.of_none _
theorem WordFree.demandSuspend : ∀ x0, WordFree.Statement (.demandSuspend x0) := fun _ => WordFree.of_none _
theorem WordFree.suspendedOpResume : ∀ x0, WordFree.Statement (.suspendedOpResume x0) := fun _ => WordFree.of_none _
theorem WordFree.gcStart : ∀ x0, WordFree.Statement (.gcStart x0) := fun _ => WordFree.of_none _
theorem WordFree.relocationCas : ∀ x0, WordFree.Statement (.relocationCas x0) := fun _ => WordFree.of_none _
theorem WordFree.superblockErase : ∀ x0, WordFree.Statement (.superblockErase x0) := fun _ => WordFree.of_none _
theorem WordFree.wearLevel : WordFree.Statement .wearLevel := WordFree.of_none _
theorem WordFree.retentionScan : ∀ x0, WordFree.Statement (.retentionScan x0) := fun _ => WordFree.of_none _
theorem WordFree.lunReadyTimeout : ∀ x0, WordFree.Statement (.lunReadyTimeout x0) := fun _ => WordFree.of_none _
theorem WordFree.lunRetire : ∀ x0 x1 x2, WordFree.Statement (.lunRetire x0 x1 x2) := fun _ _ _ => WordFree.of_none _
theorem WordFree.rebuildDone : WordFree.Statement .rebuildDone := WordFree.of_none _
theorem WordFree.flashChannelFence : ∀ x0 x1, WordFree.Statement (.flashChannelFence x0 x1) := fun _ _ => WordFree.of_none _
theorem WordFree.flashChannelUnfence : ∀ x0 x1, WordFree.Statement (.flashChannelUnfence x0 x1) := fun _ _ => WordFree.of_none _
theorem WordFree.lunUnfence : ∀ x0 x1 x2, WordFree.Statement (.lunUnfence x0 x1 x2) := fun _ _ _ => WordFree.of_none _
theorem WordFree.onfiCommandByte : ∀ x0 x1 x2 x3, WordFree.Statement (.onfiCommandByte x0 x1 x2 x3) := fun _ _ _ _ => WordFree.of_none _
theorem WordFree.onfiAddressByte : ∀ x0 x1 x2 x3, WordFree.Statement (.onfiAddressByte x0 x1 x2 x3) := fun _ _ _ _ => WordFree.of_none _
theorem WordFree.onfiDataOut : ∀ x0 x1 x2 x3, WordFree.Statement (.onfiDataOut x0 x1 x2 x3) := fun _ _ _ _ => WordFree.of_none _
theorem WordFree.onfiDataIn : ∀ x0 x1 x2 x3 x4, WordFree.Statement (.onfiDataIn x0 x1 x2 x3 x4) := fun _ _ _ _ _ => WordFree.of_none _
theorem WordFree.onfiWaitReady : ∀ x0 x1 x2, WordFree.Statement (.onfiWaitReady x0 x1 x2) := fun _ _ _ => WordFree.of_none _
theorem WordFree.onfiDelayApply : ∀ x0 x1, WordFree.Statement (.onfiDelayApply x0 x1) := fun _ _ => WordFree.of_none _
theorem WordFree.furrowFormat : ∀ x0 x1, WordFree.Statement (.furrowFormat x0 x1) := fun _ _ => WordFree.of_none _
theorem WordFree.harvestStart : ∀ x0, WordFree.Statement (.harvestStart x0) := fun _ => WordFree.of_none _
theorem WordFree.plossDeglitched : WordFree.Statement .plossDeglitched := WordFree.of_none _
theorem WordFree.harvestCommandStart : ∀ x0, WordFree.Statement (.harvestCommandStart x0) := fun _ => WordFree.of_none _
theorem WordFree.harvestSeal : ∀ x0 x1 x2 x3, WordFree.Statement (.harvestSeal x0 x1 x2 x3) := fun _ _ _ _ => WordFree.of_none _
theorem WordFree.harvestStoreFail : ∀ x0 x1 x2, WordFree.Statement (.harvestStoreFail x0 x1 x2) := fun _ _ _ => WordFree.of_none _
theorem WordFree.fallowEnd : ∀ x0, WordFree.Statement (.fallowEnd x0) := fun _ => WordFree.of_none _
theorem WordFree.harvestConfigWrite : ∀ x0 x1 x2, WordFree.Statement (.harvestConfigWrite x0 x1 x2) := fun _ _ _ => WordFree.of_none _
theorem WordFree.harvestArmed : ∀ x0, WordFree.Statement (.harvestArmed x0) := fun _ => WordFree.of_none _
theorem WordFree.resowStart : ∀ x0 x1 x2 x3 x4, WordFree.Statement (.resowStart x0 x1 x2 x3 x4) := fun _ _ _ _ _ => WordFree.of_none _
theorem WordFree.resowSweep : WordFree.Statement .resowSweep := WordFree.of_none _
theorem WordFree.yokeFrameSend : ∀ x0, WordFree.Statement (.yokeFrameSend x0) := fun _ => WordFree.of_none _
theorem WordFree.yokeDataReceive : ∀ x0 x1, WordFree.Statement (.yokeDataReceive x0 x1) := fun _ _ => WordFree.of_none _
theorem WordFree.yokeAckReceive : ∀ x0 x1 x2, WordFree.Statement (.yokeAckReceive x0 x1 x2) := fun _ _ _ => WordFree.of_none _
theorem WordFree.yokeGapTimer : ∀ x0, WordFree.Statement (.yokeGapTimer x0) := fun _ => WordFree.of_none _
theorem WordFree.yokeRtoExpiry : ∀ x0 x1 x2, WordFree.Statement (.yokeRtoExpiry x0 x1 x2) := fun _ _ _ => WordFree.of_none _
theorem WordFree.yokeHeartbeat : ∀ x0 x1, WordFree.Statement (.yokeHeartbeat x0 x1) := fun _ _ => WordFree.of_none _
theorem WordFree.pathDownTimer : ∀ x0 x1, WordFree.Statement (.pathDownTimer x0 x1) := fun _ _ => WordFree.of_none _
theorem WordFree.pathRejoin : ∀ x0 x1, WordFree.Statement (.pathRejoin x0 x1) := fun _ _ => WordFree.of_none _
theorem WordFree.yokeStallTimer : ∀ x0, WordFree.Statement (.yokeStallTimer x0) := fun _ => WordFree.of_none _
theorem WordFree.yokeHelloReceive : ∀ x0 x1 x2 x3 x4 x5, WordFree.Statement (.yokeHelloReceive x0 x1 x2 x3 x4 x5) := fun _ _ _ _ _ _ => WordFree.of_none _
theorem WordFree.yokeHelloRspReceive : ∀ x0 x1 x2 x3 x4 x5 x6, WordFree.Statement (.yokeHelloRspReceive x0 x1 x2 x3 x4 x5 x6) := fun _ _ _ _ _ _ _ => WordFree.of_none _
theorem WordFree.yokeConfirmReceive : ∀ x0 x1 x2, WordFree.Statement (.yokeConfirmReceive x0 x1 x2) := fun _ _ _ => WordFree.of_none _
theorem WordFree.yokeHelloRepeat : ∀ x0, WordFree.Statement (.yokeHelloRepeat x0) := fun _ => WordFree.of_none _
theorem WordFree.yokeCloseReceive : ∀ x0 x1 x2, WordFree.Statement (.yokeCloseReceive x0 x1 x2) := fun _ _ _ => WordFree.of_none _
theorem WordFree.keygenRollover : ∀ x0, WordFree.Statement (.keygenRollover x0) := fun _ => WordFree.of_none _
theorem WordFree.healReqReceive : ∀ x0 x1 x2 x3 x4 x5 x6 x7, WordFree.Statement (.healReqReceive x0 x1 x2 x3 x4 x5 x6 x7) := fun _ _ _ _ _ _ _ _ => WordFree.of_none _
theorem WordFree.healRspReceive : ∀ x0 x1 x2 x3 x4, WordFree.Statement (.healRspReceive x0 x1 x2 x3 x4) := fun _ _ _ _ _ => WordFree.of_none _
theorem WordFree.healTimeout : ∀ x0, WordFree.Statement (.healTimeout x0) := fun _ => WordFree.of_none _
theorem WordFree.yokeMbxReceive : ∀ x0 x1 x2 x3, WordFree.Statement (.yokeMbxReceive x0 x1 x2 x3) := fun _ _ _ _ => WordFree.of_none _
theorem WordFree.yokeMbxAckReceive : ∀ x0 x1, WordFree.Statement (.yokeMbxAckReceive x0 x1) := fun _ _ => WordFree.of_none _
theorem WordFree.yokeMbxRepeat : ∀ x0, WordFree.Statement (.yokeMbxRepeat x0) := fun _ => WordFree.of_none _
theorem WordFree.roleResolve : ∀ x0 x1, WordFree.Statement (.roleResolve x0 x1) := fun _ _ => WordFree.of_none _
theorem WordFree.lagLimitResume : ∀ x0 x1, WordFree.Statement (.lagLimitResume x0 x1) := fun _ _ => WordFree.of_none _
theorem WordFree.granuleClearTimer : ∀ x0, WordFree.Statement (.granuleClearTimer x0) := fun _ => WordFree.of_none _
theorem WordFree.resilverGo : ∀ x0 x1, WordFree.Statement (.resilverGo x0 x1) := fun _ _ => WordFree.of_none _
theorem WordFree.resilverStop : ∀ x0, WordFree.Statement (.resilverStop x0) := fun _ => WordFree.of_none _
theorem WordFree.yokePairsWrite : ∀ x0 x1, WordFree.Statement (.yokePairsWrite x0 x1) := fun _ _ => WordFree.of_none _
theorem WordFree.drlWrite : ∀ x0 x1 x2, WordFree.Statement (.drlWrite x0 x1 x2) := fun _ _ _ => WordFree.of_none _
theorem WordFree.drlRead : ∀ x0 x1, WordFree.Statement (.drlRead x0 x1) := fun _ _ => WordFree.of_none _
theorem WordFree.drlAtomic : ∀ x0 x1 x2 x3, WordFree.Statement (.drlAtomic x0 x1 x2 x3) := fun _ _ _ _ => WordFree.of_none _
theorem WordFree.drlJob : ∀ x0 x1 x2, WordFree.Statement (.drlJob x0 x1 x2) := fun _ _ _ => WordFree.of_none _
theorem WordFree.drlJqRead : ∀ x0 x1, WordFree.Statement (.drlJqRead x0 x1) := fun _ _ => WordFree.of_none _
theorem WordFree.drlMbxReceive : ∀ x0 x1, WordFree.Statement (.drlMbxReceive x0 x1) := fun _ _ => WordFree.of_none _
theorem WordFree.drlErrorReceive : ∀ x0 x1 x2, WordFree.Statement (.drlErrorReceive x0 x1 x2) := fun _ _ _ => WordFree.of_none _
theorem WordFree.drlAckReceive : ∀ x0 x1 x2 x3, WordFree.Statement (.drlAckReceive x0 x1 x2 x3) := fun _ _ _ _ => WordFree.of_none _
theorem WordFree.drlKeepaliveReceive : ∀ x0, WordFree.Statement (.drlKeepaliveReceive x0) := fun _ => WordFree.of_none _
theorem WordFree.drlCloseReceive : ∀ x0 x1, WordFree.Statement (.drlCloseReceive x0 x1) := fun _ _ => WordFree.of_none _
theorem WordFree.drlHelloReceive : ∀ x0 x1 x2 x3 x4, WordFree.Statement (.drlHelloReceive x0 x1 x2 x3 x4) := fun _ _ _ _ _ => WordFree.of_none _
theorem WordFree.drlConfirmReceive : ∀ x0 x1 x2, WordFree.Statement (.drlConfirmReceive x0 x1 x2) := fun _ _ _ => WordFree.of_none _
theorem WordFree.orderedPresent : ∀ x0 x1, WordFree.Statement (.orderedPresent x0 x1) := fun _ _ => WordFree.of_none _
theorem WordFree.finalPresent : ∀ x0, WordFree.Statement (.finalPresent x0) := fun _ => WordFree.of_none _
theorem WordFree.drlAckSend : ∀ x0, WordFree.Statement (.drlAckSend x0) := fun _ => WordFree.of_none _
theorem WordFree.drlGapTimer : ∀ x0, WordFree.Statement (.drlGapTimer x0) := fun _ => WordFree.of_none _
theorem WordFree.drlRtoExpiry : ∀ x0 x1, WordFree.Statement (.drlRtoExpiry x0 x1) := fun _ _ => WordFree.of_none _
theorem WordFree.drlIdleTimeout : ∀ x0, WordFree.Statement (.drlIdleTimeout x0) := fun _ => WordFree.of_none _
theorem WordFree.drlOpeningTimeout : ∀ x0, WordFree.Statement (.drlOpeningTimeout x0) := fun _ => WordFree.of_none _
theorem WordFree.drlKeepaliveTimer : ∀ x0 x1, WordFree.Statement (.drlKeepaliveTimer x0 x1) := fun _ _ => WordFree.of_none _
theorem WordFree.drlCloseRepeat : ∀ x0, WordFree.Statement (.drlCloseRepeat x0) := fun _ => WordFree.of_none _
theorem WordFree.connOpen : ∀ x0 x1, WordFree.Statement (.connOpen x0 x1) := fun _ _ => WordFree.of_none _
theorem WordFree.connCloseOp : ∀ x0 x1, WordFree.Statement (.connCloseOp x0 x1) := fun _ _ => WordFree.of_none _
theorem WordFree.connSnapshot : ∀ x0 x1, WordFree.Statement (.connSnapshot x0 x1) := fun _ _ => WordFree.of_none _
theorem WordFree.drillPortRemove : ∀ x0 x1, WordFree.Statement (.drillPortRemove x0 x1) := fun _ _ => WordFree.of_none _
theorem WordFree.addressResolutionRx : ∀ x0 x1 x2, WordFree.Statement (.addressResolutionRx x0 x1 x2) := fun _ _ _ => WordFree.of_none _
theorem WordFree.netPortModeWrite : ∀ x0 x1 x2, WordFree.Statement (.netPortModeWrite x0 x1 x2) := fun _ _ _ => WordFree.of_none _
theorem WordFree.netPortRetrain : ∀ x0 x1, WordFree.Statement (.netPortRetrain x0 x1) := fun _ _ => WordFree.of_none _
theorem WordFree.netLinkUp : ∀ x0 x1 x2, WordFree.Statement (.netLinkUp x0 x1 x2) := fun _ _ _ => WordFree.of_none _
theorem WordFree.netLinkDown : ∀ x0 x1, WordFree.Statement (.netLinkDown x0 x1) := fun _ _ => WordFree.of_none _
theorem WordFree.netTrainFail : ∀ x0 x1, WordFree.Statement (.netTrainFail x0 x1) := fun _ _ => WordFree.of_none _
theorem WordFree.pfcFrameReceive : ∀ x0 x1 x2, WordFree.Statement (.pfcFrameReceive x0 x1 x2) := fun _ _ _ => WordFree.of_none _
theorem WordFree.jqBind : ∀ x0 x1 x2, WordFree.Statement (.jqBind x0 x1 x2) := fun _ _ _ => WordFree.of_none _
theorem WordFree.jqUnbind : ∀ x0 x1, WordFree.Statement (.jqUnbind x0 x1) := fun _ _ => WordFree.of_none _
theorem WordFree.jqUnboundReached : ∀ x0, WordFree.Statement (.jqUnboundReached x0) := fun _ => WordFree.of_none _
theorem WordFree.jobStart : ∀ x0, WordFree.Statement (.jobStart x0) := fun _ => WordFree.of_none _
theorem WordFree.jobComplete : WordFree.Statement .jobComplete := WordFree.of_none _
theorem WordFree.jobWaitTimeout : ∀ x0, WordFree.Statement (.jobWaitTimeout x0) := fun _ => WordFree.of_none _
theorem WordFree.jqReadTimeout : ∀ x0 x1, WordFree.Statement (.jqReadTimeout x0 x1) := fun _ _ => WordFree.of_none _
theorem WordFree.pushPacketSend : ∀ x0, WordFree.Statement (.pushPacketSend x0) := fun _ => WordFree.of_none _
theorem WordFree.jobAllocRetry : WordFree.Statement .jobAllocRetry := WordFree.of_none _
theorem WordFree.granaryAlloc : ∀ x0, WordFree.Statement (.granaryAlloc x0) := fun _ => WordFree.of_none _
theorem WordFree.granaryAddref : ∀ x0, WordFree.Statement (.granaryAddref x0) := fun _ => WordFree.of_none _
theorem WordFree.granaryRelease : ∀ x0, WordFree.Statement (.granaryRelease x0) := fun _ => WordFree.of_none _
theorem WordFree.granaryEnable : ∀ x0 x1, WordFree.Statement (.granaryEnable x0 x1) := fun _ _ => WordFree.of_none _
theorem WordFree.granaryReady : WordFree.Statement .granaryReady := WordFree.of_none _
theorem WordFree.granaryCountWrite : ∀ x0 x1, WordFree.Statement (.granaryCountWrite x0 x1) := fun _ _ => WordFree.of_none _
theorem WordFree.granaryMinWrite : ∀ x0 x1 x2, WordFree.Statement (.granaryMinWrite x0 x1 x2) := fun _ _ _ => WordFree.of_none _
theorem WordFree.keySlotLoad : ∀ x0 x1 x2, WordFree.Statement (.keySlotLoad x0 x1 x2) := fun _ _ _ => WordFree.of_none _
theorem WordFree.keySlotErase : ∀ x0 x1 x2, WordFree.Statement (.keySlotErase x0 x1 x2) := fun _ _ _ => WordFree.of_none _
theorem WordFree.keySlotForget : ∀ x0 x1 x2, WordFree.Statement (.keySlotForget x0 x1 x2) := fun _ _ _ => WordFree.of_none _
theorem WordFree.slotCmdNone : ∀ x0 x1 x2 x3, WordFree.Statement (.slotCmdNone x0 x1 x2 x3) := fun _ _ _ _ => WordFree.of_none _
theorem WordFree.cipherAlarm : ∀ x0, WordFree.Statement (.cipherAlarm x0) := fun _ => WordFree.of_none _
theorem WordFree.cipherForce : ∀ x0, WordFree.Statement (.cipherForce x0) := fun _ => WordFree.of_none _
theorem WordFree.deviceKeyRederived : WordFree.Statement .deviceKeyRederived := WordFree.of_none _
theorem WordFree.alarmStatusClear : ∀ x0 x1 x2, WordFree.Statement (.alarmStatusClear x0 x1 x2) := fun _ _ _ => WordFree.of_none _
theorem WordFree.cipherSelftest : ∀ x0, WordFree.Statement (.cipherSelftest x0) := fun _ => WordFree.of_none _
theorem WordFree.laneTestEnd : ∀ x0, WordFree.Statement (.laneTestEnd x0) := fun _ => WordFree.of_none _
theorem WordFree.firmwareJob : ∀ x0 x1 x2 x3, WordFree.Statement (.firmwareJob x0 x1 x2 x3) := fun _ _ _ _ => WordFree.of_none _
theorem WordFree.firmwareJobEnd : WordFree.Statement .firmwareJobEnd := WordFree.of_none _
theorem WordFree.mbxSend : ∀ x0 x1 x2, WordFree.Statement (.mbxSend x0 x1 x2) := fun _ _ _ => WordFree.of_none _
theorem WordFree.mbxAck : ∀ x0 x1 x2 x3, WordFree.Statement (.mbxAck x0 x1 x2 x3) := fun _ _ _ _ => WordFree.of_none _
theorem WordFree.hwSenderPresent : ∀ x0, WordFree.Statement (.hwSenderPresent x0) := fun _ => WordFree.of_none _
theorem WordFree.outSlotDeliver : ∀ x0, WordFree.Statement (.outSlotDeliver x0) := fun _ => WordFree.of_none _
theorem WordFree.mbxPollTimer : WordFree.Statement .mbxPollTimer := WordFree.of_none _
theorem WordFree.semRead : ∀ x0 x1, WordFree.Statement (.semRead x0 x1) := fun _ _ => WordFree.of_none _
theorem WordFree.semRelease : ∀ x0 x1, WordFree.Statement (.semRelease x0 x1) := fun _ _ => WordFree.of_none _
theorem WordFree.semForce : ∀ x0 x1, WordFree.Statement (.semForce x0 x1) := fun _ _ => WordFree.of_none _
theorem WordFree.coreSleep : ∀ x0, WordFree.Statement (.coreSleep x0) := fun _ => WordFree.of_none _
theorem WordFree.coreWake : ∀ x0, WordFree.Statement (.coreWake x0) := fun _ => WordFree.of_none _
theorem WordFree.coreFence : ∀ x0 x1, WordFree.Statement (.coreFence x0 x1) := fun _ _ => WordFree.of_none _
theorem WordFree.coreSelfCheckFail : ∀ x0, WordFree.Statement (.coreSelfCheckFail x0) := fun _ => WordFree.of_none _
theorem WordFree.coreUnfence : ∀ x0 x1, WordFree.Statement (.coreUnfence x0 x1) := fun _ _ => WordFree.of_none _
theorem WordFree.identify : ∀ x0, WordFree.Statement (.identify x0) := fun _ => WordFree.of_none _
theorem WordFree.health : ∀ x0 x1, WordFree.Statement (.health x0 x1) := fun _ _ => WordFree.of_none _
theorem WordFree.bgStatus : ∀ x0, WordFree.Statement (.bgStatus x0) := fun _ => WordFree.of_none _
theorem WordFree.accessSet : ∀ x0, WordFree.Statement (.accessSet x0) := fun _ => WordFree.of_none _
theorem WordFree.worldConfig : ∀ x0, WordFree.Statement (.worldConfig x0) := fun _ => WordFree.of_none _
theorem WordFree.capacitySet : ∀ x0, WordFree.Statement (.capacitySet x0) := fun _ => WordFree.of_none _
theorem WordFree.regionCreate : ∀ x0, WordFree.Statement (.regionCreate x0) := fun _ => WordFree.of_none _
theorem WordFree.regionRights : ∀ x0, WordFree.Statement (.regionRights x0) := fun _ => WordFree.of_none _
theorem WordFree.regionAttr : ∀ x0, WordFree.Statement (.regionAttr x0) := fun _ => WordFree.of_none _
theorem WordFree.regionDestroy : ∀ x0, WordFree.Statement (.regionDestroy x0) := fun _ => WordFree.of_none _
theorem WordFree.regionInfo : ∀ x0, WordFree.Statement (.regionInfo x0) := fun _ => WordFree.of_none _
theorem WordFree.ldBind : ∀ x0, WordFree.Statement (.ldBind x0) := fun _ => WordFree.of_none _
theorem WordFree.cgSet : ∀ x0, WordFree.Statement (.cgSet x0) := fun _ => WordFree.of_none _
theorem WordFree.durabilitySet : ∀ x0, WordFree.Statement (.durabilitySet x0) := fun _ => WordFree.of_none _
theorem WordFree.placementSet : ∀ x0, WordFree.Statement (.placementSet x0) := fun _ => WordFree.of_none _
theorem WordFree.pinCommand : ∀ x0, WordFree.Statement (.pinCommand x0) := fun _ => WordFree.of_none _
theorem WordFree.sessionOpen : ∀ x0, WordFree.Statement (.sessionOpen x0) := fun _ => WordFree.of_none _
theorem WordFree.sessionClose : ∀ x0, WordFree.Statement (.sessionClose x0) := fun _ => WordFree.of_none _
theorem WordFree.keyLoad : ∀ x0, WordFree.Statement (.keyLoad x0) := fun _ => WordFree.of_none _
theorem WordFree.keyErase : ∀ x0, WordFree.Statement (.keyErase x0) := fun _ => WordFree.of_none _
theorem WordFree.keyStatus : ∀ x0, WordFree.Statement (.keyStatus x0) := fun _ => WordFree.of_none _
theorem WordFree.pairSet : ∀ x0, WordFree.Statement (.pairSet x0) := fun _ => WordFree.of_none _
theorem WordFree.roleHandover : ∀ x0, WordFree.Statement (.roleHandover x0) := fun _ => WordFree.of_none _
theorem WordFree.roleTake : ∀ x0, WordFree.Statement (.roleTake x0) := fun _ => WordFree.of_none _
theorem WordFree.roleSplit : ∀ x0, WordFree.Statement (.roleSplit x0) := fun _ => WordFree.of_none _
theorem WordFree.resilver : ∀ x0, WordFree.Statement (.resilver x0) := fun _ => WordFree.of_none _
theorem WordFree.yokeStatus : ∀ x0, WordFree.Statement (.yokeStatus x0) := fun _ => WordFree.of_none _
theorem WordFree.portSet : ∀ x0, WordFree.Statement (.portSet x0) := fun _ => WordFree.of_none _
theorem WordFree.connOpenCommand : ∀ x0, WordFree.Statement (.connOpenCommand x0) := fun _ => WordFree.of_none _
theorem WordFree.connCloseCommand : ∀ x0, WordFree.Statement (.connCloseCommand x0) := fun _ => WordFree.of_none _
theorem WordFree.connInfo : ∀ x0, WordFree.Statement (.connInfo x0) := fun _ => WordFree.of_none _
theorem WordFree.jqBindCommand : ∀ x0, WordFree.Statement (.jqBindCommand x0) := fun _ => WordFree.of_none _
theorem WordFree.jqUnbindCommand : ∀ x0, WordFree.Statement (.jqUnbindCommand x0) := fun _ => WordFree.of_none _
theorem WordFree.jqInfo : ∀ x0, WordFree.Statement (.jqInfo x0) := fun _ => WordFree.of_none _
theorem WordFree.harvestSet : ∀ x0, WordFree.Statement (.harvestSet x0) := fun _ => WordFree.of_none _
theorem WordFree.storeDeclare : ∀ x0, WordFree.Statement (.storeDeclare x0) := fun _ => WordFree.of_none _
theorem WordFree.harvestStatus : ∀ x0, WordFree.Statement (.harvestStatus x0) := fun _ => WordFree.of_none _
theorem WordFree.harvestStartCommand : ∀ x0, WordFree.Statement (.harvestStartCommand x0) := fun _ => WordFree.of_none _
theorem WordFree.powerCap : ∀ x0, WordFree.Statement (.powerCap x0) := fun _ => WordFree.of_none _
theorem WordFree.faultList : ∀ x0, WordFree.Statement (.faultList x0) := fun _ => WordFree.of_none _
theorem WordFree.fenceCommand : ∀ x0, WordFree.Statement (.fenceCommand x0) := fun _ => WordFree.of_none _
theorem WordFree.faultClear : ∀ x0, WordFree.Statement (.faultClear x0) := fun _ => WordFree.of_none _
theorem WordFree.train : ∀ x0 x1 x2, WordFree.Statement (.train x0 x1 x2) := fun _ _ _ => WordFree.of_none _
theorem WordFree.heal : ∀ x0, WordFree.Statement (.heal x0) := fun _ => WordFree.of_none _
theorem WordFree.recorderRead : ∀ x0, WordFree.Statement (.recorderRead x0) := fun _ => WordFree.of_none _
theorem WordFree.recorderClear : ∀ x0, WordFree.Statement (.recorderClear x0) := fun _ => WordFree.of_none _
theorem WordFree.titheRead : ∀ x0, WordFree.Statement (.titheRead x0) := fun _ => WordFree.of_none _
theorem WordFree.titheInfo : ∀ x0, WordFree.Statement (.titheInfo x0) := fun _ => WordFree.of_none _
theorem WordFree.sanitise : ∀ x0, WordFree.Statement (.sanitise x0) := fun _ => WordFree.of_none _
theorem WordFree.commandUnsupported : ∀ x0, WordFree.Statement (.commandUnsupported x0) := fun _ => WordFree.of_none _
theorem WordFree.cxlIdentify : ∀ x0, WordFree.Statement (.cxlIdentify x0) := fun _ => WordFree.of_none _
theorem WordFree.backgroundOperationStatus : ∀ x0, WordFree.Statement (.backgroundOperationStatus x0) := fun _ => WordFree.of_none _
theorem WordFree.getEventRecords : ∀ x0, WordFree.Statement (.getEventRecords x0) := fun _ => WordFree.of_none _
theorem WordFree.clearEventRecords : ∀ x0, WordFree.Statement (.clearEventRecords x0) := fun _ => WordFree.of_none _
theorem WordFree.getEventInterruptPolicy : ∀ x0, WordFree.Statement (.getEventInterruptPolicy x0) := fun _ => WordFree.of_none _
theorem WordFree.setEventInterruptPolicy : ∀ x0, WordFree.Statement (.setEventInterruptPolicy x0) := fun _ => WordFree.of_none _
theorem WordFree.getFwInfo : ∀ x0, WordFree.Statement (.getFwInfo x0) := fun _ => WordFree.of_none _
theorem WordFree.transferFw : ∀ x0 x1, WordFree.Statement (.transferFw x0 x1) := fun _ _ => WordFree.of_none _
theorem WordFree.activateFw : ∀ x0, WordFree.Statement (.activateFw x0) := fun _ => WordFree.of_none _
theorem WordFree.getTimestamp : ∀ x0, WordFree.Statement (.getTimestamp x0) := fun _ => WordFree.of_none _
theorem WordFree.setTimestamp : ∀ x0, WordFree.Statement (.setTimestamp x0) := fun _ => WordFree.of_none _
theorem WordFree.getSupportedLogs : ∀ x0, WordFree.Statement (.getSupportedLogs x0) := fun _ => WordFree.of_none _
theorem WordFree.getLog : ∀ x0, WordFree.Statement (.getLog x0) := fun _ => WordFree.of_none _
theorem WordFree.identifyMemoryDevice : ∀ x0, WordFree.Statement (.identifyMemoryDevice x0) := fun _ => WordFree.of_none _
theorem WordFree.getHealthInfo : ∀ x0 x1, WordFree.Statement (.getHealthInfo x0 x1) := fun _ _ => WordFree.of_none _
theorem WordFree.getAlertConfiguration : ∀ x0, WordFree.Statement (.getAlertConfiguration x0) := fun _ => WordFree.of_none _
theorem WordFree.setAlertConfiguration : ∀ x0, WordFree.Statement (.setAlertConfiguration x0) := fun _ => WordFree.of_none _
theorem WordFree.getShutdownState : ∀ x0, WordFree.Statement (.getShutdownState x0) := fun _ => WordFree.of_none _
theorem WordFree.setShutdownState : ∀ x0, WordFree.Statement (.setShutdownState x0) := fun _ => WordFree.of_none _
theorem WordFree.getPoisonList : ∀ x0, WordFree.Statement (.getPoisonList x0) := fun _ => WordFree.of_none _
theorem WordFree.injectPoison : ∀ x0, WordFree.Statement (.injectPoison x0) := fun _ => WordFree.of_none _
theorem WordFree.clearPoison : ∀ x0 x1, WordFree.Statement (.clearPoison x0 x1) := fun _ _ => WordFree.of_none _
theorem WordFree.getDcConfiguration : ∀ x0, WordFree.Statement (.getDcConfiguration x0) := fun _ => WordFree.of_none _
theorem WordFree.getDcExtentList : ∀ x0, WordFree.Statement (.getDcExtentList x0) := fun _ => WordFree.of_none _
theorem WordFree.addDcResponse : ∀ x0, WordFree.Statement (.addDcResponse x0) := fun _ => WordFree.of_none _
theorem WordFree.releaseDc : ∀ x0, WordFree.Statement (.releaseDc x0) := fun _ => WordFree.of_none _
theorem WordFree.eflProgram : ∀ x0 x1 x2 x3 x4, WordFree.Statement (.eflProgram x0 x1 x2 x3 x4) := fun _ _ _ _ _ => WordFree.of_none _
theorem WordFree.eflErase : ∀ x0 x1 x2 x3, WordFree.Statement (.eflErase x0 x1 x2 x3) := fun _ _ _ _ => WordFree.of_none _
theorem WordFree.eflSuspend : ∀ x0, WordFree.Statement (.eflSuspend x0) := fun _ => WordFree.of_none _
theorem WordFree.eflResume : ∀ x0, WordFree.Statement (.eflResume x0) := fun _ => WordFree.of_none _
theorem WordFree.eflStatus : ∀ x0, WordFree.Statement (.eflStatus x0) := fun _ => WordFree.of_none _
theorem WordFree.eflAbort : ∀ x0, WordFree.Statement (.eflAbort x0) := fun _ => WordFree.of_none _
theorem WordFree.otpProgram : ∀ x0 x1 x2 x3, WordFree.Statement (.otpProgram x0 x1 x2 x3) := fun _ _ _ _ => WordFree.of_none _
theorem WordFree.otpGenRoot : ∀ x0, WordFree.Statement (.otpGenRoot x0) := fun _ => WordFree.of_none _
theorem WordFree.erasePulseEnd : ∀ x0, WordFree.Statement (.erasePulseEnd x0) := fun _ => WordFree.of_none _
theorem WordFree.romBoot : ∀ x0 x1 x2, WordFree.Statement (.romBoot x0 x1 x2) := fun _ _ _ => WordFree.of_none _
theorem WordFree.wdtKick : ∀ x0, WordFree.Statement (.wdtKick x0) := fun _ => WordFree.of_none _
theorem WordFree.wdtExpiry : ∀ x0, WordFree.Statement (.wdtExpiry x0) := fun _ => WordFree.of_none _
theorem WordFree.wdtEscalation : WordFree.Statement .wdtEscalation := WordFree.of_none _
theorem WordFree.imageFlagActivation : WordFree.Statement .imageFlagActivation := WordFree.of_none _
theorem WordFree.pwrCtlOn : ∀ x0 x1 x2, WordFree.Statement (.pwrCtlOn x0 x1 x2) := fun _ _ _ => WordFree.of_none _
theorem WordFree.pwrCtlOff : ∀ x0, WordFree.Statement (.pwrCtlOff x0) := fun _ => WordFree.of_none _
theorem WordFree.plossRise : WordFree.Statement .plossRise := WordFree.of_none _
theorem WordFree.railPgChange : ∀ x0 x1, WordFree.Statement (.railPgChange x0 x1) := fun _ _ => WordFree.of_none _
theorem WordFree.railStable : ∀ x0, WordFree.Statement (.railStable x0) := fun _ => WordFree.of_none _
theorem WordFree.railOnTimeout : ∀ x0, WordFree.Statement (.railOnTimeout x0) := fun _ => WordFree.of_none _
theorem WordFree.railPgLost : ∀ x0, WordFree.Statement (.railPgLost x0) := fun _ => WordFree.of_none _
theorem WordFree.pwrFltNFall : WordFree.Statement .pwrFltNFall := WordFree.of_none _
theorem WordFree.railOffDelay : ∀ x0, WordFree.Statement (.railOffDelay x0) := fun _ => WordFree.of_none _
theorem WordFree.railOffTimeout : ∀ x0, WordFree.Statement (.railOffTimeout x0) := fun _ => WordFree.of_none _
theorem WordFree.pwrFaultClear : ∀ x0, WordFree.Statement (.pwrFaultClear x0) := fun _ => WordFree.of_none _
theorem WordFree.pdOn : ∀ x0 x1, WordFree.Statement (.pdOn x0 x1) := fun _ _ => WordFree.of_none _
theorem WordFree.pdOff : ∀ x0 x1, WordFree.Statement (.pdOff x0 x1) := fun _ _ => WordFree.of_none _
theorem WordFree.voltageLoopStep : ∀ x0 x1, WordFree.Statement (.voltageLoopStep x0 x1) := fun _ _ => WordFree.of_none _
theorem WordFree.powerMeasure : ∀ x0 x1, WordFree.Statement (.powerMeasure x0 x1) := fun _ _ => WordFree.of_none _
theorem WordFree.pmbusTransaction : ∀ x0 x1 x2 x3, WordFree.Statement (.pmbusTransaction x0 x1 x2 x3) := fun _ _ _ _ => WordFree.of_none _
theorem WordFree.vddioSbLow : WordFree.Statement .vddioSbLow := WordFree.of_none _
theorem WordFree.groupResetRequest : ∀ x0 x1, WordFree.Statement (.groupResetRequest x0 x1) := fun _ _ => WordFree.of_none _
theorem WordFree.groupResetRelease : WordFree.Statement .groupResetRelease := WordFree.of_none _
theorem WordFree.admitTines : ∀ x0, WordFree.Statement (.admitTines x0) := fun _ => WordFree.of_none _
theorem WordFree.powerOnReset : ∀ x0, WordFree.Statement (.powerOnReset x0) := fun _ => WordFree.of_none _
theorem WordFree.aonResetRelease : ∀ x0, WordFree.Statement (.aonResetRelease x0) := fun _ => WordFree.of_none _
theorem WordFree.deviceReset : WordFree.Statement .deviceReset := WordFree.of_none _
theorem WordFree.tapReset : WordFree.Statement .tapReset := WordFree.of_none _
theorem WordFree.memoryActiveSet : WordFree.Statement .memoryActiveSet := WordFree.of_none _
theorem WordFree.pulseOverrun : ∀ x0, WordFree.Statement (.pulseOverrun x0) := fun _ => WordFree.of_none _
theorem WordFree.fltStsClear : ∀ x0 x1 x2, WordFree.Statement (.fltStsClear x0 x1 x2) := fun _ _ _ => WordFree.of_none _
theorem WordFree.fltInfoClear : ∀ x0 x1, WordFree.Statement (.fltInfoClear x0 x1) := fun _ _ => WordFree.of_none _
theorem WordFree.fltInject : ∀ x0 x1 x2, WordFree.Statement (.fltInject x0 x1 x2) := fun _ _ _ => WordFree.of_none _
theorem WordFree.recordWrite : WordFree.Statement .recordWrite := WordFree.of_none _
theorem WordFree.recClear : ∀ x0 x1, WordFree.Statement (.recClear x0 x1) := fun _ _ => WordFree.of_none _
theorem WordFree.recTimeSet : ∀ x0 x1, WordFree.Statement (.recTimeSet x0 x1) := fun _ _ => WordFree.of_none _
theorem WordFree.recFwRecord : ∀ x0 x1 x2, WordFree.Statement (.recFwRecord x0 x1 x2) := fun _ _ _ => WordFree.of_none _
theorem WordFree.titheCounterSample : ∀ x0, WordFree.Statement (.titheCounterSample x0) := fun _ => WordFree.of_none _
theorem WordFree.titheIntervalClose : WordFree.Statement .titheIntervalClose := WordFree.of_none _
theorem WordFree.titheRelease : ∀ x0 x1, WordFree.Statement (.titheRelease x0 x1) := fun _ _ => WordFree.of_none _
theorem WordFree.titheCfgWrite : ∀ x0 x1, WordFree.Statement (.titheCfgWrite x0 x1) := fun _ _ => WordFree.of_none _
theorem WordFree.titheLifeStart : WordFree.Statement .titheLifeStart := WordFree.of_none _
theorem WordFree.titheWatchdogRestart : WordFree.Statement .titheWatchdogRestart := WordFree.of_none _
theorem WordFree.sbWrite32 : ∀ x0 x1 x2 x3, WordFree.Statement (.sbWrite32 x0 x1 x2 x3) := fun _ _ _ _ => WordFree.of_none _
theorem WordFree.sbWrite64 : ∀ x0 x1 x2 x3, WordFree.Statement (.sbWrite64 x0 x1 x2 x3) := fun _ _ _ _ => WordFree.of_none _
theorem WordFree.sbRead32 : ∀ x0 x1 x2, WordFree.Statement (.sbRead32 x0 x1 x2) := fun _ _ _ => WordFree.of_none _
theorem WordFree.sbRead64 : ∀ x0 x1 x2, WordFree.Statement (.sbRead64 x0 x1 x2) := fun _ _ _ => WordFree.of_none _
theorem WordFree.i3cDynamicAddress : ∀ x0, WordFree.Statement (.i3cDynamicAddress x0) := fun _ => WordFree.of_none _
theorem WordFree.i3cRstdaa : WordFree.Statement .i3cRstdaa := WordFree.of_none _
theorem WordFree.smbusSclTimeout : WordFree.Statement .smbusSclTimeout := WordFree.of_none _
theorem WordFree.alertResponse : WordFree.Statement .alertResponse := WordFree.of_none _
theorem WordFree.ddrRefclkLoss : ∀ x0, WordFree.Statement (.ddrRefclkLoss x0) := fun _ => WordFree.of_none _
theorem WordFree.ddrRefclkReturn : ∀ x0, WordFree.Statement (.ddrRefclkReturn x0) := fun _ => WordFree.of_none _
theorem WordFree.perstRelease : ∀ x0 x1, WordFree.Statement (.perstRelease x0 x1) := fun _ _ => WordFree.of_none _
theorem WordFree.yokeHbReceive : ∀ x0, WordFree.Statement (.yokeHbReceive x0) := fun _ => WordFree.of_none _
theorem WordFree.pathProbationGap : ∀ x0 x1, WordFree.Statement (.pathProbationGap x0 x1) := fun _ _ => WordFree.of_none _
theorem WordFree.tineSelfCheckFail : ∀ x0 x1, WordFree.Statement (.tineSelfCheckFail x0 x1) := fun _ _ => WordFree.of_none _
theorem WordFree.sequencerSelfCheckFail : ∀ x0 x1, WordFree.Statement (.sequencerSelfCheckFail x0 x1) := fun _ _ => WordFree.of_none _
theorem WordFree.superblockEraseDone : ∀ x0 x1, WordFree.Statement (.superblockEraseDone x0 x1) := fun _ _ => WordFree.of_none _
theorem WordFree.macFrameDiscard : ∀ x0 x1, WordFree.Statement (.macFrameDiscard x0 x1) := fun _ _ => WordFree.of_none _
theorem WordFree.fecUncorrectableCodeword : ∀ x0, WordFree.Statement (.fecUncorrectableCodeword x0) := fun _ => WordFree.of_none _
theorem WordFree.vddioSbReturn : WordFree.Statement .vddioSbReturn := WordFree.of_none _
theorem WordFree.storeDeclarationStale : WordFree.Statement .storeDeclarationStale := WordFree.of_none _
theorem WordFree.energyMonitorFail : WordFree.Statement .energyMonitorFail := WordFree.of_none _
theorem WordFree.relayReplyTimeout : WordFree.Statement .relayReplyTimeout := WordFree.of_none _

end Sys2Proof.Laws
end

