-- ==== Sys2Proof/Machine/CxlSpace.lean ====
section
/-!
DEFINITION. Machine/CxlSpace.lean: what an LD presents to its host beside the mailbox: link credits (R79), the trained bandwidth (R81), the
identity of function 0 (R90), the CXL DVSECs (R91), the register blocks of BAR0 (R92) and the CDAT (R93). The table has no row for a
configuration read, so these are functions of the state that no command calls.
-/
namespace Sys2Proof.Machine
open Sys2Proof

/-- CXL.mem Req and RwD credits and CXL.io posted and non-posted headers that each link of a port advertises (R79). -/
def State.linkCredits (s : State) (p : Nat) : Nat × Nat × Nat × Nat :=
  match s.portMode p with
  | 0 => (512, 256, 64, 64)
  | 1 => (256, 128, 32, 32)
  | _ => (128, 64, 16, 16)

/-- The raw bandwidth of a link in GB/s per direction: 1 GB/s for a lane at 8 GT/s (R81); 0 for a link that is not UP. -/
def State.linkGbs (s : State) (l : Nat) : Nat :=
  if s.linkUp l then s.rd (HPT_LSTS_WIDTH (l / 4) (l % 4)) * 2 ^ s.rd (HPT_LSTS_RATE (l / 4) (l % 4)) else 0

/-- Function 0 of an LD (R90). -/
structure Function0 where
  vendor : Nat
  device : Nat := 0x6400
  revision : Nat := 0x0B
  classCode : Nat := 0x050210
  subVendor : Nat
  subsystem : Nat
  barBytes : Nat := 131072
  msixVectors : Nat := 4
  deriving DecidableEq, Repr

/-- The values of R90 that the OTP row gives: words 2 and 21 (R537). -/
def State.function0 (s : State) : Function0 :=
  let v := (mget (fun _ => (0 : Word64)) s.efl.otp 2).toNat % 65536
  { vendor := v, subVendor := v, subsystem := (mget (fun _ => (0 : Word64)) s.efl.otp 21).toNat % 65536 }

/-- A CXL DVSEC with the contents that R91 notes. -/
inductive Dvsec where
  | device (cache io mem hwInit : Bool) (hdmCount : Nat) (viral reset resetMemClr : Bool) (resetMs rangeSize : Nat)   -- ID 0x0000
  | functionMap                                                                                  -- ID 0x0002, all zero
  | gpf (phase2Us phase2Mw : Nat)                                                                -- ID 0x0005
  | flexBus (io mem flit256 flit68 flitLow mld : Bool)                                           -- ID 0x0007
  | locator (blocks : List (Nat × Nat × Nat))                                                    -- ID 0x0008: identifier, offset, size
  | mld (lds : Nat)                                                                              -- ID 0x0009
  deriving DecidableEq, Repr

/-- The register blocks of BAR0: identifier, offset and size (R92). -/
def bar0Blocks : List (Nat × Nat × Nat) := [(0x01, 0, 65536), (0x03, 65536, 65536)]

/-- The DVSECs of the LDs of a link (R91). -/
def State.dvsecs (s : State) (l : Nat) : List Dvsec :=
  let p := l / 4
  let q := l % 4
  [.device false true true false 1 false true false 10 0, .functionMap, .gpf 1 0,
    .flexBus true true true false false (s.on (HPT_LCTL_MLD_EN p q)), .locator bar0Blocks] ++
    (if s.on (HPT_LSTS_MLD p q) then [.mld (s.rd (HPT_LCTL_LDCNT p q) + 1)] else [])

/-- An entry of the CDAT. -/
inductive CdatEntry where
  | dsmas (region lenGib : Nat) (nonVolatile : Bool)
  | dslbis (readNs writeNs readGbs writeGbs : Nat)
  deriving DecidableEq, Repr

/-- The CDAT of an LD of a link (R93): a DSMAS entry for each DC region and one DSLBIS entry. -/
def State.cdat (s : State) (l : Nat) : List CdatEntry :=
  (s.dcRegions.map fun x => .dsmas x.1 x.2 true) ++ [.dslbis 110 37 (s.linkGbs l) (s.linkGbs l)]

end Sys2Proof.Machine
end

