-- ==== Sys2Proof/WellFormed.lean ====
section
/-!
DEFINITION. WellFormed.lean: which commands and events the world outside can make at all. What the operands' types do not bound is
checked here: the lengths that a frame, a packet or a call can carry. `exec` gives every command its meaning, well-formed or not.
-/
namespace Sys2Proof

/-- A link trains at x1 to x16 (R81). -/
def linkWidth (w : Nat) : Bool := [1, 2, 4, 8, 16].contains w

/-- A decoder's base, size and skip are 64-bit registers, its position lies within the interleave (R99). -/
def HdmReq.wf (r : HdmReq) : Bool := decide (r.base < 2 ^ 64 ∧ r.size < 2 ^ 64 ∧ r.skip < 2 ^ 64 ∧ r.pos < max 1 r.ways)

/-- A run of a Yoke entry has 1 to 64 lines and stays within one tier page (R331). -/
def YokeEntry.wf : YokeEntry → Bool
  | .full line d => decide (1 ≤ d.length ∧ line.toNat % 64 + d.length ≤ 64)
  | .part .. => true
  | .zero line n => decide (line.toNat % 64 + n.val + 1 ≤ 64)
  | .pageUnwritten .. => true
  | .pagePoison .. => true
  | .role _ _ _ _ _ size => decide (size < 2 ^ 32)
  | .heal _ line d => decide (1 ≤ d.length ∧ line.toNat % 64 + d.length ≤ 64)
  | .checkpoint .. => true
  | .genEnd => true

/-- The ingress FIFO holds 4 MiB (R381). -/
def DrlHdr.wf (h : DrlHdr) : Bool := decide (h.fifo.toNat ≤ 4096)

/-- A primary mailbox carries at most 4 KiB (R458). -/
def HwSend.wf : HwSend → Bool
  | .cxl _ _ _ pay => decide (pay.length ≤ 4096)
  | .cxlWaiting .. => true
  | .drill .. => true
  | .relay .. => true

/-- A PROGRAM call carries 1 to 124 words, and is cut off before its last one is programmed (R530, R545). -/
def EflCut.wf (c : EflCut) : Bool := decide (1 ≤ c.data.length ∧ c.data.length ≤ 124 ∧ c.done < c.data.length)

/-- A read of a NAND buffer carries at most 8,191 bytes, a PMBus block fewer (R281, R571). -/
def BusEnv.wf (e : BusEnv) : Bool := decide (e.data.length < 2 ^ 13)

/-- The operands that their types do not bound. -/
def Instr.wf : Instr → Bool
  | .linkTrainDone _ _ _ w _ _ => linkWidth w
  | .linkRecovery _ _ _ w _ => linkWidth w
  | .hdmDecoderCommit _ _ _ r => r.wf
  | .requestAged _ i => decide (i < 128)
  | .onfiDataIn _ _ _ n d => decide (d.length ≤ n.toNat)
  | .yokeDataReceive _ es => decide (es.length < 2 ^ 16) && es.all YokeEntry.wf
  | .healRspReceive _ _ _ d _ => decide (d.length ≤ 64)
  | .yokeMbxReceive _ _ _ msg => decide (msg.length = 64)
  | .drlWrite h _ d => h.wf && decide (d.length ≤ 4096)
  | .drlRead h _ => h.wf
  | .drlAtomic h _ _ _ => h.wf
  | .drlJob h _ d => h.wf && decide (d.length % 64 = 0)
  | .drlJqRead h _ => h.wf
  | .drlMbxReceive h msg => h.wf && decide (msg.length = 64)
  | .drlErrorReceive h _ recs => h.wf && decide (recs.length % 8 = 0)
  | .drlAckReceive h _ _ _ => h.wf
  | .drlKeepaliveReceive h => h.wf
  | .drlCloseReceive h _ => h.wf
  | .drlHelloReceive h _ _ _ _ => h.wf
  | .drlConfirmReceive h _ _ => h.wf
  | .hwSenderPresent p => p.wf
  | .pmbusTransaction _ _ _ d => decide (d.length ≤ 32)
  | .wdtExpiry cut => cut.all EflCut.wf
  | .ctrlRegWrite _ _ _ _ e => e.wf
  | .sbWrite32 _ _ _ e => e.wf
  | .sbWrite64 _ _ _ e => e.wf
  | .romBoot otp _ _ => decide otp.Nodup
  | .stripeProgramDone _ fails _ => decide fails.Nodup
  | .superblockEraseDone _ fails => decide fails.Nodup
  | .badWidthAccess .. | .lowHalfRead .. | .highHalfRead .. | .unassignedAccess .. | .sidebandWindowDenied ..
  | .poweredOffWindowAccess .. | .memWr .. | .memWrPtl .. | .memRd .. | .memInv .. | .memClnEvct .. | .memSpecRd ..
  | .unsupportedM2sOpcode .. | .tierEntryReturn .. | .specDataReturn .. | .lockWayFreed .. | .modifyAfterReads ..
  | .mirrorWaitReadResume .. | .cbLineFreedWrite .. | .workSteal .. | .drainAgeExpiry .. | .frameReadyForDrain ..
  | .writeQueueAccept .. | .tineFence .. | .clusterFence .. | .fenceDrainEnd .. | .requestAbandon ..
  | .tineUnfence .. | .clusterUnfence .. | .hintFlush .. | .altPeakClr .. | .cbUsePeakClr .. | .dpaLimitWrite ..
  | .worldLockSet .. | .chkLastClear .. | .rgnOpNone .. | .rgnLoad .. | .rgnCommit .. | .rgnDestroy ..
  | .rgnDrainEnd .. | .rgnReleaseEnd .. | .bifurModeWrite .. | .sublinkEnableChange .. | .linkRetrain ..
  | .linkModeFail .. | .linkTrainRetryTimer .. | .linkDown .. | .sublinkFence .. | .sublinkUnfence ..
  | .devloadWrite .. | .ldmbxWrite .. | .perstAssert .. | .hotReset .. | .functionLevelReset .. | .cxlReset ..
  | .cxlResetEnd .. | .getLdInfo .. | .getLdAllocations .. | .fmApiUnsupported .. | .dcEventRaise .. | .gpfPhase2 ..
  | .missFillReturn .. | .prefetchReturn .. | .rangeInvalidate .. | .wholeCacheInvalidate .. | .rangeInvEnd ..
  | .zeroSweepEnd .. | .cacheEnWrite .. | .ncBankFence .. | .ncBankUnfence .. | .dramReadReturn ..
  | .refreshInterval .. | .mr4Poll .. | .refreshMakeupBurst .. | .rowIdlePrecharge .. | .caParityAlert ..
  | .panicRaise .. | .panicFall .. | .srEnterRequest .. | .srIdleEntry .. | .srExitRequest .. | .mrWrite ..
  | .mrRead .. | .mpcCommand .. | .trainingReadCompare .. | .delayApply .. | .delayShadowLoad ..
  | .channelActivate .. | .oscillatorDriftCheck .. | .harrowPatrolRead .. | .rankFence .. | .channelFence ..
  | .evacuationEnd .. | .dramUnfence .. | .epochStart .. | .epochEnd .. | .flashDataStaged .. | .demotionStart ..
  | .ceilingDemotion .. | .cleaningStart .. | .frameMoveStart .. | .moveCopyDone .. | .moveSwitch ..
  | .poisonPageFinalize .. | .metaRebuildDone .. | .pinOp .. | .unpinOp .. | .pinOpNone .. | .pinOpDone ..
  | .pinLoadDone .. | .regionPolicyWrite .. | .governorAdmit .. | .governorRecompute .. | .slotReadReturn ..
  | .demandSuspend .. | .suspendedOpResume .. | .gcStart .. | .relocationCas .. | .superblockErase .. | .wearLevel ..
  | .retentionScan .. | .lunReadyTimeout .. | .lunRetire .. | .rebuildDone .. | .flashChannelFence ..
  | .flashChannelUnfence .. | .lunUnfence .. | .onfiCommandByte .. | .onfiAddressByte .. | .onfiDataOut ..
  | .onfiWaitReady .. | .onfiDelayApply .. | .furrowFormat .. | .harvestStart .. | .plossDeglitched ..
  | .harvestCommandStart .. | .harvestSeal .. | .harvestStoreFail .. | .fallowEnd .. | .harvestConfigWrite ..
  | .harvestArmed .. | .resowStart .. | .resowSweep .. | .yokeFrameSend .. | .yokeAckReceive .. | .yokeGapTimer ..
  | .yokeRtoExpiry .. | .yokeHeartbeat .. | .pathDownTimer .. | .pathRejoin .. | .yokeStallTimer ..
  | .yokeHelloReceive .. | .yokeHelloRspReceive .. | .yokeConfirmReceive .. | .yokeHelloRepeat ..
  | .yokeCloseReceive .. | .keygenRollover .. | .healReqReceive .. | .healTimeout .. | .yokeMbxAckReceive ..
  | .yokeMbxRepeat .. | .roleResolve .. | .lagLimitResume .. | .granuleClearTimer .. | .resilverGo ..
  | .resilverStop .. | .yokePairsWrite .. | .orderedPresent .. | .finalPresent .. | .drlAckSend .. | .drlGapTimer ..
  | .drlRtoExpiry .. | .drlIdleTimeout .. | .drlOpeningTimeout .. | .drlKeepaliveTimer .. | .drlCloseRepeat ..
  | .connOpen .. | .connCloseOp .. | .connSnapshot .. | .drillPortRemove .. | .addressResolutionRx ..
  | .netPortModeWrite .. | .netPortRetrain .. | .netLinkUp .. | .netLinkDown .. | .netTrainFail ..
  | .pfcFrameReceive .. | .jqBind .. | .jqUnbind .. | .jqUnboundReached .. | .jobStart .. | .jobComplete ..
  | .jobWaitTimeout .. | .jqReadTimeout .. | .pushPacketSend .. | .jobAllocRetry .. | .granaryAlloc ..
  | .granaryAddref .. | .granaryRelease .. | .granaryEnable .. | .granaryReady .. | .granaryCountWrite ..
  | .granaryMinWrite .. | .keySlotLoad .. | .keySlotErase .. | .keySlotForget .. | .slotCmdNone .. | .cipherAlarm ..
  | .cipherForce .. | .deviceKeyRederived .. | .alarmStatusClear .. | .cipherSelftest .. | .laneTestEnd ..
  | .firmwareJob .. | .firmwareJobEnd .. | .mbxSend .. | .mbxAck .. | .outSlotDeliver .. | .mbxPollTimer ..
  | .semRead .. | .semRelease .. | .semForce .. | .coreSleep .. | .coreWake .. | .coreFence ..
  | .coreSelfCheckFail .. | .coreUnfence .. | .identify .. | .health .. | .bgStatus .. | .accessSet ..
  | .worldConfig .. | .capacitySet .. | .regionCreate .. | .regionRights .. | .regionAttr .. | .regionDestroy ..
  | .regionInfo .. | .ldBind .. | .cgSet .. | .durabilitySet .. | .placementSet .. | .pinCommand .. | .sessionOpen ..
  | .sessionClose .. | .keyLoad .. | .keyErase .. | .keyStatus .. | .pairSet .. | .roleHandover .. | .roleTake ..
  | .roleSplit .. | .resilver .. | .yokeStatus .. | .portSet .. | .connOpenCommand .. | .connCloseCommand ..
  | .connInfo .. | .jqBindCommand .. | .jqUnbindCommand .. | .jqInfo .. | .harvestSet .. | .storeDeclare ..
  | .harvestStatus .. | .harvestStartCommand .. | .powerCap .. | .faultList .. | .fenceCommand .. | .faultClear ..
  | .train .. | .heal .. | .recorderRead .. | .recorderClear .. | .titheRead .. | .titheInfo .. | .sanitise ..
  | .commandUnsupported .. | .cxlIdentify .. | .backgroundOperationStatus .. | .getEventRecords ..
  | .clearEventRecords .. | .getEventInterruptPolicy .. | .setEventInterruptPolicy .. | .getFwInfo ..
  | .transferFw .. | .activateFw .. | .getTimestamp .. | .setTimestamp .. | .getSupportedLogs .. | .getLog ..
  | .identifyMemoryDevice .. | .getHealthInfo .. | .getAlertConfiguration .. | .setAlertConfiguration ..
  | .getShutdownState .. | .setShutdownState .. | .getPoisonList .. | .injectPoison .. | .clearPoison ..
  | .getDcConfiguration .. | .getDcExtentList .. | .addDcResponse .. | .releaseDc .. | .eflProgram .. | .eflErase ..
  | .eflSuspend .. | .eflResume .. | .eflStatus .. | .eflAbort .. | .otpProgram .. | .otpGenRoot ..
  | .erasePulseEnd .. | .wdtKick .. | .wdtEscalation .. | .imageFlagActivation .. | .pwrCtlOn .. | .pwrCtlOff ..
  | .plossRise .. | .railPgChange .. | .railStable .. | .railOnTimeout .. | .railPgLost .. | .pwrFltNFall ..
  | .railOffDelay .. | .railOffTimeout .. | .pwrFaultClear .. | .pdOn .. | .pdOff .. | .voltageLoopStep ..
  | .powerMeasure .. | .vddioSbLow .. | .groupResetRequest .. | .groupResetRelease .. | .admitTines ..
  | .powerOnReset .. | .aonResetRelease .. | .deviceReset .. | .tapReset .. | .memoryActiveSet .. | .pulseOverrun ..
  | .fltStsClear .. | .fltInfoClear .. | .fltInject .. | .recordWrite .. | .recClear .. | .recTimeSet ..
  | .recFwRecord .. | .titheCounterSample .. | .titheIntervalClose .. | .titheRelease .. | .titheCfgWrite ..
  | .titheLifeStart .. | .titheWatchdogRestart .. | .sbRead32 .. | .sbRead64 .. | .i3cDynamicAddress ..
  | .i3cRstdaa .. | .smbusSclTimeout .. | .alertResponse .. | .ddrRefclkLoss .. | .ddrRefclkReturn ..
  | .perstRelease .. | .yokeHbReceive .. | .pathProbationGap .. | .tineSelfCheckFail .. | .sequencerSelfCheckFail ..
  | .macFrameDiscard .. | .fecUncorrectableCodeword .. | .vddioSbReturn .. | .storeDeclarationStale ..
  | .energyMonitorFail .. | .relayReplyTimeout .. => true

end Sys2Proof
end

