-- ==== Sys2Proof/Tests/Slice0.lean ====
section
/-!
SUPPORT. Tests/Slice0.lean: small states for the tests; one witness for the hypotheses of each clause of the statements
(wit_<statement>_<clause>); checks of single steps against what the spec states (test_); ill-formed terms that WellFormed refuses.
-/
namespace Sys2Proof.Machine
open Sys2Proof
set_option linter.unusedVariables false
set_option Elab.async false

/-! ## Small states -/

/-- A state with some registers set: each pair is a field and its value, one field of a register. -/
def wSt (l : List (Fld × Nat)) : State :=
  { State.reset with csr := l.map fun e => (e.1.addr, BitVec.ofNat 64 (e.2 * 2 ^ e.1.lo)) }

/-- A state with some windows on and some registers set. -/
def wOn (ws : List Nat) (l : List (Fld × Nat)) : State := wSt ((ws.map fun w => (UNIT_POWERED w, 1)) ++ l)

/-- One request of LD 5 on link 3, for line 0x2A41 of region 2, and what surrounds it. -/
def wReq (k : AccKind) (ph : Phase) : Req :=
  { id := 7, src := .ld 3 5 9, kind := k, line := 0x2A41, mask := 0xFF, data := 0x1122334455667788, region := 2, tine := 40, phase := ph }
def wLinkL : List (Fld × Nat) :=
  [(HPT_LSTS_LDS_UP 0 3, 3 * 2 ^ 20 + 16), (⟨TIN_LDB 9, 0, 32⟩, 0x80000035), (TIN_DPA_LIMIT_CAP_GIB, 16), (⟨TIN_RGN_ATTR 2, 0, 32⟩, 0x80000300),
   (CPH_RSLOT_LOADED 3, 1), (TIN_RGN_LDRD_MASK 2, 0x200), (TIN_RGN_LDWR_MASK 2, 0x200), (TIN_WORLD_LOCK_LOCK, 1), (HRV_STS_ARMED, 1), (CPH_STS_STATE, 1)]
def wLink (l : List (Fld × Nat)) : State := wOn [12, 13, 14, 54] (wLinkL ++ l)
def wAlone (r : Req) (l : List (Fld × Nat)) : State := { wLink l with fab := { act := [r] }, hv := { armed := true } }
def wCb : CbLine := { tine := 40, slot := 0, line := 0x2A41, data := 0x77, mask := 0xFF, region := 2 }
def wLd (s : State) : State := s.onLd 53 fun l => { l with dec := [(0, some ⟨0, 0x10000000, 1, 256, 0, 0, true⟩)] }
def wHost (l : List (Fld × Nat)) : State := wLd { wLink l with hv := { armed := true } }

def wNc (k : NcBank) (l : List (Fld × Nat)) : State := { wOn (List.range' 12 25) l with nc := modNth State.reset.nc 3 fun _ => k }
def wBank : NcBank := { ways := [⟨5, 1, 0x2A43, 7⟩, ⟨6, 2, 0x9003, 8⟩], sb := [⟨4, 0x2A53, 9⟩], miss := [⟨0x2A83, false, [7], false, false, none⟩] }

def wDr (d : DramCh) (l : List (Fld × Nat)) : State :=
  let s := wOn (List.range' 37 16) ([(DRM_CFG_DPC 1, 1), (DRM_CFG_DPC 0, 1)] ++ l)
  { s with dr := { s.dr with ch := modNth s.dr.ch 1 fun _ => d } }
def wEnt : DqEnt := { sub := 0, write := false, line := 0x500310 * 64 + 64, cls := .demand, req := 7, origin := some .drill }

def wWn (w : Winnow) (l : List (Fld × Nat)) : State :=
  { wOn (List.range 100) ([(DRM_CFG_DPC 0, 1), (TIN_DPA_LIMIT_CAP_GIB, 16), (⟨TIN_RGN_ATTR 2, 0, 32⟩, 0x80000300), (⟨TIN_RGN_EXT 2, 0, 32⟩, 0x00000000)] ++ l)
    with win := w }
def wEnt1 : TierEnt := { state := .dramOnly, frame := some 0x500300, dirty := true, region := 2, heat := 8 }
def wTier (e : TierEnt) : SMap TierEnt := [(0xA9, e)]

def wFurL : List (Fld × Nat) :=
  [(⟨FUR_GEOM, 0, 32⟩, 0x80000040), (⟨FUR_GEOM2, 0, 32⟩, 1000), (FUR_ENDUR_NATIVE_PE, 3000), (TIN_DPA_LIMIT_CAP_GIB, 1), (DRM_CFG_DPC 0, 1)] ++
    ((List.range 32).map fun c => (⟨FUR_CH_STS c, 0, 32⟩, 0x30000001))
def wFu (f : Furrow) (l : List (Fld × Nat)) : State := { wOn (List.range 100) (l ++ [(⟨FUR_STS, 0, 32⟩, 0x20000000)] ++ wFurL) with fur := f }
/-- A slot of the page 0xA9: channel 1, superblock 5, page row 3. -/
def wLoc : Nat := 16 * 2 ^ 29 + 10 * 2 ^ 15 + 3 * 4
def wSlot : FSlot := { loc := wLoc, page := 0xA9, region := 2, wseq := 1, img := { data := [(3, 9)] }, inBuf := false }
def wSb : FSuper := { role := .data, erases := 7, closed := 3 }

/-- The power sequencer: slot 0 is VDD_CORE and of HARVEST, slot 1 depends on slot 0; PWR_STS and the two slots' status words. -/
def wPwr (sts r0 r1 : Nat) (l : List (Fld × Nat)) : State :=
  wSt ([(⟨PWR_STS, 0, 32⟩, sts), (⟨PWR_RAIL 0, 0, 64⟩, 0xE000000000000000), (⟨PWR_RAIL 1, 0, 64⟩, 0x8000001000000000),
    (⟨PWR_RSTS 0, 0, 32⟩, r0), (⟨PWR_RSTS 1, 0, 32⟩, r1)] ++ l)
def wOnHv (l : List (Fld × Nat)) : State :=
  { wPwr 0x23000000 0x3C000000 0x3C000000 l with fur := { formatted := true }, hv := { armed := true } }

/-- A Harvest that has been started, with region 2 keyed; and one that runs. -/
def wHvP (cb : List CbLine) (l : List (Fld × Nat)) : State :=
  { wPwr 0x22000000 0x3C000000 0x3C000000 ([(⟨HRV_STS, 0, 32⟩, 0x38000000), (⟨TIN_RGN_ATTR 2, 0, 32⟩, 0x80000300), (CPH_RSLOT_LOADED 3, 1)] ++ l) with
    fab := { cb := cb }, fur := { formatted := true }, hv := { armed := true, armSeq := 7, pend := some { cause := 1 } } }
def wHvR (l : List (Fld × Nat)) : State :=
  { wPwr 0x32000000 0x3C000000 0x00000000 l with fur := { formatted := true }, hv := { armed := true, armSeq := 7, run := some { cause := 1 } } }
def wDomI : Dump := { dseq := 9, cause := 1, outcome := 1, start := 0, sealed := true, image := [(3, 4)] }

def wRstS (sts grp : Nat) : State := { wPwr 0x23000000 0x3C000000 0x3C000000 [(⟨RST_GRP_STS, 0, 32⟩, sts)] with rs := { groups := grp } }

/-- Pair 0 with path A up on port 6 and keys in force, and what it holds. -/
def wYk (y : YPair) (l : List (Fld × Nat)) : State :=
  { wOn [89] (l ++ [(YOK_CTL_ENABLE, 1), (YOK_STS_TWIN, 2), (⟨YOK_PAIR 0, 0, 32⟩, 0x80000000), (CPH_PFSLOT_PATH_LOADED, 1), (NPT_STS_SUB_UP 6, 1)]) with
    yk := { pairs := [{ y with keyed := true }, {}] } }
def wHdr (seq ack : Nat) : YokeHdr := ⟨0, 0, false, BitVec.ofNat 48 seq, BitVec.ofNat 48 ack, false, true⟩
def wRole : YokeEntry := .role 2 0 1 1 7 4
def wEntS : YSent := ⟨wRole, 2, none, 2, 5⟩
def wRg2 : List (Fld × Nat) := [(⟨TIN_RGN_EXT 2, 0, 32⟩, 0x30004), (⟨TIN_RGN_ATTR 2, 0, 32⟩, 0x80000304)]
def wHeal : Heal := { num := 9, line := 0x2A40, page := true, why := .command, win := 54 }

/-- A port with its registers set. -/
def wNp (l : List (Fld × Nat)) : State := wOn [4, 5, 6, 7, 8, 9, 10, 11] l

/-- Mailboxes and cores: window 94 and 93 on. -/
def wMb (l : List (Fld × Nat)) : State := wOn [93, 94] l

/-- A Granary of 16 Ki buffers, ready, with two held. -/
def wGr (l : List (Fld × Nat)) : State :=
  { wOn [91] ([(GRN_CTL_ENABLE, 1), (⟨GRN_STS, 0, 64⟩, 2 ^ 31 + 2 ^ 30)] ++ l) with
    grn := { stack := [3], next := 9, held := [⟨7, 5, 2, false⟩, ⟨8, 5, 1, true⟩, ⟨2, 5, 1, false⟩] } }

/-- Connection 20 on port 1, OPEN with its key, region 2 open to its group 5, one Granary buffer free. -/
def wDl (c : DConn) (l : List (Fld × Nat)) : State :=
  { wOn [12, 13, 14, 54, 90, 91, 94] (l ++ wLinkL ++ [(⟨DRL_CTL, 0, 32⟩, 0x8000003F), (CPH_CLOAD_BITS 0, 2 ^ 20), (NPT_STS_SUB_UP 1, 1),
      (⟨GRN_CTL, 0, 32⟩, 1), (⟨GRN_STS, 0, 32⟩, 0xC0000000), (⟨TIN_CGB 5, 0, 32⟩, 0x80000000), (TIN_RGN_CGRD_MASK 2, 0x20), (TIN_RGN_CGWR_MASK 2, 0x20)]) with
    hv := { armed := true }, grn := { stack := [3], next := 9 }, clk := 1000,
    dl := { conns := [(20, { c with state := (if c.state = 0 then 2 else c.state), desc := (if c.desc = 0 then 0x0100000500 else c.desc), ackAt := some 995 })] } }
def wDh (psn : Nat) : DrlHdr := { conn := 20, path := 0, attempt := 0, seq := BitVec.ofNat 48 psn, ack := 0, port := 1 }
def wJqx (q : Nat) : BitVec 128 := BitVec.ofNat 128 (q + 65536)
/-- Queue 6 is ACTIVE and owned by connection 20. -/
def wJq (c : DConn) (k : JQueue) (l : List (Fld × Nat)) : State :=
  let s := wDl c (l ++ [(⟨DRL_JQ_STATE 6, 0, 64⟩, 2 ^ 61 + 20 * 2 ^ 46), (DRL_JQ_CTL_ENABLE, 1)])
  { s with dl := { s.dl with jqs := [(6, k)] } }
def wNop : List Byte := [4] ++ List.replicate 63 0

/-- Descriptors: a FILL of one line of region 2 at page 0xA9, a NOP, a PUSH of one line. -/
def wFill : Line := BitVec.ofNat 512 (2 + 64 * 2 ^ 32 + 0xA9040 * 2 ^ 128)
def wNopD : Line := 4
def wPush : Line := BitVec.ofNat 512 (3 + 64 * 2 ^ 32 + 0xA9040 * 2 ^ 64)
/-- A started PUSH of queue 6, its one packet read as operation 3. -/
def wJr : JRun := { id := 9, queue := 6, num := 1, d := wPush, next := 1, parts := [(0, 3)] }
def wOp3 : MemOp := { id := 3, left := 0, group := 5, data := [(0x2A41, 77, false)], buf := some 3, hold := 0 }

/-- A firmware job of core H0 in CTR mode under slot 5, queued and started. -/
def wFj : FwJob := { agent := .h0, mode := 3, dec := false, slot := 5, src := 0, dst := 64, len := 32, aad := 0, iv := 9, tag := 0 }

/-- Core H0 runs; the embedded flash holds what is given. -/
def wEfl (l : List (Fld × Nat)) (e : Efl) : State := { wOn [95] ((HDL_CORE_STS_STATE 0, 2) :: l) with efl := e }

/-- A Geltia request of the BMC in MB35's IN slot: its opcode, TAG 7, P and D; core H0 runs. -/
def wAsk (op : Nat) (p d : List Byte) (l : List (Fld × Nat)) : State :=
  { wOn [94] (l ++ [(HDL_CORE_STS_STATE 0, 2), (MBX_CH_STS_IN_FULL 35, 1), (⟨MBX_CH_CTL 35, 0, 32⟩, 0), (MBX_IN_HDR_HEADER 35, 3 * 2 ^ 61 + 1),
      (MBX_IN_MSG 35 0, op + 7 * 2 ^ 16 + d.length * 2 ^ 48)] ++
      (List.range 7).map fun k => (MBX_IN_MSG 35 (k + 1), ofBytes ((p.drop (8 * k)).take 8))) with
    mb := { bulk := wrBytes [] (bulkBase 35 false) d } }

/-- The same as Headland reads it. -/
def wCmd (op : Nat) (p d : List Byte) : Cmd :=
  { chan := 35, seq := 1, op := op, tag := 7, kind := 3, world := false, source := 0, core := .h0, admin := false, blen := d.length,
    p := padTo 56 p, d := d, raw := d }

/-- A Geltia request of the twin in MB56's IN slot: its opcode and P. -/
def wAskT (op : Nat) (p : List Byte) (l : List (Fld × Nat)) : State :=
  wOn [94] (l ++ [(HDL_CORE_STS_STATE 0, 2), (MBX_CH_STS_IN_FULL 56, 1), (⟨MBX_CH_CTL 56, 0, 32⟩, 0), (MBX_IN_HDR_HEADER 56, 4 * 2 ^ 61 + 1),
      (MBX_IN_MSG 56 0, op + 7 * 2 ^ 16)] ++
      (List.range 7).map fun k => (MBX_IN_MSG 56 (k + 1), ofBytes ((p.drop (8 * k)).take 8)))

/-- The same as Headland reads it. -/
def wCmdT (op : Nat) (p : List Byte) : Cmd :=
  { chan := 56, seq := 1, op := op, tag := 7, kind := 4, world := false, source := 0, core := .h0, admin := false, blen := 0,
    p := padTo 56 p, d := [], raw := [] }

/-- A standard command of LD index 3 (link 2, LD 4) in MB05's IN slot, with its payload; core H0 runs. -/
def wStd (op : Nat) (raw : List Byte) (l : List (Fld × Nat)) : State :=
  { wOn [94] (l ++ [(HDL_CORE_STS_STATE 0, 2), (MBX_CH_STS_IN_FULL 5, 1), (⟨MBX_CH_CTL 5, 0, 32⟩, 0), (MBX_IN_HDR_HEADER 5, 2 ^ 61 + 3 * 2 ^ 48 + 1),
      (MBX_IN_MSG 5 0, op + raw.length * 2 ^ 48), (⟨PWR_PD 12, 0, 32⟩, 0x80000000), (⟨TIN_LDB 3, 0, 32⟩, 0)] ++ (List.range 7).map fun k => (MBX_IN_MSG 5 (k + 1), 0)) with
    mb := { bulk := wrBytes [] (bulkBase 5 false) raw } } |>.wr (TIN_LDB_VALID 3) 1 |>.wr (TIN_LDB_LINK 3) 2 |>.wr (TIN_LDB_LD 3) 4

/-- The same as Headland reads it. -/
def wStdC (op : Nat) (raw : List Byte) : Cmd :=
  { chan := 5, seq := 1, op := op, tag := 0, kind := 1, world := false, source := 3, core := .h0, admin := false, blen := raw.length,
    p := padTo 56 raw, d := raw.drop 56, raw := raw }

/-- A state with the LD of link 2, LD 4 as given. -/
def wLd36 (s : State) (l : LdSt) : State := { s with hp := { s.hp with ld := [(36, l)] } }

/-! ## Single steps, with values taken from the spec -/

/-- The state after an answer of next. -/
def stOf : Res → State
  | .next t => t
  | _ => State.reset

/-- The mailbox window is on, and the worlds are locked. -/
def tMb : State := wOn [12, 94] [(TIN_WORLD_LOCK_LOCK, 1)]

/-- R614: 25 MHz, 40 ns a tick. -/
theorem test_idle_is_a_tick : (stOf (step State.reset)).stampTime = 40 := by decide +kernel

/-- The queue is first in, first out. -/
theorem test_queue_first_in_first_out :
    (stOf (step { State.reset with pending := [.tapReset, .memInv 3 5 9] })).pending = [.memInv 3 5 9] := by decide +kernel

/-- R101: MemInv does nothing and returns Cmp. -/
theorem test_mem_inv_returns_cmp : (stOf (execMemInv 3 5 9 (wLink []))).out.head? = some (.ndr 3 5 9 ((wLink []).devLoad 0)) := by
  decide +kernel

/-- R40: the identity register holds block code, instance, power domain and layout 1. -/
theorem test_identity_layout_is_one : csrDefault 0x400C0000 = BitVec.ofNat 64 ((winId 12).1 * 2 ^ 24 + (winId 12).2 * 2 ^ 16 + winPdom 12 * 2 ^ 8 + 1) := by
  decide +kernel

/-- R44: 65,536 GiB is the most. -/
theorem test_dpa_limit_is_capped : (stOf (execDpaLimitWrite .h0 70000 (wOn [12] []))).rd TIN_DPA_LIMIT_CAP_GIB = 65536 := by decide +kernel

/-- R95: with CAP_GIB at 20,480 an LD reports DCR0 and DCR1 at 8 TiB each and DCR2 at 4 TiB. -/
theorem test_dc_regions_of_20_tib : (wOn [12] [(TIN_DPA_LIMIT_CAP_GIB, 20480)]).dcRegions = [(0, 8192), (1, 8192), (2, 4096)] := by decide +kernel

/-- R73: a COMMIT before the lock is refused with UNLOCKED, 0xC. -/
theorem test_commit_before_the_lock : (stOf (execRgnCommit .h0 2 (wOn [12] []))).rd TIN_RGN_STATUS_RESULT = 0xC := by decide +kernel

/-- R73: a DESTROY of a region that is not valid is refused with NOT_VALID, 0xB. -/
theorem test_destroy_of_no_region : (stOf (execRgnDestroy .h0 2 tMb)).rd TIN_RGN_STATUS_RESULT = 0xB := by decide +kernel

/-- R114: with nothing fenced, the home tine of bucket b is tine b. -/
theorem test_home_with_nothing_fenced : [0, 31, 32, 255].map (wOn [12] []).homeTine = [0, 31, 32, 255] := by decide +kernel

/-- R461: the holder that reads again sees ACQUIRED 0 with itself as OWNER. -/
theorem test_holder_reads_its_semaphore :
    (stOf (execSemRead .h2 7 (stOf (execSemRead .h2 7 tMb)))).out.head? = some (.ctrl .h2 0x40000002) := by decide +kernel

/-- R17: a half write leaves the other half as it is. -/
theorem test_half_write_keeps_the_other_half :
    (stOf (execCtrlRegWrite .h0 (BitVec.ofNat 32 (TIN_STG_LDRD + 4)) false 7 {} (wOn [12] [(TIN_STG_LDRD_MASK, 5)]))).rdW TIN_STG_LDRD = 0x700000005 := by
  decide +kernel

/-- R38: the address above the map is unassigned, and bit 0 of the recorder's window is raised. -/
theorem test_unassigned_raises_the_recorder :
    (stOf (execUnassignedAccess .h0 false 0x40640000 false 0 State.reset)).bitOf (FLT_STS_CAUSE 98) 0 = true := by decide +kernel

/-- R597: a bit whose cause is live does not clear. -/
theorem test_live_fault_does_not_clear :
    (stOf (execFltStsClear .h0 12 6 (wOn [12] [(⟨FLT_STS 12, 0, 32⟩, 6), (⟨FLT_LIVE 12, 0, 32⟩, 2)]))).rdW (FLT_STS 12) = 2 := by decide +kernel

/-- R613: an injected cause of window 12 leaves one record, with SOURCE 12. -/
theorem test_injected_cause_is_recorded :
    ((stOf (execFltInject .h0 12 4 (wOn [12] []))).rcd.queue.map fun r => r.src) = [12] := by decide +kernel

/-- R617: the queue holds 128 records; the next one is counted. -/
theorem test_full_queue_counts_the_drop :
    (stOf (execFltInject .h0 12 4 { wOn [12] [] with rcd := { queue := List.replicate 128 ⟨1, 2, 3, []⟩ } })).rd REC_LOST_LOST_QUEUE = 1 := by
  decide +kernel

/-- R451, R453: the first message of a slot has SEQ 1. -/
theorem test_first_message_has_seq_one : (stOf (execMbxSend .sb false 35 tMb)).mbxSeq 35 false = 1 := by decide +kernel

/-- R422: a CBC job whose length is no multiple of 16 is refused. -/
theorem test_cbc_length : (FwJob.lenOk ⟨.h0, 2, false, 0, 0, 0, 24, 0, 0, 0, none⟩) = false := by decide +kernel

/-- FIPS 197, example C.3: AES-256 of the block 00 11 … FF under the key 00 01 … 1F. -/
theorem test_aes_example :
    aes 0x1f1e1d1c1b1a191817161514131211100f0e0d0c0b0a09080706050403020100 0xffeeddccbbaa99887766554433221100 =
      0x8960494b9049fceabf456751cab7a28e := by decide +kernel

/-- The same block decrypted. -/
theorem test_aes_inverse_example :
    aesInv 0x1f1e1d1c1b1a191817161514131211100f0e0d0c0b0a09080706050403020100 0x8960494b9049fceabf456751cab7a28e =
      0xffeeddccbbaa99887766554433221100 := by decide +kernel

/-- FIPS 180-4, example of SHA-384 of "abc": its first eight bytes. -/
theorem test_sha384_example : (sha384 [0x61, 0x62, 0x63]).take 8 = [0xcb, 0x00, 0x75, 0x3f, 0x45, 0xa3, 0x5e, 0x8b] := by decide +kernel

/-- R582: a device reset does not touch a device that is not ON. -/
theorem test_device_reset_outside_on : stOf (execDeviceReset State.reset) = State.reset := by decide +kernel

/-- R537, R538: a root that is already programmed is not programmed again. -/
theorem test_otp_root_once :
    (stOf (execOtpGenRoot 0 { wOn [95] [] with efl := { otp := [(4, 1)] } })).efl.otp = [(4, 1)] := by decide +kernel

/-! ## What an LD presents and what reaches the media -/

/-- The example of R95 (20,480 GiB), and R93 for a link at 64 GT/s x16 (R81). -/
theorem test_cdat : (wSt [(TIN_DPA_LIMIT_CAP_GIB, 20480), (⟨HPT_LSTS 0 0, 0, 32⟩, 0x33800000)]).cdat 0 =
    [.dsmas 0 8192 true, .dsmas 1 8192 true, .dsmas 2 4096 true, .dslbis 110 37 128 128] := by decide +kernel
/-- R299: a line record of line 1 with MW. -/
theorem test_line_record : (LineRec.bytes { line := 1, mask := 0xFF, data := 7, mw := true, region := 0 }).take 17 =
    [0x40, 0, 0, 0, 0, 0, 0, 0xC0, 0xFF, 0, 0, 0, 0, 0, 0, 0, 7] := by decide +kernel
/-- R213: a DRAM_DIRTY entry of HEAT 1 in frame 2 of region 3. -/
theorem test_tier_word : (TierEnt.word { state := .dramDirty, heat := 1, frame := some 2, dirty := true, region := 3 }) = 0x6020000000A00C00 := by decide
/-- R300: the magic, the layout version, the cause and the outcome. -/
theorem test_manifest_magic : (Dump.manifestHead { dseq := 9, cause := 1, outcome := 2, start := 0, sealed := true }).take 9 =
    [0x48, 0x52, 0x56, 0x4D, 1, 0, 1, 2, 9] := by decide +kernel

/-! ## Ill-formed terms that WellFormed refuses -/

theorem test_wf_width : Instr.wf (.linkTrainDone 0 0 3 3 false true) = false := by decide
theorem test_wf_recovery_width : Instr.wf (.linkRecovery 0 0 3 0 0) = false := by decide
theorem test_wf_hdm : Instr.wf (.hdmDecoderCommit 0 0 0 ⟨0, 0, 4, 256, 4, 0, false⟩) = false := by decide
theorem test_wf_aged : Instr.wf (.requestAged 0 128) = false := by decide
theorem test_wf_data_in : Instr.wf (.onfiDataIn .h0 0 0 1 [1, 2]) = false := by decide
theorem test_wf_yoke_run : Instr.wf (.yokeDataReceive ⟨0, 0, false, 1, 0, false, true⟩ [.zero 63 1]) = false := by decide
theorem test_wf_yoke_full : Instr.wf (.yokeDataReceive ⟨0, 0, false, 1, 0, false, true⟩ [.full 5 []]) = false := by decide
theorem test_wf_yoke_heal : Instr.wf (.yokeDataReceive ⟨0, 0, false, 1, 0, false, true⟩ [.heal 1 63 [0, 0]]) = false := by decide
theorem test_wf_yoke_role : Instr.wf (.yokeDataReceive ⟨0, 0, false, 1, 0, false, true⟩ [.role 0 0 0 0 0 (2 ^ 32)]) = false := by decide
theorem test_wf_heal_rsp : Instr.wf (.healRspReceive ⟨0, 0, false, 1, 0, false, true⟩ 1 0 (List.replicate 65 0) 0) = false := by decide +kernel
theorem test_wf_relay : Instr.wf (.yokeMbxReceive ⟨0, 0, false, 1, 0, false, true⟩ 56 0 []) = false := by decide
theorem test_wf_fifo : Instr.wf (.drlKeepaliveReceive { conn := 0, path := 0, attempt := 0, seq := 0, ack := 0, port := 0, fifo := 4097 }) = false := by decide
theorem test_wf_job : Instr.wf (.drlJob { conn := 0, path := 0, attempt := 0, seq := 0, ack := 0, port := 0, fifo := 0 } 0 [1]) = false := by decide
theorem test_wf_drill_message : Instr.wf (.drlMbxReceive { conn := 0, path := 0, attempt := 0, seq := 0, ack := 0, port := 0, fifo := 0 } []) = false := by decide
theorem test_wf_error_records : Instr.wf (.drlErrorReceive { conn := 0, path := 0, attempt := 0, seq := 0, ack := 0, port := 0, fifo := 0 } 0 [1]) = false := by decide
theorem test_wf_drill_data :
    Instr.wf (.drlWrite { conn := 0, path := 0, attempt := 0, seq := 0, ack := 0, port := 0, fifo := 0 } 0 (List.replicate 4097 0)) = false := by decide +kernel
theorem test_wf_mailbox : Instr.wf (.hwSenderPresent (.cxl 0 0 0 (List.replicate 4097 0))) = false := by decide +kernel
theorem test_wf_pmbus : Instr.wf (.pmbusTransaction .h0 0 0 (List.replicate 33 0)) = false := by decide +kernel
theorem test_wf_cut : Instr.wf (.wdtExpiry (some ⟨false, 0, [0], 1⟩)) = false := by decide
theorem test_wf_buffer : Instr.wf (.ctrlRegWrite .h0 0 false 0 { data := List.replicate 8192 0 }) = false := by decide +kernel
theorem test_wf_buffer32 : Instr.wf (.sbWrite32 true 0 0 { data := List.replicate 8192 0 }) = false := by decide +kernel
theorem test_wf_buffer64 : Instr.wf (.sbWrite64 true 0 0 { data := List.replicate 8192 0 }) = false := by decide +kernel
theorem test_wf_otp : Instr.wf (.romBoot [3, 3] 0 0) = false := by decide
theorem test_wf_stripe : Instr.wf (.stripeProgramDone 0 [1, 1] []) = false := by decide
theorem test_wf_erase : Instr.wf (.superblockEraseDone 0 [1, 1]) = false := by decide
theorem test_wf_allows_the_rest : Instr.wf (.linkTrainDone 0 0 3 16 false true) = true := by decide

/-! ## Witnesses of the statements' hypotheses -/

theorem wit_AStepRunsTheFrontCommandOrLetsTheCrystalTick_2 : ∃ (s : State), (s.pending = []) ∧ (s.cs.bg = []) ∧ (∀ n < 4, s.coreState n ≠ 2) :=
  ⟨State.reset, by decide +kernel⟩

theorem wit_APlainRegisterWriteStoresItsFieldsByAccessCode_1 : ∃ (s : State) (a : Agent) (addr : BitVec 32) (wide : Bool) (v : Word64) (env : BusEnv) (i : Nat) (d : RegDef) (k b : Nat), (s.reach a true wide addr.toNat = .reg i d k b) ∧ (d.name ∉ ownRule) ∧ (0x100 ≤ d.off) :=
  ⟨wOn [12] [(TIN_STG_LDRD_MASK, 5)], .h0, BitVec.ofNat 32 (TIN_STG_LDRD + 4), false, 7, {}, 12, (findReg 12 0x848).get!.1, 0, 4, by decide +kernel⟩

theorem wit_AccessesTurnedAwayReadZeroWriteNothingAndAreRecorded_1 : ∃ (s : State) (a : Agent) (addr : BitVec 32) (wide : Bool) (v : Word64) (env : BusEnv) (r : Nat), (s.reach a true wide addr.toNat = .bad r) ∧ (s.rcd.queue.length < 128) :=
  ⟨wOn [] [], .h1, 0x400C0848, true, 1, {}, 4, by decide +kernel⟩

theorem wit_AccessesTurnedAwayReadZeroWriteNothingAndAreRecorded_2 : ∃ (s : State) (a : Agent) (wr : Bool) (addr : BitVec 32) (wide : Bool) (v : Word64), (s.reach a wr wide addr.toNat = .bad 2) ∧ (s.rcd.queue.length < 128) :=
  ⟨wOn [12] [], .h0, false, 0x400C0FF8, true, 0, by decide +kernel⟩

theorem wit_AccessesTurnedAwayReadZeroWriteNothingAndAreRecorded_3 : ∃ (s : State) (a : Agent) (wr : Bool) (addr : BitVec 32) (wide : Bool) (v : Word64), (s.reach a wr wide addr.toNat = .bad 4) ∧ (s.rcd.queue.length < 128) :=
  ⟨wOn [] [], .h0, true, 0x400C0848, true, 3, by decide +kernel⟩

theorem wit_AccessesTurnedAwayReadZeroWriteNothingAndAreRecorded_4 : ∃ (s : State) (wr : Bool) (addr : BitVec 32) (wide : Bool) (v : Word64), (s.reach .sb wr wide addr.toNat = .bad 3) ∧ (s.rcd.queue.length < 128) :=
  ⟨wOn [12] [], false, 0x400C0848, true, 0, by decide +kernel⟩

theorem wit_AccessesTurnedAwayReadZeroWriteNothingAndAreRecorded_5 : ∃ (s : State) (a : Agent) (wr : Bool) (addr : BitVec 32) (size : AccSize) (v : Word64), (s.badWidth a wr addr.toNat size = true) ∧ (s.rcd.queue.length < 128) :=
  ⟨wOn [12] [], .h2, true, 0x400C084C, .b8, 9, by decide +kernel⟩

theorem wit_AccessesTurnedAwayReadZeroWriteNothingAndAreRecorded_6 : ∃ (s : State) (a : Agent) (wr : Bool) (addr : BitVec 32) (v : Word64), (s.rcd.queue.length < 128) :=
  ⟨wOn [] [], .sb, false, 0x3FFFFFFF, 0, by decide +kernel⟩

theorem wit_HalvesOfA64BitRegisterAreReadThroughTheShadow_1 : ∃ (s : State) (a : Agent) (addr : BitVec 32) (i : Nat) (d : RegDef) (k : Nat), (s.reach a false false addr.toNat = .reg i d k 0) ∧ (d.w64 = true) :=
  ⟨wOn [12] [(TIN_STG_LDRD_MASK, 5)], .h0, BitVec.ofNat 32 TIN_STG_LDRD, 12, (findReg 12 0x848).get!.1, 0, by decide +kernel⟩

theorem wit_HalvesOfA64BitRegisterAreReadThroughTheShadow_2 : ∃ (s : State) (a : Agent) (addr : BitVec 32) (i : Nat) (d : RegDef) (k : Nat) (h : Shadow), (s.reach a false false addr.toNat = .reg i d k 4) ∧ (d.w64 = true) ∧ ((s.shadow.find? fun h => h.a == a && h.addr + 4 == addr.toNat) = some h) :=
  ⟨{ wOn [12] [(TIN_STG_LDRD_MASK, 5)] with shadow := [⟨.h0, TIN_STG_LDRD, 77⟩] }, .h0, BitVec.ofNat 32 (TIN_STG_LDRD + 4), 12, (findReg 12 0x848).get!.1, 0, ⟨.h0, TIN_STG_LDRD, 77⟩, by decide +kernel⟩

theorem wit_HalvesOfA64BitRegisterAreReadThroughTheShadow_3 : ∃ (s : State) (a : Agent) (addr : BitVec 32) (i : Nat) (d : RegDef) (k : Nat), (s.reach a false false addr.toNat = .reg i d k 4) ∧ (d.w64 = true) ∧ ((s.shadow.find? fun h => h.a == a && h.addr + 4 == addr.toNat) = none) :=
  ⟨wOn [12] [(TIN_STG_LDRD_MASK, 5 * 2 ^ 32)], .h0, BitVec.ofNat 32 (TIN_STG_LDRD + 4), 12, (findReg 12 0x848).get!.1, 0, by decide +kernel⟩

theorem wit_SidebandTransfersPerformOneControlSpaceAccess_1 : ∃ (s : State) (addr : BitVec 32) (v : BitVec 32) (env : BusEnv), (s.sbUp = true) :=
  ⟨wOn [94] [], 0x405E0100, 5, {}, by decide +kernel⟩

theorem wit_SidebandTransfersPerformOneControlSpaceAccess_2 : ∃ (s : State) (addr : BitVec 32) (v : Word64) (env : BusEnv), (s.sbUp = true) :=
  ⟨wOn [94] [], 0x405E0100, 5, {}, by decide +kernel⟩

theorem wit_SidebandTransfersPerformOneControlSpaceAccess_3 : ∃ (s : State) (addr : BitVec 32) (v : BitVec 32) (env : BusEnv), (s.sbUp = true) :=
  ⟨wOn [94] [], 0x405E0100, 5, {}, by decide +kernel⟩

theorem wit_SidebandTransfersPerformOneControlSpaceAccess_4 : ∃ (s : State) (addr : BitVec 32) (v : Word64) (env : BusEnv), (s.sbUp = true) :=
  ⟨wOn [94] [], 0x405E0100, 5, {}, by decide +kernel⟩

theorem wit_SidebandTransfersPerformOneControlSpaceAccess_5 : ∃ (s : State) (addr : BitVec 32), (s.sbUp = true) :=
  ⟨wOn [94] [], 0x405E0000, by decide +kernel⟩

theorem wit_SidebandTransfersPerformOneControlSpaceAccess_6 : ∃ (s : State) (addr : BitVec 32), (s.sbUp = true) :=
  ⟨wOn [98] [], 0x40620120, by decide +kernel⟩

theorem wit_SidebandTransfersPerformOneControlSpaceAccess_7 : ∃ (s : State), (s.sbUp = true) ∧ (s.pw.sbRead = none) :=
  ⟨State.reset, by decide +kernel⟩

theorem wit_SidebandTransfersPerformOneControlSpaceAccess_8 : ∃ (s : State) (addr : BitVec 7), (s.sbUp = true) :=
  ⟨State.reset, 9, by decide +kernel⟩

theorem wit_SidebandTransfersPerformOneControlSpaceAccess_9 : ∃ (s : State), (s.sbUp = true) :=
  ⟨{ State.reset with pw := { State.reset.pw with i3c := some 9 } }, by decide +kernel⟩

theorem wit_SidebandTransfersPerformOneControlSpaceAccess_10 : ∃ (s : State), (s.pw.sbRead.isSome = true) :=
  ⟨{ State.reset with pw := { State.reset.pw with sbRead := some ⟨true, true, 4⟩ } }, by decide +kernel⟩

theorem wit_SidebandTransfersPerformOneControlSpaceAccess_11 : ∃ (s : State), (s.sbUp = true) ∧ (s.pw.i3c = none) ∧ (s.mbxAlert = true) :=
  ⟨wSt [(MBX_CH_STS_OUT_FULL 40, 1)], by decide +kernel⟩

theorem wit_TheRegionLimitLockAndCaptureAreWrittenAsTheirRulesSay_1 : ∃ (s : State) (a : Agent) (v : BitVec 32), (s.reaches a TIN_DPA_LIMIT = true) ∧ (∀ r < 256, s.rgnValid r = false ∧ s.rgnReleasing r = false) :=
  ⟨wOn [12] [], .h0, 70000, by decide +kernel⟩

theorem wit_TheRegionLimitLockAndCaptureAreWrittenAsTheirRulesSay_2 : ∃ (s : State) (a : Agent) (v : BitVec 32) (r : Fin 256), (s.reaches a TIN_DPA_LIMIT = true) ∧ (s.rgnValid r = true ∨ s.rgnReleasing r = true) ∧ (s.rcd.queue.length < 128) :=
  ⟨wOn [12] [(TIN_RGN_ATTR_VALID 7, 1)], .h0, 70000, 7, by decide +kernel⟩

theorem wit_TheRegionLimitLockAndCaptureAreWrittenAsTheirRulesSay_3 : ∃ (s : State) (a : Agent), (s.reaches a TIN_WORLD_LOCK = true) :=
  ⟨wOn [12] [], .h0, by decide +kernel⟩

theorem wit_TheRegionLimitLockAndCaptureAreWrittenAsTheirRulesSay_4 : ∃ (s : State) (a : Agent), (s.reaches a TIN_CHK_LAST = true) ∧ (s.agentSecure a = true) :=
  ⟨wOn [12] [(TIN_CHK_LAST_VALID, 1)], .h0, by decide +kernel⟩

theorem wit_TheRegionLimitLockAndCaptureAreWrittenAsTheirRulesSay_5 : ∃ (s : State) (a : Agent), (s.reaches a TIN_CHK_LAST = true) ∧ (s.agentSecure a = false) ∧ (s.on TIN_CHK_LAST_VALID = true) ∧ (3 ≤ s.rd TIN_CHK_LAST_REASON) ∧ (s.secureRegion (s.rd TIN_CHK_LAST_REGION) = true) :=
  ⟨wOn [12] [(TIN_CHK_LAST_REGION, 2 ^ 39 + 5 + 3 * 2 ^ 20 / 2 ^ 24 + 0), (TIN_RGN_ATTR_WORLD 5, 0x80000001)] |>.wr TIN_CHK_LAST_REASON 3, .h1, by decide +kernel⟩

theorem wit_TheRegionLimitLockAndCaptureAreWrittenAsTheirRulesSay_6 : ∃ (s : State) (a : Agent) (r : Fin 256), (s.reaches a TIN_RGN_COMMIT = true) ∧ (s.on TIN_RGN_STATUS_BUSY = false) :=
  ⟨wOn [12] [], .h0, 9, by decide +kernel⟩

theorem wit_TheRegionLimitLockAndCaptureAreWrittenAsTheirRulesSay_7 : ∃ (s : State) (a : Agent) (r : Fin 256), (s.reaches a TIN_RGN_COMMIT = true) ∧ (s.on TIN_RGN_STATUS_BUSY = false) ∧ (s.agentSecure a = true ∨ s.secureRegion r = false) :=
  ⟨wOn [12] [(TIN_RGN_ATTR_KEY_SLOT 9, 0x800007), (TIN_RGN_LDRD_MASK 9, 3)], .h0, 9, by decide +kernel⟩

theorem wit_ACommitSwitchesTheLiveEntryAndAReleaseEmptiesIt_1 : ∃ (s : State) (a : Agent) (r : Fin 256), (s.reaches a TIN_RGN_COMMIT = true) ∧ (s.on TIN_RGN_STATUS_BUSY = false) ∧ (s.commitResult (s.agentSecure a) r = 0) :=
  ⟨wOn [12, 54] [(TIN_DPA_LIMIT_CAP_GIB, 16), (TIN_WORLD_LOCK_LOCK, 1), (CPH_RSLOT_LOADED 3, 1), (TIN_STG_EXT_BASE_GIB, 0x20004), (TIN_STG_LDRD_MASK, 5), (TIN_STG_LDWR_MASK, 4), (TIN_STG_ATTR_KEY_SLOT, 3)], .h0, 2, by decide +kernel⟩

theorem wit_ACommitSwitchesTheLiveEntryAndAReleaseEmptiesIt_2 : ∃ (s : State) (a : Agent) (r : Fin 256), (s.reaches a TIN_RGN_COMMIT = true) ∧ (s.on TIN_RGN_STATUS_BUSY = false) ∧ (s.commitResult (s.agentSecure a) r ≠ 0) :=
  ⟨wOn [12] [], .h0, 2, by decide +kernel⟩

theorem wit_ACommitSwitchesTheLiveEntryAndAReleaseEmptiesIt_3 : ∃ (s : State) (a : Agent) (r : Fin 256), (s.reaches a TIN_RGN_COMMIT = true) ∧ (s.on TIN_RGN_STATUS_BUSY = false) ∧ (s.agentSecure a = true ∨ s.rgnSecure r = false) ∧ (s.rgnReleasing r = false) ∧ (s.rgnValid r = true) :=
  ⟨wOn [12, 54] [(TIN_DPA_LIMIT_CAP_GIB, 16), (TIN_RGN_ATTR_VALID 2, 1)], .h0, 2, by decide +kernel⟩

theorem wit_ACommitSwitchesTheLiveEntryAndAReleaseEmptiesIt_4 : ∃ (s : State) (a : Agent) (r : Fin 256), (s.reaches a TIN_RGN_COMMIT = true) ∧ (s.on TIN_RGN_STATUS_BUSY = false) ∧ (s.destroyResult (s.agentSecure a) r ≠ 0) :=
  ⟨wOn [12] [], .h0, 2, by decide +kernel⟩

theorem wit_ACommitSwitchesTheLiveEntryAndAReleaseEmptiesIt_5 : ∃ (s : State) (a : Agent) (r : Fin 256), (s.reaches a TIN_RGN_COMMIT = true) ∧ (s.on TIN_RGN_STATUS_BUSY = true) :=
  ⟨wOn [12] [(TIN_RGN_STATUS_BUSY, 1)], .h0, 2, by decide +kernel⟩

theorem wit_ACommitSwitchesTheLiveEntryAndAReleaseEmptiesIt_6 : ∃ (s : State) (o : RgnOp), (s.fab.rgnOp = some o) ∧ (o.destroy = false) ∧ ((s.fab.act.any fun q => o.old.contains q.id) = false) :=
  ⟨{ wOn [12] [(TIN_RGN_STATUS_BUSY, 1)] with fab := { rgnOp := some ⟨2, [], false⟩ } }, ⟨2, [], false⟩, by decide +kernel⟩

theorem wit_ACommitSwitchesTheLiveEntryAndAReleaseEmptiesIt_7 : ∃ (s : State) (o : RgnOp), (s.fab.rgnOp = some o) ∧ (o.destroy = true) ∧ ((s.fab.act.any fun q => o.old.contains q.id) = false) :=
  ⟨{ wOn [12] [(TIN_RGN_STATUS_BUSY, 1)] with fab := { rgnOp := some ⟨2, [], true⟩ } }, ⟨2, [], true⟩, by decide +kernel⟩

theorem wit_ACommitSwitchesTheLiveEntryAndAReleaseEmptiesIt_8 : ∃ (s : State) (r : Nat) (l : List Nat), (s.fab.releasing = r :: l) ∧ (r < 256) ∧ (s.fab.xbar = []) ∧ (s.fab.queue = []) ∧ (s.fab.act = []) ∧ (s.fab.cb = []) ∧ (s.win.unswept = []) ∧ (s.invPending (.release r) = false) :=
  ⟨{ wOn [12, 54] [(TIN_DPA_LIMIT_CAP_GIB, 16), (TIN_RGN_ATTR_RELEASING 2, 1)] with fab := { releasing := [2] }, win := { tier := [(5, { state := .dramDirty, frame := some 7, dirty := true, region := 2 })] } }, 2, [], by decide +kernel⟩

theorem wit_ACommitSwitchesTheLiveEntryAndAReleaseEmptiesIt_9 : ∃ (s : State) (r : Nat) (l : List Nat) (p : Nat), (s.fab.releasing = r :: l) ∧ (r < 256) ∧ (s.fab.xbar = []) ∧ (s.fab.queue = []) ∧ (s.fab.act = []) ∧ (s.fab.cb = []) ∧ (s.win.unswept = []) ∧ (s.invPending (.release r) = false) ∧ (s.rgnBase r * 262144 ≤ p) ∧ (p < (s.rgnBase r + s.rgnSize r) * 262144) :=
  ⟨{ wOn [12, 54] [(TIN_DPA_LIMIT_CAP_GIB, 16), (TIN_RGN_ATTR_RELEASING 2, 1)] with fab := { releasing := [2] }, win := { tier := [(5, { state := .dramDirty, frame := some 7, dirty := true, region := 2 })] } }, 2, [], 5, by decide +kernel⟩

theorem wit_SublinksAreConfiguredAndTrainedAsTheirRegistersSay_1 : ∃ (s : State) (a : Agent) (p : Fin 4) (m : BitVec 2), (s.reaches a (HPT_BIFUR p) = true) ∧ (m.toNat < 3) ∧ (∀ q : Fin 4, s.on (HPT_LCTL_ENABLE p q) = false) :=
  ⟨wOn [1] [], .h0, 1, 2, by decide +kernel⟩

theorem wit_SublinksAreConfiguredAndTrainedAsTheirRegistersSay_2 : ∃ (s : State) (a : Agent) (p : Fin 4) (m : BitVec 2) (q : Fin 4), (s.reaches a (HPT_BIFUR p) = true) ∧ (m.toNat < 3) ∧ (s.on (HPT_LCTL_ENABLE p q) = true) :=
  ⟨wOn [1] [(HPT_LCTL_ENABLE 1 3, 1)], .h0, 1, 2, 3, by decide +kernel⟩

theorem wit_SublinksAreConfiguredAndTrainedAsTheirRegistersSay_3 : ∃ (s : State) (a : Agent) (p : Fin 4), (s.reaches a (HPT_BIFUR p) = true) :=
  ⟨wOn [1] [], .h0, 1, by decide +kernel⟩

theorem wit_SublinksAreConfiguredAndTrainedAsTheirRegistersSay_4 : ∃ (s : State) (a : Agent) (p q : Fin 4), (s.reaches a (HPT_LCTL p q) = true) ∧ (s.created p q = true) ∧ (s.lstate p q = 0) ∧ (s.hp.perst.contains (p.val * 4 + q.val) = false) :=
  ⟨wOn [1] [], .h0, 1, 0, by decide +kernel⟩

theorem wit_SublinksAreConfiguredAndTrainedAsTheirRegistersSay_5 : ∃ (s : State) (a : Agent) (p q : Fin 4), (s.reaches a (HPT_LCTL p q) = true) ∧ (s.lstate p q ≠ 3) ∧ (s.lstate p q ≠ 5) :=
  ⟨wOn [1] [(HPT_LCTL_ENABLE 1 0, 1), (HPT_LSTS_STATE 1 0, 2)], .h0, 1, 0, by decide +kernel⟩

theorem wit_SublinksAreConfiguredAndTrainedAsTheirRegistersSay_6 : ∃ (s : State) (p q : Fin 4) (rate : Fin 4) (width : Fin 17) (sw ok : Bool), (s.lstate p q = 2) ∧ (s.mayTrain p q = true) ∧ (s.canRun p q rate width = true) :=
  ⟨wOn [1] [(HPT_LSTS_STATE 1 0, 2), (⟨HPT_LCTL 1 0, 0, 32⟩, 0x83030100)], 1, 0, 3, 16, true, true, by decide +kernel⟩

theorem wit_SublinksAreConfiguredAndTrainedAsTheirRegistersSay_7 : ∃ (s : State) (p q : Fin 4), (s.lstate p q = 2) ∧ (s.stampsIn .linkEvt (p.val * 4 + q.val) (s.rd (HPT_FENCE_CTL_WINDOW_S p)) < s.rd (HPT_FENCE_CTL_LIMIT p)) :=
  ⟨wSt [(HPT_LSTS_STATE 1 0, 2), (HPT_FENCE_CTL_LIMIT 1, 9)], 1, 0, by decide +kernel⟩

theorem wit_SublinksAreConfiguredAndTrainedAsTheirRegistersSay_8 : ∃ (s : State) (p q : Fin 4), (s.lstate p q = 4) ∧ (s.mayTrain p q = true) :=
  ⟨wSt [(HPT_LSTS_STATE 1 0, 4), (HPT_LCTL_ENABLE 1 0, 1)], 1, 0, by decide +kernel⟩

theorem wit_SublinksAreConfiguredAndTrainedAsTheirRegistersSay_9 : ∃ (s : State) (p q : Fin 4), (s.hp.perst.contains (p.val * 4 + q.val) = true) ∧ (s.lstate p q = 1) ∧ (s.created p q = true) ∧ (s.on (HPT_LCTL_ENABLE p q) = true) :=
  ⟨{ wSt [(HPT_LSTS_STATE 1 0, 1), (HPT_LCTL_ENABLE 1 0, 1)] with hp := { perst := [4] } }, 1, 0, by decide +kernel⟩

theorem wit_LinkEventsAndSublinkFencesHaveTheirEffect_1 : ∃ (s : State) (a : Agent) (p q : Fin 4), (s.reaches a (HPT_LCTL p q) = true) ∧ (s.lstate p q = 3) ∧ (s.hp.recov.contains (p.val * 4 + q.val) = false) :=
  ⟨wOn [1] [(HPT_LSTS_STATE 1 0, 3)], .h0, 1, 0, by decide +kernel⟩

theorem wit_LinkEventsAndSublinkFencesHaveTheirEffect_2 : ∃ (s : State) (p q : Fin 4) (rate : Fin 4) (width : Fin 17) (n : BitVec 16), (s.lstate p q = 3) ∧ (s.canRun p q rate width = true) :=
  ⟨wSt [(HPT_LSTS_STATE 1 0, 3)], 1, 0, 2, 8, 5, by decide +kernel⟩

theorem wit_LinkEventsAndSublinkFencesHaveTheirEffect_3 : ∃ (s : State) (p q : Fin 4) (ld : Fin 16), (s.lstate p q = 3) ∧ (s.stampsIn .linkEvt (p.val * 4 + q.val) (s.rd (HPT_FENCE_CTL_WINDOW_S p)) < s.rd (HPT_FENCE_CTL_LIMIT p)) :=
  ⟨wSt [(HPT_LSTS_STATE 1 0, 3), (HPT_FENCE_CTL_LIMIT 1, 9)], 1, 0, 3, by decide +kernel⟩

theorem wit_LinkEventsAndSublinkFencesHaveTheirEffect_4 : ∃ (s : State) (p q : Fin 4) (ld : Fin 16), (s.hp.perst.contains (p.val * 4 + q.val) = false) ∧ (s.lstate p q = 3) ∧ (s.stampsIn .linkEvt (p.val * 4 + q.val) (s.rd (HPT_FENCE_CTL_WINDOW_S p)) < s.rd (HPT_FENCE_CTL_LIMIT p)) :=
  ⟨wSt [(HPT_LSTS_STATE 1 0, 3), (HPT_FENCE_CTL_LIMIT 1, 9)], 1, 0, 3, by decide +kernel⟩

theorem wit_LinkEventsAndSublinkFencesHaveTheirEffect_5 : ∃ (s : State) (p q : Fin 4) (ld : Fin 16), (s.lstate p q = 3) ∧ (s.stampsIn .linkEvt (p.val * 4 + q.val) (s.rd (HPT_FENCE_CTL_WINDOW_S p)) < s.rd (HPT_FENCE_CTL_LIMIT p)) :=
  ⟨wSt [(HPT_LSTS_STATE 1 0, 3), (HPT_FENCE_CTL_LIMIT 1, 9)], 1, 0, 3, by decide +kernel⟩

theorem wit_LinkEventsAndSublinkFencesHaveTheirEffect_6 : ∃ (s : State) (a : Agent) (p q : Fin 4), (s.reaches a (HPT_FENCE_CTL p) = true) ∧ (s.created p q = true) ∧ (s.lstate p q ≠ 5) ∧ (s.holds p = false) :=
  ⟨wOn [1] [], .h0, 1, 0, by decide +kernel⟩

theorem wit_LinkEventsAndSublinkFencesHaveTheirEffect_7 : ∃ (s : State) (a : Agent) (p q : Fin 4), (s.reaches a (HPT_FENCE_CTL p) = true) ∧ (s.lstate p q = 5) :=
  ⟨wOn [1] [(HPT_LSTS_STATE 1 0, 5)], .h0, 1, 0, by decide +kernel⟩

theorem wit_LinkEventsAndSublinkFencesHaveTheirEffect_8 : ∃ (s : State) (a : Agent) (p : Fin 4) (v : BitVec 32), (s.reaches a (HPT_DEVLOAD p) = true) ∧ (getBits v.toNat 0 8 < getBits v.toNat 8 8) ∧ (getBits v.toNat 8 8 < getBits v.toNat 16 8) :=
  ⟨wOn [1] [], .h0, 1, 0x030201, by decide +kernel⟩

theorem wit_LinkEventsAndSublinkFencesHaveTheirEffect_9 : ∃ (s : State) (a : Agent) (p : Fin 4) (v : BitVec 32), (s.reaches a (HPT_DEVLOAD p) = true) ∧ (getBits v.toNat 8 8 ≤ getBits v.toNat 0 8 ∨ getBits v.toNat 16 8 ≤ getBits v.toNat 8 8) :=
  ⟨wOn [1] [], .h0, 1, 0x030303, by decide +kernel⟩

theorem wit_LinkEventsAndSublinkFencesHaveTheirEffect_10 : ∃ (s : State) (a : Agent) (n : Fin 64) (v : BitVec 32), (s.reaches a (HPT_LDMBX n) = true) ∧ (s.chanSecure (getBits v.toNat 0 5) = s.on (TIN_LDB_WORLD n)) :=
  ⟨wOn [0] [], .h0, 5, 0x80000003, by decide +kernel⟩

theorem wit_LinkEventsAndSublinkFencesHaveTheirEffect_11 : ∃ (s : State) (a : Agent) (n : Fin 64) (v : BitVec 32), (s.reaches a (HPT_LDMBX n) = true) ∧ (s.chanSecure (getBits v.toNat 0 5) ≠ s.on (TIN_LDB_WORLD n)) :=
  ⟨wOn [0] [(TIN_LDB_WORLD 5, 1)], .h0, 5, 0x80000003, by decide +kernel⟩

theorem wit_LdResetsFmRequestsAndDecodersActOnTheirLdAlone_1 : ∃ (s : State) (link ld : Fin 16), (s.linkUp link = true) ∧ (ld.val < s.rd (HPT_LSTS_LDS_UP (link.val / 4) (link.val % 4))) ∧ ((s.ldOf (link.val * 16 + ld.val)).mbxQueued = true) :=
  ⟨(wSt [(HPT_LSTS_LDS_UP 1 1, 3 * 2 ^ 20 + 4)]).onLd 83 (fun l => { l with mbxQueued := true }), 5, 3, by decide +kernel⟩

theorem wit_LdResetsFmRequestsAndDecodersActOnTheirLdAlone_2 : ∃ (s : State) (link ld : Fin 16), (s.linkUp link = true) ∧ (ld.val < s.rd (HPT_LSTS_LDS_UP (link.val / 4) (link.val % 4))) :=
  ⟨wSt [(HPT_LSTS_LDS_UP 1 1, 3 * 2 ^ 20 + 4)], 5, 3, by decide +kernel⟩

theorem wit_LdResetsFmRequestsAndDecodersActOnTheirLdAlone_3 : ∃ (s : State) (link ld : Fin 16), (s.ldBusy link ld = false) ∧ ((s.ldOf (link.val * 16 + ld.val)).cxlReset = true) :=
  ⟨State.reset.onLd 83 (fun l => { l with cxlReset := true }), 5, 3, by decide +kernel⟩

theorem wit_LdResetsFmRequestsAndDecodersActOnTheirLdAlone_4 : ∃ (s : State) (link : Fin 16), (s.fmUp link = true) :=
  ⟨wSt [(HPT_LSTS_LDS_UP 1 1, 3 * 2 ^ 20 + 2 ^ 10 + 4)], 5, by decide +kernel⟩

theorem wit_LdResetsFmRequestsAndDecodersActOnTheirLdAlone_5 : ∃ (s : State) (link : Fin 16), (s.fmUp link = true) :=
  ⟨wSt [(HPT_LSTS_LDS_UP 1 1, 3 * 2 ^ 20 + 2 ^ 10 + 4)], 5, by decide +kernel⟩

theorem wit_LdResetsFmRequestsAndDecodersActOnTheirLdAlone_6 : ∃ (s : State) (link : Fin 16) (op : BitVec 16), (s.fmUp link = true) :=
  ⟨wSt [(HPT_LSTS_LDS_UP 1 1, 3 * 2 ^ 20 + 2 ^ 10 + 4)], 5, 0x55, by decide +kernel⟩

theorem wit_LdResetsFmRequestsAndDecodersActOnTheirLdAlone_7 : ∃ (s : State) (link ld : Fin 16) (i : Fin 8) (r : HdmReq), (s.linkUp link = true) ∧ (ld.val < s.rd (HPT_LSTS_LDS_UP (link.val / 4) (link.val % 4))) ∧ (s.hp.memActive = true) ∧ ((match mget (fun _ => none) (s.ldOf (link.val * 16 + ld.val)).dec i with | some d => d.locked | none => false) = false) ∧ ((s.ldOf (link.val * 16 + ld.val)).commitOk i ⟨r.base, r.size, r.ways, r.gran, r.pos, r.skip, r.lock⟩ = true) :=
  ⟨{ wSt [(HPT_LSTS_LDS_UP 1 1, 3 * 2 ^ 20 + 4)] with hp := { memActive := true } }, 5, 3, 0, ⟨0, 0x10000000, 1, 256, 0, 0, true⟩, by decide +kernel⟩

theorem wit_LdResetsFmRequestsAndDecodersActOnTheirLdAlone_8 : ∃ (s : State) (link ld : Fin 16) (i : Fin 8) (r : HdmReq), (s.linkUp link = true) ∧ (ld.val < s.rd (HPT_LSTS_LDS_UP (link.val / 4) (link.val % 4))) ∧ (s.hp.memActive = false) ∧ ((match mget (fun _ => none) (s.ldOf (link.val * 16 + ld.val)).dec i with | some d => d.locked | none => false) = false) :=
  ⟨wSt [(HPT_LSTS_LDS_UP 1 1, 3 * 2 ^ 20 + 4)], 5, 3, 0, ⟨0, 0x10000000, 1, 256, 0, 0, true⟩, by decide +kernel⟩

theorem wit_LdResetsFmRequestsAndDecodersActOnTheirLdAlone_9 : ∃ (s : State) (n : Fin 64) (e : Extent), (s.on TIN_RGN_STATUS_BUSY = false) ∧ (s.on (TIN_LDB_VALID n) = true) ∧ (s.hp.owed = [(n.val, .add e)]) ∧ ((s.ldOf (s.rd (TIN_LDB_LINK n) * 16 + s.rd (TIN_LDB_LD n))).dcLog.length < 64) :=
  ⟨{ wSt [(TIN_LDB_VALID 4, 1)] with hp := { owed := [(4, .add ⟨1, 0, 4, true, false⟩)] } }, 4, ⟨1, 0, 4, true, false⟩, by decide +kernel⟩

theorem wit_LdResetsFmRequestsAndDecodersActOnTheirLdAlone_10 : ∃ (s : State) (link ld : Fin 16), (s.ldServed link ld = true) :=
  ⟨wSt [(HPT_LSTS_LDS_UP 1 1, 3 * 2 ^ 20 + 4)], 5, 3, by decide +kernel⟩

theorem wit_HostRequestsAreServedOverTheFabric_1 : ∃ (s : State) (link ld : Fin 16) (tag : BitVec 16) (hpa : BitVec 52) (data : Line) (env : FabEnv) (dpa rg : Nat), (s.ldServed link ld = true) ∧ ((s.ldOf (link.val * 16 + ld.val)).translate hpa.toNat = some dpa) ∧ (s.still) ∧ (s.fab.alt = []) ∧ (s.fab.cb = []) ∧ (s.fab.hold = false) ∧ (s.hv.armed = true) ∧ (s.on HRV_STS_ARMED = true) ∧ (env.voted = none) ∧ ((s.check (.ld link ld tag.toNat) (dpa / 64) true).toOption = some rg) ∧ (s.rgnKeyed rg = true) ∧ (s.rgnClass rg = 0) ∧ ((s.altWay (dpa / 64)).isSome = true) :=
  ⟨wHost [], 3, 5, 9, 0xA9040, 0xABCDEF, {}, 0xA9040, 2, by decide +kernel⟩

theorem wit_HostRequestsAreServedOverTheFabric_2 : ∃ (s : State) (link ld : Fin 16) (tag : BitVec 16) (hpa : BitVec 52) (data : Line) (mask : LMask) (env : FabEnv) (dpa rg : Nat), (s.ldServed link ld = true) ∧ ((s.ldOf (link.val * 16 + ld.val)).translate hpa.toNat = some dpa) ∧ (mask ≠ 0) ∧ (s.still) ∧ (s.fab.alt = []) ∧ (s.fab.cb = []) ∧ (s.fab.hold = false) ∧ (s.hv.armed = true) ∧ (s.on HRV_STS_ARMED = true) ∧ (env.voted = none) ∧ ((s.check (.ld link ld tag.toNat) (dpa / 64) true).toOption = some rg) ∧ (s.rgnKeyed rg = true) ∧ (s.rgnClass rg = 0) ∧ ((s.altWay (dpa / 64)).isSome = true) :=
  ⟨wHost [], 3, 5, 9, 0xA9040, 0xABCDEF, 5, {}, 0xA9040, 2, by decide +kernel⟩

theorem wit_HostRequestsAreServedOverTheFabric_3 : ∃ (s : State) (link ld : Fin 16) (tag : BitVec 16) (hpa : BitVec 52) (env : FabEnv) (dpa rg : Nat), (s.ldServed link ld = true) ∧ ((s.ldOf (link.val * 16 + ld.val)).translate hpa.toNat = some dpa) ∧ (s.still) ∧ (s.fab.alt = []) ∧ (s.fab.cb = []) ∧ (s.fab.hold = false) ∧ (s.hv.armed = true) ∧ (env.voted = none) ∧ ((s.check (.ld link ld tag.toNat) (dpa / 64) false).toOption = some rg) ∧ (s.rgnKeyed rg = true) ∧ ((s.altWay (dpa / 64)).isSome = true) ∧ (s.on TIN_RUNAHEAD_ENABLE = false) ∧ (s.ncOn (bankOfLine (dpa / 64)) = false) ∧ (s.nc.length = 16) ∧ ((s.ncOf (bankOfLine (dpa / 64))).miss = []) ∧ (s.on (NCH_CTL_PF_EN (bankOfLine (dpa / 64))) = false) :=
  ⟨wHost [(TIN_RUNAHEAD_ENABLE, 0), (⟨NCH_CTL 11, 0, 32⟩, 0)], 3, 5, 9, 0xA9040, {}, 0xA9040, 2, by decide +kernel⟩

theorem wit_HostRequestsAreServedOverTheFabric_4 : ∃ (s : State) (link ld : Fin 16) (tag : BitVec 16) (hpa : BitVec 52) (env : FabEnv), (s.ldServed link ld = true) ∧ ((s.ldOf (link.val * 16 + ld.val)).translate hpa.toNat = none) :=
  ⟨wHost [], 3, 5, 9, 0x10000000, {}, by decide +kernel⟩

theorem wit_HostRequestsAreServedOverTheFabric_5 : ∃ (s : State) (link ld : Fin 16) (tag : BitVec 16), (s.ldServed link ld = true) :=
  ⟨wHost [], 3, 5, 9, by decide +kernel⟩

theorem wit_HostRequestsAreServedOverTheFabric_6 : ∃ (s : State) (link ld : Fin 16) (tag : BitVec 16), (s.ldServed link ld = true) :=
  ⟨wHost [], 3, 5, 9, by decide +kernel⟩

theorem wit_HostRequestsAreServedOverTheFabric_7 : ∃ (s : State) (link ld : Fin 16) (hpa : BitVec 52) (dpa rg : Nat), (s.ldServed link ld = true) ∧ ((s.ldOf (link.val * 16 + ld.val)).translate hpa.toNat = some dpa) ∧ ((s.check (.ld link ld 0) (dpa / 64) false).toOption = some rg) ∧ (s.on (NCH_CTL_SPEC_EN (bankOfLine (dpa / 64))) = true) ∧ (s.nc.length = 16) ∧ (s.pfAllowed (bankOfLine (dpa / 64)) (dpa / 64) rg = true) ∧ ((s.ncOf (bankOfLine (dpa / 64))).miss.length < 64) :=
  ⟨{ wHost [] with win := { tier := [(0xA9, { state := .dramOnly, frame := some 77, region := 2 })] } }, 3, 5, 0xA9040, 0xA9040, 2, by decide +kernel⟩

theorem wit_HostRequestsAreServedOverTheFabric_8 : ∃ (s : State) (link ld : Fin 16) (hpa : BitVec 52) (dpa reason rg : Nat), (s.ldServed link ld = true) ∧ ((s.ldOf (link.val * 16 + ld.val)).translate hpa.toNat = some dpa) ∧ ((match s.check (.ld link ld 0) (dpa / 64) false with | .error e => e == (reason, rg) | .ok _ => false) = true) :=
  ⟨wLd (wSt [(HPT_LSTS_LDS_UP 0 3, 3 * 2 ^ 20 + 16)]), 3, 5, 0xA9040, 0xA9040, 1, 0xFF, by decide +kernel⟩

theorem wit_HostRequestsAreServedOverTheFabric_9 : ∃ (s : State) (link ld : Fin 16) (op : BitVec 8), (s.ldServed link ld = true) :=
  ⟨wHost [], 3, 5, 0x55, by decide +kernel⟩

theorem wit_RequestsThatWaitedGoOnWhenTheirConditionHolds_1 : ∃ (s : State) (r : Req) (link ld tag : Nat), (s.alone r) ∧ (r.src = .ld link ld tag) ∧ (tag < 65536) ∧ (r.kind = .read) ∧ (r.phase = .entry) ∧ (r.spec = none) ∧ (s.rebuilding (pageOf r.line) = false) ∧ ((s.tierOf (pageOf r.line)).state = .unwritten) ∧ ((s.tierOf (pageOf r.line)).poison = false) ∧ (s.rgnKeyed r.region = true) ∧ (s.cbOf r.line = none) ∧ (s.missOf r.line r.id = none) ∧ (s.linkUp link = true) :=
  ⟨wAlone (wReq .read .entry) [], (wReq .read .entry), 3, 5, 9, by decide +kernel⟩

theorem wit_RequestsThatWaitedGoOnWhenTheirConditionHolds_2 : ∃ (s : State) (r : Req) (link ld tag : Nat) (f : Nat), (s.alone r) ∧ (r.src = .ld link ld tag) ∧ (tag < 65536) ∧ (r.kind = .read) ∧ (r.phase = .dram f) ∧ (r.spec = some f) ∧ (r.specBack = false) ∧ (s.rgnKeyed r.region = true) ∧ (s.cbOf r.line = none) ∧ (s.missOf r.line r.id = none) ∧ (s.linkUp link = true) ∧ (s.dramHeld = false) :=
  ⟨{ wAlone { wReq .read (.dram 0x400300) with spec := some 0x400300 } [] with dr := { mem := [(0x1000C0 * 64, 9)] } }, { wReq .read (.dram 0x400300) with spec := some 0x400300 }, 3, 5, 9, 0x400300, by decide +kernel⟩

theorem wit_RequestsThatWaitedGoOnWhenTheirConditionHolds_3 : ∃ (s : State) (r : Req) (link ld tag : Nat) (env : FabEnv), (s.alone r) ∧ (s.mayMerge r link ld tag) ∧ (r.phase = .way) ∧ (s.altOf r.line = none) ∧ (env.voted = none) :=
  ⟨wAlone (wReq .write .way) [], (wReq .write .way), 3, 5, 9, {}, by decide +kernel⟩

theorem wit_RequestsThatWaitedGoOnWhenTheirConditionHolds_4 : ∃ (s : State) (r : Req) (link ld tag : Nat) (env : FabEnv), (s.alone r) ∧ (s.mayMerge r link ld tag) ∧ (r.phase = .order) ∧ (env.voted = none) :=
  ⟨wAlone (wReq .write .order) [], (wReq .write .order), 3, 5, 9, {}, by decide +kernel⟩

theorem wit_RequestsThatWaitedGoOnWhenTheirConditionHolds_5 : ∃ (s : State) (r : Req) (link ld tag : Nat) (env : FabEnv), (s.alone r) ∧ (s.mayMerge r link ld tag) ∧ (r.phase = .cbLine) ∧ (env.voted = none) :=
  ⟨wAlone (wReq .write .cbLine) [], (wReq .write .cbLine), 3, 5, 9, {}, by decide +kernel⟩

theorem wit_RequestsThatWaitedGoOnWhenTheirConditionHolds_6 : ∃ (s : State) (r : Req) (link ld tag : Nat) (e : AltEnt) (l : CbLine), (s.alone r) ∧ (r.src = .ld link ld tag) ∧ (tag < 65536) ∧ (r.kind = .read) ∧ (r.phase = .mirror) ∧ (s.altOf r.line = some e) ∧ (e.mode = .held) ∧ (s.cbOf r.line = some l) ∧ (l.mask = fullMask) ∧ (s.rgnKeyed r.region = true) ∧ ((s.tierOf (pageOf r.line)).state ≠ .poisoned) ∧ (s.linkUp link = true) :=
  ⟨{ wLink [] with fab := { act := [wReq .read .mirror], alt := [⟨0x2A41, 0, .held, []⟩], cb := [{ wCb with mask := fullMask }] } }, (wReq .read .mirror), 3, 5, 9, ⟨0x2A41, 0, .held, []⟩, { wCb with mask := fullMask }, by decide +kernel⟩

theorem wit_RequestsThatWaitedGoOnWhenTheirConditionHolds_7 : ∃ (s : State) (thief : Fin 256) (r : Req) (link ld tag rg : Nat), (s.fab.xbar = []) ∧ (s.fab.queue = [r]) ∧ (s.fab.act = []) ∧ (s.on TIN_STEAL_ENABLE = true) ∧ (s.tineOk thief = true) ∧ (r.tine ≠ thief) ∧ (s.stealVictim thief = some r.tine) ∧ ((s.check r.src r.line true).toOption = some rg) ∧ (r.mask ≠ 0) ∧ (s.mayMerge { r with tine := thief, region := rg } link ld tag) :=
  ⟨{ wLink [(⟨TIN_STEAL, 0, 32⟩, 0x80000101)] with fab := { queue := [{ wReq .write .queued with tine := 41 }] } }, 40, { wReq .write .queued with tine := 41 }, 3, 5, 9, 2, by decide +kernel⟩

theorem wit_ACombiningBufferLineDrainsToItsFrame_1 : ∃ (s : State) (line : BitVec 40) (l : CbLine) (env : FabEnv), (s.fab.cb = [l]) ∧ (l.line = line.toNat) ∧ (l.twin = 0) ∧ (l.drain = .none) ∧ (env.cbBad = false) ∧ (s.drainNeeds l ≠ .promo) :=
  ⟨{ wLink [] with fab := { cb := [wCb] } }, 0x2A41, wCb, {}, by decide +kernel⟩

theorem wit_ACombiningBufferLineDrainsToItsFrame_2 : ∃ (s : State) (page : BitVec 34) (frame : BitVec 31) (l : CbLine), (s.fab.cb = [l]) ∧ (pageOf l.line = page.toNat) ∧ (l.drain ≠ .none) ∧ (s.drainNeeds l = .frame) ∧ ((s.tierOf page.toNat).state = .unwritten) ∧ (s.frameFree frame.toNat = true) ∧ ((s.win.rebuild.any fun x => match x with | .frameLine f => (tableLine f).contains frame.toNat | _ => false) = false) :=
  ⟨{ wLink [(HRV_CAP_EFF_GIB, 16), (DRM_CFG_DPC 0, 1)] with fab := { cb := [{ wCb with drain := .frame }] } }, 0xA9, 0x500311, { wCb with drain := .frame }, by decide +kernel⟩

theorem wit_ACombiningBufferLineDrainsToItsFrame_3 : ∃ (s : State) (line : BitVec 40) (l : CbLine) (f : Nat), (s.still) ∧ (s.fab.cb = [l]) ∧ (l.line = line.toNat) ∧ (l.drain ≠ .none) ∧ (l.twin = 0) ∧ (s.drainNeeds l = .ready) ∧ (s.rgnKeyed l.region = true) ∧ (s.dramHeld = false) ∧ ((s.tierOf (pageOf l.line)).frame = some f) ∧ (s.dqRoom f (l.line % 64) = true) :=
  ⟨{ wLink [] with fab := { cb := [{ wCb with drain := .ready }] }, win := { tier := [(0xA9, { state := .dramOnly, frame := some 0x300, dirty := true, region := 2 })] } }, 0x2A41, { wCb with drain := .ready }, 0x300, by decide +kernel⟩

theorem wit_TinesAndClustersAreFencedDrainedAndUnfenced_1 : ∃ (s : State) (a : Agent) (c : Fin 8) (i : Fin 32), (s.reaches a (TIN_TINE_FENCE c) = true) ∧ (s.still) ∧ (s.tineOk (c.val * 32 + i.val) = true) ∧ (s.holds (tcWin c) = false) ∧ (s.tinesUp ≠ [c.val * 32 + i.val]) :=
  ⟨wLink [], .h0, 1, 8, by decide +kernel⟩

theorem wit_TinesAndClustersAreFencedDrainedAndUnfenced_2 : ∃ (s : State) (a : Agent) (c : Fin 8), (s.reaches a (TIN_CL_CTL c) = true) ∧ (s.still) ∧ (s.clusterOut c = false) ∧ (s.holds (tcWin c) = false) ∧ (s.clustersUp ≠ [c.val]) :=
  ⟨wLink [], .h0, 1, by decide +kernel⟩

theorem wit_TinesAndClustersAreFencedDrainedAndUnfenced_3 : ∃ (s : State) (c : Fin 8), (s.still) ∧ (s.fab.cb = []) ∧ (s.fab.fencing = [⟨c, [], true⟩]) :=
  ⟨{ wLink [(TIN_CL_STS_STATE 1, 1)] with fab := { fencing := [⟨1, [], true⟩] } }, 1, by decide +kernel⟩

theorem wit_TinesAndClustersAreFencedDrainedAndUnfenced_4 : ∃ (s : State) (c : Fin 8) (i : Fin 32), (s.still) ∧ (s.fab.cb = []) ∧ (s.fab.fencing = [⟨c, [i.val], false⟩]) :=
  ⟨{ wLink [] with fab := { fencing := [⟨1, [8], false⟩] } }, 1, 8, by decide +kernel⟩

theorem wit_TinesAndClustersAreFencedDrainedAndUnfenced_5 : ∃ (s : State) (r : Req) (link ld tag : Nat), (s.alone r) ∧ (r.src = .ld link ld tag) ∧ (s.fab.fencing.any (fun f => f.covers r.tine) = true) :=
  ⟨{ wLink [] with fab := { act := [wReq .write .order], fencing := [⟨1, [8], false⟩] } }, (wReq .write .order), 3, 5, 9, by decide +kernel⟩

theorem wit_TinesAndClustersAreFencedDrainedAndUnfenced_6 : ∃ (s : State) (a : Agent) (c : Fin 8) (i : Fin 32), (s.reaches a (TIN_TINE_UNFENCE c) = true) ∧ (s.still) ∧ (s.tineUp (c.val * 32 + i.val) = false) ∧ (s.fab.fencing.any (fun f => f.covers (c.val * 32 + i.val)) = false) :=
  ⟨wLink [(⟨TIN_TINE_UP 1, 0, 32⟩, 0xFFFFFEFF)], .h0, 1, 8, by decide +kernel⟩

theorem wit_TinesAndClustersAreFencedDrainedAndUnfenced_7 : ∃ (s : State) (a : Agent) (c : Fin 8), (s.reaches a (TIN_CL_CTL c) = true) ∧ (s.still) ∧ (s.rd (TIN_CL_STS_STATE c) = 2) :=
  ⟨wLink [(TIN_CL_STS_STATE 1, 2), (UNIT_FENCED 14, 1)], .h0, 1, by decide +kernel⟩

theorem wit_TinesAndClustersAreFencedDrainedAndUnfenced_8 : ∃ (s : State) (n : Fin 256), (s.still) ∧ (s.tineOk n = true) ∧ (s.holds (tcWin (n.val / 32)) = false) ∧ (s.tinesUp ≠ [n.val]) :=
  ⟨wLink [], 40, by decide +kernel⟩

theorem wit_TinesAndClustersAreFencedDrainedAndUnfenced_9 : ∃ (s : State) (n : Fin 256), (s.fab.selfBad = [n.val]) :=
  ⟨{ wLink [(⟨FLT_LIVE 14, 0, 32⟩, 0x10)] with fab := { selfBad := [40] } }, 40, by decide +kernel⟩

theorem wit_TinesAndClustersAreFencedDrainedAndUnfenced_10 : ∃ (s : State) (a : Agent) (c : Fin 8), (s.reaches a (TIN_HINT_CTL c) = true) :=
  ⟨{ wLink [] with fab := { hints := [⟨1, 2, 3, 4⟩] } }, .h0, 1, by decide +kernel⟩

theorem wit_TinesAndClustersAreFencedDrainedAndUnfenced_11 : ∃ (s : State) (a : Agent), (s.reaches a TIN_ALT_STS = true) :=
  ⟨wLink [(TIN_ALT_STS_PEAK, 3)], .h0, by decide +kernel⟩

theorem wit_TinesAndClustersAreFencedDrainedAndUnfenced_12 : ∃ (s : State) (a : Agent) (c : Fin 8), (s.reaches a (TIN_CB_USE c) = true) :=
  ⟨wLink [(TIN_CB_USE_PEAK 1, 3)], .h0, 1, by decide +kernel⟩

theorem wit_NearCacheBanksFillInvalidateFenceAndReturn_1 : ∃ (s : State) (line : BitVec 40) (r : Req) (link ld tag : Nat) (m : MissEnt) (d : Line), (s.alone r) ∧ ((s.ncOf (bankOfLine line.toNat)).miss = [m]) ∧ (m.line = line.toNat) ∧ (m.prefetch = false) ∧ (m.reads = [r.id]) ∧ (m.data = some (d, false)) ∧ (r.line = line.toNat) ∧ (r.kind = .read) ∧ (r.src = .ld link ld tag) ∧ (tag < 65536) ∧ (s.rgnKeyed r.region = true) ∧ (s.cbOf r.line = none) ∧ (s.linkUp link = true) :=
  ⟨{ wAlone (wReq .read (.dram 5)) [] with nc := modNth State.reset.nc 11 fun k => { k with miss := [⟨0x2A41, false, [7], false, false, some (77, false)⟩] } }, 0x2A41, (wReq .read (.dram 5)), 3, 5, 9, ⟨0x2A41, false, [7], false, false, some (77, false)⟩, 77, by decide +kernel⟩

theorem wit_NearCacheBanksFillInvalidateFenceAndReturn_2 : ∃ (s : State) (line : BitVec 40) (m : MissEnt) (d : Line), ((s.ncOf (bankOfLine line.toNat)).miss = [m]) ∧ (m.line = line.toNat) ∧ (m.prefetch = true) ∧ (m.killed = false) ∧ (m.noInstall = false) ∧ (s.ncOn (bankOfLine line.toNat) = true) ∧ (s.dramData line.toNat = some d) ∧ ((s.ncOf (bankOfLine line.toNat)).sb = []) ∧ (s.wayListed (bankOfLine line.toNat) true 0 0 = false) :=
  ⟨{ wNc { miss := [⟨0x2A43, true, [], false, false, none⟩] } [] with nc := modNth State.reset.nc 9 (fun k => { k with miss := [⟨0x2A43, true, [], false, false, none⟩] }), win := { tier := [(0xA9, { state := .dramOnly, frame := some 0x300 })] }, dr := { mem := [((0x300 * 64 + 3) * 64, 1)] } }, 0x2A43, ⟨0x2A43, true, [], false, false, none⟩, 1, by decide +kernel⟩

theorem wit_NearCacheBanksFillInvalidateFenceAndReturn_3 : ∃ (s : State) (a : Agent), (s.reaches a NCH_INV_CTL = true) ∧ (s.on NCH_INV_CTL_BUSY = false) ∧ (s.nc.length = 16) ∧ (∀ k ∈ s.nc, k.invNow = none ∧ k.inv = [] ∧ k.invWait = []) :=
  ⟨wNc { wBank with invNow := none } [(NCH_INV_BASE_PAGE, 0xA9)], .h0, by decide +kernel⟩

theorem wit_NearCacheBanksFillInvalidateFenceAndReturn_4 : ∃ (s : State) (a : Agent), (s.reaches a NCH_INV_CTL = true) ∧ (s.nc.length = 16) :=
  ⟨wNc wBank [], .h0, by decide +kernel⟩

theorem wit_NearCacheBanksFillInvalidateFenceAndReturn_5 : ∃ (s : State) (b : Fin 16) (q : InvReq), ((s.ncOf b).invNow = some q) ∧ ((s.ncOf b).inv = []) ∧ ((s.ncOf b).invWait = []) :=
  ⟨wNc { wBank with invNow := some ⟨0xA9, 1, .firmware⟩ } [], 3, ⟨0xA9, 1, .firmware⟩, by decide +kernel⟩

theorem wit_NearCacheBanksFillInvalidateFenceAndReturn_6 : ∃ (s : State) (b : Fin 16), (∀ k ∈ modNth s.nc b.val (fun k => { k with sweeping := false }), k.sweeping = false) ∧ (s.invPending .firmware = false) :=
  ⟨wNc { sweeping := true } [(NCH_INV_CTL_BUSY, 1)], 3, by decide +kernel⟩

theorem wit_NearCacheBanksFillInvalidateFenceAndReturn_7 : ∃ (s : State) (a : Agent) (b : Fin 16), (s.reaches a (NCH_CTL b) = true) :=
  ⟨wNc wBank [(NCH_CTL_CACHE_EN 3, 0)], .h0, 3, by decide +kernel⟩

theorem wit_NearCacheBanksFillInvalidateFenceAndReturn_8 : ∃ (s : State) (a : Agent) (b : Fin 16), (s.reaches a (NCH_CTL b) = true) :=
  ⟨wNc wBank [], .h0, 3, by decide +kernel⟩

theorem wit_NearCacheBanksFillInvalidateFenceAndReturn_9 : ∃ (s : State) (a : Agent) (b : Fin 16), (s.reaches a (NCH_FENCE_CTL b) = true) ∧ (s.on (UNIT_FENCED (wNCH b)) = false) ∧ (s.holds (wNCH b) = false) :=
  ⟨wNc wBank [], .h0, 3, by decide +kernel⟩

theorem wit_NearCacheBanksFillInvalidateFenceAndReturn_10 : ∃ (s : State) (a : Agent) (b : Fin 16), (s.reaches a (NCH_FENCE_CTL b) = true) ∧ (s.on (UNIT_FENCED (wNCH b)) = true) :=
  ⟨(wNc wBank []).wr (UNIT_FENCED 24) 1, .h0, 3, by decide +kernel⟩

theorem wit_DramReadsReturnAndCommandsAreScheduled_1 : ∃ (s : State) (r : Req) (link ld tag f : Nat), (s.alone r) ∧ (r.src = .ld link ld tag) ∧ (tag < 65536) ∧ (r.kind = .read) ∧ (r.phase = .dram f) ∧ (s.rgnKeyed r.region = true) ∧ (s.cbOf r.line = none) ∧ (s.missOf r.line r.id = none) ∧ (s.linkUp link = true) ∧ (s.dramHeld = false) :=
  ⟨{ wAlone (wReq .read (.dram 0x500311)) [] with dr := { mem := [(0x1000C0 * 64, 9)] } }, (wReq .read (.dram 0x500311)), 3, 5, 9, 0x500311, by decide +kernel⟩

theorem wit_DramReadsReturnAndCommandsAreScheduled_2 : ∃ (s : State) (page : BitVec 34) (f : BitVec 31) (i : Fin 64) (dev : Fin 10), (s.rd CPH_STS_STATE = 1) :=
  ⟨wSt [(CPH_STS_STATE, 1)], 0xA9, 0x301, 3, 2, by decide +kernel⟩

theorem wit_DramReadsReturnAndCommandsAreScheduled_3 : ∃ (s : State) (c : Fin 16) (rank : Fin 4), (s.shape) ∧ (s.rd (DRM_STS_STATE c) = 2) ∧ (rank.val < s.ranksOf c) ∧ (s.rankWaits c rank = true) ∧ (s.owedOf c rank < s.postponeMax c) :=
  ⟨wDr { q := [wEnt] } [(DRM_STS_STATE 1, 2), (DRM_REF_POSTPONE_MAX 1, 4)], 1, 0, by decide +kernel⟩

theorem wit_DramReadsReturnAndCommandsAreScheduled_4 : ∃ (s : State) (c : Fin 16) (rank : Fin 4), (s.rd (DRM_STS_STATE c) = 2) :=
  ⟨wDr {} [(DRM_STS_STATE 1, 2)], 1, 0, by decide +kernel⟩

theorem wit_DramReadsReturnAndCommandsAreScheduled_5 : ∃ (s : State) (c : Fin 16) (hot : BitVec 4), (s.shape) :=
  ⟨State.reset, 1, 5, by decide +kernel⟩

theorem wit_DramReadsReturnAndCommandsAreScheduled_6 : ∃ (s : State) (c : Fin 16) (rank : Fin 4), (0 < s.owedOf c rank) ∧ (s.rankWaits c rank = false ∨ s.owedOf c rank = s.postponeMax c) :=
  ⟨wDr { owed := [(0, 3)] } [], 1, 0, by decide +kernel⟩

theorem wit_DramReadsReturnAndCommandsAreScheduled_7 : ∃ (s : State) (c : Fin 16) (idx : Nat) (e : DqEnt), ((s.chOf c).q[idx]? = some e) ∧ (e.cls ≠ .panic) :=
  ⟨wDr { q := [wEnt] } [], 1, 0, wEnt, by decide +kernel⟩

theorem wit_DramReadsReturnAndCommandsAreScheduled_9 : ∃ (s : State) (c : Fin 16) (sub : Fin 2), (s.shape) ∧ ((s.chOf c).caps + 1 < max 1 (s.rd (DRM_CAP_LIMIT c))) :=
  ⟨wDr {} [(DRM_CAP_LIMIT 1, 8)], 1, 0, by decide +kernel⟩

theorem wit_DramReadsReturnAndCommandsAreScheduled_10 : ∃ (s : State) (c : Fin 16) (sub : Fin 2), (s.shape) ∧ (max 1 (s.rd (DRM_CAP_LIMIT c)) ≤ (s.chOf c).caps + 1) ∧ ((s.chOf c).fencing = []) ∧ (s.dramFenced c none = false) ∧ (s.holds (wDRM c) = false) ∧ (s.lastDram c none = false) :=
  ⟨wDr { caps := 1 } [(DRM_CAP_LIMIT 1, 2), (⟨DRM_GEOM 0, 0, 32⟩, 0x01400000)], 1, 0, by decide +kernel⟩

theorem wit_DramReadsReturnAndCommandsAreScheduled_11 : ∃ (s : State) (src : PanicSrc), (s.shape) ∧ ((match src with | .yoke => s.dr.yokePanic | .drill => s.dr.drillPanic) = false) :=
  ⟨wDr { q := [wEnt] } [], .drill, by decide +kernel⟩

theorem wit_DramReadsReturnAndCommandsAreScheduled_12 : ∃ (s : State) (src : PanicSrc), (s.shape) ∧ ((match src with | .yoke => s.dr.yokePanic | .drill => s.dr.drillPanic) = true) :=
  ⟨(wDr { q := [{ wEnt with cls := .panic }] } []).onDr fun d => { d with drillPanic := true }, .drill, by decide +kernel⟩

theorem wit_DramReadsReturnAndCommandsAreScheduled_13 : ∃ (s : State) (a : Agent) (c : Fin 16), (s.shape) ∧ (s.reaches a (DRM_SR c) = true) ∧ (s.rd (DRM_STS_STATE c) = 2) ∧ ((s.chOf c).q = []) :=
  ⟨wDr {} [(DRM_STS_STATE 1, 2)], .h0, 1, by decide +kernel⟩

theorem wit_DramReadsReturnAndCommandsAreScheduled_14 : ∃ (s : State) (c : Fin 16), (s.shape) ∧ (s.on (DRM_SR_AUTO c) = true ∨ (s.chOf c).sr = .asked) ∧ (s.rd (DRM_STS_STATE c) = 2) ∧ ((s.chOf c).q = []) :=
  ⟨wDr {} [(DRM_STS_STATE 1, 2), (DRM_SR_AUTO 1, 1)], 1, by decide +kernel⟩

theorem wit_DramReadsReturnAndCommandsAreScheduled_15 : ∃ (s : State) (a : Agent) (c : Fin 16), (s.reaches a (DRM_SR c) = true) ∧ ((s.chOf c).sr = .inSr) :=
  ⟨wDr { sr := .inSr } [(DRM_STS_STATE 1, 3)], .h0, 1, by decide +kernel⟩

theorem wit_DramTrainingDelaysHarrowAndFencesFollowTheirRules_1 : ∃ (s : State) (a : Agent) (c : Fin 16) (v : BitVec 28), (s.reaches a (DRM_MR_CMD c) = true) :=
  ⟨wDr {} [], .h0, 1, 0x81234, by decide +kernel⟩

theorem wit_DramTrainingDelaysHarrowAndFencesFollowTheirRules_2 : ∃ (s : State) (a : Agent) (c : Fin 16) (v : BitVec 28) (data : Byte), (s.reaches a (DRM_MR_CMD c) = true) :=
  ⟨wDr {} [], .h0, 1, 0x81234, 0x5A, by decide +kernel⟩

theorem wit_DramTrainingDelaysHarrowAndFencesFollowTheirRules_3 : ∃ (s : State) (a : Agent) (c : Fin 16) (v : BitVec 28), (s.reaches a (DRM_MR_CMD c) = true) :=
  ⟨wDr {} [], .h0, 1, 0x81234, by decide +kernel⟩

theorem wit_DramTrainingDelaysHarrowAndFencesFollowTheirRules_4 : ∃ (s : State) (a : Agent) (c : Fin 16) (v : BitVec 28) (pass : BitVec 40), (s.shape) ∧ (s.reaches a (DRM_MR_CMD c) = true) ∧ (s.rd (DRM_STS_STATE c) = 1) :=
  ⟨wDr {} [(DRM_STS_STATE 1, 1)], .h0, 1, 0x81234, 0xFFFFFFFFFF, by decide +kernel⟩

theorem wit_DramTrainingDelaysHarrowAndFencesFollowTheirRules_5 : ∃ (s : State) (a : Agent) (c : Fin 16), (s.reaches a (DRM_DLY_CTL c) = true) :=
  ⟨wDr {} [], .h0, 1, by decide +kernel⟩

theorem wit_DramTrainingDelaysHarrowAndFencesFollowTheirRules_6 : ∃ (s : State) (c : Fin 16) (k : Nat) (v : Word64), (s.on (DRM_DLY_CTL_PENDING c) = true) ∧ ((s.chOf c).shadow = [(k, v)]) ∧ (k ≠ DRM_DLY_CTL c) :=
  ⟨wDr { shadow := [(DRM_DQ 1 0 0, 0x33)] } [(DRM_DLY_CTL_PENDING 1, 1)], 1, (DRM_DQ 1 0 0), 0x33, by decide +kernel⟩

theorem wit_DramTrainingDelaysHarrowAndFencesFollowTheirRules_7 : ∃ (s : State) (a : Agent) (c : Fin 16), (s.reaches a (DRM_CFG c) = true) ∧ (s.rd (DRM_STS_STATE c) = 1) ∧ ((s.chOf c).trained = true) :=
  ⟨wDr { trained := true } [(DRM_STS_STATE 1, 1)], .h0, 1, by decide +kernel⟩

theorem wit_DramTrainingDelaysHarrowAndFencesFollowTheirRules_8 : ∃ (s : State) (c : Fin 16) (rank : Fin 4) (dly : List (BitVec 12)), (s.rd (DRM_STS_STATE c) = 2) :=
  ⟨wDr {} [(DRM_STS_STATE 1, 2)], 1, 0, [5, 6], by decide +kernel⟩

theorem wit_DramTrainingDelaysHarrowAndFencesFollowTheirRules_10 : ∃ (s : State) (p f : Nat), (s.on HRW_CTL_ENABLE = true) ∧ (s.fab.hold = false) ∧ (s.hrvBusy = false) ∧ (s.rd HRW_STS_PHASE = 0) ∧ (s.nextDramPage (s.rd HRW_STS_POS) = some (p, f)) ∧ (p = s.rd HRW_STS_POS) ∧ (s.dr.hrwLine < 63) :=
  ⟨{ wOn [53] [(HRW_CTL_ENABLE, 1), (HRW_STS_POS, 0xA9)] with win := { tier := [(0xA9, { state := .dramOnly, frame := some 0x300 })] } }, 0xA9, 0x300, by decide +kernel⟩

theorem wit_DramTrainingDelaysHarrowAndFencesFollowTheirRules_11 : ∃ (s : State) (a : Agent) (c : Fin 16) (r : Fin 4), (s.shape) ∧ (s.reaches a (DRM_FENCE_CTL c) = true) ∧ (r.val < s.ranksOf c) ∧ (s.dramFenced c (some r.val) = false) ∧ (s.lastDram c (some r.val) = false) ∧ (s.holds (wDRM c) = false) :=
  ⟨wDr {} [(⟨DRM_GEOM 0, 0, 32⟩, 0x01400000)], .h0, 1, 0, by decide +kernel⟩

theorem wit_DramTrainingDelaysHarrowAndFencesFollowTheirRules_12 : ∃ (s : State) (a : Agent) (c : Fin 16), (s.shape) ∧ (s.reaches a (DRM_FENCE_CTL c) = true) ∧ (s.dramFenced c none = false) ∧ (s.lastDram c none = false) ∧ (s.holds (wDRM c) = false) :=
  ⟨wDr {} [(⟨DRM_GEOM 0, 0, 32⟩, 0x01400000)], .h0, 1, by decide +kernel⟩

theorem wit_DramTrainingDelaysHarrowAndFencesFollowTheirRules_13 : ∃ (s : State) (a : Agent) (c : Fin 16), (s.reaches a (DRM_FENCE_CTL c) = true) ∧ (s.dramFenced c none = false) ∧ (s.lastDram c none = true) ∧ (s.rcd.queue.length < 127) :=
  ⟨wDr {} [(⟨DRM_GEOM 0, 0, 32⟩, 0), (⟨DRM_GEOM 1, 0, 32⟩, 0)], .h0, 1, by decide +kernel⟩

theorem wit_DramTrainingDelaysHarrowAndFencesFollowTheirRules_14 : ∃ (s : State) (c : Fin 16) (dst : BitVec 28) (r : Nat) (d : Bool), (s.shape) ∧ ((s.chOf c).fencing = [⟨some r, d⟩]) ∧ (s.pagesOn c (some r) = []) ∧ (s.sysLocals c ≤ r * s.framesPerRank c) :=
  ⟨wDr { fencing := [⟨some 1, false⟩] } [(⟨DRM_GEOM 1, 0, 32⟩, 0x11400000)], 1, 0, 1, false, by decide +kernel⟩

theorem wit_DramTrainingDelaysHarrowAndFencesFollowTheirRules_15 : ∃ (s : State) (c : Fin 16) (dst : BitVec 28) (d : Bool), (s.shape) ∧ ((s.chOf c).fencing = [⟨none, d⟩]) ∧ (s.win.frames = []) :=
  ⟨wDr { fencing := [⟨none, false⟩] } [], 1, 0, false, by decide +kernel⟩

theorem wit_DramTrainingDelaysHarrowAndFencesFollowTheirRules_16 : ∃ (s : State) (a : Agent) (c : Fin 16), (s.shape) ∧ (s.reaches a (DRM_FENCE_CTL c) = true) ∧ ((s.chOf c).fencing = []) ∧ (s.on (UNIT_FENCED (wDRM c)) = true) :=
  ⟨(wDr { fencedRanks := [0] } [(DRM_STS_STATE 1, 5)]).wr (UNIT_FENCED 38) 1, .h0, 1, by decide +kernel⟩

theorem wit_EpochsSweepAndMovesStart_1 : ∃ (s : State), (s.win.epochOn = false) ∧ (s.on WIN_CTL_SWEEP_EN = true) :=
  ⟨wWn { tier := wTier wEnt1 } [(WIN_CTL_SWEEP_EN, 1)], by decide +kernel⟩

theorem wit_EpochsSweepAndMovesStart_2 : ∃ (s : State), (s.win.epochOn = true) ∧ (s.win.sweepDone = true) ∧ (s.win.epochAt + s.epochNs ≤ s.now) :=
  ⟨{ wWn { epochOn := true } [(WIN_STS_EPOCH, 65535)] with clk := 999000000000 }, by decide +kernel⟩

theorem wit_EpochsSweepAndMovesStart_3 : ∃ (s : State) (page : BitVec 34) (r : FRead) (x : FSlot) (m : Move), (s.still) ∧ (s.fur.rds = [r]) ∧ (r.page = page.toNat) ∧ (r.done = some true) ∧ (r.why = .promote) ∧ (s.slotAt r.loc = some x) ∧ (s.win.moves = [m]) ∧ (m.page = page.toNat) :=
  ⟨{ wWn { tier := wTier { state := .flashOnly, migrating := true, region := 2 }, moves := [{ kind := .promotion, page := 0xA9 }] } [] with fur := { rds := [⟨0xA9, 77, .promote, some true⟩], slots := [{ loc := 77, page := 0xA9, region := 2, wseq := 1, img := { data := [(3, 9)] } }] } }, 0xA9, ⟨0xA9, 77, .promote, some true⟩, { loc := 77, page := 0xA9, region := 2, wseq := 1, img := { data := [(3, 9)] } }, { kind := .promotion, page := 0xA9 }, by decide +kernel⟩

theorem wit_EpochsSweepAndMovesStart_4 : ∃ (s : State) (p f : Nat) (rest : List Nat), (s.hrvBusy = false) ∧ (s.slotFree false = true) ∧ (s.rd WIN_FRAME_CNT_FREE ≠ 0) ∧ (s.demoterOn = true) ∧ (s.win.ring = p :: rest) ∧ ((s.tierOf p).migrating = false) ∧ (s.eligible p = true) ∧ ((s.tierOf p).frame = some f) :=
  ⟨wWn { tier := wTier wEnt1, ring := [0xA9, 5] } [(WIN_CTL_HEAT_MOVES, 1), (WIN_FRAME_CNT_FREE, 5), (WIN_FREE_HIGH, 4), (WIN_RGN_RES_RESIDENT 2, 3)], 0xA9, 0x500300, [5], by decide +kernel⟩

theorem wit_EpochsSweepAndMovesStart_5 : ∃ (s : State) (r : Fin 256) (p f : Nat), (s.hrvBusy = false) ∧ (s.slotFree false = true) ∧ (s.ceilOver r = true) ∧ (s.ceilPick r = some p) ∧ ((s.tierOf p).frame = some f) :=
  ⟨wWn { tier := wTier { wEnt1 with heat := 1 } } [(WIN_RGN_POL_CEIL_GIB 2, 1), (WIN_RGN_RES_RESIDENT 2, 300000)], 2, 0xA9, 0x500300, by decide +kernel⟩

theorem wit_EpochsSweepAndMovesStart_6 : ∃ (s : State) (p f : Nat), (s.hrvBusy = false) ∧ (s.cleans = true) ∧ (s.slotFree false = true) ∧ (s.coldest = some p) ∧ ((s.tierOf p).frame = some f) :=
  ⟨{ wWn { tier := wTier { wEnt1 with state := .dramDirty }, dirtyAge := [0xA9] } [(HRV_STS_OVER_CAP, 1)] with dr := { mem := [(0x500300 * 64 * 64 + 2, 9)] } }, 0xA9, 0x500300, by decide +kernel⟩

theorem wit_EpochsSweepAndMovesStart_7 : ∃ (s : State) (page : BitVec 34) (dest : BitVec 31) (f : Nat) (ret : Bool), ((s.tierOf page.toNat).frame = some f) ∧ (s.mustLeave f s.vacating = some ret) ∧ ((s.tierOf page.toNat).migrating = false) ∧ ((s.tierOf page.toNat).poison = false) ∧ (s.hrvBusy = false) ∧ (s.slotFree false = true) ∧ (s.frameFree dest.toNat = true) :=
  ⟨wWn { tier := wTier wEnt1, retire := [0x500300] } [], 0xA9, 0x500311, 0x500300, true, by decide +kernel⟩

theorem wit_MovesSwitchAndPoisonAndRebuildsEnd_1 : ∃ (s : State) (page : BitVec 34) (dest : BitVec 38) (m : Move) (im : PageImg), (s.win.moves = [m]) ∧ (m.page = page.toNat) ∧ (m.kind = .promotion) ∧ (m.staged = some im) ∧ (m.copied = false) ∧ (s.frameFree dest.toNat = true) :=
  ⟨wWn { tier := wTier { state := .flashOnly, migrating := true, region := 2 }, moves := [{ kind := .promotion, page := 0xA9, staged := some {} }] } [], 0xA9, 0x500311, { kind := .promotion, page := 0xA9, staged := some {} }, {}, by decide +kernel⟩

theorem wit_MovesSwitchAndPoisonAndRebuildsEnd_2 : ∃ (s : State) (page : BitVec 34) (m : Move) (d : Nat), (s.still) ∧ (s.fab.cb = []) ∧ (s.moveOf page.toNat = some m) ∧ (m.kind = .promotion) ∧ (m.copied = true) ∧ (m.dest = some d) :=
  ⟨wWn { tier := wTier { state := .flashOnly, migrating := true, region := 2 }, moves := [{ kind := .promotion, page := 0xA9, staged := some {}, copied := true, hold := true, dest := some 0x500311 }] } [], 0xA9, { kind := .promotion, page := 0xA9, staged := some {}, copied := true, hold := true, dest := some 0x500311 }, 0x500311, by decide +kernel⟩

theorem wit_MovesSwitchAndPoisonAndRebuildsEnd_3 : ∃ (s : State) (page : BitVec 34) (m : Move) (f : Nat), (s.still) ∧ (s.fab.cb = []) ∧ (s.moveOf page.toNat = some m) ∧ (m.kind = .cleaning) ∧ (m.copied = true) ∧ (m.mask = 0) ∧ ((s.tierOf page.toNat).frame = some f) :=
  ⟨wWn { tier := wTier { wEnt1 with migrating := true }, moves := [{ kind := .cleaning, page := 0xA9, copied := true }] } [], 0xA9, { kind := .cleaning, page := 0xA9, copied := true }, 0x500300, by decide +kernel⟩

theorem wit_MovesSwitchAndPoisonAndRebuildsEnd_4 : ∃ (s : State) (page : BitVec 34) (m : Move) (f : Nat), (s.still) ∧ (s.fab.cb = []) ∧ (s.moveOf page.toNat = some m) ∧ (m.kind = .demotion) ∧ (m.copied = true) ∧ (m.mask = 0) ∧ ((s.tierOf page.toNat).frame = some f) :=
  ⟨wWn { tier := wTier { wEnt1 with migrating := true }, frames := [(0x500300, .page 0xA9)], moves := [{ kind := .demotion, page := 0xA9, copied := true }] } [], 0xA9, { kind := .demotion, page := 0xA9, copied := true }, 0x500300, by decide +kernel⟩

theorem wit_MovesSwitchAndPoisonAndRebuildsEnd_5 : ∃ (s : State) (page : BitVec 34) (q : Poisoning), (s.still) ∧ (s.fab.cb = []) ∧ (s.win.poisoning = [q]) ∧ (q.page = page.toNat) ∧ (q.psrc = 2) ∧ (q.healing = false) ∧ (s.invPending (.poison page.toNat) = false) :=
  ⟨{ wWn { tier := wTier { wEnt1 with poison := true }, frames := [(0x500300, .page 0xA9)], poisoning := [{ page := 0xA9, psrc := 2, cause := 0, lines := 0 }] } [] with fur := { map := [(0xA9, 5)] } }, 0xA9, { page := 0xA9, psrc := 2, cause := 0, lines := 0 }, by decide +kernel⟩

theorem wit_MovesSwitchAndPoisonAndRebuildsEnd_6 : ∃ (s : State) (f g : Nat) (rest : List Rebuild) (e : Nat × TierEnt), (s.win.rebuild = .frameLine f :: rest) ∧ (s.win.frames = [(g, .quarantined)]) ∧ ((tableLine f).contains g = true) ∧ ((s.win.tier.find? fun e => e.2.frame == some g) = some e) ∧ (s.fab.cb = []) :=
  ⟨wWn { tier := wTier wEnt1, frames := [(0x500300, .quarantined)], rebuild := [.frameLine 0x500300] } [], 0x500300, 0x500300, [], (0xA9, wEnt1), by decide +kernel⟩

theorem wit_PinsAndPoliciesAreWrittenAsTheirRulesSay_1 : ∃ (s : State) (a : Agent), (s.reaches a WIN_PIN_CTL = true) ∧ (s.on WIN_PIN_CTL_BUSY = false) ∧ ((s.wr WIN_PIN_CTL_OP 1).pinCheck true (s.rd WIN_PIN_BASE_PAGE) (max 1 (s.rd WIN_PIN_LEN_PAGES)) = 0) :=
  ⟨wWn {} [(WIN_PIN_BASE_PAGE, 0xA9), (WIN_PIN_LEN_PAGES, 3)], .h0, by decide +kernel⟩

theorem wit_PinsAndPoliciesAreWrittenAsTheirRulesSay_2 : ∃ (s : State) (a : Agent) (e : Nat), (s.reaches a WIN_PIN_CTL = true) ∧ (s.on WIN_PIN_CTL_BUSY = false) ∧ ((s.wr WIN_PIN_CTL_OP 1).pinCheck true (s.rd WIN_PIN_BASE_PAGE) (max 1 (s.rd WIN_PIN_LEN_PAGES)) = e) ∧ (e ≠ 0) :=
  ⟨wWn {} [(⟨TIN_RGN_ATTR 2, 0, 32⟩, 0)] |>.wr (TIN_RGN_ATTR_VALID 2) 0, .h0, 2, by decide +kernel⟩

theorem wit_PinsAndPoliciesAreWrittenAsTheirRulesSay_3 : ∃ (s : State) (a : Agent), (s.reaches a WIN_PIN_CTL = true) ∧ (s.on WIN_PIN_CTL_BUSY = false) ∧ ((s.wr WIN_PIN_CTL_OP 2).pinCheck false (s.rd WIN_PIN_BASE_PAGE) (max 1 (s.rd WIN_PIN_LEN_PAGES)) = 0) :=
  ⟨wWn {} [(WIN_PIN_BASE_PAGE, 0xA9), (WIN_PIN_LEN_PAGES, 3)], .h0, by decide +kernel⟩

theorem wit_PinsAndPoliciesAreWrittenAsTheirRulesSay_4 : ∃ (s : State) (a : Agent) (three : Bool), (s.reaches a WIN_PIN_CTL = true) ∧ (s.on WIN_PIN_CTL_BUSY = false) :=
  ⟨wWn {} [(WIN_PIN_CTL_RESULT, 2)], .h0, true, by decide +kernel⟩

theorem wit_PinsAndPoliciesAreWrittenAsTheirRulesSay_5 : ∃ (s : State) (pin : Bool) (b n : Nat), (s.win.pinOp = some ⟨pin, b, n⟩) :=
  ⟨wWn { pinOp := some ⟨true, 0xA9, 3⟩ } [(⟨WIN_PIN_CTL, 0, 32⟩, 0x50000000)], true, 0xA9, 3, by decide +kernel⟩

theorem wit_PinsAndPoliciesAreWrittenAsTheirRulesSay_6 : ∃ (s : State) (r : Fin 256), (s.toLoad r = []) :=
  ⟨wWn {} [(WIN_RGN_POL_LOADING 2, 1)], 2, by decide +kernel⟩

theorem wit_PinsAndPoliciesAreWrittenAsTheirRulesSay_7 : ∃ (s : State) (r : Fin 256) (p l : Nat), (s.toLoad r = [p]) ∧ (s.slotFree false = true) ∧ ((s.tierOf p).migrating = false) ∧ (s.belowCeil r = true) ∧ (s.furLoc p = some l) :=
  ⟨{ wWn { tier := wTier { state := .flashOnly, pinned := true, region := 2 } } [] with fur := { map := [(0xA9, 6)] } }, 2, 0xA9, 5, by decide +kernel⟩

theorem wit_PinsAndPoliciesAreWrittenAsTheirRulesSay_8 : ∃ (s : State) (a : Agent) (r : Fin 256) (v : Word64), (s.reaches a (WIN_RGN_POL r) = true) ∧ (s.fab.cb = []) ∧ (getBits v.toNat 17 17 = 0) ∧ (getBits v.toNat 0 17 = s.rd (WIN_RGN_POL_FLOOR_GIB r)) :=
  ⟨wWn {} [(⟨WIN_RGN_POL 2, 0, 64⟩, 0x20000)], .h0, 2, 0x1C00000000, by decide +kernel⟩

theorem wit_PinsAndPoliciesAreWrittenAsTheirRulesSay_9 : ∃ (s : State) (a : Agent) (r : Fin 256) (v : Word64), (s.reaches a (WIN_RGN_POL r) = true) ∧ (getBits v.toNat 17 17 ≠ 0) ∧ (getBits v.toNat 17 17 < getBits v.toNat 0 17) :=
  ⟨wWn {} [], .h0, 2, 0x20005, by decide +kernel⟩

theorem wit_TheGovernorAdmitsAndFurrowReadsAndPrograms_1 : ∃ (s : State) (page : BitVec 34) (m : Move), (s.win.moves = [m]) ∧ (m.page = page.toNat) ∧ (m.kind = .cleaning) ∧ (m.admitted = false) ∧ (s.furWrites = true) ∧ (4096 ≤ s.govAccrue.rd FUR_GOV_ALLOW_BYTES) :=
  ⟨{ wFu { g := 1000000 } [(FUR_GOV_ALLOW_BYTES, 8000)] with win := { moves := [{ kind := .cleaning, page := 0xA9 }] }, clk := 5000000 }, 0xA9, { kind := .cleaning, page := 0xA9 }, by decide +kernel⟩

theorem wit_TheGovernorAdmitsAndFurrowReadsAndPrograms_2 : ∃ (s : State), (s.on FUR_GEOM_LOCKED = true) :=
  ⟨wFu { g := 5, g0 := 100, admitted := 9, programmed := 11 } [], by decide +kernel⟩

theorem wit_TheGovernorAdmitsAndFurrowReadsAndPrograms_3 : ∃ (s : State) (loc : BitVec 38) (re : List (BitVec 38)), ((s.fur.slots.any fun x => s.sameStripe x.loc loc.toNat && x.inBuf) = true) ∧ (s.stripeFull loc.toNat = true) ∧ ((s.fur.ops.any fun o => o.sb == s.sbOf loc.toNat && o.suspended) = false) :=
  ⟨wFu { slots := (List.range 4).map (fun i => { wSlot with loc := wLoc + i, inBuf := true }) } ((List.range 30).map fun c => (⟨FUR_CH_STS (2 + c), 0, 32⟩, 0)), BitVec.ofNat 38 wLoc, [], by decide +kernel⟩

theorem wit_TheGovernorAdmitsAndFurrowReadsAndPrograms_4 : ∃ (s : State) (loc re : BitVec 38) (r : FRead) (b : Nat) (x : FSlot), (s.fur.rds = [r]) ∧ (r.loc = loc.toNat) ∧ (r.done = none) ∧ (r.why = .promote) ∧ (s.slotAt r.loc = some x) ∧ (x.inBuf = false) ∧ ((s.sbAt (s.sbOf r.loc)).gone.contains (locLun r.loc / 16) = false) ∧ (s.lunUp (locLun r.loc) = true) ∧ (b < 16) ∧ (mget (fun _ => 0) s.fur.reads (r.loc / 2 ^ 15) + 1 < max 1 (s.rd FUR_RDIST_RD_LIMIT_K) * 1000) :=
  ⟨wFu { slots := [wSlot], rds := [⟨0xA9, wLoc, .promote, none⟩] } [(FUR_RDIST_RD_LIMIT_K, 5)], BitVec.ofNat 38 wLoc, 0, ⟨0xA9, wLoc, .promote, none⟩, 3, wSlot, by decide +kernel⟩

theorem wit_TheGovernorAdmitsAndFurrowReadsAndPrograms_5 : ∃ (s : State) (loc re : BitVec 38) (r : FRead), (s.fur.rds = [r]) ∧ (r.loc = loc.toNat) ∧ (r.done = none) ∧ (r.why = .promote) ∧ ((s.slotAt r.loc).all (fun x => !x.inBuf) = true) ∧ (s.furLoc r.page = some r.loc) ∧ ((s.tierOf r.page).state = .flashOnly) ∧ (mget (fun _ => 0) s.fur.reads (r.loc / 2 ^ 15) + 1 < max 1 (s.rd FUR_RDIST_RD_LIMIT_K) * 1000) :=
  ⟨{ wFu { slots := [wSlot], map := [(0xA9, wLoc + 1)], rds := [⟨0xA9, wLoc, .promote, none⟩] } [(FUR_RDIST_RD_LIMIT_K, 5)] with win := { tier := wTier { state := .flashOnly, region := 2 } } }, BitVec.ofNat 38 wLoc, 0, ⟨0xA9, wLoc, .promote, none⟩, by decide +kernel⟩

theorem wit_TheGovernorAdmitsAndFurrowReadsAndPrograms_6 : ∃ (s : State) (lun : Fin 512), (s.demandOn lun = true) ∧ ((s.fur.ops.any fun o => o.lun == lun.val && !o.suspended) = true) :=
  ⟨wFu { rds := [⟨0xA9, wLoc, .cold, none⟩], ops := [⟨16, true, 5, false⟩, ⟨17, true, 5, false⟩] } [(FUR_CH_CNT_SUSPENDS 1, 65535)], 16, by decide +kernel⟩

theorem wit_TheGovernorAdmitsAndFurrowReadsAndPrograms_7 : ∃ (s : State) (lun : Fin 512), (s.demandOn lun = false) ∧ (s.rd FUR_STS_STATE ≠ 4) :=
  ⟨wFu { ops := [⟨16, true, 5, true⟩] } [], 16, by decide +kernel⟩

theorem wit_SuperblocksAreCollectedErasedLevelledAndRefreshed_1 : ∃ (s : State) (b : Nat), (s.furWrites = true) ∧ (s.freeSb < max 8 (s.rd FUR_GC_LOW)) ∧ (s.victim .data = some b) ∧ ((s.sbAt b).relocating = false) ∧ ((s.sbAt b).role = .data) :=
  ⟨wFu { slots := [wSlot], sbs := [(5, wSb)], reserve := 2 } [(FUR_GC_LOW, 1000)], 5, by decide +kernel⟩

theorem wit_SuperblocksAreCollectedErasedLevelledAndRefreshed_2 : ∃ (s : State) (page : BitVec 34) (x : Reloc) (d : Nat), (s.fur.relocs = [x]) ∧ (x.page = page.toNat) ∧ (x.dst = some d) ∧ (s.furLoc page.toNat = some x.src) :=
  ⟨wFu { map := [(0xA9, wLoc + 1)], relocs := [⟨0xA9, wLoc, some 77⟩] } [], 0xA9, ⟨0xA9, wLoc, some 77⟩, 77, by decide +kernel⟩

theorem wit_SuperblocksAreCollectedErasedLevelledAndRefreshed_3 : ∃ (s : State) (page : BitVec 34) (x : Reloc), (s.fur.relocs = [x]) ∧ (x.page = page.toNat) ∧ (s.furLoc page.toNat ≠ some x.src) :=
  ⟨wFu { relocs := [⟨0xA9, wLoc, some 77⟩] } [], 0xA9, ⟨0xA9, wLoc, some 77⟩, by decide +kernel⟩

theorem wit_SuperblocksAreCollectedErasedLevelledAndRefreshed_4 : ∃ (s : State) (sb : BitVec 18), ((s.sbAt sb.toNat).relocating = true) ∧ ((s.sbAt sb.toNat).erasing = false) ∧ (s.rd FUR_STS_STATE ≠ 4) ∧ (s.validIn sb.toNat = []) ∧ ((s.fur.rds.any fun r => s.sbOf r.loc == sb.toNat) = false) ∧ ((s.fur.relocs.any fun x => s.sbOf x.src == sb.toNat) = false) :=
  ⟨wFu { slots := [wSlot], sbs := [(5, { wSb with relocating := true })] } [], 5, by decide +kernel⟩

theorem wit_SuperblocksAreCollectedErasedLevelledAndRefreshed_5 : ∃ (s : State) (sb : BitVec 18), ((s.sbAt sb.toNat).erasing = true) ∧ ((s.fur.ops.any fun o => o.sb == sb.toNat && o.erase && o.suspended) = false) ∧ (s.fur.failing = []) :=
  ⟨wFu { slots := [wSlot], sbs := [(5, { wSb with relocating := true, erasing := true })] } [], 5, by decide +kernel⟩

theorem wit_SuperblocksAreCollectedErasedLevelledAndRefreshed_6 : ∃ (s : State) (b : Nat) (q : FSuper), (s.furWrites = true) ∧ (s.on FUR_CTL_WL_EN = true) ∧ (max 16 (s.rd FUR_WL_SPREAD) + s.rd FUR_WEAR_MIN_PE < s.rd FUR_WEAR_MAX_PE) ∧ (s.fur.sbs = [(b, q)]) ∧ (q.closed ≠ 0) ∧ (q.relocating = false) ∧ (q.role = .data) ∧ (s.sbReserve b = false) :=
  ⟨wFu { slots := [wSlot], sbs := [(5, wSb)] } [(FUR_CTL_WL_EN, 1), (FUR_WEAR_MAX_PE, 900)], 5, wSb, by decide +kernel⟩

theorem wit_SuperblocksAreCollectedErasedLevelledAndRefreshed_7 : ∃ (s : State) (sb : BitVec 18), (s.furWrites = true) ∧ (s.on FUR_CTL_RET_EN = true) ∧ ((s.sbAt sb.toNat).closed ≠ 0) ∧ ((s.sbAt sb.toNat).relocating = false) ∧ ((s.sbAt sb.toNat).role = .data) :=
  ⟨wFu { slots := [wSlot], sbs := [(5, wSb)] } [(FUR_CTL_RET_EN, 1)], 5, by decide +kernel⟩

theorem wit_SuperblocksAreCollectedErasedLevelledAndRefreshed_8 : ∃ (s : State) (sb : BitVec 18) (q : FSuper), (s.furWrites = true) ∧ (s.on FUR_CTL_RET_EN = true) ∧ ((s.sbAt sb.toNat).closed ≠ 0) ∧ ((s.sbAt sb.toNat).relocating = false) ∧ ((s.sbAt sb.toNat).role = .data) ∧ (s.fur.sbs = [(sb.toNat, q)]) ∧ (s.fur.reads = []) ∧ ((s.sbReadable sb.toNat).length ≤ 32) :=
  ⟨wFu { slots := [wSlot], sbs := [(5, wSb)] } [(FUR_CTL_RET_EN, 1)], 5, wSb, by decide +kernel⟩

theorem wit_LunsAndChannelsLeaveAndReturnAndFirmwareDrivesAChannel_1 : ∃ (s : State) (lun : Fin 512), (s.bitOf (FUR_CH_STS_LUNS_UP (lun.val / 16)) (lun.val % 16) = true) ∧ (s.fur.retired.contains lun.val = false) ∧ (s.holds (wFC (lun.val / 16)) = false) :=
  ⟨wFu {} [], 16, by decide +kernel⟩

theorem wit_LunsAndChannelsLeaveAndReturnAndFirmwareDrivesAChannel_2 : ∃ (s : State) (a : Agent) (c : Fin 32) (i : Fin 16), (s.reaches a (FUR_CH_LUN_FENCE c) = true) ∧ (s.bitOf (FUR_CH_STS_LUNS_UP c) i = true) ∧ (s.fur.retired.contains (c.val * 16 + i.val) = false) ∧ (s.holds (wFC c) = false) :=
  ⟨wFu {} [(⟨FUR_CH_STS 1, 0, 32⟩, 0x30000003)], .h0, 1, 1, by decide +kernel⟩

theorem wit_LunsAndChannelsLeaveAndReturnAndFirmwareDrivesAChannel_3 : ∃ (s : State), ((s.fur.sbs.any fun e => e.2.relocating) = false) :=
  ⟨wFu { sbs := [(5, wSb)] } [(⟨FUR_STS, 0, 32⟩, 0x20800000)], by decide +kernel⟩

theorem wit_LunsAndChannelsLeaveAndReturnAndFirmwareDrivesAChannel_4 : ∃ (s : State) (a : Agent) (c : Fin 32), (s.reaches a (FUR_CH_CTL c) = true) ∧ (s.rd (FUR_CH_STS_STATE c) ≠ 4) ∧ (s.holds (wFC c) = false) :=
  ⟨wFu {} [], .h0, 1, by decide +kernel⟩

theorem wit_LunsAndChannelsLeaveAndReturnAndFirmwareDrivesAChannel_5 : ∃ (s : State) (a : Agent) (c : Fin 32), (s.reaches a (FUR_CH_CTL c) = true) ∧ (s.rd (FUR_CH_STS_STATE c) = 4) :=
  ⟨(wFu { retired := [16] } [(⟨FUR_CH_STS 1, 0, 32⟩, 0x40000000)]).wr (UNIT_FENCED 57) 1, .h0, 1, by decide +kernel⟩

theorem wit_LunsAndChannelsLeaveAndReturnAndFirmwareDrivesAChannel_6 : ∃ (s : State) (a : Agent) (c : Fin 32) (i : Fin 16), (s.reaches a (FUR_CH_LUN_FENCE c) = true) ∧ (s.fchUp c = true) ∧ (s.fur.retired.contains (c.val * 16 + i.val) = true) :=
  ⟨wFu { retired := [16] } [(⟨FUR_CH_STS 1, 0, 32⟩, 0x30000002)], .h0, 1, 0, by decide +kernel⟩

theorem wit_LunsAndChannelsLeaveAndReturnAndFirmwareDrivesAChannel_8 : ∃ (s : State) (c : Fin 32), (s.rd (FUR_CH_STS_STATE c) ≠ 4) ∧ (s.holds (wFC c) = false) :=
  ⟨wFu {} [], 1, by decide +kernel⟩

theorem wit_LunsAndChannelsLeaveAndReturnAndFirmwareDrivesAChannel_9 : ∃ (s : State) (a : Agent) (c : Fin 32) (ce : Fin 4) (b : Byte), (s.reaches a (FUR_CH_CMD c) = true) ∧ (s.rd (FUR_CH_STS_STATE c) = 1 ∨ s.rd (FUR_CH_STS_STATE c) = 2) :=
  ⟨wFu {} [(⟨FUR_CH_STS 1, 0, 32⟩, 0x10000000)], .h0, 1, 2, 0x70, by decide +kernel⟩

theorem wit_LunsAndChannelsLeaveAndReturnAndFirmwareDrivesAChannel_10 : ∃ (s : State) (a : Agent) (c : Fin 32) (ce : Fin 4) (b : Byte), (s.reaches a (FUR_CH_CMD c) = true) ∧ (s.rd (FUR_CH_STS_STATE c) = 1 ∨ s.rd (FUR_CH_STS_STATE c) = 2) :=
  ⟨wFu {} [(⟨FUR_CH_STS 1, 0, 32⟩, 0x10000000)], .h0, 1, 2, 0x70, by decide +kernel⟩

theorem wit_LunsAndChannelsLeaveAndReturnAndFirmwareDrivesAChannel_11 : ∃ (s : State) (a : Agent) (c : Fin 32) (ce : Fin 4) (b : Byte), (s.reaches a (FUR_CH_CMD c) = true) ∧ (s.rd (FUR_CH_STS_STATE c) ≠ 1) ∧ (s.rd (FUR_CH_STS_STATE c) ≠ 2) :=
  ⟨wFu {} [], .h0, 1, 2, 0x70, by decide +kernel⟩

theorem wit_LunsAndChannelsLeaveAndReturnAndFirmwareDrivesAChannel_12 : ∃ (s : State) (a : Agent) (c : Fin 32) (ce : Fin 4) (len : BitVec 13), (s.reaches a (FUR_CH_CMD c) = true) ∧ (s.rd (FUR_CH_STS_STATE c) = 1 ∨ s.rd (FUR_CH_STS_STATE c) = 2) :=
  ⟨wFu {} [(⟨FUR_CH_STS 1, 0, 32⟩, 0x10000000)], .h0, 1, 2, 8000, by decide +kernel⟩

theorem wit_LunsAndChannelsLeaveAndReturnAndFirmwareDrivesAChannel_13 : ∃ (s : State) (a : Agent) (c : Fin 32) (ce : Fin 4) (len : BitVec 13) (data : List (BitVec 32)), (s.reaches a (FUR_CH_CMD c) = true) ∧ (s.rd (FUR_CH_STS_STATE c) = 1 ∨ s.rd (FUR_CH_STS_STATE c) = 2) :=
  ⟨wFu {} [(⟨FUR_CH_STS 1, 0, 32⟩, 0x10000000)], .h0, 1, 2, 9, [5, 6, 7], by decide +kernel⟩

theorem wit_LunsAndChannelsLeaveAndReturnAndFirmwareDrivesAChannel_14 : ∃ (s : State) (a : Agent) (c : Fin 32) (ce : Fin 4), (s.reaches a (FUR_CH_CMD c) = true) ∧ (s.rd (FUR_CH_STS_STATE c) = 1 ∨ s.rd (FUR_CH_STS_STATE c) = 2) :=
  ⟨wFu {} [(⟨FUR_CH_STS 1, 0, 32⟩, 0x10000000)], .h0, 1, 2, by decide +kernel⟩

theorem wit_LunsAndChannelsLeaveAndReturnAndFirmwareDrivesAChannel_15 : ∃ (s : State) (a : Agent) (c : Fin 32) (k : Nat) (v : Word64), (s.reaches a (FUR_CH_DLY_CTL c) = true) ∧ (s.fur.shadow = [(k, v)]) ∧ (winIdx k = some (wFC c)) ∧ (k ≠ FUR_CH_DLY_CTL c) :=
  ⟨wFu { shadow := [(FUR_CH_DQ 1 3, 0x12)] } [], .h0, 1, FUR_CH_DQ 1 3, 0x12, by decide +kernel⟩

theorem wit_LunsAndChannelsLeaveAndReturnAndFirmwareDrivesAChannel_16 : ∃ (s : State) (a : Agent), (s.reaches a FUR_CTL = true) ∧ (s.rd FUR_STS_STATE = 0) ∧ (s.fur.formatted = false) ∧ (s.geomOk = true) ∧ (s.vseqOk = true) ∧ (∀ c : Fin 32, s.rd (FUR_CH_STS_STATE c) ≠ 4) :=
  ⟨wFu {} ([(⟨FUR_STS, 0, 32⟩, 0), (⟨FUR_GEOM, 0, 32⟩, 0x40)] ++ (List.range 6).map fun i => (FUR_VSEQ_KIND i, i + 1)), .h0, by decide +kernel⟩

theorem wit_TheSequencerPowersSlotsUpAndDownInTheOrderOfTheTable_1 : ∃ (s : State) (a : Agent) (n : Fin 24), (s.reaches a PWR_CTL = true) ∧ (s.pwr = 0) ∧ (s.tableErr = 0) ∧ (s.on (PWR_RAIL_USED n) = true) ∧ (s.on (PWR_RSTS_EN n) = false) ∧ (s.rd (PWR_RAIL_DEPS n) = 0) :=
  ⟨wPwr 0x03000000 0 0 [], .h0, 0, by decide +kernel⟩

theorem wit_TheSequencerPowersSlotsUpAndDownInTheOrderOfTheTable_2 : ∃ (s : State) (a : Agent) (flt : Bool), (s.reaches a PWR_CTL = true) :=
  ⟨wPwr 0x03000000 0 0 [], .h0, true, by decide +kernel⟩

theorem wit_TheSequencerPowersSlotsUpAndDownInTheOrderOfTheTable_3 : ∃ (s : State) (n : Fin 24), (s.pw.sbBad = false) ∧ (s.on PWR_CFG_AUTO_ON = true) ∧ (s.pwr = 0) ∧ (s.tableErr = 0) ∧ (s.on (PWR_RAIL_USED n) = true) ∧ (s.on (PWR_RSTS_EN n) = false) ∧ (s.rd (PWR_RAIL_DEPS n) = 0) :=
  ⟨wPwr 0x02000000 0 0 [(PWR_CFG_AUTO_ON, 1)], 0, by decide +kernel⟩

theorem wit_TheSequencerPowersSlotsUpAndDownInTheOrderOfTheTable_4 : ∃ (s : State) (n : Fin 24), (s.pwr = 1) ∧ (s.on (PWR_RAIL_USED n) = true) ∧ (s.on (PWR_RSTS_PG n) = false) ∧ (s.slotSt n = 2) ∧ (s.pw.risen.contains n.val = false) :=
  ⟨wPwr 0x13000000 0x28000000 0x10000000 [], 0, by decide +kernel⟩

theorem wit_TheSequencerPowersSlotsUpAndDownInTheOrderOfTheTable_5 : ∃ (s : State) (n : Fin 24) (level : Bool), (s.pwr = 1) ∧ (s.on (PWR_RAIL_USED n) = true) ∧ (s.on (PWR_RSTS_PG n) ≠ level) ∧ (s.slotSt n = 2) ∧ (s.pw.risen.contains n.val = true) ∧ (s.rd (PWR_RSTS_STEP_CHAT n) + 1 ≤ s.rd (PWR_RAIL_CHATTER_LIM n)) :=
  ⟨{ wPwr 0x13000000 0x2C000000 0x10000000 [] with pw := { risen := [1] } }.wr (PWR_RAIL_CHATTER_LIM 1) 3 |>.wr (PWR_RSTS_STATE 1) 2, 1, true, by decide +kernel⟩

theorem wit_TheSequencerPowersSlotsUpAndDownInTheOrderOfTheTable_6 : ∃ (s : State) (n m : Fin 24), (s.slotSt n = 2) ∧ (s.pw.risen.contains n.val = true) ∧ (s.on (PWR_RSTS_PG n) = true) ∧ (s.on (PWR_RSTS_EN n) = true) ∧ (s.pwr = 1) ∧ (m ≠ n) ∧ (s.on (PWR_RAIL_USED m) = true) ∧ (s.on (PWR_RSTS_EN m) = false) ∧ (s.rd (PWR_RAIL_DEPS m) = 2 ^ n.val) :=
  ⟨{ wPwr 0x13000000 0x2C000000 0x10000000 [] with pw := { risen := [0] } }, 0, 1, by decide +kernel⟩

theorem wit_TheSequencerPowersSlotsUpAndDownInTheOrderOfTheTable_7 : ∃ (s : State) (n : Fin 24), (s.slotSt n = 2) ∧ (s.pw.risen.contains n.val = true) ∧ (s.on (PWR_RSTS_PG n) = true) ∧ (s.on (PWR_RSTS_EN n) = true) ∧ (s.pwr = 1) ∧ (s.slots = [n.val]) :=
  ⟨{ wPwr 0x13000000 0x2C000000 0x10000000 [] with pw := { risen := [0] } }.wr (PWR_RAIL_USED 1) 0, 0, by decide +kernel⟩

theorem wit_TheSequencerPowersSlotsUpAndDownInTheOrderOfTheTable_8 : ∃ (s : State) (n : Fin 24), (s.pwr = 1) ∧ (s.slotSt n = 2) ∧ (s.on (PWR_RAIL_USED n) = true) ∧ (s.on (PWR_RSTS_EN n) = true) ∧ (s.on PWR_EVT_LAST_VALID = false) ∧ (∀ d : Fin 36, 2 ≤ d.val → s.rd (PWR_PD_STATE d) = 0) :=
  ⟨wPwr 0x13000000 0x28000000 0x10000000 [], 0, by decide +kernel⟩

theorem wit_TheSequencerPowersSlotsUpAndDownInTheOrderOfTheTable_9 : ∃ (s : State) (n : Fin 24), (s.slotSt n = 3) ∧ (s.on (PWR_RSTS_PG n) = false) ∧ (s.pwr = 3) ∧ (s.on (PWR_RAIL_HARVEST n) = true) :=
  ⟨wPwr 0x32000000 0x38000000 0x3C000000 [], 0, by decide +kernel⟩

theorem wit_TheSequencerPowersSlotsUpAndDownInTheOrderOfTheTable_10 : ∃ (s : State) (n : Fin 24), (s.slotSt n = 3) ∧ (s.on (PWR_RSTS_PG n) = false) ∧ (s.pwr = 2) ∧ (s.harvestable = true) ∧ (s.hv.pend = none) ∧ (s.hv.run = none) :=
  ⟨(wOnHv []).wr (PWR_RSTS_PG 1) 0, 1, by decide +kernel⟩

theorem wit_TheSequencerPowersSlotsUpAndDownInTheOrderOfTheTable_11 : ∃ (s : State) (n : Fin 24), (s.pw.taking.contains n.val = true) ∧ (s.on (PWR_RSTS_EN n) = true) ∧ ((s.pw.taking.any fun m => m != n.val && (s.depsOf m).contains n.val) = false) ∧ (s.on (PWR_RSTS_PG n) = true) :=
  ⟨{ wPwr 0x43000000 0x3C000000 0x3C000000 [] with pw := { taking := [0, 1], goal := some 0 } }, 1, by decide +kernel⟩

theorem wit_TheSequencerPowersSlotsUpAndDownInTheOrderOfTheTable_12 : ∃ (s : State) (n : Fin 24) (g : Nat), (s.pw.taking = [n.val]) ∧ (s.on (PWR_RSTS_EN n) = true) ∧ (s.on (PWR_RSTS_PG n) = false) ∧ (s.pw.goal = some g) ∧ (g < 8) :=
  ⟨{ wPwr 0x43000000 0x38000000 0x00000000 [] with pw := { taking := [0], goal := some 6 } }, 0, 6, by decide +kernel⟩

theorem wit_TheSequencerPowersSlotsUpAndDownInTheOrderOfTheTable_13 : ∃ (s : State) (n : Fin 24), (s.slotSt n = 4) :=
  ⟨{ wPwr 0x43000000 0x44000000 0x00000000 [] with pw := { taking := [0], goal := some 6 } }, 0, by decide +kernel⟩

theorem wit_TheSequencerPowersSlotsUpAndDownInTheOrderOfTheTable_14 : ∃ (s : State) (a : Agent), (s.reaches a PWR_STS = true) ∧ (s.pwr = 6) :=
  ⟨wPwr 0x6F000000 0 0 [], .h0, by decide +kernel⟩

theorem wit_TheSequencerPowersSlotsUpAndDownInTheOrderOfTheTable_15 : ∃ (s : State) (a : Agent), (s.reaches a PWR_STS = true) ∧ (s.pwr ≠ 6) :=
  ⟨wPwr 0x4F000000 0 0 [], .h0, by decide +kernel⟩

theorem wit_ALossOfPowerStartsAHarvestOnceArmed_1 : ∃ (s : State), (s.pwr = 2) ∧ (s.harvestable = true) ∧ (s.hv.pend = none) ∧ (s.hv.run = none) :=
  ⟨wOnHv [], by decide +kernel⟩

theorem wit_ALossOfPowerStartsAHarvestOnceArmed_2 : ∃ (s : State) (a : Agent), (s.reaches a PWR_CTL = true) ∧ (s.pwr = 2) ∧ (s.harvestable = true) ∧ (s.hv.pend = none) ∧ (s.hv.run = none) :=
  ⟨wOnHv [], .h0, by decide +kernel⟩

theorem wit_ALossOfPowerStartsAHarvestOnceArmed_3 : ∃ (s : State) (a : Agent) (r : HvRun), (s.reaches a PWR_CTL = true) ∧ (s.pwr = 2) ∧ (s.harvestable = true) ∧ (s.hv.run = some r) :=
  ⟨{ wOnHv [] with hv := { armed := true, run := some { cause := 1 } } }, .h0, { cause := 1 }, by decide +kernel⟩

theorem wit_ALossOfPowerStartsAHarvestOnceArmed_4 : ∃ (s : State), (s.pwr = 2) ∧ (s.harvestable = true) ∧ (s.hv.pend = none) ∧ (s.hv.run = none) :=
  ⟨wOnHv [], by decide +kernel⟩

theorem wit_ALossOfPowerStartsAHarvestOnceArmed_5 : ∃ (s : State), (s.on PWR_CFG_FLT_IN_EN = true) ∧ (s.on PWR_STS_FLT_DRIVEN = false) ∧ (s.pwr = 2) ∧ (s.harvestable = true) ∧ (s.hv.pend = none) ∧ (s.hv.run = none) :=
  ⟨wOnHv [(PWR_CFG_FLT_IN_EN, 1)], by decide +kernel⟩

theorem wit_ALossOfPowerStartsAHarvestOnceArmed_6 : ∃ (s : State), (s.on PWR_CFG_FLT_IN_EN = false) :=
  ⟨wOnHv [(PWR_CFG_FLT_IN_EN, 0)], by decide +kernel⟩

theorem wit_DomainsTheVoltageLoopThePmbusAndTheSuppliesActAsRuled_1 : ∃ (s : State) (a : Agent) (d : Fin 36), (s.reaches a PWR_PD_ON = true) ∧ (s.pwr = 2) ∧ (s.rd (PWR_PD_STATE d) ≠ 2) :=
  ⟨wOnHv [], .h0, 20, by decide +kernel⟩

theorem wit_DomainsTheVoltageLoopThePmbusAndTheSuppliesActAsRuled_2 : ∃ (s : State) (a : Agent) (v : BitVec 36), (s.reaches a PWR_PD_ON = true) ∧ (s.pwr ≠ 2) :=
  ⟨wPwr 0x33000000 0 0 [], .h0, 5, by decide +kernel⟩

theorem wit_DomainsTheVoltageLoopThePmbusAndTheSuppliesActAsRuled_3 : ∃ (s : State) (a : Agent) (d : Fin 36), (s.reaches a PWR_PD_OFF = true) ∧ (s.pwr = 2) ∧ (s.rd (PWR_PD_STATE d) ≠ 0) ∧ (s.pdIdle d = true) :=
  ⟨wOnHv [(PWR_PD_STATE 20, 2)], .h0, 20, by decide +kernel⟩

theorem wit_DomainsTheVoltageLoopThePmbusAndTheSuppliesActAsRuled_4 : ∃ (s : State) (a : Agent) (d : Fin 36), (s.reaches a PWR_PD_OFF = true) ∧ (s.pwr = 2) ∧ (s.pdIdle d = false) :=
  ⟨wOnHv [], .h0, 5, by decide +kernel⟩

theorem wit_DomainsTheVoltageLoopThePmbusAndTheSuppliesActAsRuled_5 : ∃ (s : State) (lo hi : Nat) (want read : BitVec 10), (s.on PWR_VLOOP_ENABLE = true) ∧ (s.pwr = 2) ∧ (s.vBounds = (lo, hi)) ∧ (s.aboveCap = true) :=
  ⟨wPwr 0x23000000 0x3C000000 0x3C000000 [(⟨PWR_VLOOP, 0, 32⟩, 0x80000000 + 500 * 512 + 250), (PWR_CAP_CAP_W, 5), (PWR_VLOOP_STS_POWER_W, 9)], 650, 900, 700, 652, by decide +kernel⟩

theorem wit_DomainsTheVoltageLoopThePmbusAndTheSuppliesActAsRuled_6 : ∃ (s : State) (lo hi : Nat) (want read : BitVec 10), (s.on PWR_VLOOP_ENABLE = true) ∧ (s.pwr = 2) ∧ (s.vBounds = (lo, hi)) ∧ (s.aboveCap = false) ∧ (max lo (min hi want.toNat) < read.toNat) :=
  ⟨wPwr 0x23000000 0x3C000000 0x3C000000 [(⟨PWR_VLOOP, 0, 32⟩, 0x80000000 + 500 * 512 + 250)], 650, 900, 700, 702, by decide +kernel⟩

theorem wit_DomainsTheVoltageLoopThePmbusAndTheSuppliesActAsRuled_7 : ∃ (s : State) (lo hi : Nat) (want read : BitVec 10), (s.on PWR_VLOOP_ENABLE = true) ∧ (s.pwr = 2) ∧ (s.vBounds = (lo, hi)) ∧ (s.rd PWR_CAP_CAP_W = 0 ∨ s.rd PWR_VLOOP_STS_POWER_W + 2 ≤ s.rd PWR_CAP_CAP_W) ∧ (read.toNat < max lo (min hi want.toNat)) :=
  ⟨wPwr 0x23000000 0x3C000000 0x3C000000 [(⟨PWR_VLOOP, 0, 32⟩, 0x80000000 + 500 * 512 + 250), (PWR_CAP_CAP_W, 9), (PWR_VLOOP_STS_POWER_W, 7)], 650, 900, 700, 690, by decide +kernel⟩

theorem wit_DomainsTheVoltageLoopThePmbusAndTheSuppliesActAsRuled_8 : ∃ (s : State) (want read : BitVec 10), (s.on PWR_VLOOP_ENABLE = true) ∧ (s.pwr = 3) :=
  ⟨wPwr 0x33000000 0x3C000000 0x3C000000 [(⟨PWR_VLOOP, 0, 32⟩, 0x80000000 + 500 * 512 + 250)], 700, 690, by decide +kernel⟩

theorem wit_DomainsTheVoltageLoopThePmbusAndTheSuppliesActAsRuled_9 : ∃ (s : State) (w floor : BitVec 10), (s.on PWR_VLOOP_ENABLE = true) ∧ (s.pwr = 2 ∨ s.pwr = 3) :=
  ⟨wPwr 0x23000000 0x3C000000 0x3C000000 [(⟨PWR_VLOOP, 0, 32⟩, 0x80000000 + 500 * 512 + 250)], 700, 690, by decide +kernel⟩

theorem wit_DomainsTheVoltageLoopThePmbusAndTheSuppliesActAsRuled_10 : ∃ (s : State) (a : Agent) (v : BitVec 31) (data : List Byte), (s.reaches a PWR_PMB_CMD = true) ∧ (s.on PWR_VLOOP_ENABLE = false) ∧ (getBits v.toNat 24 3 < 3) :=
  ⟨wOnHv [], .h0, 0x01050221, [], by decide +kernel⟩

theorem wit_DomainsTheVoltageLoopThePmbusAndTheSuppliesActAsRuled_11 : ∃ (s : State) (a : Agent) (v : BitVec 31) (x y : Byte), (s.reaches a PWR_PMB_CMD = true) ∧ (getBits v.toNat 24 3 = 4) :=
  ⟨wOnHv [], .h0, 0x0405028B, 3, 7, by decide +kernel⟩

theorem wit_DomainsTheVoltageLoopThePmbusAndTheSuppliesActAsRuled_12 : ∃ (s : State) (a : Agent) (v : BitVec 31) (res : Fin 4) (data : List Byte), (s.reaches a PWR_PMB_CMD = true) ∧ (s.on PWR_VLOOP_ENABLE = false) ∧ (res ≠ 0) :=
  ⟨wOnHv [], .h0, 0x01050221, 2, [], by decide +kernel⟩

theorem wit_DomainsTheVoltageLoopThePmbusAndTheSuppliesActAsRuled_13 : ∃ (s : State) (a : Agent) (v : BitVec 31) (n : Fin 24) (res : Fin 4) (data : List Byte), (s.reaches a PWR_PMB_CMD = true) ∧ (s.on PWR_VLOOP_ENABLE = true) ∧ (s.on (PWR_RAIL_USED n) = true) ∧ (s.on (PWR_RAIL_CORE n) = true) ∧ (s.rd (PWR_RADDR_ADDR n) = getBits v.toNat 8 7) ∧ (getBits v.toNat 24 3 < 3) ∧ (getBits v.toNat 0 8 = 0x21) :=
  ⟨wPwr 0x23000000 0x3C000000 0x3C000000 [(⟨PWR_VLOOP, 0, 32⟩, 0x80000000 + 500 * 512 + 250), (PWR_RADDR_ADDR 0, 2)], .h0, 0x01050221, 0, 2, [], by decide +kernel⟩

theorem wit_DomainsTheVoltageLoopThePmbusAndTheSuppliesActAsRuled_14 : ∃ (s : State), (s.rcd.queue.length < 128) :=
  ⟨wOnHv [], by decide +kernel⟩

theorem wit_DomainsTheVoltageLoopThePmbusAndTheSuppliesActAsRuled_16 : ∃ (s : State) (h : Fin 2), (s.pw.holdover.contains h.val = false) :=
  ⟨wOnHv [], 1, by decide +kernel⟩

theorem wit_DomainsTheVoltageLoopThePmbusAndTheSuppliesActAsRuled_17 : ∃ (s : State) (h : Fin 2), (s.pw.holdover.contains h.val = true) ∧ (s.refBusy h = false) :=
  ⟨{ wOnHv [] with pw := { holdover := [1] } }, 1, by decide +kernel⟩

theorem wit_AHarvestSavesTheDirtyPagesAndSealsItsDump_1 : ∃ (s : State) (a : Agent), (s.reaches a HRV_CTL = true) ∧ (s.on HRV_STS_ARMED = true) ∧ (s.hv.pend = none) ∧ (s.hv.run = none) :=
  ⟨wOn [88] [(HRV_STS_ARMED, 1)], .h0, by decide +kernel⟩

theorem wit_AHarvestSavesTheDirtyPagesAndSealsItsDump_2 : ∃ (s : State) (a : Agent), (s.reaches a HRV_CTL = true) ∧ (s.on HRV_STS_ARMED = false) :=
  ⟨wOn [88] [], .h0, by decide +kernel⟩

theorem wit_AHarvestSavesTheDirtyPagesAndSealsItsDump_3 : ∃ (s : State) (r : HvRun) (bad : List (BitVec 40)), (s.pwr = 2) ∧ (s.hv.pend = some r) ∧ (s.fab.cb = []) :=
  ⟨wHvP [] [], { cause := 1 }, [], by decide +kernel⟩

theorem wit_AHarvestSavesTheDirtyPagesAndSealsItsDump_4 : ∃ (s : State) (r : HvRun) (l : CbLine) (f : Nat), (s.pwr = 2) ∧ (s.hv.pend = some r) ∧ (s.fab.cb = [l]) ∧ (s.win.moves = []) ∧ ((s.tierOf (pageOf l.line)).state = .dramOnly) ∧ ((s.tierOf (pageOf l.line)).frame = some f) ∧ (s.altOf l.line = none) ∧ (s.rgnKeyed l.region = true) :=
  ⟨{ wHvP [wCb] [] with win := { tier := [(0xA9, { state := .dramOnly, frame := some 0x300, dirty := true, region := 2 })] } }, { cause := 1 }, wCb, 0x300, by decide +kernel⟩

theorem wit_AHarvestSavesTheDirtyPagesAndSealsItsDump_5 : ∃ (s : State) (r : HvRun) (l : CbLine), (s.pwr = 2) ∧ (s.hv.pend = some r) ∧ (s.fab.cb = [l]) ∧ ((s.tierOf (pageOf l.line)).frame = none) ∧ (s.win.moves = []) ∧ (s.altOf l.line = none) :=
  ⟨wHvP [wCb] [], { cause := 1 }, wCb, by decide +kernel⟩

theorem wit_AHarvestSavesTheDirtyPagesAndSealsItsDump_6 : ∃ (s : State) (r : HvRun) (n : Fin 24), (s.hv.run = some r) ∧ (s.hv.failSlot = none) ∧ (r.recs = []) ∧ (s.on (PWR_RAIL_USED n) = true) ∧ (s.on (PWR_RSTS_EN n) = true) ∧ (s.on (PWR_RAIL_FALLOW n) = false) ∧ (r.fault = false) ∧ (s.on PWR_STS_PLOSS = false) ∧ (s.on HRV_CTL_FALLOW_EN = false) ∧ (s.on HRV_STS_FALLOW_HELD = false) :=
  ⟨wHvR [(⟨HRV_CTL, 0, 32⟩, 0)], { cause := 1 }, 0, by decide +kernel⟩

theorem wit_AHarvestSavesTheDirtyPagesAndSealsItsDump_7 : ∃ (s : State) (r : HvRun) (n : Fin 24), (s.hv.run = some r) ∧ (s.hv.failSlot = none) ∧ (r.recs = []) ∧ (s.on (PWR_RAIL_USED n) = true) ∧ (s.on (PWR_RSTS_EN n) = true) ∧ (s.on (PWR_RAIL_FALLOW n) = false) ∧ (r.fault = false) ∧ (s.on PWR_STS_PLOSS = false) ∧ (s.on HRV_CTL_FALLOW_EN = true) :=
  ⟨wHvR [(HRV_CTL_FALLOW_EN, 1)], { cause := 1 }, 0, by decide +kernel⟩

theorem wit_AHarvestSavesTheDirtyPagesAndSealsItsDump_8 : ∃ (s : State) (r : HvRun) (m : Nat) (save : Bool), (s.hv.run = some r) ∧ (s.hv.failSlot.isSome = true) :=
  ⟨{ wHvR [] with hv := { run := some { cause := 2 }, failSlot := some 1 } }, { cause := 2 }, 5, true, by decide +kernel⟩

theorem wit_AHarvestSavesTheDirtyPagesAndSealsItsDump_9 : ∃ (s : State) (a : Agent), (s.reaches a HRV_CTL = true) :=
  ⟨wOn [88] [(HRV_STS_FALLOW_HELD, 1)], .h0, by decide +kernel⟩

theorem wit_ResowRestoresArmsAndItsConfigurationIsWritten_1 : ∃ (s : State) (a : Agent) (v : BitVec 32), (s.reaches a HRV_CAP = true) ∧ (s.hrvBusy = false) :=
  ⟨wOn [88] [], .h0, 40, by decide +kernel⟩

theorem wit_ResowRestoresArmsAndItsConfigurationIsWritten_2 : ∃ (s : State) (a : Agent) (v : BitVec 32), (s.reaches a HRV_BOARD = true) ∧ (s.hrvBusy = false) :=
  ⟨wOn [88] [], .h0, 0x12345678, by decide +kernel⟩

theorem wit_ResowRestoresArmsAndItsConfigurationIsWritten_3 : ∃ (s : State) (a : Agent) (v : BitVec 32), (s.reaches a HRV_STORE = true) ∧ (s.hrvBusy = false) :=
  ⟨wOn [88] [], .h0, 0x12345678, by decide +kernel⟩

theorem wit_ResowRestoresArmsAndItsConfigurationIsWritten_4 : ∃ (s : State) (a : Agent) (v : BitVec 32), (s.reaches a HRV_NAND = true) ∧ (s.hrvBusy = false) :=
  ⟨wOn [88] [], .h0, 500, by decide +kernel⟩

theorem wit_ResowRestoresArmsAndItsConfigurationIsWritten_5 : ∃ (s : State) (a : Agent) (r : Fin 4) (v : BitVec 32) (k : Nat), (s.reaches a k = true) ∧ (k = [HRV_CAP, HRV_BOARD, HRV_STORE, HRV_NAND].getD r 0) ∧ (s.hrvBusy = true) :=
  ⟨{ wOn [88] [] with hv := { run := some { cause := 1 } } }, .h0, 2, 5, HRV_STORE, by decide +kernel⟩

theorem wit_ResowRestoresArmsAndItsConfigurationIsWritten_7 : ∃ (s : State), (s.pwr = 2) ∧ (s.rd HRV_STS_STATE = 1) ∧ (s.fur.formatted = false) :=
  ⟨wPwr 0x23000000 0x3C000000 0x3C000000 [(HRV_STS_STATE, 1)], by decide +kernel⟩

theorem wit_ResowRestoresArmsAndItsConfigurationIsWritten_8 : ∃ (s : State) (d : Dump) (tok : Bool), (s.pwr = 2) ∧ (s.rd HRV_STS_STATE = 1) ∧ (s.fur.formatted = true) ∧ (s.rd FUR_STS_STATE = 2) ∧ (s.hv.dump = some d) ∧ (d.sealed = true) ∧ (d.lines = []) ∧ (s.on HRV_STS_FALLOW_HELD = false) :=
  ⟨{ wPwr 0x23000000 0x3C000000 0x3C000000 [(HRV_STS_STATE, 1), (FUR_STS_STATE, 2)] with fur := { formatted := true }, hv := { dump := some { wDomI with lines := [] } } }, { wDomI with lines := [] }, true, by decide +kernel⟩

theorem wit_ResowRestoresArmsAndItsConfigurationIsWritten_9 : ∃ (s : State), (s.pwr = 2) ∧ (s.rd HRV_STS_STATE = 1) ∧ (s.fur.formatted = true) ∧ (s.rd FUR_STS_STATE = 2) ∧ (s.hv.dump = none) ∧ (s.hv.armSeq ≠ 0) :=
  ⟨{ wPwr 0x23000000 0x3C000000 0x3C000000 [(HRV_STS_STATE, 1), (FUR_STS_STATE, 2)] with fur := { formatted := true }, hv := { armSeq := 3 } }, by decide +kernel⟩

theorem wit_ResowRestoresArmsAndItsConfigurationIsWritten_10 : ∃ (s : State) (p : Nat), (s.hv.resown = true) ∧ (s.win.unswept = [p]) ∧ ((s.tierOf p).pinned = false) ∧ (s.rgnPinned (s.tierOf p).region = false) :=
  ⟨{ State.reset with hv := { resown := true }, win := { unswept := [5], tier := [(5, { state := .dramClean, frame := some 9, heat := 7, region := 2 })] } }, 5, by decide +kernel⟩

theorem wit_ResowRestoresArmsAndItsConfigurationIsWritten_11 : ∃ (s : State) (sb : BitVec 18), (s.pwr = 2) ∧ (s.rd HRV_STS_STATE = 2) ∧ (s.noArm = 0) ∧ (s.hv.armed = false) ∧ (s.still) :=
  ⟨{ wPwr 0x23000000 0x3C000000 0x3C000000 [(HRV_STS_STATE, 2), (FUR_STS_STATE, 2), (HRV_CTL_ENABLE, 1), (⟨HRV_CAP, 0, 32⟩, 0x100010)] with fur := { formatted := true }, hv := { resown := true, armSeq := 3 } }, 77, by decide +kernel⟩

theorem wit_ResowRestoresArmsAndItsConfigurationIsWritten_12 : ∃ (s : State) (sb : BitVec 18), (s.pwr = 2) ∧ (s.rd HRV_STS_STATE = 2) ∧ (s.noArm = 0) ∧ (s.hv.armed = true) ∧ (s.still) :=
  ⟨{ wPwr 0x23000000 0x3C000000 0x3C000000 [(HRV_STS_STATE, 2), (FUR_STS_STATE, 2), (HRV_CTL_ENABLE, 1), (⟨HRV_CAP, 0, 32⟩, 0x100010)] with hv := { resown := true, armed := true, armSeq := 3 } }, 77, by decide +kernel⟩

theorem wit_ResetsActOnTheirGroupsAndPowerOnLeavesNonVolatileMediaOnly_1 : ∃ (s : State) (a : Agent) (g : Fin 11), (s.reaches a RST_GRP_CTL = true) ∧ (s.hrvBusy = false) ∧ (s.on RST_GRP_STS_BUSY = false) ∧ (g.val = 4 → s.on YOK_CTL_ENABLE = false) :=
  ⟨wRstS 0 0, .h0, 4, by decide +kernel⟩

theorem wit_ResetsActOnTheirGroupsAndPowerOnLeavesNonVolatileMediaOnly_2 : ∃ (s : State) (a : Agent) (g : Fin 11), (s.reaches a RST_GRP_CTL = true) ∧ (s.hrvBusy = true) :=
  ⟨{ wRstS 0 0 with hv := { run := some { cause := 1 } } }, .h0, 4, by decide +kernel⟩

theorem wit_ResetsActOnTheirGroupsAndPowerOnLeavesNonVolatileMediaOnly_3 : ∃ (s : State) (a : Agent) (g : Fin 11), (s.reaches a RST_GRP_CTL = true) ∧ (s.hrvBusy = false) ∧ (s.on RST_GRP_STS_BUSY = true) ∧ (s.rs.groups.testBit g.val = false) ∧ (s.rs.pend = 0) :=
  ⟨wRstS 0x80000001 1, .h0, 4, by decide +kernel⟩

theorem wit_ResetsActOnTheirGroupsAndPowerOnLeavesNonVolatileMediaOnly_4 : ∃ (s : State) (a : Agent) (c : Fin 16), (s.reaches a RST_GRP_CTL = true) ∧ (s.rd (DRM_STS_STATE c) ≠ 0) ∧ (s.rd (DRM_STS_STATE c) ≠ 5) :=
  ⟨(wRstS 0 0).wr (DRM_STS_STATE 5) 2, .h0, 5, by decide +kernel⟩

theorem wit_ResetsActOnTheirGroupsAndPowerOnLeavesNonVolatileMediaOnly_5 : ∃ (s : State), (s.on RST_GRP_STS_BUSY = true) ∧ (s.rs.groups.testBit 0 = true → s.coreQuiet = true) ∧ (s.rs.pend = 0) :=
  ⟨wRstS 0x80000001 1, by decide +kernel⟩

theorem wit_ResetsActOnTheirGroupsAndPowerOnLeavesNonVolatileMediaOnly_6 : ∃ (s : State), (s.on RST_GRP_STS_BUSY = false ∨ (s.rs.groups.testBit 0 = true ∧ s.coreQuiet = false)) :=
  ⟨wRstS 0 0, by decide +kernel⟩

theorem wit_ResetsActOnTheirGroupsAndPowerOnLeavesNonVolatileMediaOnly_7 : ∃ (s : State) (a : Agent), (s.reaches a RST_GRP_CTL = true) ∧ (s.on RST_GRP_STS_HOLD = true) ∧ (s.still) :=
  ⟨{ wRstS 0x40000000 0 with fab := { hold := true } }, .h0, by decide +kernel⟩

theorem wit_ResetsActOnTheirGroupsAndPowerOnLeavesNonVolatileMediaOnly_8 : ∃ (s : State) (a : Agent), (s.reaches a RST_GRP_CTL = true) ∧ (s.on RST_GRP_STS_HOLD = false) :=
  ⟨wRstS 0 0, .h0, by decide +kernel⟩

theorem wit_ResetsActOnTheirGroupsAndPowerOnLeavesNonVolatileMediaOnly_9 : ∃ (s : State) (aon : Bool), (aon = true ∨ s.pwr = 0 ∨ s.pwr = 5 ∨ s.pwr = 6) ∧ (s.efl.erase = none) :=
  ⟨wRstS 0x80000001 1, true, by decide +kernel⟩

theorem wit_ResetsActOnTheirGroupsAndPowerOnLeavesNonVolatileMediaOnly_10 : ∃ (s : State), (s.pwr ≠ 0) ∧ (s.pwr ≠ 5) ∧ (s.pwr ≠ 6) :=
  ⟨wRstS 0 0, by decide +kernel⟩

theorem wit_ResetsActOnTheirGroupsAndPowerOnLeavesNonVolatileMediaOnly_11 : ∃ (s : State) (strap : Fin 4), (s.pw.held = true) :=
  ⟨{ wRstS 0 0 with pw := { held := true } }, 2, by decide +kernel⟩

theorem wit_ResetsActOnTheirGroupsAndPowerOnLeavesNonVolatileMediaOnly_13 : ∃ (s : State), (s.pwr = 2) ∧ (s.hv.armed = true) ∧ (s.hp.memActive = false) :=
  ⟨{ wRstS 0 0 with hv := { armed := true } }, by decide +kernel⟩

theorem wit_FaultRegistersAndTheRecorderHoldWhatHappened_1 : ∃ (s : State) (a : Agent) (w : Fin 100) (v : BitVec 32), (s.reaches a (FLT_STS w) = true) :=
  ⟨wOn [12] [(⟨FLT_STS 12, 0, 32⟩, 7), (⟨FLT_LIVE 12, 0, 32⟩, 4)], .h0, 12, 6, by decide +kernel⟩

theorem wit_FaultRegistersAndTheRecorderHoldWhatHappened_2 : ∃ (s : State) (a : Agent) (w : Fin 100), (s.reaches a (FLT_INFO w) = true) :=
  ⟨wOn [12] [(FLT_INFO_VALID 12, 1)], .h0, 12, by decide +kernel⟩

theorem wit_FaultRegistersAndTheRecorderHoldWhatHappened_3 : ∃ (s : State) (a : Agent) (w : Fin 100) (b : Fin 32), (s.reaches a (FLT_INJ w) = true) ∧ (s.bitOf (FLT_STS_CAUSE w) b = false) ∧ ((fltCauses w).testBit b = true) ∧ (s.on (FLT_INFO_VALID w) = false) ∧ (s.rcd.queue.length < 128) :=
  ⟨wOn [12] [], .h0, 12, 4, by decide +kernel⟩

theorem wit_FaultRegistersAndTheRecorderHoldWhatHappened_4 : ∃ (s : State) (a : Agent) (w : Fin 100) (b : Fin 32), (s.reaches a (FLT_INJ w) = true) ∧ ((fltCauses w).testBit b = false) :=
  ⟨wOn [12] [], .h0, 12, 9, by decide +kernel⟩

theorem wit_FaultRegistersAndTheRecorderHoldWhatHappened_5 : ∃ (s : State) (a : Agent) (w : Fin 100) (b : Fin 32), (s.reaches a (FLT_INJ w) = true) ∧ (s.bitOf (FLT_STS_CAUSE w) b = true) ∧ ((fltCauses w).testBit b = true) ∧ (s.on (FLT_INFO_VALID w) = true) :=
  ⟨wOn [12] [(⟨FLT_STS 12, 0, 32⟩, 0x10), (FLT_INFO_VALID 12, 1)], .h0, 12, 4, by decide +kernel⟩

theorem wit_FaultRegistersAndTheRecorderHoldWhatHappened_6 : ∃ (s : State) (r : Rec) (q : List Rec), (s.rcd.queue = r :: q) ∧ (s.rcd.lostSince = 0) ∧ (s.on REC_STS_FULL = false) ∧ (s.rd REC_POS_WPOS + 8 * r.words ≤ 0xFFFC0) :=
  ⟨{ wSt [(⟨REC_POS, 0, 64⟩, 0x300000040)] with rcd := { queue := [⟨0x01, 12, 5, [1, 2, 3]⟩], lostSince := 0 } }, ⟨0x01, 12, 5, [1, 2, 3]⟩, [], by decide +kernel⟩

theorem wit_FaultRegistersAndTheRecorderHoldWhatHappened_7 : ∃ (s : State) (r : Rec) (q : List Rec), (s.rcd.queue = r :: q) ∧ (s.rcd.lostSince ≠ 0) ∧ (s.on REC_STS_FULL = true ∨ s.rd REC_POS_WPOS + 8 * r.words ≤ 0xFFFC0) :=
  ⟨{ wSt [(⟨REC_POS, 0, 64⟩, 0x300000040)] with rcd := { queue := [⟨0x01, 12, 5, [1, 2, 3]⟩], lostSince := 3 } }, ⟨0x01, 12, 5, [1, 2, 3]⟩, [], by decide +kernel⟩

theorem wit_FaultRegistersAndTheRecorderHoldWhatHappened_8 : ∃ (s : State) (r : Rec) (q : List Rec), (s.rcd.queue = r :: q) ∧ (s.rcd.lostSince = 0) ∧ (s.on REC_STS_FULL = true) :=
  ⟨{ wSt [(REC_STS_FULL, 1)] with rcd := { queue := [⟨0x01, 12, 5, [1, 2, 3]⟩], lostSince := 0 } }, ⟨0x01, 12, 5, [1, 2, 3]⟩, [], by decide +kernel⟩

theorem wit_FaultRegistersAndTheRecorderHoldWhatHappened_9 : ∃ (s : State) (r : Rec) (q : List Rec), (s.rcd.queue = r :: q) ∧ (s.on REC_STS_FULL = false) ∧ (0xFFFC0 < s.rd REC_POS_WPOS + 8 * r.words) :=
  ⟨{ wSt [(REC_POS_WPOS, 0xFFFB8)] with rcd := { queue := [⟨0x01, 12, 5, [1, 2, 3]⟩], lostSince := 0 } }, ⟨0x01, 12, 5, [1, 2, 3]⟩, [], by decide +kernel⟩

theorem wit_FaultRegistersAndTheRecorderHoldWhatHappened_10 : ∃ (s : State) (a : Agent), (s.reaches a REC_CLEAR = true) ∧ (s.hrvBusy = false) :=
  ⟨wSt [(⟨REC_POS, 0, 64⟩, 0x300000040), (REC_STS_FULL, 1)], .h0, by decide +kernel⟩

theorem wit_FaultRegistersAndTheRecorderHoldWhatHappened_11 : ∃ (s : State) (a : Agent) (e : BitVec 32), (s.reaches a REC_CLEAR = true) ∧ (s.rd REC_POS_EPOCH ≠ e.toNat) :=
  ⟨wSt [(⟨REC_POS, 0, 64⟩, 0x300000040)], .h0, 2, by decide +kernel⟩

theorem wit_FaultRegistersAndTheRecorderHoldWhatHappened_12 : ∃ (s : State) (a : Agent), (s.reaches a REC_CLEAR = true) ∧ (s.hrvBusy = true) :=
  ⟨{ wSt [(⟨REC_POS, 0, 64⟩, 0x300000040)] with hv := { run := some { cause := 1 } } }, .h0, by decide +kernel⟩

theorem wit_FaultRegistersAndTheRecorderHoldWhatHappened_13 : ∃ (s : State) (a : Agent) (v : Word64), (s.reaches a REC_TIME_SET = true) ∧ (a ≠ .sb) ∧ (s.rcd.queue.length < 128) :=
  ⟨wSt [(REC_TIME_TIME, 9)], .h1, 77, by decide +kernel⟩

theorem wit_FaultRegistersAndTheRecorderHoldWhatHappened_15 : ∃ (s : State) (a : Agent) (ty : Byte) (len : BitVec 6), (s.reaches a REC_FW_CTL = true) ∧ (a ≠ .sb) ∧ (0x20 ≤ ty.toNat) ∧ (ty.toNat ≤ 0x3F) ∧ (s.rcd.queue.length < 128) :=
  ⟨wSt [((REC_FW_DATA_BYTES 0).bank .h1, 9)], .h1, 0x21, 4, by decide +kernel⟩

theorem wit_FaultRegistersAndTheRecorderHoldWhatHappened_16 : ∃ (s : State) (a : Agent) (ty : Byte) (len : BitVec 6), (s.reaches a REC_FW_CTL = true) ∧ (a = .sb ∨ ty.toNat < 0x20 ∨ 0x3F < ty.toNat) :=
  ⟨wSt [], .h1, 0x41, 4, by decide +kernel⟩

theorem wit_TitheMetersClosesIntervalsAndStartsLives_1 : ∃ (s : State) (uj : Nat), (s.th.started = true) ∧ (s.rd (PWR_PD_STATE 2) ≠ 2) :=
  ⟨{ wSt [] with th := { started := true, rdc := [(5, 9)] } }, 7, by decide +kernel⟩

theorem wit_TitheMetersClosesIntervalsAndStartsLives_2 : ∃ (s : State) (uj r : Nat), (s.th.started = true) ∧ (s.rd (PWR_PD_STATE 2) = 2) ∧ (s.validRgns = [r]) ∧ (s.residentOk = true) :=
  ⟨{ wOn [54] [(⟨TIN_RGN_EXT 2, 0, 64⟩, 0x8000000000010000 + 4), (⟨PWR_PD 2, 0, 32⟩, 0x80000000), (⟨TIN_RGN_ATTR 2, 0, 32⟩, 0xFFFFFFFF), (WIN_RGN_RES_RESIDENT 2, 33)] with th := { started := true } }, 7, 2, by decide +kernel⟩

theorem wit_TitheMetersClosesIntervalsAndStartsLives_3 : ∃ (s : State), (s.th.started = true) ∧ (s.th.wait = []) ∧ (s.titheRoom (s.titheTenants.length + 1) = true) :=
  ⟨{ wSt [] with th := { started := true, held := [(3, 4)], rd := [(9, 64)] } }, by decide +kernel⟩

theorem wit_TitheMetersClosesIntervalsAndStartsLives_4 : ∃ (s : State), (s.th.started = true) ∧ (s.titheRoom (s.th.wait.length + s.titheTenants.length + 1) = false) :=
  ⟨{ wSt [] with th := { started := true, ring := List.replicate 16384 ⟨1, 1, []⟩ } }, by decide +kernel⟩

theorem wit_TitheMetersClosesIntervalsAndStartsLives_5 : ∃ (s : State) (upto : BitVec 32), (s.reaches .sb TTH_REL = true) ∧ (s.th.wait = []) :=
  ⟨{ wSt [(TTH_LIFE_LIFE, 3)] with th := { ring := [⟨3, 1, []⟩, ⟨3, 2, []⟩, ⟨2, 1, []⟩] } }, 1, by decide +kernel⟩

theorem wit_TitheMetersClosesIntervalsAndStartsLives_6 : ∃ (s : State) (a : Agent) (upto : BitVec 32), (s.reaches a TTH_REL = true) ∧ (a ≠ .sb) :=
  ⟨wSt [], .h0, 1, by decide +kernel⟩

theorem wit_TitheMetersClosesIntervalsAndStartsLives_7 : ∃ (s : State) (v : BitVec 32), (s.reaches .sb TTH_CFG = true) ∧ (s.th.started = false) :=
  ⟨wSt [], 60, by decide +kernel⟩

theorem wit_TitheMetersClosesIntervalsAndStartsLives_8 : ∃ (s : State) (v : BitVec 32), (s.reaches .sb TTH_CFG = true) ∧ (s.rd TTH_CFG_INTERVAL_S ≠ v.toNat % 2 ^ 17) ∧ (s.titheRoom (s.titheTenants.length + 2) = true) ∧ (s.th.started = true) ∧ (s.th.wait = []) :=
  ⟨{ wSt [] with th := { started := true, held := [(3, 4)] } }, 60, by decide +kernel⟩

theorem wit_TitheMetersClosesIntervalsAndStartsLives_9 : ∃ (s : State) (a : Agent) (v : BitVec 32), (s.reaches a TTH_CFG = true) ∧ (a ≠ .sb) :=
  ⟨wSt [], .h0, 1, by decide +kernel⟩

theorem wit_TitheMetersClosesIntervalsAndStartsLives_10 : ∃ (s : State), (s.th.started = false) ∧ (s.pw.held = false) ∧ (s.titheRoom 1 = true) :=
  ⟨{ wSt [] with th := { fuse := 4 } }, by decide +kernel⟩

theorem wit_TitheMetersClosesIntervalsAndStartsLives_11 : ∃ (s : State), (s.th.started = true) ∧ (s.titheRoom 1 = true) :=
  ⟨{ wSt [] with th := { fuse := 512, started := true } }, by decide +kernel⟩

theorem wit_YokeFramesAreSentAcknowledgedRetransmittedAndApplied_1 : ∃ (s : State) (p : Fin 2) (e : YSent), (s.shape) ∧ ((s.pairAt p).queue = [e]) ∧ ((s.pairAt p).keyed = true) ∧ ((s.pairAt p).log = []) ∧ (s.usable p = [0]) ∧ (s.pathOpen p 0) ∧ (s.twinUp = true) ∧ (e.cls ≤ 3) ∧ (entrySize e.ent ≤ s.frameRoom p) :=
  ⟨wYk { queue := [wEntS], txFsn := 8 } [], 0, wEntS, by decide +kernel⟩

theorem wit_YokeFramesAreSentAcknowledgedRetransmittedAndApplied_2 : ∃ (s : State) (h : YokeHdr), (s.shape) ∧ (s.authOk h = true) ∧ ((s.csnTake h).2 = true) ∧ (s.pathState h.pair h.path ≠ 0) ∧ ((s.pairAt h.pair).log = []) ∧ (s.portUp (pathPort h.pair h.path) = true) :=
  ⟨wYk { csnA := 3 } [], wHdr 4 0, by decide +kernel⟩

theorem wit_YokeFramesAreSentAcknowledgedRetransmittedAndApplied_3 : ∃ (s : State) (h : YokeHdr), (s.authOk h = true) ∧ ((s.csnTake h).2 = false) ∧ (s.portUp (pathPort h.pair h.path) = true) :=
  ⟨wYk { csnA := 4 } [], wHdr 4 0, by decide +kernel⟩

theorem wit_YokeFramesAreSentAcknowledgedRetransmittedAndApplied_4 : ∃ (s : State) (h : YokeHdr), (s.authOk h = false) ∧ (s.portUp (pathPort h.pair h.path) = true) :=
  ⟨wYk {} [], { wHdr 4 0 with auth := false }, by decide +kernel⟩

theorem wit_YokeFramesAreSentAcknowledgedRetransmittedAndApplied_5 : ∃ (s : State) (h : YokeHdr) (f : YFrame) (e : YSent), (s.shape) ∧ (s.authOk h = true) ∧ ((s.csnTake h).2 = true) ∧ (s.pathState h.pair h.path ≠ 0) ∧ (s.still) ∧ (s.yk.rsv = none) ∧ ((s.pairAt h.pair).log = [f]) ∧ (f.gen = h.akgen) ∧ (f.fsn ≤ h.ack.toNat) ∧ (f.ents = [e]) ∧ (e.cls = 2) ∧ (e.req = none) ∧ (e.ent ≠ .genEnd) ∧ (s.portUp (pathPort h.pair h.path) = true) :=
  ⟨wYk { log := [⟨7, false, [wEntS], 0⟩], txFsn := 8 } [], wHdr 4 7, ⟨7, false, [wEntS], 0⟩, wEntS, by decide +kernel⟩

theorem wit_YokeFramesAreSentAcknowledgedRetransmittedAndApplied_6 : ∃ (s : State) (h : YokeHdr) (f : YFrame) (e : YSent) (r : Req) (link ld tag : Nat) (line : BitVec 40) (d : List Line), (s.shape) ∧ (s.authOk h = true) ∧ ((s.csnTake h).2 = true) ∧ (s.pathState h.pair h.path ≠ 0) ∧ (s.alone r) ∧ (r.phase = .twin 1) ∧ (r.src = .ld link ld tag) ∧ (tag < 65536) ∧ (r.kind = .write) ∧ (s.linkUp link = true) ∧ (s.yk.rsv = none) ∧ ((s.pairAt h.pair).log = [f]) ∧ (f.gen = h.akgen) ∧ (f.fsn ≤ h.ack.toNat) ∧ (f.ents = [e]) ∧ (e.cls = 1) ∧ (e.req = some r.id) ∧ (e.ent = .full line d) ∧ (s.cbOf line.toNat = none) ∧ (s.portUp (pathPort h.pair h.path) = true) :=
  ⟨{ wYk { log := [⟨7, false, [⟨.full 0x2A41 [5], 2, some 7, 1, 0⟩], 0⟩], txFsn := 8 } [(HPT_LSTS_LDS_UP 0 3, 3 * 2 ^ 20 + 16)] with fab := { act := [wReq .write (.twin 1)] } }, wHdr 4 7, ⟨7, false, [⟨.full 0x2A41 [5], 2, some 7, 1, 0⟩], 0⟩, ⟨.full 0x2A41 [5], 2, some 7, 1, 0⟩, wReq .write (.twin 1), 3, 5, 9, 0x2A41, [5], by decide +kernel⟩

theorem wit_YokeFramesAreSentAcknowledgedRetransmittedAndApplied_7 : ∃ (s : State) (p : Fin 2) (f : YFrame) (fsn : BitVec 48), (s.shape) ∧ ((s.pairAt p).log = [f]) ∧ (f.fsn = fsn.toNat) ∧ ((s.pairAt p).keyed = true) ∧ (s.usable p = [0]) ∧ (s.pathOpen p 0) :=
  ⟨wYk { log := [⟨7, false, [wEntS], 0⟩], txFsn := 8 } [], 0, ⟨7, false, [wEntS], 0⟩, 7, by decide +kernel⟩

theorem wit_YokeFramesAreSentAcknowledgedRetransmittedAndApplied_8 : ∃ (s : State) (h : YokeHdr) (r : Fin 256) (cls : Fin 4) (role : Fin 2) (epoch : BitVec 24) (size : Nat), (s.shape) ∧ (s.authOk h = true) ∧ (s.pathState h.pair h.path ≠ 0) ∧ (s.usable h.pair = [0]) ∧ (s.pathOpen h.pair 0) ∧ ((s.pairAt h.pair).log = []) ∧ (h.gen = (s.pairAt h.pair).rxGen) ∧ (h.seq.toNat = (s.pairAt h.pair).applied + 1) ∧ ((s.pairAt h.pair).held = []) ∧ ((s.pairAt h.pair).rxOp = none) ∧ ((s.pairAt h.pair).rxIdx = 0) ∧ ((s.pairAt h.pair).seen = []) ∧ ((s.pairAt h.pair).errs = []) ∧ (s.yk.healIn = []) ∧ (s.yk.healDone = []) ∧ (s.still) ∧ (s.rgnValid r = true) ∧ (s.rgnClass r = cls) ∧ (cls ≠ 0) ∧ (s.rgnSize r = size) ∧ (s.portUp (pathPort h.pair h.path) = true) :=
  ⟨wYk { applied := 6 } wRg2, wHdr 7 0, 2, 1, 1, 7, 4, by decide +kernel⟩

theorem wit_YokeFramesAreSentAcknowledgedRetransmittedAndApplied_9 : ∃ (s : State) (h : YokeHdr) (ents : List YokeEntry), (s.shape) ∧ (h.gen = (s.pairAt h.pair).rxGen) ∧ (h.seq.toNat ≤ (s.pairAt h.pair).applied) ∧ (s.usable h.pair = [0]) ∧ (s.pathOpen h.pair 0) ∧ ((s.pairAt h.pair).errs = []) ∧ (s.portUp (pathPort h.pair h.path) = true) :=
  ⟨wYk { applied := 7 } [], wHdr 7 0, [wRole], by decide +kernel⟩

theorem wit_YokeFramesAreSentAcknowledgedRetransmittedAndApplied_10 : ∃ (s : State) (p : Fin 2), (s.shape) ∧ (s.naks p ≠ []) ∧ (s.usable p = [0]) ∧ (s.pathOpen p 0) ∧ ((s.pairAt p).errs = []) :=
  ⟨wYk { applied := 6, held := [⟨9, false, [], []⟩] } [], 0, by decide +kernel⟩

theorem wit_YokeFramesAreSentAcknowledgedRetransmittedAndApplied_11 : ∃ (s : State) (p path : Fin 2), (s.shape) ∧ (s.on YOK_CTL_ENABLE = true) ∧ (s.pairsOn.contains p.val = true) ∧ ((s.pairAt p).keyed = true) ∧ (s.pathOpen p path) :=
  ⟨wYk {} [], 0, 0, by decide +kernel⟩

theorem wit_YokePathsHandshakesAndTheTwinFollowTheirEvents_1 : ∃ (s : State) (p path : Fin 2), (s.pathState p path ≠ 0) ∧ (s.pathState p (1 - path).val ≠ 0) :=
  ⟨wYk {} [(⟨YOK_PAIR 0, 0, 32⟩, 0xA0000000)], 0, 1, by decide +kernel⟩

theorem wit_YokePathsHandshakesAndTheTwinFollowTheirEvents_2 : ∃ (s : State) (p path : Fin 2), (s.pathState p path = 1) ∧ (s.pathState p (1 - path).val ≠ 0) :=
  ⟨wYk {} [(⟨YOK_PAIR 0, 0, 32⟩, 0x90000000)], 0, 1, by decide +kernel⟩

theorem wit_YokePathsHandshakesAndTheTwinFollowTheirEvents_3 : ∃ (s : State) (p path : Fin 2), (s.pathState p path = 1) :=
  ⟨wYk {} [(⟨YOK_PAIR 0, 0, 32⟩, 0x90000000)], 0, 1, by decide +kernel⟩

theorem wit_YokePathsHandshakesAndTheTwinFollowTheirEvents_4 : ∃ (s : State) (p path : Fin 2), (s.pathState p path ≠ 0) ∧ (s.pathState p (1 - path).val = 0) ∧ (s.pairsOn.contains p.val = true) ∧ (s.still) ∧ (s.rd YOK_STS_TWIN = 2) ∧ (∀ r : Fin 256, s.rd (YOK_RGN_STATE r) ≠ 1 ∧ s.rd (YOK_RGN_STATE r) ≠ 2 ∧ s.rd (YOK_RGN_STATE r) ≠ 4) :=
  ⟨wYk {} [], 0, 0, by decide +kernel⟩

theorem wit_YokePathsHandshakesAndTheTwinFollowTheirEvents_5 : ∃ (s : State) (p : Fin 2), (s.still) ∧ ((s.pairAt p).log ≠ []) ∧ (s.rd YOK_STS_TWIN = 2) ∧ (∀ r : Fin 256, s.rd (YOK_RGN_STATE r) ≠ 1 ∧ s.rd (YOK_RGN_STATE r) ≠ 2 ∧ s.rd (YOK_RGN_STATE r) ≠ 4) :=
  ⟨wYk { log := [⟨7, false, [], 0⟩] } [], 0, by decide +kernel⟩

theorem wit_YokePathsHandshakesAndTheTwinFollowTheirEvents_6 : ∃ (s : State) (p : Fin 2) (r : Fin 256), (s.still) ∧ ((s.pairAt p).log ≠ []) ∧ (s.rd YOK_STS_TWIN = 2) ∧ (s.rd (YOK_RGN_STATE r) = 2) ∧ (s.unacked.any (fun e => e.region == r.val) = false) ∧ (∀ q : Fin 256, q ≠ r → s.rd (YOK_RGN_STATE q) = 0) :=
  ⟨wYk { log := [⟨7, false, [], 0⟩] } [(⟨YOK_RGN 5, 0, 64⟩, 0x4800000000000000)], 0, 5, by decide +kernel⟩

theorem wit_YokePathsHandshakesAndTheTwinFollowTheirEvents_7 : ∃ (s : State) (p path : Fin 2) (serial : BitVec 128) (nonce : BitVec 256) (gen : Bool) (pairs : Fin 4), (s.shape) ∧ (s.on YOK_CTL_ENABLE = true) ∧ (s.pairsOn.contains p.val = true) ∧ (s.initiator = false) ∧ (serial.toNat = s.yk.serialTwin) ∧ (pairs.val = s.pairsOn.length) ∧ (s.pairKeyed = true) ∧ (s.pathOpen p path) ∧ (s.portUp (pathPort p path) = true) :=
  ⟨wYk {} [(CPH_PFSLOT_FW_LOADED, 2 ^ 15)], 0, 0, 0, 77, true, 1, by decide +kernel⟩

theorem wit_YokePathsHandshakesAndTheTwinFollowTheirEvents_8 : ∃ (s : State) (p path : Fin 2) (serial : BitVec 128) (nonce : BitVec 256) (gen : Bool) (pairs : Fin 4), (s.shape) ∧ ((s.pairAt p).hand = .hello) ∧ (gen = (s.pairAt p).handGen) ∧ (serial.toNat = s.yk.serialTwin) ∧ (pairs.val = s.pairsOn.length) ∧ (s.portUp (pathPort p path) = true) :=
  ⟨wYk { hand := .hello, handGen := true } [(CPH_PFSLOT_FW_LOADED, 2 ^ 15)], 0, 0, 0, 77, true, 1, by decide +kernel⟩

theorem wit_YokePathsHandshakesAndTheTwinFollowTheirEvents_9 : ∃ (s : State) (p path : Fin 2) (gen : Bool), (s.shape) ∧ ((s.pairAt p).hand = .rsp) ∧ (gen = (s.pairAt p).handGen) ∧ (s.portUp (pathPort p path) = true) :=
  ⟨wYk { hand := .rsp, handGen := true } [], 0, 0, true, by decide +kernel⟩

theorem wit_YokePathsHandshakesAndTheTwinFollowTheirEvents_10 : ∃ (s : State) (p : Fin 2), (s.on YOK_CTL_ENABLE = true) ∧ (s.pairsOn.contains p.val = true) ∧ ((s.pairAt p).hand = .hello) ∧ (s.pathOpen p (s.hsPath p)) :=
  ⟨wYk { hand := .hello } [], 0, by decide +kernel⟩

theorem wit_YokePathsHandshakesAndTheTwinFollowTheirEvents_11 : ∃ (s : State) (p path : Fin 2) (reason : Byte), (s.shape) ∧ ((s.pairAt p).hand ≠ .idle) ∧ (reason ≠ 7) ∧ (s.rd YOK_STS_TWIN = 1) ∧ (s.on YOK_ERR_LAST_VALID = false) ∧ (s.portUp (pathPort p path) = true) :=
  ⟨wYk { hand := .rsp } [(YOK_STS_TWIN, 1)], 0, 0, 9, by decide +kernel⟩

theorem wit_YokePathsHandshakesAndTheTwinFollowTheirEvents_12 : ∃ (s : State) (p : Fin 2), (s.shape) ∧ ((s.pairAt p).keyed = true) ∧ ((s.pairAt p).hand = .idle) ∧ ((s.pairAt p).oldTx = false) ∧ (s.initiator = false) :=
  ⟨wYk {} [], 0, by decide +kernel⟩

theorem wit_YokePathsHandshakesAndTheTwinFollowTheirEvents_13 : ∃ (s : State) (a : Agent) (on : Bool), (s.reaches a YOK_CTL = true) ∧ (∀ r : Fin 256, s.rd (YOK_RGN_STATE r) = 0 ∨ s.rd (YOK_RGN_STATE r) = 3) :=
  ⟨wYk {} [], .h0, true, by decide +kernel⟩

theorem wit_YokePathsHandshakesAndTheTwinFollowTheirEvents_14 : ∃ (s : State) (a : Agent) (on : Bool) (r : Fin 256), (s.reaches a YOK_CTL = true) ∧ (s.rd (YOK_RGN_STATE r) ≠ 0) ∧ (s.rd (YOK_RGN_STATE r) ≠ 3) :=
  ⟨wYk {} [(YOK_RGN_STATE 5, 2)], .h0, true, 5, by decide +kernel⟩

theorem wit_HealsRolesTheRelayAndTheResilverActAsRuled_1 : ∃ (s : State) (h : YokeHdr) (num : BitVec 32) (page g0 g1 : Bool) (line : BitVec 40) (n0 n1 : BitVec 48), (s.shape) ∧ (s.authOk h = true) ∧ ((s.csnTake h).2 = true) ∧ (s.pathState h.pair h.path ≠ 0) ∧ ((s.pairAt h.pair).log = []) ∧ (s.yk.healIn = []) ∧ (h.pair = 0) ∧ (g0 ≠ (s.pairAt 0).rxGen) ∧ (s.portUp (pathPort h.pair h.path) = true) :=
  ⟨wYk {} [], wHdr 4 0, 9, true, true, false, 0x2A41, 7, 0, by decide +kernel⟩

theorem wit_HealsRolesTheRelayAndTheResilverActAsRuled_2 : ∃ (s : State) (h : YokeHdr) (num : BitVec 32) (page g0 g1 : Bool) (line : BitVec 40) (n0 n1 : BitVec 48), (s.shape) ∧ (s.authOk h = true) ∧ ((s.csnTake h).2 = true) ∧ (s.pathState h.pair h.path ≠ 0) ∧ ((s.pairAt h.pair).log = []) ∧ (s.yk.healIn = []) ∧ (s.rgnOfLine line.toNat = none) ∧ (s.healReady { num := num.toNat, line := line.toNat, page := page, need := [(g0, n0.toNat), (g1, n1.toNat)] } = true) ∧ (s.usable (s.pairOf line.toNat) = [0]) ∧ (s.pathOpen (s.pairOf line.toNat) 0) ∧ (s.pairOf line.toNat = h.pair) ∧ (s.portUp (pathPort h.pair h.path) = true) :=
  ⟨wYk {} [], wHdr 4 0, 9, false, false, false, 0x2A41, 0, 0, by decide +kernel⟩

theorem wit_HealsRolesTheRelayAndTheResilverActAsRuled_3 : ∃ (s : State) (h : YokeHdr) (x : Heal) (f : Nat) (data : List Line) (fr : BitVec 31), (s.shape) ∧ (s.authOk h = true) ∧ ((s.csnTake h).2 = true) ∧ (s.pathState h.pair h.path ≠ 0) ∧ ((s.pairAt h.pair).log = []) ∧ (s.still) ∧ (s.yk.heals = [x]) ∧ (s.yk.healQ = []) ∧ (s.yk.healDone = []) ∧ (x.why = .command) ∧ (x.num < 2 ^ 32) ∧ (s.fab.cb = []) ∧ ((s.tierOf (pageOf x.line)).frame = some f) ∧ ((s.tierOf (pageOf x.line)).state = .poisoned) ∧ (s.portUp (pathPort h.pair h.path) = true) :=
  ⟨{ wYk {} [] with yk := { pairs := [{ keyed := true }, {}], heals := [wHeal] }, win := { tier := [(0xA9, { state := .poisoned, frame := some 0x300, dirty := true, poison := true, region := 2 })] } }, wHdr 4 0, wHeal, 0x300, [5, 6], 0, by decide +kernel⟩

theorem wit_HealsRolesTheRelayAndTheResilverActAsRuled_4 : ∃ (s : State) (x : Heal), (s.yk.heals = [x]) ∧ (s.yk.healQ = []) ∧ (x.why = .command) ∧ (x.num < 2 ^ 32) ∧ (x.win ≠ 53) :=
  ⟨{ wYk {} [] with yk := { heals := [wHeal] } }, wHeal, by decide +kernel⟩

theorem wit_HealsRolesTheRelayAndTheResilverActAsRuled_5 : ∃ (s : State) (r : Fin 256) (epoch : Nat), (s.yk.twinSaid = [(r.val, 1, epoch)]) ∧ (epoch < 2 ^ 24) ∧ (s.rd (YOK_RGN_STATE r) = 3) ∧ (s.twinUp = true) ∧ (s.rd (YOK_RGN_ROLE r) = 0) ∧ (s.rgnMarks r = []) ∧ (s.yk.owesRsv.contains r.val = false) ∧ (s.rd (YOK_RGN_EPOCH r) < epoch) :=
  ⟨{ wYk {} [(⟨YOK_RGN 5, 0, 64⟩, 0x6000000000000000 + 0 * 2 ^ 60 + 4 * 2 ^ 32)] with yk := { twinSaid := [(5, 1, 9)] } }, 5, 9, by decide +kernel⟩

theorem wit_HealsRolesTheRelayAndTheResilverActAsRuled_6 : ∃ (s : State) (r : Fin 256) (epoch : Nat), (s.yk.twinSaid = [(r.val, 1, epoch)]) ∧ (epoch < 2 ^ 24) ∧ (s.rd (YOK_RGN_STATE r) = 3) ∧ (s.twinUp = true) ∧ (s.rd (YOK_RGN_ROLE r) = 0) ∧ (s.rgnMarks r = []) ∧ (s.yk.owesRsv.contains r.val = false) ∧ (epoch ≤ s.rd (YOK_RGN_EPOCH r)) :=
  ⟨{ wYk {} [(⟨YOK_RGN 5, 0, 64⟩, 0x6000000000000000 + 0 * 2 ^ 60 + 4 * 2 ^ 32)] with yk := { twinSaid := [(5, 1, 4)] } }, 5, 4, by decide +kernel⟩

theorem wit_HealsRolesTheRelayAndTheResilverActAsRuled_7 : ∃ (s : State) (r : Fin 256) (epoch : Nat), (s.yk.twinSaid = [(r.val, 0, epoch)]) ∧ (epoch < 2 ^ 24) ∧ (s.rd (YOK_RGN_STATE r) = 3) ∧ (s.twinUp = true) ∧ (s.rd (YOK_RGN_ROLE r) = 1) ∧ (s.rgnMarks r = []) ∧ (s.yk.owesRsv.contains r.val = false) ∧ (s.rd (YOK_RGN_EPOCH r) ≤ epoch) :=
  ⟨{ wYk {} [(⟨YOK_RGN 5, 0, 64⟩, 0x6000000000000000 + 1 * 2 ^ 60 + 4 * 2 ^ 32)] with yk := { twinSaid := [(5, 0, 4)] } }, 5, 4, by decide +kernel⟩

theorem wit_HealsRolesTheRelayAndTheResilverActAsRuled_8 : ∃ (s : State) (r : Fin 256) (epoch : Nat), (s.yk.twinSaid = [(r.val, 0, epoch)]) ∧ (epoch < 2 ^ 24) ∧ (s.rd (YOK_RGN_STATE r) = 3) ∧ (s.twinUp = true) ∧ (s.rd (YOK_RGN_ROLE r) = 1) ∧ (s.rgnMarks r = []) ∧ (s.yk.owesRsv.contains r.val = false) ∧ (epoch < s.rd (YOK_RGN_EPOCH r)) :=
  ⟨{ wYk {} [(⟨YOK_RGN 5, 0, 64⟩, 0x6000000000000000 + 1 * 2 ^ 60 + 4 * 2 ^ 32)] with yk := { twinSaid := [(5, 0, 3)] } }, 5, 3, by decide +kernel⟩

theorem wit_HealsRolesTheRelayAndTheResilverActAsRuled_9 : ∃ (s : State) (r : Fin 256) (epoch : Nat), (s.yk.twinSaid = [(r.val, 0, epoch)]) ∧ (epoch < 2 ^ 24) ∧ (s.rd (YOK_RGN_STATE r) = 3) ∧ (s.twinUp = true) ∧ (s.rd (YOK_RGN_ROLE r) = 0) ∧ (s.rgnMarks r = []) ∧ (s.yk.owesRsv.contains r.val = false) ∧ (epoch < s.rd (YOK_RGN_EPOCH r)) :=
  ⟨{ wYk {} [(⟨YOK_RGN 5, 0, 64⟩, 0x6000000000000000 + 0 * 2 ^ 60 + 4 * 2 ^ 32)] with yk := { twinSaid := [(5, 0, 3)] } }, 5, 3, by decide +kernel⟩

theorem wit_HealsRolesTheRelayAndTheResilverActAsRuled_10 : ∃ (s : State) (r : Req) (link ld tag : Nat) (env : FabEnv), (s.alone r) ∧ (s.mayMerge r link ld tag) ∧ (r.phase = .lag) ∧ (env.voted = none) :=
  ⟨wAlone (wReq .write .lag) [], (wReq .write .lag), 3, 5, 9, {}, by decide +kernel⟩

theorem wit_HealsRolesTheRelayAndTheResilverActAsRuled_11 : ∃ (s : State) (g : BitVec 20) (r : Nat), (s.rgnOfGib (g.toNat / 16) = some r) ∧ (s.rgnClass r = 2) ∧ (s.rd (YOK_RGN_STATE r) = 1 ∨ s.rd (YOK_RGN_STATE r) = 2 ∨ s.rd (YOK_RGN_STATE r) = 4 ∨ s.rd (YOK_RGN_STATE r) = 5) ∧ (s.yk.lagOnly.contains g.toNat = true) ∧ ((s.unacked.any fun e => e.cls == 1 && (entLine e.ent).any fun l => granuleOf l == g.toNat) = false) :=
  ⟨{ wYk {} [(⟨TIN_RGN_EXT 2, 0, 32⟩, 0x30004), (⟨TIN_RGN_ATTR 2, 0, 32⟩, 0x80000308), (YOK_RGN_STATE 2, 2), (TIN_DPA_LIMIT_CAP_GIB, 16)] with yk := { marks := [70, 5], lagT := [(70, 1)], lagOnly := [70] } }, 70, 2, by decide +kernel⟩

theorem wit_HealsRolesTheRelayAndTheResilverActAsRuled_12 : ∃ (s : State) (a : Agent) (v : BitVec 30) (r : Fin 256), (s.reaches a YOK_RSV_CTL = true) ∧ (s.on YOK_RSV_CTL_BUSY = false) ∧ (getBits v.toNat 16 8 = r) ∧ (s.rd (YOK_RGN_ROLE r) = 0) ∧ (s.rd (YOK_RGN_STATE r) = 1) :=
  ⟨wYk {} ([(YOK_RGN_STATE 2, 1)] ++ wRg2), .h0, 0x023200, 2, by decide +kernel⟩

theorem wit_HealsRolesTheRelayAndTheResilverActAsRuled_13 : ∃ (s : State) (a : Agent) (v : BitVec 30), (s.reaches a YOK_RSV_CTL = true) ∧ (s.on YOK_RSV_CTL_BUSY = true) :=
  ⟨wYk {} [(YOK_RSV_CTL_BUSY, 1)], .h0, 0x023200, by decide +kernel⟩

theorem wit_HealsRolesTheRelayAndTheResilverActAsRuled_14 : ∃ (s : State) (a : Agent) (x : Resilver), (s.reaches a YOK_RSV_CTL = true) ∧ (s.yk.rsv = some x) :=
  ⟨{ wYk {} [] with yk := { rsv := some ⟨2, false, 9, false⟩ } }, .h0, ⟨2, false, 9, false⟩, by decide +kernel⟩

theorem wit_HealsRolesTheRelayAndTheResilverActAsRuled_15 : ∃ (s : State) (h : YokeHdr) (c : Fin 64) (hdr : Word64) (msg : List Byte), (s.shape) ∧ (s.authOk h = true) ∧ ((s.csnTake h).2 = true) ∧ (s.pathState h.pair h.path ≠ 0) ∧ ((s.pairAt h.pair).log = []) ∧ (56 ≤ c.val) ∧ (s.yk.relaySeen.contains (c.val, hdr.toNat) = false) ∧ (s.mbxFull c false = false) ∧ (hdr.getLsbD 60 = s.chanSecure c) ∧ (s.pathOpen h.pair h.path) ∧ (s.portUp (pathPort h.pair h.path) = true) :=
  ⟨wYk {} [], wHdr 4 0, 57, 0x1000000000000123, [1, 2, 3], by decide +kernel⟩

theorem wit_HealsRolesTheRelayAndTheResilverActAsRuled_16 : ∃ (s : State) (h : YokeHdr) (c : Nat) (csn : BitVec 48), (s.shape) ∧ (s.authOk h = true) ∧ ((s.csnTake h).2 = true) ∧ (s.pathState h.pair h.path ≠ 0) ∧ ((s.pairAt h.pair).log = []) ∧ (c < 64) ∧ (s.yk.relay = [(c, [(h.path.val, csn.toNat)])]) ∧ (s.portUp (pathPort h.pair h.path) = true) :=
  ⟨{ wYk {} [(MBX_CH_STS_OUT_FULL 57, 1)] with yk := { pairs := [{ keyed := true }, {}], relay := [(57, [(0, 6)])] } }, wHdr 4 0, 57, 6, by decide +kernel⟩

theorem wit_HealsRolesTheRelayAndTheResilverActAsRuled_17 : ∃ (s : State) (c : Fin 64) (l : List (Nat × Nat)) (p : Nat), (s.shape) ∧ (s.yk.relay = [(c.val, l)]) ∧ (s.relayPair = p) ∧ (p < 2) ∧ ((s.pairAt p).keyed = true) ∧ (s.usable p = [0]) ∧ (s.pathOpen p 0) :=
  ⟨{ wYk {} [] with yk := { pairs := [{ keyed := true }, {}], relay := [(57, [(0, 6)])] } }, 57, [(0, 6)], 0, by decide +kernel⟩

theorem wit_NetworkPortsTrainGoDownPauseAndDiscard_1 : ∃ (s : State) (a : Agent) (n : Fin 8) (v : BitVec 32), (s.reaches a (NPT_CTL n) = true) ∧ (s.on (NPT_CTL_ENABLE n) = false) ∧ (s.yokePort n = false) ∧ (getBits v.toNat 28 2 ≠ 3) ∧ (s.rd (NPT_STS_SUB_UP n) = 0) :=
  ⟨wNp [], .h0, 3, 0x95A50000, by decide +kernel⟩

theorem wit_NetworkPortsTrainGoDownPauseAndDiscard_2 : ∃ (s : State) (a : Agent) (n : Fin 8) (v : BitVec 32), (s.reaches a (NPT_CTL n) = true) ∧ (s.on (NPT_CTL_ENABLE n) = true) ∧ (getBits v.toNat 28 2 ≠ 3) ∧ (getBits v.toNat 28 2 ≠ s.rd (NPT_CTL_MODE n)) ∧ (getBits v.toNat 30 2 = 2) ∧ (s.bitOf (FLT_LIVE_PRESENT (wNPT n)) 2 = true) ∧ (s.rcd.queue.length < 128) :=
  ⟨wNp [(NPT_CTL_ENABLE 3, 1), (FLT_LIVE_PRESENT 7, 4)], .h0, 3, 0x95A50000, by decide +kernel⟩

theorem wit_NetworkPortsTrainGoDownPauseAndDiscard_3 : ∃ (s : State) (a : Agent) (n : Fin 8), (s.reaches a (NPT_CTL n) = true) ∧ (s.on (NPT_CTL_ENABLE n) = true) ∧ (s.rd (NPT_STS_SUB_UP n) = 1) ∧ (s.rd (NPT_CTL_MODE n) = 0) ∧ (s.on (NPT_CTL_ENABLE n) = true) ∧ ((n.val < 4 ∨ s.on YOK_CTL_ENABLE = false)) :=
  ⟨wNp [(NPT_CTL_ENABLE 3, 1), (⟨NPT_STS 3, 0, 32⟩, 0x21F00000)], .h0, 3, by decide +kernel⟩

theorem wit_NetworkPortsTrainGoDownPauseAndDiscard_4 : ∃ (s : State) (n : Fin 8) (lanes : BitVec 4), (s.on (NPT_CTL_ENABLE n) = true) ∧ (s.rd (NPT_CTL_MODE n) = 0) :=
  ⟨wNp [(NPT_CTL_ENABLE 3, 1), (FLT_LIVE_PRESENT 7, 4)], 3, 11, by decide +kernel⟩

theorem wit_NetworkPortsTrainGoDownPauseAndDiscard_5 : ∃ (s : State) (n : Fin 8) (k : Fin 4) (lanes : BitVec 4), (s.subPorts n ≤ k.val ∨ s.on (NPT_CTL_ENABLE n) = false) :=
  ⟨wNp [(NPT_CTL_ENABLE 3, 1)], 3, 1, 11, by decide +kernel⟩

theorem wit_NetworkPortsTrainGoDownPauseAndDiscard_6 : ∃ (s : State) (n : Fin 8), (s.on (NPT_CTL_ENABLE n) = true) ∧ (s.rd (NPT_STS_SUB_UP n) = 1) ∧ (s.rd (NPT_CTL_MODE n) = 0) ∧ (s.on (NPT_CTL_ENABLE n) = true) ∧ ((n.val < 4 ∨ s.on YOK_CTL_ENABLE = false)) :=
  ⟨wNp [(NPT_CTL_ENABLE 3, 1), (⟨NPT_STS 3, 0, 32⟩, 0x21F00000)], 3, by decide +kernel⟩

theorem wit_NetworkPortsTrainGoDownPauseAndDiscard_7 : ∃ (s : State) (n : Fin 8) (k : Fin 4), (s.bitOf (NPT_STS_SUB_UP n) k = false) :=
  ⟨wNp [], 3, 2, by decide +kernel⟩

theorem wit_NetworkPortsTrainGoDownPauseAndDiscard_8 : ∃ (s : State) (n : Fin 8) (k : Fin 4), (s.on (NPT_CTL_ENABLE n) = true) ∧ (k.val < s.subPorts n) ∧ (s.bitOf (NPT_STS_SUB_UP n) k = false) :=
  ⟨wNp [(NPT_CTL_ENABLE 3, 1), (⟨NPT_LCNT 3, 0, 16⟩, 65535)], 3, 0, by decide +kernel⟩

theorem wit_NetworkPortsTrainGoDownPauseAndDiscard_9 : ∃ (s : State) (n : Fin 8) (pause : BitVec 8), (s.rd (NPT_STS_SUB_UP n) ≠ 0) :=
  ⟨wNp [(NPT_STS_SUB_UP 3, 1)], 3, 0x81, by decide +kernel⟩

theorem wit_NetworkPortsTrainGoDownPauseAndDiscard_10 : ∃ (s : State) (n : Fin 8) (p : Fin 8) (o : Out), (s.bitOf (NPT_STS_SUB_UP n) 0 = true) ∧ (s.rd (NPT_CTL_MODE n) = 0) ∧ (s.net.paused = [(n.val, p.val)]) ∧ (s.net.held = [(n.val, p.val, o)]) :=
  ⟨{ wNp [(NPT_STS_SUB_UP 3, 1)] with net := { paused := [(3, 5)], held := [(3, 5, .neigh 3 2 7)] } }, 3, 5, .neigh 3 2 7, by decide +kernel⟩

theorem wit_NetworkPortsTrainGoDownPauseAndDiscard_11 : ∃ (s : State) (n : Fin 8) (sub : Fin 4), (s.bitOf (NPT_STS_SUB_UP n) sub = true) ∧ (s.on DRL_CTL_ENABLE = true) ∧ (s.drillPort n = true) :=
  ⟨wNp [(NPT_STS_SUB_UP 3, 1), (⟨DRL_CTL, 0, 32⟩, 0x80FF0000 + 0xFF)], 3, 0, by decide +kernel⟩

theorem wit_NetworkPortsTrainGoDownPauseAndDiscard_12 : ∃ (s : State) (n : Fin 8) (sub : Fin 4) (vlan : BitVec 12), (s.bitOf (NPT_STS_SUB_UP n) sub = true) ∧ (s.drillPort n = false) :=
  ⟨wNp [(NPT_STS_SUB_UP 7, 1)], 7, 0, 5, by decide +kernel⟩

theorem wit_MailboxSlotsAreSentToAcknowledgedAndDelivered_1 : ∃ (s : State) (a : Agent) (c : Fin 64), (s.reaches a MBX_SEND = true) ∧ (s.maySend a c false = true) ∧ (s.mbxFull c false = false) :=
  ⟨wMb [((MBX_STG_BYTES 2).bank .sb, 0x1234)], .sb, 35, by decide +kernel⟩

theorem wit_MailboxSlotsAreSentToAcknowledgedAndDelivered_2 : ∃ (s : State) (a : Agent) (c : Fin 64), (s.reaches a MBX_SEND = true) ∧ (s.maySend a c false = true) ∧ (s.mbxFull c false = true) :=
  ⟨wMb [((MBX_STG_BYTES 2).bank .sb, 0x1234), (MBX_CH_STS_IN_FULL 35, 1)], .sb, 35, by decide +kernel⟩

theorem wit_MailboxSlotsAreSentToAcknowledgedAndDelivered_3 : ∃ (s : State) (a : Agent) (dir : Bool) (c : Fin 64), (s.reaches a MBX_SEND = true) ∧ (s.maySend a c dir = false) ∧ (s.rcd.queue.length < 128) :=
  ⟨wMb [], .h0, false, 35, by decide +kernel⟩

theorem wit_MailboxSlotsAreSentToAcknowledgedAndDelivered_4 : ∃ (s : State) (a : Agent) (c : Fin 64) (seq : BitVec 32), (s.reaches a MBX_ACK = true) ∧ (s.mayAck a c false = true) ∧ (s.mbxFull c false = true) ∧ (s.mbxSeq c false = seq.toNat) :=
  ⟨wMb [(MBX_IN_HDR_HEADER 35, 77), (MBX_CH_STS_IN_FULL 35, 1)], .h1, 35, 77, by decide +kernel⟩

theorem wit_MailboxSlotsAreSentToAcknowledgedAndDelivered_5 : ∃ (s : State) (a : Agent) (c : Fin 64) (seq : BitVec 32), (s.reaches a MBX_ACK = true) ∧ (s.mayAck a c false = true) ∧ (s.mbxFull c false = true) ∧ (s.mbxSeq c false ≠ seq.toNat) :=
  ⟨wMb [(MBX_IN_HDR_HEADER 35, 77), (MBX_CH_STS_IN_FULL 35, 1)], .h1, 35, 78, by decide +kernel⟩

theorem wit_MailboxSlotsAreSentToAcknowledgedAndDelivered_6 : ∃ (s : State) (a : Agent) (c : Fin 64) (seq : BitVec 32), (s.reaches a MBX_ACK = true) ∧ (s.mayAck a c false = true) ∧ (s.mbxFull c false = false) :=
  ⟨wMb [(MBX_IN_HDR_HEADER 35, 77), (MBX_CH_STS_IN_FULL 35, 0)], .h1, 35, 77, by decide +kernel⟩

theorem wit_MailboxSlotsAreSentToAcknowledgedAndDelivered_7 : ∃ (s : State) (c : Fin 64) (seq : BitVec 32), (s.powered 94 = true) ∧ (32 ≤ c.val) ∧ (c.val < 48) ∧ (s.mbxFull c true = true) ∧ (s.mbxSeq c true = seq.toNat) :=
  ⟨wMb [(MBX_OUT_HDR_HEADER 35, 77), (MBX_CH_STS_OUT_FULL 35, 1)], 35, 77, by decide +kernel⟩

theorem wit_MailboxSlotsAreSentToAcknowledgedAndDelivered_8 : ∃ (s : State) (a : Agent) (dir : Bool) (c : Fin 64) (seq : BitVec 32), (s.reaches a MBX_ACK = true) ∧ (s.mayAck a c dir = false) ∧ (s.rcd.queue.length < 128) :=
  ⟨wMb [], .h0, true, 35, 7, by decide +kernel⟩

theorem wit_MailboxSlotsAreSentToAcknowledgedAndDelivered_9 : ∃ (s : State) (link ld : Fin 16) (op : BitVec 16) (pay : List Byte) (n : Fin 64) (c : Nat), (s.powered 94 = true) ∧ ((s.ldOf (link.val * 16 + ld.val)).mbxQueued = false) ∧ ((s.ldOf (link.val * 16 + ld.val)).mbxStarted = false) ∧ (s.locked = true) ∧ (s.ldIndex link ld = some n) ∧ (s.on (HPT_LDMBX_VALID n) = true) ∧ (s.rd (HPT_LDMBX_CHANNEL n) = c) ∧ (s.mbxFull c false = false) :=
  ⟨{ wMb ([(⟨HPT_LDMBX 9, 0, 32⟩, 0x80000003)] ++ wLinkL) with hv := {} }, 3, 5, 0x4000, [1, 2, 3], 9, 3, by decide +kernel⟩

theorem wit_MailboxSlotsAreSentToAcknowledgedAndDelivered_10 : ∃ (s : State) (link ld : Fin 16) (op : BitVec 16) (pay : List Byte), (s.powered 94 = true) ∧ ((s.ldOf (link.val * 16 + ld.val)).mbxQueued = false) ∧ ((s.ldOf (link.val * 16 + ld.val)).mbxStarted = false) ∧ (s.locked = true) ∧ (s.ldIndex link ld = none) :=
  ⟨wMb wLinkL, 3, 6, 0x4000, [1, 2, 3], by decide +kernel⟩

theorem wit_MailboxSlotsAreSentToAcknowledgedAndDelivered_11 : ∃ (s : State) (c : Fin 64) (n : Fin 64), (c.val < 32) ∧ (s.mbxFull c true = true) ∧ (getBits (s.rd (fHdr c true)) 45 3 = 1) ∧ (getBits (s.rd (fHdr c true)) 33 12 = n) ∧ (s.on (TIN_LDB_VALID n) = true) ∧ ((s.ldOf (s.rd (TIN_LDB_LINK n) * 16 + s.rd (TIN_LDB_LD n))).mbxStarted = true) ∧ ((s.ldOf (s.rd (TIN_LDB_LINK n) * 16 + s.rd (TIN_LDB_LD n))).mbxDiscard = false) :=
  ⟨(wMb ([(MBX_CH_STS_OUT_FULL 3, 1), (MBX_OUT_HDR_HEADER 3, 2 ^ 45 + 9 * 2 ^ 33), (MBX_OUT_MSG 3 0, 0x4000)] ++ wLinkL)).onLd 53 fun l => { l with mbxStarted := true }, 3, 9, by decide +kernel⟩

theorem wit_MailboxSlotsAreSentToAcknowledgedAndDelivered_12 : ∃ (s : State) (c : Fin 64) (n : Fin 64), (c.val < 32) ∧ (s.mbxFull c true = true) ∧ (getBits (s.rd (fHdr c true)) 45 3 = 1) ∧ (getBits (s.rd (fHdr c true)) 33 12 = n) ∧ (s.on (TIN_LDB_VALID n) = false) :=
  ⟨wMb [(MBX_CH_STS_OUT_FULL 3, 1), (MBX_OUT_HDR_HEADER 3, 2 ^ 45 + 9 * 2 ^ 33)], 3, 9, by decide +kernel⟩

theorem wit_SemaphoresAndCoresFollowTheirCommands_1 : ∃ (s : State) (a : Agent) (k : Fin 32), (s.reaches a (MBX_SEM k) = true) ∧ (s.semHeld k = false) :=
  ⟨wMb [], .h2, 7, by decide +kernel⟩

theorem wit_SemaphoresAndCoresFollowTheirCommands_2 : ∃ (s : State) (a : Agent) (k : Fin 32), (s.reaches a (MBX_SEM k) = true) ∧ (s.semHeld k = true) :=
  ⟨wMb [(⟨MBX_SEM 7, 0, 32⟩, 0x40000002)], .h2, 7, by decide +kernel⟩

theorem wit_SemaphoresAndCoresFollowTheirCommands_3 : ∃ (s : State) (a : Agent) (k : Fin 32), (s.reaches a (MBX_SEM k) = true) ∧ (s.semHeld k = true) ∧ (s.rd (MBX_SEM_OWNER k) = agentNum a) :=
  ⟨wMb [(⟨MBX_SEM 7, 0, 32⟩, 0x40000002)], .h2, 7, by decide +kernel⟩

theorem wit_SemaphoresAndCoresFollowTheirCommands_4 : ∃ (s : State) (a : Agent) (k : Fin 32), (s.reaches a (MBX_SEM k) = true) ∧ (s.semHeld k = false ∨ s.rd (MBX_SEM_OWNER k) ≠ agentNum a) :=
  ⟨wMb [(⟨MBX_SEM 7, 0, 32⟩, 0x40000001)], .h2, 7, by decide +kernel⟩

theorem wit_SemaphoresAndCoresFollowTheirCommands_5 : ∃ (s : State) (a : Agent) (k : Fin 32), (s.reaches a MBX_SEM_FORCE = true) ∧ (a ≠ .sb) ∧ (s.agentSecure a = true) :=
  ⟨wMb [(⟨MBX_SEM 7, 0, 32⟩, 0x40000002)], .h0, 7, by decide +kernel⟩

theorem wit_SemaphoresAndCoresFollowTheirCommands_6 : ∃ (s : State) (a : Agent) (k : Fin 32), (s.reaches a MBX_SEM_FORCE = true) ∧ (a = .sb ∨ s.agentSecure a = false) :=
  ⟨wMb [(⟨MBX_SEM 7, 0, 32⟩, 0x40000002)], .sb, 7, by decide +kernel⟩

theorem wit_SemaphoresAndCoresFollowTheirCommands_7 : ∃ (s : State) (n : Fin 4), (s.coreState n = 2) ∧ (s.on (HDL_CORE_CTL_SLEEP_EN n) = true) :=
  ⟨wMb [(HDL_CORE_STS_STATE 1, 2), (HDL_CORE_CTL_SLEEP_EN 1, 1)], 1, by decide +kernel⟩

theorem wit_SemaphoresAndCoresFollowTheirCommands_8 : ∃ (s : State) (n : Fin 4), (s.coreState n ≠ 2 ∨ s.on (HDL_CORE_CTL_SLEEP_EN n) = false) :=
  ⟨wMb [(HDL_CORE_STS_STATE 1, 2)], 1, by decide +kernel⟩

theorem wit_SemaphoresAndCoresFollowTheirCommands_9 : ∃ (s : State) (n : Fin 4), (s.coreState n = 3) ∧ (n.val ∈ s.mb.wakes) :=
  ⟨{ wMb [(HDL_CORE_STS_STATE 1, 3)] with mb := { wakes := [1] } }, 1, by decide +kernel⟩

theorem wit_SemaphoresAndCoresFollowTheirCommands_10 : ∃ (s : State) (a : Agent) (n m : Fin 4), (s.reaches a (HDL_CORE_CTL n) = true) ∧ (s.coreState n ≠ 4) ∧ (s.standIn n = some m.val) ∧ (s.holds wHDL = false) :=
  ⟨wMb [(HDL_CORE_STS_STATE 1, 2), (HDL_CORE_STS_STATE 2, 2), (HDL_IRQ_ROUTE_CORE 5, 1), (MBX_CH_CTL_CORE 9, 1)], .h0, 1, 2, by decide +kernel⟩

theorem wit_SemaphoresAndCoresFollowTheirCommands_11 : ∃ (s : State) (a : Agent) (n : Fin 4), (s.reaches a (HDL_CORE_CTL n) = true) ∧ (s.lastCore n = true) ∧ (s.rcd.queue.length < 127) :=
  ⟨wMb [(HDL_CORE_STS_STATE 1, 2)], .h0, 1, by decide +kernel⟩

theorem wit_SemaphoresAndCoresFollowTheirCommands_12 : ∃ (s : State) (n m : Fin 4), (s.coreState n ≠ 0) ∧ (s.coreState n ≠ 4) ∧ (s.standIn n = some m.val) ∧ (s.holds wHDL = false) :=
  ⟨wMb [(HDL_CORE_STS_STATE 1, 2), (HDL_CORE_STS_STATE 2, 2)], 1, 2, by decide +kernel⟩

theorem wit_SemaphoresAndCoresFollowTheirCommands_13 : ∃ (s : State) (a : Agent) (n : Fin 4), (s.reaches a (HDL_CORE_CTL n) = true) ∧ (s.coreState n = 4) :=
  ⟨wMb [(HDL_CORE_STS_STATE 1, 4)], .h0, 1, by decide +kernel⟩

theorem wit_SemaphoresAndCoresFollowTheirCommands_14 : ∃ (s : State) (a : Agent) (n : Fin 4), (s.reaches a (HDL_CORE_CTL n) = true) ∧ (s.coreState n ≠ 4) :=
  ⟨wMb [(HDL_CORE_STS_STATE 1, 2)], .h0, 1, by decide +kernel⟩

theorem wit_TheGranaryAllocatesCountsReferencesAndReleases_1 : ∃ (s : State) (o : Fin 64) (b : Nat) (l : List Nat), (s.grnMay o = true) ∧ (s.grn.stack = b :: l) :=
  ⟨wGr [], 4, 3, [], by decide +kernel⟩

theorem wit_TheGranaryAllocatesCountsReferencesAndReleases_2 : ∃ (s : State) (o : Fin 64), (s.grnMay o = false) :=
  ⟨wOn [91] [], 4, by decide +kernel⟩

theorem wit_TheGranaryAllocatesCountsReferencesAndReleases_3 : ∃ (s : State) (b : BitVec 20) (x : GBuf), (s.grn.held.find? (fun y => y.idx == b.toNat) = some x) ∧ (x.refs ≠ 255) :=
  ⟨wGr [], 7, ⟨7, 5, 2, false⟩, by decide +kernel⟩

theorem wit_TheGranaryAllocatesCountsReferencesAndReleases_4 : ∃ (s : State) (b : BitVec 20) (x : GBuf), (s.grn.held.find? (fun y => y.idx == b.toNat) = some x) ∧ (x.refs = 255) ∧ (s.on GRN_ERR_LAST_VALID = false) ∧ (x.owner < 64) :=
  ⟨{ wGr [] with grn := { held := [⟨7, 5, 255, false⟩] } }, 7, ⟨7, 5, 255, false⟩, by decide +kernel⟩

theorem wit_TheGranaryAllocatesCountsReferencesAndReleases_5 : ∃ (s : State) (b : BitVec 20), (s.grn.held.find? (fun y => y.idx == b.toNat) = none) ∧ (s.on GRN_ERR_LAST_VALID = false) :=
  ⟨wGr [], 77, by decide +kernel⟩

theorem wit_TheGranaryAllocatesCountsReferencesAndReleases_6 : ∃ (s : State) (b : BitVec 20) (x : GBuf), (s.grn.held.find? (fun y => y.idx == b.toNat) = some x) ∧ (1 < x.refs) :=
  ⟨wGr [], 7, ⟨7, 5, 2, false⟩, by decide +kernel⟩

theorem wit_TheGranaryAllocatesCountsReferencesAndReleases_7 : ∃ (s : State) (b : BitVec 20) (x : GBuf), (s.grn.held.find? (fun y => y.idx == b.toNat) = some x) ∧ (x.refs ≤ 1) ∧ (x.bad = false) :=
  ⟨wGr [], 2, ⟨2, 5, 1, false⟩, by decide +kernel⟩

theorem wit_TheGranaryAllocatesCountsReferencesAndReleases_8 : ∃ (s : State) (b : BitVec 20) (x : GBuf), (s.grn.held.find? (fun y => y.idx == b.toNat) = some x) ∧ (x.refs ≤ 1) ∧ (x.bad = true) :=
  ⟨wGr [], 8, ⟨8, 5, 1, true⟩, by decide +kernel⟩

theorem wit_TheGranaryAllocatesCountsReferencesAndReleases_9 : ∃ (s : State) (b : BitVec 20), (s.grn.held.find? (fun y => y.idx == b.toNat) = none) ∧ (s.on GRN_ERR_LAST_VALID = false) :=
  ⟨wGr [], 77, by decide +kernel⟩

theorem wit_TheGranaryAllocatesCountsReferencesAndReleases_10 : ∃ (s : State) (a : Agent), (s.reaches a GRN_CTL = true) ∧ (s.on GRN_CTL_ENABLE = false) :=
  ⟨wOn [91] [], .h0, by decide +kernel⟩

theorem wit_TheGranaryAllocatesCountsReferencesAndReleases_11 : ∃ (s : State) (a : Agent), (s.reaches a GRN_CTL = true) :=
  ⟨wGr [], .h0, by decide +kernel⟩

theorem wit_TheGranaryAllocatesCountsReferencesAndReleases_12 : ∃ (s : State), (s.grn.building = true) :=
  ⟨{ wOn [91] [(GRN_CTL_ENABLE, 1), (⟨GRN_OWN 3, 0, 64⟩, 2 ^ 40 + 9)] with grn := { building := true, stack := [4] } }, by decide +kernel⟩

theorem wit_TheGranaryAllocatesCountsReferencesAndReleases_13 : ∃ (s : State), (s.grn.building = false) :=
  ⟨wGr [], by decide +kernel⟩

theorem wit_TheGranaryAllocatesCountsReferencesAndReleases_14 : ∃ (s : State) (a : Agent) (v : BitVec 32), (s.reaches a GRN_CFG = true) ∧ (s.on GRN_CTL_ENABLE = false) ∧ (∀ r : Fin 256, s.rgnValid r = false ∧ s.rgnReleasing r = false) :=
  ⟨wOn [91] [], .h0, 0x05000200, by decide +kernel⟩

theorem wit_TheGranaryAllocatesCountsReferencesAndReleases_15 : ∃ (s : State) (a : Agent) (v : BitVec 32), (s.reaches a GRN_CFG = true) ∧ (getBits v.toNat 0 11 ≠ s.rd GRN_CFG_COUNT_KI) ∧ (s.on GRN_CTL_ENABLE = true) ∧ (s.rcd.queue.length < 128) :=
  ⟨wGr [], .h0, 0x05000200, by decide +kernel⟩

theorem wit_TheGranaryAllocatesCountsReferencesAndReleases_16 : ∃ (s : State) (a : Agent) (o : Fin 64) (m : BitVec 21), (s.reaches a (GRN_OWN o) = true) ∧ (((List.range 64).map fun x => if x == o.val then 0 else s.rd (GRN_OWN_MIN x)).sum + m.toNat ≤ s.grnCount) :=
  ⟨wGr [], .h0, 5, 100, by decide +kernel⟩

theorem wit_TheGranaryAllocatesCountsReferencesAndReleases_17 : ∃ (s : State) (a : Agent) (o : Fin 64) (m : BitVec 21), (s.reaches a (GRN_OWN o) = true) ∧ (s.grnCount < ((List.range 64).map fun x => if x == o.val then 0 else s.rd (GRN_OWN_MIN x)).sum + m.toNat) :=
  ⟨wGr [], .h0, 5, 0x1FFFFF, by decide +kernel⟩

theorem wit_DrillRequestsAreCheckedPresentedAndCompleted_1 : ∃ (s : State) (h : DrlHdr) (data : List Byte) (dpa len b line rg : Nat), (s.drlOk h 2) ∧ (s.drlCalm h.conn.toNat) ∧ (h.final = false) ∧ ((s.connAt h.conn.toNat).c + 1 = h.seq.toNat) ∧ ((s.connAt h.conn.toNat).next = h.seq.toNat) ∧ ((s.connAt h.conn.toNat).done = []) ∧ ((s.connAt h.conn.toNat).reqs = []) ∧ (h.seq.toNat + 1 < 2 ^ 47) ∧ (s.ackHeld h.conn.toNat) ∧ (s.still) ∧ (s.fab.alt = []) ∧ (s.fab.cb = []) ∧ (s.fab.ops = []) ∧ (s.fab.hold = false) ∧ (s.hv.armed = true) ∧ (s.on HRV_STS_ARMED = true) ∧ (s.bufFor h.conn.toNat b) ∧ (dpa < 2 ^ 46) ∧ (1 ≤ data.length) ∧ (data.length ≤ (s.connAt h.conn.toNat).maxpl) ∧ (dpa / 64 = line) ∧ ((dpa + data.length - 1) / 64 = line) ∧ (len = data.length) ∧ (s.cgAdmits (s.connAt h.conn.toNat).group line rg true) ∧ (s.rgnKeyed rg = true) ∧ (s.rgnClass rg = 0) ∧ ((s.altWay line).isSome = true) :=
  ⟨wDl {} [], wDh 1, [1, 2, 3, 4, 5, 6, 7, 8], 0xA9048, 8, 3, 0x2A41, 2, by decide +kernel⟩

theorem wit_DrillRequestsAreCheckedPresentedAndCompleted_2 : ∃ (s : State) (h : DrlHdr) (b line rg : Nat), (s.drlOk h 2) ∧ (s.drlCalm h.conn.toNat) ∧ (h.final = false) ∧ ((s.connAt h.conn.toNat).c + 1 = h.seq.toNat) ∧ ((s.connAt h.conn.toNat).next = h.seq.toNat) ∧ ((s.connAt h.conn.toNat).done = []) ∧ ((s.connAt h.conn.toNat).reqs = []) ∧ (h.seq.toNat + 1 < 2 ^ 47) ∧ (s.still) ∧ (s.fab.alt = []) ∧ (s.fab.cb = []) ∧ (s.fab.ops = []) ∧ (s.fab.hold = false) ∧ (s.hv.armed = true) ∧ (s.on HRV_STS_ARMED = true) ∧ (s.bufFor h.conn.toNat b) ∧ (line < 2 ^ 40) ∧ (h.off = 0) ∧ (s.cgAdmits (s.connAt h.conn.toNat).group line rg false) ∧ (s.rgnKeyed rg = true) ∧ ((s.altWay line).isSome = true) ∧ (s.on TIN_RUNAHEAD_ENABLE = false) ∧ (s.ncOn (bankOfLine line) = false) ∧ (s.nc.length = 16) ∧ ((s.ncOf (bankOfLine line)).miss = []) ∧ (s.on (NCH_CTL_PF_EN (bankOfLine line)) = false) :=
  ⟨wDl {} [(⟨NCH_CTL 11, 0, 32⟩, 0), (TIN_RUNAHEAD_ENABLE, 0)], wDh 1, 3, 0x2A41, 2, by decide +kernel⟩

theorem wit_DrillRequestsAreCheckedPresentedAndCompleted_3 : ∃ (s : State) (h : DrlHdr) (x y : Word64) (b line rg : Nat), (s.drlOk h 2) ∧ (s.drlCalm h.conn.toNat) ∧ (h.final = false) ∧ ((s.connAt h.conn.toNat).c + 1 = h.seq.toNat) ∧ ((s.connAt h.conn.toNat).next = h.seq.toNat) ∧ ((s.connAt h.conn.toNat).done = []) ∧ ((s.connAt h.conn.toNat).reqs = []) ∧ (h.seq.toNat + 1 < 2 ^ 47) ∧ (s.still) ∧ (s.fab.alt = []) ∧ (s.fab.cb = []) ∧ (s.fab.ops = []) ∧ (s.fab.hold = false) ∧ (s.hv.armed = true) ∧ (s.on HRV_STS_ARMED = true) ∧ (s.bufFor h.conn.toNat b) ∧ (line < 2 ^ 40) ∧ (h.off = 0) ∧ (s.cgAdmits (s.connAt h.conn.toNat).group line rg true) ∧ (s.rgnKeyed rg = true) ∧ (s.rgnClass rg = 0) ∧ ((s.altWay line).isSome = true) ∧ (s.on TIN_RUNAHEAD_ENABLE = false) ∧ (s.ncOn (bankOfLine line) = false) ∧ (s.nc.length = 16) ∧ ((s.ncOf (bankOfLine line)).miss = []) ∧ (s.on (NCH_CTL_PF_EN (bankOfLine line)) = false) :=
  ⟨wDl {} [(⟨NCH_CTL 11, 0, 32⟩, 0), (TIN_RUNAHEAD_ENABLE, 0)], wDh 1, 5, 6, 3, 0x2A41, 2, by decide +kernel⟩

theorem wit_DrillRequestsAreCheckedPresentedAndCompleted_4 : ∃ (s : State) (h : DrlHdr) (x y : Word64) (e : BitVec 128) (v : Word64), (s.drlOk h 2) ∧ (s.drlCalm h.conn.toNat) ∧ (s.drlOut h.conn.toNat) ∧ (h.seq.toNat ≤ (s.connAt h.conn.toNat).c) ∧ (h.seq.toNat + 1 < 2 ^ 47) ∧ (((s.connAt h.conn.toNat).atoms.find? fun a => a.1 == h.seq.toNat) = some (h.seq.toNat, 0, v)) :=
  ⟨wDl { c := 4, atoms := [(3, 0, 77)] } [], wDh 3, 5, 6, 0, 77, by decide +kernel⟩

theorem wit_DrillRequestsAreCheckedPresentedAndCompleted_5 : ∃ (s : State) (h : DrlHdr) (q : Fin 1024) (descs : List Byte) (b : Nat), (s.drlOk h 2) ∧ (s.drlCalm h.conn.toNat) ∧ (h.final = false) ∧ ((s.connAt h.conn.toNat).c + 1 = h.seq.toNat) ∧ ((s.connAt h.conn.toNat).next = h.seq.toNat) ∧ ((s.connAt h.conn.toNat).done = []) ∧ ((s.connAt h.conn.toNat).reqs = []) ∧ (h.seq.toNat + 1 < 2 ^ 47) ∧ (s.ackHeld h.conn.toNat) ∧ (s.still) ∧ (s.fab.alt = []) ∧ (s.dl.jobs = []) ∧ (s.bufFor h.conn.toNat b) ∧ (descs.length = 64) ∧ (64 ≤ (s.connAt h.conn.toNat).maxpl) ∧ (s.jqState q = 1) ∧ (s.jobCause h.conn.toNat q (jobDescs descs 1) = 0) :=
  ⟨wJq {} {} [], wDh 1, 6, wNop, 3, by decide +kernel⟩

theorem wit_DrillRequestsAreCheckedPresentedAndCompleted_6 : ∃ (s : State) (h : DrlHdr) (q : Fin 1024) (w : Nat) (b : Nat), (s.drlOk h 2) ∧ (s.drlCalm h.conn.toNat) ∧ (h.final = false) ∧ ((s.connAt h.conn.toNat).c + 1 = h.seq.toNat) ∧ ((s.connAt h.conn.toNat).next = h.seq.toNat) ∧ ((s.connAt h.conn.toNat).done = []) ∧ ((s.connAt h.conn.toNat).reqs = []) ∧ (h.seq.toNat + 1 < 2 ^ 47) ∧ (s.ackHeld h.conn.toNat) ∧ (s.still) ∧ (s.fab.alt = []) ∧ (s.dl.jobs = []) ∧ (s.drlOut h.conn.toNat) ∧ (s.bufFor h.conn.toNat b) ∧ (s.jqState q = 1) ∧ (s.jqConn q = h.conn.toNat) ∧ (w ≤ s.jqCount q) :=
  ⟨wJq {} {} [(DRL_JQ_COUNT_COUNT 6, 9)], wDh 1, 6, 8, 3, by decide +kernel⟩

theorem wit_DrillRequestsAreCheckedPresentedAndCompleted_7 : ∃ (s : State) (h : DrlHdr) (msg : List Byte) (b c : Nat), (s.drlOk h 2) ∧ (s.drlCalm h.conn.toNat) ∧ (h.final = false) ∧ ((s.connAt h.conn.toNat).c + 1 = h.seq.toNat) ∧ ((s.connAt h.conn.toNat).next = h.seq.toNat) ∧ ((s.connAt h.conn.toNat).done = []) ∧ ((s.connAt h.conn.toNat).reqs = []) ∧ (h.seq.toNat + 1 < 2 ^ 47) ∧ (s.ackHeld h.conn.toNat) ∧ (s.still) ∧ (s.fab.alt = []) ∧ (s.dl.jobs = []) ∧ (s.bufFor h.conn.toNat b) ∧ (msg.length = 64) ∧ ((s.connAt h.conn.toNat).control = true) ∧ ((s.connAt h.conn.toNat).chan = c) ∧ (c < 32) ∧ (s.mbxFull c false = false) :=
  ⟨wDl { desc := 0x0100040504 } [], wDh 1, List.replicate 63 1 ++ [7], 3, 4, by decide +kernel⟩

theorem wit_DrillRequestsAreCheckedPresentedAndCompleted_8 : ∃ (s : State) (h : DrlHdr) (recs : List Byte) (b : Nat), (s.drlOk h 2) ∧ (s.drlCalm h.conn.toNat) ∧ (h.final = false) ∧ ((s.connAt h.conn.toNat).c + 1 = h.seq.toNat) ∧ ((s.connAt h.conn.toNat).next = h.seq.toNat) ∧ ((s.connAt h.conn.toNat).done = []) ∧ ((s.connAt h.conn.toNat).reqs = []) ∧ (h.seq.toNat + 1 < 2 ^ 47) ∧ (s.ackHeld h.conn.toNat) ∧ (s.still) ∧ (s.fab.alt = []) ∧ (s.dl.jobs = []) ∧ (s.bufFor h.conn.toNat b) ∧ (recs.length = 8) ∧ (s.on DRL_ERR_LAST_VALID = false) :=
  ⟨wDl {} [], wDh 1, [9, 0, 0, 0, 0, 0, 0x10, 0], 3, by decide +kernel⟩

theorem wit_DrillRequestsAreCheckedPresentedAndCompleted_9 : ∃ (s : State) (h : DrlHdr) (e : BitVec 128) (data : List Byte) (b : Nat), (s.drlOk h 2) ∧ (s.drlCalm h.conn.toNat) ∧ (h.final = false) ∧ ((s.connAt h.conn.toNat).relaxed = false) ∧ ((s.connAt h.conn.toNat).next < h.seq.toNat) ∧ ((s.connAt h.conn.toNat).c < h.seq.toNat) ∧ (h.seq.toNat ≤ (s.connAt h.conn.toNat).c + 65536) ∧ ((s.connAt h.conn.toNat).done = []) ∧ ((s.connAt h.conn.toNat).reqs = []) ∧ (h.seq.toNat + 1 < 2 ^ 47) ∧ (s.bufFor h.conn.toNat b) :=
  ⟨wDl {} [], wDh 3, 77, [1, 2], 3, by decide +kernel⟩

theorem wit_DrillRequestsAreCheckedPresentedAndCompleted_10 : ∃ (s : State) (h : DrlHdr) (e : BitVec 128) (data : List Byte), (s.drlOk h 2) ∧ (s.drlCalm h.conn.toNat) ∧ (s.ackHeld h.conn.toNat) ∧ (h.seq.toNat ≤ (s.connAt h.conn.toNat).c) ∧ (h.seq.toNat + 1 < 2 ^ 47) :=
  ⟨wDl { c := 4 } [], wDh 3, 77, [1, 2], by decide +kernel⟩

theorem wit_DrillRequestsAreCheckedPresentedAndCompleted_11 : ∃ (s : State) (h : DrlHdr) , (s.on DRL_CTL_ENABLE = true) ∧ (s.drillPort h.port = true) ∧ (s.portUp h.port = true) ∧ (h.fifo.toNat * 100 < max 1 (min 100 (s.rd DRL_RX_PANIC_PCT)) * 4096) ∧ (s.dr.drillPanic = false) ∧ (s.on DRL_STS_PFC = false) ∧ (s.on DRL_CTL_PFC_EN = false) ∧ ((s.connAt h.conn.toNat).state = 2) ∧ (h.auth = false) ∧ (s.on DRL_ERR_LAST_VALID = false) :=
  ⟨wDl {} [], { wDh 1 with auth := false }, by decide +kernel⟩

theorem wit_DrillRequestsAreCheckedPresentedAndCompleted_12 : ∃ (s : State) (n : BitVec 12) (psn : BitVec 48) (q : Fin 1024) (w : Nat) (x : BitVec 128), (s.still) ∧ (s.fab.alt = []) ∧ (s.dl.jobs = []) ∧ ((s.connAt n.toNat).state = 2) ∧ (s.ackHeld n.toNat) ∧ (s.drlOut n.toNat) ∧ ((s.connAt n.toNat).reqs = [⟨psn.toNat, .jqRead, false, 0, x, [], .wait, none, false⟩]) ∧ (x = BitVec.ofNat 128 (q.val + w * 2 ^ 64)) ∧ ((s.connAt n.toNat).c + 1 = psn.toNat) ∧ ((s.connAt n.toNat).done = []) ∧ ((s.connAt n.toNat).next = psn.toNat) ∧ (s.jqState q = 1) ∧ (s.jqConn q = n.toNat) ∧ (w ≤ s.jqCount q) :=
  ⟨wJq { reqs := [⟨1, .jqRead, false, 0, BitVec.ofNat 128 (6 + 8 * 2 ^ 64), [], .wait, none, false⟩] } {} [(DRL_JQ_COUNT_COUNT 6, 9)], 20, 1, 6, 8, BitVec.ofNat 128 (6 + 8 * 2 ^ 64), by decide +kernel⟩

theorem wit_DrillRequestsAreCheckedPresentedAndCompleted_13 : ∃ (s : State) (n : BitVec 12) (psn : BitVec 48) (r : DReq), ((s.connAt n.toNat).reqs = [r]) ∧ (r.psn = psn.toNat) ∧ ((s.connAt n.toNat).relaxed = false) ∧ ((s.connAt n.toNat).next < r.psn) ∧ (r.again = false) :=
  ⟨wDl { reqs := [⟨3, .write, false, 0, 0, [], .wait, none, false⟩] } [], 20, 3, ⟨3, .write, false, 0, 0, [], .wait, none, false⟩, by decide +kernel⟩

theorem wit_DrillRequestsAreCheckedPresentedAndCompleted_14 : ∃ (s : State) (n : BitVec 12) (psn off : Nat) (data : List Byte) (x : BitVec 128) (dpa line rg : Nat), (s.still) ∧ (s.fab.alt = []) ∧ (s.fab.cb = []) ∧ (s.fab.ops = []) ∧ (s.fab.hold = false) ∧ (s.hv.armed = true) ∧ (s.on HRV_STS_ARMED = true) ∧ ((s.connAt n.toNat).state = 2) ∧ (s.ackHeld n.toNat) ∧ (s.dl.jobs = []) ∧ ((s.connAt n.toNat).reqs = [⟨psn, .write, true, off, x, data, .final, none, false⟩]) ∧ (x = BitVec.ofNat 128 (dpa + data.length * 2 ^ 64)) ∧ ((s.connAt n.toNat).c + 1 = psn) ∧ ((s.connAt n.toNat).done = []) ∧ ((s.connAt n.toNat).next = psn) ∧ (dpa < 2 ^ 46) ∧ (1 ≤ data.length) ∧ (data.length ≤ (s.connAt n.toNat).maxpl) ∧ (dpa / 64 = line) ∧ ((dpa + data.length - 1) / 64 = line) ∧ (s.cgAdmits (s.connAt n.toNat).group line rg true) ∧ (s.rgnKeyed rg = true) ∧ (s.rgnClass rg = 0) ∧ ((s.altWay line).isSome = true) :=
  ⟨wDl { c := 2, next := 3, reqs := [⟨3, .write, true, 2, BitVec.ofNat 128 (0xA9048 + 2 * 2 ^ 64), [7, 8], .final, none, false⟩] } [], 20, 3, 2, [7, 8], BitVec.ofNat 128 (0xA9048 + 2 * 2 ^ 64), 0xA9048, 0x2A41, 2, by decide +kernel⟩

theorem wit_DrillAcknowledgesRetransmitsAndClosesConnections_1 : ∃ (s : State) (h : DrlHdr) (p : DSent), (s.drlOk h 2) ∧ ((s.connAt h.conn.toNat).sent = [p]) ∧ ((s.connAt h.conn.toNat).txWait = []) ∧ ((s.connAt h.conn.toNat).txPsn < 2 ^ 47) ∧ ((s.connAt h.conn.toNat).rsn < 2 ^ 47) ∧ (p.psn ≤ h.ack.toNat) ∧ (p.job = none) ∧ (p.err = none) ∧ (p.buf = none) :=
  ⟨wDl { sent := [⟨4, 7, false, 0, [1], 0, none, none, none⟩] } [], { wDh 1 with ack := 4 }, ⟨4, 7, false, 0, [1], 0, none, none, none⟩, by decide +kernel⟩

theorem wit_DrillAcknowledgesRetransmitsAndClosesConnections_2 : ∃ (s : State) (h : DrlHdr) (p : DSent), (s.drlOk h 2) ∧ (s.drlOut h.conn.toNat) ∧ ((s.connAt h.conn.toNat).sent = [p]) ∧ ((s.connAt h.conn.toNat).txWait = []) ∧ ((s.connAt h.conn.toNat).txPsn < 2 ^ 47) ∧ ((s.connAt h.conn.toNat).rsn < 2 ^ 47) ∧ (h.ack.toNat < p.psn) ∧ (p.psn < 2 ^ 48) :=
  ⟨wDl { sent := [⟨4, 7, false, 0, [1], 0, none, none, none⟩] } [], { wDh 1 with ack := 3 }, ⟨4, 7, false, 0, [1], 0, none, none, none⟩, by decide +kernel⟩

theorem wit_DrillAcknowledgesRetransmitsAndClosesConnections_3 : ∃ (s : State) (h : DrlHdr) (p : DSent) (l : List (BitVec 48 × BitVec 16)), (s.drlOk h 2) ∧ ((s.connAt h.conn.toNat).sent = [p]) ∧ ((s.connAt h.conn.toNat).txWait = []) ∧ ((s.connAt h.conn.toNat).txPsn < 2 ^ 47) ∧ ((s.connAt h.conn.toNat).rsn < 2 ^ 47) ∧ (h.ack.toNat < p.psn) :=
  ⟨wDl { sent := [⟨4, 7, false, 0, [1], 0, none, none, none⟩] } [], { wDh 1 with ack := 3 }, ⟨4, 7, false, 0, [1], 0, none, none, none⟩, [(4, 0)], by decide +kernel⟩

theorem wit_DrillAcknowledgesRetransmitsAndClosesConnections_4 : ∃ (s : State) (h : DrlHdr) , (s.drlOk h 2) ∧ (s.drlCalm h.conn.toNat) :=
  ⟨wDl {} [], { wDh 1 with fifo := 40 }, by decide +kernel⟩

theorem wit_DrillAcknowledgesRetransmitsAndClosesConnections_5 : ∃ (s : State) (h : DrlHdr) (reason : Byte), (s.drlOk h 2) ∧ (s.drlCalm h.conn.toNat) ∧ ((s.connAt h.conn.toNat).reqs = []) ∧ (reason ≠ 0x20) ∧ (s.dl.jqs = []) ∧ (s.dl.waits = []) :=
  ⟨wDl {} [], wDh 1, 0x22, by decide +kernel⟩

theorem wit_DrillAcknowledgesRetransmitsAndClosesConnections_6 : ∃ (s : State) (n : BitVec 12), ((s.connAt n.toNat).state = 2) ∧ ((s.connAt n.toNat).ackWait = true) ∧ (s.drlOut n.toNat) ∧ (s.drlCalm n.toNat) ∧ ((s.connAt n.toNat).done = []) ∧ ((s.connAt n.toNat).ackNobuf = false) ∧ ((s.connAt n.toNat).ackWindow = false) :=
  ⟨wDl { ackWait := true } [], 20, by decide +kernel⟩

theorem wit_DrillAcknowledgesRetransmitsAndClosesConnections_7 : ∃ (s : State) (n : BitVec 12) (x : Nat), ((s.connAt n.toNat).state = 2) ∧ (s.drlOut n.toNat) ∧ (s.drlCalm n.toNat) ∧ ((s.connAt n.toNat).done = [x]) ∧ ((s.connAt n.toNat).reqs = []) ∧ ((s.connAt n.toNat).c + 1 < x) ∧ ((s.connAt n.toNat).ackNobuf = false) ∧ ((s.connAt n.toNat).ackWindow = false) :=
  ⟨wDl { c := 4, done := [9] } [], 20, 9, by decide +kernel⟩

theorem wit_DrillAcknowledgesRetransmitsAndClosesConnections_8 : ∃ (s : State) (n : BitVec 12) (psn : BitVec 48) (p : DSent), ((s.connAt n.toNat).sent = [p]) ∧ (p.psn = psn.toNat) ∧ (p.attempt < max 1 (s.rd DRL_TMR_RETRY_MAX)) ∧ (s.drlOut n.toNat) :=
  ⟨wDl { sent := [⟨4, 7, false, 0, [1], 0, none, none, none⟩] } [], 20, 4, ⟨4, 7, false, 0, [1], 0, none, none, none⟩, by decide +kernel⟩

theorem wit_DrillAcknowledgesRetransmitsAndClosesConnections_9 : ∃ (s : State) (n : BitVec 12) (psn : BitVec 48) (p : DSent), ((s.connAt n.toNat).sent = [p]) ∧ (p.psn = psn.toNat) ∧ (max 1 (s.rd DRL_TMR_RETRY_MAX) ≤ p.attempt) ∧ (s.drlOut n.toNat) ∧ ((s.connAt n.toNat).state ≠ 0) ∧ ((s.connAt n.toNat).closing = none) :=
  ⟨wDl { sent := [⟨4, 7, false, 0, [1], 255, none, none, none⟩] } [], 20, 4, ⟨4, 7, false, 0, [1], 255, none, none, none⟩, by decide +kernel⟩

theorem wit_DrillAcknowledgesRetransmitsAndClosesConnections_10 : ∃ (s : State) (n : BitVec 12), ((s.connAt n.toNat).state = 2) ∧ ((s.connAt n.toNat).closing = none) ∧ (s.drlOut n.toNat) :=
  ⟨wDl {} [], 20, by decide +kernel⟩

theorem wit_DrillAcknowledgesRetransmitsAndClosesConnections_11 : ∃ (s : State) (n : BitVec 12), ((s.connAt n.toNat).state = 1) ∧ ((s.connAt n.toNat).reqs = []) ∧ ((s.connAt n.toNat).sent = []) ∧ ((s.connAt n.toNat).txWait = []) ∧ (s.dl.jqs = []) ∧ (s.dl.waits = []) :=
  ⟨wDl { state := 1 } [], 20, by decide +kernel⟩

theorem wit_DrillAcknowledgesRetransmitsAndClosesConnections_12 : ∃ (s : State) (n : BitVec 12) (path : Fin 2), ((s.connAt n.toNat).state = 2) ∧ ((s.connAt n.toNat).paths.contains path.val = true) ∧ (s.drlCalm n.toNat) ∧ (s.net.paused = []) ∧ (s.rd (NPT_CTL_MODE ((s.connAt n.toNat).port path)) = 0) ∧ (s.bitOf (NPT_STS_SUB_UP ((s.connAt n.toNat).port path)) 0 = true) :=
  ⟨wDl {} [], 20, 0, by decide +kernel⟩

theorem wit_DrillAcknowledgesRetransmitsAndClosesConnections_13 : ∃ (s : State) (n : BitVec 12) (code k : Nat), ((s.connAt n.toNat).closing = some (code, k)) ∧ (1 < k) ∧ (s.drlOut n.toNat) :=
  ⟨wDl { closing := some (0x20, 2) } [], 20, 0x20, 2, by decide +kernel⟩

theorem wit_DrillAcknowledgesRetransmitsAndClosesConnections_14 : ∃ (s : State) (n : BitVec 12) (code k : Nat), ((s.connAt n.toNat).closing = some (code, k)) ∧ (k ≤ 1) ∧ (s.drlOut n.toNat) ∧ ((s.connAt n.toNat).state = 2) ∧ ((s.connAt n.toNat).reqs = []) ∧ ((s.connAt n.toNat).sent = []) ∧ ((s.connAt n.toNat).txWait = []) ∧ (s.dl.jqs = []) ∧ (s.dl.waits = []) :=
  ⟨wDl { closing := some (0x22, 1) } [], 20, 0x22, 1, by decide +kernel⟩

theorem wit_DrillConnectionsOpenAndAreCommanded_1 : ∃ (s : State) (a : Agent) (n : BitVec 12), (s.reaches a DRL_CONN_CMD = true) ∧ (s.on DRL_CONN_STATUS_BUSY = false) ∧ (s.openCheck a n.toNat ({ desc := s.drlStaged } : DConn) = 0) :=
  ⟨wDl {} [(DRL_STG_DATA 0, 0x500), (DRL_STG_DATA 1, 1), (CPH_CLOAD_BITS 0, 2 ^ 21)], .h0, 21, by decide +kernel⟩

theorem wit_DrillConnectionsOpenAndAreCommanded_2 : ∃ (s : State) (a : Agent) (n : BitVec 12), (s.reaches a DRL_CONN_CMD = true) ∧ (s.on DRL_CONN_STATUS_BUSY = false) ∧ (s.openCheck a n.toNat ({ desc := s.drlStaged } : DConn) ≠ 0) :=
  ⟨wDl {} [], .h0, 20, by decide +kernel⟩

theorem wit_DrillConnectionsOpenAndAreCommanded_3 : ∃ (s : State) (a : Agent) (n : BitVec 12), (s.reaches a DRL_CONN_CMD = true) ∧ (s.on DRL_CONN_STATUS_BUSY = true) :=
  ⟨wDl {} [(DRL_CONN_STATUS_BUSY, 1)], .h0, 20, by decide +kernel⟩

theorem wit_DrillConnectionsOpenAndAreCommanded_4 : ∃ (s : State) (h : DrlHdr) (id ne : BitVec 128) (code mode : Byte), (s.drlOk h 1) ∧ (h.path = 0) ∧ (h.seq = 1) ∧ (id.toNat = (s.connAt h.conn.toNat).fld 64 16) ∧ (mode.toNat = (s.connAt h.conn.toNat).fld 0 1) ∧ ((s.connAt h.conn.toNat).ne = none) ∧ (s.drlOut h.conn.toNat) :=
  ⟨wDl { state := 1, desc := 0x0103000500 + 77 * 2 ^ 512 } [], { wDh 1 with attempt := 2 }, 77, 99, 2, 0, by decide +kernel⟩

theorem wit_DrillConnectionsOpenAndAreCommanded_5 : ∃ (s : State) (h : DrlHdr) (id ne : BitVec 128) (code mode : Byte), (s.drlOk h 1) ∧ (id.toNat ≠ (s.connAt h.conn.toNat).fld 64 16) :=
  ⟨wDl { state := 1 } [], wDh 1, 78, 99, 2, 0, by decide +kernel⟩

theorem wit_DrillConnectionsOpenAndAreCommanded_6 : ∃ (s : State) (h : DrlHdr) (ne nd : BitVec 128), (s.drlOk h 1) ∧ (h.path = 0) ∧ (h.seq = 3) ∧ ((s.connAt h.conn.toNat).ne = some ne) ∧ (nd = (s.connAt h.conn.toNat).nd) :=
  ⟨wDl { state := 1, ne := some 99, nd := 55 } [], wDh 3, 99, 55, by decide +kernel⟩

theorem wit_DrillConnectionsOpenAndAreCommanded_7 : ∃ (s : State) (h : DrlHdr) (ne nd : BitVec 128), (s.drlOk h 1) ∧ (nd ≠ (s.connAt h.conn.toNat).nd) :=
  ⟨wDl { state := 1, ne := some 99, nd := 55 } [], wDh 3, 99, 56, by decide +kernel⟩

theorem wit_DrillConnectionsOpenAndAreCommanded_8 : ∃ (s : State) (a : Agent) (n : BitVec 12), (s.reaches a DRL_CONN_CMD = true) ∧ (s.on DRL_CONN_STATUS_BUSY = false) ∧ ((s.connAt n.toNat).state ≠ 0) ∧ ((s.connAt n.toNat).closing = none) ∧ (s.drlOut n.toNat) :=
  ⟨wDl {} [], .h0, 20, by decide +kernel⟩

theorem wit_DrillConnectionsOpenAndAreCommanded_9 : ∃ (s : State) (a : Agent) (n : BitVec 12), (s.reaches a DRL_CONN_CMD = true) ∧ (s.on DRL_CONN_STATUS_BUSY = false) ∧ ((s.connAt n.toNat).state = 0) :=
  ⟨wDl {} [], .h0, 21, by decide +kernel⟩

theorem wit_DrillConnectionsOpenAndAreCommanded_10 : ∃ (s : State) (a : Agent) (n : BitVec 12), (s.reaches a DRL_CONN_CMD = true) ∧ (s.on DRL_CONN_STATUS_BUSY = false) :=
  ⟨wDl { c := 7, retx := 3 } [], .h0, 20, by decide +kernel⟩

theorem wit_DrillConnectionsOpenAndAreCommanded_11 : ∃ (s : State) (a : Agent) (v : BitVec 32) (n : Nat), (s.reaches a DRL_CTL = true) ∧ (∀ x ∈ s.dl.conns, x.1 = n) ∧ (n < 4096) ∧ ((s.connAt n).state ≠ 0) ∧ ((s.connAt n).closing = none) ∧ (s.drlOut n) ∧ ((s.connAt n).port 0 < 6) ∧ (s.bitOf DRL_CTL_PORTS ((s.connAt n).port 0) = true) ∧ (v.getLsbD ((s.connAt n).port 0) = false) ∧ (s.dl.conns.length = 1) :=
  ⟨wDl {} [], .h0, 0x8000003D, 20, by decide +kernel⟩

theorem wit_DrillConnectionsOpenAndAreCommanded_12 : ∃ (s : State) (a : Agent) (v : BitVec 32), (s.reaches a DRL_CTL = true) ∧ (s.dl.conns = []) :=
  ⟨wOn [90] [], .h0, 0x8000003D, by decide +kernel⟩

theorem wit_JobQueuesBindStartCompleteFailAndUnbind_1 : ∃ (s : State) (a : Agent) (q : Fin 1024) (n : BitVec 12), (s.reaches a DRL_JQ_CMD = true) ∧ (s.on DRL_JQ_CMD_STS_BUSY = false) ∧ (s.jqState q = 0) ∧ ((s.connAt n.toNat).state = 2) ∧ (s.cgSecure (s.connAt n.toNat).group = false ∨ s.agentSecure a = true) ∧ (s.dl.jobs = []) :=
  ⟨wDl {} [], .h0, 6, 20, by decide +kernel⟩

theorem wit_JobQueuesBindStartCompleteFailAndUnbind_2 : ∃ (s : State) (a : Agent) (q : Fin 1024) (n : BitVec 12), (s.reaches a DRL_JQ_CMD = true) ∧ (s.on DRL_JQ_CMD_STS_BUSY = false) ∧ (s.jqState q ≠ 0) :=
  ⟨wJq {} {} [], .h0, 6, 20, by decide +kernel⟩

theorem wit_JobQueuesBindStartCompleteFailAndUnbind_3 : ∃ (s : State) (a : Agent) (q : Fin 1024) (n : BitVec 12), (s.reaches a DRL_JQ_CMD = true) ∧ (s.on DRL_JQ_CMD_STS_BUSY = false) ∧ (s.jqState q = 0) ∧ ((s.connAt n.toNat).state ≠ 2) :=
  ⟨wDl {} [], .h0, 6, 21, by decide +kernel⟩

theorem wit_JobQueuesBindStartCompleteFailAndUnbind_4 : ∃ (s : State) (a : Agent) (q : Fin 1024), (s.reaches a DRL_JQ_CMD = true) ∧ (s.on DRL_JQ_CMD_STS_BUSY = false) ∧ (s.jqState q = 1 ∨ s.jqState q = 2) ∧ (s.jqRuns q = []) :=
  ⟨wJq {} { ring := [⟨1, wNopD⟩] } [], .h0, 6, by decide +kernel⟩

theorem wit_JobQueuesBindStartCompleteFailAndUnbind_5 : ∃ (s : State) (a : Agent) (q : Fin 1024), (s.reaches a DRL_JQ_CMD = true) ∧ (s.on DRL_JQ_CMD_STS_BUSY = false) ∧ (s.jqState q = 0) :=
  ⟨wDl {} [], .h0, 6, by decide +kernel⟩

theorem wit_JobQueuesBindStartCompleteFailAndUnbind_6 : ∃ (s : State) (a : Agent) (q : Fin 1024) (n : BitVec 12), (s.reaches a DRL_JQ_CMD = true) ∧ (s.on DRL_JQ_CMD_STS_BUSY = true) :=
  ⟨wDl {} [(DRL_JQ_CMD_STS_BUSY, 1)], .h0, 6, 20, by decide +kernel⟩

theorem wit_JobQueuesBindStartCompleteFailAndUnbind_7 : ∃ (s : State) (q : Fin 1024), (s.jqState q = 3) ∧ ((s.dl.jobs.any fun j => j.queue == q.val) = false) ∧ ((s.jqAt q).unbind = true) ∧ (s.dl.jqs.map (fun x => x.1) = [q.val]) ∧ (s.dl.waits = []) :=
  ⟨wJq {} { unbind := true } [(⟨DRL_JQ_STATE 6, 0, 64⟩, 3 * 2 ^ 61 + 20 * 2 ^ 46), (DRL_JQ_CMD_STS_BUSY, 1)], 6, by decide +kernel⟩

theorem wit_JobQueuesBindStartCompleteFailAndUnbind_8 : ∃ (s : State) (q : Fin 1024), (s.jqState q ≠ 3) :=
  ⟨wJq {} {} [], 6, by decide +kernel⟩

theorem wit_JobQueuesBindStartCompleteFailAndUnbind_9 : ∃ (s : State) (q : Fin 1024) (j : JDesc) (l : List JDesc), ((s.jqAt q).ring = j :: l) ∧ (s.depDead j.d = false) ∧ (s.jobReady q j = true) ∧ (jf j.d 0 1 = 4) ∧ ((s.jqAt q).failed = none) ∧ (j.num = s.jqCount q + 1) ∧ ((s.jqAt q).done = []) ∧ (s.dl.jobs = []) ∧ (s.fab.ops = []) ∧ (l = []) ∧ (s.dl.jqs.map (fun x => x.1) = [q.val]) ∧ (s.jqCount q + 1 < 2 ^ 64) ∧ (s.dl.waits = []) :=
  ⟨wJq {} { ring := [⟨1, wNopD⟩] } [], 6, ⟨1, wNopD⟩, [], by decide +kernel⟩

theorem wit_JobQueuesBindStartCompleteFailAndUnbind_10 : ∃ (s : State) (q : Fin 1024) (j : JDesc) (l : List JDesc) (line rg : Nat), ((s.jqAt q).ring = j :: l) ∧ (s.depDead j.d = false) ∧ (s.jobReady q j = true) ∧ (jf j.d 0 1 = 2) ∧ (jf j.d 4 4 = 64) ∧ (jf j.d 16 8 = line * 64) ∧ (s.dl.jobs = []) ∧ (s.cgAdmits (s.jqAt q).group line rg true) ∧ (s.rgnKeyed rg = true) ∧ (s.rgnClass rg = 0) ∧ ((s.altWay line).isSome = true) ∧ (s.still) ∧ (s.fab.alt = []) ∧ (s.fab.cb = []) ∧ (s.fab.ops = []) ∧ (s.fab.hold = false) ∧ (s.hv.armed = true) ∧ (s.on HRV_STS_ARMED = true) :=
  ⟨wJq {} { ring := [⟨1, wFill⟩], group := 5 } [], 6, ⟨1, wFill⟩, [], 0x2A41, 2, by decide +kernel⟩

theorem wit_JobQueuesBindStartCompleteFailAndUnbind_11 : ∃ (s : State) (q : Fin 1024) (j : JDesc), ((s.jqAt q).ring.head? = some j) ∧ (s.jqState q ≠ 1) :=
  ⟨wJq {} { ring := [⟨1, wNopD⟩] } [(⟨DRL_JQ_STATE 6, 0, 64⟩, 2 ^ 62 + 20 * 2 ^ 46)], 6, ⟨1, wNopD⟩, by decide +kernel⟩

theorem wit_JobQueuesBindStartCompleteFailAndUnbind_12 : ∃ (s : State) (q : Fin 1024) (j : JRun), (s.dl.jobs = [j]) ∧ (j.ended = true) ∧ (j.queue = q.val) ∧ (j.parts = []) ∧ (j.status = 0) ∧ (j.pois = false) ∧ ((s.jqAt q).failed = none) ∧ (j.num = s.jqCount q + 1) ∧ ((s.jqAt q).done = []) ∧ (s.jqState q ≠ 1 ∨ (s.jqAt q).ring = []) ∧ (s.dl.jqs.map (fun x => x.1) = [q.val]) ∧ (s.jqCount q + 1 < 2 ^ 64) ∧ (s.dl.waits = []) :=
  ⟨(fun s => { s with dl := { s.dl with jobs := [{ wJr with parts := [], ended := true }] } }) (wJq {} {} []), 6, { wJr with parts := [], ended := true }, by decide +kernel⟩

theorem wit_JobQueuesBindStartCompleteFailAndUnbind_13 : ∃ (s : State) (q : Fin 1024) (j : JRun), (s.dl.jobs = [j]) ∧ (j.ended = true) ∧ (j.queue = q.val) ∧ (j.parts = []) ∧ (0 < j.status) ∧ (j.status < 256) ∧ ((s.jqAt q).failed = none) ∧ (j.num = s.jqCount q + 1) ∧ ((s.jqAt q).done = []) ∧ (s.jqState q = 1) ∧ ((s.jqAt q).ring = []) ∧ (s.dl.jqs.map (fun x => x.1) = [q.val]) ∧ (s.jqCount q + 1 < 2 ^ 64) ∧ (s.dl.waits = []) :=
  ⟨(fun s => { s with dl := { s.dl with jobs := [{ wJr with parts := [], ended := true, status := 3 }] } }) (wJq {} {} []), 6, { wJr with parts := [], ended := true, status := 3 }, by decide +kernel⟩

theorem wit_JobQueuesBindStartCompleteFailAndUnbind_14 : ∃ (s : State), ((s.dl.jobs.any fun j => j.ended) = false) :=
  ⟨wJq {} {} [], by decide +kernel⟩

theorem wit_JobQueuesBindStartCompleteFailAndUnbind_15 : ∃ (s : State) (q : Fin 1024) (j : JDesc) (w v : Nat), ((s.jqAt q).ring = [j]) ∧ (jobWait j.d = some (w, v)) ∧ (s.jqState q = 1) ∧ (s.jqCount w < v) ∧ ((s.jqAt q).failed = none) ∧ (j.num = s.jqCount q + 1) ∧ ((s.jqAt q).done = []) ∧ (s.jqRuns q = []) ∧ (s.dl.jqs.map (fun x => x.1) = [q.val]) ∧ (s.jqCount q + 1 < 2 ^ 64) ∧ (s.dl.waits = []) :=
  ⟨wJq {} { ring := [⟨1, BitVec.ofNat 512 (4 + 2 * 256 + 7 * 65536 + 5 * 2 ^ 192)⟩] } [], 6, ⟨1, BitVec.ofNat 512 (4 + 2 * 256 + 7 * 65536 + 5 * 2 ^ 192)⟩, 7, 5, by decide +kernel⟩

theorem wit_JobQueuesBindStartCompleteFailAndUnbind_16 : ∃ (s : State) (q : Fin 1024) (j : JRun) (o : MemOp), (s.dl.jobs = [j]) ∧ (j.queue = q.val) ∧ (jf j.d 0 1 = 3) ∧ (j.stop = false) ∧ (j.orphan = false) ∧ (j.parts = [(0, o.id)]) ∧ (s.fab.ops = [o]) ∧ (o.left = 0) ∧ (s.partCount j = 1) ∧ (j.next = 1) ∧ ((jf j.d 1 1).testBit 2 = false) ∧ (s.still) ∧ ((s.connAt (s.jqConn q)).state = 2) ∧ ((s.connAt (s.jqConn q)).sent = []) ∧ ((s.connAt (s.jqConn q)).txWait = []) ∧ (s.drlOut (s.jqConn q)) :=
  ⟨(fun s => { s with dl := { s.dl with jobs := [wJr] }, fab := { ops := [wOp3] } }) (wJq {} {} []), 6, wJr, wOp3, by decide +kernel⟩

theorem wit_JobQueuesBindStartCompleteFailAndUnbind_17 : ∃ (s : State), ((s.dl.jobs.all fun j => !j.noBuf) = true) ∧ (s.still) :=
  ⟨wJq {} {} [], by decide +kernel⟩

theorem wit_JobQueuesBindStartCompleteFailAndUnbind_18 : ∃ (s : State) (j : JRun) (b line rg : Nat), (s.dl.jobs = [j]) ∧ (j.noBuf = true) ∧ (j.parts = []) ∧ (j.next = 0) ∧ (j.stop = false) ∧ (jf j.d 0 1 = 3) ∧ (jf j.d 4 4 = 64) ∧ (jf j.d 8 8 = line * 64) ∧ (s.grnMay (s.groupOwner (s.jqAt j.queue).group) = true) ∧ (s.grn.stack.head? = some b) ∧ (s.cgAdmits (s.jqAt j.queue).group line rg false) ∧ (s.rgnKeyed rg = true) ∧ ((s.altWay line).isSome = true) ∧ (s.on TIN_RUNAHEAD_ENABLE = false) ∧ (s.ncOn (bankOfLine line) = false) ∧ (s.nc.length = 16) ∧ ((s.ncOf (bankOfLine line)).miss = []) ∧ (s.on (NCH_CTL_PF_EN (bankOfLine line)) = false) ∧ (s.still) ∧ (s.fab.alt = []) ∧ (s.fab.cb = []) ∧ (s.fab.ops = []) ∧ (s.fab.hold = false) ∧ (s.hv.armed = true) ∧ (s.on HRV_STS_ARMED = true) :=
  ⟨(fun s => { s with dl := { s.dl with jobs := [{ wJr with parts := [], next := 0, noBuf := true }] } }) (wJq {} { group := 5 } [(⟨NCH_CTL 11, 0, 32⟩, 0), (TIN_RUNAHEAD_ENABLE, 0)]), { wJr with parts := [], next := 0, noBuf := true }, 3, 0x2A41, 2, by decide +kernel⟩

theorem wit_JobQueuesBindStartCompleteFailAndUnbind_19 : ∃ (s : State) (n : BitVec 12) (psn : BitVec 48) (q : Fin 1024) (x : BitVec 128), ((s.connAt n.toNat).state = 2) ∧ (s.ackHeld n.toNat) ∧ (s.drlOut n.toNat) ∧ ((s.connAt n.toNat).reqs = [⟨psn.toNat, .jqRead, false, 0, x, [], .jq, none, false⟩]) ∧ (getBits x.toNat 0 16 = q) ∧ ((s.connAt n.toNat).c + 1 = psn.toNat) ∧ ((s.connAt n.toNat).done = []) ∧ (s.dl.waits = [(n.toNat, psn.toNat)]) :=
  ⟨(fun s => { s with dl := { s.dl with waits := [(20, 1)] } }) (wJq { reqs := [⟨1, .jqRead, false, 0, BitVec.ofNat 128 (6 + 8 * 2 ^ 64), [], .jq, none, false⟩] } {} [(DRL_JQ_COUNT_COUNT 6, 5)]), 20, 1, 6, BitVec.ofNat 128 (6 + 8 * 2 ^ 64), by decide +kernel⟩

theorem wit_KeySlotsAreLoadedErasedAndForgotten_1 : ∃ (s : State) (a : Agent) (idx : Fin 256), (s.reaches a CPH_SLOT_CMD = true) ∧ (s.loadResult a 0 idx (s.staged a) = 0) ∧ (s.hv.replay = []) ∧ (s.yk.rsv = none) ∧ (s.still) :=
  ⟨wOn [92] ([(⟨CPH_STS, 0, 32⟩, 0x10012420), ((CPH_KLD_KEY 0).bank .h0, 5), ((CPH_KLD_KEY 9).bank .h0, 6)] ++ []), .h0, 9, by decide +kernel⟩

theorem wit_KeySlotsAreLoadedErasedAndForgotten_2 : ∃ (s : State) (a : Agent) (idx : BitVec 12), (s.reaches a CPH_SLOT_CMD = true) ∧ (s.loadResult a 1 idx.toNat (s.staged a) = 0) :=
  ⟨wOn [92] ([(⟨CPH_STS, 0, 32⟩, 0x10012420), ((CPH_KLD_KEY 0).bank .h0, 5), ((CPH_KLD_KEY 9).bank .h0, 6)] ++ [(CPH_CUSED_BITS 0, 2 ^ 20)]), .h0, 20, by decide +kernel⟩

theorem wit_KeySlotsAreLoadedErasedAndForgotten_3 : ∃ (s : State) (a : Agent) (cls : Fin 4) (idx : BitVec 12), (s.reaches a CPH_SLOT_CMD = true) ∧ (s.loadResult a cls idx.toNat (s.staged a) ≠ 0) :=
  ⟨wOn [92] ([(⟨CPH_STS, 0, 32⟩, 0x10012420), ((CPH_KLD_KEY 0).bank .h0, 5), ((CPH_KLD_KEY 9).bank .h0, 6)] ++ []), .h0, 2, 3, by decide +kernel⟩

theorem wit_KeySlotsAreLoadedErasedAndForgotten_4 : ∃ (s : State) (a : Agent) (cls : Fin 4) (idx : BitVec 12), (s.reaches a CPH_SLOT_CMD = true) ∧ (idx.toNat < slotCount cls) ∧ (s.agentSecure a = true ∨ s.keySecure cls idx.toNat = false) ∧ (cls ≠ 2) :=
  ⟨{ wOn [92] [(CPH_PFSLOT_FW_LOADED, 2 ^ 5)] with cph := { fkey := [(5, 77)] } }, .h0, 3, 5, by decide +kernel⟩

theorem wit_KeySlotsAreLoadedErasedAndForgotten_5 : ∃ (s : State) (a : Agent) (idx : Fin 8), (s.reaches a CPH_SLOT_CMD = true) ∧ ((s.pairAt (idx / 4)).keyed = false) :=
  ⟨{ wOn [92] [(CPH_PFSLOT_PATH_LOADED, 2 ^ 5)] with cph := { pkey := [(5, 77)] } }, .h0, 5, by decide +kernel⟩

theorem wit_KeySlotsAreLoadedErasedAndForgotten_6 : ∃ (s : State) (a : Agent) (cls : Fin 4) (idx : BitVec 12), (s.reaches a CPH_SLOT_CMD = true) ∧ (slotCount cls ≤ idx.toNat) :=
  ⟨wOn [92] [], .h0, 3, 16, by decide +kernel⟩

theorem wit_KeySlotsAreLoadedErasedAndForgotten_7 : ∃ (s : State) (a : Agent) (cls : Fin 4) (idx : BitVec 12), (s.reaches a CPH_SLOT_CMD = true) ∧ (idx.toNat < slotCount cls) ∧ (s.agentSecure a = false) ∧ (s.keySecure cls idx.toNat = true) :=
  ⟨wOn [92] [], .h1, 3, 5, by decide +kernel⟩

theorem wit_KeySlotsAreLoadedErasedAndForgotten_8 : ∃ (s : State) (a : Agent) (idx : Fin 256), (s.reaches a CPH_SLOT_CMD = true) ∧ (s.slotNamed idx = 0) :=
  ⟨{ wOn [92] [(⟨CPH_RSLOT 9, 0, 64⟩, 3 * 2 ^ 62 + 7)] with cph := { rkey := [(9, 77)] } }, .h0, 9, by decide +kernel⟩

theorem wit_KeySlotsAreLoadedErasedAndForgotten_9 : ∃ (s : State) (a : Agent) (idx : Fin 256), (s.reaches a CPH_SLOT_CMD = true) ∧ (s.slotNamed idx ≠ 0) :=
  ⟨wOn [92] [(⟨TIN_RGN_ATTR 2, 0, 32⟩, 0x80000900)], .h0, 9, by decide +kernel⟩

theorem wit_KeySlotsAreLoadedErasedAndForgotten_10 : ∃ (s : State) (a : Agent) (cls : Fin 4) (idx : BitVec 12), (s.reaches a CPH_SLOT_CMD = true) ∧ (cls ≠ 0 ∨ slotCount cls ≤ idx.toNat) :=
  ⟨wOn [92] [], .h0, 1, 9, by decide +kernel⟩

theorem wit_KeySlotsAreLoadedErasedAndForgotten_11 : ∃ (s : State) (a : Agent) (op : Fin 5) (cls : Fin 4) (idx : BitVec 12), (s.reaches a CPH_SLOT_CMD = true) :=
  ⟨wOn [92] [], .h0, 3, 1, 9, by decide +kernel⟩

theorem wit_TheCipherEngineAlarmsTestsItsLanesAndRunsFirmwareJobs_1 : ∃ (s : State) (src : Fin 7), (s.powered wCPH = true) ∧ (s.alarmArmed src = true) ∧ (s.rd CPH_STS_STATE ≠ 2) ∧ (s.rd CPH_STS_STATE ≠ 3) ∧ (s.dl.conns = []) ∧ (s.still) ∧ (s.on CPH_CTL_CB_ZERO = false) ∧ (s.cph.fwq = []) ∧ (s.rd YOK_STS_TWIN = 0) :=
  ⟨{ wOn [92] [(⟨CPH_STS, 0, 32⟩, 0x10012420), (⟨CPH_RSLOT 9, 0, 64⟩, 3 * 2 ^ 62 + 7), (CPH_PFSLOT_FW_LOADED, 3)] with cph := { rkey := [(9, 77)], fkey := [(0, 6)], devKey := 5 } }, 4, by decide +kernel⟩

theorem wit_TheCipherEngineAlarmsTestsItsLanesAndRunsFirmwareJobs_2 : ∃ (s : State) (src : Fin 7), (s.powered wCPH = true) ∧ (s.alarmArmed src = true) ∧ (s.rd CPH_STS_STATE = 3) :=
  ⟨wOn [92] [(⟨CPH_STS, 0, 32⟩, 0x30012420), (CPH_ALARM_STS_SOURCE, 32)], 4, by decide +kernel⟩

theorem wit_TheCipherEngineAlarmsTestsItsLanesAndRunsFirmwareJobs_3 : ∃ (s : State) (src : Fin 7), (s.alarmArmed src = false) :=
  ⟨wOn [92] [(⟨CPH_ALARM_EN, 0, 32⟩, 0x10)], 1, by decide +kernel⟩

theorem wit_TheCipherEngineAlarmsTestsItsLanesAndRunsFirmwareJobs_4 : ∃ (s : State) (a : Agent) (src : Nat), (s.reaches a CPH_CTL = true) ∧ (src = 5) ∧ (s.rd CPH_STS_STATE ≠ 2) ∧ (s.rd CPH_STS_STATE ≠ 3) ∧ (s.dl.conns = []) ∧ (s.still) ∧ (s.on CPH_CTL_CB_ZERO = false) ∧ (s.cph.fwq = []) ∧ (s.rd YOK_STS_TWIN = 0) :=
  ⟨{ wOn [92] [(⟨CPH_STS, 0, 32⟩, 0x10012420)] with cph := { rkey := [(9, 77)], devKey := 5 } }, .h0, 5, by decide +kernel⟩

theorem wit_TheCipherEngineAlarmsTestsItsLanesAndRunsFirmwareJobs_5 : ∃ (s : State), (s.powered wCPH = true) ∧ (s.rd CPH_STS_STATE = 3 ∨ s.rd CPH_STS_STATE = 0) ∧ (s.otpRoot ≠ 0) :=
  ⟨{ wOn [92] [(⟨CPH_STS, 0, 32⟩, 0x30012420)] with efl := { State.reset.efl with otp := [(4, 9)] } }, by decide +kernel⟩

theorem wit_TheCipherEngineAlarmsTestsItsLanesAndRunsFirmwareJobs_6 : ∃ (s : State), (s.powered wCPH = true) ∧ (s.rd CPH_STS_STATE = 3 ∨ s.rd CPH_STS_STATE = 0) ∧ (s.otpRoot = 0) :=
  ⟨wOn [92] [(⟨CPH_STS, 0, 32⟩, 0x30012420)], by decide +kernel⟩

theorem wit_TheCipherEngineAlarmsTestsItsLanesAndRunsFirmwareJobs_7 : ∃ (s : State) (a : Agent) (v present : BitVec 7), (s.reaches a CPH_ALARM_STS = true) ∧ (s.bitOf (FLT_LIVE_PRESENT 92) 2 = true) :=
  ⟨wOn [92] [(CPH_ALARM_STS_SOURCE, 0x12), (FLT_LIVE_PRESENT 92, 4)], .h0, 0x7F, 0x10, by decide +kernel⟩

theorem wit_TheCipherEngineAlarmsTestsItsLanesAndRunsFirmwareJobs_8 : ∃ (s : State) (a : Agent), (s.reaches a CPH_CTL = true) ∧ (s.cph.testing = []) :=
  ⟨wOn [92] [], .h0, by decide +kernel⟩

theorem wit_TheCipherEngineAlarmsTestsItsLanesAndRunsFirmwareJobs_9 : ∃ (s : State) (l : Nat) (rest : List Nat), (s.cph.testing = l :: rest) ∧ (s.cph.lanesOut.contains l = false) ∧ (l ≠ 68) :=
  ⟨{ wOn [92] [] with cph := { testing := [3, 4] } }, 3, [4], by decide +kernel⟩

theorem wit_TheCipherEngineAlarmsTestsItsLanesAndRunsFirmwareJobs_10 : ∃ (s : State) (l : Nat) (rest : List Nat), (s.cph.testing = l :: rest) ∧ (s.cph.lanesOut = []) ∧ (l < 68) ∧ (s.holds wCPH = false) ∧ (s.on CPH_ERR_LAST_VALID = false) :=
  ⟨{ wOn [92] [] with cph := { testing := [3, 4] } }, 3, [4], by decide +kernel⟩

theorem wit_TheCipherEngineAlarmsTestsItsLanesAndRunsFirmwareJobs_11 : ∃ (s : State) (a : Agent) (mode : Fin 4) (dec : Bool) (slot : Fin 16), (s.reaches a CPH_FJ_CTL = true) ∧ (s.on (CPH_FJ_CTL_BUSY.bank a) = false) ∧ (s.cph.fwq = []) :=
  ⟨{ wOn [92] [(CPH_PFSLOT_FW_LOADED, 32), (CPH_FJ_LEN_LEN.bank .h0, 32)] with cph := { fkey := [(5, 77)] } }, .h0, 3, false, 5, by decide +kernel⟩

theorem wit_TheCipherEngineAlarmsTestsItsLanesAndRunsFirmwareJobs_12 : ∃ (s : State) (a : Agent) (mode : Fin 4) (dec : Bool) (slot : Fin 16), (s.reaches a CPH_FJ_CTL = true) ∧ (s.on (CPH_FJ_CTL_BUSY.bank a) = true) :=
  ⟨wOn [92] [(CPH_FJ_CTL_BUSY.bank .h0, 1)], .h0, 3, false, 5, by decide +kernel⟩

theorem wit_TheCipherEngineAlarmsTestsItsLanesAndRunsFirmwareJobs_13 : ∃ (s : State) (j : FwJob) (k : Key) (na : Nat), (s.cph.fwq = [j]) ∧ (s.on CPH_STS_FW_UP = true) ∧ (s.cph.fwBad = false) ∧ (s.agentSecure j.agent = true ∨ 8 ≤ j.slot) ∧ (j.lenOk = true) ∧ (j.key = some (some k)) ∧ (j.mode = 3) ∧ (na = 0) ∧ (j.dst + j.len ≤ workBytes) :=
  ⟨{ wOn [92] [(⟨CPH_STS, 0, 32⟩, 0x10012420)] with cph := { fwq := [{ wFj with key := some (some 77) }] } }, { wFj with key := some (some 77) }, 77, 0, by decide +kernel⟩

theorem wit_TheCipherEngineAlarmsTestsItsLanesAndRunsFirmwareJobs_14 : ∃ (s : State) (j : FwJob), (s.cph.fwq = [j]) ∧ (s.on CPH_STS_FW_UP = true) ∧ (s.cph.fwBad = false) ∧ (s.agentSecure j.agent = true ∨ 8 ≤ j.slot) ∧ (j.lenOk = true) ∧ (j.key = some none) :=
  ⟨{ wOn [92] [(⟨CPH_STS, 0, 32⟩, 0x10012420)] with cph := { fwq := [{ wFj with key := some none }] } }, { wFj with key := some none }, by decide +kernel⟩

theorem wit_TheCipherEngineAlarmsTestsItsLanesAndRunsFirmwareJobs_15 : ∃ (s : State) (j : FwJob), (s.cph.fwq = [j]) ∧ (s.on CPH_STS_FW_UP = true) ∧ (s.cph.fwBad = false) ∧ (s.agentSecure j.agent = true ∨ 8 ≤ j.slot) ∧ (j.lenOk = false) :=
  ⟨{ wOn [92] [(⟨CPH_STS, 0, 32⟩, 0x10012420)] with cph := { fwq := [{ wFj with len := 0 }] } }, { wFj with len := 0 }, by decide +kernel⟩

theorem wit_TheCipherEngineAlarmsTestsItsLanesAndRunsFirmwareJobs_16 : ∃ (s : State) (j : FwJob), (s.cph.fwq = [j]) ∧ (s.on CPH_STS_FW_UP = true) ∧ (s.cph.fwBad = false) ∧ (s.agentSecure j.agent = false) ∧ (j.slot < 8) :=
  ⟨{ wOn [92] [(⟨CPH_STS, 0, 32⟩, 0x10012420)] with cph := { fwq := [{ wFj with agent := .h1 }] } }, { wFj with agent := .h1 }, by decide +kernel⟩

theorem wit_TheCipherEngineAlarmsTestsItsLanesAndRunsFirmwareJobs_17 : ∃ (s : State) (j : FwJob), (s.cph.fwq = [j]) ∧ (s.on CPH_STS_FW_UP = false) :=
  ⟨{ wOn [92] [(⟨CPH_STS, 0, 32⟩, 0x10002420)] with cph := { fwq := [wFj] } }, wFj, by decide +kernel⟩

theorem wit_TheRomRoutineProgramsAndErasesTheEmbeddedFlash_1 : ∃ (s : State) (n : Fin 4) (bank word : Nat) (data : List (BitVec 256)), (s.romCaller n = true) ∧ (s.programErr bank word data.length = none) :=
  ⟨wEfl [] {}, 0, 1, 5, [7, 9], by decide +kernel⟩

theorem wit_TheRomRoutineProgramsAndErasesTheEmbeddedFlash_2 : ∃ (s : State) (n : Fin 4) (bank word e : Nat) (data : List (BitVec 256)) (bad : List Nat), (s.romCaller n = true) ∧ (s.programErr bank word data.length = some e) :=
  ⟨wEfl [] { words := [(524294, 4)] }, 0, 1, 5, 4, [7, 9], [], by decide +kernel⟩

theorem wit_TheRomRoutineProgramsAndErasesTheEmbeddedFlash_3 : ∃ (s : State) (n : Fin 4) (bank word : Nat) (d : BitVec 256), (s.romCaller n = true) ∧ (s.programErr bank word 1 = none) :=
  ⟨wEfl [] {}, 0, 1, 5, 7, by decide +kernel⟩

theorem wit_TheRomRoutineProgramsAndErasesTheEmbeddedFlash_4 : ∃ (s : State) (n : Fin 4) (self : Option Bool) (bank sector : Nat), (s.romCaller n = true) ∧ (s.efl.erase = none) ∧ (bank ≤ 1) ∧ (sector ≤ 255) ∧ (self ≠ some (decide (bank = 1))) :=
  ⟨wEfl [(⟨EFL_ERASE_STS, 0, 64⟩, 0x8000030000050006)] {}, 0, some false, 1, 3, by decide +kernel⟩

theorem wit_TheRomRoutineProgramsAndErasesTheEmbeddedFlash_5 : ∃ (s : State) (n : Fin 4) (bank sector : Nat), (s.romCaller n = true) ∧ (bank ≤ 1) :=
  ⟨wEfl [] {}, 0, 1, 3, by decide +kernel⟩

theorem wit_TheRomRoutineProgramsAndErasesTheEmbeddedFlash_6 : ∃ (s : State) (n : Fin 4) (bank sector : Nat), (s.romCaller n = true) ∧ (s.efl.erase.isSome = true) :=
  ⟨wEfl [] { erase := some { bank := 1, sector := 3, since := 0 } }, 0, 1, 3, by decide +kernel⟩

theorem wit_TheRomRoutineProgramsAndErasesTheEmbeddedFlash_7 : ∃ (s : State) (n : Fin 4) (bank sector : Nat), (s.romCaller n = true) ∧ (s.efl.erase = none) ∧ (1 < bank ∨ 255 < sector) :=
  ⟨wEfl [] {}, 0, 1, 256, by decide +kernel⟩

theorem wit_TheRomRoutineProgramsAndErasesTheEmbeddedFlash_8 : ∃ (s : State) (n : Fin 4) (e : EraseOp), (s.romCaller n = true) ∧ (s.efl.erase = some e) ∧ (e.suspended = false) ∧ (e.resumes < 16) :=
  ⟨wEfl [] { erase := some { bank := 1, sector := 3, since := 0 } }, 0, { bank := 1, sector := 3, since := 0 }, by decide +kernel⟩

theorem wit_TheRomRoutineProgramsAndErasesTheEmbeddedFlash_9 : ∃ (s : State) (n : Fin 4) (e : EraseOp), (s.romCaller n = true) ∧ (s.efl.erase = some e) ∧ (e.suspended = false) ∧ (16 ≤ e.resumes) :=
  ⟨wEfl [] { erase := some { bank := 1, sector := 3, since := 0, resumes := 16 } }, 0, { bank := 1, sector := 3, since := 0, resumes := 16 }, by decide +kernel⟩

theorem wit_TheRomRoutineProgramsAndErasesTheEmbeddedFlash_10 : ∃ (s : State) (n : Fin 4) (e : EraseOp), (s.romCaller n = true) ∧ (s.efl.erase = some e) ∧ (e.suspended = true) :=
  ⟨wEfl [] { erase := some { bank := 1, sector := 3, since := 0, suspended := true } }, 0, { bank := 1, sector := 3, since := 0, suspended := true }, by decide +kernel⟩

theorem wit_TheRomRoutineProgramsAndErasesTheEmbeddedFlash_11 : ∃ (s : State) (n : Fin 4), (s.romCaller n = true) ∧ (s.efl.erase = none) :=
  ⟨wEfl [(⟨EFL_STS, 0, 32⟩, 0x03200000)] {}, 0, by decide +kernel⟩

theorem wit_TheRomRoutineProgramsAndErasesTheEmbeddedFlash_12 : ∃ (s : State) (n : Fin 4) (e : EraseOp), (s.romCaller n = true) ∧ (s.efl.erase = some e) ∧ (e.bank ≤ 1) ∧ (e.sector ≤ 255) :=
  ⟨wEfl [] { erase := some { bank := 1, sector := 3, since := 0 } }, 0, { bank := 1, sector := 3, since := 0 }, by decide +kernel⟩

theorem wit_TheRomRoutineProgramsAndErasesTheEmbeddedFlash_13 : ∃ (s : State) (n : Fin 4), (s.romCaller n = true) ∧ (s.efl.erase = none) :=
  ⟨wEfl [] {}, 0, by decide +kernel⟩

theorem wit_TheRomRoutineProgramsAndErasesTheEmbeddedFlash_14 : ∃ (s : State) (n : Fin 4), (s.romCaller n = true) ∧ (s.efl.erase = none) :=
  ⟨wEfl [] {}, 0, by decide +kernel⟩

theorem wit_TheRomRoutineProgramsAndErasesTheEmbeddedFlash_15 : ∃ (s : State) (n : Fin 4), (s.romCaller n = true) ∧ (s.efl.erase = none) :=
  ⟨wEfl [] {}, 0, by decide +kernel⟩

theorem wit_TheRomRoutineProgramsAndErasesTheEmbeddedFlash_16 : ∃ (s : State) (e : EraseOp), (s.efl.erase = some e) ∧ (e.suspended = false) ∧ (e.bank ≤ 1) ∧ (e.sector ≤ 255) :=
  ⟨wEfl [(EFL_BOOT_FAILS_B, 2), (EFL_INCMP_SECTOR 8, 9)] { erase := some { bank := 1, sector := 0 }, words := [(524290, 8)] }, { bank := 1, sector := 0 }, by decide +kernel⟩

theorem wit_TheRomRoutineProgramsAndErasesTheEmbeddedFlash_17 : ∃ (s : State) (e : EraseOp), (s.efl.erase = some e) ∧ (e.suspended = false) ∧ (e.pulses < 119) :=
  ⟨wEfl [] { erase := some { bank := 1, sector := 3, since := 0, resumes := 5 } }, { bank := 1, sector := 3, since := 0, resumes := 5 }, by decide +kernel⟩

theorem wit_TheRomRoutineProgramsAndErasesTheEmbeddedFlash_18 : ∃ (s : State) (e : EraseOp), (s.efl.erase = some e) ∧ (e.suspended = false) ∧ (e.pulses = 119) ∧ (e.bank ≤ 1) ∧ (e.sector ≤ 255) :=
  ⟨wEfl [] { erase := some { bank := 1, sector := 3, since := 0, pulses := 119 } }, { bank := 1, sector := 3, since := 0, pulses := 119 }, by decide +kernel⟩

theorem wit_OtpBootAndTheWatchdogFollowTheirRules_1 : ∃ (s : State) (n : Fin 4) (w : Nat) (v : Word64), (s.romCaller n = true) ∧ (s.otpErr n w v = none) :=
  ⟨wEfl [] { running := some 0, otp := [(23, 3)] }, 0, 23, 0xF8, by decide +kernel⟩

theorem wit_OtpBootAndTheWatchdogFollowTheirRules_2 : ∃ (s : State) (n : Fin 4) (w e : Nat) (v : Word64) (ok : Bool), (s.romCaller n = true) ∧ (s.otpErr n w v = some e) :=
  ⟨wEfl [] { otpDone := [21] }, 0, 21, 4, 7, true, by decide +kernel⟩

theorem wit_OtpBootAndTheWatchdogFollowTheirRules_3 : ∃ (s : State) (n : Fin 4), (s.romCaller n = true) ∧ (s.eflBusy = false) ∧ (s.agentSecure (coreAgent n) = true) ∧ (∀ i : Fin 4, s.otpWord (4 + i) = 0) :=
  ⟨wEfl [] {}, 0, by decide +kernel⟩

theorem wit_OtpBootAndTheWatchdogFollowTheirRules_4 : ∃ (s : State) (n : Fin 4) (i : Fin 4), (s.romCaller n = true) ∧ (s.eflBusy = false) ∧ (s.agentSecure (coreAgent n) = true) ∧ (s.otpWord (4 + i) ≠ 0) :=
  ⟨wEfl [] { otp := [(6, 1)] }, 0, 2, by decide +kernel⟩

theorem wit_OtpBootAndTheWatchdogFollowTheirRules_5 : ∃ (s : State) (n : Fin 4), (s.romCaller n = true) ∧ (s.eflBusy = false) ∧ (s.agentSecure (coreAgent n) = false) :=
  ⟨wEfl [(HDL_CORE_STS_STATE 1, 2)] {}, 1, by decide +kernel⟩

theorem wit_OtpBootAndTheWatchdogFollowTheirRules_6 : ∃ (s : State), (((List.range 4).any fun n => s.coreState n == 1) = true) :=
  ⟨wSt [(HDL_CORE_STS_STATE 0, 1)], by decide +kernel⟩

theorem wit_OtpBootAndTheWatchdogFollowTheirRules_7 : ∃ (s : State) (otp : List (Fin 64)) (dram nand : Fin 6), (((List.range 4).any fun n => s.coreState n == 1) = false) :=
  ⟨wEfl [] {}, [3], 1, 2, by decide +kernel⟩

theorem wit_OtpBootAndTheWatchdogFollowTheirRules_8 : ∃ (s : State) (b : Nat), (s.efl.running = some b) ∧ (((List.range 4).any fun n => s.coreState n == 2) = true) ∧ ((s.eflNum b 0x00A 2).testBit 0 = true) ∧ ((s.eflNum b 0x00A 2).testBit 1 = false) :=
  ⟨wEfl [] { running := some 0, words := [(0, 2 ^ 80 + 3 * 2 ^ 128)] }, 0, by decide +kernel⟩

theorem wit_OtpBootAndTheWatchdogFollowTheirRules_9 : ∃ (s : State) (b : Nat), (s.efl.running = some b) ∧ (((List.range 4).any fun n => s.coreState n == 2) = true) ∧ ((s.eflNum b 0x00A 2).testBit 0 = false) ∧ ((s.eflNum b 0x00A 2).testBit 1 = true) ∧ (s.efl.keyB = true) ∧ (s.keyBPresent = true) :=
  ⟨wEfl [] { running := some 0, keyB := true, otp := [(20, 1)], words := [(0, 2 ^ 81)] }, 0, by decide +kernel⟩

theorem wit_OtpBootAndTheWatchdogFollowTheirRules_10 : ∃ (s : State) (b : Nat), (s.efl.running = some b) ∧ ((s.eflNum b 0x00A 2).testBit 0 = false) ∧ ((s.eflNum b 0x00A 2).testBit 1 = false) :=
  ⟨wEfl [] { running := some 0, words := [(0, 0)] }, 0, by decide +kernel⟩

theorem wit_OtpBootAndTheWatchdogFollowTheirRules_11 : ∃ (s : State) (a : Agent), (s.reaches a EFL_WDT_CTL = true) :=
  ⟨wEfl [(⟨EFL_WDT_STS, 0, 32⟩, 0x40050000)] { resetAt := some 3 }, .h0, by decide +kernel⟩

theorem wit_OtpBootAndTheWatchdogFollowTheirRules_12 : ∃ (s : State) (b : Nat), (s.on EFL_WDT_CTL_ENABLE = true) ∧ (s.cs.fw = none) ∧ (s.efl.erase = none) ∧ (s.efl.running = some b) ∧ (b ≤ 1) ∧ (s.hrvBusy = true) :=
  ⟨{ wEfl [(EFL_WDT_CTL_ENABLE, 1)] { running := some 1 } with hv := { run := some { cause := 1 } } }, 1, by decide +kernel⟩

theorem wit_OtpBootAndTheWatchdogFollowTheirRules_13 : ∃ (s : State) (e : EraseOp), (s.on EFL_WDT_CTL_ENABLE = true) ∧ (s.cs.fw = none) ∧ (s.efl.erase = some e) ∧ (e.bank ≤ 1) ∧ (e.sector ≤ 255) ∧ (s.hrvBusy = true) :=
  ⟨{ wEfl [(EFL_WDT_CTL_ENABLE, 1)] { running := some 1, erase := some { bank := 1, sector := 3, since := 0 } } with hv := { run := some { cause := 1 } } }, { bank := 1, sector := 3, since := 0 }, by decide +kernel⟩

theorem wit_OtpBootAndTheWatchdogFollowTheirRules_14 : ∃ (s : State), (s.on EFL_WDT_CTL_ENABLE = true) ∧ (s.cs.fw = none) ∧ (s.efl.erase = none) ∧ (s.hrvBusy = false) ∧ (s.on RST_GRP_STS_BUSY = false) :=
  ⟨wEfl [(EFL_WDT_CTL_ENABLE, 1)] { running := some 1 }, by decide +kernel⟩

theorem wit_OtpBootAndTheWatchdogFollowTheirRules_15 : ∃ (s : State) (cut : Option EflCut), (s.on EFL_WDT_CTL_ENABLE = false) :=
  ⟨wEfl [(EFL_WDT_CTL_ENABLE, 0)] { running := some 1 }, none, by decide +kernel⟩

theorem wit_OtpBootAndTheWatchdogFollowTheirRules_16 : ∃ (s : State), (s.on EFL_WDT_STS_WINDOW = true) ∧ (s.pwr ≠ 2) :=
  ⟨wSt [(EFL_WDT_STS_WINDOW, 1)], by decide +kernel⟩

theorem wit_OtpBootAndTheWatchdogFollowTheirRules_17 : ∃ (s : State), (s.on EFL_WDT_STS_WINDOW = false) :=
  ⟨wSt [], by decide +kernel⟩

theorem wit_IdentityHealthAccessWorldsAndCapacityAreAnswered_1 : ∃ (s : State) (c : Fin 64) (m : Cmd), (s.asked c 0xC000 m .q true [0] false []) :=
  ⟨{ wAsk 0xC000 [] [] [(TIN_DPA_LIMIT_CAP_GIB, 77)] with fresh := 0 }, 35, wCmd 0xC000 [] [], by decide +kernel⟩

theorem wit_IdentityHealthAccessWorldsAndCapacityAreAnswered_2 : ∃ (s : State) (c : Fin 64) (m : Cmd) (temp : BitVec 16), (s.asked c 0xC001 m .q false [0] false []) :=
  ⟨{ wAsk 0xC001 [] [] [(CPH_STS_ALARM_ACTIVE, 1)] with fresh := 0 }, 35, wCmd 0xC001 [] [], 50, by decide +kernel⟩

theorem wit_IdentityHealthAccessWorldsAndCapacityAreAnswered_3 : ∃ (s : State) (c : Fin 64) (m : Cmd), (s.asked c 0xC002 m .q false [0] false []) ∧ (s.bgOf c = none) :=
  ⟨{ wAsk 0xC002 [] [] [] with fresh := 0 }, 35, wCmd 0xC002 [] [], by decide +kernel⟩

theorem wit_IdentityHealthAccessWorldsAndCapacityAreAnswered_4 : ∃ (s : State) (c : Fin 64) (m : Cmd) (b : BgCmd), (s.asked c 0xC002 m .q false [0] false []) ∧ (s.bgOf c = some b) ∧ (b.done = true) :=
  ⟨{ wAsk 0xC002 [] [] [] with fresh := 0, cs := { bg := [(35, { op := 0xC100, job := .granary, done := true, final := 4 })] } }, 35, wCmd 0xC002 [] [], { op := 0xC100, job := .granary, done := true, final := 4 }, by decide +kernel⟩

theorem wit_IdentityHealthAccessWorldsAndCapacityAreAnswered_5 : ∃ (s : State) (c : Fin 64) (m : Cmd) (b : BgCmd), (s.asked c 0xC002 m .q false [0] false []) ∧ (s.bgOf c = some b) ∧ (b.done = false) ∧ (b.job = .granary) ∧ (s.grn.building = true) :=
  ⟨{ wAsk 0xC002 [] [] [] with fresh := 0, grn := { building := true }, cs := { bg := [(35, { op := 0xC100, job := .granary })] } }, 35, wCmd 0xC002 [] [], { op := 0xC100, job := .granary }, by decide +kernel⟩

theorem wit_IdentityHealthAccessWorldsAndCapacityAreAnswered_6 : ∃ (s : State) (c : Fin 64) (m : Cmd), (s.asked c 0xC003 m .b false [0] false [(0, 4)]) :=
  ⟨{ wAsk 0xC003 [5, 0, 1, 0] [] [] with fresh := 0 }, 35, wCmd 0xC003 [5, 0, 1, 0] [], by decide +kernel⟩

theorem wit_IdentityHealthAccessWorldsAndCapacityAreAnswered_7 : ∃ (s : State) (c : Fin 64) (m : Cmd), (s.asked c 0xC004 m .b false [0] false [(0, 25)]) ∧ (s.hv.world = none) ∧ (s.locked = false) ∧ (m.num 22 2 ≤ 256) ∧ (m.byte 24 ≤ 1) :=
  ⟨{ wAsk 0xC004 [5, 0, 0, 0, 0, 0, 0, 128, 3, 0, 0, 0, 0, 0, 0, 0, 1, 0, 0, 128, 0, 1, 0, 1, 1] [] [(⟨TIN_LDB 1, 0, 32⟩, 0x10000)] with fresh := 0 }, 35, wCmd 0xC004 [5, 0, 0, 0, 0, 0, 0, 128, 3, 0, 0, 0, 0, 0, 0, 0, 1, 0, 0, 128, 0, 1, 0, 1, 1] [], by decide +kernel⟩

theorem wit_IdentityHealthAccessWorldsAndCapacityAreAnswered_8 : ∃ (s : State) (c : Fin 64) (m : Cmd), (s.asked c 0xC004 m .b false [0] false [(0, 25)]) ∧ (s.hv.world ≠ none) ∧ (s.anyRegion = false) ∧ (m.num 22 2 ≤ 256) ∧ (m.byte 24 ≤ 1) :=
  ⟨{ wAsk 0xC004 [5] [] [] with fresh := 0, hv := { world := some [] } }, 35, wCmd 0xC004 [5] [], by decide +kernel⟩

theorem wit_IdentityHealthAccessWorldsAndCapacityAreAnswered_9 : ∃ (s : State) (c : Fin 64) (m : Cmd), (s.asked c 0xC004 m .b false [0] false [(0, 25)]) ∧ (s.hv.world ≠ none ∧ s.anyRegion = true ∨ s.hv.world = none ∧ s.locked = true) ∧ (s.worldInForce m = false) ∧ (m.num 22 2 ≤ 256) ∧ (m.byte 24 ≤ 1) :=
  ⟨{ wAsk 0xC004 [] [] [(TIN_WORLD_LOCK_LOCK, 1)] with fresh := 0 }, 35, wCmd 0xC004 [] [], by decide +kernel⟩

theorem wit_IdentityHealthAccessWorldsAndCapacityAreAnswered_10 : ∃ (s : State) (c : Fin 64) (m : Cmd), (s.asked c 0xC004 m .b false [0] false [(0, 25)]) ∧ (s.anyRegion = true) ∧ (s.worldInForce m = true) ∧ (m.num 22 2 ≤ 256) ∧ (m.byte 24 ≤ 1) :=
  ⟨{ wAsk 0xC004 ([0x20] ++ List.replicate 23 0 ++ [1]) [] [(TIN_WORLD_LOCK_LOCK, 1), (⟨TIN_RGN_ATTR 2, 0, 32⟩, 0x80000900)] with fresh := 0, hv := { world := some [(TIN_WORLD_HDL, 9), (TIN_WORLD_MBX, 0), (TIN_LDB 5, 0x10000)] } }, 35, wCmd 0xC004 ([0x20] ++ List.replicate 23 0 ++ [1]) [], by decide +kernel⟩

theorem wit_IdentityHealthAccessWorldsAndCapacityAreAnswered_11 : ∃ (s : State) (c : Fin 64) (m : Cmd), (s.asked c 0xC004 m .b false [0] false [(0, 25)]) ∧ (256 < m.num 22 2 ∨ 1 < m.byte 24) :=
  ⟨{ wAsk 0xC004 (List.replicate 24 0 ++ [2]) [] [] with fresh := 0 }, 35, wCmd 0xC004 (List.replicate 24 0 ++ [2]) [], by decide +kernel⟩

theorem wit_IdentityHealthAccessWorldsAndCapacityAreAnswered_12 : ∃ (s : State) (c : Fin 64) (m : Cmd), (s.asked c 0xC100 m .a false [0] false [(0, 4)]) ∧ (s.bgRuns c = false) ∧ (s.capInForce (m.num 0 4) = false) ∧ (0 < m.num 0 4) ∧ (m.num 0 4 ≤ 65536) ∧ (s.anyRegion = false) ∧ ((s.dl.conns.any fun x => x.2.state != 0) = false) ∧ (s.grn.held = []) ∧ (2 * (reserveGib (m.num 0 4) * 262144 + s.grnCount) ≤ s.totalFrames) ∧ (s.fur.formatted = false) :=
  ⟨{ wAsk 0xC100 [8] [] [(DRM_CFG_DPC 0, 1), (DRM_GEOM_ROW_BITS 0, 18)] with fresh := 0 }, 35, wCmd 0xC100 [8] [], by decide +kernel⟩

theorem wit_IdentityHealthAccessWorldsAndCapacityAreAnswered_13 : ∃ (s : State) (c : Fin 64) (m : Cmd), (s.asked c 0xC100 m .a false [0] false [(0, 4)]) ∧ (s.bgRuns c = false) ∧ (m.num 0 4 = 0 ∨ 65536 < m.num 0 4) :=
  ⟨{ wAsk 0xC100 [] [] [] with fresh := 0 }, 35, wCmd 0xC100 [] [], by decide +kernel⟩

theorem wit_IdentityHealthAccessWorldsAndCapacityAreAnswered_14 : ∃ (s : State) (c : Fin 64) (m : Cmd), (s.asked c 0xC100 m .a false [0] false [(0, 4)]) ∧ (s.bgRuns c = true) :=
  ⟨{ wAsk 0xC100 [8] [] [] with fresh := 0, grn := { building := true }, cs := { bg := [(35, { op := 0xC100, job := .granary })] } }, 35, wCmd 0xC100 [8] [], by decide +kernel⟩

theorem wit_IdentityHealthAccessWorldsAndCapacityAreAnswered_15 : ∃ (s : State) (c : Fin 64) (m : Cmd), (s.asked c 0xC100 m .a false [0] false [(0, 4)]) ∧ (s.bgRuns c = false) ∧ (0 < m.num 0 4) ∧ (m.num 0 4 ≤ 65536) ∧ (s.capInForce (m.num 0 4) = false) ∧ (s.anyRegion = true) :=
  ⟨{ wAsk 0xC100 [8] [] [(⟨TIN_RGN_ATTR 2, 0, 32⟩, 0x80000900)] with fresh := 0 }, 35, wCmd 0xC100 [8] [], by decide +kernel⟩

theorem wit_IdentityHealthAccessWorldsAndCapacityAreAnswered_16 : ∃ (s : State) (c : Fin 64) (m : Cmd), (s.asked c 0xC100 m .a false [0] false [(0, 4)]) ∧ (s.bgRuns c = false) ∧ (0 < m.num 0 4) ∧ (m.num 0 4 ≤ 65536) ∧ (s.on GRN_CTL_ENABLE = true) ∧ (s.rd TIN_DPA_LIMIT_CAP_GIB = m.num 0 4) :=
  ⟨{ wAsk 0xC100 [8] [] [(GRN_CTL_ENABLE, 1), (TIN_DPA_LIMIT_CAP_GIB, 8), (⟨TIN_RGN_ATTR 2, 0, 32⟩, 0x80000900)] with fresh := 0 }, 35, wCmd 0xC100 [8] [], by decide +kernel⟩

theorem wit_IdentityHealthAccessWorldsAndCapacityAreAnswered_17 : ∃ (s : State) (c : Fin 64) (m : Cmd), (s.asked c 0xC106 m .a false [0] false [(0, 5)]) ∧ (m.byte 0 ≤ 63) ∧ (m.byte 1 ≤ 15) ∧ (m.byte 2 ≤ 15) ∧ (m.byte 3 ≤ 31 ∨ m.byte 3 = 0xFF) ∧ (m.byte 4 ≤ 1) ∧ (s.ldSeen m (m.byte 0) = true) ∧ (m.byte 4 = 0 ∨ ∀ x : Fin 64, x.val ≠ m.byte 0 → s.on (TIN_LDB_VALID x) = true → s.rd (TIN_LDB_LINK x) ≠ m.byte 1 ∨ s.rd (TIN_LDB_LD x) ≠ m.byte 2) ∧ (m.byte 3 = 0xFF ∨ s.chanSecure (m.byte 3) = s.on (TIN_LDB_WORLD (m.byte 0))) :=
  ⟨{ wAsk 0xC106 [5, 2, 3, 9, 1] [] [] with fresh := 0 }, 35, wCmd 0xC106 [5, 2, 3, 9, 1] [], by decide +kernel⟩

theorem wit_IdentityHealthAccessWorldsAndCapacityAreAnswered_18 : ∃ (s : State) (c : Fin 64) (m : Cmd), (s.asked c 0xC106 m .a false [0] false [(0, 5)]) ∧ (63 < m.byte 0 ∨ 15 < m.byte 1 ∨ 15 < m.byte 2 ∨ 31 < m.byte 3 ∧ m.byte 3 ≠ 0xFF ∨ 1 < m.byte 4) :=
  ⟨{ wAsk 0xC106 [5, 2, 3, 9, 2] [] [] with fresh := 0 }, 35, wCmd 0xC106 [5, 2, 3, 9, 2] [], by decide +kernel⟩

theorem wit_IdentityHealthAccessWorldsAndCapacityAreAnswered_19 : ∃ (s : State) (c : Fin 64) (m : Cmd), (s.asked c 0xC107 m .a false [0] false [(0, 3), (4, 4)]) ∧ (m.byte 0 ≤ 63) ∧ (m.byte 1 ≤ 1) ∧ (m.byte 2 ≤ 63) ∧ (s.cgSeen m (m.byte 0) = true) ∧ (m.byte 1 = 1 ∨ (s.dl.conns.any fun x => x.2.state != 0 && x.2.group == m.byte 0) = false) ∧ (m.num 4 4 = 0xFFFFFFFF) :=
  ⟨{ wAsk 0xC107 [5, 1, 9, 0, 255, 255, 255, 255] [] [] with fresh := 0 }, 35, wCmd 0xC107 [5, 1, 9, 0, 255, 255, 255, 255] [], by decide +kernel⟩

theorem wit_IdentityHealthAccessWorldsAndCapacityAreAnswered_20 : ∃ (s : State) (c : Fin 64) (m : Cmd), (s.asked c 0xC107 m .a false [0] false [(0, 3), (4, 4)]) ∧ (63 < m.byte 0 ∨ 1 < m.byte 1 ∨ 63 < m.byte 2) :=
  ⟨{ wAsk 0xC107 [5, 2, 9] [] [] with fresh := 0 }, 35, wCmd 0xC107 [5, 2, 9] [], by decide +kernel⟩

theorem wit_IdentityHealthAccessWorldsAndCapacityAreAnswered_21 : ∃ (s : State) (c : Fin 64) (m : Cmd), (s.asked c 0xC107 m .a false [0] false [(0, 3), (4, 4)]) ∧ (m.byte 0 ≤ 63) ∧ (m.byte 1 ≤ 1) ∧ (m.byte 2 ≤ 63) ∧ (s.cgSeen m (m.byte 0) = false) :=
  ⟨{ wAsk 0xC107 [5, 1, 9] [] [(TIN_CGB_WORLD 5, 1)] with fresh := 0 }, 35, wCmd 0xC107 [5, 1, 9] [], by decide +kernel⟩

theorem wit_IdentityHealthAccessWorldsAndCapacityAreAnswered_22 : ∃ (s : State) (c : Fin 64) (m : Cmd), (s.asked c 0xC107 m .a false [0] false [(0, 3), (4, 4)]) ∧ (m.byte 0 ≤ 63) ∧ (m.byte 1 = 0) ∧ (m.byte 2 ≤ 63) ∧ (s.cgSeen m (m.byte 0) = true) ∧ ((s.dl.conns.any fun x => x.2.state != 0 && x.2.group == m.byte 0) = true) :=
  ⟨{ wAsk 0xC107 [5, 0, 9] [] [] with fresh := 0, dl := { conns := [(9, { state := 2, desc := 0x500 })] } }, 35, wCmd 0xC107 [5, 0, 9] [], by decide +kernel⟩

theorem wit_RegionCommandsCommitTheirChangesAndAnswerWhenTheyAreDone_1 : ∃ (s : State) (c : Fin 64) (m : Cmd), (s.asked c 0xC101 m .a false [0] false [(0, 5), (8, 40)]) ∧ (m.byte 1 ≤ 1) ∧ (m.byte 3 ≤ 1) ∧ (0 < m.num 12 4) ∧ (m.num 12 4 ≤ 65536) ∧ (s.on TIN_RGN_STATUS_BUSY = false) ∧ (s.rgnHidden m (m.byte 0) = false) ∧ ((m.byte 1 == 1) = m.world) ∧ (s.rgnValid (m.byte 0) = false) ∧ (m.num 8 4 < 65536) ∧ ((s.createStage m).commitResult (s.cmdSecure m) (m.byte 0) = 0) :=
  ⟨{ wAsk 0xC101 [2, 0, 3, 0, 9, 0, 0, 0, 4, 0, 0, 0, 3, 0, 0, 0, 5, 0, 0, 0, 0, 0, 0, 0, 1] [] [(TIN_DPA_LIMIT_CAP_GIB, 16), (TIN_WORLD_LOCK_LOCK, 1), (⟨CPH_RSLOT 3, 0, 64⟩, 0x8000000000000000)] with fresh := 0 }, 35, wCmd 0xC101 [2, 0, 3, 0, 9, 0, 0, 0, 4, 0, 0, 0, 3, 0, 0, 0, 5, 0, 0, 0, 0, 0, 0, 0, 1] [], by decide +kernel⟩

theorem wit_RegionCommandsCommitTheirChangesAndAnswerWhenTheyAreDone_2 : ∃ (s : State) (c : Fin 64) (m : Cmd), (s.asked c 0xC101 m .a false [0] false [(0, 5), (8, 40)]) ∧ (m.byte 1 ≤ 1) ∧ (m.byte 3 ≤ 1) ∧ (0 < m.num 12 4) ∧ (m.num 12 4 ≤ 65536) ∧ (s.on TIN_RGN_STATUS_BUSY = false) ∧ (s.rgnHidden m (m.byte 0) = false) ∧ ((m.byte 1 == 1) = m.world) ∧ (s.rgnValid (m.byte 0) = false) ∧ (m.num 8 4 < 65536) ∧ ((s.createStage m).commitResult (s.cmdSecure m) (m.byte 0) ≠ 0) :=
  ⟨{ wAsk 0xC101 [2, 0, 3, 0, 9, 0, 0, 0, 4, 0, 0, 0, 3, 0, 0, 0, 5, 0, 0, 0, 0, 0, 0, 0, 1] [] [] with fresh := 0 }, 35, wCmd 0xC101 [2, 0, 3, 0, 9, 0, 0, 0, 4, 0, 0, 0, 3, 0, 0, 0, 5, 0, 0, 0, 0, 0, 0, 0, 1] [], by decide +kernel⟩

theorem wit_RegionCommandsCommitTheirChangesAndAnswerWhenTheyAreDone_3 : ∃ (s : State) (c : Fin 64) (m : Cmd), (s.asked c 0xC101 m .a false [0] false [(0, 5), (8, 40)]) ∧ (m.byte 1 ≤ 1) ∧ (m.byte 3 ≤ 1) ∧ (0 < m.num 12 4) ∧ (m.num 12 4 ≤ 65536) ∧ (s.on TIN_RGN_STATUS_BUSY = false) ∧ (s.rgnHidden m (m.byte 0) = false) ∧ ((m.byte 1 == 1) = m.world) ∧ (s.rgnValid (m.byte 0) = true) ∧ (s.rgnBase (m.byte 0) = m.num 8 4) ∧ (s.rgnSize (m.byte 0) = m.num 12 4) ∧ (s.rd (TIN_RGN_ATTR_KEY_SLOT (m.byte 0)) = m.byte 2) ∧ (s.rd (TIN_RGN_ATTR_PLACE (m.byte 0)) = m.byte 3) ∧ (s.rd (TIN_RGN_ATTR_TENANT (m.byte 0)) = m.byte 4) ∧ (s.masksAre (m.byte 0) (m.num 16 8) (m.num 24 8) (m.num 32 8) (m.num 40 8) = true) :=
  ⟨{ wAsk 0xC101 [2, 0, 3, 0, 0, 0, 0, 0, 2, 0, 0, 0, 2, 0, 0, 0, 3, 0, 0, 0, 0, 0, 0, 0, 1] [] [(TIN_DPA_LIMIT_CAP_GIB, 16), (TIN_WORLD_LOCK_LOCK, 1), (⟨CPH_RSLOT 3, 0, 64⟩, 0x8000000000000000), (⟨TIN_RGN_ATTR 2, 0, 32⟩, 0x80000300), (⟨TIN_RGN_EXT 2, 0, 64⟩, 0x10002), (⟨TIN_RGN_LDRD 2, 0, 64⟩, 3), (⟨TIN_RGN_LDWR 2, 0, 64⟩, 1)] with fresh := 0 }, 35, wCmd 0xC101 [2, 0, 3, 0, 0, 0, 0, 0, 2, 0, 0, 0, 2, 0, 0, 0, 3, 0, 0, 0, 0, 0, 0, 0, 1] [], by decide +kernel⟩

theorem wit_RegionCommandsCommitTheirChangesAndAnswerWhenTheyAreDone_4 : ∃ (s : State) (c : Fin 64) (m : Cmd), (s.asked c 0xC101 m .a false [0] false [(0, 5), (8, 40)]) ∧ (m.byte 1 ≤ 1) ∧ (m.byte 3 ≤ 1) ∧ (0 < m.num 12 4) ∧ (m.num 12 4 ≤ 65536) ∧ (s.on TIN_RGN_STATUS_BUSY = false) ∧ (s.rgnHidden m (m.byte 0) = false) ∧ ((m.byte 1 == 1) = m.world) ∧ (s.rgnValid (m.byte 0) = true) ∧ (s.rgnBase (m.byte 0) ≠ m.num 8 4) :=
  ⟨{ wAsk 0xC101 [2, 0, 3, 0, 9, 0, 0, 0, 4, 0, 0, 0, 3, 0, 0, 0, 5, 0, 0, 0, 0, 0, 0, 0, 1] [] [(TIN_DPA_LIMIT_CAP_GIB, 16), (TIN_WORLD_LOCK_LOCK, 1), (⟨CPH_RSLOT 3, 0, 64⟩, 0x8000000000000000), (⟨TIN_RGN_ATTR 2, 0, 32⟩, 0x80000300), (⟨TIN_RGN_EXT 2, 0, 64⟩, 0x10002), (⟨TIN_RGN_LDRD 2, 0, 64⟩, 3), (⟨TIN_RGN_LDWR 2, 0, 64⟩, 1)] with fresh := 0 }, 35, wCmd 0xC101 [2, 0, 3, 0, 9, 0, 0, 0, 4, 0, 0, 0, 3, 0, 0, 0, 5, 0, 0, 0, 0, 0, 0, 0, 1] [], by decide +kernel⟩

theorem wit_RegionCommandsCommitTheirChangesAndAnswerWhenTheyAreDone_5 : ∃ (s : State) (c : Fin 64) (m : Cmd), (s.asked c 0xC101 m .a false [0] false [(0, 5), (8, 40)]) ∧ (m.byte 1 ≤ 1) ∧ (m.byte 3 ≤ 1) ∧ (0 < m.num 12 4) ∧ (m.num 12 4 ≤ 65536) ∧ (s.on TIN_RGN_STATUS_BUSY = false) ∧ (s.rgnHidden m (m.byte 0) = true) :=
  ⟨({ wAsk 0xC101 [2, 0, 3, 0, 9, 0, 0, 0, 4, 0, 0, 0, 3, 0, 0, 0, 5, 0, 0, 0, 0, 0, 0, 0, 1] [] [(⟨TIN_RGN_ATTR 2, 0, 32⟩, 0x80001300), (⟨TIN_RGN_ATTR 2, 0, 32⟩, 0)] with fresh := 0 } |>.wr (TIN_RGN_ATTR_WORLD 2) 1), 35, wCmd 0xC101 [2, 0, 3, 0, 9, 0, 0, 0, 4, 0, 0, 0, 3, 0, 0, 0, 5, 0, 0, 0, 0, 0, 0, 0, 1] [], by decide +kernel⟩

theorem wit_RegionCommandsCommitTheirChangesAndAnswerWhenTheyAreDone_6 : ∃ (s : State) (c : Fin 64) (m : Cmd), (s.asked c 0xC101 m .a false [0] false [(0, 5), (8, 40)]) ∧ (s.on TIN_RGN_STATUS_BUSY = false) ∧ (1 < m.byte 1 ∨ 1 < m.byte 3 ∨ m.num 12 4 = 0 ∨ 65536 < m.num 12 4) :=
  ⟨{ wAsk 0xC101 [] [] [] with fresh := 0 }, 35, wCmd 0xC101 [] [], by decide +kernel⟩

theorem wit_RegionCommandsCommitTheirChangesAndAnswerWhenTheyAreDone_7 : ∃ (s : State) (c : Fin 64) (m : Cmd), (s.askedAt c 0xC101 m 1) ∧ (s.on TIN_RGN_STATUS_BUSY = false) :=
  ⟨{ wAsk 0xC101 [2, 0, 3, 0, 9, 0, 0, 0, 4, 0, 0, 0, 3, 0, 0, 0, 5, 0, 0, 0, 0, 0, 0, 0, 1] [] [] with fresh := 0, cs := { stage := [(35, 1)] } }, 35, wCmd 0xC101 [2, 0, 3, 0, 9, 0, 0, 0, 4, 0, 0, 0, 3, 0, 0, 0, 5, 0, 0, 0, 0, 0, 0, 0, 1] [], by decide +kernel⟩

theorem wit_RegionCommandsCommitTheirChangesAndAnswerWhenTheyAreDone_8 : ∃ (s : State) (c : Fin 64) (m : Cmd), (s.asked c 0xC102 m .a true [0] false [(0, 1), (8, 32)]) ∧ (s.on TIN_RGN_STATUS_BUSY = false) ∧ (m.kind ≠ 4) ∧ (s.rgnSeen m (m.byte 0) = true) ∧ (s.rgnValid (m.byte 0) = true) ∧ (s.masksAre (m.byte 0) (m.num 8 8) (m.num 16 8) (m.num 24 8) (m.num 32 8) = false) ∧ (((s.rgnLoad (m.byte 0)).stageMasks (m.num 8 8) (m.num 16 8) (m.num 24 8) (m.num 32 8)).commitResult (s.cmdSecure m) (m.byte 0) = 0) :=
  ⟨{ wAsk 0xC102 [2, 0, 0, 0, 0, 0, 0, 0, 5, 0, 0, 0, 0, 0, 0, 0, 1] [] [(TIN_DPA_LIMIT_CAP_GIB, 16), (TIN_WORLD_LOCK_LOCK, 1), (⟨CPH_RSLOT 3, 0, 64⟩, 0x8000000000000000), (⟨TIN_RGN_ATTR 2, 0, 32⟩, 0x80000300), (⟨TIN_RGN_EXT 2, 0, 64⟩, 0x10002), (⟨TIN_RGN_LDRD 2, 0, 64⟩, 3), (⟨TIN_RGN_LDWR 2, 0, 64⟩, 1)] with fresh := 0 }, 35, wCmd 0xC102 [2, 0, 0, 0, 0, 0, 0, 0, 5, 0, 0, 0, 0, 0, 0, 0, 1] [], by decide +kernel⟩

theorem wit_RegionCommandsCommitTheirChangesAndAnswerWhenTheyAreDone_9 : ∃ (s : State) (c : Fin 64) (m : Cmd), (s.asked c 0xC102 m .a true [0] false [(0, 1), (8, 32)]) ∧ (s.on TIN_RGN_STATUS_BUSY = false) ∧ (m.kind ≠ 4) ∧ (s.rgnSeen m (m.byte 0) = true) ∧ (s.rgnValid (m.byte 0) = true) ∧ (s.masksAre (m.byte 0) (m.num 8 8) (m.num 16 8) (m.num 24 8) (m.num 32 8) = true) :=
  ⟨{ wAsk 0xC102 [2, 0, 0, 0, 0, 0, 0, 0, 3, 0, 0, 0, 0, 0, 0, 0, 1] [] [(TIN_DPA_LIMIT_CAP_GIB, 16), (TIN_WORLD_LOCK_LOCK, 1), (⟨CPH_RSLOT 3, 0, 64⟩, 0x8000000000000000), (⟨TIN_RGN_ATTR 2, 0, 32⟩, 0x80000300), (⟨TIN_RGN_EXT 2, 0, 64⟩, 0x10002), (⟨TIN_RGN_LDRD 2, 0, 64⟩, 3), (⟨TIN_RGN_LDWR 2, 0, 64⟩, 1)] with fresh := 0 }, 35, wCmd 0xC102 [2, 0, 0, 0, 0, 0, 0, 0, 3, 0, 0, 0, 0, 0, 0, 0, 1] [], by decide +kernel⟩

theorem wit_RegionCommandsCommitTheirChangesAndAnswerWhenTheyAreDone_10 : ∃ (s : State) (c : Fin 64) (m : Cmd), (s.asked c 0xC102 m .a true [0] false [(0, 1), (8, 32)]) ∧ (s.on TIN_RGN_STATUS_BUSY = false) ∧ (m.kind ≠ 4) ∧ ((s.rgnSeen m (m.byte 0) && s.rgnValid (m.byte 0)) = false) :=
  ⟨{ wAsk 0xC102 [2, 0, 0, 0, 0, 0, 0, 0, 5, 0, 0, 0, 0, 0, 0, 0, 1] [] [] with fresh := 0 }, 35, wCmd 0xC102 [2, 0, 0, 0, 0, 0, 0, 0, 5, 0, 0, 0, 0, 0, 0, 0, 1] [], by decide +kernel⟩

theorem wit_RegionCommandsCommitTheirChangesAndAnswerWhenTheyAreDone_11 : ∃ (s : State) (c : Fin 64) (m : Cmd), (s.asked c 0xC102 m .a true [0] false [(0, 1), (8, 32)]) ∧ (s.on TIN_RGN_STATUS_BUSY = false) ∧ (m.kind = 4) ∧ (s.cs.handed.contains (m.byte 0) = false) :=
  ⟨(wAskT 0xC102 [2, 0, 0, 0, 0, 0, 0, 0, 5, 0, 0, 0, 0, 0, 0, 0, 1] []), 56, wCmdT 0xC102 [2, 0, 0, 0, 0, 0, 0, 0, 5, 0, 0, 0, 0, 0, 0, 0, 1], by decide +kernel⟩

theorem wit_RegionCommandsCommitTheirChangesAndAnswerWhenTheyAreDone_12 : ∃ (s : State) (c : Fin 64) (m : Cmd), (s.asked c 0xC103 m .a false [0] false [(0, 4)]) ∧ (s.on TIN_RGN_STATUS_BUSY = false) ∧ (m.byte 1 ≤ 1) ∧ (m.byte 3 = 2) ∧ (s.rgnSeen m (m.byte 0) = true) ∧ (s.rgnValid (m.byte 0) = true) ∧ (m.byte 2 ≠ s.rd (TIN_RGN_ATTR_TENANT (m.byte 0))) ∧ ((((s.rgnLoad (m.byte 0)).wr TIN_STG_ATTR_PLACE (s.rd (TIN_RGN_ATTR_PLACE (m.byte 0)))).wr TIN_STG_ATTR_TENANT (m.byte 2)).commitResult (s.cmdSecure m) (m.byte 0) = 0) :=
  ⟨{ wAsk 0xC103 [2, 1, 9, 2] [] [(TIN_DPA_LIMIT_CAP_GIB, 16), (TIN_WORLD_LOCK_LOCK, 1), (⟨CPH_RSLOT 3, 0, 64⟩, 0x8000000000000000), (⟨TIN_RGN_ATTR 2, 0, 32⟩, 0x80000300), (⟨TIN_RGN_EXT 2, 0, 64⟩, 0x10002), (⟨TIN_RGN_LDRD 2, 0, 64⟩, 3), (⟨TIN_RGN_LDWR 2, 0, 64⟩, 1)] with fresh := 0 }, 35, wCmd 0xC103 [2, 1, 9, 2] [], by decide +kernel⟩

theorem wit_RegionCommandsCommitTheirChangesAndAnswerWhenTheyAreDone_13 : ∃ (s : State) (c : Fin 64) (m : Cmd), (s.asked c 0xC103 m .a false [0] false [(0, 4)]) ∧ (s.on TIN_RGN_STATUS_BUSY = false) ∧ (m.byte 1 ≤ 1) ∧ (m.byte 3 = 0) ∧ (s.rgnSeen m (m.byte 0) = true) ∧ (s.rgnValid (m.byte 0) = true) :=
  ⟨{ wAsk 0xC103 [2, 1, 9, 0] [] [(TIN_DPA_LIMIT_CAP_GIB, 16), (TIN_WORLD_LOCK_LOCK, 1), (⟨CPH_RSLOT 3, 0, 64⟩, 0x8000000000000000), (⟨TIN_RGN_ATTR 2, 0, 32⟩, 0x80000300), (⟨TIN_RGN_EXT 2, 0, 64⟩, 0x10002), (⟨TIN_RGN_LDRD 2, 0, 64⟩, 3), (⟨TIN_RGN_LDWR 2, 0, 64⟩, 1)] with fresh := 0 }, 35, wCmd 0xC103 [2, 1, 9, 0] [], by decide +kernel⟩

theorem wit_RegionCommandsCommitTheirChangesAndAnswerWhenTheyAreDone_14 : ∃ (s : State) (c : Fin 64) (m : Cmd), (s.asked c 0xC103 m .a false [0] false [(0, 4)]) ∧ (s.on TIN_RGN_STATUS_BUSY = false) ∧ (1 < m.byte 1 ∨ 3 < m.byte 3) :=
  ⟨{ wAsk 0xC103 [2, 1, 9, 4] [] [] with fresh := 0 }, 35, wCmd 0xC103 [2, 1, 9, 4] [], by decide +kernel⟩

theorem wit_RegionCommandsCommitTheirChangesAndAnswerWhenTheyAreDone_15 : ∃ (s : State) (c : Fin 64) (m : Cmd), (s.asked c 0xC104 m .a false [0] false [(0, 1)]) ∧ (s.on TIN_RGN_STATUS_BUSY = false) ∧ (s.rgnSeen m (m.byte 0) = true) ∧ (s.rgnValid (m.byte 0) = true) ∧ (s.rd (YOK_RGN_STATE (m.byte 0)) = 0) ∧ (s.destroyResult (s.cmdSecure m) (m.byte 0) = 0) :=
  ⟨{ wAsk 0xC104 [2] [] [(TIN_DPA_LIMIT_CAP_GIB, 16), (TIN_WORLD_LOCK_LOCK, 1), (⟨CPH_RSLOT 3, 0, 64⟩, 0x8000000000000000), (⟨TIN_RGN_ATTR 2, 0, 32⟩, 0x80000300), (⟨TIN_RGN_EXT 2, 0, 64⟩, 0x10002), (⟨TIN_RGN_LDRD 2, 0, 64⟩, 3), (⟨TIN_RGN_LDWR 2, 0, 64⟩, 1)] with fresh := 0 }, 35, wCmd 0xC104 [2] [], by decide +kernel⟩

theorem wit_RegionCommandsCommitTheirChangesAndAnswerWhenTheyAreDone_16 : ∃ (s : State) (c : Fin 64) (m : Cmd), (s.asked c 0xC104 m .a false [0] false [(0, 1)]) ∧ (s.on TIN_RGN_STATUS_BUSY = false) ∧ (s.rgnSeen m (m.byte 0) = true) ∧ (s.rgnValid (m.byte 0) = false) :=
  ⟨{ wAsk 0xC104 [2] [] [(⟨TIN_RGN_ATTR 2, 0, 32⟩, 0x40000300)] with fresh := 0 }, 35, wCmd 0xC104 [2] [], by decide +kernel⟩

theorem wit_RegionCommandsCommitTheirChangesAndAnswerWhenTheyAreDone_17 : ∃ (s : State) (c : Fin 64) (m : Cmd), (s.asked c 0xC104 m .a false [0] false [(0, 1)]) ∧ (s.on TIN_RGN_STATUS_BUSY = false) ∧ (s.rgnSeen m (m.byte 0) = true) ∧ (s.rgnValid (m.byte 0) = true) ∧ (s.rd (YOK_RGN_STATE (m.byte 0)) ≠ 0) :=
  ⟨{ wAsk 0xC104 [2] [] [(TIN_DPA_LIMIT_CAP_GIB, 16), (TIN_WORLD_LOCK_LOCK, 1), (⟨CPH_RSLOT 3, 0, 64⟩, 0x8000000000000000), (⟨TIN_RGN_ATTR 2, 0, 32⟩, 0x80000300), (⟨TIN_RGN_EXT 2, 0, 64⟩, 0x10002), (⟨TIN_RGN_LDRD 2, 0, 64⟩, 3), (⟨TIN_RGN_LDWR 2, 0, 64⟩, 1), (YOK_RGN_STATE 2, 2)] with fresh := 0 }, 35, wCmd 0xC104 [2] [], by decide +kernel⟩

theorem wit_RegionCommandsCommitTheirChangesAndAnswerWhenTheyAreDone_18 : ∃ (s : State) (c : Fin 64) (m : Cmd), (s.asked c 0xC104 m .a false [0] false [(0, 1)]) ∧ (s.on TIN_RGN_STATUS_BUSY = false) ∧ (s.rgnSeen m (m.byte 0) = false) :=
  ⟨{ wAsk 0xC104 [2] [] [] with fresh := 0 }, 35, wCmd 0xC104 [2] [], by decide +kernel⟩

theorem wit_RegionCommandsCommitTheirChangesAndAnswerWhenTheyAreDone_19 : ∃ (s : State) (c : Fin 64) (m : Cmd), (s.asked c 0xC105 m .q true [0] false [(0, 1)]) ∧ (s.rgnSeen m (m.byte 0) = true) ∧ (s.mayQuery m (m.byte 0) = true) :=
  ⟨{ wAsk 0xC105 [2] [] [(TIN_DPA_LIMIT_CAP_GIB, 16), (TIN_WORLD_LOCK_LOCK, 1), (⟨CPH_RSLOT 3, 0, 64⟩, 0x8000000000000000), (⟨TIN_RGN_ATTR 2, 0, 32⟩, 0x80000300), (⟨TIN_RGN_EXT 2, 0, 64⟩, 0x10002), (⟨TIN_RGN_LDRD 2, 0, 64⟩, 3), (⟨TIN_RGN_LDWR 2, 0, 64⟩, 1)] with fresh := 0 }, 35, wCmd 0xC105 [2] [], by decide +kernel⟩

theorem wit_RegionCommandsCommitTheirChangesAndAnswerWhenTheyAreDone_20 : ∃ (s : State) (c : Fin 64) (m : Cmd), (s.asked c 0xC105 m .q true [0] false [(0, 1)]) ∧ ((s.rgnSeen m (m.byte 0) && s.mayQuery m (m.byte 0)) = false) :=
  ⟨{ wAsk 0xC105 [2] [] [] with fresh := 0 }, 35, wCmd 0xC105 [2] [], by decide +kernel⟩

theorem wit_RegionCommandsCommitTheirChangesAndAnswerWhenTheyAreDone_21 : ∃ (s : State) (c : Fin 64) (m : Cmd), (s.asked c 0xC200 m .a true [0] false [(0, 12)]) ∧ (2 < m.byte 1 ∨ m.byte 2 ≠ (if m.kind = 4 then 1 else 0) ∨ 1 < m.byte 3 ∨ 1023 < m.num 4 4 ∨ 131071 < m.num 8 4) :=
  ⟨{ wAsk 0xC200 [2, 3] [] [] with fresh := 0 }, 35, wCmd 0xC200 [2, 3] [], by decide +kernel⟩

theorem wit_RegionCommandsCommitTheirChangesAndAnswerWhenTheyAreDone_22 : ∃ (s : State) (c : Fin 64) (m : Cmd), (s.asked c 0xC200 m .a true [0] false [(0, 12)]) ∧ (m.byte 1 ≤ 2) ∧ (m.byte 2 = 0) ∧ (m.byte 3 ≤ 1) ∧ (m.num 4 4 ≤ 1023) ∧ (m.num 8 4 ≤ 131071) ∧ (m.kind ≠ 4) ∧ ((s.rgnSeen m (m.byte 0) && s.rgnValid (m.byte 0)) = false) :=
  ⟨{ wAsk 0xC200 [2, 1, 0, 1, 100, 0, 0, 0, 128] [] [] with fresh := 0 }, 35, wCmd 0xC200 [2, 1, 0, 1, 100, 0, 0, 0, 128] [], by decide +kernel⟩

theorem wit_RegionCommandsCommitTheirChangesAndAnswerWhenTheyAreDone_23 : ∃ (s : State) (c : Fin 64) (m : Cmd), (s.asked c 0xC200 m .a true [0] false [(0, 12)]) ∧ (m.byte 1 ≤ 2) ∧ (m.byte 2 = 0) ∧ (m.byte 3 ≤ 1) ∧ (m.num 4 4 ≤ 1023) ∧ (m.num 8 4 ≤ 131071) ∧ (m.kind ≠ 4) ∧ (s.rgnSeen m (m.byte 0) = true) ∧ (s.rgnValid (m.byte 0) = true) ∧ ((s.rd (YOK_RGN_STATE (m.byte 0)) != 0 && s.rd (YOK_RGN_ROLE (m.byte 0)) == 1) = false) ∧ (m.byte 1 = s.rgnClass (m.byte 0)) ∧ (m.byte 1 = 0 ∨ s.rd (YOK_RGN_STATE (m.byte 0)) ≠ 0) :=
  ⟨{ wAsk 0xC200 [2, 0, 0, 1, 100, 0, 0, 0, 128] [] [(TIN_DPA_LIMIT_CAP_GIB, 16), (TIN_WORLD_LOCK_LOCK, 1), (⟨CPH_RSLOT 3, 0, 64⟩, 0x8000000000000000), (⟨TIN_RGN_ATTR 2, 0, 32⟩, 0x80000300), (⟨TIN_RGN_EXT 2, 0, 64⟩, 0x10002), (⟨TIN_RGN_LDRD 2, 0, 64⟩, 3), (⟨TIN_RGN_LDWR 2, 0, 64⟩, 1)] with fresh := 0 }, 35, wCmd 0xC200 [2, 0, 0, 1, 100, 0, 0, 0, 128] [], by decide +kernel⟩

theorem wit_RegionCommandsCommitTheirChangesAndAnswerWhenTheyAreDone_24 : ∃ (s : State) (c : Fin 64) (m : Cmd), (s.asked c 0xC200 m .a true [0] false [(0, 12)]) ∧ (m.byte 1 ≤ 2) ∧ (m.byte 2 = 0) ∧ (m.byte 3 ≤ 1) ∧ (m.num 4 4 ≤ 1023) ∧ (m.num 8 4 ≤ 131071) ∧ (m.kind ≠ 4) ∧ (s.rgnSeen m (m.byte 0) = true) ∧ (s.rgnValid (m.byte 0) = true) ∧ (s.rd (YOK_RGN_STATE (m.byte 0)) ≠ 0) ∧ (s.rd (YOK_RGN_ROLE (m.byte 0)) = 1) :=
  ⟨({ wAsk 0xC200 [2, 1, 0, 1, 100, 0, 0, 0, 128] [] [(TIN_DPA_LIMIT_CAP_GIB, 16), (TIN_WORLD_LOCK_LOCK, 1), (⟨CPH_RSLOT 3, 0, 64⟩, 0x8000000000000000), (⟨TIN_RGN_ATTR 2, 0, 32⟩, 0x80000300), (⟨TIN_RGN_EXT 2, 0, 64⟩, 0x10002), (⟨TIN_RGN_LDRD 2, 0, 64⟩, 3), (⟨TIN_RGN_LDWR 2, 0, 64⟩, 1), (⟨YOK_RGN 2, 0, 64⟩, 0)] with fresh := 0 } |>.wr (YOK_RGN_STATE 2) 2 |>.wr (YOK_RGN_ROLE 2) 1), 35, wCmd 0xC200 [2, 1, 0, 1, 100, 0, 0, 0, 128] [], by decide +kernel⟩

theorem wit_RegionCommandsCommitTheirChangesAndAnswerWhenTheyAreDone_25 : ∃ (s : State) (c : Fin 64) (m : Cmd), (s.asked c 0xC200 m .a true [0] false [(0, 12)]) ∧ (m.byte 1 ≤ 2) ∧ (m.byte 2 = 0) ∧ (m.byte 3 ≤ 1) ∧ (m.num 4 4 ≤ 1023) ∧ (m.num 8 4 ≤ 131071) ∧ (m.kind ≠ 4) ∧ (s.rgnSeen m (m.byte 0) = true) ∧ (s.rgnValid (m.byte 0) = true) ∧ ((s.rd (YOK_RGN_STATE (m.byte 0)) != 0 && s.rd (YOK_RGN_ROLE (m.byte 0)) == 1) = false) ∧ (m.byte 1 ≠ s.rgnClass (m.byte 0)) ∧ (s.on TIN_RGN_STATUS_BUSY = false) ∧ (m.byte 1 = 0) ∧ (((s.rgnLoad (m.byte 0)).wr TIN_STG_ATTR_CLASS 0).commitResult (s.cmdSecure m) (m.byte 0) = 0) :=
  ⟨(({ wAsk 0xC200 [2, 0, 0, 1, 100, 0, 0, 0, 128] [] [(TIN_DPA_LIMIT_CAP_GIB, 16), (TIN_WORLD_LOCK_LOCK, 1), (⟨CPH_RSLOT 3, 0, 64⟩, 0x8000000000000000), (⟨TIN_RGN_ATTR 2, 0, 32⟩, 0x80000300), (⟨TIN_RGN_EXT 2, 0, 64⟩, 0x10002), (⟨TIN_RGN_LDRD 2, 0, 64⟩, 3), (⟨TIN_RGN_LDWR 2, 0, 64⟩, 1)] with fresh := 0 }.wr (TIN_RGN_ATTR_CLASS 2) 1 |>.wr (TIN_RGN_ATTR_VALID 2) 1 |>.wr (TIN_RGN_ATTR_KEY_SLOT 2) 3 |>.wr (YOK_RGN_STATE 2) 2)), 35, wCmd 0xC200 [2, 0, 0, 1, 100, 0, 0, 0, 128] [], by decide +kernel⟩

theorem wit_RegionCommandsCommitTheirChangesAndAnswerWhenTheyAreDone_26 : ∃ (s : State) (c : Fin 64) (m : Cmd), (s.asked c 0xC200 m .a true [0] false [(0, 12)]) ∧ (m.byte 1 ≤ 2) ∧ (m.byte 2 = 0) ∧ (m.byte 3 ≤ 1) ∧ (m.num 4 4 ≤ 1023) ∧ (m.num 8 4 ≤ 131071) ∧ (m.kind ≠ 4) ∧ (s.rgnSeen m (m.byte 0) = true) ∧ (s.rgnValid (m.byte 0) = true) ∧ ((s.rd (YOK_RGN_STATE (m.byte 0)) != 0 && s.rd (YOK_RGN_ROLE (m.byte 0)) == 1) = false) ∧ (m.byte 1 ≠ s.rgnClass (m.byte 0)) ∧ (s.on TIN_RGN_STATUS_BUSY = false) ∧ (m.byte 1 ≠ 0) ∧ (s.on YOK_CTL_ENABLE = false) :=
  ⟨{ wAsk 0xC200 [2, 1, 0, 1, 100, 0, 0, 0, 128] [] [(TIN_DPA_LIMIT_CAP_GIB, 16), (TIN_WORLD_LOCK_LOCK, 1), (⟨CPH_RSLOT 3, 0, 64⟩, 0x8000000000000000), (⟨TIN_RGN_ATTR 2, 0, 32⟩, 0x80000300), (⟨TIN_RGN_EXT 2, 0, 64⟩, 0x10002), (⟨TIN_RGN_LDRD 2, 0, 64⟩, 3), (⟨TIN_RGN_LDWR 2, 0, 64⟩, 1)] with fresh := 0 }, 35, wCmd 0xC200 [2, 1, 0, 1, 100, 0, 0, 0, 128] [], by decide +kernel⟩

theorem wit_RegionCommandsCommitTheirChangesAndAnswerWhenTheyAreDone_27 : ∃ (s : State) (c : Fin 64) (m : Cmd), (s.asked c 0xC200 m .a true [0] false [(0, 12)]) ∧ (m.byte 1 ≤ 2) ∧ (m.byte 2 = 0) ∧ (m.byte 3 ≤ 1) ∧ (m.num 4 4 ≤ 1023) ∧ (m.num 8 4 ≤ 131071) ∧ (m.kind ≠ 4) ∧ (s.rgnSeen m (m.byte 0) = true) ∧ (s.rgnValid (m.byte 0) = true) ∧ ((s.rd (YOK_RGN_STATE (m.byte 0)) != 0 && s.rd (YOK_RGN_ROLE (m.byte 0)) == 1) = false) ∧ (m.byte 1 ≠ s.rgnClass (m.byte 0)) ∧ (s.on TIN_RGN_STATUS_BUSY = false) ∧ (m.byte 1 ≠ 0) ∧ (s.on YOK_CTL_ENABLE = true) ∧ (s.twinUp = false) :=
  ⟨{ wAsk 0xC200 [2, 1, 0, 1, 100, 0, 0, 0, 128] [] [(TIN_DPA_LIMIT_CAP_GIB, 16), (TIN_WORLD_LOCK_LOCK, 1), (⟨CPH_RSLOT 3, 0, 64⟩, 0x8000000000000000), (⟨TIN_RGN_ATTR 2, 0, 32⟩, 0x80000300), (⟨TIN_RGN_EXT 2, 0, 64⟩, 0x10002), (⟨TIN_RGN_LDRD 2, 0, 64⟩, 3), (⟨TIN_RGN_LDWR 2, 0, 64⟩, 1), (YOK_CTL_ENABLE, 1)] with fresh := 0 }, 35, wCmd 0xC200 [2, 1, 0, 1, 100, 0, 0, 0, 128] [], by decide +kernel⟩

theorem wit_RegionCommandsCommitTheirChangesAndAnswerWhenTheyAreDone_28 : ∃ (s : State) (c : Fin 64) (m : Cmd), (s.asked c 0xC200 m .a true [0] false [(0, 12)]) ∧ (m.byte 1 ≤ 2) ∧ (m.byte 2 = 0) ∧ (m.byte 3 ≤ 1) ∧ (m.num 4 4 ≤ 1023) ∧ (m.num 8 4 ≤ 131071) ∧ (m.kind ≠ 4) ∧ (s.rgnSeen m (m.byte 0) = true) ∧ (s.rgnValid (m.byte 0) = true) ∧ ((s.rd (YOK_RGN_STATE (m.byte 0)) != 0 && s.rd (YOK_RGN_ROLE (m.byte 0)) == 1) = false) ∧ (m.byte 1 ≠ s.rgnClass (m.byte 0)) ∧ (s.on TIN_RGN_STATUS_BUSY = false) ∧ (m.byte 1 ≠ 0) ∧ (s.on YOK_CTL_ENABLE = true) ∧ (s.twinUp = true) ∧ (s.mbxFull 56 true = false) ∧ (s.rd (YOK_RGN_STATE (m.byte 0)) = 0) :=
  ⟨{ wAsk 0xC200 [2, 1, 0, 1, 100, 0, 0, 0, 128] [] [(TIN_DPA_LIMIT_CAP_GIB, 16), (TIN_WORLD_LOCK_LOCK, 1), (⟨CPH_RSLOT 3, 0, 64⟩, 0x8000000000000000), (⟨TIN_RGN_ATTR 2, 0, 32⟩, 0x80000300), (⟨TIN_RGN_EXT 2, 0, 64⟩, 0x10002), (⟨TIN_RGN_LDRD 2, 0, 64⟩, 3), (⟨TIN_RGN_LDWR 2, 0, 64⟩, 1), (YOK_CTL_ENABLE, 1), (YOK_STS_TWIN, 2)] with fresh := 0 }, 35, wCmd 0xC200 [2, 1, 0, 1, 100, 0, 0, 0, 128] [], by decide +kernel⟩

theorem wit_RegionCommandsCommitTheirChangesAndAnswerWhenTheyAreDone_29 : ∃ (s : State) (c : Fin 64) (m : Cmd), (s.askedAt c 0xC200 m 2) ∧ (s.on TIN_RGN_STATUS_BUSY = false) ∧ (m.byte 1 ≤ 2) ∧ (m.byte 2 = 0) ∧ (m.byte 3 ≤ 1) ∧ (m.num 4 4 ≤ 1023) ∧ (m.num 8 4 ≤ 131071) ∧ (m.kind ≠ 4) :=
  ⟨{ wAsk 0xC200 [2, 1, 0, 1, 100, 0, 0, 0, 128] [] [] with fresh := 0, cs := { stage := [(35, 2)] } }, 35, wCmd 0xC200 [2, 1, 0, 1, 100, 0, 0, 0, 128] [], by decide +kernel⟩

theorem wit_RegionCommandsCommitTheirChangesAndAnswerWhenTheyAreDone_30 : ∃ (s : State) (c : Fin 64) (m : Cmd), (s.asked c 0xC200 m .a true [0] false [(0, 12)]) ∧ (m.byte 1 ≤ 2) ∧ (m.byte 2 = 1) ∧ (m.byte 3 ≤ 1) ∧ (m.num 4 4 ≤ 1023) ∧ (m.num 8 4 ≤ 131071) ∧ (m.kind = 4) ∧ (s.on TIN_RGN_STATUS_BUSY = false) ∧ (s.rgnSeen m (m.byte 0) = true) ∧ (s.rgnValid (m.byte 0) = true) ∧ (m.byte 1 = s.rgnClass (m.byte 0)) :=
  ⟨(wAskT 0xC200 [2, 0, 1, 1, 100] [(TIN_DPA_LIMIT_CAP_GIB, 16), (TIN_WORLD_LOCK_LOCK, 1), (⟨CPH_RSLOT 3, 0, 64⟩, 0x8000000000000000), (⟨TIN_RGN_ATTR 2, 0, 32⟩, 0x80000300), (⟨TIN_RGN_EXT 2, 0, 64⟩, 0x10002), (⟨TIN_RGN_LDRD 2, 0, 64⟩, 3), (⟨TIN_RGN_LDWR 2, 0, 64⟩, 1)]), 56, wCmdT 0xC200 [2, 0, 1, 1, 100], by decide +kernel⟩

theorem wit_RegionCommandsCommitTheirChangesAndAnswerWhenTheyAreDone_31 : ∃ (s : State) (c : Fin 64) (m : Cmd) (op tag : Nat), (s.cs.relay = some (c.val, op, tag)) ∧ (s.isReply 56 = false) ∧ (s.cmdAt c (fun _ => true) = some m) ∧ (s.stageOf c = 3) :=
  ⟨{ wAsk 0xC200 [2, 0, 0, 1, 100, 0, 0, 0, 128] [] [] with cs := { relay := some (35, 0xC200, 9), stage := [(35, 3)] } }, 35, wCmd 0xC200 [2, 0, 0, 1, 100, 0, 0, 0, 128] [], 0xC200, 9, by decide +kernel⟩

theorem wit_RegionCommandsCommitTheirChangesAndAnswerWhenTheyAreDone_32 : ∃ (s : State) (c : Fin 64) (m : Cmd) (op tag : Nat), (s.cs.relay = some (c.val, op, tag)) ∧ (s.isReply 56 = false) ∧ (s.cmdAt c (fun _ => true) = some m) ∧ (s.stageOf c = 1) :=
  ⟨{ wAsk 0xC200 [2, 1, 0, 1, 100, 0, 0, 0, 128] [] [] with cs := { relay := some (35, 0xC200, 9), stage := [(35, 1)] } }, 35, wCmd 0xC200 [2, 1, 0, 1, 100, 0, 0, 0, 128] [], 0xC200, 9, by decide +kernel⟩

theorem wit_RegionCommandsCommitTheirChangesAndAnswerWhenTheyAreDone_33 : ∃ (s : State), (s.cs.relay = none) :=
  ⟨wSt [], by decide +kernel⟩

theorem wit_RegionCommandsCommitTheirChangesAndAnswerWhenTheyAreDone_34 : ∃ (s : State) (c : Fin 64) (m : Cmd), (s.asked c 0xC201 m .a false [0] false [(0, 2), (4, 8)]) ∧ (m.byte 1 ≤ 7 ∨ 248 ≤ m.byte 1) ∧ (m.num 4 4 ≤ 131071) ∧ (m.num 8 4 ≤ 131071) ∧ (s.rgnSeen m (m.byte 0) = true) ∧ (s.rgnValid (m.byte 0) = true) ∧ (s.polBad (m.byte 0) (m.num 4 4 + m.num 8 4 * 2 ^ 17 + m.byte 1 % 16 * 2 ^ 34) = false) :=
  ⟨{ wAsk 0xC201 [2, 250, 0, 0, 0] [] [(TIN_DPA_LIMIT_CAP_GIB, 16), (TIN_WORLD_LOCK_LOCK, 1), (⟨CPH_RSLOT 3, 0, 64⟩, 0x8000000000000000), (⟨TIN_RGN_ATTR 2, 0, 32⟩, 0x80000300), (⟨TIN_RGN_EXT 2, 0, 64⟩, 0x10002), (⟨TIN_RGN_LDRD 2, 0, 64⟩, 3), (⟨TIN_RGN_LDWR 2, 0, 64⟩, 1)] with fresh := 0 }, 35, wCmd 0xC201 [2, 250, 0, 0, 0] [], by decide +kernel⟩

theorem wit_RegionCommandsCommitTheirChangesAndAnswerWhenTheyAreDone_35 : ∃ (s : State) (c : Fin 64) (m : Cmd), (s.asked c 0xC201 m .a false [0] false [(0, 2), (4, 8)]) ∧ (m.byte 1 ≤ 7 ∨ 248 ≤ m.byte 1) ∧ (m.num 4 4 ≤ 131071) ∧ (m.num 8 4 ≤ 131071) ∧ (s.rgnSeen m (m.byte 0) = true) ∧ (s.rgnValid (m.byte 0) = true) ∧ (s.polBad (m.byte 0) (m.num 4 4 + m.num 8 4 * 2 ^ 17 + m.byte 1 % 16 * 2 ^ 34) = true) :=
  ⟨{ wAsk 0xC201 [2, 250, 0, 0, 5, 0, 0, 0, 2] [] [(TIN_DPA_LIMIT_CAP_GIB, 16), (TIN_WORLD_LOCK_LOCK, 1), (⟨CPH_RSLOT 3, 0, 64⟩, 0x8000000000000000), (⟨TIN_RGN_ATTR 2, 0, 32⟩, 0x80000300), (⟨TIN_RGN_EXT 2, 0, 64⟩, 0x10002), (⟨TIN_RGN_LDRD 2, 0, 64⟩, 3), (⟨TIN_RGN_LDWR 2, 0, 64⟩, 1)] with fresh := 0 }, 35, wCmd 0xC201 [2, 250, 0, 0, 5, 0, 0, 0, 2] [], by decide +kernel⟩

theorem wit_RegionCommandsCommitTheirChangesAndAnswerWhenTheyAreDone_36 : ∃ (s : State) (c : Fin 64) (m : Cmd), (s.asked c 0xC201 m .a false [0] false [(0, 2), (4, 8)]) ∧ (m.byte 1 ≤ 7 ∨ 248 ≤ m.byte 1) ∧ (m.num 4 4 ≤ 131071) ∧ (m.num 8 4 ≤ 131071) ∧ ((s.rgnSeen m (m.byte 0) && s.rgnValid (m.byte 0)) = false) :=
  ⟨{ wAsk 0xC201 [2] [] [] with fresh := 0 }, 35, wCmd 0xC201 [2] [], by decide +kernel⟩

theorem wit_RegionCommandsCommitTheirChangesAndAnswerWhenTheyAreDone_37 : ∃ (s : State) (c : Fin 64) (m : Cmd), (s.asked c 0xC201 m .a false [0] false [(0, 2), (4, 8)]) ∧ ((7 < m.byte 1 ∧ m.byte 1 < 248) ∨ 131071 < m.num 4 4 ∨ 131071 < m.num 8 4) :=
  ⟨{ wAsk 0xC201 [2, 9] [] [] with fresh := 0 }, 35, wCmd 0xC201 [2, 9] [], by decide +kernel⟩

theorem wit_RegionCommandsCommitTheirChangesAndAnswerWhenTheyAreDone_38 : ∃ (s : State) (c : Fin 64) (m : Cmd), (s.asked c 0xC202 m .a false [0] false [(0, 1), (8, 16)]) ∧ (s.bgRuns c = false) ∧ (m.byte 0 = 1 ∨ m.byte 0 = 2) ∧ (m.num 8 8 < 2 ^ 34) ∧ (0 < m.num 16 8) ∧ (m.num 16 8 ≤ 2 ^ 34) ∧ (s.on WIN_PIN_CTL_BUSY = false) ∧ ((match s.rgnOfPage (m.num 8 8) with | none => true | some r => s.rgnSecure r == m.world) = true) ∧ (((((s.wr WIN_PIN_BASE_PAGE (m.num 8 8)).wr WIN_PIN_LEN_PAGES (m.num 16 8)).wr WIN_PIN_CTL_OP (m.byte 0)).pinCheck (m.byte 0 == 1) (m.num 8 8) (m.num 16 8)) = 0) :=
  ⟨{ wAsk 0xC202 [2, 0, 0, 0, 0, 0, 0, 0, 9, 0, 8, 0, 0, 0, 0, 0, 3] [] [(TIN_DPA_LIMIT_CAP_GIB, 16), (TIN_WORLD_LOCK_LOCK, 1), (⟨CPH_RSLOT 3, 0, 64⟩, 0x8000000000000000), (⟨TIN_RGN_ATTR 2, 0, 32⟩, 0x80000300), (⟨TIN_RGN_EXT 2, 0, 64⟩, 0x10002), (⟨TIN_RGN_LDRD 2, 0, 64⟩, 3), (⟨TIN_RGN_LDWR 2, 0, 64⟩, 1)] with fresh := 0 }, 35, wCmd 0xC202 [2, 0, 0, 0, 0, 0, 0, 0, 9, 0, 8, 0, 0, 0, 0, 0, 3] [], by decide +kernel⟩

theorem wit_RegionCommandsCommitTheirChangesAndAnswerWhenTheyAreDone_39 : ∃ (s : State) (c : Fin 64) (m : Cmd), (s.asked c 0xC202 m .a false [0] false [(0, 1), (8, 16)]) ∧ (s.bgRuns c = false) ∧ (m.byte 0 = 1 ∨ m.byte 0 = 2) ∧ (m.num 8 8 < 2 ^ 34) ∧ (0 < m.num 16 8) ∧ (m.num 16 8 ≤ 2 ^ 34) ∧ (s.on WIN_PIN_CTL_BUSY = false) ∧ ((match s.rgnOfPage (m.num 8 8) with | none => true | some r => s.rgnSecure r == m.world) = true) ∧ (((((s.wr WIN_PIN_BASE_PAGE (m.num 8 8)).wr WIN_PIN_LEN_PAGES (m.num 16 8)).wr WIN_PIN_CTL_OP (m.byte 0)).pinCheck (m.byte 0 == 1) (m.num 8 8) (m.num 16 8)) = 2) :=
  ⟨{ wAsk 0xC202 [2, 0, 0, 0, 0, 0, 0, 0, 9, 0, 8, 0, 0, 0, 0, 0, 3] [] [] with fresh := 0 }, 35, wCmd 0xC202 [2, 0, 0, 0, 0, 0, 0, 0, 9, 0, 8, 0, 0, 0, 0, 0, 3] [], by decide +kernel⟩

theorem wit_RegionCommandsCommitTheirChangesAndAnswerWhenTheyAreDone_40 : ∃ (s : State) (c : Fin 64) (m : Cmd), (s.asked c 0xC202 m .a false [0] false [(0, 1), (8, 16)]) ∧ (s.bgRuns c = false) ∧ (m.byte 0 = 0 ∨ 2 < m.byte 0 ∨ 2 ^ 34 ≤ m.num 8 8 ∨ m.num 16 8 = 0 ∨ 2 ^ 34 < m.num 16 8) :=
  ⟨{ wAsk 0xC202 [1] [] [] with fresh := 0 }, 35, wCmd 0xC202 [1] [], by decide +kernel⟩

theorem wit_KeyAndSessionCommandsActOnTheSlotsOfTheRequestersWorld_1 : ∃ (s : State) (c : Fin 64) (m : Cmd), (s.asked c 0xC300 m .a false [32, 60] false [(0, 8)]) ∧ (m.byte 0 = 0) ∧ (m.d.length = 32) ∧ (m.num 1 7 = 0) ∧ (s.sessions m.world = []) ∧ (s.loadResult m.core 3 ((sessionSlots m.world).headD 0) (BitVec.ofNat 512 (ofBytes m.d) : Key) = 0) :=
  ⟨{ wAsk 0xC300 [] (List.replicate 32 1) [(⟨CPH_STS, 0, 32⟩, 0x10012420), (CPH_PFSLOT_FW_LOADED, 32)] with fresh := 0 }, 35, wCmd 0xC300 [] (List.replicate 32 1), by decide +kernel⟩

theorem wit_KeyAndSessionCommandsActOnTheSlotsOfTheRequestersWorld_2 : ∃ (s : State) (c : Fin 64) (m : Cmd), (s.asked c 0xC300 m .a false [32, 60] false [(0, 8)]) ∧ (m.byte 0 = 0) ∧ (m.d.length = 32) ∧ (m.num 1 7 = 0) ∧ (s.sessions m.world ≠ []) :=
  ⟨{ wAsk 0xC300 [] (List.replicate 32 1) [(⟨CPH_STS, 0, 32⟩, 0x10012420), (CPH_PFSLOT_FW_LOADED, 256)] with fresh := 0 }, 35, wCmd 0xC300 [] (List.replicate 32 1), by decide +kernel⟩

theorem wit_KeyAndSessionCommandsActOnTheSlotsOfTheRequestersWorld_3 : ∃ (s : State) (c : Fin 64) (m : Cmd), (s.asked c 0xC300 m .a false [32, 60] false [(0, 8)]) ∧ (m.byte 0 ≤ 1) ∧ (m.d.length ≠ (if m.byte 0 = 1 then 60 else 32)) :=
  ⟨{ wAsk 0xC300 [] (List.replicate 60 1) [] with fresh := 0 }, 35, wCmd 0xC300 [] (List.replicate 60 1), by decide +kernel⟩

theorem wit_KeyAndSessionCommandsActOnTheSlotsOfTheRequestersWorld_4 : ∃ (s : State) (c : Fin 64) (m : Cmd), (s.asked c 0xC300 m .a false [32, 60] false [(0, 8)]) ∧ (1 < m.byte 0) :=
  ⟨{ wAsk 0xC300 [2] (List.replicate 60 1) [] with fresh := 0 }, 35, wCmd 0xC300 [2] (List.replicate 60 1), by decide +kernel⟩

theorem wit_KeyAndSessionCommandsActOnTheSlotsOfTheRequestersWorld_5 : ∃ (s : State) (c : Fin 64) (m : Cmd), (s.asked c 0xC300 m .a false [32, 60] false [(0, 8)]) ∧ (m.byte 0 = 1) ∧ (m.d.length = 60) ∧ (m.num 2 6 = 0) ∧ ((s.sessions m.world).contains (m.byte 1) = false) :=
  ⟨{ wAsk 0xC300 [1, 9] (List.replicate 60 1) [] with fresh := 0 }, 35, wCmd 0xC300 [1, 9] (List.replicate 60 1), by decide +kernel⟩

theorem wit_KeyAndSessionCommandsActOnTheSlotsOfTheRequestersWorld_6 : ∃ (s : State) (c : Fin 64) (m : Cmd), (s.asked c 0xC301 m .a false [0] false [(0, 1)]) ∧ ((s.sessions m.world).contains (m.byte 0) = true) ∧ (s.agentSecure m.core = true ∨ 8 ≤ m.byte 0) :=
  ⟨{ wAsk 0xC301 [9] [] [(⟨CPH_STS, 0, 32⟩, 0x10012420), (CPH_PFSLOT_FW_LOADED, 512)] with fresh := 0 }, 35, wCmd 0xC301 [9] [], by decide +kernel⟩

theorem wit_KeyAndSessionCommandsActOnTheSlotsOfTheRequestersWorld_7 : ∃ (s : State) (c : Fin 64) (m : Cmd), (s.asked c 0xC301 m .a false [0] false [(0, 1)]) ∧ ((s.sessions m.world).contains (m.byte 0) = false) :=
  ⟨{ wAsk 0xC301 [9] [] [] with fresh := 0 }, 35, wCmd 0xC301 [9] [], by decide +kernel⟩

theorem wit_KeyAndSessionCommandsActOnTheSlotsOfTheRequestersWorld_8 : ∃ (s : State) (c : Fin 64) (m : Cmd), (s.asked c 0xC302 m .a false [60, 92] false [(0, 8)]) ∧ (m.byte 0 = 0) ∧ (m.d.length = 92) ∧ (m.num 4 4 = 0) ∧ (m.num 2 2 < 256) ∧ (s.slotSeen m (m.num 2 2) = true) :=
  ⟨{ wAsk 0xC302 [0, 8, 9] ((List.replicate 76 1) ++ List.replicate 16 0) [(⟨CPH_STS, 0, 32⟩, 0x10012420), (CPH_PFSLOT_FW_LOADED, 256)] with fresh := 0 }, 35, wCmd 0xC302 [0, 8, 9] ((List.replicate 76 1) ++ List.replicate 16 0), by decide +kernel⟩

theorem wit_KeyAndSessionCommandsActOnTheSlotsOfTheRequestersWorld_9 : ∃ (s : State) (c : Fin 64) (m : Cmd), (s.asked c 0xC302 m .a false [60, 92] false [(0, 8)]) ∧ (m.byte 0 = 1) ∧ (m.d.length = 60) ∧ (m.num 4 4 = 0) ∧ (m.num 2 2 < 4096) :=
  ⟨{ wAsk 0xC302 [1, 8, 9] ((List.replicate 44 1) ++ List.replicate 16 0) [(⟨CPH_STS, 0, 32⟩, 0x10012420), (CPH_PFSLOT_FW_LOADED, 256)] with fresh := 0 }, 35, wCmd 0xC302 [1, 8, 9] ((List.replicate 44 1) ++ List.replicate 16 0), by decide +kernel⟩

theorem wit_KeyAndSessionCommandsActOnTheSlotsOfTheRequestersWorld_10 : ∃ (s : State) (c : Fin 64) (m : Cmd), (s.asked c 0xC302 m .a false [60, 92] false [(0, 8)]) ∧ (m.byte 0 = 0) ∧ (m.d.length = 92) ∧ (m.num 4 4 = 0) ∧ (m.num 2 2 < 256) ∧ (s.slotSeen m (m.num 2 2) = false) :=
  ⟨{ wAsk 0xC302 [0, 8, 9] (List.replicate 92 1) [(TIN_WORLD_KEYS_S_SLOTS, 64)] with fresh := 0 }, 35, wCmd 0xC302 [0, 8, 9] (List.replicate 92 1), by decide +kernel⟩

theorem wit_KeyAndSessionCommandsActOnTheSlotsOfTheRequestersWorld_11 : ∃ (s : State) (c : Fin 64) (m : Cmd), (s.asked c 0xC302 m .a false [60, 92] false [(0, 8)]) ∧ (2 < m.byte 0) :=
  ⟨{ wAsk 0xC302 [3] (List.replicate 92 1) [] with fresh := 0 }, 35, wCmd 0xC302 [3] (List.replicate 92 1), by decide +kernel⟩

theorem wit_KeyAndSessionCommandsActOnTheSlotsOfTheRequestersWorld_12 : ∃ (s : State) (c : Fin 64) (m : Cmd), (s.asked c 0xC303 m .a false [0] false [(0, 4)]) ∧ (m.byte 0 = 0) ∧ (m.byte 1 = 0) ∧ (m.num 2 2 < 256) ∧ (s.slotSeen m (m.num 2 2) = true) ∧ (s.agentSecure m.core = true ∨ s.slotSecure (m.num 2 2) = false) :=
  ⟨{ wAsk 0xC303 [0, 0, 9] [] [] with fresh := 0, cph := { rkey := [(9, 77)] } }, 35, wCmd 0xC303 [0, 0, 9] [], by decide +kernel⟩

theorem wit_KeyAndSessionCommandsActOnTheSlotsOfTheRequestersWorld_13 : ∃ (s : State) (c : Fin 64) (m : Cmd), (s.asked c 0xC303 m .a false [0] false [(0, 4)]) ∧ (m.byte 0 = 0) ∧ (m.byte 1 = 1) ∧ (m.num 2 2 < 256) ∧ (s.slotSeen m (m.num 2 2) = true) ∧ (s.slotNamed (m.num 2 2) = 0) :=
  ⟨{ wAsk 0xC303 [0, 1, 9] [] [] with fresh := 0, cph := { rkey := [(9, 77)] } }, 35, wCmd 0xC303 [0, 1, 9] [], by decide +kernel⟩

theorem wit_KeyAndSessionCommandsActOnTheSlotsOfTheRequestersWorld_14 : ∃ (s : State) (c : Fin 64) (m : Cmd), (s.asked c 0xC303 m .a false [0] false [(0, 4)]) ∧ (m.byte 0 = 0) ∧ (m.byte 1 = 1) ∧ (m.num 2 2 < 256) ∧ (s.slotSeen m (m.num 2 2) = true) ∧ (s.slotNamed (m.num 2 2) ≠ 0) :=
  ⟨{ wAsk 0xC303 [0, 1, 3] [] [(TIN_DPA_LIMIT_CAP_GIB, 16), (TIN_WORLD_LOCK_LOCK, 1), (⟨CPH_RSLOT 3, 0, 64⟩, 0x8000000000000000), (⟨TIN_RGN_ATTR 2, 0, 32⟩, 0x80000300), (⟨TIN_RGN_EXT 2, 0, 64⟩, 0x10002), (⟨TIN_RGN_LDRD 2, 0, 64⟩, 3), (⟨TIN_RGN_LDWR 2, 0, 64⟩, 1)] with fresh := 0 }, 35, wCmd 0xC303 [0, 1, 3] [], by decide +kernel⟩

theorem wit_KeyAndSessionCommandsActOnTheSlotsOfTheRequestersWorld_15 : ∃ (s : State) (c : Fin 64) (m : Cmd), (s.asked c 0xC303 m .a false [0] false [(0, 4)]) ∧ (m.byte 0 = 1) ∧ (m.byte 1 = 0) ∧ (m.num 2 2 < 4096) ∧ (s.connSeen m (m.num 2 2) = true) :=
  ⟨{ wAsk 0xC303 [1, 0, 9] [] [] with fresh := 0, dl := { conns := [(9, { state := 2, desc := 0x500 })] } }, 35, wCmd 0xC303 [1, 0, 9] [], by decide +kernel⟩

theorem wit_KeyAndSessionCommandsActOnTheSlotsOfTheRequestersWorld_16 : ∃ (s : State) (c : Fin 64) (m : Cmd), (s.asked c 0xC303 m .a false [0] false [(0, 4)]) ∧ (m.byte 0 = 2) ∧ (m.byte 1 = 0) ∧ (s.on YOK_CTL_ENABLE = true) :=
  ⟨{ wAsk 0xC303 [2] [] [(YOK_CTL_ENABLE, 1)] with fresh := 0 }, 35, wCmd 0xC303 [2] [], by decide +kernel⟩

theorem wit_KeyAndSessionCommandsActOnTheSlotsOfTheRequestersWorld_17 : ∃ (s : State) (c : Fin 64) (m : Cmd), (s.asked c 0xC303 m .a false [0] false [(0, 4)]) ∧ (m.byte 0 = 3) ∧ (m.byte 1 = 0) ∧ (m.num 2 2 < 16) ∧ ((s.sessions m.world).contains (m.num 2 2) = false) :=
  ⟨{ wAsk 0xC303 [3, 0, 9] [] [] with fresh := 0 }, 35, wCmd 0xC303 [3, 0, 9] [], by decide +kernel⟩

theorem wit_KeyAndSessionCommandsActOnTheSlotsOfTheRequestersWorld_18 : ∃ (s : State) (c : Fin 64) (m : Cmd), (s.asked c 0xC303 m .a false [0] false [(0, 4)]) ∧ (3 < m.byte 0 ∨ 1 < m.byte 1 ∨ m.byte 1 = 1 ∧ m.byte 0 ≠ 0) :=
  ⟨{ wAsk 0xC303 [1, 1] [] [] with fresh := 0 }, 35, wCmd 0xC303 [1, 1] [], by decide +kernel⟩

theorem wit_KeyAndSessionCommandsActOnTheSlotsOfTheRequestersWorld_19 : ∃ (s : State) (c : Fin 64) (m : Cmd), (s.asked c 0xC304 m .q false [0] false [(0, 1), (2, 2)]) ∧ (m.byte 0 = 0) ∧ (m.num 2 2 < 256) ∧ (s.slotSeen m (m.num 2 2) = true) ∧ (s.mayQuerySlot m (m.num 2 2) = true) :=
  ⟨{ wAsk 0xC304 [0, 0, 3] [] [(TIN_DPA_LIMIT_CAP_GIB, 16), (TIN_WORLD_LOCK_LOCK, 1), (⟨CPH_RSLOT 3, 0, 64⟩, 0x8000000000000000), (⟨TIN_RGN_ATTR 2, 0, 32⟩, 0x80000300), (⟨TIN_RGN_EXT 2, 0, 64⟩, 0x10002), (⟨TIN_RGN_LDRD 2, 0, 64⟩, 3), (⟨TIN_RGN_LDWR 2, 0, 64⟩, 1)] with fresh := 0 }, 35, wCmd 0xC304 [0, 0, 3] [], by decide +kernel⟩

theorem wit_KeyAndSessionCommandsActOnTheSlotsOfTheRequestersWorld_20 : ∃ (s : State) (c : Fin 64) (m : Cmd), (s.asked c 0xC304 m .q false [0] false [(0, 1), (2, 2)]) ∧ (m.byte 0 = 1) ∧ (m.num 2 2 < 4096) ∧ (m.isA = true) ∧ (s.connHidden m (m.num 2 2) = false) :=
  ⟨{ wAsk 0xC304 [1, 0, 9] [] [(CPH_CUSED_BITS 0, 512)] with fresh := 0 }, 35, wCmd 0xC304 [1, 0, 9] [], by decide +kernel⟩

theorem wit_KeyAndSessionCommandsActOnTheSlotsOfTheRequestersWorld_21 : ∃ (s : State) (c : Fin 64) (m : Cmd), (s.asked c 0xC304 m .q false [0] false [(0, 1), (2, 2)]) ∧ (m.byte 0 = 0) ∧ (m.num 2 2 < 256) ∧ (s.slotSeen m (m.num 2 2) = false) :=
  ⟨{ wAsk 0xC304 [0, 0, 9] [] [(TIN_WORLD_KEYS_S_SLOTS, 64)] with fresh := 0 }, 35, wCmd 0xC304 [0, 0, 9] [], by decide +kernel⟩

theorem wit_KeyAndSessionCommandsActOnTheSlotsOfTheRequestersWorld_22 : ∃ (s : State) (c : Fin 64) (m : Cmd), (s.asked c 0xC304 m .q false [0] false [(0, 1), (2, 2)]) ∧ (3 < m.byte 0) :=
  ⟨{ wAsk 0xC304 [4] [] [] with fresh := 0 }, 35, wCmd 0xC304 [4] [], by decide +kernel⟩

theorem wit_KeyAndSessionCommandsActOnTheSlotsOfTheRequestersWorld_23 : ∃ (s : State) (c : Fin 64) (m : Cmd), (s.asked c 0xC900 m .a false [0] false [(0, 1), (2, 6)]) ∧ (s.bgRuns c = false) ∧ (m.byte 0 = 1) ∧ (m.num 4 4 = 0x5A544E53) ∧ (m.num 2 2 < 256) ∧ (s.slotSeen m (m.num 2 2) = true) ∧ ((s.slotRegions (m.num 2 2)).all s.rgnLocal = true) :=
  ⟨{ wAsk 0xC900 [1, 0, 3, 0, 0x53, 0x4E, 0x54, 0x5A] [] [(TIN_DPA_LIMIT_CAP_GIB, 16), (TIN_WORLD_LOCK_LOCK, 1), (⟨CPH_RSLOT 3, 0, 64⟩, 0x8000000000000000), (⟨TIN_RGN_ATTR 2, 0, 32⟩, 0x80000300), (⟨TIN_RGN_EXT 2, 0, 64⟩, 0x10002), (⟨TIN_RGN_LDRD 2, 0, 64⟩, 3), (⟨TIN_RGN_LDWR 2, 0, 64⟩, 1)] with fresh := 0 }, 35, wCmd 0xC900 [1, 0, 3, 0, 0x53, 0x4E, 0x54, 0x5A] [], by decide +kernel⟩

theorem wit_KeyAndSessionCommandsActOnTheSlotsOfTheRequestersWorld_24 : ∃ (s : State) (c : Fin 64) (m : Cmd), (s.asked c 0xC900 m .a false [0] false [(0, 1), (2, 6)]) ∧ (s.bgRuns c = false) ∧ (m.byte 0 = 1) ∧ (m.num 4 4 = 0x5A544E53) ∧ (m.num 2 2 < 256) ∧ (s.slotSeen m (m.num 2 2) = true) ∧ ((s.slotRegions (m.num 2 2)).all s.rgnLocal = false) :=
  ⟨{ wAsk 0xC900 [1, 0, 3, 0, 0x53, 0x4E, 0x54, 0x5A] [] [(TIN_DPA_LIMIT_CAP_GIB, 16), (TIN_WORLD_LOCK_LOCK, 1), (⟨CPH_RSLOT 3, 0, 64⟩, 0x8000000000000000), (⟨TIN_RGN_ATTR 2, 0, 32⟩, 0x80000300), (⟨TIN_RGN_EXT 2, 0, 64⟩, 0x10002), (⟨TIN_RGN_LDRD 2, 0, 64⟩, 3), (⟨TIN_RGN_LDWR 2, 0, 64⟩, 1), (YOK_RGN_STATE 2, 2)] with fresh := 0 }, 35, wCmd 0xC900 [1, 0, 3, 0, 0x53, 0x4E, 0x54, 0x5A] [], by decide +kernel⟩

theorem wit_KeyAndSessionCommandsActOnTheSlotsOfTheRequestersWorld_25 : ∃ (s : State) (c : Fin 64) (m : Cmd), (s.asked c 0xC900 m .a false [0] false [(0, 1), (2, 6)]) ∧ (s.bgRuns c = false) ∧ (m.byte 0 ≠ 1 ∨ m.num 4 4 ≠ 0x5A544E53 ∨ 256 ≤ m.num 2 2) :=
  ⟨{ wAsk 0xC900 [1, 0, 3, 0, 0x53, 0x4E, 0x54, 0x5B] [] [] with fresh := 0 }, 35, wCmd 0xC900 [1, 0, 3, 0, 0x53, 0x4E, 0x54, 0x5B] [], by decide +kernel⟩

theorem wit_KeyAndSessionCommandsActOnTheSlotsOfTheRequestersWorld_26 : ∃ (s : State) (c : Fin 64) (k r : Nat) (b : BgCmd), ((s.cmdAt c fun o => o == 0xC900) = none) ∧ (s.bgOf c = some b) ∧ (b.job = .sanitise k) ∧ (b.done = false) ∧ (s.on TIN_RGN_STATUS_BUSY = false) ∧ ((s.slotRegions k).find? (fun r => s.rgnValid r) = some r) ∧ (s.destroyResult (s.agentSecure (coreAgent (s.rd (MBX_CH_CTL_CORE c)))) r = 0) :=
  ⟨{ wOn [] [(TIN_DPA_LIMIT_CAP_GIB, 16), (TIN_WORLD_LOCK_LOCK, 1), (⟨CPH_RSLOT 3, 0, 64⟩, 0x8000000000000000), (⟨TIN_RGN_ATTR 2, 0, 32⟩, 0x80000300), (⟨TIN_RGN_EXT 2, 0, 64⟩, 0x10002), (⟨TIN_RGN_LDRD 2, 0, 64⟩, 3), (⟨TIN_RGN_LDWR 2, 0, 64⟩, 1), (⟨MBX_CH_CTL 35, 0, 32⟩, 0)] with cs := { bg := [(35, { op := 0xC900, job := .sanitise 3 })] } }, 35, 3, 2, { op := 0xC900, job := .sanitise 3 }, by decide +kernel⟩

theorem wit_KeyAndSessionCommandsActOnTheSlotsOfTheRequestersWorld_27 : ∃ (s : State) (c : Fin 64) (k : Fin 256) (b : BgCmd), ((s.cmdAt c fun o => o == 0xC900) = none) ∧ (s.bgOf c = some b) ∧ (b.job = .sanitise k) ∧ (b.done = false) ∧ (s.on TIN_RGN_STATUS_BUSY = false) ∧ (s.slotRegions k = []) :=
  ⟨{ wOn [] [(CPH_RSLOT_LOADED 3, 1), (⟨MBX_CH_CTL 35, 0, 32⟩, 0)] with cph := { rkey := [(3, 8)] }, cs := { bg := [(35, { op := 0xC900, job := .sanitise 3 })] } }, 35, 3, { op := 0xC900, job := .sanitise 3 }, by decide +kernel⟩

theorem wit_PairingAndMirroringCommandsAreCarriedOutStepByStep_1 : ∃ (s : State) (c : Fin 64) (m : Cmd), (s.asked c 0xC400 m .a false [128, 256] false [(0, 2), (8, 16)]) ∧ (m.byte 0 = 0) ∧ (m.byte 1 ≤ 1) ∧ (m.d.length = 128 * (m.byte 1 + 1)) ∧ (s.pairsFree = true) ∧ (s.on YOK_CTL_ENABLE = false) :=
  ⟨{ wAsk 0xC400 [0, 1, 0, 0, 0, 0, 0, 0, 7] (List.replicate 256 0) [] with fresh := 0 }, 35, wCmd 0xC400 [0, 1, 0, 0, 0, 0, 0, 0, 7] (List.replicate 256 0), by decide +kernel⟩

theorem wit_PairingAndMirroringCommandsAreCarriedOutStepByStep_2 : ∃ (s : State) (c : Fin 64) (m : Cmd), (s.asked c 0xC400 m .a false [128, 256] false [(0, 2), (8, 16)]) ∧ (m.byte 0 ≤ 1) ∧ (m.byte 1 ≤ 1) ∧ (m.d.length = 128 * (m.byte 1 + 1)) ∧ (m.byte 1 ≠ s.rd YOK_CTL_PAIRS) ∧ (s.pairsFree = false) :=
  ⟨{ wAsk 0xC400 [0, 1] (List.replicate 256 0) [(YOK_RGN_STATE 3, 2)] with fresh := 0 }, 35, wCmd 0xC400 [0, 1] (List.replicate 256 0), by decide +kernel⟩

theorem wit_PairingAndMirroringCommandsAreCarriedOutStepByStep_3 : ∃ (s : State) (c : Fin 64) (m : Cmd), (s.asked c 0xC400 m .a false [128, 256] false [(0, 2), (8, 16)]) ∧ (m.byte 0 = 1) ∧ (m.byte 1 ≤ 1) ∧ (m.d.length = 128 * (m.byte 1 + 1)) ∧ (s.pairsFree = true) ∧ (s.pairKeyed = false) :=
  ⟨{ wAsk 0xC400 [1, 1] (List.replicate 256 0) [] with fresh := 0 }, 35, wCmd 0xC400 [1, 1] (List.replicate 256 0), by decide +kernel⟩

theorem wit_PairingAndMirroringCommandsAreCarriedOutStepByStep_4 : ∃ (s : State) (c : Fin 64) (m : Cmd), (s.asked c 0xC400 m .a false [128, 256] false [(0, 2), (8, 16)]) ∧ (1 < m.byte 0) ∧ (m.byte 1 ≤ 1) ∧ (m.d.length = 128 * (m.byte 1 + 1)) :=
  ⟨{ wAsk 0xC400 [2, 1] (List.replicate 256 0) [] with fresh := 0 }, 35, wCmd 0xC400 [2, 1] (List.replicate 256 0), by decide +kernel⟩

theorem wit_PairingAndMirroringCommandsAreCarriedOutStepByStep_5 : ∃ (s : State) (c : Fin 64) (m : Cmd), (s.asked c 0xC401 m .a false [0] false [(0, 1), (8, 48)]) ∧ (s.rgnSeen m (m.byte 0) = true) ∧ (s.rgnValid (m.byte 0) = true) ∧ (s.twinUp = true) ∧ (s.rd (YOK_RGN_ROLE (m.byte 0)) = 0) ∧ (s.rd (YOK_RGN_STATE (m.byte 0)) = 2) ∧ (s.on TIN_RGN_STATUS_BUSY = false) ∧ (((s.rgnLoad (m.byte 0)).stageMasks (m.num 40 8) 0 (m.num 48 8) 0).commitResult (s.cmdSecure m) (m.byte 0) = 0) :=
  ⟨{ wAsk 0xC401 [2] [] [(TIN_DPA_LIMIT_CAP_GIB, 16), (TIN_WORLD_LOCK_LOCK, 1), (⟨CPH_RSLOT 3, 0, 64⟩, 0x8000000000000000), (⟨TIN_RGN_ATTR 2, 0, 32⟩, 0x80000300), (⟨TIN_RGN_EXT 2, 0, 64⟩, 0x10002), (⟨TIN_RGN_LDRD 2, 0, 64⟩, 3), (⟨TIN_RGN_LDWR 2, 0, 64⟩, 1), (YOK_STS_TWIN, 2), (⟨YOK_RGN 2, 0, 64⟩, 0x4000000700000000)] with fresh := 0 }, 35, wCmd 0xC401 [2] [], by decide +kernel⟩

theorem wit_PairingAndMirroringCommandsAreCarriedOutStepByStep_6 : ∃ (s : State) (c : Fin 64) (m : Cmd), (s.askedAt c 0xC401 m 1) ∧ (s.on TIN_RGN_STATUS_BUSY = false) ∧ (s.twinUp = true) ∧ (s.rd (YOK_RGN_STATE (m.byte 0)) = 2) :=
  ⟨{ wAsk 0xC401 [2] [] [(TIN_DPA_LIMIT_CAP_GIB, 16), (TIN_WORLD_LOCK_LOCK, 1), (⟨CPH_RSLOT 3, 0, 64⟩, 0x8000000000000000), (⟨TIN_RGN_ATTR 2, 0, 32⟩, 0x80000300), (⟨TIN_RGN_EXT 2, 0, 64⟩, 0x10002), (⟨TIN_RGN_LDRD 2, 0, 64⟩, 3), (⟨TIN_RGN_LDWR 2, 0, 64⟩, 1), (YOK_STS_TWIN, 2), (⟨YOK_RGN 2, 0, 64⟩, 0x4000000700000000)] with fresh := 0, cs := { stage := [(35, 1)] } }, 35, wCmd 0xC401 [2] [], by decide +kernel⟩

theorem wit_PairingAndMirroringCommandsAreCarriedOutStepByStep_7 : ∃ (s : State) (c : Fin 64) (m : Cmd), (s.askedAt c 0xC401 m 2) ∧ (s.twinUp = false) :=
  ⟨{ wAsk 0xC401 [2] [] [] with fresh := 0, cs := { stage := [(35, 2)] } }, 35, wCmd 0xC401 [2] [], by decide +kernel⟩

theorem wit_PairingAndMirroringCommandsAreCarriedOutStepByStep_8 : ∃ (s : State) (c : Fin 64) (m : Cmd), (s.asked c 0xC401 m .a false [0] false [(0, 1), (8, 48)]) ∧ (s.rgnSeen m (m.byte 0) = true) ∧ (s.rgnValid (m.byte 0) = true) ∧ (s.twinUp = false) :=
  ⟨{ wAsk 0xC401 [2] [] [(TIN_DPA_LIMIT_CAP_GIB, 16), (TIN_WORLD_LOCK_LOCK, 1), (⟨CPH_RSLOT 3, 0, 64⟩, 0x8000000000000000), (⟨TIN_RGN_ATTR 2, 0, 32⟩, 0x80000300), (⟨TIN_RGN_EXT 2, 0, 64⟩, 0x10002), (⟨TIN_RGN_LDRD 2, 0, 64⟩, 3), (⟨TIN_RGN_LDWR 2, 0, 64⟩, 1)] with fresh := 0 }, 35, wCmd 0xC401 [2] [], by decide +kernel⟩

theorem wit_PairingAndMirroringCommandsAreCarriedOutStepByStep_9 : ∃ (s : State) (c : Fin 64) (m : Cmd), (s.asked c 0xC401 m .a false [0] false [(0, 1), (8, 48)]) ∧ (s.rgnSeen m (m.byte 0) = true) ∧ (s.rgnValid (m.byte 0) = true) ∧ (s.twinUp = true) ∧ (s.rd (YOK_RGN_ROLE (m.byte 0)) ≠ 0 ∨ s.rd (YOK_RGN_STATE (m.byte 0)) ≠ 2) :=
  ⟨{ wAsk 0xC401 [2] [] [(TIN_DPA_LIMIT_CAP_GIB, 16), (TIN_WORLD_LOCK_LOCK, 1), (⟨CPH_RSLOT 3, 0, 64⟩, 0x8000000000000000), (⟨TIN_RGN_ATTR 2, 0, 32⟩, 0x80000300), (⟨TIN_RGN_EXT 2, 0, 64⟩, 0x10002), (⟨TIN_RGN_LDRD 2, 0, 64⟩, 3), (⟨TIN_RGN_LDWR 2, 0, 64⟩, 1), (YOK_STS_TWIN, 2), (⟨YOK_RGN 2, 0, 64⟩, 0x6000000700000000)] with fresh := 0 }, 35, wCmd 0xC401 [2] [], by decide +kernel⟩

theorem wit_PairingAndMirroringCommandsAreCarriedOutStepByStep_10 : ∃ (s : State) (c : Fin 64) (m : Cmd), (s.asked c 0xC401 m .a false [0] false [(0, 1), (8, 48)]) ∧ ((s.rgnSeen m (m.byte 0) && s.rgnValid (m.byte 0)) = false) :=
  ⟨{ wAsk 0xC401 [2] [] [] with fresh := 0 }, 35, wCmd 0xC401 [2] [], by decide +kernel⟩

theorem wit_PairingAndMirroringCommandsAreCarriedOutStepByStep_11 : ∃ (s : State) (c : Fin 64) (m : Cmd), (s.asked c 0xC402 m .a false [0] false [(0, 1), (8, 32)]) ∧ (s.on TIN_RGN_STATUS_BUSY = false) ∧ (s.rgnSeen m (m.byte 0) = true) ∧ (s.rgnValid (m.byte 0) = true) ∧ (s.rd (YOK_RGN_STATE (m.byte 0)) ≠ 0) ∧ (s.rd (YOK_RGN_ROLE (m.byte 0)) = 1) ∧ (((s.rgnLoad (m.byte 0)).stageMasks (m.num 8 8) (m.num 16 8) (m.num 24 8) (m.num 32 8)).commitResult (s.cmdSecure m) (m.byte 0) = 0) :=
  ⟨{ wAsk 0xC402 [2, 0, 0, 0, 0, 0, 0, 0, 5, 0, 0, 0, 0, 0, 0, 0, 1] [] [(TIN_DPA_LIMIT_CAP_GIB, 16), (TIN_WORLD_LOCK_LOCK, 1), (⟨CPH_RSLOT 3, 0, 64⟩, 0x8000000000000000), (⟨TIN_RGN_ATTR 2, 0, 32⟩, 0x80000300), (⟨TIN_RGN_EXT 2, 0, 64⟩, 0x10002), (⟨TIN_RGN_LDRD 2, 0, 64⟩, 3), (⟨TIN_RGN_LDWR 2, 0, 64⟩, 1), (YOK_STS_TWIN, 2), (⟨YOK_RGN 2, 0, 64⟩, 0x5000000700000000)] with fresh := 0 }, 35, wCmd 0xC402 [2, 0, 0, 0, 0, 0, 0, 0, 5, 0, 0, 0, 0, 0, 0, 0, 1] [], by decide +kernel⟩

theorem wit_PairingAndMirroringCommandsAreCarriedOutStepByStep_12 : ∃ (s : State) (c : Fin 64) (m : Cmd), (s.asked c 0xC402 m .a false [0] false [(0, 1), (8, 32)]) ∧ (s.on TIN_RGN_STATUS_BUSY = false) ∧ (s.rgnSeen m (m.byte 0) = true) ∧ (s.rgnValid (m.byte 0) = true) ∧ (s.rd (YOK_RGN_STATE (m.byte 0)) = 0) :=
  ⟨{ wAsk 0xC402 [2, 0, 0, 0, 0, 0, 0, 0, 5, 0, 0, 0, 0, 0, 0, 0, 1] [] [(TIN_DPA_LIMIT_CAP_GIB, 16), (TIN_WORLD_LOCK_LOCK, 1), (⟨CPH_RSLOT 3, 0, 64⟩, 0x8000000000000000), (⟨TIN_RGN_ATTR 2, 0, 32⟩, 0x80000300), (⟨TIN_RGN_EXT 2, 0, 64⟩, 0x10002), (⟨TIN_RGN_LDRD 2, 0, 64⟩, 3), (⟨TIN_RGN_LDWR 2, 0, 64⟩, 1)] with fresh := 0 }, 35, wCmd 0xC402 [2, 0, 0, 0, 0, 0, 0, 0, 5, 0, 0, 0, 0, 0, 0, 0, 1] [], by decide +kernel⟩

theorem wit_PairingAndMirroringCommandsAreCarriedOutStepByStep_13 : ∃ (s : State) (c : Fin 64) (m : Cmd), (s.asked c 0xC402 m .a false [0] false [(0, 1), (8, 32)]) ∧ (s.on TIN_RGN_STATUS_BUSY = false) ∧ ((s.rgnSeen m (m.byte 0) && s.rgnValid (m.byte 0)) = false) :=
  ⟨{ wAsk 0xC402 [2, 0, 0, 0, 0, 0, 0, 0, 5, 0, 0, 0, 0, 0, 0, 0, 1] [] [] with fresh := 0 }, 35, wCmd 0xC402 [2, 0, 0, 0, 0, 0, 0, 0, 5, 0, 0, 0, 0, 0, 0, 0, 1] [], by decide +kernel⟩

theorem wit_PairingAndMirroringCommandsAreCarriedOutStepByStep_14 : ∃ (s : State) (c : Fin 64) (m : Cmd), (s.asked c 0xC403 m .a false [0] false [(0, 1)]) ∧ (s.rgnSeen m (m.byte 0) = true) ∧ (s.rgnValid (m.byte 0) = true) ∧ (s.rd (YOK_RGN_STATE (m.byte 0)) = 5) ∧ (s.still) :=
  ⟨{ wAsk 0xC403 [2] [] [(TIN_DPA_LIMIT_CAP_GIB, 16), (TIN_WORLD_LOCK_LOCK, 1), (⟨CPH_RSLOT 3, 0, 64⟩, 0x8000000000000000), (⟨TIN_RGN_ATTR 2, 0, 32⟩, 0x80000300), (⟨TIN_RGN_EXT 2, 0, 64⟩, 0x10002), (⟨TIN_RGN_LDRD 2, 0, 64⟩, 3), (⟨TIN_RGN_LDWR 2, 0, 64⟩, 1), (YOK_STS_TWIN, 2), (⟨YOK_RGN 2, 0, 64⟩, 0xA000000700000000)] with fresh := 0 }, 35, wCmd 0xC403 [2] [], by decide +kernel⟩

theorem wit_PairingAndMirroringCommandsAreCarriedOutStepByStep_15 : ∃ (s : State) (c : Fin 64) (m : Cmd), (s.asked c 0xC403 m .a false [0] false [(0, 1)]) ∧ (s.rgnSeen m (m.byte 0) = true) ∧ (s.rgnValid (m.byte 0) = true) ∧ (s.rd (YOK_RGN_STATE (m.byte 0)) = 3) :=
  ⟨{ wAsk 0xC403 [2] [] [(TIN_DPA_LIMIT_CAP_GIB, 16), (TIN_WORLD_LOCK_LOCK, 1), (⟨CPH_RSLOT 3, 0, 64⟩, 0x8000000000000000), (⟨TIN_RGN_ATTR 2, 0, 32⟩, 0x80000300), (⟨TIN_RGN_EXT 2, 0, 64⟩, 0x10002), (⟨TIN_RGN_LDRD 2, 0, 64⟩, 3), (⟨TIN_RGN_LDWR 2, 0, 64⟩, 1), (YOK_STS_TWIN, 2), (⟨YOK_RGN 2, 0, 64⟩, 0x6000000700000000)] with fresh := 0 }, 35, wCmd 0xC403 [2] [], by decide +kernel⟩

theorem wit_PairingAndMirroringCommandsAreCarriedOutStepByStep_16 : ∃ (s : State) (c : Fin 64) (m : Cmd), (s.asked c 0xC403 m .a false [0] false [(0, 1)]) ∧ (s.rgnSeen m (m.byte 0) = true) ∧ (s.rgnValid (m.byte 0) = true) ∧ (s.rd (YOK_RGN_STATE (m.byte 0)) ≠ 3) ∧ (s.rd (YOK_RGN_STATE (m.byte 0)) ≠ 5) :=
  ⟨{ wAsk 0xC403 [2] [] [(TIN_DPA_LIMIT_CAP_GIB, 16), (TIN_WORLD_LOCK_LOCK, 1), (⟨CPH_RSLOT 3, 0, 64⟩, 0x8000000000000000), (⟨TIN_RGN_ATTR 2, 0, 32⟩, 0x80000300), (⟨TIN_RGN_EXT 2, 0, 64⟩, 0x10002), (⟨TIN_RGN_LDRD 2, 0, 64⟩, 3), (⟨TIN_RGN_LDWR 2, 0, 64⟩, 1), (YOK_STS_TWIN, 2), (⟨YOK_RGN 2, 0, 64⟩, 0x4000000700000000)] with fresh := 0 }, 35, wCmd 0xC403 [2] [], by decide +kernel⟩

theorem wit_PairingAndMirroringCommandsAreCarriedOutStepByStep_17 : ∃ (s : State) (c : Fin 64) (m : Cmd), (s.asked c 0xC404 m .a false [0] false [(0, 3)]) ∧ (m.byte 0 = 1) ∧ (m.byte 2 ≤ 100) ∧ (s.rgnSeen m (m.byte 1) = true) ∧ (s.rgnValid (m.byte 1) = true) ∧ (s.rd (YOK_RGN_ROLE (m.byte 1)) = 0) ∧ (s.rd (YOK_RGN_STATE (m.byte 1)) = 1 ∨ s.rd (YOK_RGN_STATE (m.byte 1)) = 4) ∧ (s.twinUp = false) :=
  ⟨{ wAsk 0xC404 [1, 2, 40] [] [(TIN_DPA_LIMIT_CAP_GIB, 16), (TIN_WORLD_LOCK_LOCK, 1), (⟨CPH_RSLOT 3, 0, 64⟩, 0x8000000000000000), (⟨TIN_RGN_ATTR 2, 0, 32⟩, 0x80000300), (⟨TIN_RGN_EXT 2, 0, 64⟩, 0x10002), (⟨TIN_RGN_LDRD 2, 0, 64⟩, 3), (⟨TIN_RGN_LDWR 2, 0, 64⟩, 1), (⟨YOK_RGN 2, 0, 64⟩, 0x8000000000000000)] with fresh := 0 }, 35, wCmd 0xC404 [1, 2, 40] [], by decide +kernel⟩

theorem wit_PairingAndMirroringCommandsAreCarriedOutStepByStep_18 : ∃ (s : State) (c : Fin 64) (m : Cmd), (s.asked c 0xC404 m .a false [0] false [(0, 3)]) ∧ (m.byte 0 = 2) ∧ (m.byte 2 ≤ 100) ∧ (s.rgnSeen m (m.byte 1) = true) ∧ (s.rgnValid (m.byte 1) = true) ∧ (s.rd (YOK_RGN_ROLE (m.byte 1)) = 0) ∧ (s.rd (YOK_RGN_STATE (m.byte 1)) = 1 ∨ s.rd (YOK_RGN_STATE (m.byte 1)) = 4) :=
  ⟨{ wAsk 0xC404 [2, 2, 0] [] [(TIN_DPA_LIMIT_CAP_GIB, 16), (TIN_WORLD_LOCK_LOCK, 1), (⟨CPH_RSLOT 3, 0, 64⟩, 0x8000000000000000), (⟨TIN_RGN_ATTR 2, 0, 32⟩, 0x80000300), (⟨TIN_RGN_EXT 2, 0, 64⟩, 0x10002), (⟨TIN_RGN_LDRD 2, 0, 64⟩, 3), (⟨TIN_RGN_LDWR 2, 0, 64⟩, 1), (⟨YOK_RGN 2, 0, 64⟩, 0x8000000000000000)] with fresh := 0, yk := { rsvQ := [2] } }, 35, wCmd 0xC404 [2, 2, 0] [], by decide +kernel⟩

theorem wit_PairingAndMirroringCommandsAreCarriedOutStepByStep_19 : ∃ (s : State) (c : Fin 64) (m : Cmd), (s.asked c 0xC404 m .a false [0] false [(0, 3)]) ∧ (m.byte 0 = 1 ∨ m.byte 0 = 2) ∧ (m.byte 2 ≤ 100) ∧ (s.rgnSeen m (m.byte 1) = true) ∧ (s.rgnValid (m.byte 1) = true) ∧ (s.rd (YOK_RGN_ROLE (m.byte 1)) ≠ 0 ∨ (s.rd (YOK_RGN_STATE (m.byte 1)) ≠ 1 ∧ s.rd (YOK_RGN_STATE (m.byte 1)) ≠ 4)) :=
  ⟨{ wAsk 0xC404 [1, 2, 40] [] [(TIN_DPA_LIMIT_CAP_GIB, 16), (TIN_WORLD_LOCK_LOCK, 1), (⟨CPH_RSLOT 3, 0, 64⟩, 0x8000000000000000), (⟨TIN_RGN_ATTR 2, 0, 32⟩, 0x80000300), (⟨TIN_RGN_EXT 2, 0, 64⟩, 0x10002), (⟨TIN_RGN_LDRD 2, 0, 64⟩, 3), (⟨TIN_RGN_LDWR 2, 0, 64⟩, 1)] with fresh := 0 }, 35, wCmd 0xC404 [1, 2, 40] [], by decide +kernel⟩

theorem wit_PairingAndMirroringCommandsAreCarriedOutStepByStep_20 : ∃ (s : State) (c : Fin 64) (m : Cmd), (s.asked c 0xC404 m .a false [0] false [(0, 3)]) ∧ (m.byte 0 = 0 ∨ 2 < m.byte 0 ∨ 100 < m.byte 2) :=
  ⟨{ wAsk 0xC404 [3] [] [] with fresh := 0 }, 35, wCmd 0xC404 [3] [], by decide +kernel⟩

theorem wit_PairingAndMirroringCommandsAreCarriedOutStepByStep_21 : ∃ (s : State) (c : Fin 64) (m : Cmd), (s.asked c 0xC405 m .q true [0] false [(0, 1)]) ∧ (m.byte 0 = 0xFF) :=
  ⟨{ wAsk 0xC405 [255] [] [(YOK_STS_TWIN, 2)] with fresh := 0, yk := { marks := [5] } }, 35, wCmd 0xC405 [255] [], by decide +kernel⟩

theorem wit_PairingAndMirroringCommandsAreCarriedOutStepByStep_22 : ∃ (s : State) (c : Fin 64) (m : Cmd), (s.asked c 0xC405 m .q true [0] false [(0, 1)]) ∧ (m.byte 0 ≠ 0xFF) ∧ (s.rgnSeen m (m.byte 0) = true) ∧ (s.mayQuery m (m.byte 0) = true) :=
  ⟨{ wAsk 0xC405 [2] [] [(TIN_DPA_LIMIT_CAP_GIB, 16), (TIN_WORLD_LOCK_LOCK, 1), (⟨CPH_RSLOT 3, 0, 64⟩, 0x8000000000000000), (⟨TIN_RGN_ATTR 2, 0, 32⟩, 0x80000300), (⟨TIN_RGN_EXT 2, 0, 64⟩, 0x10002), (⟨TIN_RGN_LDRD 2, 0, 64⟩, 3), (⟨TIN_RGN_LDWR 2, 0, 64⟩, 1), (YOK_STS_TWIN, 2), (⟨YOK_RGN 2, 0, 64⟩, 0x4000000700000000)] with fresh := 0 }, 35, wCmd 0xC405 [2] [], by decide +kernel⟩

theorem wit_PairingAndMirroringCommandsAreCarriedOutStepByStep_23 : ∃ (s : State) (c : Fin 64) (m : Cmd), (s.asked c 0xC405 m .q true [0] false [(0, 1)]) ∧ (m.byte 0 ≠ 0xFF) ∧ ((s.rgnSeen m (m.byte 0) && s.mayQuery m (m.byte 0)) = false) :=
  ⟨{ wAsk 0xC405 [2] [] [] with fresh := 0 }, 35, wCmd 0xC405 [2] [], by decide +kernel⟩

theorem wit_DrillCommandsActOnPortsConnectionsAndJobQueues_1 : ∃ (s : State) (c : Fin 64) (m : Cmd), (s.asked c 0xC500 m .a false [64] false [(0, 3)]) ∧ (m.byte 0 ≤ 5) ∧ (m.byte 1 ≤ 7) ∧ (m.byte 2 ≤ 7) ∧ (m.byte 1 % 2 = 1 ∨ s.bitOf DRL_CTL_PORTS (m.byte 0) = false) :=
  ⟨{ wAsk 0xC500 [3, 3, 5] (List.replicate 64 9) [] with fresh := 0 }, 35, wCmd 0xC500 [3, 3, 5] (List.replicate 64 9), by decide +kernel⟩

theorem wit_DrillCommandsActOnPortsConnectionsAndJobQueues_2 : ∃ (s : State) (c : Fin 64) (m : Cmd), (s.asked c 0xC500 m .a false [64] false [(0, 3)]) ∧ (5 < m.byte 0 ∨ 7 < m.byte 1 ∨ 7 < m.byte 2) :=
  ⟨{ wAsk 0xC500 [6] (List.replicate 64 9) [] with fresh := 0 }, 35, wCmd 0xC500 [6] (List.replicate 64 9), by decide +kernel⟩

theorem wit_DrillCommandsActOnPortsConnectionsAndJobQueues_3 : ∃ (s : State) (c : Fin 64) (m : Cmd), (s.asked c 0xC501 m .a false [128] false [(0, 2)]) ∧ (m.num 0 2 ≤ 4095) ∧ (s.on DRL_CONN_STATUS_BUSY = false) ∧ (s.connHidden m (m.num 0 2) = false) ∧ (m.dat 1 1 < 64 → s.on (TIN_CGB_VALID (m.dat 1 1)) = true → s.cgSeen m (m.dat 1 1) = true) ∧ ((s.connAt (m.num 0 2)).state = 0 ∨ (s.connAt (m.num 0 2)).desc ≠ ofBytes m.d) :=
  ⟨{ wAsk 0xC501 [9] (List.replicate 128 0) [] with fresh := 0 }, 35, wCmd 0xC501 [9] (List.replicate 128 0), by decide +kernel⟩

theorem wit_DrillCommandsActOnPortsConnectionsAndJobQueues_4 : ∃ (s : State) (c : Fin 64) (m : Cmd), (s.asked c 0xC501 m .a false [128] false [(0, 2)]) ∧ (m.num 0 2 ≤ 4095) ∧ (s.connHidden m (m.num 0 2) = false) ∧ (m.dat 1 1 < 64 → s.on (TIN_CGB_VALID (m.dat 1 1)) = true → s.cgSeen m (m.dat 1 1) = true) ∧ ((s.connAt (m.num 0 2)).state ≠ 0) ∧ ((s.connAt (m.num 0 2)).desc = ofBytes m.d) :=
  ⟨{ wAsk 0xC501 [9] (List.replicate 128 0) [] with fresh := 0, dl := { conns := [(9, { state := 2, desc := ofBytes (List.replicate 128 0) })] } }, 35, wCmd 0xC501 [9] (List.replicate 128 0), by decide +kernel⟩

theorem wit_DrillCommandsActOnPortsConnectionsAndJobQueues_5 : ∃ (s : State) (c : Fin 64) (m : Cmd), (s.asked c 0xC501 m .a false [128] false [(0, 2)]) ∧ (m.num 0 2 ≤ 4095) ∧ (s.connHidden m (m.num 0 2) = true) :=
  ⟨{ wAsk 0xC501 [9] (List.replicate 128 0) [(TIN_CGB_WORLD 0, 1)] with fresh := 0, dl := { conns := [(9, { state := 2, desc := ofBytes (List.replicate 128 0) })] } }, 35, wCmd 0xC501 [9] (List.replicate 128 0), by decide +kernel⟩

theorem wit_DrillCommandsActOnPortsConnectionsAndJobQueues_6 : ∃ (s : State) (c : Fin 64) (m : Cmd), (s.asked c 0xC501 m .a false [128] false [(0, 2)]) ∧ (4095 < m.num 0 2) :=
  ⟨{ wAsk 0xC501 [9, 16] (List.replicate 128 0) [] with fresh := 0 }, 35, wCmd 0xC501 [9, 16] (List.replicate 128 0), by decide +kernel⟩

theorem wit_DrillCommandsActOnPortsConnectionsAndJobQueues_7 : ∃ (s : State) (c : Fin 64) (m : Cmd), (s.asked c 0xC502 m .a false [0] false [(0, 2)]) ∧ (m.num 0 2 ≤ 4095) ∧ ((s.connAt (m.num 0 2)).state = 0) :=
  ⟨{ wAsk 0xC502 [9] [] [] with fresh := 0 }, 35, wCmd 0xC502 [9] [], by decide +kernel⟩

theorem wit_DrillCommandsActOnPortsConnectionsAndJobQueues_8 : ∃ (s : State) (c : Fin 64) (m : Cmd), (s.asked c 0xC502 m .a false [0] false [(0, 2)]) ∧ (m.num 0 2 ≤ 4095) ∧ (s.on DRL_CONN_STATUS_BUSY = false) ∧ ((s.connAt (m.num 0 2)).state ≠ 0) ∧ (s.connHidden m (m.num 0 2) = false) :=
  ⟨{ wAsk 0xC502 [9] [] [] with fresh := 0, dl := { conns := [(9, { state := 2, desc := ofBytes (List.replicate 128 0) })] } }, 35, wCmd 0xC502 [9] [], by decide +kernel⟩

theorem wit_DrillCommandsActOnPortsConnectionsAndJobQueues_9 : ∃ (s : State) (c : Fin 64) (m : Cmd), (s.askedAt c 0xC502 m 1) ∧ (m.num 0 2 ≤ 4095) ∧ ((s.connAt (m.num 0 2)).state = 0) :=
  ⟨{ wAsk 0xC502 [9] [] [] with fresh := 0, cs := { stage := [(35, 1)] } }, 35, wCmd 0xC502 [9] [], by decide +kernel⟩

theorem wit_DrillCommandsActOnPortsConnectionsAndJobQueues_10 : ∃ (s : State) (c : Fin 64) (m : Cmd), (s.asked c 0xC502 m .a false [0] false [(0, 2)]) ∧ (m.num 0 2 ≤ 4095) ∧ (s.connHidden m (m.num 0 2) = true) :=
  ⟨{ wAsk 0xC502 [9] [] [(TIN_CGB_WORLD 0, 1)] with fresh := 0, dl := { conns := [(9, { state := 2, desc := ofBytes (List.replicate 128 0) })] } }, 35, wCmd 0xC502 [9] [], by decide +kernel⟩

theorem wit_DrillCommandsActOnPortsConnectionsAndJobQueues_11 : ∃ (s : State) (c : Fin 64) (m : Cmd), (s.asked c 0xC503 m .q false [0] false [(0, 2)]) ∧ (m.num 0 2 ≤ 4095) ∧ (s.on DRL_CONN_STATUS_BUSY = false) ∧ (s.connHidden m (m.num 0 2) = false) ∧ (m.isA = true ∨ (m.kind = 2 ∧ m.source = m.num 0 2)) :=
  ⟨{ wAsk 0xC503 [9] [] [] with fresh := 0, dl := { conns := [(9, { state := 2, desc := ofBytes (List.replicate 128 0) })] } }, 35, wCmd 0xC503 [9] [], by decide +kernel⟩

theorem wit_DrillCommandsActOnPortsConnectionsAndJobQueues_12 : ∃ (s : State) (c : Fin 64) (m : Cmd), (s.asked c 0xC503 m .q false [0] false [(0, 2)]) ∧ (m.num 0 2 ≤ 4095) ∧ (s.connHidden m (m.num 0 2) = true) :=
  ⟨{ wAsk 0xC503 [9] [] [(TIN_CGB_WORLD 0, 1)] with fresh := 0, dl := { conns := [(9, { state := 2, desc := ofBytes (List.replicate 128 0) })] } }, 35, wCmd 0xC503 [9] [], by decide +kernel⟩

theorem wit_DrillCommandsActOnPortsConnectionsAndJobQueues_13 : ∃ (s : State) (c : Fin 64) (m : Cmd), (s.asked c 0xC504 m .a false [0] false [(0, 4)]) ∧ (m.num 0 2 ≤ 1023) ∧ (m.num 2 2 ≤ 4095) ∧ (s.jqHidden m (m.num 0 2) = false) ∧ (s.connHidden m (m.num 2 2) = false) ∧ (s.on DRL_JQ_CMD_STS_BUSY = false) ∧ ((s.jqState (m.num 0 2) ≠ 1 ∧ s.jqState (m.num 0 2) ≠ 2) ∨ s.jqConn (m.num 0 2) ≠ m.num 2 2) :=
  ⟨{ wAsk 0xC504 [6, 0, 9] [] [] with fresh := 0, dl := { conns := [(9, { state := 2, desc := ofBytes (List.replicate 128 0) })] } }, 35, wCmd 0xC504 [6, 0, 9] [], by decide +kernel⟩

theorem wit_DrillCommandsActOnPortsConnectionsAndJobQueues_14 : ∃ (s : State) (c : Fin 64) (m : Cmd), (s.asked c 0xC504 m .a false [0] false [(0, 4)]) ∧ (m.num 0 2 ≤ 1023) ∧ (m.num 2 2 ≤ 4095) ∧ (s.jqHidden m (m.num 0 2) = false) ∧ (s.connHidden m (m.num 2 2) = false) ∧ (s.on DRL_JQ_CMD_STS_BUSY = false) ∧ (s.jqState (m.num 0 2) = 1 ∨ s.jqState (m.num 0 2) = 2) ∧ (s.jqConn (m.num 0 2) = m.num 2 2) :=
  ⟨{ wAsk 0xC504 [6, 0, 9] [] [(⟨DRL_JQ_STATE 6, 0, 64⟩, 2 ^ 61 + 9 * 2 ^ 46)] with fresh := 0, dl := { conns := [(9, { state := 2, desc := ofBytes (List.replicate 128 0) })] } }, 35, wCmd 0xC504 [6, 0, 9] [], by decide +kernel⟩

theorem wit_DrillCommandsActOnPortsConnectionsAndJobQueues_15 : ∃ (s : State) (c : Fin 64) (m : Cmd), (s.asked c 0xC504 m .a false [0] false [(0, 4)]) ∧ (1023 < m.num 0 2 ∨ 4095 < m.num 2 2) :=
  ⟨{ wAsk 0xC504 [6, 4, 9] [] [] with fresh := 0 }, 35, wCmd 0xC504 [6, 4, 9] [], by decide +kernel⟩

theorem wit_DrillCommandsActOnPortsConnectionsAndJobQueues_16 : ∃ (s : State) (c : Fin 64) (m : Cmd), (s.asked c 0xC505 m .a false [0] false [(0, 2)]) ∧ (m.num 0 2 ≤ 1023) ∧ (s.jqState (m.num 0 2) = 0) :=
  ⟨{ wAsk 0xC505 [6] [] [] with fresh := 0 }, 35, wCmd 0xC505 [6] [], by decide +kernel⟩

theorem wit_DrillCommandsActOnPortsConnectionsAndJobQueues_17 : ∃ (s : State) (c : Fin 64) (m : Cmd), (s.askedAt c 0xC505 m 1) ∧ (m.num 0 2 ≤ 1023) ∧ (s.jqState (m.num 0 2) = 0) :=
  ⟨{ wAsk 0xC505 [6] [] [] with fresh := 0, cs := { stage := [(35, 1)] } }, 35, wCmd 0xC505 [6] [], by decide +kernel⟩

theorem wit_DrillCommandsActOnPortsConnectionsAndJobQueues_18 : ∃ (s : State) (c : Fin 64) (m : Cmd), (s.asked c 0xC505 m .a false [0] false [(0, 2)]) ∧ (m.num 0 2 ≤ 1023) ∧ (s.jqState (m.num 0 2) ≠ 0) ∧ (s.jqHidden m (m.num 0 2) = false) ∧ (s.on DRL_JQ_CMD_STS_BUSY = false) :=
  ⟨{ wAsk 0xC505 [6] [] [(⟨DRL_JQ_STATE 6, 0, 64⟩, 2 ^ 61 + 9 * 2 ^ 46)] with fresh := 0, dl := { conns := [(9, { state := 2, desc := ofBytes (List.replicate 128 0) })] } }, 35, wCmd 0xC505 [6] [], by decide +kernel⟩

theorem wit_DrillCommandsActOnPortsConnectionsAndJobQueues_19 : ∃ (s : State) (c : Fin 64) (m : Cmd), (s.asked c 0xC505 m .a false [0] false [(0, 2)]) ∧ (1023 < m.num 0 2) :=
  ⟨{ wAsk 0xC505 [6, 4] [] [] with fresh := 0 }, 35, wCmd 0xC505 [6, 4] [], by decide +kernel⟩

theorem wit_DrillCommandsActOnPortsConnectionsAndJobQueues_20 : ∃ (s : State) (c : Fin 64) (m : Cmd), (s.asked c 0xC506 m .q false [0] false [(0, 2)]) ∧ (m.num 0 2 ≤ 1023) ∧ (s.jqHidden m (m.num 0 2) = false) ∧ (m.isA = true ∨ (m.kind = 2 ∧ s.jqState (m.num 0 2) ≠ 0 ∧ s.jqConn (m.num 0 2) = m.source)) :=
  ⟨{ wAsk 0xC506 [6] [] [(⟨DRL_JQ_STATE 6, 0, 64⟩, 2 ^ 61 + 9 * 2 ^ 46)] with fresh := 0, dl := { conns := [(9, { state := 2, desc := ofBytes (List.replicate 128 0) })] } }, 35, wCmd 0xC506 [6] [], by decide +kernel⟩

theorem wit_DrillCommandsActOnPortsConnectionsAndJobQueues_21 : ∃ (s : State) (c : Fin 64) (m : Cmd), (s.asked c 0xC506 m .q false [0] false [(0, 2)]) ∧ (1023 < m.num 0 2) :=
  ⟨{ wAsk 0xC506 [6, 4] [] [] with fresh := 0 }, 35, wCmd 0xC506 [6, 4] [], by decide +kernel⟩

theorem wit_HarvestPowerRecorderAndTitheCommandsAnswerTheirTables_1 : ∃ (s : State) (c : Fin 64) (m : Cmd), (s.asked c 0xC600 m .a false [0] false [(0, 3), (4, 8)]) ∧ (m.byte 0 ≤ 3) ∧ (m.num 4 2 ≤ 511) ∧ (s.hrvBusy = false) :=
  ⟨{ wAsk 0xC600 [3, 5, 80, 0, 4, 1, 9, 0, 7, 0, 8, 1] [] [] with fresh := 0 }, 35, wCmd 0xC600 [3, 5, 80, 0, 4, 1, 9, 0, 7, 0, 8, 1] [], by decide +kernel⟩

theorem wit_HarvestPowerRecorderAndTitheCommandsAnswerTheirTables_2 : ∃ (s : State) (c : Fin 64) (m : Cmd), (s.askedAt c 0xC600 m 1) :=
  ⟨{ wAsk 0xC600 [3] [] [] with fresh := 0, cs := { stage := [(35, 1)] } }, 35, wCmd 0xC600 [3] [], by decide +kernel⟩

theorem wit_HarvestPowerRecorderAndTitheCommandsAnswerTheirTables_3 : ∃ (s : State) (c : Fin 64) (m : Cmd), (s.asked c 0xC600 m .a false [0] false [(0, 3), (4, 8)]) ∧ (3 < m.byte 0 ∨ 511 < m.num 4 2) :=
  ⟨{ wAsk 0xC600 [4] [] [] with fresh := 0 }, 35, wCmd 0xC600 [4] [], by decide +kernel⟩

theorem wit_HarvestPowerRecorderAndTitheCommandsAnswerTheirTables_4 : ∃ (s : State) (c : Fin 64) (m : Cmd), (s.asked c 0xC601 m .a false [0] false [(0, 4)]) ∧ (m.num 0 4 < 2 ^ 24) ∧ (s.hrvBusy = false) :=
  ⟨{ wAsk 0xC601 [9, 1] [] [(FLT_LIVE_PRESENT 88, 16)] with fresh := 0 }, 35, wCmd 0xC601 [9, 1] [], by decide +kernel⟩

theorem wit_HarvestPowerRecorderAndTitheCommandsAnswerTheirTables_5 : ∃ (s : State) (c : Fin 64) (m : Cmd), (s.asked c 0xC601 m .a false [0] false [(0, 4)]) ∧ (2 ^ 24 ≤ m.num 0 4) :=
  ⟨{ wAsk 0xC601 [9, 1, 0, 1] [] [] with fresh := 0 }, 35, wCmd 0xC601 [9, 1, 0, 1] [], by decide +kernel⟩

theorem wit_HarvestPowerRecorderAndTitheCommandsAnswerTheirTables_6 : ∃ (s : State) (c : Fin 64) (m : Cmd), (s.asked c 0xC602 m .q false [0] false []) :=
  ⟨{ wAsk 0xC602 [] [] [(HRV_SEQ_DSEQ, 7)] with fresh := 0 }, 35, wCmd 0xC602 [] [], by decide +kernel⟩

theorem wit_HarvestPowerRecorderAndTitheCommandsAnswerTheirTables_7 : ∃ (s : State) (c : Fin 64) (m : Cmd), (s.asked c 0xC603 m .a false [0] false [(0, 4)]) ∧ (s.cs.start = none) ∧ (m.num 0 4 = 0x54535648) ∧ (s.on HRV_STS_ARMED = true) :=
  ⟨{ wAsk 0xC603 [0x48, 0x56, 0x53, 0x54] [] [(HRV_STS_ARMED, 1)] with fresh := 0 }, 35, wCmd 0xC603 [0x48, 0x56, 0x53, 0x54] [], by decide +kernel⟩

theorem wit_HarvestPowerRecorderAndTitheCommandsAnswerTheirTables_8 : ∃ (s : State) (c : Fin 64) (m : Cmd), (s.asked c 0xC603 m .a false [0] false [(0, 4)]) ∧ (s.cs.start = none) ∧ (m.num 0 4 = 0x54535648) ∧ (s.on HRV_STS_ARMED = false) :=
  ⟨{ wAsk 0xC603 [0x48, 0x56, 0x53, 0x54] [] [] with fresh := 0 }, 35, wCmd 0xC603 [0x48, 0x56, 0x53, 0x54] [], by decide +kernel⟩

theorem wit_HarvestPowerRecorderAndTitheCommandsAnswerTheirTables_9 : ∃ (s : State) (c : Fin 64) (m : Cmd), (s.asked c 0xC603 m .a false [0] false [(0, 4)]) ∧ (s.cs.start = none) ∧ (m.num 0 4 ≠ 0x54535648) :=
  ⟨{ wAsk 0xC603 [] [] [] with fresh := 0 }, 35, wCmd 0xC603 [] [], by decide +kernel⟩

theorem wit_HarvestPowerRecorderAndTitheCommandsAnswerTheirTables_10 : ∃ (s : State) (c : Fin 64) (t0 : Nat), (s.cs.start = some (c.val, t0)) ∧ (s.mbxFull c true = true) ∧ (s.now < t0 + 10000000) :=
  ⟨{ wOn [] [(MBX_CH_STS_OUT_FULL 35, 1)] with cs := { start := some (35, 0) } }, 35, 0, by decide +kernel⟩

theorem wit_HarvestPowerRecorderAndTitheCommandsAnswerTheirTables_11 : ∃ (s : State) (c : Fin 64) (t0 : Nat), (s.cs.start = some (c.val, t0)) ∧ (s.mbxFull c true = false ∨ t0 + 10000000 ≤ s.now) :=
  ⟨{ wOn [] [(⟨MBX_CH_CTL 35, 0, 32⟩, 0)] with cs := { start := some (35, 0) } }, 35, 0, by decide +kernel⟩

theorem wit_HarvestPowerRecorderAndTitheCommandsAnswerTheirTables_12 : ∃ (s : State) (c : Fin 64) (m : Cmd), (s.asked c 0xC604 m .a false [0] false [(0, 1), (2, 2)]) ∧ (m.byte 0 = 0) :=
  ⟨{ wAsk 0xC604 [] [] [(PWR_CAP_CAP_W, 77)] with fresh := 0 }, 35, wCmd 0xC604 [] [], by decide +kernel⟩

theorem wit_HarvestPowerRecorderAndTitheCommandsAnswerTheirTables_13 : ∃ (s : State) (c : Fin 64) (m : Cmd), (s.asked c 0xC604 m .a false [0] false [(0, 1), (2, 2)]) ∧ (m.byte 0 = 1) ∧ (0 < m.num 2 2) ∧ (m.num 2 2 ≤ 1023) ∧ (s.rd PWR_VLOOP_STS_FLOOR_W ≤ m.num 2 2) :=
  ⟨{ wAsk 0xC604 [1, 0, 44, 1] [] [] with fresh := 0 }, 35, wCmd 0xC604 [1, 0, 44, 1] [], by decide +kernel⟩

theorem wit_HarvestPowerRecorderAndTitheCommandsAnswerTheirTables_14 : ∃ (s : State) (c : Fin 64) (m : Cmd), (s.asked c 0xC604 m .a false [0] false [(0, 1), (2, 2)]) ∧ (m.byte 0 = 2) :=
  ⟨{ wAsk 0xC604 [2] [] [(PWR_CAP_CAP_W, 77)] with fresh := 0 }, 35, wCmd 0xC604 [2] [], by decide +kernel⟩

theorem wit_HarvestPowerRecorderAndTitheCommandsAnswerTheirTables_15 : ∃ (s : State) (c : Fin 64) (m : Cmd), (s.asked c 0xC604 m .a false [0] false [(0, 1), (2, 2)]) ∧ (m.byte 0 = 1) ∧ (0 < m.num 2 2) ∧ (m.num 2 2 ≤ 1023) ∧ (m.num 2 2 < s.rd PWR_VLOOP_STS_FLOOR_W) :=
  ⟨{ wAsk 0xC604 [1, 0, 44] [] [(PWR_VLOOP_STS_FLOOR_W, 50)] with fresh := 0 }, 35, wCmd 0xC604 [1, 0, 44] [], by decide +kernel⟩

theorem wit_HarvestPowerRecorderAndTitheCommandsAnswerTheirTables_16 : ∃ (s : State) (c : Fin 64) (m : Cmd), (s.asked c 0xC604 m .a false [0] false [(0, 1), (2, 2)]) ∧ (2 < m.byte 0 ∨ m.byte 0 = 1 ∧ (m.num 2 2 = 0 ∨ 1023 < m.num 2 2)) :=
  ⟨{ wAsk 0xC604 [3] [] [] with fresh := 0 }, 35, wCmd 0xC604 [3] [], by decide +kernel⟩

theorem wit_HarvestPowerRecorderAndTitheCommandsAnswerTheirTables_17 : ∃ (s : State) (c : Fin 64) (m : Cmd), (s.asked c 0xC705 m .a false [0] true [(0, 6)]) ∧ (0 < m.num 4 2) ∧ (m.num 4 2 ≤ 4096) ∧ (m.num 0 4 + m.num 4 2 ≤ s.rd REC_POS_WPOS) ∧ (s.rd REC_POS_WPOS ≤ 1048576) ∧ (m.kind ≠ 1) :=
  ⟨{ wAsk 0xC705 [2, 0, 0, 0, 5] [] [(REC_POS_WPOS, 64)] with fresh := 0, rcd := { mem := [(3, 9)] } }, 35, wCmd 0xC705 [2, 0, 0, 0, 5] [], by decide +kernel⟩

theorem wit_HarvestPowerRecorderAndTitheCommandsAnswerTheirTables_18 : ∃ (s : State) (c : Fin 64) (m : Cmd), (s.asked c 0xC705 m .a false [0] true [(0, 6)]) ∧ (0 < m.num 4 2) ∧ (m.num 4 2 ≤ 4096) ∧ (1048576 ≤ m.num 0 4) ∧ (m.num 0 4 + m.num 4 2 ≤ 2097152) ∧ (m.kind ≠ 1) :=
  ⟨{ wAsk 0xC705 [2, 0, 16, 0, 5] [] [] with fresh := 0, rcd := { image := [(3, 9)] } }, 35, wCmd 0xC705 [2, 0, 16, 0, 5] [], by decide +kernel⟩

theorem wit_HarvestPowerRecorderAndTitheCommandsAnswerTheirTables_19 : ∃ (s : State) (c : Fin 64) (m : Cmd), (s.asked c 0xC705 m .a false [0] true [(0, 6)]) ∧ (m.num 4 2 = 0 ∨ 4096 < m.num 4 2 ∨ 2097152 < m.num 0 4 + m.num 4 2) :=
  ⟨{ wAsk 0xC705 [2] [] [] with fresh := 0 }, 35, wCmd 0xC705 [2] [], by decide +kernel⟩

theorem wit_HarvestPowerRecorderAndTitheCommandsAnswerTheirTables_20 : ∃ (s : State) (c : Fin 64) (m : Cmd), (s.asked c 0xC706 m .b false [0] false [(0, 4)]) ∧ (m.num 0 4 = s.rd REC_POS_EPOCH) ∧ (s.hrvBusy = false) :=
  ⟨{ wAsk 0xC706 [3] [] [(⟨REC_POS, 0, 64⟩, 0x300000040), (REC_STS_FULL, 1)] with fresh := 0 }, 35, wCmd 0xC706 [3] [], by decide +kernel⟩

theorem wit_HarvestPowerRecorderAndTitheCommandsAnswerTheirTables_21 : ∃ (s : State) (c : Fin 64) (m : Cmd), (s.asked c 0xC706 m .b false [0] false [(0, 4)]) ∧ (m.num 0 4 ≠ s.rd REC_POS_EPOCH) :=
  ⟨{ wAsk 0xC706 [3] [] [] with fresh := 0 }, 35, wCmd 0xC706 [3] [], by decide +kernel⟩

theorem wit_HarvestPowerRecorderAndTitheCommandsAnswerTheirTables_22 : ∃ (s : State) (c : Fin 64) (m : Cmd), (s.asked c 0xC706 m .b false [0] false [(0, 4)]) ∧ (m.num 0 4 = s.rd REC_POS_EPOCH) ∧ (s.hrvBusy = true) :=
  ⟨{ wAsk 0xC706 [3] [] [(⟨REC_POS, 0, 64⟩, 0x300000040)] with fresh := 0, hv := { run := some { cause := 1 } } }, 35, wCmd 0xC706 [3] [], by decide +kernel⟩

theorem wit_HarvestPowerRecorderAndTitheCommandsAnswerTheirTables_23 : ∃ (s : State) (c : Fin 64) (m : Cmd), (s.asked c 0xC800 m .a false [0] true [(0, 1), (4, 6)]) :=
  ⟨{ wAsk 0xC800 [0, 0, 0, 0, 1, 0, 0, 0, 9] [] [] with fresh := 0, th := { ring := [⟨1, 1, [5]⟩, ⟨0, 2, [6, 7]⟩, ⟨0, 0, [8]⟩] } }, 35, wCmd 0xC800 [0, 0, 0, 0, 1, 0, 0, 0, 9] [], by decide +kernel⟩

theorem wit_HarvestPowerRecorderAndTitheCommandsAnswerTheirTables_24 : ∃ (s : State) (c : Fin 64) (m : Cmd), (s.asked c 0xC801 m .q false [0] false []) :=
  ⟨{ wAsk 0xC801 [] [] [] with fresh := 0, th := { ring := [⟨1, 1, [5]⟩] } }, 35, wCmd 0xC801 [] [], by decide +kernel⟩

theorem wit_FaultFenceTrainingAndHealCommandsActAndAnswer_1 : ∃ (s : State) (c : Fin 64) (m : Cmd), (s.asked c 0xC700 m .a false [0] true [(0, 2)]) ∧ (0 < m.byte 1) ∧ (m.byte 1 ≤ 100) ∧ (m.byte 0 + m.byte 1 ≤ 100) :=
  ⟨{ wAsk 0xC700 [20, 5] [] [(FLT_STS_CAUSE 22, 7), (FLT_CNT_COUNT 22, 3)] with fresh := 0 }, 35, wCmd 0xC700 [20, 5] [], by decide +kernel⟩

theorem wit_FaultFenceTrainingAndHealCommandsActAndAnswer_2 : ∃ (s : State) (c : Fin 64) (m : Cmd), (s.asked c 0xC700 m .a false [0] true [(0, 2)]) ∧ (m.byte 1 = 0 ∨ 100 < m.byte 1 ∨ 100 < m.byte 0 + m.byte 1) :=
  ⟨{ wAsk 0xC700 [99, 2] [] [] with fresh := 0 }, 35, wCmd 0xC700 [99, 2] [], by decide +kernel⟩

theorem wit_FaultFenceTrainingAndHealCommandsActAndAnswer_3 : ∃ (s : State) (c : Fin 64) (m : Cmd), (s.asked c 0xC702 m .a false [0] false [(0, 1), (4, 4)]) ∧ (m.byte 0 ≤ 99) :=
  ⟨{ wAsk 0xC702 [12, 0, 0, 0, 6] [] [(⟨FLT_STS 12, 0, 32⟩, 7), (⟨FLT_LIVE 12, 0, 32⟩, 4)] with fresh := 0 }, 35, wCmd 0xC702 [12, 0, 0, 0, 6] [], by decide +kernel⟩

theorem wit_FaultFenceTrainingAndHealCommandsActAndAnswer_4 : ∃ (s : State) (c : Fin 64) (m : Cmd), (s.asked c 0xC702 m .a false [0] false [(0, 1), (4, 4)]) ∧ (99 < m.byte 0) :=
  ⟨{ wAsk 0xC702 [100] [] [] with fresh := 0 }, 35, wCmd 0xC702 [100] [], by decide +kernel⟩

theorem wit_FaultFenceTrainingAndHealCommandsActAndAnswer_5 : ∃ (s : State) (c : Fin 64) (m : Cmd), (s.asked c 0xC701 m .a false [0] false [(0, 5)]) ∧ (m.byte 1 = 1) ∧ (fenceBg (m.byte 0) = false) ∧ (s.fenceLast (m.byte 0) (m.byte 2 == 0) (m.byte 3) = false) ∧ (m.byte 2 ≤ 1) ∧ (m.byte 4 ≤ 1) ∧ (fenceListed (m.byte 0) (m.byte 2 == 0) (m.byte 3) = true) ∧ (s.powered (m.byte 0) = true) :=
  ⟨{ wAsk 0xC701 [21, 1, 0] [] [(UNIT_POWERED 21, 1)] with fresh := 0 }, 35, wCmd 0xC701 [21, 1, 0] [], by decide +kernel⟩

theorem wit_FaultFenceTrainingAndHealCommandsActAndAnswer_6 : ∃ (s : State) (c : Fin 64) (m : Cmd), (s.asked c 0xC701 m .a false [0] false [(0, 5)]) ∧ (m.byte 1 = 2) ∧ (fenceBg (m.byte 0) = false) ∧ (s.rd (FLT_STS_CAUSE (m.byte 0)) = 0) ∧ (m.byte 2 ≤ 1) ∧ (m.byte 4 ≤ 1) ∧ (fenceListed (m.byte 0) (m.byte 2 == 0) (m.byte 3) = true) ∧ (s.powered (m.byte 0) = true) :=
  ⟨{ wAsk 0xC701 [21, 2, 0] [] [(UNIT_POWERED 21, 1)] with fresh := 0 }, 35, wCmd 0xC701 [21, 2, 0] [], by decide +kernel⟩

theorem wit_FaultFenceTrainingAndHealCommandsActAndAnswer_7 : ∃ (s : State) (c : Fin 64) (m : Cmd), (s.asked c 0xC701 m .a false [0] false [(0, 5)]) ∧ (m.byte 1 = 1) ∧ (fenceBg (m.byte 0) = true) ∧ (s.bgRuns c = false) ∧ (s.fenceLast (m.byte 0) (m.byte 2 == 0) (m.byte 3) = false) ∧ (m.byte 2 ≤ 1) ∧ (m.byte 4 ≤ 1) ∧ (fenceListed (m.byte 0) (m.byte 2 == 0) (m.byte 3) = true) ∧ (s.powered (m.byte 0) = true) :=
  ⟨{ wAsk 0xC701 [56, 1, 0] [] [(UNIT_POWERED 56, 1)] with fresh := 0 }, 35, wCmd 0xC701 [56, 1, 0] [], by decide +kernel⟩

theorem wit_FaultFenceTrainingAndHealCommandsActAndAnswer_8 : ∃ (s : State) (c : Fin 64) (m : Cmd), (s.asked c 0xC701 m .a false [0] false [(0, 5)]) ∧ (m.byte 1 = 2) ∧ (s.rd (FLT_STS_CAUSE (m.byte 0)) ≠ 0) ∧ (m.byte 2 ≤ 1) ∧ (m.byte 4 ≤ 1) ∧ (fenceListed (m.byte 0) (m.byte 2 == 0) (m.byte 3) = true) ∧ (s.powered (m.byte 0) = true) :=
  ⟨{ wAsk 0xC701 [21, 2, 0] [] [(UNIT_POWERED 21, 1), (FLT_STS_CAUSE 21, 4)] with fresh := 0 }, 35, wCmd 0xC701 [21, 2, 0] [], by decide +kernel⟩

theorem wit_FaultFenceTrainingAndHealCommandsActAndAnswer_9 : ∃ (s : State) (c : Fin 64) (m : Cmd), (s.asked c 0xC701 m .a false [0] false [(0, 5)]) ∧ (m.byte 1 = 1) ∧ (fenceBg (m.byte 0) = false) ∧ (s.fenceLast (m.byte 0) (m.byte 2 == 0) (m.byte 3) = true) ∧ (m.byte 2 ≤ 1) ∧ (m.byte 4 ≤ 1) ∧ (fenceListed (m.byte 0) (m.byte 2 == 0) (m.byte 3) = true) ∧ (s.powered (m.byte 0) = true) :=
  ⟨{ wAsk 0xC701 [93, 1, 1, 0] [] [(UNIT_POWERED 93, 1)] with fresh := 0 }, 35, wCmd 0xC701 [93, 1, 1, 0] [], by decide +kernel⟩

theorem wit_FaultFenceTrainingAndHealCommandsActAndAnswer_10 : ∃ (s : State) (c : Fin 64) (m : Cmd), (s.asked c 0xC701 m .a false [0] false [(0, 5)]) ∧ (m.byte 1 = 1 ∨ m.byte 1 = 2) ∧ (m.byte 2 ≤ 1) ∧ (m.byte 4 ≤ 1) ∧ (fenceListed (m.byte 0) (m.byte 2 == 0) (m.byte 3) = true) ∧ (s.powered (m.byte 0) = false) :=
  ⟨{ wAsk 0xC701 [21, 1, 0] [] [] with fresh := 0 }, 35, wCmd 0xC701 [21, 1, 0] [], by decide +kernel⟩

theorem wit_FaultFenceTrainingAndHealCommandsActAndAnswer_11 : ∃ (s : State) (c : Fin 64) (m : Cmd), (s.asked c 0xC701 m .a false [0] false [(0, 5)]) ∧ (m.byte 1 = 0 ∨ 2 < m.byte 1 ∨ 1 < m.byte 2 ∨ 1 < m.byte 4 ∨ fenceListed (m.byte 0) (m.byte 2 == 0) (m.byte 3) = false) :=
  ⟨{ wAsk 0xC701 [12, 1] [] [] with fresh := 0 }, 35, wCmd 0xC701 [12, 1] [], by decide +kernel⟩

theorem wit_FaultFenceTrainingAndHealCommandsActAndAnswer_12 : ∃ (s : State) (c : Fin 64) (b : BgCmd) (w sub : Nat), ((s.cmdAt c fun o => o == 0xC701) = none) ∧ (s.bgOf c = some b) ∧ (b.job = .fence w sub false) ∧ (b.done = false) ∧ (s.fenceDone w sub false = true) :=
  ⟨{ wSt [(FUR_CH_STS_STATE 3, 4)] with cs := { bg := [(35, { op := 0xC701, job := .fence 59 noSub false, ld := some 9 })] } }, 35, { op := 0xC701, job := .fence 59 noSub false, ld := some 9 }, 59, noSub, by decide +kernel⟩

theorem wit_FaultFenceTrainingAndHealCommandsActAndAnswer_13 : ∃ (s : State) (c : Fin 64) (m : Cmd) (ok : Bool) (rate : Fin 5), (s.asked c 0xC703 m .a false [0] false [(0, 2)]) ∧ (m.byte 0 ≤ 1) ∧ (m.byte 1 ≤ (if m.byte 0 = 1 then 31 else 15)) ∧ (s.bgRuns c = false) ∧ (s.mayRetrain (m.byte 0 == 1) (m.byte 1) = true) :=
  ⟨{ wAsk 0xC703 [1, 3] [] [] with fresh := 0 }, 35, wCmd 0xC703 [1, 3] [], true, 3, by decide +kernel⟩

theorem wit_FaultFenceTrainingAndHealCommandsActAndAnswer_14 : ∃ (s : State) (c : Fin 64) (m : Cmd) (ok : Bool) (rate : Fin 5), (s.asked c 0xC703 m .a false [0] false [(0, 2)]) ∧ (m.byte 0 ≤ 1) ∧ (m.byte 1 ≤ (if m.byte 0 = 1 then 31 else 15)) ∧ (s.bgRuns c = false) ∧ (s.mayRetrain (m.byte 0 == 1) (m.byte 1) = false) :=
  ⟨{ wAsk 0xC703 [0, 3] [] [] with fresh := 0 }, 35, wCmd 0xC703 [0, 3] [], true, 3, by decide +kernel⟩

theorem wit_FaultFenceTrainingAndHealCommandsActAndAnswer_15 : ∃ (s : State) (c : Fin 64) (m : Cmd) (ok : Bool) (rate : Fin 5), (s.asked c 0xC703 m .a false [0] false [(0, 2)]) ∧ (1 < m.byte 0 ∨ (if m.byte 0 = 1 then 31 else 15) < m.byte 1) :=
  ⟨{ wAsk 0xC703 [0, 16] [] [] with fresh := 0 }, 35, wCmd 0xC703 [0, 16] [], true, 3, by decide +kernel⟩

theorem wit_FaultFenceTrainingAndHealCommandsActAndAnswer_16 : ∃ (s : State) (c : Fin 64) (b : BgCmd) (ch : Fin 32) (rate : Fin 5), ((s.cmdAt c fun o => o == 0xC703) = none) ∧ (s.bgOf c = some b) ∧ (b.job = .train true ch) ∧ (b.done = false) :=
  ⟨{ wSt [] with cs := { bg := [(35, { op := 0xC703, job := .train true 3 })] } }, 35, { op := 0xC703, job := .train true 3 }, 3, 2, by decide +kernel⟩

theorem wit_FaultFenceTrainingAndHealCommandsActAndAnswer_17 : ∃ (s : State) (c : Fin 64) (b : BgCmd) (ch : Fin 16) (rate : Fin 5), ((s.cmdAt c fun o => o == 0xC703) = none) ∧ (s.bgOf c = some b) ∧ (b.job = .train false ch) ∧ (b.done = false) ∧ (s.shape) :=
  ⟨{ wSt [] with cs := { bg := [(35, { op := 0xC703, job := .train false 3 })] } }, 35, { op := 0xC703, job := .train false 3 }, 3, 2, by decide +kernel⟩

theorem wit_FaultFenceTrainingAndHealCommandsActAndAnswer_18 : ∃ (s : State) (c : Fin 64) (b : BgCmd) (ch : Fin 32) (rate : Fin 5), ((s.cmdAt c fun o => o == 0xC703) = none) ∧ (s.bgOf c = some b) ∧ (b.job = .train true ch) ∧ (b.done = false) ∧ (s.rd (FUR_CH_STS_STATE ch) = 2) :=
  ⟨{ wSt [(FUR_CH_STS_STATE 3, 2)] with cs := { bg := [(35, { op := 0xC703, job := .train true 3 })] } }, 35, { op := 0xC703, job := .train true 3 }, 3, 2, by decide +kernel⟩

theorem wit_FaultFenceTrainingAndHealCommandsActAndAnswer_19 : ∃ (s : State) (c : Fin 64) (m : Cmd), (s.asked c 0xC704 m .a false [0] false [(8, 8)]) ∧ (m.num 8 8 < 2 ^ 34) ∧ ((match s.rgnOfPage (m.num 8 8) with | none => true | some r => s.rgnSecure r == m.world) = true) ∧ ((s.tierOf (m.num 8 8)).state = .poisoned) ∧ (s.healable (m.num 8 8) = true) :=
  ⟨{ wAsk 0xC704 [0, 0, 0, 0, 0, 0, 0, 0, 9, 0, 8] [] [(TIN_DPA_LIMIT_CAP_GIB, 16), (YOK_STS_TWIN, 2), (⟨YOK_RGN 2, 0, 64⟩, 0x4000000000000000), (⟨TIN_RGN_ATTR 2, 0, 32⟩, 0x80000304), (⟨TIN_RGN_EXT 2, 0, 64⟩, 0x10002)] with fresh := 0, win := { tier := [(0x80009, { state := .poisoned, region := 2 })] } }, 35, wCmd 0xC704 [0, 0, 0, 0, 0, 0, 0, 0, 9, 0, 8] [], by decide +kernel⟩

theorem wit_FaultFenceTrainingAndHealCommandsActAndAnswer_20 : ∃ (s : State) (c : Fin 64) (m : Cmd) (n : Nat), (s.askedAt c 0xC704 m (n + 1)) ∧ (s.yk.healEnded.find? (fun x => x.1 == n) = some (n, 0)) :=
  ⟨{ wAsk 0xC704 [] [] [] with fresh := 0, yk := { healNum := 9, healEnded := [(8, 0)] }, cs := { stage := [(35, 9)] } }, 35, wCmd 0xC704 [] [], 8, by decide +kernel⟩

theorem wit_FaultFenceTrainingAndHealCommandsActAndAnswer_21 : ∃ (s : State) (c : Fin 64) (m : Cmd) (n code : Nat), (s.askedAt c 0xC704 m (n + 1)) ∧ (s.yk.healEnded.find? (fun x => x.1 == n) = some (n, code)) ∧ (code ≠ 0) :=
  ⟨{ wAsk 0xC704 [] [] [] with fresh := 0, yk := { healNum := 9, healEnded := [(8, 5)] }, cs := { stage := [(35, 9)] } }, 35, wCmd 0xC704 [] [], 8, 5, by decide +kernel⟩

theorem wit_FaultFenceTrainingAndHealCommandsActAndAnswer_22 : ∃ (s : State) (c : Fin 64) (m : Cmd), (s.asked c 0xC704 m .a false [0] false [(8, 8)]) ∧ (m.num 8 8 < 2 ^ 34) ∧ ((match s.rgnOfPage (m.num 8 8) with | none => true | some r => s.rgnSecure r == m.world) = true) ∧ ((s.tierOf (m.num 8 8)).state ≠ .poisoned) :=
  ⟨{ wAsk 0xC704 [0, 0, 0, 0, 0, 0, 0, 0, 9] [] [] with fresh := 0 }, 35, wCmd 0xC704 [0, 0, 0, 0, 0, 0, 0, 0, 9] [], by decide +kernel⟩

theorem wit_FaultFenceTrainingAndHealCommandsActAndAnswer_23 : ∃ (s : State) (c : Fin 64) (m : Cmd), (s.asked c 0xC704 m .a false [0] false [(8, 8)]) ∧ (m.num 8 8 < 2 ^ 34) ∧ ((match s.rgnOfPage (m.num 8 8) with | none => true | some r => s.rgnSecure r == m.world) = true) ∧ ((s.tierOf (m.num 8 8)).state = .poisoned) ∧ (s.healable (m.num 8 8) = false) :=
  ⟨{ wAsk 0xC704 [0, 0, 0, 0, 0, 0, 0, 0, 9, 0, 8] [] [(TIN_DPA_LIMIT_CAP_GIB, 16), (⟨TIN_RGN_ATTR 2, 0, 32⟩, 0x80000304), (⟨TIN_RGN_EXT 2, 0, 64⟩, 0x10002)] with fresh := 0, win := { tier := [(0x80009, { state := .poisoned, region := 2 })] } }, 35, wCmd 0xC704 [0, 0, 0, 0, 0, 0, 0, 0, 9, 0, 8] [], by decide +kernel⟩

theorem wit_FaultFenceTrainingAndHealCommandsActAndAnswer_24 : ∃ (s : State) (c : Fin 64) (m : Cmd), (s.asked c 0xC704 m .a false [0] false [(8, 8)]) ∧ (2 ^ 34 ≤ m.num 8 8) :=
  ⟨{ wAsk 0xC704 [0, 0, 0, 0, 0, 0, 0, 0, 9, 0, 0, 0, 4] [] [] with fresh := 0 }, 35, wCmd 0xC704 [0, 0, 0, 0, 0, 0, 0, 0, 9, 0, 0, 0, 4] [], by decide +kernel⟩

theorem wit_FaultFenceTrainingAndHealCommandsActAndAnswer_25 : ∃ (s : State) (c : Fin 64) (m : Cmd), (s.cmdAt c (fun _ => true) = some m) ∧ (s.recovers c = false) ∧ (geltiaOps.contains m.op = false) ∧ (((fwOps ++ cxlOps).contains m.op && m.stdOk) = false) :=
  ⟨wAsk 0xC805 [] [] [], 35, wCmd 0xC805 [] [], by decide +kernel⟩

theorem wit_FaultFenceTrainingAndHealCommandsActAndAnswer_26 : ∃ (s : State) (c : Fin 64), (s.cmdAt c (fun _ => true) = none) :=
  ⟨wSt [], 35, by decide +kernel⟩

theorem wit_StandardCommandsAnswerEventsPoliciesIdentityAndHealth_1 : ∃ (s : State) (c : Fin 64) (m : Cmd), (s.askedStd c 0x0001 m 0) :=
  ⟨{ wStd 0x0001 [] [] with fresh := 0, efl := { otp := [(0, 9), (2, 7)] } }, 5, wStdC 0x0001 [], by decide +kernel⟩

theorem wit_StandardCommandsAnswerEventsPoliciesIdentityAndHealth_2 : ∃ (s : State) (c : Fin 64) (m : Cmd) (len : Nat), (s.askedStd c 0x0001 m len) ∧ (len ≠ 0) :=
  ⟨{ wStd 0x0001 [1, 2] [] with fresh := 0 }, 5, wStdC 0x0001 [1, 2], 2, by decide +kernel⟩

theorem wit_StandardCommandsAnswerEventsPoliciesIdentityAndHealth_3 : ∃ (s : State) (c : Fin 64) (m : Cmd), (s.askedStd c 0x0002 m 0) ∧ (s.bgOf c = none) :=
  ⟨{ wStd 0x0002 [] [] with fresh := 0 }, 5, wStdC 0x0002 [], by decide +kernel⟩

theorem wit_StandardCommandsAnswerEventsPoliciesIdentityAndHealth_4 : ∃ (s : State) (c : Fin 64) (m : Cmd) (b : BgCmd), (s.askedStd c 0x0002 m 0) ∧ (s.bgOf c = some b) ∧ (b.done = true) :=
  ⟨{ wStd 0x0002 [] [] with fresh := 0, cs := { bg := [(5, { op := 0xC100, job := .granary, done := true, final := 4 })] } }, 5, wStdC 0x0002 [], { op := 0xC100, job := .granary, done := true, final := 4 }, by decide +kernel⟩

theorem wit_StandardCommandsAnswerEventsPoliciesIdentityAndHealth_5 : ∃ (s : State) (c : Fin 64) (m : Cmd), (s.askedStd c 0x0100 m 1) ∧ (m.pay 0 1 ≤ 4) :=
  ⟨(wLd36 { wStd 0x0100 [0] [] with fresh := 0 } { events := [{ log := 1, kind := 3, time := 5, dpaLine := none }, { log := 2, kind := 3, time := 5, dpaLine := none }] }), 5, wStdC 0x0100 [0], by decide +kernel⟩

theorem wit_StandardCommandsAnswerEventsPoliciesIdentityAndHealth_6 : ∃ (s : State) (c : Fin 64) (m : Cmd), (s.askedStd c 0x0100 m 1) ∧ (5 ≤ m.pay 0 1) :=
  ⟨{ wStd 0x0100 [5] [] with fresh := 0 }, 5, wStdC 0x0100 [5], by decide +kernel⟩

theorem wit_StandardCommandsAnswerEventsPoliciesIdentityAndHealth_7 : ∃ (s : State) (c : Fin 64) (m : Cmd) (len : Nat), (s.askedStd c 0x0101 m len) ∧ (6 ≤ len) ∧ (m.pay 0 1 ≤ 4) ∧ (m.pay 1 1 % 2 = 1) :=
  ⟨(wLd36 { wStd 0x0101 [0, 1, 0, 0, 0, 0] [] with fresh := 0 } { events := [{ log := 1, kind := 3, time := 5, dpaLine := none }, { log := 2, kind := 3, time := 5, dpaLine := none }] }), 5, wStdC 0x0101 [0, 1, 0, 0, 0, 0], 6, by decide +kernel⟩

theorem wit_StandardCommandsAnswerEventsPoliciesIdentityAndHealth_8 : ∃ (s : State) (c : Fin 64) (m : Cmd) (n : Nat), (s.askedStd c 0x0101 m (6 + 2 * n)) ∧ (n = m.pay 2 1) ∧ (m.pay 0 1 ≤ 4) ∧ (m.pay 1 1 % 2 = 0) ∧ (n ≤ (s.ldOf (s.ldKey m.source)).logLen (m.pay 0 1 + 1)) ∧ ((List.range n).all (fun i => m.pay (6 + 2 * i) 2 == (s.ldOf (s.ldKey m.source)).handleOf (m.pay 0 1 + 1) i) = true) :=
  ⟨(wLd36 { wStd 0x0101 [0, 0, 1, 0, 0, 0, 1, 0] [] with fresh := 0 } { events := [{ log := 1, kind := 3, time := 5, dpaLine := none }, { log := 1, kind := 3, time := 5, dpaLine := none }] }), 5, wStdC 0x0101 [0, 0, 1, 0, 0, 0, 1, 0], 1, by decide +kernel⟩

theorem wit_StandardCommandsAnswerEventsPoliciesIdentityAndHealth_9 : ∃ (s : State) (c : Fin 64) (m : Cmd) (n : Nat), (s.askedStd c 0x0101 m (6 + 2 * n)) ∧ (n = m.pay 2 1) ∧ (m.pay 0 1 ≤ 4) ∧ (m.pay 1 1 % 2 = 0) ∧ (((s.ldOf (s.ldKey m.source)).logLen (m.pay 0 1 + 1) < n ∨ (List.range n).all (fun i => m.pay (6 + 2 * i) 2 == (s.ldOf (s.ldKey m.source)).handleOf (m.pay 0 1 + 1) i) = false)) :=
  ⟨{ wStd 0x0101 [0, 0, 1, 0, 0, 0, 9, 0] [] with fresh := 0 }, 5, wStdC 0x0101 [0, 0, 1, 0, 0, 0, 9, 0], 1, by decide +kernel⟩

theorem wit_StandardCommandsAnswerEventsPoliciesIdentityAndHealth_10 : ∃ (s : State) (c : Fin 64) (m : Cmd), (s.askedStd c 0x0102 m 0) :=
  ⟨(wLd36 { wStd 0x0102 [] [] with fresh := 0 } { policy := 0x0101 }), 5, wStdC 0x0102 [], by decide +kernel⟩

theorem wit_StandardCommandsAnswerEventsPoliciesIdentityAndHealth_11 : ∃ (s : State) (c : Fin 64) (m : Cmd), (s.askedStd c 0x0103 m 5) ∧ ((List.range 5).all (fun i => m.pay i 1 % 4 != 3) = true) :=
  ⟨{ wStd 0x0103 [1, 0, 2, 1, 1] [] with fresh := 0 }, 5, wStdC 0x0103 [1, 0, 2, 1, 1], by decide +kernel⟩

theorem wit_StandardCommandsAnswerEventsPoliciesIdentityAndHealth_12 : ∃ (s : State) (c : Fin 64) (m : Cmd), (s.askedStd c 0x0103 m 4) ∧ ((List.range 4).any (fun i => m.pay i 1 % 4 == 3) = true) :=
  ⟨{ wStd 0x0103 [1, 3, 2, 1] [] with fresh := 0 }, 5, wStdC 0x0103 [1, 3, 2, 1], by decide +kernel⟩

theorem wit_StandardCommandsAnswerEventsPoliciesIdentityAndHealth_13 : ∃ (s : State) (c : Fin 64) (m : Cmd), (s.askedStd c 0x0300 m 0) :=
  ⟨{ wStd 0x0300 [] [(REC_TIME_TIME, 9)] with fresh := 0 }, 5, wStdC 0x0300 [], by decide +kernel⟩

theorem wit_StandardCommandsAnswerEventsPoliciesIdentityAndHealth_14 : ∃ (s : State) (c : Fin 64) (m : Cmd), (s.askedStd c 0x0301 m 8) ∧ (m.core ≠ .sb) :=
  ⟨{ wStd 0x0301 [1, 2, 0, 0, 0, 0, 0, 0] [] with fresh := 0 }, 5, wStdC 0x0301 [1, 2, 0, 0, 0, 0, 0, 0], by decide +kernel⟩

theorem wit_StandardCommandsAnswerEventsPoliciesIdentityAndHealth_15 : ∃ (s : State) (c : Fin 64) (m : Cmd), (s.askedStd c 0x0400 m 0) :=
  ⟨{ wStd 0x0400 [] [] with fresh := 0 }, 5, wStdC 0x0400 [], by decide +kernel⟩

theorem wit_StandardCommandsAnswerEventsPoliciesIdentityAndHealth_16 : ∃ (s : State) (c : Fin 64) (m : Cmd), (s.askedStd c 0x0401 m 24) ∧ (m.raw.take 16 = uuidEffects) ∧ (m.pay 16 4 + m.pay 20 4 ≤ effectsLog.length) :=
  ⟨{ wStd 0x0401 (uuidEffects ++ [4, 0, 0, 0, 8, 0, 0, 0]) [] with fresh := 0 }, 5, wStdC 0x0401 (uuidEffects ++ [4, 0, 0, 0, 8, 0, 0, 0]), by decide +kernel⟩

theorem wit_StandardCommandsAnswerEventsPoliciesIdentityAndHealth_17 : ∃ (s : State) (c : Fin 64) (m : Cmd), (s.askedStd c 0x0401 m 24) ∧ (m.raw.take 16 ≠ uuidEffects) :=
  ⟨{ wStd 0x0401 (List.replicate 24 1) [] with fresh := 0 }, 5, wStdC 0x0401 (List.replicate 24 1), by decide +kernel⟩

theorem wit_StandardCommandsAnswerEventsPoliciesIdentityAndHealth_18 : ∃ (s : State) (c : Fin 64) (m : Cmd), (s.askedStd c 0x4000 m 0) :=
  ⟨{ wStd 0x4000 [] [] with fresh := 0 }, 5, wStdC 0x4000 [], by decide +kernel⟩

theorem wit_StandardCommandsAnswerEventsPoliciesIdentityAndHealth_19 : ∃ (s : State) (c : Fin 64) (m : Cmd) (temp : BitVec 16), (s.askedStd c 0x4200 m 0) :=
  ⟨{ wStd 0x4200 [] [] with fresh := 0, hv := { dirtyShut := 3 } }, 5, wStdC 0x4200 [], 55, by decide +kernel⟩

theorem wit_StandardCommandsAnswerEventsPoliciesIdentityAndHealth_20 : ∃ (s : State) (c : Fin 64) (m : Cmd), (s.askedStd c 0x4201 m 0) :=
  ⟨(wLd36 { wStd 0x4201 [] [] with fresh := 0 } { alert := 0x123456789A01 }), 5, wStdC 0x4201 [], by decide +kernel⟩

theorem wit_StandardCommandsAnswerEventsPoliciesIdentityAndHealth_21 : ∃ (s : State) (c : Fin 64) (m : Cmd), (s.askedStd c 0x4202 m 12) ∧ (m.pay 0 1 = 1) :=
  ⟨{ wStd 0x4202 [1, 1, 80, 0, 0, 0, 0, 0, 0, 0, 0, 0] [] with fresh := 0 }, 5, wStdC 0x4202 [1, 1, 80, 0, 0, 0, 0, 0, 0, 0, 0, 0], by decide +kernel⟩

theorem wit_StandardCommandsAnswerEventsPoliciesIdentityAndHealth_22 : ∃ (s : State) (c : Fin 64) (m : Cmd), (s.askedStd c 0x4202 m 12) ∧ (7 < m.pay 0 1) :=
  ⟨{ wStd 0x4202 [8, 1, 80, 0, 0, 0, 0, 0, 0, 0, 0, 0] [] with fresh := 0 }, 5, wStdC 0x4202 [8, 1, 80, 0, 0, 0, 0, 0, 0, 0, 0, 0], by decide +kernel⟩

theorem wit_StandardCommandsAnswerEventsPoliciesIdentityAndHealth_23 : ∃ (s : State) (c : Fin 64) (m : Cmd), (s.askedStd c 0x4203 m 0) :=
  ⟨(wLd36 { wStd 0x4203 [] [] with fresh := 0 } { shutdown := 1 }), 5, wStdC 0x4203 [], by decide +kernel⟩

theorem wit_StandardCommandsAnswerEventsPoliciesIdentityAndHealth_24 : ∃ (s : State) (c : Fin 64) (m : Cmd), (s.askedStd c 0x4204 m 1) ∧ (m.pay 0 1 ≤ 1) :=
  ⟨{ wStd 0x4204 [1] [] with fresh := 0 }, 5, wStdC 0x4204 [1], by decide +kernel⟩

theorem wit_StandardCommandsAnswerEventsPoliciesIdentityAndHealth_25 : ∃ (s : State) (c : Fin 64) (m : Cmd), (s.askedStd c 0x4204 m 1) ∧ (1 < m.pay 0 1) :=
  ⟨{ wStd 0x4204 [2] [] with fresh := 0 }, 5, wStdC 0x4204 [2], by decide +kernel⟩

theorem wit_FirmwarePoisonAndDynamicCapacityCommandsActAsRuled_1 : ∃ (s : State) (c : Fin 64) (m : Cmd), (s.askedStd c 0x0200 m 0) :=
  ⟨{ wStd 0x0200 [] [] with fresh := 0, efl := { running := some 1 } }, 5, wStdC 0x0200 [], by decide +kernel⟩

theorem wit_FirmwarePoisonAndDynamicCapacityCommandsActAsRuled_2 : ∃ (s : State) (c : Fin 64) (m : Cmd) (len : Nat) (bad : List Nat), (s.askedStd c 0x0201 m len) ∧ (m.pay 0 1 = 1) ∧ ((m.raw.drop 128).length ≤ 3968) ∧ ((m.raw.drop 128).length % 128 = 0) ∧ (128 ≤ len) ∧ (s.cs.fw = none) ∧ (m.pay 1 1 = 1 ∨ m.pay 1 1 = 2) ∧ (m.pay 1 1 ≠ s.slotRun) ∧ (m.pay 4 4 = 0) ∧ (s.bgRuns m.chan = false) :=
  ⟨{ wStd 0x0201 ([1, 2] ++ List.replicate 254 0) [] with fresh := 0 }, 5, wStdC 0x0201 ([1, 2] ++ List.replicate 254 0), 256, [], by decide +kernel⟩

theorem wit_FirmwarePoisonAndDynamicCapacityCommandsActAsRuled_3 : ∃ (s : State) (c : Fin 64) (m : Cmd) (len : Nat) (bad : List Nat), (s.askedStd c 0x0201 m len) ∧ (m.pay 0 1 = 2) ∧ ((m.raw.drop 128).length ≤ 3968) ∧ ((m.raw.drop 128).length % 128 = 0) ∧ (128 ≤ len) ∧ (s.cs.fw = none) :=
  ⟨{ wStd 0x0201 ([2, 2] ++ List.replicate 254 0) [] with fresh := 0 }, 5, wStdC 0x0201 ([2, 2] ++ List.replicate 254 0), 256, [], by decide +kernel⟩

theorem wit_FirmwarePoisonAndDynamicCapacityCommandsActAsRuled_4 : ∃ (s : State) (c : Fin 64) (m : Cmd) (len : Nat) (bad : List Nat), (s.askedStd c 0x0201 m len) ∧ (m.pay 0 1 = 1) ∧ ((m.raw.drop 128).length ≤ 3968) ∧ ((m.raw.drop 128).length % 128 = 0) ∧ (128 ≤ len) ∧ (s.cs.fw = none) ∧ (m.pay 1 1 = 0 ∨ 2 < m.pay 1 1 ∨ m.pay 1 1 = s.slotRun) :=
  ⟨{ wStd 0x0201 ([1, 3] ++ List.replicate 254 0) [] with fresh := 0 }, 5, wStdC 0x0201 ([1, 3] ++ List.replicate 254 0), 256, [], by decide +kernel⟩

theorem wit_FirmwarePoisonAndDynamicCapacityCommandsActAsRuled_5 : ∃ (s : State) (c : Fin 64) (m : Cmd) (len : Nat) (f : FwXfer) (bad : List Nat), (s.askedStd c 0x0201 m len) ∧ (m.pay 0 1 = 1) ∧ ((m.raw.drop 128).length ≤ 3968) ∧ ((m.raw.drop 128).length % 128 = 0) ∧ (128 ≤ len) ∧ (s.cs.fw = some f) :=
  ⟨{ wStd 0x0201 ([1, 2] ++ List.replicate 254 0) [] with fresh := 0, cs := { fw := some { chan := 5, bank := 1, data := [], full := false, sector := 192, next := 128 } } }, 5, wStdC 0x0201 ([1, 2] ++ List.replicate 254 0), 256, { chan := 5, bank := 1, data := [], full := false, sector := 192, next := 128 }, [], by decide +kernel⟩

theorem wit_FirmwarePoisonAndDynamicCapacityCommandsActAsRuled_6 : ∃ (s : State) (c : Fin 64) (m : Cmd) (len : Nat) (f : FwXfer) (bad : List Nat), (s.askedStd c 0x0201 m len) ∧ (m.pay 0 1 = 4) ∧ ((m.raw.drop 128).length ≤ 3968) ∧ ((m.raw.drop 128).length % 128 = 0) ∧ (128 ≤ len) ∧ (s.cs.fw = some f) ∧ (f.chan = m.chan) :=
  ⟨{ wStd 0x0201 ([4, 2] ++ List.replicate 126 0) [] with fresh := 0, cs := { fw := some { chan := 5, bank := 1, data := [], full := false, sector := 192, next := 128 } } }, 5, wStdC 0x0201 ([4, 2] ++ List.replicate 126 0), 128, { chan := 5, bank := 1, data := [], full := false, sector := 192, next := 128 }, [], by decide +kernel⟩

theorem wit_FirmwarePoisonAndDynamicCapacityCommandsActAsRuled_7 : ∃ (s : State) (c : Fin 64) (m : Cmd) (len : Nat) (f : FwXfer), (s.askedStd c 0x0201 m len) ∧ (m.pay 0 1 = 2) ∧ ((m.raw.drop 128).length ≤ 3968) ∧ ((m.raw.drop 128).length % 128 = 0) ∧ (128 < len) ∧ (s.cs.fw = some f) ∧ (f.chan = m.chan) ∧ (s.bgRuns m.chan = false) ∧ (m.pay 4 4 * 128 = f.next) ∧ (f.next + (len - 128) ≤ 192 * 65536) ∧ (s.eflBusy = false) ∧ (s.programErr f.bank (f.next / 32) (wordsOf (m.raw.drop 128)).length = none) :=
  ⟨{ wStd 0x0201 ([2, 2, 0, 0, 1, 0, 0, 0] ++ List.replicate 248 0) [] with fresh := 0, cs := { fw := some { chan := 5, bank := 1, data := [], full := false, sector := 192, next := 128 } } }, 5, wStdC 0x0201 ([2, 2, 0, 0, 1, 0, 0, 0] ++ List.replicate 248 0), 256, { chan := 5, bank := 1, data := [], full := false, sector := 192, next := 128 }, by decide +kernel⟩

theorem wit_FirmwarePoisonAndDynamicCapacityCommandsActAsRuled_8 : ∃ (s : State) (c : Fin 64) (m : Cmd) (len : Nat) (f : FwXfer) (bad : List Nat), (s.askedStd c 0x0201 m len) ∧ (m.pay 0 1 = 2) ∧ ((m.raw.drop 128).length ≤ 3968) ∧ ((m.raw.drop 128).length % 128 = 0) ∧ (128 ≤ len) ∧ (s.cs.fw = some f) ∧ (f.chan = m.chan) ∧ (s.bgRuns m.chan = false) ∧ (m.pay 4 4 * 128 ≠ f.next) :=
  ⟨{ wStd 0x0201 ([2, 2, 0, 0, 2, 0, 0, 0] ++ List.replicate 248 0) [] with fresh := 0, cs := { fw := some { chan := 5, bank := 1, data := [], full := false, sector := 192, next := 128 } } }, 5, wStdC 0x0201 ([2, 2, 0, 0, 2, 0, 0, 0] ++ List.replicate 248 0), 256, { chan := 5, bank := 1, data := [], full := false, sector := 192, next := 128 }, [], by decide +kernel⟩

theorem wit_FirmwarePoisonAndDynamicCapacityCommandsActAsRuled_9 : ∃ (s : State) (c : Fin 64) (f : FwXfer) (bad : List Nat), ((s.cmdAt c fun o => o == 0x0201) = none) ∧ (s.cs.fw = some f) ∧ (f.chan = c) ∧ (s.bgRuns c = true) ∧ (s.efl.erase = none) ∧ (f.busy = false) ∧ (f.sector < 192) ∧ (f.bank ≤ 1) :=
  ⟨{ wSt [] with cs := { fw := some { chan := 5, bank := 1, data := [], full := false }, bg := [(5, { op := 0x0201, job := .erase })] } }, 5, { chan := 5, bank := 1, data := [], full := false }, [], by decide +kernel⟩

theorem wit_FirmwarePoisonAndDynamicCapacityCommandsActAsRuled_10 : ∃ (s : State) (c : Fin 64) (m : Cmd), (s.askedStd c 0x0202 m 2) ∧ (m.pay 0 1 ≤ 1) ∧ (m.pay 1 1 = 1 ∨ m.pay 1 1 = 2) ∧ (s.efl.erase = none) :=
  ⟨{ wStd 0x0202 [1, 2] [] with fresh := 0 }, 5, wStdC 0x0202 [1, 2], by decide +kernel⟩

theorem wit_FirmwarePoisonAndDynamicCapacityCommandsActAsRuled_11 : ∃ (s : State) (c : Fin 64) (m : Cmd), (s.askedStd c 0x0202 m 2) ∧ (1 < m.pay 0 1) :=
  ⟨{ wStd 0x0202 [2, 2] [] with fresh := 0 }, 5, wStdC 0x0202 [2, 2], by decide +kernel⟩

theorem wit_FirmwarePoisonAndDynamicCapacityCommandsActAsRuled_12 : ∃ (s : State) (c : Fin 64) (t0 : Nat), ((s.cmdAt c fun o => o == 0x0202) = none) ∧ (s.cs.activate = some t0) ∧ (t0 + 1000000 ≤ s.now) ∧ (s.hrvBusy = true) :=
  ⟨{ wSt [] with clk := 2000000, cs := { activate := some 5 }, hv := { run := some { cause := 1 } } }, 5, 5, by decide +kernel⟩

theorem wit_FirmwarePoisonAndDynamicCapacityCommandsActAsRuled_13 : ∃ (s : State) (c : Fin 64) (m : Cmd), (s.askedStd c 0x4300 m 16) :=
  ⟨{ wStd 0x4300 ([0, 0, 0, 0, 0, 0, 0, 0, 0, 1, 0, 0, 0, 0, 0, 0]) [] with fresh := 0 }, 5, wStdC 0x4300 ([0, 0, 0, 0, 0, 0, 0, 0, 0, 1, 0, 0, 0, 0, 0, 0]), by decide +kernel⟩

theorem wit_FirmwarePoisonAndDynamicCapacityCommandsActAsRuled_14 : ∃ (s : State) (c : Fin 64) (m : Cmd), (s.askedStd c 0x4301 m 8) ∧ ((s.ldLine m.source (m.pay 0 8 / 64) true).isNone = true) :=
  ⟨{ wStd 0x4301 [0, 0, 0, 0, 0, 0, 0, 0] [] with fresh := 0 }, 5, wStdC 0x4301 [0, 0, 0, 0, 0, 0, 0, 0], by decide +kernel⟩

theorem wit_FirmwarePoisonAndDynamicCapacityCommandsActAsRuled_15 : ∃ (s : State) (c : Fin 64) (m : Cmd), (s.askedStd c 0x4301 m 8) ∧ ((s.ldLine m.source (m.pay 0 8 / 64) true).isSome = true) ∧ ((s.tierOf (m.pay 0 8 / 64 / 64)).state = .poisoned) :=
  ⟨{ wStd 0x4301 (leBytes (2 ^ 31) 8) [(TIN_DPA_LIMIT_CAP_GIB, 16), (⟨TIN_RGN_ATTR 2, 0, 32⟩, 0x80000304), (⟨TIN_RGN_EXT 2, 0, 64⟩, 0x10002), (⟨TIN_RGN_LDWR 2, 0, 64⟩, 8)] with fresh := 0, win := { tier := [(0x80000, { state := .poisoned, region := 2 })] } }, 5, wStdC 0x4301 (leBytes (2 ^ 31) 8), by decide +kernel⟩

theorem wit_FirmwarePoisonAndDynamicCapacityCommandsActAsRuled_16 : ∃ (s : State) (c : Fin 64) (m : Cmd), (s.askedStd c 0x4301 m 8) ∧ ((s.ldLine m.source (m.pay 0 8 / 64) true).isSome = true) ∧ ((s.tierOf (m.pay 0 8 / 64 / 64)).state ≠ .poisoned) ∧ (16 ≤ s.injected) :=
  ⟨{ wStd 0x4301 (leBytes (2 ^ 31) 8) [(TIN_DPA_LIMIT_CAP_GIB, 16), (⟨TIN_RGN_ATTR 2, 0, 32⟩, 0x80000304), (⟨TIN_RGN_EXT 2, 0, 64⟩, 0x10002), (⟨TIN_RGN_LDWR 2, 0, 64⟩, 8)] with fresh := 0, win := { tier := (List.range 16).map fun i => (i, { state := .poisoned, region := 9, psrc := 3 }) } }, 5, wStdC 0x4301 (leBytes (2 ^ 31) 8), by decide +kernel⟩

theorem wit_FirmwarePoisonAndDynamicCapacityCommandsActAsRuled_17 : ∃ (s : State) (c : Fin 64) (m : Cmd), (s.askedStd c 0x4301 m 8) ∧ ((s.ldLine m.source (m.pay 0 8 / 64) true).isSome = true) ∧ ((s.tierOf (m.pay 0 8 / 64 / 64)).state ≠ .poisoned) ∧ (s.injected < 16) :=
  ⟨{ wStd 0x4301 (leBytes (2 ^ 31) 8) [(TIN_DPA_LIMIT_CAP_GIB, 16), (⟨TIN_RGN_ATTR 2, 0, 32⟩, 0x80000304), (⟨TIN_RGN_EXT 2, 0, 64⟩, 0x10002), (⟨TIN_RGN_LDWR 2, 0, 64⟩, 8)] with fresh := 0 }, 5, wStdC 0x4301 (leBytes (2 ^ 31) 8), by decide +kernel⟩

theorem wit_FirmwarePoisonAndDynamicCapacityCommandsActAsRuled_18 : ∃ (s : State) (c : Fin 64) (m : Cmd), ((s.cmdAt c fun o => o == 0x4301) = some m) ∧ (m.stdOk = true) ∧ (m.raw.length = 8) ∧ (s.stageOf c = 1) ∧ ((s.win.poisoning.any fun q => q.page == (m.pay 0 8 / 64 / 64)) = false) :=
  ⟨{ wStd 0x4301 (leBytes (2 ^ 31) 8) [] with fresh := 0, cs := { stage := [(5, 1)] } }, 5, wStdC 0x4301 (leBytes (2 ^ 31) 8), by decide +kernel⟩

theorem wit_FirmwarePoisonAndDynamicCapacityCommandsActAsRuled_19 : ∃ (s : State) (c : Fin 64) (m : Cmd) (env : FabEnv), (s.askedStd c 0x4302 m 72) ∧ ((s.ldLine m.source (m.pay 0 8 / 64) true).isNone = true) :=
  ⟨{ wStd 0x4302 (List.replicate 72 0) [] with fresh := 0 }, 5, wStdC 0x4302 (List.replicate 72 0), {}, by decide +kernel⟩

theorem wit_FirmwarePoisonAndDynamicCapacityCommandsActAsRuled_20 : ∃ (s : State) (c : Fin 64) (m : Cmd) (env : FabEnv), (s.askedStd c 0x4302 m 72) ∧ ((s.ldLine m.source (m.pay 0 8 / 64) true).isSome = true) :=
  ⟨{ wStd 0x4302 (leBytes (2 ^ 31) 8 ++ List.replicate 64 5) [(TIN_DPA_LIMIT_CAP_GIB, 16), (⟨TIN_RGN_ATTR 2, 0, 32⟩, 0x80000304), (⟨TIN_RGN_EXT 2, 0, 64⟩, 0x10002), (⟨TIN_RGN_LDWR 2, 0, 64⟩, 8)] with fresh := 0 }, 5, wStdC 0x4302 (leBytes (2 ^ 31) 8 ++ List.replicate 64 5), {}, by decide +kernel⟩

theorem wit_FirmwarePoisonAndDynamicCapacityCommandsActAsRuled_21 : ∃ (s : State) (c : Fin 64) (m : Cmd) (env : FabEnv), ((s.cmdAt c fun o => o == 0x4302) = some m) ∧ (m.stdOk = true) ∧ (m.raw.length = 72) ∧ (s.stageOf c = 1) ∧ (s.fwWrites (s.ldKey m.source / 16) (s.ldKey m.source % 16) c = false) :=
  ⟨{ wStd 0x4302 (List.replicate 72 0) [] with fresh := 0, cs := { stage := [(5, 1)] } }, 5, wStdC 0x4302 (List.replicate 72 0), {}, by decide +kernel⟩

theorem wit_FirmwarePoisonAndDynamicCapacityCommandsActAsRuled_22 : ∃ (s : State) (c : Fin 64) (m : Cmd), (s.askedStd c 0x4800 m 2) ∧ (m.pay 1 1 < s.dcRegions.length) :=
  ⟨{ wStd 0x4800 [3, 1] [(TIN_DPA_LIMIT_CAP_GIB, 20000)] with fresh := 0 }, 5, wStdC 0x4800 [3, 1], by decide +kernel⟩

theorem wit_FirmwarePoisonAndDynamicCapacityCommandsActAsRuled_23 : ∃ (s : State) (c : Fin 64) (m : Cmd), (s.askedStd c 0x4800 m 2) ∧ (s.dcRegions.length ≤ m.pay 1 1) :=
  ⟨{ wStd 0x4800 [3, 1] [(TIN_DPA_LIMIT_CAP_GIB, 16)] with fresh := 0 }, 5, wStdC 0x4800 [3, 1], by decide +kernel⟩

theorem wit_FirmwarePoisonAndDynamicCapacityCommandsActAsRuled_24 : ∃ (s : State) (c : Fin 64) (m : Cmd), (s.askedStd c 0x4801 m 8) ∧ (m.pay 4 4 ≤ (s.dcList m.source).length) :=
  ⟨(wLd36 { wStd 0x4801 [3, 0, 0, 0, 0, 0, 0, 0] [(⟨TIN_RGN_ATTR 2, 0, 32⟩, 0x80000304), (⟨TIN_RGN_LDRD 2, 0, 64⟩, 8)] with fresh := 0 } { extents := [{ region := 2, base := 4, len := 2, write := true, accepted := true }] }), 5, wStdC 0x4801 [3, 0, 0, 0, 0, 0, 0, 0], by decide +kernel⟩

theorem wit_FirmwarePoisonAndDynamicCapacityCommandsActAsRuled_25 : ∃ (s : State) (c : Fin 64) (m : Cmd), (s.askedStd c 0x4802 m 8) ∧ (m.pay 0 4 = 0) :=
  ⟨(wLd36 { wStd 0x4802 [0, 0, 0, 0, 0, 0, 0, 0] [] with fresh := 0 } { extents := [{ region := 2, base := 4, len := 2, write := true, accepted := false }] }), 5, wStdC 0x4802 [0, 0, 0, 0, 0, 0, 0, 0], by decide +kernel⟩

theorem wit_FirmwarePoisonAndDynamicCapacityCommandsActAsRuled_26 : ∃ (s : State) (c : Fin 64) (m : Cmd) (n : Nat), (s.askedStd c 0x4802 m (8 + 24 * n)) ∧ (m.pay 0 4 = n) ∧ (0 < n) ∧ ((m.extents.all fun x => (s.ldOf (s.ldKey m.source)).extents.any fun e => e.is x && !e.accepted) = true) :=
  ⟨(wLd36 { wStd 0x4802 ([1, 0, 0, 0, 0, 0, 0, 0] ++ leBytes (4 * 2 ^ 30) 8 ++ leBytes (2 * 2 ^ 30) 8 ++ leBytes 0 8) [] with fresh := 0 } { extents := [{ region := 2, base := 4, len := 2, write := true, accepted := false }] }), 5, wStdC 0x4802 ([1, 0, 0, 0, 0, 0, 0, 0] ++ leBytes (4 * 2 ^ 30) 8 ++ leBytes (2 * 2 ^ 30) 8 ++ leBytes 0 8), 1, by decide +kernel⟩

theorem wit_FirmwarePoisonAndDynamicCapacityCommandsActAsRuled_27 : ∃ (s : State) (c : Fin 64) (m : Cmd) (n : Nat), (s.askedStd c 0x4802 m (8 + 24 * n)) ∧ (m.pay 0 4 = n) ∧ (0 < n) ∧ ((m.extents.all fun x => (s.ldOf (s.ldKey m.source)).extents.any fun e => e.is x && !e.accepted) = false) :=
  ⟨{ wStd 0x4802 ([1, 0, 0, 0, 0, 0, 0, 0] ++ leBytes (4 * 2 ^ 30) 8 ++ leBytes (2 * 2 ^ 30) 8 ++ leBytes 0 8) [] with fresh := 0 }, 5, wStdC 0x4802 ([1, 0, 0, 0, 0, 0, 0, 0] ++ leBytes (4 * 2 ^ 30) 8 ++ leBytes (2 * 2 ^ 30) 8 ++ leBytes 0 8), 1, by decide +kernel⟩

theorem wit_FirmwarePoisonAndDynamicCapacityCommandsActAsRuled_28 : ∃ (s : State) (c : Fin 64) (m : Cmd) (n : Nat), (s.askedStd c 0x4803 m (8 + 24 * n)) ∧ (m.pay 0 4 = n) ∧ (0 < n) ∧ ((m.extents.all fun x => (s.ldOf (s.ldKey m.source)).extents.any fun e => e.is x && e.accepted) = true) :=
  ⟨(wLd36 { wStd 0x4803 ([1, 0, 0, 0, 0, 0, 0, 0] ++ leBytes (4 * 2 ^ 30) 8 ++ leBytes (2 * 2 ^ 30) 8 ++ leBytes 0 8) [] with fresh := 0 } { extents := [{ region := 2, base := 4, len := 2, write := true, accepted := true }] }), 5, wStdC 0x4803 ([1, 0, 0, 0, 0, 0, 0, 0] ++ leBytes (4 * 2 ^ 30) 8 ++ leBytes (2 * 2 ^ 30) 8 ++ leBytes 0 8), 1, by decide +kernel⟩

theorem wit_FirmwarePoisonAndDynamicCapacityCommandsActAsRuled_29 : ∃ (s : State) (c : Fin 64) (m : Cmd), (s.askedStd c 0x4803 m 8) ∧ (m.pay 0 4 = 0) :=
  ⟨{ wStd 0x4803 [0, 0, 0, 0, 0, 0, 0, 0] [] with fresh := 0 }, 5, wStdC 0x4803 [0, 0, 0, 0, 0, 0, 0, 0], by decide +kernel⟩

theorem wit_FirmwarePoisonAndDynamicCapacityCommandsActAsRuled_30 : ∃ (s : State) (c : Fin 64) (m : Cmd) (n : Nat), (s.askedStd c 0x4803 m (8 + 24 * n)) ∧ (m.pay 0 4 = n) ∧ (0 < n) ∧ ((m.extents.all fun x => (s.ldOf (s.ldKey m.source)).extents.any fun e => e.is x && e.accepted) = false) :=
  ⟨{ wStd 0x4803 ([1, 0, 0, 0, 0, 0, 0, 0] ++ leBytes (4 * 2 ^ 30) 8 ++ leBytes (2 * 2 ^ 30) 8 ++ leBytes 0 8) [] with fresh := 0 }, 5, wStdC 0x4803 ([1, 0, 0, 0, 0, 0, 0, 0] ++ leBytes (4 * 2 ^ 30) 8 ++ leBytes (2 * 2 ^ 30) 8 ++ leBytes 0 8), 1, by decide +kernel⟩

theorem wit_FirmwarePoisonAndDynamicCapacityCommandsActAsRuled_31 : ∃ (s : State) (c : Fin 64) (m : Cmd) (len : Nat), (s.askedStd c 0x4803 m len) ∧ (8 ≤ len) ∧ (len ≠ 8 + 24 * m.pay 0 4) :=
  ⟨{ wStd 0x4803 [0, 0, 0, 0, 0, 0, 0, 0, 0] [] with fresh := 0 }, 5, wStdC 0x4803 [0, 0, 0, 0, 0, 0, 0, 0, 0], 9, by decide +kernel⟩

theorem wit_AWriteOfTheCommitRegisterIsRefusedWhileItIsBusy_1 : ∃ (s : State) (a : Agent) (r : Fin 256), (s.reaches a TIN_RGN_COMMIT = true) ∧ (s.on TIN_RGN_STATUS_BUSY = true) :=
  ⟨wOn [12] [(TIN_RGN_STATUS_BUSY, 1), (TIN_RGN_STATUS_RESULT, 3)], .h0, 9, by decide +kernel⟩

theorem wit_AWriteOfTheCommitRegisterIsRefusedWhileItIsBusy_2 : ∃ (s : State) (a : Agent) (r : Fin 256), (s.reaches a TIN_RGN_COMMIT = true) ∧ (s.on TIN_RGN_STATUS_BUSY = true) ∧ (s.rcd.queue.length < 128) :=
  ⟨wOn [12] [(TIN_RGN_STATUS_BUSY, 1), (TIN_RGN_STATUS_RESULT, 3)], .h3, 200, by decide +kernel⟩

theorem wit_AWriteOfTheCommitRegisterIsRefusedWhileItIsBusy_3 : ∃ (s : State) (a : Agent) (r : Fin 256), (s.reaches a TIN_RGN_COMMIT = true) ∧ (s.on TIN_RGN_STATUS_BUSY = true) :=
  ⟨wOn [12] [(TIN_RGN_STATUS_BUSY, 1), (TIN_RGN_STATUS_RESULT, 3)], .h0, 9, by decide +kernel⟩

theorem wit_AWriteOfTheCommitRegisterIsRefusedWhileItIsBusy_4 : ∃ (s : State) (a : Agent) (r : Fin 256), (s.reaches a TIN_RGN_COMMIT = true) ∧ (s.on TIN_RGN_STATUS_BUSY = true) ∧ (s.rcd.queue.length < 128) :=
  ⟨wOn [12] [(TIN_RGN_STATUS_BUSY, 1), (TIN_RGN_STATUS_RESULT, 3)], .h3, 200, by decide +kernel⟩

theorem wit_AWriteOfTheCommitRegisterIsRefusedWhileItIsBusy_5 : ∃ (s : State) (a : Agent) (r : Fin 256), (s.reaches a TIN_RGN_COMMIT = true) ∧ (s.on TIN_RGN_STATUS_BUSY = true) :=
  ⟨wOn [12] [(TIN_RGN_STATUS_BUSY, 1), (TIN_RGN_STATUS_RESULT, 3)], .h0, 9, by decide +kernel⟩

theorem wit_AWriteOfTheCommitRegisterIsRefusedWhileItIsBusy_6 : ∃ (s : State) (a : Agent) (r : Fin 256), (s.reaches a TIN_RGN_COMMIT = true) ∧ (s.on TIN_RGN_STATUS_BUSY = true) ∧ (s.rcd.queue.length < 128) :=
  ⟨wOn [12] [(TIN_RGN_STATUS_BUSY, 1), (TIN_RGN_STATUS_RESULT, 3)], .h3, 200, by decide +kernel⟩

theorem wit_AWriteOfTheCommitRegisterIsRefusedWhileItIsBusy_7 : ∃ (s : State) (a : Agent) (r : Fin 256), (s.reaches a TIN_RGN_COMMIT = true) ∧ (s.on TIN_RGN_STATUS_BUSY = true) :=
  ⟨wOn [12] [(TIN_RGN_STATUS_BUSY, 1), (TIN_RGN_STATUS_RESULT, 3)], .h0, 9, by decide +kernel⟩

theorem wit_AWriteOfTheCommitRegisterIsRefusedWhileItIsBusy_8 : ∃ (s : State) (a : Agent) (r : Fin 256), (s.reaches a TIN_RGN_COMMIT = true) ∧ (s.on TIN_RGN_STATUS_BUSY = true) ∧ (s.rcd.queue.length < 128) :=
  ⟨wOn [12] [(TIN_RGN_STATUS_BUSY, 1), (TIN_RGN_STATUS_RESULT, 3)], .h3, 200, by decide +kernel⟩

theorem wit_AWriteOfTheCommitRegisterIsRefusedWhileItIsBusy_9 : ∃ (s : State) (a : Agent) (v : Word64) (env : BusEnv), (s.reaches a TIN_RGN_COMMIT = true) ∧ (s.on TIN_RGN_STATUS_BUSY = true) :=
  ⟨wOn [12] [(TIN_RGN_STATUS_BUSY, 1), (TIN_RGN_STATUS_RESULT, 3)], .h1, 0x205, {}, by decide +kernel⟩

theorem wit_AWriteOfTheCommitRegisterIsRefusedWhileItIsBusy_10 : ∃ (s : State) (a : Agent) (v : Word64) (env : BusEnv), (s.reaches a TIN_RGN_COMMIT = true) ∧ (s.on TIN_RGN_STATUS_BUSY = true) ∧ (s.rcd.queue.length < 128) :=
  ⟨wOn [12] [(TIN_RGN_STATUS_BUSY, 1), (TIN_RGN_STATUS_RESULT, 3)], .h1, 0x205, {}, by decide +kernel⟩

theorem wit_AReadOfASemaphoreAcquiresItWhenItIsFree_1 : ∃ (s : State) (a : Agent) (k : Fin 32), (s.reaches a (MBX_SEM k) = true) ∧ (s.semHeld k = false) :=
  ⟨wMb [], .sb, 31, by decide +kernel⟩

theorem wit_AReadOfASemaphoreAcquiresItWhenItIsFree_2 : ∃ (s : State) (a : Agent) (k : Fin 32), (s.reaches a (MBX_SEM k) = true) ∧ (s.semHeld k = true) :=
  ⟨wMb [(⟨MBX_SEM 7, 0, 32⟩, 0x40000002)], .h2, 7, by decide +kernel⟩

theorem wit_AReadOfASemaphoreAcquiresItWhenItIsFree_3 : ∃ (s : State) (a : Agent) (k : Fin 32), (s.reaches a (MBX_SEM k) = true) :=
  ⟨wMb [], .h0, 0, by decide +kernel⟩

theorem wit_AReadOfASemaphoreAcquiresItWhenItIsFree_4 : ∃ (s : State) (a : Agent) (k : Fin 32) (size : AccSize) (v : Word64), (s.reaches a (MBX_SEM k) = true) ∧ (size = .b1 ∨ size = .b2) :=
  ⟨wMb [], .h0, 5, .b2, 0, by decide +kernel⟩

theorem wit_ASendToAFullSlotReplacesItsMessage_1 : ∃ (s : State) (a : Agent) (c : Fin 64), (s.reaches a MBX_SEND = true) ∧ (s.maySend a c false = true) ∧ (s.mbxFull c false = true) :=
  ⟨wMb [((MBX_STG_BYTES 2).bank .sb, 0x1234), (MBX_CH_STS_IN_FULL 35, 1), (MBX_IN_HDR_HEADER 35, 2 ^ 32 - 1)], .sb, 35, by decide +kernel⟩

theorem wit_ASendToAFullSlotReplacesItsMessage_2 : ∃ (s : State) (a : Agent) (c : Fin 64), (s.reaches a MBX_SEND = true) ∧ (s.maySend a c true = true) ∧ (s.destOk c (s.rd (MBX_DEST_DKIND.bank a)) (s.rd (MBX_DEST_DEST.bank a)) = true) ∧ (s.mbxFull c true = true) :=
  ⟨wMb [((MBX_STG_BYTES 2).bank .h1, 0x1234), (MBX_CH_STS_OUT_FULL 35, 1), (MBX_OUT_HDR_HEADER 35, 77), (⟨(MBX_DEST_DKIND.bank .h1).addr, MBX_DEST_DKIND.lo, 3⟩, 3)], .h1, 35, by decide +kernel⟩

theorem wit_ASendToAFullSlotReplacesItsMessage_3 : ∃ (s : State) (a : Agent) (c : Fin 64) (out : Bool), (s.reaches a MBX_SEND = true) ∧ (s.maySend a c out = true) ∧ (out = true → s.destOk c (s.rd (MBX_DEST_DKIND.bank a)) (s.rd (MBX_DEST_DEST.bank a)) = true) ∧ (s.mbxFull c out = false) :=
  ⟨wMb [((MBX_STG_BYTES 2).bank .sb, 0x1234), (MBX_IN_HDR_HEADER 35, 5)], .sb, 35, false, by decide +kernel⟩

end Sys2Proof.Machine
end

section
/-!
# Accesses of control space

Where an access ends, what a core's read answers, what a write of a register with no rule of its own stores, and what an
access that is turned away leaves (R11 to R17, R38 to R42, R599, R615).
-/
namespace Sys2Proof.Machine
open Sys2Proof

/-! ## What a requester's shadow does not touch -/

@[simp] theorem reach_dropShadow (s : State) (a b : Agent) (wr wide : Bool) (addr : Nat) :
    (s.dropShadow b).reach a wr wide addr = s.reach a wr wide addr := rfl

@[simp] theorem stampTime_dropShadow (s : State) (a : Agent) : (s.dropShadow a).stampTime = s.stampTime := rfl

/-- The computed parts of a register do not depend on the shadows (R17). -/
theorem showErase_rdW_dropShadow (s : State) (a : Agent) (j : Nat) :
    (s.dropShadow a).showErase.rdW j = s.showErase.rdW j := by
  unfold State.showErase
  simp only [dropShadow_efl]
  split <;> rfl

theorem showLag_rdW_dropShadow (s : State) (a : Agent) (r j : Nat) :
    ((s.dropShadow a).showLag r).rdW j = (s.showLag r).rdW j := by
  have hc : (s.dropShadow a).rgnClass r = s.rgnClass r := rfl
  unfold State.showLag
  rw [hc]
  split <;> rfl

/-- A register reads the same whatever shadows are held. -/
@[simp] theorem liveReg_dropShadow (s : State) (a : Agent) (i : Nat) (d : RegDef) (k key : Nat) :
    (s.dropShadow a).liveReg i d k key = s.liveReg i d k key := by
  unfold State.liveReg
  dsimp only
  split
  case h_5 => rw [showErase_rdW_dropShadow]
  case h_9 => rw [showLag_rdW_dropShadow]
  all_goals rfl

/-! ## Where an access of a register ends -/

theorem findIn_mem {l : List RegDef} {inst off : Nat} {d : RegDef} {k b : Nat} (h : findIn l inst off = some (d, k, b)) :
    d ∈ l := by
  obtain ⟨e, he, hd⟩ := List.exists_of_findSome?_eq_some h
  split at hd
  · split at hd
    · cases hd
    · cases hd; exact he
  · cases hd

/-- An access that ends at a register ends at a row of its window's table. -/
theorem findReg_of_reach {s : State} {a : Agent} {wr wide : Bool} {addr i k b : Nat} {d : RegDef}
    (h : s.reach a wr wide addr = .reg i d k b) : ∃ off, findReg i off = some (d, k, b) := by
  unfold State.reach at h
  dsimp only at h
  repeat' split at h
  all_goals cases h
  all_goals exact ⟨addr % 0x10000, ‹_›⟩

theorem findReg_mem {i off : Nat} {d : RegDef} {k b : Nat} (h : findReg i off = some (d, k, b)) :
    d ∈ regsCommon ∨ d ∈ blkRegs (winBlk i).1 := by
  unfold findReg at h
  dsimp only at h
  have hm := findIn_mem h
  split at hm
  · exact .inl hm
  · exact .inr hm

/-- No register of 64 bits is a semaphore (R461). -/
theorem not_sem_of_w64 {s : State} {a : Agent} {wr wide : Bool} {addr i k b : Nat} {d : RegDef}
    (h : s.reach a wr wide addr = .reg i d k b) (hw : d.w64 = true) : ¬ (i = 94 ∧ d.off = 0x800) := by
  rintro ⟨rfl, ho⟩
  obtain ⟨off, hf⟩ := findReg_of_reach h
  have hc : ∀ e ∈ regsCommon, e.off ≠ 0x800 := by decide
  have hm : ∀ e ∈ blkRegs .mbx, e.off = 0x800 → e.w64 = false := by decide
  rcases findReg_mem hf with hd | hd
  · exact hc d hd ho
  · rw [hm d hd ho] at hw; cases hw

/-! ## Reads -/

/-- A 32-bit read of the low half of a 64-bit register latches the high half (R17). -/
theorem coreRead_low {s : State} {a : Agent} {addr i k : Nat} {d : RegDef} (h : s.reach a false false addr = .reg i d k 0)
    (hw : d.w64 = true) : s.coreRead a addr false =
      { s with
        out := .ctrl a (BitVec.ofNat 64 (s.liveReg i d k (regKey a i d k) % 2 ^ 32)) :: s.out
        shadow := ⟨a, addr, s.liveReg i d k (regKey a i d k) / 2 ^ 32⟩ :: s.shadow.filter fun h => h.a != a } := by
  have hs : (decide (i = 94) && decide (d.off = 0x800)) = false := by
    simpa using fun hi => not_and.1 (not_sem_of_w64 h hw) hi
  simp only [State.coreRead, State.ctrlRead, reach_dropShadow, h, hs, hw, liveReg_dropShadow]
  rfl

/-- A 32-bit read of the high half takes the shadow latched from the word below it or, with none held, the register (R17). -/
theorem coreRead_high {s : State} {a : Agent} {addr i k : Nat} {d : RegDef} (h : s.reach a false false addr = .reg i d k 4)
    (hw : d.w64 = true) : s.coreRead a addr false =
      { s with
        out := .ctrl a (BitVec.ofNat 64 ((s.shadow.find? fun h => h.a == a && h.addr + 4 == addr).elim
          (s.liveReg i d k (regKey a i d k) / 2 ^ 32) Shadow.hi)) :: s.out
        shadow := s.shadow.filter fun h => h.a != a } := by
  have hs : (decide (i = 94) && decide (d.off = 0x800)) = false := by
    simpa using fun hi => not_and.1 (not_sem_of_w64 h hw) hi
  simp only [State.coreRead, State.ctrlRead, reach_dropShadow, h, hs, hw, liveReg_dropShadow]
  cases s.shadow.find? fun h => h.a == a && h.addr + 4 == addr <;> rfl

/-! ## Writes of registers with no rule of their own -/

/-- A window's register with no rule of its own is stored by its access codes (R12). -/
theorem wrReg_plain (s : State) (i : Nat) (w : RegWr) (hn : w.d.name ∉ ownRule) (ho : 0x100 ≤ w.d.off) : s.wrReg i w = s.put w := by
  simp only [ownRule, List.cons_append, List.nil_append, List.mem_cons, List.not_mem_nil, not_or, or_false] at hn
  unfold State.wrReg
  rw [if_neg (by omega)]
  split
  case h_7 => rfl
  all_goals
    simp only [State.wrHpt, State.wrNpt, State.wrTin, State.wrTc, State.wrNch, State.wrDrm, State.wrWin, State.wrFur, State.wrFc,
      State.wrHrv, State.wrYok, State.wrDrl, State.wrGrn, State.wrCph, State.wrHdl, State.wrMbx, State.wrEfl, State.wrPwr,
      State.wrRst, State.wrRec, State.wrTth]
    split <;> simp_all only [not_true_eq_false, and_false, false_and]

theorem put_rdW (s : State) (w : RegWr) : (s.put w).rdW w.key =
    ((s.rdW w.key &&& ~~~ (BitVec.ofNat 64 w.d.rw &&& BitVec.ofNat 64 w.m) |||
      (BitVec.ofNat 64 w.v &&& (BitVec.ofNat 64 w.d.rw &&& BitVec.ofNat 64 w.m))) &&&
      ~~~ (BitVec.ofNat 64 w.v &&& BitVec.ofNat 64 w.d.w1c)) := by
  have hk (x : Word64) : x &&& ~~~ BitVec.ofNat 64 0 = x := BitVec.and_allOnes
  simp only [State.put, State.store, hk, rdW_wrW_same]

/-- A write that queues no record leaves the queue as it is. -/
theorem wrRegAs_put {s : State} {i : Nat} {w : RegWr} (h : s.wrReg i w = s.put w) (wide : Bool) (addr : Nat) (v : Word64) :
    s.wrRegAs i w wide addr v = s.put w := by
  have hq : (s.put w).rcd.queue = s.rcd.queue := rfl
  simp [State.wrRegAs, h, hq, asMade]

/-! ## Accesses turned away -/

theorem badRec_dropShadow (s : State) (a b : Agent) (wr wide : Bool) (reason addr : Nat) (v : Word64) :
    badRec (s.dropShadow b) a wr wide reason addr v = badRec s a wr wide reason addr v := rfl

/-- An access that ends with a reason: what the requester sees of it, without its record. -/
def State.bounced (s : State) (a : Agent) (wr wide : Bool) (reason addr : Nat) (v : Word64) : State :=
  let t := (s.dropShadow a).badAccess a wr wide reason addr (if wr then v else 0)
  if wr then t else t.emit (.ctrl a 0)

theorem turnedAway_eq {s : State} {a : Agent} {wr wide : Bool} {addr r : Nat} (v : Word64) (h : s.reach a wr wide addr = .bad r) :
    s.turnedAway a wr addr wide v r = s.bounced a wr wide r addr v := by
  simp [State.turnedAway, State.bounced, h]

/-- What an access turned away leaves: one record where there is room, zero for a read, a change of the window's fault registers
and of the recorder alone (R38, R599, R615). -/
theorem bounced_spec (s : State) (a : Agent) (wr wide : Bool) (reason addr : Nat) (v : Word64) (hq : s.rcd.queue.length < 128) :
    let t := s.bounced a wr wide reason addr v
    t.rcd.queue = s.rcd.queue ++ [badRec s a wr wide reason addr (if wr then v else 0)] ∧
      t.out = (if wr then s.out else .ctrl a 0 :: s.out) ∧ t.shadow = s.shadow.filter (fun h => h.a != a) ∧
      RegsBut (fltKeys (badWin addr) ++ recKeys) s t ∧
      t = { s with csr := t.csr, rcd := t.rcd, out := t.out, shadow := t.shadow } := by
  have hr := badAccess_queue (s.dropShadow a) a wr wide reason addr (if wr then v else 0) hq
  have hb := regsBut_badAccess (s.dropShadow a) a wr wide reason addr (if wr then v else 0)
  have hf := badAccess_frame (s.dropShadow a) a wr wide reason addr (if wr then v else 0)
  unfold RecOnly at hf
  unfold State.bounced
  generalize (s.dropShadow a).badAccess a wr wide reason addr (if wr then v else 0) = u at hr hb hf
  cases wr <;> exact ⟨hr, by rw [hf]; rfl, by rw [hf]; rfl, hb, by rw [hf]; rfl⟩

theorem badAccess_sets (s : State) (a : Agent) (wr wide : Bool) (reason addr : Nat) (v : Word64) :
    (s.badAccess a wr wide reason addr v).bitOf (FLT_STS_CAUSE (badWin addr)) 0 = true := by
  have hw (w ty src : Nat) (pay : List Byte) (hk : FLT_STS w ∉ recKeys) :
      ((s.raiseQuiet w 0 noSub).record ty src pay).bitOf (FLT_STS_CAUSE w) 0 = true := by
    have hr := regsBut_record (s.raiseQuiet w 0 noSub) ty src pay (FLT_STS w) hk
    have hs := raiseQuiet_sets s w 0 noSub (by decide)
    unfold State.bitOf State.rd at hs ⊢
    rw [show (FLT_STS_CAUSE w).addr = FLT_STS w from rfl] at hs ⊢
    rwa [hr]
  have hk (w : Nat) : FLT_STS w ∉ recKeys := by
    simp only [recKeys, FLT_STS, REC_STS, REC_LOST, List.mem_cons, List.not_mem_nil, or_false, not_or]; omega
  unfold State.badAccess badWin
  dsimp only
  cases winIdx addr <;> exact hw _ _ _ _ (hk _)

end Sys2Proof.Machine
open Sys2Proof Sys2Proof.Machine

/-- Settles O4: each of the three reads is one `coreRead`, whose answer and shadow `coreRead_low` and `coreRead_high` say. -/
theorem halvesOfA64BitRegisterAreReadThroughTheShadow : Obligations.HalvesOfA64BitRegisterAreReadThroughTheShadow := by
  unfold Obligations.HalvesOfA64BitRegisterAreReadThroughTheShadow
  refine ⟨fun s a addr i d k h hw => ?_, fun s a addr i d k hi h hw hf => ?_, fun s a addr i d k h hw hf => ?_⟩
  · exact ⟨_, congrArg Host.Outcome.next (coreRead_low h hw), rfl, rfl, rfl⟩
  · exact ⟨_, congrArg Host.Outcome.next (coreRead_high h hw), by rw [hf]; rfl, rfl, rfl⟩
  · exact ⟨_, congrArg Host.Outcome.next (coreRead_high h hw), by rw [hf]; rfl, rfl, rfl⟩

/-- Settles O2: such a write is a `State.put` of the register, which no rule of its window takes up (`wrReg_plain`). -/
theorem aPlainRegisterWriteStoresItsFieldsByAccessCode : Obligations.APlainRegisterWriteStoresItsFieldsByAccessCode := by
  unfold Obligations.APlainRegisterWriteStoresItsFieldsByAccessCode
  intro s a addr wide v env i d k b h hn ho
  refine ⟨_, rfl, ?_⟩
  simp only [State.ctrlWrite, reach_dropShadow, h]
  rw [wrRegAs_put (wrReg_plain _ i _ hn ho)]
  refine ⟨?_, regsBut_wrW _ _ _, rfl⟩
  rw [put_rdW]
  cases wide <;> simp

/-- Settles O3: each of the five commands ends in `State.bounced`, whose record, answer and frame `bounced_spec` says. -/
theorem accessesTurnedAwayReadZeroWriteNothingAndAreRecorded : Obligations.AccessesTurnedAwayReadZeroWriteNothingAndAreRecorded := by
  unfold Obligations.AccessesTurnedAwayReadZeroWriteNothingAndAreRecorded
  refine ⟨fun s a addr wide v env r h hq => ?_, fun s a wr addr wide v h hq => ?_, fun s a wr addr wide v h hq => ?_,
    fun s wr addr wide v h hq => ?_, fun s a wr addr size v h hq => ?_, fun s a wr addr v hq => ?_⟩
  · obtain ⟨hr, ho, hs, hb, hf⟩ := bounced_spec s a true wide r addr.toNat v hq
    have he : s.ctrlWrite a addr.toNat wide v env = s.bounced a true wide r addr.toNat v := by
      simp [State.ctrlWrite, State.bounced, h]
    refine ⟨_, congrArg Host.Outcome.next he, hr, hb, ?_⟩
    rw [hs, ho] at hf; exact hf
  · exact ⟨_, congrArg Host.Outcome.next (turnedAway_eq v h), bounced_spec s a wr wide 2 addr.toNat v hq⟩
  · exact ⟨_, congrArg Host.Outcome.next (turnedAway_eq v h), bounced_spec s a wr wide 4 addr.toNat v hq⟩
  · exact ⟨_, congrArg Host.Outcome.next (turnedAway_eq v h), bounced_spec s .sb wr wide 3 addr.toNat v hq⟩
  · refine ⟨s.bounced a wr (size == .b8) 1 addr.toNat v, ?_, bounced_spec s a wr _ 1 addr.toNat v hq⟩
    simp [exec, execBadWidthAccess, h, State.bounced]
  · refine ⟨s.bounced a wr false 1 addr.toNat v, ?_, (bounced_spec s a wr _ 1 addr.toNat v hq).1, ?_⟩
    · rfl
    · cases wr <;> exact badAccess_sets (s.dropShadow a) a _ false 1 addr.toNat _
end

section
/-!
# The invariant of O59

`State.Wf` speaks of the registers, of the six memories and of three lengths. Here it is taken apart by the block that holds
each part (`wf_iff`), and every way in which the model writes a state is given its rule: a part that the invariant does not
name may take any value, a block that it names must keep its own part, and a choice, a fold and a pair keep it when each of
their states does. A rule is named after the operation it speaks of, so that a proof `h.wr.bump.onFab` reads as the meaning
`((s.wr …).bump …).onFab …` does.
-/
namespace Sys2Proof.Machine
open Sys2Proof

/-! ## The parts of the invariant -/

/-- The DRAM's part: its bytes and its keys in their canonical form, 16 channels. -/
def Dram.Wf (d : Dram) : Prop := mwf byte0 d.mem = true ∧ mwf (fun _ => (0 : Key)) d.key = true ∧ d.ch.length = 16

/-- The recorder's part: its memory in its canonical form. -/
def Recorder.Wf (q : Recorder) : Prop := mwf byte0 q.mem = true

/-- The cipher engine's part: Headland's working memory in its canonical form. -/
def Cipher.Wf (c : Cipher) : Prop := mwf byte0 c.work = true

/-- The embedded flash's part: its words and the OTP row in their canonical form. -/
def Efl.Wf (e : Efl) : Prop := mwf eflOnes e.words = true ∧ mwf (fun _ => (0 : Word64)) e.otp = true

/-- Yoke's part: two pairs. -/
def Yoke.Wf (y : Yoke) : Prop := y.pairs.length = 2

/-! Keys are no part of it. -/

theorem Cipher.Wf.withRkey {c : Cipher} (h : c.Wf) {k} : ({ c with rkey := k } : Cipher).Wf := h
theorem Cipher.Wf.withCkey {c : Cipher} (h : c.Wf) {k} : ({ c with ckey := k } : Cipher).Wf := h
theorem Cipher.Wf.withPkey {c : Cipher} (h : c.Wf) {k} : ({ c with pkey := k } : Cipher).Wf := h
theorem Cipher.Wf.withFkey {c : Cipher} (h : c.Wf) {k} : ({ c with fkey := k } : Cipher).Wf := h
theorem Cipher.Wf.withDevKey {c : Cipher} (h : c.Wf) {k} : ({ c with devKey := k } : Cipher).Wf := h

/-- A change of Yoke that leaves the number of pairs as it is. -/
theorem Yoke.Wf.of_length {y z : Yoke} (h : y.Wf) (e : z.pairs.length = y.pairs.length) : z.Wf := e.trans h

/-- The invariant by the block that holds each part. -/
theorem wf_iff (s : State) :
    s.Wf ↔ s.CsrWf ∧ s.dr.Wf ∧ s.rcd.Wf ∧ s.cph.Wf ∧ s.efl.Wf ∧ s.nc.length = 16 ∧ s.yk.Wf := by
  constructor
  · rintro ⟨hcsr, ⟨hmem, hkey, hrcd, hwork, hwords, hotp⟩, hnc, hch, hyk⟩
    exact ⟨hcsr, ⟨hmem, hkey, hch⟩, hrcd, hwork, ⟨hwords, hotp⟩, hnc, hyk⟩
  · rintro ⟨hcsr, ⟨hmem, hkey, hch⟩, hrcd, hwork, ⟨hwords, hotp⟩, hnc, hyk⟩
    exact ⟨hcsr, ⟨hmem, hkey, hrcd, hwork, hwords, hotp⟩, hnc, hch, hyk⟩

namespace State.Wf
variable {s t : State}

theorem csr (h : s.Wf) : mwf csrDefault s.csr = true := ((wf_iff s).1 h).1
theorem dr (h : s.Wf) : s.dr.Wf := ((wf_iff s).1 h).2.1
theorem rcd (h : s.Wf) : s.rcd.Wf := ((wf_iff s).1 h).2.2.1
theorem cph (h : s.Wf) : s.cph.Wf := ((wf_iff s).1 h).2.2.2.1
theorem efl (h : s.Wf) : s.efl.Wf := ((wf_iff s).1 h).2.2.2.2.1
theorem nc (h : s.Wf) : s.nc.length = 16 := ((wf_iff s).1 h).2.2.2.2.2.1
theorem yk (h : s.Wf) : s.yk.Wf := ((wf_iff s).1 h).2.2.2.2.2.2

/-! ## Parts that the invariant does not name -/

theorem withPending (h : s.Wf) {x} : ({ s with pending := x } : State).Wf := h
theorem withClk (h : s.Wf) {x} : ({ s with clk := x } : State).Wf := h
theorem withShadow (h : s.Wf) {x} : ({ s with shadow := x } : State).Wf := h
theorem withFresh (h : s.Wf) {x} : ({ s with fresh := x } : State).Wf := h
theorem withOut (h : s.Wf) {x} : ({ s with out := x } : State).Wf := h
theorem withStamps (h : s.Wf) {x} : ({ s with stamps := x } : State).Wf := h
theorem withFab (h : s.Wf) {x} : ({ s with fab := x } : State).Wf := h
theorem withWin (h : s.Wf) {x} : ({ s with win := x } : State).Wf := h
theorem withHp (h : s.Wf) {x} : ({ s with hp := x } : State).Wf := h
theorem withFur (h : s.Wf) {x} : ({ s with fur := x } : State).Wf := h
theorem withHv (h : s.Wf) {x} : ({ s with hv := x } : State).Wf := h
theorem withPw (h : s.Wf) {x} : ({ s with pw := x } : State).Wf := h
theorem withRs (h : s.Wf) {x} : ({ s with rs := x } : State).Wf := h
theorem withDl (h : s.Wf) {x} : ({ s with dl := x } : State).Wf := h
theorem withMb (h : s.Wf) {x} : ({ s with mb := x } : State).Wf := h
theorem withCs (h : s.Wf) {x} : ({ s with cs := x } : State).Wf := h
theorem withNet (h : s.Wf) {x} : ({ s with net := x } : State).Wf := h
theorem withGrn (h : s.Wf) {x} : ({ s with grn := x } : State).Wf := h
theorem withTh (h : s.Wf) {x} : ({ s with th := x } : State).Wf := h

/-! ## Parts that it names -/

theorem withCsr (h : s.Wf) {x : SMap Word64} (hx : mwf csrDefault x = true) : ({ s with csr := x } : State).Wf :=
  (wf_iff _).2 ⟨hx, h.dr, h.rcd, h.cph, h.efl, h.nc, h.yk⟩

theorem withDr (h : s.Wf) {x : Dram} (hx : x.Wf) : ({ s with dr := x } : State).Wf :=
  (wf_iff _).2 ⟨h.csr, hx, h.rcd, h.cph, h.efl, h.nc, h.yk⟩

theorem withRcd (h : s.Wf) {x : Recorder} (hx : x.Wf) : ({ s with rcd := x } : State).Wf :=
  (wf_iff _).2 ⟨h.csr, h.dr, hx, h.cph, h.efl, h.nc, h.yk⟩

theorem withCph (h : s.Wf) {x : Cipher} (hx : x.Wf) : ({ s with cph := x } : State).Wf :=
  (wf_iff _).2 ⟨h.csr, h.dr, h.rcd, hx, h.efl, h.nc, h.yk⟩

theorem withEfl (h : s.Wf) {x : Efl} (hx : x.Wf) : ({ s with efl := x } : State).Wf :=
  (wf_iff _).2 ⟨h.csr, h.dr, h.rcd, h.cph, hx, h.nc, h.yk⟩

theorem withNc (h : s.Wf) {x : List NcBank} (hx : x.length = 16) : ({ s with nc := x } : State).Wf :=
  (wf_iff _).2 ⟨h.csr, h.dr, h.rcd, h.cph, h.efl, hx, h.yk⟩

theorem withYk (h : s.Wf) {x : Yoke} (hx : x.Wf) : ({ s with yk := x } : State).Wf :=
  (wf_iff _).2 ⟨h.csr, h.dr, h.rcd, h.cph, h.efl, h.nc, hx⟩

/-! ## Choices, folds and pairs -/

theorem ite {c : Prop} [Decidable c] (hs : s.Wf) (ht : t.Wf) : (if c then s else t).Wf := by
  split
  · exact hs
  · exact ht

theorem foldl {α : Type} {l : List α} {f : State → α → State} (h : s.Wf) (hf : ∀ t x, t.Wf → (f t x).Wf) : (l.foldl f s).Wf := by
  induction l generalizing s with
  | nil => exact h
  | cons x l ih => exact ih (hf s x h)

/-- The state of a pair that is known by an equation. -/
theorem fst {α : Type} {p : State × α} {x : α} (h : p.1.Wf) (e : p = (t, x)) : t.Wf := by
  subst e; exact h

/-! ## The operations of Machine/Ops.lean -/

theorem wrW (h : s.Wf) {k v} : (s.wrW k v).Wf := h.withCsr (mwf_mset k v h.csr)

end State.Wf

theorem length_modNth {α : Type} (l : List α) (n : Nat) (f : α → α) : (modNth l n f).length = l.length := by
  induction l generalizing n with
  | nil => rfl
  | cons x t ih => cases n <;> simp [modNth, ih]

namespace State.Wf
variable {s : State}

theorem onNc (h : s.Wf) {b f} : (s.onNc b f).Wf := h.withNc ((length_modNth _ _ _).trans h.nc)

theorem onDr (h : s.Wf) {f} (hf : ∀ d : Dram, d.Wf → (f d).Wf := by exact fun _ hd => hd) : (s.onDr f).Wf := h.withDr (hf _ h.dr)

theorem onCh (h : s.Wf) {c f} : (s.onCh c f).Wf :=
  h.withDr ⟨h.dr.1, h.dr.2.1, (length_modNth _ _ _).trans h.dr.2.2⟩

theorem onYk (h : s.Wf) {f} (hf : ∀ y : Yoke, y.Wf → (f y).Wf := by exact fun _ hy => hy) : (s.onYk f).Wf := h.withYk (hf _ h.yk)

theorem onPair (h : s.Wf) {p f} : (s.onPair p f).Wf := h.onYk fun _ hy => (length_modNth _ _ _).trans hy

theorem onCph (h : s.Wf) {f} (hf : ∀ c : Cipher, c.Wf → (f c).Wf := by exact fun _ hc => hc) : (s.onCph f).Wf := h.withCph (hf _ h.cph)

theorem onRec (h : s.Wf) {f} (hf : ∀ q : Recorder, q.Wf → (f q).Wf := by exact fun _ hq => hq) : (s.onRec f).Wf := h.withRcd (hf _ h.rcd)

theorem onEfl (h : s.Wf) {f} (hf : ∀ e : Efl, e.Wf → (f e).Wf := by exact fun _ he => he) : (s.onEfl f).Wf := h.withEfl (hf _ h.efl)

end State.Wf

/-! ## What a command answers -/

/-- A command answers a next state, and that state is well-formed. -/
def Keeps (r : Res) : Prop := ∃ t, r = .next t ∧ t.Wf

theorem keeps_next {t : State} (h : t.Wf) : Keeps (.next t) := ⟨t, rfl, h⟩

end Sys2Proof.Machine
end

section
/-!
# O59: every step answers a next state and keeps the canonical form

One rule for each function of the model that makes a state, in the order of the model's files, and under the function's own
name: `State.Wf.wr` says that `State.wr` keeps the invariant, `State.Wf.execMemWr` that the command `execMemWr` answers a next
state that is well-formed. A proof names the rules of the functions that the definition calls, in the order in which it calls
them, and splits where the definition branches.
-/
namespace Sys2Proof.Machine
open Sys2Proof
-- Over a thousand short lemmas: one after another, they do not start a thread each.
set_option Elab.async false

namespace State.Wf
variable {s : State}

/-! ## Machine/Ops.lean: registers, records, fault registers, stamps, LD events -/

theorem wr (h : s.Wf) {f v} : (s.wr f v).Wf := h.wrW

theorem bumpBy (h : s.Wf) {f n} : (s.bumpBy f n).Wf := h.wr

theorem bump (h : s.Wf) {f} : (s.bump f).Wf := h.bumpBy

theorem wrBit (h : s.Wf) {f b v} : (s.wrBit f b v).Wf := by
  unfold State.wrBit
  extract_lets x
  exact h.wr

theorem tick (h : s.Wf) : s.tick.Wf := h.withClk.wr

theorem emit (h : s.Wf) {o} : (s.emit o).Wf := h.withOut

theorem draw (h : s.Wf) : s.draw.Wf := h.withFresh

theorem stamp (h : s.Wf) {k u} : (s.stamp k u).Wf := h.withStamps

theorem unstamp (h : s.Wf) {k u} : (s.unstamp k u).Wf := h.withStamps

theorem record (h : s.Wf) {ty src pay} : (s.record ty src pay).Wf := by
  unfold State.record
  refine .ite ?_ (.bump (h.withRcd h.rcd))
  extract_lets r t
  exact .wr (h.withRcd h.rcd)

theorem raiseQuiet (h : s.Wf) {w bit sub} : (s.raiseQuiet w bit sub).Wf := by
  unfold State.raiseQuiet
  extract_lets s1
  have hs1 : s1.Wf := h.wrBit.bump
  exact .ite hs1.bump hs1.wr.wr.wr.wr.wr

theorem raiseAs (h : s.Wf) {w bit sub ty pay} : (s.raiseAs w bit sub ty pay).Wf := by
  unfold State.raiseAs
  extract_lets s1
  have hs1 : s1.Wf := h.raiseQuiet
  exact .ite hs1 hs1.record

theorem raise (h : s.Wf) {w bit sub} : (s.raise w bit sub).Wf := by
  unfold State.raise
  extract_lets s1
  have hs1 : s1.Wf := h.raiseQuiet
  exact .ite hs1 hs1.record

theorem cond (h : s.Wf) {w bit sub present} : (s.cond w bit sub present).Wf := .ite h.wrBit.raise (.ite h h.wrBit)

theorem badAccess (h : s.Wf) {a wr wide reason addr v} : (s.badAccess a wr wide reason addr v).Wf := by
  unfold State.badAccess
  extract_lets pay
  split <;> exact h.raiseQuiet.record

theorem ignored (h : s.Wf) {a addr v} : (s.ignored a addr v).Wf := h.badAccess

theorem onLd (h : s.Wf) {k f} : (s.onLd k f).Wf := h.withHp

theorem bgTell (h : s.Wf) {ld} : (s.bgTell ld).Wf := by
  unfold State.bgTell
  split
  · exact h
  · exact h.emit

theorem ldMsi (h : s.Wf) {key log} : (s.ldMsi key log).Wf := .ite h.emit h

theorem ldEvent (h : s.Wf) {key kind log line} : (s.ldEvent key kind log line).Wf := h.onLd.ldMsi

theorem ldEventAll (h : s.Wf) {kind log} : (s.ldEventAll kind log).Wf := h.foldl fun _ _ ht => .ite ht.ldEvent ht

theorem fenceRec (h : s.Wf) {w action dev sub bit mode} : (s.fenceRec w action dev sub bit mode).Wf := by
  unfold State.fenceRec
  extract_lets s0 s1
  have hs0 : s0.Wf := .ite h.ldEventAll h
  have hs1 : s1.Wf := .ite hs0.raiseQuiet hs0
  exact hs1.record

theorem dataLoss (h : s.Wf) {page region psrc cause lines} : (s.dataLoss page region psrc cause lines).Wf :=
  h.raiseQuiet.record

theorem onFab (h : s.Wf) {f} : (s.onFab f).Wf := h.withFab

theorem onWin (h : s.Wf) {f} : (s.onWin f).Wf := h.withWin

/-! ## Machine/Flags.lean: the status the block shows -/

theorem holdFence (h : s.Wf) {w sub bit mode dev} : (s.holdFence w sub bit mode dev).Wf := .ite h h.withRs.fenceRec

theorem showAlt (h : s.Wf) : s.showAlt.Wf := by
  unfold State.showAlt
  extract_lets n s1
  have hs1 : s1.Wf := h.wr
  exact .ite hs1.wr hs1

theorem showCb (h : s.Wf) {c} : (s.showCb c).Wf := by
  unfold State.showCb
  extract_lets n s1
  have hs1 : s1.Wf := h.wr
  exact .ite hs1.wr hs1

theorem showHomes (h : s.Wf) : s.showHomes.Wf := by
  unfold State.showHomes
  refine h.foldl fun _ _ ht => ?_
  extract_lets h'
  exact ht.wr.wr

/-! ## Machine/Access.lean: shadows -/

theorem dropShadow (h : s.Wf) {a} : (s.dropShadow a).Wf := h.withShadow

theorem atReg (h : s.Wf) {a addr v} {op : State → State} (hop : ∀ x, x.Wf → (op x).Wf) : (s.atReg a addr v op).Wf := by
  unfold State.atReg
  extract_lets t
  have ht : t.Wf := h.dropShadow
  split
  · exact ht.badAccess
  · exact .ite ht.badAccess (.ite ht.badAccess (hop _ ht))

theorem atRead (h : s.Wf) {a addr} {op : State → State} (hop : ∀ x, x.Wf → (op x).Wf) : (s.atRead a addr op).Wf := by
  unfold State.atRead
  extract_lets t bad
  have ht : t.Wf := h.dropShadow
  have hbad : ∀ x, (bad x).Wf := fun _ => ht.badAccess.emit
  split
  · exact hbad _
  · exact .ite (hbad _) (.ite (hbad _) (hop _ ht))

/-! ## Machine/Granary.lean: the Granary pool -/

theorem onGrn (h : s.Wf) {f} : (s.onGrn f).Wf := h.withGrn

theorem showGrn (h : s.Wf) {o} : (s.showGrn o).Wf := by
  unfold State.showGrn
  extract_lets s1
  have hs1 : s1.Wf := h.wr.wr.wr
  exact hs1.wr

theorem grnLast (h : s.Wf) {kind owner buf} : (s.grnLast kind owner buf).Wf := .ite h h.wr.wr.wr.wr

theorem grnAlloc (h : s.Wf) {o} : (s.grnAlloc o).1.Wf := by
  unfold State.grnAlloc
  split
  · exact h.bump.raise
  · exact h.onGrn.showGrn

theorem grnRefErr (h : s.Wf) {kind owner buf} : (s.grnRefErr kind owner buf).Wf := h.bump.grnLast.raise

theorem grnAddref (h : s.Wf) {b} : (s.grnAddref b).1.Wf := by
  unfold State.grnAddref
  split
  · exact h.grnRefErr
  · split
    · exact h.grnRefErr
    · exact h.onGrn

theorem grnWithdraw (h : s.Wf) {b owner} : (s.grnWithdraw b owner).Wf := h.onGrn.bump.grnLast.raise.fenceRec.wr

theorem grnRelease (h : s.Wf) {b} : (s.grnRelease b).Wf := by
  unfold State.grnRelease
  split
  · exact h.grnRefErr
  · refine .ite h.onGrn ?_
    extract_lets s1
    have hs1 : s1.Wf := h.onGrn
    exact .ite hs1.grnWithdraw.showGrn hs1.onGrn.showGrn

theorem grnLost (h : s.Wf) {b} : (s.grnLost b).Wf := .ite h.onGrn (.ite h h.grnWithdraw.showGrn)

theorem grnDescLost (h : s.Wf) {first} : (s.grnDescLost first).Wf := by
  unfold State.grnDescLost
  extract_lets s1
  have hs1 : s1.Wf := h.grnLast.raise
  refine hs1.foldl fun _ _ ht => ?_
  extract_lets b o
  exact .ite ht ht.onGrn.grnWithdraw.showGrn

theorem grnBuild (h : s.Wf) : s.grnBuild.Wf := by
  unfold State.grnBuild
  extract_lets s1
  have hs1 : s1.Wf := h.onGrn
  exact hs1.wr.foldl fun _ _ ht => ht.showGrn

theorem writeGrnEnable (h : s.Wf) {on} : (s.writeGrnEnable on).Wf := by
  unfold State.writeGrnEnable
  extract_lets was s1
  have hs1 : s1.Wf := h.wr
  exact .ite hs1.onGrn.wr (.ite hs1.onGrn.wr hs1)

theorem writeGrnCfg (h : s.Wf) {a v} : (s.writeGrnCfg a v).Wf := by
  unfold State.writeGrnCfg
  extract_lets s1 n
  have hs1 : s1.Wf := h.wr
  exact .ite hs1 (.ite hs1.ignored hs1.wr.wr)

theorem writeGrnMin (h : s.Wf) {a o m} : (s.writeGrnMin a o m).Wf := by
  unfold State.writeGrnMin
  extract_lets others
  exact .ite h.ignored h.wr.showGrn

theorem execGranaryAlloc (h : s.Wf) {o} : Keeps (Machine.execGranaryAlloc o s) := keeps_next h.grnAlloc

theorem execGranaryAddref (h : s.Wf) {b} : Keeps (Machine.execGranaryAddref b s) := keeps_next h.grnAddref

theorem execGranaryRelease (h : s.Wf) {b} : Keeps (Machine.execGranaryRelease b s) := keeps_next h.grnRelease

theorem execGranaryEnable (h : s.Wf) {a on} : Keeps (Machine.execGranaryEnable a on s) :=
  keeps_next (h.atReg fun _ ht => ht.writeGrnEnable)

theorem execGranaryReady (h : s.Wf) : Keeps (Machine.execGranaryReady s) := keeps_next (.ite h.grnBuild h)

theorem execGranaryCountWrite (h : s.Wf) {a v} : Keeps (Machine.execGranaryCountWrite a v s) :=
  keeps_next (h.atReg fun _ ht => ht.writeGrnCfg)

theorem execGranaryMinWrite (h : s.Wf) {a o m} : Keeps (Machine.execGranaryMinWrite a o m s) :=
  keeps_next (h.atReg fun _ ht => ht.writeGrnMin)

/-! ## Machine/Nc.lean: the near cache and prefetch (chapter 05) -/

theorem showNc (h : s.Wf) {b} : (s.showNc b).Wf := by
  unfold State.showNc
  extract_lets k
  exact h.wr.wr.wr

theorem ncKill (h : s.Wf) {b p} : (s.ncKill b p).Wf := by
  unfold State.ncKill
  extract_lets n
  exact h.onNc.bumpBy

theorem ncClear (h : s.Wf) {b} : (s.ncClear b).Wf := h.onNc.showNc

theorem ncFence (h : s.Wf) {b dev} : (s.ncFence b dev).Wf := .ite h.holdFence h.ncClear.ncKill.wr.fenceRec

theorem wayDisable (h : s.Wf) {b sb idx way} : (s.wayDisable b sb idx way).Wf := by
  unfold State.wayDisable
  split
  · exact h.ncFence
  · extract_lets s1 s2
    have hs1 : s1.Wf := h.wr.wr.wr.wr
    have hs2 : s2.Wf := hs1.onNc
    exact hs2.wr.showNc.wr.raise.fenceRec

theorem ncLast (h : s.Wf) {b kind idx way word bit} : (s.ncLast b kind idx way word bit).Wf := .ite h h.wr.wr.wr.wr.wr.wr

theorem ncErr (h : s.Wf) {b sb idx way e} : (s.ncErr b sb idx way e).Wf := by
  unfold State.ncErr
  extract_lets k u drop s1
  have hdrop : ∀ x, x.Wf → (drop x).Wf := fun _ ht => ht.onNc.showNc
  have hs1 : s1.Wf := (hdrop _ h.bump.ncLast.raise).stamp
  split
  · exact h
  · extract_lets s1'
    have hs1' : s1'.Wf := h.bump.ncLast.raise.stamp
    exact .ite hs1'.unstamp.wayDisable hs1'
  · extract_lets s1'
    have hs1' : s1'.Wf := (hdrop _ h.bump.ncLast.raise).stamp
    exact .ite hs1'.unstamp.wayDisable hs1'
  · exact .ite hs1.unstamp.wayDisable hs1

theorem setPlru (h : s.Wf) {b set v} : (s.setPlru b set v).Wf := h.onNc

theorem ncInstall (h : s.Wf) {b line d} : (s.ncInstall b line d).Wf := by
  unfold State.ncInstall
  extract_lets set ok here bits way s1
  have hs1 : s1.Wf := h.onNc
  exact .ite h hs1.setPlru.showNc

theorem sbInstall (h : s.Wf) {b line d} : (s.sbInstall b line d).Wf := by
  unfold State.sbInstall
  extract_lets k
  split
  · exact h.onNc
  · split
    · exact h
    · exact h.onNc.bump

theorem ncWrite (h : s.Wf) {line d mask} : (s.ncWrite line d mask).Wf := h.onNc

theorem ncModify (h : s.Wf) {line} : (s.ncModify line).Wf := h.ncKill

theorem ncLookup (h : s.Wf) {line id env} : (s.ncLookup line id env).1.Wf := by
  unfold State.ncLookup
  extract_lets b k live miss
  have hmiss : ∀ t, t.Wf → (miss t).1.Wf := by
    intro t ht
    unfold miss
    extract_lets u
    have hu : u.Wf := ht.bump
    split
    · exact hu.onNc
    · split
      · exact hu.onNc
      · exact hu.bump
  split
  · exact hmiss _ h
  · split
    · split
      · exact h.ncErr.bump.setPlru
      · exact hmiss _ h.ncErr
    · split
      · split
        · exact h.ncErr.onNc.bump.ncInstall
        · exact hmiss _ h.ncErr
      · exact hmiss _ h

theorem pfIssue (h : s.Wf) {b region line} : (s.pfIssue b region line).Wf := .ite h.onNc.bump h

theorem pfTrack (h : s.Wf) {line region} : (s.pfTrack line region).Wf := by
  unfold State.pfTrack
  extract_lets b p tr old lines rest rest' s1 trig pages
  have hs1 : s1.Wf := h.onNc
  exact .ite h (.ite (hs1.foldl fun _ _ ht => ht.pfIssue) hs1)

theorem invStart (h : s.Wf) {b r} : (s.invStart b r).Wf := h.onNc.ncKill.showNc

theorem invPump (h : s.Wf) {b} : (s.invPump b).Wf := by
  unfold State.invPump
  extract_lets k room s1
  have hs1 : s1.Wf := h.onNc
  split
  · extract_lets s2
    have hs2 : s2.Wf := hs1.onNc.invStart
    exact hs2.onNc.showNc
  · exact hs1.showNc

theorem invIssue (h : s.Wf) {r} : (s.invIssue r).Wf := h.foldl fun _ _ ht => ht.onNc.invPump

theorem invEnd (h : s.Wf) {b} : (s.invEnd b).Wf := by
  unfold State.invEnd
  split
  · exact h
  · extract_lets inR
    exact h.onNc.invPump

theorem invBusy (h : s.Wf) : s.invBusy.Wf := .ite h.wr h

theorem ncClearAll (h : s.Wf) : s.ncClearAll.Wf := h.foldl fun _ _ ht => ht.onNc.ncClear.ncKill

theorem ncReset (h : s.Wf) {b} : (s.ncReset b).Wf := h.onNc.showNc

/-! ## Machine/Pages.lean: tier pages and DRAM frames (chapter 07) -/

theorem adj (h : s.Wf) {f up down} : (s.adj f up down).Wf := .ite h (.ite h.wr h.wr)

theorem hvRecord (h : s.Wf) {kind cause out dseq} : (s.hvRecord kind cause out dseq).Wf := h.record

theorem showArm (h : s.Wf) : s.showArm.Wf := by
  unfold State.showArm
  extract_lets n s1 s2
  have hs1 : s1.Wf := h.wr
  have hs2 : s2.Wf := .ite hs1.wr.wr hs1
  exact hs2.cond

theorem showDirty (h : s.Wf) : s.showDirty.Wf := by
  unfold State.showDirty
  extract_lets overCap new b s1
  have hs1 : s1.Wf := .ite h.bump.hvRecord h
  exact hs1.wr.wr.cond.showArm

theorem setTier (h : s.Wf) {p e} : (s.setTier p e).Wf := by
  unfold State.setTier
  extract_lets o age s1 s2 s3 s4 s5
  have hs1 : s1.Wf := h.onWin
  have hs2 : s2.Wf := hs1.adj.adj.adj
  have hs3 : s3.Wf := hs2.adj.adj
  have hs4 : s4.Wf := hs3.adj
  have hs5 : s5.Wf := .ite hs4.wr hs4
  exact .ite hs5 hs5.showDirty

theorem modTier (h : s.Wf) {p f} : (s.modTier p f).Wf := h.setTier

theorem dropHints (h : s.Wf) {p} : (s.dropHints p).Wf := h.onFab

theorem showFrames (h : s.Wf) : s.showFrames.Wf := by
  unfold State.showFrames
  extract_lets pop ranks listed retired used subst
  exact h.wr.wr

theorem setFrame (h : s.Wf) {f u} : (s.setFrame f u).Wf := h.onWin.showFrames

theorem putLine (h : s.Wf) {f i im} : (s.putLine f i im).Wf :=
  h.onDr fun _ ⟨hmem, hkey, hch⟩ => ⟨mwf_copyRange _ _ _ hmem, mwf_mset _ _ hkey, hch⟩

theorem putImg (h : s.Wf) {f im} : (s.putImg f im).Wf := h.foldl fun _ _ ht => ht.putLine

theorem clearFrame (h : s.Wf) {f} : (s.clearFrame f).Wf := h.putImg

theorem cphLast (h : s.Wf) {kind src idx cls} : (s.cphLast kind src idx cls).Wf := .ite h h.wr.wr.wr.wr.wr

theorem keyLost (h : s.Wf) {cls idx} : (s.keyLost cls idx).Wf := h.bump.cphLast.raise

theorem writeLine (h : s.Wf) {f line key d mask} : (s.writeLine f line key d mask).Wf := by
  unfold State.writeLine
  extract_lets old l
  exact h.onDr fun r hr => ⟨mwf_wrLine (l * 64) (mergeLine old d mask) fullMask hr.1, mwf_mset l key hr.2.1, hr.2.2⟩

theorem zeroFrame (h : s.Wf) {f key} : (s.zeroFrame f key).Wf :=
  h.clearFrame.onDr fun _ ⟨hmem, hkey, hch⟩ => ⟨hmem, mwf_foldl_mset _ _ _ hkey, hch⟩

theorem setFur (h : s.Wf) {p loc} : (s.setFur p loc).Wf := h.withFur

theorem heat (h : s.Wf) {p inc full} : (s.heat p inc full).Wf := .ite h.bump h.onWin

theorem showPins (h : s.Wf) : s.showPins.Wf := by
  unfold State.showPins
  extract_lets s1
  have hs1 : s1.Wf := h.wr
  exact hs1.cond

theorem showMoves (h : s.Wf) : s.showMoves.Wf := h.wr

theorem modMove (h : s.Wf) {p f} : (s.modMove p f).Wf := h.onWin

theorem addMove (h : s.Wf) {m} : (s.addMove m).Wf := by
  unfold State.addMove
  extract_lets s1
  have hs1 : s1.Wf := h.onWin.showMoves
  exact .ite hs1 hs1.modTier

theorem endMove (h : s.Wf) {p} : (s.endMove p).Wf := h.onWin.showMoves.modTier

theorem abandonMove (h : s.Wf) {p} : (s.abandonMove p).Wf := by
  unfold State.abandonMove
  split
  · exact h
  · extract_lets s1
    have hs1 : s1.Wf := h.endMove.bump
    split
    · exact hs1
    · exact hs1.setFrame

theorem furRead (h : s.Wf) {p why} : (s.furRead p why).Wf := by
  unfold State.furRead
  split
  · exact h
  · exact h.withFur

theorem wantPage (h : s.Wf) {p drain} : (s.wantPage p drain).Wf := by
  unfold State.wantPage
  extract_lets e promote
  exact .ite h.modMove (.ite (.ite h h.addMove.furRead) (.ite h h.onWin.showMoves.furRead.bump))

theorem poisonStart (h : s.Wf) {p psrc cause lines heal} : (s.poisonStart p psrc cause lines heal).Wf := by
  unfold State.poisonStart
  extract_lets e
  exact .ite h h.onWin.modTier.invIssue

theorem poisonWrite (h : s.Wf) {q} : (s.poisonWrite q).Wf := by
  unfold State.poisonWrite
  extract_lets e s1 s2 s3
  have hs1 : s1.Wf := h.abandonMove.onWin
  have hs2 : s2.Wf := by
    unfold s2
    split
    · exact hs1
    · exact hs1.setFrame.clearFrame
  have hs3 : s3.Wf := hs2.setTier.setFur.dropHints
  exact .ite hs3.dataLoss hs3

theorem poisonBit (h : s.Wf) {p i v} : (s.poisonBit p i v).Wf := by
  unfold State.poisonBit
  split
  · exact h
  · extract_lets b m
    exact .ite h.onWin.modTier h.onWin

theorem releasePage (h : s.Wf) {p} : (s.releasePage p).Wf := by
  unfold State.releasePage
  extract_lets s1 s2
  have hs1 : s1.Wf := h.abandonMove
  have hs2 : s2.Wf := by
    unfold s2
    split
    · exact hs1
    · exact hs1.setFrame.clearFrame
  exact hs2.onWin.setTier.setFur.dropHints.showMoves

theorem showWin (h : s.Wf) : s.showWin.Wf := by
  unfold State.showWin
  extract_lets starved full gov
  exact h.wr.wr.wr.cond

/-! ## Machine/DramQ.lean: the queues of a DRAM channel -/

theorem showQ (h : s.Wf) {c} : (s.showQ c).Wf := by
  unfold State.showQ
  extract_lets n
  exact h.wr.wr

theorem wakeCh (h : s.Wf) {c} : (s.wakeCh c).Wf := .ite h h.onCh.wr

theorem dqRead (h : s.Wf) {f i req cls o} : (s.dqRead f i req cls o).Wf := by
  unfold State.dqRead
  extract_lets c e
  exact h.wakeCh.onCh.showQ

theorem dqIssue (h : s.Wf) {c line} : (s.dqIssue c line).Wf := by
  unfold State.dqIssue
  extract_lets p bank
  exact h.onCh

theorem dqDone (h : s.Wf) {c req issued} : (s.dqDone c req issued).Wf := by
  unfold State.dqDone
  refine .ite ?_ h
  extract_lets s1
  have hs1 : s1.Wf := h.onCh.showQ
  exact .ite (.bump (hs1.foldl fun _ _ ht => ht.dqIssue)) hs1

theorem dqBatch (h : s.Wf) {c sub} : (s.dqBatch c sub).Wf := by
  unfold State.dqBatch
  extract_lets n k go
  exact .ite (.showQ (.bumpBy (h.onCh.foldl fun _ _ ht => ht.dqIssue))) h

theorem dqWrite (h : s.Wf) {f i o} : (s.dqWrite f i o).Wf := by
  unfold State.dqWrite
  extract_lets c e
  exact h.wakeCh.onCh.showQ.dqBatch

/-! ## Machine/Net.lean: frames that the device sends -/

theorem netOut (h : s.Wf) {n conn o} : (s.netOut n conn o).Wf := by
  unfold State.netOut
  split
  · exact h
  · exact h.emit

theorem netSend (h : s.Wf) {n prio o} : (s.netSend n prio o).Wf := .ite h.withNet h.netOut

theorem netResume (h : s.Wf) {n prio} : (s.netResume n prio).Wf := by
  unfold State.netResume
  extract_lets go t s1
  have hs1 : s1.Wf := h.withNet
  exact hs1.foldl fun _ _ ht => ht.netOut

theorem pathEmit (h : s.Wf) {p path o} : (s.pathEmit p path o).Wf := h.netSend

/-! ## Machine/Handoff.lean: what the tines and Winnow hand to Yoke -/

theorem mark (h : s.Wf) {g v} : (s.mark g v).Wf := by
  unfold State.mark
  extract_lets m s1
  have hs1 : s1.Wf := h.onYk
  exact hs1.wr

theorem showLag (h : s.Wf) {r} : (s.showLag r).Wf := .ite h.wr.wr h

theorem yokeQueue (h : s.Wf) {p e} : (s.yokeQueue p e).Wf := h.onPair

theorem handOver (h : s.Wf) {r line ent req} : (s.handOver r line ent req).Wf := by
  unfold State.handOver
  extract_lets g s1
  have hs1 : s1.Wf := .ite (.onYk (.ite h h.mark.onYk)) h
  exact hs1.yokeQueue.showLag

theorem splitMark (h : s.Wf) {r line} : (s.splitMark r line).Wf := .ite h.mark h

theorem ctlSend (h : s.Wf) {p path op pay} : (s.ctlSend p path op pay).Wf := by
  unfold State.ctlSend
  extract_lets y csn a
  exact h.onPair.pathEmit

theorem ctlAll (h : s.Wf) {p op pay} : (s.ctlAll p op pay).Wf := h.foldl fun _ _ ht => ht.ctlSend

theorem dataSend (h : s.Wf) {p f} : (s.dataSend p f).Wf := by
  unfold State.dataSend
  extract_lets a
  exact .ite h (h.foldl fun _ _ ht => ht.pathEmit)

theorem arrive (h : s.Wf) {r} : (s.arrive r).Wf := h.onFab

theorem showHeal (h : s.Wf) {w} : (s.showHeal w).Wf := h.wr

theorem healSend (h : s.Wf) {h'} : (s.healSend h').Wf := by
  unfold State.healSend
  extract_lets p g
  exact h.ctlAll

theorem healAsk (h : s.Wf) {line page why w} : (s.healAsk line page why w).Wf := by
  unfold State.healAsk
  extract_lets q s1 s2
  have hs1 : s1.Wf := h.onYk fun _ hy => hy.of_length (by split <;> rfl)
  have hs2 : s2.Wf := hs1.wr.showHeal
  exact .ite hs2.healSend hs2

theorem healOver (h : s.Wf) {line} : (s.healOver line).Wf := h.onYk

theorem healEnd (h : s.Wf) {h'} : (s.healEnd h').Wf := by
  unfold State.healEnd
  extract_lets s1 s2
  have hs1 : s1.Wf := h.onYk
  have hs2 : s2.Wf := hs1.wr.showHeal
  split
  · exact hs2
  · exact hs2.healSend

/-! ## Machine/YokeRx.lean: received Yoke frames -/

theorem showSeq (h : s.Wf) {p} : (s.showSeq p).Wf := by
  unfold State.showSeq
  extract_lets y low
  exact h.wr.wr.wr

theorem ackSend (h : s.Wf) {p nak} : (s.ackSend p nak).Wf := by
  unfold State.ackSend
  extract_lets n e pay
  exact h.onPair.ctlAll

theorem showSplit (h : s.Wf) : s.showSplit.Wf := h.cond

theorem setYok (h : s.Wf) {r st} : (s.setYok r st).Wf := by
  unfold State.setYok
  extract_lets t t'
  have ht' : t'.Wf := .ite h h.withCs
  exact ht'.wr.showSplit

theorem roleEntry (h : s.Wf) {r action cls role epoch size} : (s.roleEntry r action cls role epoch size).1.Wf := by
  unfold State.roleEntry
  split
  · exact h
  · extract_lets own t t'
    have ht : t.Wf := h.wr.wr
    split
    · exact h.onYk
    · split
      · exact h
      · split
        · exact h
        · exact h.wr.wr.setYok
    · split
      · exact h
      · exact ht.withCs

theorem rxErr (h : s.Wf) {p code} : (s.rxErr p code).Wf := .ite h h.onPair

theorem rxEntry (h : s.Wf) {p e} : (s.rxEntry p e).Wf := by
  cases e with
  | pageUnwritten g => exact .ite h.releasePage h.rxErr
  | pagePoison g psrc => exact .ite h.poisonStart h.rxErr
  | role r act cls role epoch size => exact h.roleEntry.rxErr
  | heal num l d => exact h.onYk
  | checkpoint g => exact h
  | genEnd => exact h
  | _ =>
    unfold State.rxEntry
    dsimp only
    split
    · exact h
    · exact .ite (h.onFab.onPair.foldl fun _ _ ht => ht.arrive) h.rxErr

theorem rxPassed (h : s.Wf) {p f} : (s.rxPassed p f).Wf := by
  unfold State.rxPassed
  extract_lets last s1 s2
  have hs1 : s1.Wf := h.foldl fun _ _ ht => ht.grnRelease
  have hs2 : s2.Wf := hs1.onPair
  exact hs2.showSeq.ackSend

theorem rxPumpFor {n p} (h : s.Wf) : (State.rxPumpFor n p s).Wf := by
  induction n generalizing s with
  | zero => exact h
  | succ n ih =>
    unfold State.rxPumpFor
    extract_lets y
    split
    · split
      · exact .ite (ih h.onFab.onPair) h
      · exact ih h.onPair
    · split
      · exact h
      · split
        · exact ih h.rxPassed
        · exact .ite h.rxEntry (ih h.rxEntry.onPair)

theorem rxPump (h : s.Wf) {p} : (s.rxPump p).Wf := h.rxPumpFor

/-! ## Machine/DrillRx.lean: packets to an endpoint and the ends of their lines -/

theorem onDl (h : s.Wf) {f} : (s.onDl f).Wf := h.withDl

theorem onConn (h : s.Wf) {n f} : (s.onConn n f).Wf := h.onDl

theorem drlLast (h : s.Wf) {kind code conn psn} : (s.drlLast kind code conn psn).Wf := .ite h h.wr.wr.wr.wr.wr

theorem drlEmit (h : s.Wf) {n path op attempt seq off final pay} : (s.drlEmit n path op attempt seq off final pay).Wf := by
  unfold State.drlEmit
  extract_lets c
  exact h.netSend

theorem rspOn (h : s.Wf) {n paths op pay} : (s.rspOn n paths op pay).Wf := by
  unfold State.rspOn
  extract_lets c
  exact .onConn (h.foldl fun _ _ ht => ht.drlEmit)

theorem rspSend (h : s.Wf) {n op pay} : (s.rspSend n op pay).Wf := h.rspOn

theorem sentEmit (h : s.Wf) {n p} : (s.sentEmit n p).Wf := h.foldl fun _ _ ht => ht.drlEmit

theorem seqSend (h : s.Wf) {n p} : (s.seqSend n p).Wf := by
  unfold State.seqSend
  extract_lets c q
  exact .ite h.onConn.sentEmit h.onConn

theorem txFillFor {k n} (h : s.Wf) : (State.txFillFor k n s).Wf := by
  induction k generalizing s with
  | zero => exact h
  | succ k ih =>
    unfold State.txFillFor
    split
    · exact h
    · exact .ite (ih h.onConn.seqSend.onConn) h

theorem drlAck (h : s.Wf) {n nak} : (s.drlAck n nak).Wf := by
  unfold State.drlAck
  extract_lets c sk nk flags pay
  exact h.rspSend.onConn

theorem ackDue (h : s.Wf) {n} : (s.ackDue n).Wf := by
  unfold State.ackDue
  extract_lets c
  refine .ite h ?_
  split
  · exact h.drlAck
  · exact .ite h.drlAck h.onConn

theorem reqDone (h : s.Wf) {n psn} : (s.reqDone n psn).Wf := h.onConn.ackDue

theorem againDone (h : s.Wf) {n r} : (s.againDone n r).Wf := h.onConn

theorem failCount (h : s.Wf) {n code psn} : (s.failCount n code psn).Wf := h.onConn.bump.drlLast

theorem reqFail (h : s.Wf) {n psn code} : (s.reqFail n psn code).Wf := by
  unfold State.reqFail
  extract_lets s1
  have hs1 : s1.Wf := h.failCount.onConn
  exact hs1.seqSend

theorem bufBack (h : s.Wf) {b} : (s.bufBack b).Wf := by
  unfold State.bufBack
  split
  · exact h
  · exact h.grnRelease

theorem answer (h : s.Wf) {n r op status v data} : (s.answer n r op status v data).Wf := by
  unfold State.answer
  extract_lets s1 s2
  have hs1 : s1.Wf := .ite h h.failCount
  have hs2 : s2.Wf := hs1.bufBack.rspSend
  exact .ite hs2.againDone hs2.reqDone

theorem connEnd (h : s.Wf) {n o} : (s.connEnd n o).Wf := by
  unfold State.connEnd
  extract_lets s0 st l mask v
  have hs0 : s0.Wf := h.onFab.bufBack
  split
  · exact hs0
  · split
    · exact .ite hs0.againDone (.ite hs0.answer hs0.answer)
    · extract_lets s1
      have hs1 : s1.Wf := hs0.onConn
      exact .ite hs1.reqDone hs1.answer
    · exact .ite hs0.reqDone (.ite hs0.againDone hs0.reqFail)

theorem onJq (h : s.Wf) {q f} : (s.onJq q f).Wf := h.onDl

theorem onJob (h : s.Wf) {id f} : (s.onJob id f).Wf := h.onDl

theorem jobPart (h : s.Wf) {job} : (s.jobPart job).Wf := by
  unfold State.jobPart
  split
  · exact h
  · refine .ite h ?_
    extract_lets op g n first base
    have hp : (if op = 2 then (s, none) else s.grnAlloc (s.groupOwner g)).1.Wf := by
      split
      · exact h
      · exact h.grnAlloc
    split
    rename_i e
    have ht := hp.fst e
    refine .ite ht.bump.onJob ?_
    extract_lets id o s2
    have hs2 : s2.Wf := ht.onFab.onJob
    exact hs2.foldl fun _ _ hu => hu.arrive

theorem jobParts (h : s.Wf) {job} : (s.jobParts job).Wf := h.foldl fun _ _ ht => ht.jobPart

theorem jobIdle (h : s.Wf) {job} : (s.jobIdle job).Wf := by
  unfold State.jobIdle
  split
  · exact h
  · refine .ite ?_ (.ite h.onJob h)
    extract_lets s1
    have hs1 : s1.Wf := h.onDl
    exact hs1.wr

theorem opHold (h : s.Wf) {op} : (s.opHold op).Wf := by
  unfold State.opHold
  split
  · exact h
  · extract_lets free s1
    have hs1 : s1.Wf := h.onFab
    exact .ite hs1.bufBack hs1

theorem opTake (h : s.Wf) {op line status d} : (s.opTake op line status d).Wf := h.onFab

theorem jobLine (h : s.Wf) {op line status d} : (s.jobLine op line status d).Wf := by
  unfold State.jobLine
  split
  · exact h
  · extract_lets st bad s1 s2 s3
    have hs1 : s1.Wf := .ite h.onJob (.ite h.onJob h)
    have hs2 : s2.Wf := by
      unfold s2
      split
      · exact .ite (.ite hs1.opTake.opHold hs1.arrive) hs1
      · exact hs1
    have hs3 : s3.Wf := hs2.onFab
    split
    · exact hs2
    · refine .ite hs2 (.ite hs2 ?_)
      extract_lets s4
      have hs4 : s4.Wf := hs3.bufBack.onJob
      exact hs4.jobParts.jobIdle

theorem pushAcked (h : s.Wf) {job} : (s.pushAcked job).Wf := h.onJob.jobIdle

theorem drlTake (h : s.Wf) {n ack sacks} : (s.drlTake n ack sacks).Wf := by
  unfold State.drlTake
  extract_lets cov gone s1 s2
  have hs1 : s1.Wf := h.onConn
  have hs2 : s2.Wf := by
    unfold s2
    refine hs1.foldl fun _ _ ht => ?_
    extract_lets t1 t2
    have ht1 : t1.Wf := ht.bufBack
    have ht2 : t2.Wf := by
      unfold t2
      split
      · exact ht1
      · exact ht1.reqDone
    split
    · exact ht2
    · exact ht2.pushAcked
  exact hs2.txFillFor

/-! ## Machine/Tine.lean: a line access at a tine (chapters 02, 04) -/

theorem modReq (h : s.Wf) {id f} : (s.modReq id f).Wf := h.onFab

theorem setPhase (h : s.Wf) {id p} : (s.setPhase id p).Wf := h.modReq

theorem chkFail (h : s.Wf) {src line reason region} : (s.chkFail src line reason region).Wf := by
  unfold State.chkFail
  extract_lets s1 k s2
  have hs1 : s1.Wf := h.bump.raiseQuiet
  have hs2 : s2.Wf := hs1.wr.wr.wr.wr.wr.wr
  exact .ite hs1 hs2.record

theorem sendDrs (h : s.Wf) {link ld tag d poison} : (s.sendDrs link ld tag d poison).Wf := by
  unfold State.sendDrs
  refine .ite ?_ h
  extract_lets s1
  have hs1 : s1.Wf := .ite h.bump h
  exact hs1.emit

theorem sendNdr (h : s.Wf) {link ld tag} : (s.sendNdr link ld tag).Wf := .ite h.emit h

theorem opLine (h : s.Wf) {src op line status d early} : (s.opLine src op line status d early).Wf := by
  unfold State.opLine
  extract_lets s0 s1
  have hs0 : s0.Wf := h.opTake
  have hs1 : s1.Wf := .ite hs0 hs0.opHold
  split
  · exact hs1.rxPump.rxPump
  · split
    · exact .ite hs1.connEnd hs1
    · exact hs1
  · exact hs1.jobLine
  · exact hs1

theorem countRead (h : s.Wf) {r} : (s.countRead r).Wf := .ite h.withTh h

theorem countWrite (h : s.Wf) {r bytes} : (s.countWrite r bytes).Wf := .ite h.withTh h

theorem respond (h : s.Wf) {r status d poison} : (s.respond r status d poison).Wf := by
  unfold State.respond
  split
  · refine .ite h ?_
    split
    · exact h.sendDrs
    · exact h.sendNdr
  · exact h.opLine
  · exact h.opLine
  · exact h.opLine
  · exact h

theorem altTidy (h : s.Wf) : s.altTidy.Wf := h.onFab.showAlt

theorem finish (h : s.Wf) {id} : (s.finish id).Wf := h.onFab.altTidy

theorem complete (h : s.Wf) {r status d poison} : (s.complete r status d poison).Wf :=
  .finish (.respond (.ite h.countRead h))

theorem completePoison (h : s.Wf) {r} : (s.completePoison r).Wf := h.complete.draw

theorem altMode (h : s.Wf) {line m} : (s.altMode line m).Wf := h.onFab

theorem altReader (h : s.Wf) {line id} : (s.altReader line id).Wf := h.onFab

theorem altVote (h : s.Wf) {line w} : (s.altVote line w).Wf := by
  unfold State.altVote
  extract_lets set u s1
  have hs1 : s1.Wf := h.raise.stamp
  exact .ite hs1.unstamp.onFab.raise.fenceRec.wr hs1

theorem cbDrop (h : s.Wf) {line} : (s.cbDrop line).Wf := by
  unfold State.cbDrop
  split
  · exact h
  · exact h.onFab.showCb

theorem modCb (h : s.Wf) {line g} : (s.modCb line g).Wf := h.onFab

theorem drainSort (h : s.Wf) : s.drainSort.Wf := by
  unfold State.drainSort
  extract_lets s1
  have hs1 : s1.Wf := by
    unfold s1
    refine h.foldl fun _ _ ht => .ite ht ?_
    extract_lets w t1
    have ht1 : t1.Wf := ht.modCb
    exact .ite ht1.wantPage ht1
  exact hs1.showWin

theorem rehome (h : s.Wf) : s.rehome.Wf := h.onFab.showHomes

theorem drainTines (h : s.Wf) {p} : (s.drainTines p).Wf := h.onFab.drainSort

theorem clusterFence (h : s.Wf) {c cause dev} : (s.clusterFence c cause dev).Wf := by
  unfold State.clusterFence
  refine .ite h (.ite h.holdFence (.ite h.fenceRec ?_))
  extract_lets s1
  have hs1 : s1.Wf := h.wr.wr.onFab
  exact hs1.rehome.drainTines.fenceRec

theorem tineFence (h : s.Wf) {t cause dev} : (s.tineFence t cause dev).Wf := by
  unfold State.tineFence
  refine .ite h (.ite h.holdFence (.ite h.fenceRec ?_))
  extract_lets s1
  have hs1 : s1.Wf := h.wr.onFab
  exact hs1.rehome.drainTines.fenceRec

theorem cbLoss (h : s.Wf) {l} : (s.cbLoss l).Wf := by
  unfold State.cbLoss
  extract_lets b c s1 s2 s3 s4
  have hs1 : s1.Wf := h.bump.ncLast.raise.raise.cbDrop
  have hs2 : s2.Wf := .ite hs1.altMode hs1.altMode
  have hs3 : s3.Wf := .ite hs2.tineFence hs2.clusterFence
  have hs4 : s4.Wf := .ite hs3.healAsk hs3.poisonStart
  exact hs4.altTidy

theorem highWater (h : s.Wf) {t} : (s.highWater t).Wf := by
  unfold State.highWater
  extract_lets h' h''
  refine .ite ?_ h
  split
  · exact h
  · exact h.modCb.drainSort

theorem heldBack (h : s.Wf) {r} : (s.heldBack r).Wf := by
  unfold State.heldBack
  split
  · exact h.opHold
  · exact h.opHold
  · exact h

theorem splitMarkFor (h : s.Wf) {r} : (s.splitMarkFor r).Wf := by
  unfold State.splitMarkFor
  split
  · exact h
  · exact h
  · exact h.splitMark

theorem ncMergeErr (h : s.Wf) {line e} : (s.ncMergeErr line e).Wf := by
  unfold State.ncMergeErr
  split
  · exact h
  · exact h.ncErr

theorem accepted (h : s.Wf) {r heatFull} : (s.accepted r heatFull).Wf := by
  unfold State.accepted
  extract_lets s' n s1 s2 mir
  have hs' : s'.Wf := h.splitMarkFor
  have hs1 : s1.Wf := hs'.ncWrite.healOver.altMode.highWater.countWrite
  have hs2 : s2.Wf := by
    unfold s2
    split
    · exact hs1
    · exact hs1
    · exact hs1.heat
  exact .ite hs2.complete (.ite hs2.handOver.modCb.altMode.setPhase.heldBack hs2.handOver.complete)

theorem merge (h : s.Wf) {r env} : (s.merge r env).Wf := by
  unfold State.merge
  split
  · exact .ite h.setPhase (.ite h.cbLoss.setPhase h.onFab.ncMergeErr.accepted)
  · split
    · exact h.setPhase
    · exact h.onFab.showCb.ncMergeErr.accepted

theorem poisonedWrite (h : s.Wf) {r} : (s.poisonedWrite r).Wf := by
  unfold State.poisonedWrite
  extract_lets p s' s1 ent
  have hs' : s'.Wf := h.splitMarkFor
  have hs1 : s1.Wf := .ite hs'.poisonBit hs'.poisonStart
  exact .ite hs1.complete (.ite hs1.handOver.setPhase.heldBack hs1.handOver.complete)

theorem erasedWrite (h : s.Wf) {r} : (s.erasedWrite r).Wf := by
  unfold State.erasedWrite
  split
  · exact .ite h.onLd.ldEvent.complete h.complete
  · exact h.complete

theorem deliver (h : s.Wf) {r d heat full} : (s.deliver r d heat full).Wf := by
  unfold State.deliver
  extract_lets d' s1
  have hs1 : s1.Wf := .ite h.heat h
  split
  · refine .ite h.setPhase ?_
    extract_lets old n s2
    have hs2 : s2.Wf := by
      unfold s2
      split
      · exact hs1.onFab
      · exact hs1.onFab
      · exact hs1.onFab
      · exact hs1
    exact hs2.merge
  · exact hs1.complete

theorem specDrop (h : s.Wf) {r} : (s.specDrop r).Wf := by
  unfold State.specDrop
  split
  · exact h
  · exact h.dqDone.modReq.bump

theorem fetch (h : s.Wf) {r env} : (s.fetch r env).Wf := by
  unfold State.fetch
  extract_lets held hint spec issue
  clear_value spec
  have hissue : ∀ x, x.Wf → (issue x).Wf := by
    intro t ht
    cases spec
    · exact ht
    · exact ht.dqRead
  refine .ite h.setPhase ?_
  split
  have ht := h.ncLookup.fst ‹_›
  extract_lets miss
  have hmiss : ∀ x, (miss x).Wf := fun _ => hissue _ ht.modReq.pfTrack
  split
  · exact .deliver (.ite ht.bump ht)
  · exact .pfTrack (.setPhase (.ite ht.bump ht))
  · exact hmiss _
  · exact hmiss _

theorem act (h : s.Wf) {r env} : (s.act r env).Wf := by
  unfold State.act
  extract_lets keyed pois s' b
  have hs' : s'.Wf := h.altReader
  split
  · split
    · refine .ite h.bump.setPhase (.ite hs'.completePoison ?_)
      split
      · exact .ite hs'.cbLoss.fetch (.ite hs'.completePoison (.ite hs'.heat.complete hs'.fetch))
      · exact hs'.fetch
    · exact h
  · refine .ite h.erasedWrite (.ite h.setPhase ?_)
    split
    · exact .ite h.setPhase (.ite h.cbLoss.setPhase (.ite h.deliver h.fetch))
    · exact .ite h.bump.ncLast.raise.raise.fetch h.fetch
  · exact .ite h.poisonedWrite (.ite h.erasedWrite (.ite h.setPhase h.merge))

theorem proceed (h : s.Wf) {r env} : (s.proceed r env).Wf := by
  unfold State.proceed
  extract_lets s'
  have hs' : s'.Wf := by
    unfold s'
    split
    · exact h
    · exact h.altVote
  refine .ite hs'.setPhase ?_
  split
  · exact hs'.act
  · split
    · exact .ite hs' hs'.bump.setPhase
    · exact hs'.onFab.showAlt.act

theorem exclTidy (h : s.Wf) : s.exclTidy.Wf := h.onFab.altTidy

theorem start (h : s.Wf) {r env} : (s.start r env).Wf := by
  unfold State.start
  extract_lets s1 go
  have hs1 : s1.Wf := h.onFab.bump
  have hgo : ∀ x, (go x).Wf := by
    intro _
    unfold go
    extract_lets r'
    exact hs1.onFab.proceed.exclTidy
  split
  · split
    · exact hs1.respond
    · exact hgo _
  · split
    · exact hs1.respond
    · exact hgo _
  · split
    · exact hs1.chkFail.respond.draw
    · exact .ite hs1.respond (hgo _)

theorem enqueue (h : s.Wf) {r} : (s.enqueue r).Wf := by
  unfold State.enqueue
  extract_lets t s1
  have hs1 : s1.Wf := h.onFab
  exact .ite hs1.ncModify hs1

theorem advance {t env} (h : s.Wf) (e : s.advance env = some t) : t.Wf := by
  unfold State.advance at e
  split at e
  · cases e; exact h.proceed.exclTidy
  · split at e
    · cases e; exact h.start
    · split at e
      · cases e; exact h.enqueue
      · cases e

theorem settleFor {env n} (h : s.Wf) : (s.settleFor env n).Wf := by
  induction n generalizing s with
  | zero => exact h
  | succ n ih =>
    unfold State.settleFor
    split
    · exact h
    · exact ih (h.advance ‹_›)

theorem settle (h : s.Wf) : s.settle.Wf := h.settleFor

theorem submit (h : s.Wf) {r env} : (s.submit r env).Wf := by
  unfold State.submit
  extract_lets id
  exact h.arrive.settleFor

/-! ## Machine/Serve.lean: how a read ends, how a combining-buffer line reaches DRAM -/

theorem serveOne (h : s.Wf) {d poison heat id} : (s.serveOne d poison heat id).Wf := by
  unfold State.serveOne
  split
  · exact h
  · exact .ite h.completePoison (.ite (.ite h.erasedWrite h.completePoison) h.deliver)

theorem missFill (h : s.Wf) {line m d poison heat install} : (s.missFill line m d poison heat install).Wf := by
  unfold State.missFill
  extract_lets b s1 s2
  have hs1 : s1.Wf := h.onNc
  have hs2 : s2.Wf := .ite hs1.ncInstall hs1
  exact hs2.foldl fun _ _ ht => ht.serveOne

theorem served (h : s.Wf) {r d poison heat install} : (s.served r d poison heat install).Wf := by
  unfold State.served
  split
  · exact h.missFill
  · exact h.serveOne

theorem hintFill (h : s.Wf) {c page frame} : (s.hintFill c page frame).Wf := h.onFab

theorem onEntry (h : s.Wf) {r} : (s.onEntry r).Wf := by
  unfold State.onEntry
  extract_lets p e key zf s1
  have hs1 : s1.Wf := h.specDrop.heat
  refine .ite h.specDrop.setPhase ?_
  split
  · exact h.specDrop.served
  · exact h.specDrop.served
  · split
    · split
      · exact hs1.served
      · exact hs1.wantPage.setPhase
    · exact hs1.wantPage.setPhase
  · extract_lets s1' s2
    have hs1' : s1'.Wf := h.hintFill
    have hs2 : s2.Wf := hs1'.bump
    exact .ite (.ite hs2.served hs2.setPhase) hs1'.specDrop.dqRead.setPhase
  · exact h

theorem wakePage (h : s.Wf) {p} : (s.wakePage p).Wf := by
  unfold State.wakePage
  refine h.foldl fun _ _ ht => ?_
  split
  · exact ht
  · exact ht.onEntry

theorem retryPages (h : s.Wf) : s.retryPages.Wf := by
  unfold State.retryPages
  refine h.foldl fun _ _ ht => ?_
  extract_lets e
  exact .ite ht.wantPage ht

theorem serveStaged (h : s.Wf) {p im} : (s.serveStaged p im).Wf := by
  unfold State.serveStaged
  refine h.foldl fun _ _ ht => ?_
  split
  · exact ht
  · exact ht.served

theorem takeFrame (h : s.Wf) {p f r} : (s.takeFrame p f r).Wf := by
  unfold State.takeFrame
  extract_lets e s1
  have hs1 : s1.Wf := h.setFrame.zeroFrame
  exact .ite hs1.setTier.onWin hs1.setTier

theorem acceptDrain (h : s.Wf) {l f} : (s.acceptDrain l f).Wf := by
  unfold State.acceptDrain
  extract_lets p i s1 s2 s3 s4
  have hs1 : s1.Wf := h.modTier
  have hs2 : s2.Wf := hs1.writeLine.dqWrite
  have hs3 : s3.Wf := hs2.modMove
  have hs4 : s4.Wf := .ite hs3.poisonBit hs3
  exact hs4.ncWrite.cbDrop.altMode.altTidy

/-! ## Machine/TineCmds.lean: the CXL.mem requests and the events of the tines -/

theorem decodeMiss (h : s.Wf) {link ld hpa wr} : (s.decodeMiss link ld hpa wr).Wf := by
  unfold State.decodeMiss
  extract_lets p q s1
  have hs1 : s1.Wf := h.bump.raise
  exact .ite hs1 hs1.wr.wr.wr.wr

theorem hostAccess (h : s.Wf) {link ld tag hpa r env} : (s.hostAccess link ld tag hpa r env).Wf := by
  unfold State.hostAccess
  refine .ite h ?_
  split
  · exact h.submit
  · extract_lets s1
    have hs1 : s1.Wf := h.decodeMiss
    split
    · exact hs1.sendDrs
    · exact hs1.sendNdr

theorem execMemWr (h : s.Wf) {link ld tag hpa data poison env} : Keeps (Machine.execMemWr link ld tag hpa data poison env s) :=
  keeps_next h.hostAccess

theorem execMemWrPtl (h : s.Wf) {link ld tag hpa data mask poison env} : Keeps (Machine.execMemWrPtl link ld tag hpa data mask
    poison env s) :=
  keeps_next h.hostAccess

theorem execMemRd (h : s.Wf) {link ld tag hpa env} : Keeps (Machine.execMemRd link ld tag hpa env s) :=
  keeps_next h.hostAccess

theorem execMemInv (h : s.Wf) {link ld tag} : Keeps (Machine.execMemInv link ld tag s) := keeps_next (.ite h.sendNdr h)

theorem execMemClnEvct (h : s.Wf) {link ld tag} : Keeps (Machine.execMemClnEvct link ld tag s) :=
  keeps_next (.ite h.sendNdr h)

theorem execMemSpecRd (h : s.Wf) {link ld hpa} : Keeps (Machine.execMemSpecRd link ld hpa s) := by
  unfold Machine.execMemSpecRd
  refine keeps_next (.ite h ?_)
  split
  · exact h.decodeMiss
  · extract_lets line
    split
    · exact h.chkFail
    · exact .ite h.pfIssue h

theorem execUnsupportedM2sOpcode (h : s.Wf) {link ld op} : Keeps (Machine.execUnsupportedM2sOpcode link ld op s) :=
  keeps_next (.ite h.onLd.raise h)

theorem resume (h : s.Wf) {id ok} {go : State → Req → State} (hgo : ∀ t x, t.Wf → (go t x).Wf) : (s.resume id ok go).Wf := by
  unfold State.resume
  split
  · exact h
  · exact .ite (hgo _ _ h).exclTidy.settle h

theorem execTierEntryReturn (h : s.Wf) {req} : Keeps (Machine.execTierEntryReturn req s) :=
  keeps_next (h.resume fun _ _ ht => ht.onEntry)

theorem execSpecDataReturn (h : s.Wf) {req} : Keeps (Machine.execSpecDataReturn req s) := by
  unfold Machine.execSpecDataReturn
  refine keeps_next (h.resume fun _ _ ht => ?_)
  split
  · exact ht
  · extract_lets t1
    have ht1 : t1.Wf := ht.dqDone
    exact .ite ht1.served ht1.modReq

theorem execLockWayFreed (h : s.Wf) {req env} : Keeps (Machine.execLockWayFreed req env s) :=
  keeps_next (h.resume fun _ _ ht => ht.proceed)

theorem execModifyAfterReads (h : s.Wf) {req env} : Keeps (Machine.execModifyAfterReads req env s) :=
  keeps_next (h.resume fun _ _ ht => ht.proceed)

theorem execMirrorWaitReadResume (h : s.Wf) {req env} : Keeps (Machine.execMirrorWaitReadResume req env s) :=
  keeps_next (h.resume fun _ _ ht => ht.proceed)

theorem execCbLineFreedWrite (h : s.Wf) {req env} : Keeps (Machine.execCbLineFreedWrite req env s) :=
  keeps_next (h.resume fun _ _ ht => ht.proceed)

theorem execWorkSteal (h : s.Wf) {thief env} : Keeps (Machine.execWorkSteal thief env s) := by
  unfold Machine.execWorkSteal
  refine keeps_next (.ite ?_ h)
  split
  · exact h
  · split
    · exact h
    · exact h.bump.start.settle

theorem execDrainAgeExpiry (h : s.Wf) {line env} : Keeps (Machine.execDrainAgeExpiry line env s) := by
  unfold Machine.execDrainAgeExpiry
  refine keeps_next ?_
  split
  · exact h
  · exact .ite h (.ite h.cbLoss.settle h.modCb.drainSort)

theorem execFrameReadyForDrain (h : s.Wf) {page frame} : Keeps (Machine.execFrameReadyForDrain page frame s) := by
  unfold Machine.execFrameReadyForDrain
  refine keeps_next ?_
  extract_lets p waits
  clear_value waits
  split
  · exact h
  · exact .ite (.ite h.takeFrame.drainSort h) h.drainSort

theorem execWriteQueueAccept (h : s.Wf) {line} : Keeps (Machine.execWriteQueueAccept line s) := by
  unfold Machine.execWriteQueueAccept
  refine keeps_next ?_
  split
  · exact h
  · refine .ite h ?_
    split
    · exact h
    · exact .ite h.acceptDrain.drainSort.settle h

theorem writeTineFence (h : s.Wf) {a c m} : (s.writeTineFence a c m).Wf := by
  unfold State.writeTineFence
  refine .settle (h.foldl fun _ _ hu => ?_)
  extract_lets n
  exact .ite hu.fenceRec.ignored hu.tineFence

theorem execTineFence (h : s.Wf) {a c m} : Keeps (Machine.execTineFence a c m s) :=
  keeps_next (h.atReg fun _ ht => ht.writeTineFence)

theorem writeClusterFence (h : s.Wf) {a c} : (s.writeClusterFence a c).Wf := .ite h.fenceRec.ignored h.clusterFence.settle

theorem execClusterFence (h : s.Wf) {a c} : Keeps (Machine.execClusterFence a c s) :=
  keeps_next (h.atReg fun _ ht => ht.writeClusterFence)

theorem showCluster (h : s.Wf) {c} : (s.showCluster c).Wf := by
  unfold State.showCluster
  extract_lets up
  exact h.wr.wr.wr

theorem execFenceDrainEnd (h : s.Wf) {c} : Keeps (Machine.execFenceDrainEnd c s) := by
  unfold Machine.execFenceDrainEnd
  refine keeps_next ?_
  split
  · exact h
  · refine .ite h ?_
    extract_lets s1 s2
    have hs1 : s1.Wf := h.onFab
    have hs2 : s2.Wf := .ite hs1.wr.onFab (hs1.foldl fun _ _ ht => ht.wrBit)
    exact hs2.showCluster.rehome.settle

theorem execRequestAbandon (h : s.Wf) {req} : Keeps (Machine.execRequestAbandon req s) := by
  unfold Machine.execRequestAbandon
  refine keeps_next (h.resume fun _ _ ht => ?_)
  extract_lets c t1 t2
  have ht1 : t1.Wf := ht.specDrop.finish.onNc
  have ht2 : t2.Wf := by
    unfold t2
    refine .raise ?_
    split
    · exact ht1.opLine
    · exact ht1.opLine
    · exact ht1
  exact .ite ht2.clusterFence ht2

theorem writeTineUnfence (h : s.Wf) {a c m} : (s.writeTineUnfence a c m).Wf :=
  .settle (.rehome (.showCluster (h.foldl fun _ _ hu => .ite hu.ignored (.ite hu hu.wrBit.fenceRec))))

theorem execTineUnfence (h : s.Wf) {a c m} : Keeps (Machine.execTineUnfence a c m s) :=
  keeps_next (h.atReg fun _ ht => ht.writeTineUnfence)

theorem writeClusterUnfence (h : s.Wf) {a c} : (s.writeClusterUnfence a c).Wf :=
  .ite h.ignored (.ite h.wr.fenceRec.showCluster.rehome.settle h)

theorem execClusterUnfence (h : s.Wf) {a c} : Keeps (Machine.execClusterUnfence a c s) :=
  keeps_next (h.atReg fun _ ht => ht.writeClusterUnfence)

theorem execTineSelfCheckFail (h : s.Wf) {t ok} : Keeps (Machine.execTineSelfCheckFail t ok s) := by
  unfold Machine.execTineSelfCheckFail
  refine keeps_next ?_
  extract_lets c bad u
  have hu : u.Wf := h.onFab
  exact .ite (.ite hu.cond hu) h.onFab.cond.tineFence.settle

theorem writeFlush (h : s.Wf) {c} : (s.writeFlush c).Wf := h.onFab

theorem execHintFlush (h : s.Wf) {a c} : Keeps (Machine.execHintFlush a c s) :=
  keeps_next (h.atReg fun _ ht => ht.writeFlush)

theorem execAltPeakClr (h : s.Wf) {a} : Keeps (Machine.execAltPeakClr a s) := keeps_next (h.atReg fun _ ht => ht.wr)

theorem execCbUsePeakClr (h : s.Wf) {a c} : Keeps (Machine.execCbUsePeakClr a c s) :=
  keeps_next (h.atReg fun _ ht => ht.wr)

/-! ## Machine/DramCmds.lean: the DRAM channels (chapter 06) -/

theorem drmLast (h : s.Wf) {c kind sub dev line} : (s.drmLast c kind sub dev line).Wf := .ite h h.wr.wr.wr.wr.wr

theorem winLast (h : s.Wf) {kind at_} : (s.winLast kind at_).Wf := .ite h h.wr.wr.wr

theorem frameRetire (h : s.Wf) {f} : (s.frameRetire f).Wf := by
  unfold State.frameRetire
  refine .ite h.winLast.raise ?_
  split
  · exact h.setFrame.winLast.raise.showPins
  · exact h.onWin
  · exact h

theorem spareErr (h : s.Wf) {c sub spare line} : (s.spareErr c sub spare line).Wf := h.onCh.drmLast.raise

theorem lineFailing (h : s.Wf) {f i} : (s.lineFailing f i).Wf := by
  unfold State.lineFailing
  extract_lets c line used spare im
  refine .ite h ?_
  split
  · extract_lets s1
    have hs1 : s1.Wf := h.wr.wr.wr.putLine
    exact hs1.wr.bump.raise
  · exact h.bump.raise.frameRetire

theorem ceTrack (h : s.Wf) {c line} : (s.ceTrack c line).1.Wf := by
  unfold State.ceTrack
  extract_lets win live mine rest oldest rest'
  exact h.onCh

theorem dropClean (h : s.Wf) {p f} : (s.dropClean p f).Wf := by
  unfold State.dropClean
  extract_lets e
  exact h.setFrame.clearFrame.setTier.dropHints

theorem packetLost (h : s.Wf) {b} : (s.packetLost b).Wf := by
  unfold State.packetLost
  extract_lets waits s1 s2
  have hs1 : s1.Wf := h.grnLost
  have hs2 : s2.Wf := hs1.foldl fun _ _ ht => .ite ht.bufBack.onConn ht
  refine hs2.foldl fun _ _ ht => ?_
  split
  · exact ht
  · exact .onPair (ht.foldl fun _ _ hu => hu.bufBack)

theorem bufTold (h : s.Wf) {b} : (s.bufTold b).Wf := by
  unfold State.bufTold
  extract_lets waits no s1
  have hs1 : s1.Wf := h.onFab.onDl
  refine hs1.foldl fun _ _ ht => ?_
  split
  · exact ht
  · exact .onPair (ht.foldl fun _ _ hu => hu.bufBack)

theorem descLost (h : s.Wf) {first} : (s.descLost first).Wf := .grnDescLost (h.foldl fun _ _ ht => .ite ht.bufTold ht)

theorem dropShare (h : s.Wf) {c rank} : (s.dropShare c rank).Wf := by
  unfold State.dropShare
  extract_lets pool on lost
  exact .onWin (h.foldl fun _ _ ht => ht.packetLost)

theorem dramFence (h : s.Wf) {c rank drop dev bit} : (s.dramFence c rank drop dev bit).Wf := by
  unfold State.dramFence
  extract_lets sub s1 s2
  have hs1 : s1.Wf := h.onCh.wr.fenceRec
  have hs2 : s2.Wf := by
    unfold s2
    refine hs1.foldl fun _ _ ht => ?_
    extract_lets e
    exact .ite ht (.ite ht.dropClean (.ite ht.poisonStart ht))
  exact .ite h (.ite h.holdFence (.ite h.fenceRec (.showFrames (.ite hs2.dropShare hs2))))

theorem dropTurn (h : s.Wf) {c} : (s.dropTurn c).Wf := by
  unfold State.dropTurn
  extract_lets s1
  have hs1 : s1.Wf := h.onCh
  exact .dropShare (hs1.foldl fun _ _ ht => .ite ht ht.poisonStart)

theorem lineEcc (h : s.Wf) {f i ecc} : (s.lineEcc f i ecc).1.Wf := by
  unfold State.lineEcc
  extract_lets c line spare sp ce r u s1 s2
  clear_value spare
  have hsp : (sp s).Wf := by
    cases spare
    · exact h
    · exact h.spareErr
  have hce : ∀ x, (ce x).1.Wf := by
    intro x
    unfold ce
    extract_lets s1
    split
    have ht := hsp.bump.drmLast.raise.ceTrack.fst ‹_›
    extract_lets s3
    have hs3 : s3.Wf := .ite ht ht.dqWrite
    exact .ite hs3.lineFailing hs3
  have hs1 : s1.Wf := hsp.bump.drmLast.raise.stamp.lineFailing
  have hs2 : s2.Wf := .ite hs1.unstamp.dramFence hs1
  split
  · exact h
  · exact hce _
  · exact hce _
  · exact hs2

theorem recover (h : s.Wf) {p f i w} : (s.recover p f i w).1.Wf := by
  unfold State.recover
  extract_lets e
  split
  · exact h.putLine
  · exact h
  · split
    · exact h.healAsk
    · exact h.poisonStart

theorem dramServe (h : s.Wf) {r d} : (s.dramServe r d).Wf := by
  unfold State.dramServe
  split
  · exact h.onNc
  · exact h.serveOne

theorem execDramReadReturn (h : s.Wf) {t ecc} : Keeps (Machine.execDramReadReturn t ecc s) := by
  unfold Machine.execDramReadReturn
  refine keeps_next (.ite h ?_)
  split
  · split
    · exact h
    · split
      · extract_lets s1 data
        have hs1 : s1.Wf := h.dqDone
        split
        have ht := hs1.lineEcc.fst ‹_›
        refine .ite ht.keyLost.served.exclTidy.settle (.ite ht.dramServe.exclTidy.settle ?_)
        split
        · have ht' := ht.recover.fst ‹_›
          exact ht'.dramServe.exclTidy.settle
        · have ht' := ht.recover.fst ‹_›
          exact ht'.setPhase
        · have ht' := ht.recover.fst ‹_›
          exact ht'.served.exclTidy.settle
      · exact h
  · split
    · split
      have ht := h.lineEcc.fst ‹_›
      refine .ite ht ?_
      split
      · have ht' := ht.recover.fst ‹_›
        exact ht'
      · have ht' := ht.recover.fst ‹_›
        exact ht'.abandonMove
    · exact h
  · split
    have ht := h.lineEcc.fst ‹_›
    exact .ite ht ht.onWin
  · split
    have ht := h.lineEcc.fst ‹_›
    exact .ite ht (ht.onWin.foldl fun _ _ ht' => ht'.setFrame)
  · extract_lets f
    split
    have ht := h.lineEcc.fst ‹_›
    exact .ite ht ht.packetLost
  · split
    have ht := h.lineEcc.fst ‹_›
    exact .ite ht ht.descLost

theorem showOwed (h : s.Wf) {c} : (s.showOwed c).Wf := h.wr

theorem setOwed (h : s.Wf) {c r n} : (s.setOwed c r n).Wf := h.onCh.showOwed

theorem execRefreshInterval (h : s.Wf) {c rank postpone} : Keeps (Machine.execRefreshInterval c rank postpone s) :=
  keeps_next (.ite h (.ite h.setOwed h))

theorem execMr4Poll (h : s.Wf) {c hot} : Keeps (Machine.execMr4Poll c hot s) := by
  unfold Machine.execMr4Poll
  refine keeps_next ?_
  extract_lets l
  exact h.onCh.wr.cond

theorem execRefreshMakeupBurst (h : s.Wf) {c rank} : Keeps (Machine.execRefreshMakeupBurst c rank s) :=
  keeps_next (.ite h.setOwed.bump h)

theorem execRequestAged (h : s.Wf) {c idx} : Keeps (Machine.execRequestAged c idx s) := keeps_next h.onCh

theorem execRowIdlePrecharge (h : s.Wf) {c bank} : Keeps (Machine.execRowIdlePrecharge c bank s) := keeps_next h.onCh

theorem execCaParityAlert (h : s.Wf) {c sub} : Keeps (Machine.execCaParityAlert c sub s) := by
  unfold Machine.execCaParityAlert
  refine keeps_next ?_
  extract_lets s1 s2
  have hs1 : s1.Wf := h.bump.drmLast.raise.onCh
  have hs2 : s2.Wf := hs1.onCh
  exact .ite hs1 (.ite hs2.dropTurn hs2.dramFence)

theorem reclass (h : s.Wf) {c} : (s.reclass c).Wf := h.onCh

theorem setPanic (h : s.Wf) {o on} : (s.setPanic o on).Wf := by
  unfold State.setPanic
  extract_lets v s1
  have hs1 : s1.Wf := by
    unfold s1
    split
    · exact h.onDr
    · exact h.onDr.wr
  refine hs1.foldl fun _ _ ht => ?_
  extract_lets t1 en t2
  have ht1 : t1.Wf := by
    unfold t1
    split <;> exact ht.wr
  have ht2 : t2.Wf := .ite ht1.bump ht1
  exact ht2.reclass

theorem execPanicRaise (h : s.Wf) {src} : Keeps (Machine.execPanicRaise src s) := keeps_next (.ite h h.setPanic)

theorem execPanicFall (h : s.Wf) {src} : Keeps (Machine.execPanicFall src s) := keeps_next (.ite h.setPanic h)

theorem srEnter (h : s.Wf) {c} : (s.srEnter c).Wf := by
  unfold State.srEnter
  refine .ite ?_ h
  extract_lets owed s1
  have hs1 : s1.Wf := h.onCh.showOwed
  exact .wr (.ite hs1.bump hs1)

theorem writeSrEnter (h : s.Wf) {c} : (s.writeSrEnter c).Wf := .ite h.onCh.srEnter h

theorem writeSrExit (h : s.Wf) {c} : (s.writeSrExit c).Wf := by
  unfold State.writeSrExit
  split
  · exact h.onCh.wr
  · exact h.onCh

theorem execSrEnterRequest (h : s.Wf) {a c} : Keeps (Machine.execSrEnterRequest a c s) :=
  keeps_next (h.atReg fun _ ht => ht.writeSrEnter)

theorem execSrIdleEntry (h : s.Wf) {c} : Keeps (Machine.execSrIdleEntry c s) := keeps_next (.ite h.srEnter h)

theorem execSrExitRequest (h : s.Wf) {a c} : Keeps (Machine.execSrExitRequest a c s) :=
  keeps_next (h.atReg fun _ ht => ht.writeSrExit)

theorem mrCommand (h : s.Wf) {c op v} : (s.mrCommand c op v).Wf := h.wrW.wr

theorem execMrWrite (h : s.Wf) {a c v} : Keeps (Machine.execMrWrite a c v s) :=
  keeps_next (h.atReg fun _ ht => ht.mrCommand)

theorem execMrRead (h : s.Wf) {a c v data} : Keeps (Machine.execMrRead a c v data s) :=
  keeps_next (h.atReg fun _ ht => ht.mrCommand.wr)

theorem execMpcCommand (h : s.Wf) {a c v} : Keeps (Machine.execMpcCommand a c v s) :=
  keeps_next (h.atReg fun _ ht => ht.mrCommand)

theorem trainCompare (h : s.Wf) {c v pass} : (s.trainCompare c v pass).Wf := by
  unfold State.trainCompare
  extract_lets t
  have ht : t.Wf := h.mrCommand.wr
  exact .ite ht.onCh ht

theorem execTrainingReadCompare (h : s.Wf) {a c v pass} : Keeps (Machine.execTrainingReadCompare a c v pass s) :=
  keeps_next (h.atReg fun _ ht => ht.trainCompare)

theorem writeDelay (h : s.Wf) {c addr v} : (s.writeDelay c addr v).Wf := h.onCh

theorem execDelayApply (h : s.Wf) {a c} : Keeps (Machine.execDelayApply a c s) := keeps_next (h.atReg fun _ ht => ht.wr)

theorem execDelayShadowLoad (h : s.Wf) {c} : Keeps (Machine.execDelayShadowLoad c s) :=
  keeps_next (.ite (.wr (h.foldl fun _ _ ht => ht.wrW)) h)

theorem writeActive (h : s.Wf) {c on} : (s.writeActive c on).Wf := by
  unfold State.writeActive
  refine .ite (.ite h.wr.wr.wr.showFrames.showPins h) ?_
  extract_lets s1
  have hs1 : s1.Wf := h.wr
  exact .ite hs1.wr hs1

theorem writeDrmCfg (h : s.Wf) {c v} : (s.writeDrmCfg c v).Wf := by
  unfold State.writeDrmCfg
  extract_lets en s1 s2
  have hs1 : s1.Wf := h.wr.wr.wr.wr.wr
  have hs2 : s2.Wf := .ite hs1.wr (.ite hs1.onCh.wr.wr hs1)
  exact .showPins (.showFrames (.ite hs2.writeActive hs2))

theorem execChannelActivate (h : s.Wf) {a c} : Keeps (Machine.execChannelActivate a c s) :=
  keeps_next (h.atReg fun _ ht => ht.writeActive)

theorem trainFailed (h : s.Wf) {c} : (s.trainFailed c).Wf := by
  unfold State.trainFailed
  extract_lets s1
  have hs1 : s1.Wf := h.raise.wr
  exact .ite hs1 hs1.onCh.wr.fenceRec.showFrames.showPins

theorem execOscillatorDriftCheck (h : s.Wf) {c rank drift dly} : Keeps (Machine.execOscillatorDriftCheck c rank drift dly s) := by
  unfold Machine.execOscillatorDriftCheck
  refine keeps_next (.ite ?_ h)
  extract_lets s1 s2
  have hs1 : s1.Wf := h.raise
  have hs2 : s2.Wf := by
    unfold s2
    refine hs1.foldl fun _ _ ht => ?_
    extract_lets f
    exact ht.writeDelay
  exact hs2.wr

theorem showHarrow (h : s.Wf) : s.showHarrow.Wf := by
  unfold State.showHarrow
  extract_lets h' behind
  exact h.wr.cond

theorem harrowAdvance (h : s.Wf) {at_} : (s.harrowAdvance at_).Wf := .ite h.onDr.wr h.onDr.wr

theorem harrowPass (h : s.Wf) : s.harrowPass.Wf := h.bump.wr.wr.onDr

theorem harrowCount (h : s.Wf) {ecc} : (Machine.harrowCount s ecc).Wf := by
  unfold Machine.harrowCount
  split
  · exact h.bump
  · exact h.bump
  · exact h

theorem execHarrowPatrolRead (h : s.Wf) {ecc} : Keeps (Machine.execHarrowPatrolRead ecc s) := by
  unfold Machine.execHarrowPatrolRead
  refine keeps_next (.ite h ?_)
  extract_lets i pool
  refine .ite ?_ ?_
  · split
    · exact h.wr.wr.onDr.showHarrow
    · extract_lets j
      split
      rename_i e
      have ht := h.onDr.lineEcc.fst e
      refine .showHarrow (.harrowAdvance (.ite ht.harrowCount ?_))
      split <;> rename_i e' <;> have ht' := ht.recover.fst e'
      · exact ht'.bump
      · exact ht'
      · exact ht'.bump.raise
  · split
    · exact h.harrowPass.showHarrow
    · extract_lets j
      split
      rename_i e
      have ht := h.onDr.lineEcc.fst e
      exact .showHarrow (.harrowAdvance (.ite ht.harrowCount (.ite ht (.ite ht.packetLost ht.putLine))))

theorem writeDramFence (h : s.Wf) {a c unit v} : (s.writeDramFence a c unit v).Wf :=
  .ite h (.ite h.ignored.fenceRec h.dramFence)

theorem execRankFence (h : s.Wf) {a c m} : Keeps (Machine.execRankFence a c m s) :=
  keeps_next (h.atReg fun _ ht => ht.foldl fun _ _ hu => hu.writeDramFence)

theorem execChannelFence (h : s.Wf) {a c} : Keeps (Machine.execChannelFence a c s) :=
  keeps_next (h.atReg fun _ ht => ht.writeDramFence)

theorem execEvacuationEnd (h : s.Wf) {c dst} : Keeps (Machine.execEvacuationEnd c dst s) := by
  unfold Machine.execEvacuationEnd
  refine keeps_next ?_
  split
  · exact h
  · split
    extract_lets share dstCh taken s1 s2 s3
    have hs1 : s1.Wf := h.onCh
    have hs2 : s2.Wf := .ite hs1 hs1.wr.wr.wr.wr
    have hs3 : s3.Wf := by
      unfold s3
      split
      · exact hs2.wr.wr.wr
      · extract_lets t
        have ht : t.Wf := hs2.wrBit.wr
        exact .ite ht.wr ht
    exact .ite h hs3.showFrames.showPins

theorem writeDramUnfence (h : s.Wf) {a c} : (s.writeDramUnfence a c).Wf := by
  unfold State.writeDramUnfence
  extract_lets d gone sub s1
  have hs1 : s1.Wf := h.onCh.onWin
  exact .ite h.ignored (.ite h hs1.wr.wr.wr.wr.fenceRec.showFrames.showPins)

theorem execDramUnfence (h : s.Wf) {a c} : Keeps (Machine.execDramUnfence a c s) :=
  keeps_next (h.atReg fun _ ht => ht.writeDramUnfence)

/-! ## Machine/Jobs.lean: the job queues (chapter 12) -/

theorem showJq (h : s.Wf) {q} : (s.showJq q).Wf := h.wr.wr.wr

theorem jqPump (h : s.Wf) : s.jqPump.Wf := by
  unfold State.jqPump
  extract_lets s1
  have hs1 : s1.Wf := by
    unfold s1
    refine h.foldl fun _ _ ht => ?_
    split
    · exact ht.onDl
    · split
      · exact ht
      · exact ht.onDl.answer
  exact hs1.wr

theorem jqRead (h : s.Wf) {n r} : (s.jqRead n r).Wf := by
  unfold State.jqRead
  split
  · exact h.answer
  · refine .ite h.answer ?_
    extract_lets s1
    have hs1 : s1.Wf := h.onConn.onDl
    exact hs1.wr

theorem jqPass (h : s.Wf) {q num} : (s.jqPass q num).Wf := by
  unfold State.jqPass
  extract_lets k
  refine .ite h ?_
  split
  exact h.onJq.wr

theorem jobFail (h : s.Wf) {q num status d} : (s.jobFail q num status d).Wf := by
  unfold State.jobFail
  extract_lets s1 s2
  have hs1 : s1.Wf := h.bump.raise
  have hs2 : s2.Wf := .ite hs1.wr.wr.wr.wr.onJq hs1
  exact hs2.jqPass.showJq

theorem headFail (h : s.Wf) {q status} : (s.headFail q status).Wf := by
  unfold State.headFail
  split
  · exact h
  · exact h.onJq.jobFail

theorem depScanFor {n} (h : s.Wf) : (State.depScanFor n s).Wf := by
  induction n generalizing s with
  | zero => exact h
  | succ n ih =>
    unfold State.depScanFor
    split
    · exact h
    · exact ih h.headFail

theorem depScan (h : s.Wf) : s.depScan.Wf := h.depScanFor.jqPump

theorem jobFree (h : s.Wf) {j} : (s.jobFree j).Wf := .ite h.onDl h.onJob

theorem jobFinish (h : s.Wf) {j} : (s.jobFinish j).Wf := by
  unfold State.jobFinish
  extract_lets st s1 s2
  have hs1 : s1.Wf := h.jobFree
  have hs2 : s2.Wf := .ite hs1.bump.jqPass.showJq hs1.jobFail
  exact hs2.depScan

theorem execJobComplete (h : s.Wf) : Keeps (Machine.execJobComplete s) := by
  unfold Machine.execJobComplete
  refine keeps_next ?_
  split
  · exact h
  · exact h.jobFinish

theorem jqLast (h : s.Wf) {cause n q psn} : (s.jqLast cause n q psn).Wf := .ite h h.wr.wr.wr.wr.wr

theorem jobAccept (h : s.Wf) {n q psn ds} : (s.jobAccept n q psn ds).1.Wf := by
  unfold State.jobAccept
  extract_lets cause add f s1 s2 s3
  have hadd : ∀ t x, t.Wf → (add t x).Wf := fun _ _ ht => ht.onJq
  have hs1 : s1.Wf := h.foldl fun _ _ ht => .ite ht.onJob ht
  have hs2 : s2.Wf := hs1.onJq
  have hs3 : s3.Wf := hs2.wr.jqPass.bump
  split
  · exact h.jqLast
  · split
    · exact .showJq ((hadd _ _ hs3).foldl fun _ _ ht => ht.jobIdle)
    · exact (hadd _ _ h).showJq

theorem execJobStart (h : s.Wf) {q} : Keeps (Machine.execJobStart q s) := by
  unfold Machine.execJobStart
  refine keeps_next ?_
  split
  · exact h
  · refine .ite h.headFail.depScan (.ite h ?_)
    extract_lets op id s0 bad s1
    have hs1 : s1.Wf := h.onJq.onFab.onDl.onFab
    clear_value bad
    split
    · extract_lets s2
      have hs2 : s2.Wf := hs1.chkFail.onJob
      split
      · exact hs2
      · exact hs2.jobFinish
    · refine .ite ?_ hs1.showJq.jobParts.exclTidy.settle
      split
      · exact hs1
      · exact hs1.jobFinish

theorem execJobWaitTimeout (h : s.Wf) {q} : Keeps (Machine.execJobWaitTimeout q s) := by
  unfold Machine.execJobWaitTimeout
  refine keeps_next ?_
  split
  · exact h
  · split
    · exact h
    · exact .ite h.headFail.depScan h

theorem execJobAllocRetry (h : s.Wf) : Keeps (Machine.execJobAllocRetry s) :=
  keeps_next (.settle (h.foldl fun _ _ ht => .ite ht.onJob.jobParts ht))

theorem execPushPacketSend (h : s.Wf) {q} : Keeps (Machine.execPushPacketSend q s) := by
  unfold Machine.execPushPacketSend
  refine keeps_next ?_
  split
  · exact h
  · split
    · exact h
    · split
      · exact h
      · extract_lets n c data last fin ext s1 s2
        have hs1 : s1.Wf := h.onFab.onJob
        have hs2 : s2.Wf := hs1.seqSend
        exact .ite h hs2.jobParts.settle

theorem jqClosing (h : s.Wf) {q} : (s.jqClosing q).Wf := by
  unfold State.jqClosing
  refine .ite h ?_
  extract_lets s1 s2
  have hs1 : s1.Wf := h.wr.onJq
  have hs2 : s2.Wf := hs1.foldl fun _ _ ht => .ite ht.onJob ht
  exact hs2.showJq

theorem jqCloseConn (h : s.Wf) {n} : (s.jqCloseConn n).Wf := h.foldl fun _ _ ht => .ite ht.jqClosing ht

theorem depUnbound (h : s.Wf) {w} : (s.depUnbound w).Wf := by
  unfold State.depUnbound
  refine h.foldl fun _ _ ht => ?_
  split
  · exact ht
  · exact .ite ht.headFail ht

theorem execJqUnboundReached (h : s.Wf) {q} : Keeps (Machine.execJqUnboundReached q s) := by
  unfold Machine.execJqUnboundReached
  refine keeps_next (.ite h ?_)
  extract_lets s1 s2 s3
  have hs1 : s1.Wf := h.wr.wr.showJq
  have hs2 : s2.Wf := .ite hs1.wr.wr hs1
  have hs3 : s3.Wf := hs2.onJq
  exact hs3.depUnbound.depScan

theorem jqResult (h : s.Wf) {q r} : (s.jqResult q r).Wf := h.wr.wr

theorem jqBind (h : s.Wf) {a q n} : (s.jqBind a q n).Wf := by
  unfold State.jqBind
  extract_lets g
  exact .ite h.jqResult (.ite h.jqResult (.ite h.jqResult h.wr.wr.wr.onJq.showJq.jqResult))

theorem jqUnbind (h : s.Wf) {q} : (s.jqUnbind q).Wf := .ite h.jqResult h.jqClosing.onJq.wr.wr

theorem jqCmd (h : s.Wf) {a op n q} : (s.jqCmd a op n q).Wf := by
  unfold State.jqCmd
  refine .ite h.ignored ?_
  extract_lets s1
  have hs1 : s1.Wf := h.wr.wr.wr
  split
  · exact hs1.jqBind
  · exact hs1.jqUnbind
  · exact hs1

theorem execJqBind (h : s.Wf) {a q n} : Keeps (Machine.execJqBind a q n s) := keeps_next (h.atReg fun _ ht => ht.jqCmd)

theorem execJqUnbind (h : s.Wf) {a q} : Keeps (Machine.execJqUnbind a q s) := keeps_next (h.atReg fun _ ht => ht.jqCmd)

theorem execJqReadTimeout (h : s.Wf) {n psn} : Keeps (Machine.execJqReadTimeout n psn s) := by
  unfold Machine.execJqReadTimeout
  refine keeps_next ?_
  split
  · exact h
  · extract_lets s1
    have hs1 : s1.Wf := h.onDl
    exact hs1.answer.wr

/-! ## Machine/Mbx.lean: the mailbox slots and the twin relay -/

theorem onMb (h : s.Wf) {f} : (s.onMb f).Wf := h.withMb

theorem mbxTell (h : s.Wf) {c} : (s.mbxTell c).Wf := by
  unfold State.mbxTell
  extract_lets core s' s1
  have hs' : s'.Wf := h.onMb
  have hs1 : s1.Wf := .ite hs'.onMb hs'
  exact .ite hs1.onMb hs1

theorem mbxPut (h : s.Wf) {c out hdr msg} : (s.mbxPut c out hdr msg).Wf := by
  unfold State.mbxPut
  extract_lets was seq s1 s2 s3
  have hs1 : s1.Wf := h.foldl fun _ _ ht => ht.wr
  have hs2 : s2.Wf := hs1.wr.wr.bump
  have hs3 : s3.Wf := .ite hs2.wr.bump.bump.raise hs2
  exact .ite (.ite hs3.emit hs3) hs3.mbxTell

theorem mbxEmpty (h : s.Wf) {c out} : (s.mbxEmpty c out).Wf := by
  unfold State.mbxEmpty
  extract_lets s1
  have hs1 : s1.Wf := h.wr
  exact .ite hs1 hs1.onMb

theorem bulkPut (h : s.Wf) {c out d} : (s.bulkPut c out d).Wf := h.onMb

theorem mbxDiscard (h : s.Wf) {c} : (s.mbxDiscard c).Wf := h.bump.raise

theorem relaySend (h : s.Wf) {c} : (s.relaySend c).Wf := by
  unfold State.relaySend
  extract_lets p pay
  refine .ite h (h.foldl fun _ _ ht => ?_)
  extract_lets csn
  exact ht.ctlSend.onYk

theorem relayNew (h : s.Wf) {c} : (s.relayNew c).Wf := h.onYk.relaySend

theorem relayDeliver (h : s.Wf) {r} : (s.relayDeliver r).Wf := by
  unfold State.relayDeliver
  extract_lets world s1 s2
  have hs1 : s1.Wf := h.onYk
  have hs2 : s2.Wf := .ite hs1.mbxDiscard hs1.mbxPut
  exact hs2.ctlSend

theorem drlMbx (h : s.Wf) {n psn} : (s.drlMbx n psn).Wf := by
  unfold State.drlMbx
  split
  · exact h
  · extract_lets c
    exact .ite h.onConn h.mbxPut.bufBack.reqDone

theorem feTry (h : s.Wf) {f} : (s.feTry f).Wf := by
  unfold State.feTry
  extract_lets k msg
  split
  · exact h
  · extract_lets c s1
    have hs1 : s1.Wf := h.onMb.bulkPut
    exact .ite h hs1.mbxPut.onLd

theorem feNew (h : s.Wf) {link ld op pay} : (s.feNew link ld op pay).Wf := by
  unfold State.feNew
  extract_lets k l f
  refine .ite h (.ite h.emit ?_)
  split
  · exact h.emit
  · exact .ite h.emit h.onLd.onMb.feTry

theorem outTake (h : s.Wf) {c} : (s.outTake c).Wf := by
  unfold State.outTake
  extract_lets h' dest msg s1 link ld k s2
  have hs1 : s1.Wf := h.mbxEmpty
  have hs2 : s2.Wf := hs1.onLd
  exact .ite (.ite (.ite hs2 hs2.emit) hs1.mbxDiscard) (.ite hs1.seqSend hs1.mbxDiscard)

theorem semFree (h : s.Wf) {k} : (s.semFree k).Wf := h.wr.wr.wrBit

/-! ## Machine/DrillCmds.lean: packets and connections of Drill (chapter 11) -/

theorem showDrl (h : s.Wf) : s.showDrl.Wf := h.wr

theorem ckeyErase (h : s.Wf) {n} : (s.ckeyErase n).Wf := by
  unfold State.ckeyErase
  extract_lets t s1
  have hs1 : s1.Wf := h.withCph h.cph.withCkey
  exact hs1.wrBit

theorem connClosed (h : s.Wf) {n code} : (s.connClosed n code).Wf := by
  unfold State.connClosed
  extract_lets c s1 s2 s3 s4
  have hs1 : s1.Wf := h.foldl fun _ _ ht => ht.bufBack
  have hs2 : s2.Wf := hs1.foldl fun _ _ ht => ht.bufBack
  have hs3 : s3.Wf := hs2.onConn.onDl
  have hs4 : s4.Wf := hs3.ckeyErase.jqCloseConn.showDrl.drlLast.wr
  exact .ite h (.ite hs4.raise hs4)

theorem connClose (h : s.Wf) {n code} : (s.connClose n code).Wf := by
  unfold State.connClose
  extract_lets c
  exact .ite h h.rspSend.onConn

theorem seqLimit (h : s.Wf) {n psn} : (s.seqLimit n psn).Wf := by
  unfold State.seqLimit
  extract_lets c
  exact .ite h.connClose h

theorem drlAuthFail (h : s.Wf) {n} : (s.drlAuthFail n).Wf := h.bump.raise.drlLast

theorem drlFifo (h : s.Wf) {kib} : (s.drlFifo kib).Wf := by
  unfold State.drlFifo
  extract_lets pct panic pfc s1 s2 ports send
  have hs1 : s1.Wf := h.wr
  have hs2 : s2.Wf := .ite hs1 hs1.setPanic
  have hsend : ∀ t x, t.Wf → (send t x).Wf := fun _ _ ht => ht.wr.foldl fun _ _ hu => hu.emit.bump
  exact .ite (hsend _ _ hs2) (.ite (hsend _ _ hs2) hs2)

theorem drlGate (h : s.Wf) {h' hsk} : (s.drlGate h' hsk).1.Wf := by
  unfold State.drlGate
  extract_lets n c s0
  have hs0 : s0.Wf := h.bump.drlFifo
  split
  · exact h
  · split
    · exact hs0.bump.raise
    · split
      · exact hs0.drlAuthFail
      · split
        · exact hs0.bump
        · split
          · exact hs0.drlAuthFail
          · split
            · exact hs0.bump
            · exact hs0.bump.drlTake

theorem drlRun (h : s.Wf) {n r ls hold} : (s.drlRun n r ls hold).Wf := by
  unfold State.drlRun
  extract_lets id o s1
  have hs1 : s1.Wf := h.onFab.onConn
  exact hs1.foldl fun _ _ ht => ht.arrive

theorem drlErr (h : s.Wf) {n recs} : (s.drlErr n recs).Wf := by
  unfold State.drlErr
  refine h.foldl fun _ _ ht => ?_
  extract_lets t1
  have ht1 : t1.Wf := ht.drlLast
  split
  · exact .ite ht1.onJob ht1
  · exact ht1

theorem drlPresent (h : s.Wf) {n r} : (s.drlPresent n r).Wf := by
  unfold State.drlPresent
  extract_lets c s' free bare first k x y kind t
  have hs' : s'.Wf := h.onConn
  have hfree : ∀ x, x.Wf → (free x).Wf := fun _ ht => ht.bufBack.onConn
  have ht : t.Wf := hfree _ hs'
  refine .ite ?_ ?_
  · split
    · exact hs'.answer
    · exact hs'.onConn.answer
    · exact hs'.answer
    · exact (hfree _ hs').reqFail
  · split
    · exact hs'.drlRun
    · exact hs'.drlRun
    · exact hs'.drlRun
    · split
      have ht' := ht.jobAccept.fst ‹_›
      exact .ite ht'.reqDone ht'.reqFail
    · exact (hfree _ hs').jqRead
    · exact .ite hs'.drlMbx (hfree _ hs').reqFail
    · exact (hfree _ hs').drlErr.reqDone

theorem drlAccept (h : s.Wf) {n r} : (s.drlAccept n r).1.Wf := by
  unfold State.drlAccept
  split
  · have ht := h.grnAlloc.fst ‹_›
    exact ht.bump.raise.onConn.ackDue
  · have ht := h.grnAlloc.fst ‹_›
    extract_lets q
    exact ht.onConn

theorem drlDup (h : s.Wf) {n} : (s.drlDup n).Wf := h.bump.onConn

theorem drlSeq (h : s.Wf) {h' op ext data} : (s.drlSeq h' op ext data).Wf := by
  unfold State.drlSeq
  split
  · have ht := h.drlGate.fst ‹_›
    exact ht
  · have ht := h.drlGate.fst ‹_›
    extract_lets n psn c r go s2
    have hgo : ∀ t x, t.Wf → (go t x).Wf := by
      intro _ _ ht'
      unfold go
      split
      · have ht'' := ht'.drlAccept.fst ‹_›
        exact ht''
      · have ht'' := ht'.drlAccept.fst ‹_›
        exact .ite ht''.drlPresent.exclTidy.settle ht''
    have hs2 : s2.Wf := by
      unfold s2
      refine .ite ht.bump.onConn.ackDue (.ite ?_ (.ite ht.drlDup (.ite ht.bump (hgo _ _ ht))))
      split
      · exact .ite ht.drlDup (hgo _ _ ht)
      · exact .ite ht.drlDup (hgo _ _ ht)
      · split
        · exact .rspSend (.ite ht ht.bump)
        · exact ht.bump.rspSend
      · exact ht.drlDup.ackDue
    exact hs2.seqLimit

theorem execDrlWrite (h : s.Wf) {h' ext data} : Keeps (Machine.execDrlWrite h' ext data s) := keeps_next h.drlSeq

theorem execDrlRead (h : s.Wf) {h' ext} : Keeps (Machine.execDrlRead h' ext s) := keeps_next h.drlSeq

theorem execDrlAtomic (h : s.Wf) {h' ext operand cmp} : Keeps (Machine.execDrlAtomic h' ext operand cmp s) :=
  keeps_next h.drlSeq

theorem execDrlJob (h : s.Wf) {h' ext descs} : Keeps (Machine.execDrlJob h' ext descs s) := keeps_next h.drlSeq

theorem execDrlJqRead (h : s.Wf) {h' ext} : Keeps (Machine.execDrlJqRead h' ext s) := keeps_next h.drlSeq

theorem execDrlMbxReceive (h : s.Wf) {h' msg} : Keeps (Machine.execDrlMbxReceive h' msg s) := keeps_next h.drlSeq

theorem execDrlErrorReceive (h : s.Wf) {h' ext recs} : Keeps (Machine.execDrlErrorReceive h' ext recs s) :=
  keeps_next h.drlSeq

theorem execOrderedPresent (h : s.Wf) {n psn} : Keeps (Machine.execOrderedPresent n psn s) := by
  unfold Machine.execOrderedPresent
  refine keeps_next ?_
  split
  · exact h
  · exact .ite h.drlPresent.exclTidy.settle h

theorem execFinalPresent (h : s.Wf) {n} : Keeps (Machine.execFinalPresent n s) := by
  unfold Machine.execFinalPresent
  refine keeps_next ?_
  split
  · exact h
  · exact .ite h.drlPresent.exclTidy.settle h

theorem drlRetx (h : s.Wf) {n psn} : (s.drlRetx n psn).Wf := by
  unfold State.drlRetx
  extract_lets s1
  have hs1 : s1.Wf := h.onConn.bump
  split
  · exact h
  · exact hs1.sentEmit

theorem execDrlAckReceive (h : s.Wf) {h' sacks naks nobuf} : Keeps (Machine.execDrlAckReceive h' sacks naks nobuf s) := by
  unfold Machine.execDrlAckReceive
  refine keeps_next ?_
  split
  · have ht := h.drlGate.fst ‹_›
    exact ht
  · have ht := h.drlGate.fst ‹_›
    extract_lets n run s2 again
    have hs2 : s2.Wf := ht.drlTake
    exact .seqLimit (hs2.foldl fun _ _ ht' => ht'.drlRetx)

theorem execDrlKeepaliveReceive (h : s.Wf) {h'} : Keeps (Machine.execDrlKeepaliveReceive h' s) := keeps_next h.drlGate

theorem execDrlCloseReceive (h : s.Wf) {h' reason} : Keeps (Machine.execDrlCloseReceive h' reason s) := by
  unfold Machine.execDrlCloseReceive
  refine keeps_next ?_
  split
  · have ht := h.drlGate.fst ‹_›
    exact ht
  · have ht := h.drlGate.fst ‹_›
    exact ht.connClosed.depScan

theorem execDrlHelloReceive (h : s.Wf) {h' id ne code mode} : Keeps (Machine.execDrlHelloReceive h' id ne code mode s) := by
  unfold Machine.execDrlHelloReceive
  refine keeps_next ?_
  split
  · have ht := h.drlGate.fst ‹_›
    exact ht
  · have ht := h.drlGate.fst ‹_›
    extract_lets n c s2
    have hs2 : s2.Wf := ht.onConn
    exact .ite hs2.drlEmit ht.drlAuthFail

theorem execDrlConfirmReceive (h : s.Wf) {h' ne nd} : Keeps (Machine.execDrlConfirmReceive h' ne nd s) := by
  unfold Machine.execDrlConfirmReceive
  refine keeps_next ?_
  split
  · have ht := h.drlGate.fst ‹_›
    exact ht
  · have ht := h.drlGate.fst ‹_›
    extract_lets n c
    exact .ite ht.onConn ht.drlAuthFail

theorem execDrlAckSend (h : s.Wf) {n} : Keeps (Machine.execDrlAckSend n s) := keeps_next (.ite h.drlAck.seqLimit h)

theorem execDrlGapTimer (h : s.Wf) {n} : Keeps (Machine.execDrlGapTimer n s) := keeps_next (.ite h.drlAck.seqLimit h)

theorem execDrlRtoExpiry (h : s.Wf) {n psn} : Keeps (Machine.execDrlRtoExpiry n psn s) := by
  unfold Machine.execDrlRtoExpiry
  refine keeps_next ?_
  split
  · exact h
  · exact .ite h.connClose h.drlRetx

theorem execDrlIdleTimeout (h : s.Wf) {n} : Keeps (Machine.execDrlIdleTimeout n s) := keeps_next (.ite h.connClose h)

theorem execDrlOpeningTimeout (h : s.Wf) {n} : Keeps (Machine.execDrlOpeningTimeout n s) :=
  keeps_next (.ite h.connClosed h)

theorem execDrlKeepaliveTimer (h : s.Wf) {n path} : Keeps (Machine.execDrlKeepaliveTimer n path s) :=
  keeps_next (.ite h.rspOn.seqLimit h)

theorem execDrlCloseRepeat (h : s.Wf) {n} : Keeps (Machine.execDrlCloseRepeat n s) := by
  unfold Machine.execDrlCloseRepeat
  refine keeps_next ?_
  split
  · exact h
  · extract_lets s1
    have hs1 : s1.Wf := h.rspSend
    exact .ite hs1.connClosed.depScan hs1.onConn

theorem connOpen (h : s.Wf) {a n} : (s.connOpen a n).1.Wf := by
  unfold State.connOpen
  extract_lets d r nd last
  split
  · exact h
  · exact h.onConn.wrBit.draw.showDrl

theorem connCmd (h : s.Wf) {a op n} : (s.connCmd a op n).Wf := by
  unfold State.connCmd
  refine .ite h.ignored ?_
  extract_lets s1 fin c bufs s2 s3
  have hs1 : s1.Wf := h.wr.wr
  have hfin : ∀ t x, t.Wf → (fin t x).Wf := fun _ _ ht => ht.wr.wr
  have hs2 : s2.Wf := hs1.wr.wr.wr
  have hs3 : s3.Wf := hs2.wr.wr.wr.wr
  split
  · split
    have ht := hs1.connOpen.fst ‹_›
    exact hfin _ _ ht
  · exact .ite (hfin _ _ hs1) (hfin _ _ hs1.connClose)
  · exact hfin _ _ hs3.wr
  · exact hs1

theorem execConnOpen (h : s.Wf) {a n} : Keeps (Machine.execConnOpen a n s) := keeps_next (h.atReg fun _ ht => ht.connCmd)

theorem execConnCloseOp (h : s.Wf) {a n} : Keeps (Machine.execConnCloseOp a n s) :=
  keeps_next (h.atReg fun _ ht => ht.connCmd)

theorem execConnSnapshot (h : s.Wf) {a n} : Keeps (Machine.execConnSnapshot a n s) :=
  keeps_next (h.atReg fun _ ht => ht.connCmd)

theorem writeDrlCtl (h : s.Wf) {v} : (s.writeDrlCtl v).Wf := by
  unfold State.writeDrlCtl
  extract_lets s1 gone
  have hs1 : s1.Wf := h.wr.wr.wr
  exact hs1.foldl fun _ _ ht => ht.connClose

theorem execDrillPortRemove (h : s.Wf) {a v} : Keeps (Machine.execDrillPortRemove a v s) :=
  keeps_next (h.atReg fun _ ht => ht.writeDrlCtl)

/-! ## Machine/NcCmds.lean: the events of the near-cache banks -/

theorem missRetry (h : s.Wf) {m} : (s.missRetry m).Wf := by
  unfold State.missRetry
  refine h.onNc.foldl fun _ _ ht => ?_
  split
  · exact ht
  · exact ht.onEntry

theorem execMissFillReturn (h : s.Wf) {line} : Keeps (Machine.execMissFillReturn line s) := by
  unfold Machine.execMissFillReturn
  refine keeps_next ?_
  split
  · exact h
  · split
    · exact h.missFill.exclTidy.settle
    · split
      · exact h.missFill.exclTidy.settle
      · exact h.missRetry.exclTidy.settle

theorem execPrefetchReturn (h : s.Wf) {line} : Keeps (Machine.execPrefetchReturn line s) := by
  unfold Machine.execPrefetchReturn
  refine keeps_next ?_
  extract_lets b
  split
  · exact h
  · extract_lets s1
    have hs1 : s1.Wf := h.onNc
    split
    · exact .ite hs1 hs1.sbInstall
    · exact hs1

theorem writeInvGo (h : s.Wf) {a v} : (s.writeInvGo a v).Wf := .ite h.ignored h.wr.invIssue

theorem writeInvAll (h : s.Wf) : s.writeInvAll.Wf := h.wr.ncClearAll

theorem execRangeInvalidate (h : s.Wf) {a} : Keeps (Machine.execRangeInvalidate a s) :=
  keeps_next (h.atReg fun _ ht => ht.writeInvGo)

theorem execWholeCacheInvalidate (h : s.Wf) {a} : Keeps (Machine.execWholeCacheInvalidate a s) :=
  keeps_next (h.atReg fun _ ht => ht.writeInvAll)

theorem poisonInvEnded (h : s.Wf) : s.poisonInvEnded.Wf := by
  unfold State.poisonInvEnded
  extract_lets f
  exact h.onWin

theorem execRangeInvEnd (h : s.Wf) {b} : Keeps (Machine.execRangeInvEnd b s) := keeps_next h.invEnd.poisonInvEnded.invBusy

theorem execZeroSweepEnd (h : s.Wf) {b} : Keeps (Machine.execZeroSweepEnd b s) := keeps_next h.onNc.invBusy

theorem writeCacheEn (h : s.Wf) {b on} : (s.writeCacheEn b on).Wf := by
  unfold State.writeCacheEn
  extract_lets s1
  have hs1 : s1.Wf := h.wr
  exact .ite hs1 hs1.ncClear.ncKill

theorem execCacheEnWrite (h : s.Wf) {a b on} : Keeps (Machine.execCacheEnWrite a b on s) :=
  keeps_next (h.atReg fun _ ht => ht.writeCacheEn)

theorem writeNcFence (h : s.Wf) {b} : (s.writeNcFence b).Wf := .ite h h.ncFence

theorem writeNcUnfence (h : s.Wf) {b} : (s.writeNcUnfence b).Wf := .ite h.wr.ncClear.fenceRec h

theorem execNcBankFence (h : s.Wf) {a b} : Keeps (Machine.execNcBankFence a b s) :=
  keeps_next (h.atReg fun _ ht => ht.writeNcFence)

theorem execNcBankUnfence (h : s.Wf) {a b} : Keeps (Machine.execNcBankUnfence a b s) :=
  keeps_next (h.atReg fun _ ht => ht.writeNcUnfence)

theorem writeWaydis (h : s.Wf) {b i v} : (s.writeWaydis b i v).Wf := by
  unfold State.writeWaydis
  extract_lets v' hadV s1 s2 s3
  have hs1 : s1.Wf := h.wrW
  have hs2 : s2.Wf := hs1.onNc
  have hs3 : s3.Wf := hs2.wr.wr.showNc
  exact .ite hs3.fenceRec hs3

/-! ## Machine/TitheRec.lean: how Tithe builds a record -/

theorem showTithe (h : s.Wf) : s.showTithe.Wf := h.wr

theorem titheWrite (h : s.Wf) {kind flags t0 t1 tenant body} : (s.titheWrite kind flags t0 t1 tenant body).Wf := by
  unfold State.titheWrite
  extract_lets num life fl head all r t t'
  have ht' : t'.Wf := h.withTh
  exact ht'.wr.showTithe

theorem titheFlush {l} (h : s.Wf) : (s.titheFlush l).Wf := by
  induction l generalizing s with
  | nil => exact h
  | cons w l ih => exact .ite (ih h.titheWrite) h.withTh

theorem titheEvent (h : s.Wf) {kind tenant body} : (s.titheEvent kind tenant body).Wf := by
  unfold State.titheEvent
  extract_lets l t
  exact .ite h h.withTh.titheFlush

theorem titheChange (h : s.Wf) {r old new valid size} : (s.titheChange r old new valid size).Wf := .ite h h.titheEvent

/-! ## Machine/Regions.lean: the region table -/

theorem owe (h : s.Wf) {n l} : (s.owe n l).Wf := h.withHp

theorem oweChange (h : s.Wf) {r base size oldRd oldWr newRd newWr} : (s.oweChange r base size oldRd oldWr newRd newWr).Wf := by
  unfold State.oweChange
  refine h.foldl fun _ _ ht => ?_
  extract_lets ex
  exact .ite ht.owe (.ite ht.owe (.ite ht.owe ht))

theorem loadPins (h : s.Wf) {r} : (s.loadPins r).Wf := h.foldl fun _ _ ht => .ite ht.addMove.furRead ht

theorem startLoad (h : s.Wf) {r} : (s.startLoad r).Wf := .ite h h.wr.loadPins

theorem copyMasks (h : s.Wf) {r} : (s.copyMasks r).Wf := h.wr.wr.wr.wr

theorem rgnLoad (h : s.Wf) {r} : (s.rgnLoad r).Wf := by
  unfold State.rgnLoad
  extract_lets attr
  exact h.wrW.wrW.wr.wr.wr.wr

theorem rgnResult (h : s.Wf) {r result} : (s.rgnResult r result).Wf := h.wr.wr

theorem switchPoint (h : s.Wf) {r destroy} : (s.switchPoint r destroy).Wf := by
  unfold State.switchPoint
  extract_lets old
  exact h.onFab.wr.wr

theorem rgnCommit (h : s.Wf) {r} : (s.rgnCommit r).Wf := by
  unfold State.rgnCommit
  extract_lets valid oldRd oldWr oldT newT newPin attr s1 s2 s3
  have hs1 : s1.Wf := h.switchPoint.wrW.wrW.copyMasks
  have hs2 : s2.Wf := hs1.oweChange
  have hs3 : s3.Wf := .ite hs2.titheChange hs2
  exact .showPins (.ite hs3.startLoad hs3)

theorem rgnDestroy (h : s.Wf) {r} : (s.rgnDestroy r).Wf := by
  unfold State.rgnDestroy
  extract_lets s1 s2
  have hs1 : s1.Wf := h.switchPoint.wr.wr
  have hs2 : s2.Wf := hs1.oweChange
  exact hs2.titheChange.showPins

theorem discardCb (h : s.Wf) {base len} : (s.discardCb base len).Wf := h.foldl fun _ _ ht => ht.cbDrop.altMode.altTidy

theorem startRelease (h : s.Wf) {r} : (s.startRelease r).Wf := by
  unfold State.startRelease
  split
  exact h.onFab.discardCb.invIssue

theorem endRelease (h : s.Wf) {r} : (s.endRelease r).Wf := by
  unfold State.endRelease
  split
  extract_lets s1 s2
  have hs1 : s1.Wf := h.foldl fun _ _ ht => ht.releasePage
  have hs2 : s2.Wf := hs1.foldl fun _ _ ht => ht.wrW
  exact hs2.onFab.showPins.showFrames

theorem writeDpaLimit (h : s.Wf) {a v} : (s.writeDpaLimit a v).Wf := .ite h.ignored h.wr.showFrames.showPins

theorem writeChkLast (h : s.Wf) {a v} : (s.writeChkLast a v).Wf := .ite h.badAccess (.ite h.wr h)

theorem writeRgnCommit (h : s.Wf) {a op r} : (s.writeRgnCommit a op r).Wf := by
  unfold State.writeRgnCommit
  extract_lets v
  refine .ite h.ignored (.ite h (.ite (.ite h.rgnResult h.rgnLoad.rgnResult) (.ite ?_ ?_)))
  · split
    · exact h.rgnCommit
    · exact h.rgnResult
  · split
    · exact h.rgnDestroy
    · exact h.rgnResult

theorem execDpaLimitWrite (h : s.Wf) {a v} : Keeps (Machine.execDpaLimitWrite a v s) :=
  keeps_next (h.atReg fun _ ht => ht.writeDpaLimit)

theorem execWorldLockSet (h : s.Wf) {a} : Keeps (Machine.execWorldLockSet a s) := keeps_next (h.atReg fun _ ht => ht.wr)

theorem execChkLastClear (h : s.Wf) {a} : Keeps (Machine.execChkLastClear a s) :=
  keeps_next (h.atReg fun _ ht => ht.writeChkLast)

theorem execRgnOpNone (h : s.Wf) {a r} : Keeps (Machine.execRgnOpNone a r s) :=
  keeps_next (h.atReg fun _ ht => ht.writeRgnCommit)

theorem execRgnLoad (h : s.Wf) {a r} : Keeps (Machine.execRgnLoad a r s) :=
  keeps_next (h.atReg fun _ ht => ht.writeRgnCommit)

theorem execRgnCommit (h : s.Wf) {a r} : Keeps (Machine.execRgnCommit a r s) :=
  keeps_next (h.atReg fun _ ht => ht.writeRgnCommit)

theorem execRgnDestroy (h : s.Wf) {a r} : Keeps (Machine.execRgnDestroy a r s) :=
  keeps_next (h.atReg fun _ ht => ht.writeRgnCommit)

theorem execRgnDrainEnd (h : s.Wf) : Keeps (Machine.execRgnDrainEnd s) := by
  unfold Machine.execRgnDrainEnd
  refine keeps_next ?_
  split
  · exact h
  · refine .ite h ?_
    extract_lets s1
    have hs1 : s1.Wf := h.onFab.wr.wr
    exact .ite hs1.startRelease hs1

theorem execRgnReleaseEnd (h : s.Wf) : Keeps (Machine.execRgnReleaseEnd s) := by
  unfold Machine.execRgnReleaseEnd
  refine keeps_next ?_
  split
  · exact h
  · split
    extract_lets s1
    have hs1 : s1.Wf := h.discardCb
    exact .ite hs1 hs1.endRelease.settle

/-! ## Machine/FurOps.lean: locations, superblocks and stripes (chapter 08) -/

theorem onFur (h : s.Wf) {f} : (s.onFur f).Wf := h.withFur

theorem modSb (h : s.Wf) {sb f} : (s.modSb sb f).Wf := h.onFur

theorem showSb (h : s.Wf) : s.showSb.Wf := h.wr.wr

theorem furLast (h : s.Wf) {kind loc} : (s.furLast kind loc).Wf := .ite h h.wr.wr.wr

theorem fcLast (h : s.Wf) {c kind loc} : (s.fcLast c kind loc).Wf := .ite h h.wr.wr.wr

theorem govAccrue (h : s.Wf) : s.govAccrue.Wf := by
  unfold State.govAccrue
  extract_lets add
  exact h.onFur.wr

theorem showGov (h : s.Wf) : s.showGov.Wf := by
  unfold State.showGov
  extract_lets lim short
  exact h.wr.wr.cond.wr.showWin

theorem showHarvest (h : s.Wf) : s.showHarvest.Wf := by
  unfold State.showHarvest
  refine .ite h ?_
  split
  extract_lets cs cr
  exact h.wr.wr.wr.wr.wr.showDirty

theorem showChannels (h : s.Wf) : s.showChannels.Wf := by
  unfold State.showChannels
  extract_lets up st st'
  exact h.wr.cond.showHarvest

theorem showWear (h : s.Wf) : s.showWear.Wf := by
  unfold State.showWear
  extract_lets nat n mx mn rs
  exact h.wr.wr.wr.wr

theorem putSlot (h : s.Wf) {st page region loc im isMeta} : (s.putSlot st page region loc im isMeta).Wf := by
  unfold State.putSlot
  extract_lets sb x s1 s2 new s3 n s4
  have hs1 : s1.Wf := h.onFur
  have hs2 : s2.Wf := hs1.modSb
  have hs3 : s3.Wf := .ite hs2.onFur hs2
  have hs4 : s4.Wf := .ite hs3.onFur.modSb hs3
  exact hs4.showSb

theorem freshWrite (h : s.Wf) {page loc im} : (s.freshWrite page loc im).Wf := h.putSlot.setFur

theorem relocateSb (h : s.Wf) {sb gc} : (s.relocateSb sb gc).Wf := by
  unfold State.relocateSb
  refine .ite h ?_
  extract_lets n s1
  have hs1 : s1.Wf := h.onFur.modSb
  exact hs1.onFur.showSb

theorem relocAgain (h : s.Wf) : s.relocAgain.Wf := h.foldl fun _ _ ht => .ite ht.relocateSb ht

theorem relocStop (h : s.Wf) : s.relocStop.Wf := h.onFur.showSb

theorem refreshSb (h : s.Wf) {sb} : (s.refreshSb sb).Wf := .ite h h.relocateSb.bump

theorem blockFailing (h : s.Wf) {blk} : (s.blockFailing blk).Wf := by
  unfold State.blockFailing
  extract_lets sb s1
  have hs1 : s1.Wf := h.onFur
  exact hs1.relocateSb

theorem showRebuild (h : s.Wf) : s.showRebuild.Wf := by
  unfold State.showRebuild
  extract_lets left
  exact h.wr

theorem lunRetire (h : s.Wf) {lun dev bit} : (s.lunRetire lun dev bit).Wf := by
  unfold State.lunRetire
  refine .ite h (.ite h.holdFence ?_)
  extract_lets c s1 s2 sbs
  have hs1 : s1.Wf := h.onFur.wrBit
  have hs2 : s2.Wf := hs1.raise.furLast.wr.fenceRec
  exact .showHarvest (.showGov (.wr (.showRebuild (hs2.foldl fun _ _ ht => ht.relocateSb))))

theorem flashFence (h : s.Wf) {c dev bit} : (s.flashFence c dev bit).Wf := by
  unfold State.flashFence
  refine .ite h (.ite h.holdFence ?_)
  extract_lets s1
  have hs1 : s1.Wf := h.wr.wr.wr.furLast.fenceRec
  exact .showChannels (hs1.foldl fun _ _ ht => ht.lunRetire)

theorem lunOut (h : s.Wf) {lun dev bit} : (s.lunOut lun dev bit).Wf := by
  unfold State.lunOut
  extract_lets c s1
  have hs1 : s1.Wf := h.lunRetire
  exact .ite hs1.flashFence hs1

theorem retireBlocks (h : s.Wf) {sb} : (s.retireBlocks sb).Wf := by
  unfold State.retireBlocks
  extract_lets mine
  refine h.foldl fun _ _ ht => ?_
  extract_lets lun k used t1
  have ht1 : t1.Wf := ht.onFur.bump.raise.furLast
  exact .ite ht1.onFur.wr ht1.lunOut

/-! ## Machine/WinCmds.lean: Winnow's epochs, moves, pins and policies -/

theorem sweep (h : s.Wf) : s.sweep.Wf := by
  unfold State.sweep
  extract_lets d s1
  have hs1 : s1.Wf := h.onWin
  exact hs1.onWin

theorem execEpochStart (h : s.Wf) : Keeps (Machine.execEpochStart s) := by
  unfold Machine.execEpochStart
  refine keeps_next ?_
  extract_lets s1
  have hs1 : s1.Wf := .ite h h.onWin
  exact .ite hs1.sweep hs1

theorem execEpochEnd (h : s.Wf) : Keeps (Machine.execEpochEnd s) := by
  unfold Machine.execEpochEnd
  refine keeps_next (.ite ?_ h)
  extract_lets s1
  have hs1 : s1.Wf := h.onWin.wr
  exact .ite hs1.wr hs1

theorem execFlashDataStaged (h : s.Wf) {page} : Keeps (Machine.execFlashDataStaged page s) := by
  unfold Machine.execFlashDataStaged
  refine keeps_next ?_
  extract_lets p
  split
  · exact h
  · extract_lets s1 s2 s3
    have hs1 : s1.Wf := h.onFur
    have hs2 : s2.Wf := hs1.abandonMove.onWin
    have hs3 : s3.Wf := hs2.showMoves
    refine .ite ?_ (.ite hs3.modTier.healAsk hs3.poisonStart)
    split
    · exact hs1
    · extract_lets s2' s3'
      have hs2' : s2'.Wf := hs1.modMove.serveStaged
      have hs3' : s3'.Wf := .ite hs2'.onWin.showMoves hs2'
      exact hs3'.exclTidy.settle

theorem copyOut (h : s.Wf) {p kind dest} : (s.copyOut p kind dest).Wf := by
  unfold State.copyOut
  split
  · exact h
  · exact h.addMove

theorem startDemotion (h : s.Wf) {p} : (s.startDemotion p).Wf := .ite h.copyOut h.addMove

theorem execDemotionStart (h : s.Wf) : Keeps (Machine.execDemotionStart s) := by
  unfold Machine.execDemotionStart
  refine keeps_next (.ite h (.ite ?_ (.ite h.onWin ?_)))
  · split
    · exact h
    · exact h.startDemotion
  · extract_lets s1
    have hs1 : s1.Wf := h.onWin
    split
    · exact hs1
    · extract_lets s2
      have hs2 : s2.Wf := hs1.onWin
      exact .ite hs2.bump (.ite hs2.startDemotion hs2)

theorem execCeilingDemotion (h : s.Wf) {r} : Keeps (Machine.execCeilingDemotion r s) := by
  unfold Machine.execCeilingDemotion
  refine keeps_next (.ite h ?_)
  split
  extract_lets set
  have hset : ∀ t x y, t.Wf → (set t x y).Wf := fun _ _ _ ht => ht.onWin
  split
  · exact (hset _ _ _ h).startDemotion
  · exact hset _ _ _ h

theorem execCleaningStart (h : s.Wf) : Keeps (Machine.execCleaningStart s) := by
  unfold Machine.execCleaningStart
  refine keeps_next (.ite h (.ite h.onWin (.ite h ?_)))
  extract_lets s1
  have hs1 : s1.Wf := h.onWin
  split
  · exact hs1
  · exact hs1.copyOut

theorem execFrameMoveStart (h : s.Wf) {page dest} : Keeps (Machine.execFrameMoveStart page dest s) := by
  unfold Machine.execFrameMoveStart
  refine keeps_next ?_
  extract_lets p e
  split
  · exact h
  · split
    · exact h
    · exact .ite h h.copyOut.setFrame

theorem execMoveCopyDone (h : s.Wf) {page dest clean} : Keeps (Machine.execMoveCopyDone page dest clean s) := by
  unfold Machine.execMoveCopyDone
  refine keeps_next ?_
  extract_lets p
  split
  · exact h
  · split
    · exact h
    · refine .ite h ?_
      split
      · exact .ite h.setFrame.putImg.modMove h
      · split
        · extract_lets im'
          exact h.putImg.modMove
        · exact h
      · split
        · exact h
        · refine .ite ?_ h
          extract_lets im'
          exact h.freshWrite.modMove

theorem leaveFrame (h : s.Wf) {f retire} : (s.leaveFrame f retire).Wf := by
  unfold State.leaveFrame
  extract_lets s1
  have hs1 : s1.Wf := h.clearFrame
  exact .ite hs1.setFrame.onWin.winLast.raise hs1.setFrame

theorem afterMove (h : s.Wf) {p} : (s.afterMove p).Wf := h.drainSort.wakePage.retryPages.showPins.exclTidy.settle

theorem execMoveSwitch (h : s.Wf) {page} : Keeps (Machine.execMoveSwitch page s) := by
  unfold Machine.execMoveSwitch
  refine keeps_next ?_
  extract_lets p e s1 s2
  have hs1 : s1.Wf := h.endMove
  have hs2 : s2.Wf := hs1.modTier.bump
  split
  · exact h
  · refine .ite h ?_
    split
    · split
      · exact h
      · extract_lets s1'
        have hs1' : s1'.Wf := h.endMove.modTier.bump
        exact hs1'.dropHints.loadPins.afterMove
    · split
      · exact h
      · extract_lets last s1'
        have hs1' : s1'.Wf := h.putImg.endMove.modTier
        exact hs1'.leaveFrame.dropHints.afterMove
    · extract_lets s2'
      have hs2' : s2'.Wf := .ite hs1.modTier.bump hs1.modTier
      exact hs2'.afterMove
    · exact .ite hs2.leaveFrame.dropHints.afterMove hs1.modTier.bump.afterMove
    · exact h

theorem execPoisonPageFinalize (h : s.Wf) {page} : Keeps (Machine.execPoisonPageFinalize page s) := by
  unfold Machine.execPoisonPageFinalize
  refine keeps_next ?_
  extract_lets p
  split
  · exact h
  · exact .ite h (.ite h.onWin.healAsk h.poisonWrite.wakePage.drainSort.exclTidy.settle)

theorem rebuildEntry (h : s.Wf) {p} : (s.rebuildEntry p).Wf := by
  unfold State.rebuildEntry
  extract_lets e open_ s1 s2
  have hs1 : s1.Wf := h.setTier
  have hs2 : s2.Wf := hs1.winLast
  exact .ite (.ite hs2.modTier.healAsk hs2.poisonStart) hs1

theorem execMetaRebuildDone (h : s.Wf) : Keeps (Machine.execMetaRebuildDone s) := by
  unfold Machine.execMetaRebuildDone
  refine keeps_next ?_
  split
  · exact h
  · extract_lets s1
    have hs1 : s1.Wf := h.onWin
    split
    · exact .drainSort (.raise (.winLast (hs1.foldl fun _ _ ht => ht.rebuildEntry)))
    · extract_lets s2
      have hs2 : s2.Wf := by
        unfold s2
        refine hs1.foldl fun _ _ ht => .ite ?_ ht
        split <;> exact ht.setFrame
      exact hs2.winLast.raise.drainSort

theorem writePin (h : s.Wf) {a op} : (s.writePin a op).Wf := by
  unfold State.writePin
  refine .ite h.ignored ?_
  extract_lets s1 b n
  have hs1 : s1.Wf := h.wr
  refine .ite hs1 ?_
  split
  · exact hs1.onWin.wr.showPins
  · exact hs1.wr

theorem execPinOp (h : s.Wf) {a} : Keeps (Machine.execPinOp a s) := keeps_next (h.atReg fun _ ht => ht.writePin)

theorem execUnpinOp (h : s.Wf) {a} : Keeps (Machine.execUnpinOp a s) := keeps_next (h.atReg fun _ ht => ht.writePin)

theorem execPinOpNone (h : s.Wf) {a three} : Keeps (Machine.execPinOpNone a three s) :=
  keeps_next (h.atReg fun _ ht => ht.writePin)

theorem execPinOpDone (h : s.Wf) : Keeps (Machine.execPinOpDone s) := by
  unfold Machine.execPinOpDone
  refine keeps_next ?_
  split
  · exact h
  · extract_lets s1 s2 s3
    have hs1 : s1.Wf := h.foldl fun _ _ ht => ht.modTier
    have hs2 : s2.Wf := hs1.onWin.wr.wr
    have hs3 : s3.Wf := by
      unfold s3
      refine .ite ?_ hs2
      split
      · exact hs2
      · exact hs2.startLoad
    exact hs3.showPins

theorem execPinLoadDone (h : s.Wf) {r} : Keeps (Machine.execPinLoadDone r s) := keeps_next (.ite h.wr h.loadPins)

theorem writePol (h : s.Wf) {a r v} : (s.writePol a r v).Wf := .ite h.badAccess h.wr.wr.wr.drainSort.showWin

theorem execRegionPolicyWrite (h : s.Wf) {a r v} : Keeps (Machine.execRegionPolicyWrite a r v s) :=
  keeps_next (h.atReg fun _ ht => ht.writePol)

/-! ## Machine/YokeCmds.lean: Yoke's commands and events (chapter 10) -/

theorem frameIn (h : s.Wf) {p path} : (s.frameIn p path).Wf := h.bump

theorem twinDone (h : s.Wf) {id} : (s.twinDone id).Wf := by
  unfold State.twinDone
  split
  · exact h
  · split
    · exact .ite h.complete h.setPhase
    · exact h

theorem lineAcked (h : s.Wf) {line} : (s.lineAcked line).Wf := by
  unfold State.lineAcked
  split
  · extract_lets s1
    have hs1 : s1.Wf := h.modCb
    exact .ite hs1.altMode.highWater hs1
  · exact h.altMode.altTidy

theorem entAcked (h : s.Wf) {e} : (s.entAcked e).Wf := by
  unfold State.entAcked
  extract_lets s1
  have hs1 : s1.Wf := by
    unfold s1
    split
    · exact h
    · exact h.twinDone
  split
  · exact .ite hs1.lineAcked hs1
  · exact .ite hs1.lineAcked hs1
  · exact .ite hs1.lineAcked hs1
  · exact hs1

theorem leaveMirror (h : s.Wf) {r st} : (s.leaveMirror r st).Wf := by
  unfold State.leaveMirror
  extract_lets mine was owes s1 s2 s3 s4 drop free
  have hs1 : s1.Wf := by
    refine h.foldl fun _ _ ht => ?_
    split
    · exact ht
    · exact .ite ht ht.mark
  have hs2 : s2.Wf := hs1.onYk
  have hs3 : s3.Wf := .ite hs2.wr.wr hs2
  have hs4 : s4.Wf := hs3.foldl fun _ _ ht => ht.entAcked
  refine .ite (.showLag (.setYok (hs4.onYk fun _ hy => hy.of_length (List.length_map _)))) hs3.setYok

theorem twinLost (h : s.Wf) : s.twinLost.Wf := by
  unfold State.twinLost
  refine .ite ?_ h
  extract_lets was s1 s2 s3
  have hs1 : s1.Wf := h.wr.cond
  have hs2 : s2.Wf := hs1.bump
  have hs3 : s3.Wf := by
    unfold s3
    refine hs2.foldl fun _ _ ht => ?_
    extract_lets st
    exact .ite ht.leaveMirror ht
  exact .ite hs1 hs3.ldEventAll.exclTidy.settle

theorem showPaths (h : s.Wf) : s.showPaths.Wf := by
  unfold State.showPaths
  extract_lets bad
  exact h.wr.cond

theorem setPath (h : s.Wf) {p path st} : (s.setPath p path st).Wf := by
  unfold State.setPath
  extract_lets s1
  have hs1 : s1.Wf := .ite h.wr h.wr
  exact .showPaths (.ite hs1.bump hs1)

theorem pathDown (h : s.Wf) {p path} : (s.pathDown p path).Wf := by
  unfold State.pathDown
  refine .ite h ?_
  extract_lets s1
  have hs1 : s1.Wf := h.setPath
  exact .ite hs1.twinLost hs1

theorem pathKeys (h : s.Wf) {p gen} : (s.pathKeys p gen).Wf := by
  unfold State.pathKeys
  extract_lets b g k0 k1 set
  have hset : (set s.cph).Wf := h.cph.withPkey
  exact .wrBit (.wrBit (.bumpBy (h.withCph hset)))

theorem pathErase (h : s.Wf) {p gen} : (s.pathErase p gen).Wf := by
  unfold State.pathErase
  extract_lets g clr
  have hclr : (clr s.cph).Wf := h.cph.withPkey
  exact .wrBit (.wrBit (h.withCph hclr))

theorem helloSend (h : s.Wf) {p} : (s.helloSend p).Wf := by
  unfold State.helloSend
  extract_lets y
  exact h.pathEmit

theorem hsStart (h : s.Wf) {p} : (s.hsStart p).Wf := by
  unfold State.hsStart
  extract_lets gen n s1
  have hs1 : s1.Wf := h.onPair.wr
  exact .ite hs1.onPair.draw.helloSend hs1

theorem hsFail (h : s.Wf) {p} : (s.hsFail p).Wf := h.onPair.wr.twinLost

theorem closeSend (h : s.Wf) {p path code} : (s.closeSend p path code).Wf := h.pathEmit

theorem announce (h : s.Wf) : s.announce.Wf := by
  unfold State.announce
  refine h.foldl fun _ _ ht => .ite ht ?_
  extract_lets e
  exact ht.yokeQueue

theorem rsvStart (h : s.Wf) {r} : (s.rsvStart r).Wf := by
  unfold State.rsvStart
  extract_lets resync base pos from_ s1
  have hs1 : s1.Wf := h.onYk
  exact hs1.wr.wr.wr.wr.wr

theorem rsvKick (h : s.Wf) : s.rsvKick.Wf := by
  unfold State.rsvKick
  split
  · exact h
  · refine .ite h ?_
    split
    · exact h
    · exact h.rsvStart

theorem showTwin (h : s.Wf) : s.showTwin.Wf := by
  unfold State.showTwin
  extract_lets ok s1 s2
  have hs1 : s1.Wf := h.wr.cond.onYk
  have hs2 : s2.Wf := by
    unfold s2
    refine hs1.foldl fun _ _ ht => ?_
    extract_lets was u
    have hu : u.Wf := ht.setYok
    exact .ite (.ite hu.onYk hu) ht
  exact .ite hs2.announce.rsvKick h

theorem hsDone (h : s.Wf) {p} : (s.hsDone p).Wf := by
  unfold State.hsDone
  extract_lets y old gen cont endF s1 s2 s3
  have hs1 : s1.Wf := .ite h.dataSend h
  have hs2 : s2.Wf := hs1.onPair
  have hs3 : s3.Wf := hs2.wr.wr.showSeq
  exact hs3.showTwin

theorem pathAlive (h : s.Wf) {p path} : (s.pathAlive p path).Wf := by
  unfold State.pathAlive
  refine .ite ?_ h
  extract_lets s1 s2 s3
  have hs1 : s1.Wf := h.setPath
  have hs2 : s2.Wf := hs1.onPair
  have hs3 : s3.Wf := hs2.foldl fun _ _ ht => ht.dataSend.bump
  exact hs3.showTwin

theorem authFail (h : s.Wf) {p path} : (s.authFail p path).Wf := h.bump.raise

theorem csnTake (h : s.Wf) {h'} : (s.csnTake h').1.Wf := by
  unfold State.csnTake
  extract_lets y top
  split
  · exact h
  · exact h.onPair

theorem rsvEnd (h : s.Wf) : s.rsvEnd.Wf := h.onYk.wr.wr.wr

theorem rsvFill (h : s.Wf) : s.rsvFill.Wf := by
  unfold State.rsvFill
  split
  · exact h
  · extract_lets last s0 s1 step s2
    have hs0 : s0.Wf := h.wr
    have hs1 : s1.Wf := hs0.foldl fun _ _ ht => ht.yokeQueue
    have hs2 : s2.Wf := .ite (hs1.foldl fun _ _ ht => ht.yokeQueue) hs1
    exact .ite h (.ite h.wr (.ite h hs2.onYk))

theorem rsvAcked (h : s.Wf) {e} : (s.rsvAcked e).Wf := by
  unfold State.rsvAcked
  split
  · refine .ite h ?_
    extract_lets n lag s1
    have hs1 : s1.Wf := .ite h.wr (.ite h.onYk h.mark)
    exact .ite hs1.rsvEnd hs1
  · exact h

theorem rsvDone (h : s.Wf) : s.rsvDone.Wf := by
  unfold State.rsvDone
  split
  · exact h
  · extract_lets last owes s1
    have hs1 : s1.Wf := h.rsvEnd.onYk
    exact .ite h (.ite hs1.setYok.rsvKick hs1.setYok.onYk.rsvKick)

theorem execYokeFrameSend (h : s.Wf) {p} : Keeps (Machine.execYokeFrameSend p s) := by
  unfold Machine.execYokeFrameSend
  refine keeps_next ?_
  extract_lets s0 y cls ents f s1
  have hs0 : s0.Wf := .ite h.rsvFill h
  have hs1 : s1.Wf := hs0.onPair
  exact .ite h hs1.dataSend.showSeq

theorem retx (h : s.Wf) {p pick} : (s.retx p pick).Wf := by
  unfold State.retx
  extract_lets s1
  have hs1 : s1.Wf := h.onPair
  exact hs1.foldl fun _ _ ht => ht.dataSend.bump

theorem takeAck (h : s.Wf) {p ack gen} : (s.takeAck p ack gen).Wf := by
  unfold State.takeAck
  extract_lets y done ents s1 s2 s3 s4
  have hs1 : s1.Wf := h.onPair
  have hs2 : s2.Wf := hs1.foldl fun _ _ ht => ht.entAcked
  have hs3 : s3.Wf := hs2.foldl fun _ _ ht => ht.rsvAcked.showLag
  have hs4 : s4.Wf := .ite hs3.pathErase.onPair hs3
  exact .ite h hs4.rsvDone.showSeq.exclTidy.settle

theorem refusedEntry (h : s.Wf) {p fsn idx code} : (s.refusedEntry p fsn idx code).Wf := by
  unfold State.refusedEntry
  split
  · exact h
  · split
    · exact h
    · extract_lets s1 s2 st
      have hs1 : s1.Wf := .ite h h.wr.wr.wr.wr
      have hs2 : s2.Wf := hs1.raise
      exact .ite hs2.leaveMirror.exclTidy.settle hs2

theorem execYokeAckReceive (h : s.Wf) {h' naks errs} : Keeps (Machine.execYokeAckReceive h' naks errs s) := by
  unfold Machine.execYokeAckReceive
  split
  · exact keeps_next h
  · extract_lets s'
    have hs' : s'.Wf := h.frameIn
    refine keeps_next (.ite hs'.authFail ?_)
    split
    · exact hs'
    · have ht := hs'.csnTake.fst ‹_›
      extract_lets s2 s3 s4
      have hs2 : s2.Wf := ht.pathAlive
      have hs3 : s3.Wf := hs2.foldl fun _ _ ht' => ht'.refusedEntry
      have hs4 : s4.Wf := hs3.takeAck
      exact .ite hs4 hs4.retx

theorem execYokeGapTimer (h : s.Wf) {p} : Keeps (Machine.execYokeGapTimer p s) := keeps_next (.ite h h.ackSend)

theorem execYokeRtoExpiry (h : s.Wf) {p fsn gen} : Keeps (Machine.execYokeRtoExpiry p fsn gen s) :=
  keeps_next (.ite h.retx h)

theorem execYokeHeartbeat (h : s.Wf) {p path} : Keeps (Machine.execYokeHeartbeat p path s) :=
  keeps_next (.ite h.ctlSend h)

theorem execYokeHbReceive (h : s.Wf) {h'} : Keeps (Machine.execYokeHbReceive h' s) := by
  unfold Machine.execYokeHbReceive
  split
  · exact keeps_next h
  · extract_lets s'
    have hs' : s'.Wf := h.frameIn
    refine keeps_next (.ite hs'.authFail ?_)
    split
    · exact hs'
    · have ht := hs'.csnTake.fst ‹_›
      exact ht.pathAlive.takeAck

theorem execPathDownTimer (h : s.Wf) {p path} : Keeps (Machine.execPathDownTimer p path s) := keeps_next h.pathDown

theorem execPathProbationGap (h : s.Wf) {p path} : Keeps (Machine.execPathProbationGap p path s) :=
  keeps_next (.ite h.pathDown h)

theorem execPathRejoin (h : s.Wf) {p path} : Keeps (Machine.execPathRejoin p path s) := keeps_next (.ite h.setPath h)

theorem execYokeStallTimer (h : s.Wf) {p} : Keeps (Machine.execYokeStallTimer p s) := keeps_next (.ite h h.twinLost)

theorem execYokeHelloReceive (h : s.Wf) {p path serial nonce gen pairs} : Keeps (Machine.execYokeHelloReceive p path serial
    nonce gen pairs s) := by
  unfold Machine.execYokeHelloReceive
  split
  · exact keeps_next h
  · extract_lets s' nr s1 s2
    have hs' : s'.Wf := h.frameIn
    have hs1 : s1.Wf := hs'.onPair.draw
    have hs2 : s2.Wf := hs1.pathKeys.wr
    exact keeps_next (.ite hs' (.ite hs'.closeSend.hsFail (.ite hs'.closeSend.hsFail (.ite hs' hs2.pathEmit))))

theorem execYokeHelloRspReceive (h : s.Wf) {p path serial nonce gen pairs tag} : Keeps (Machine.execYokeHelloRspReceive p path
    serial nonce gen pairs tag s) := by
  unfold Machine.execYokeHelloRspReceive
  split
  · exact keeps_next h
  · extract_lets s' y s1
    have hs' : s'.Wf := h.frameIn
    have hs1 : s1.Wf := hs'.onPair.pathKeys
    exact keeps_next (.ite hs' (.ite hs'.closeSend.hsFail (.ite hs'.closeSend.hsFail (.ite hs'.authFail.closeSend.hsFail
      hs1.pathEmit.pathAlive.hsDone))))

theorem execYokeConfirmReceive (h : s.Wf) {p path tag} : Keeps (Machine.execYokeConfirmReceive p path tag s) := by
  unfold Machine.execYokeConfirmReceive
  split
  · exact keeps_next h
  · extract_lets s'
    have hs' : s'.Wf := h.frameIn
    exact keeps_next (.ite hs' (.ite hs'.authFail.closeSend.pathErase.hsFail hs'.pathAlive.hsDone))

theorem execYokeHelloRepeat (h : s.Wf) {p} : Keeps (Machine.execYokeHelloRepeat p s) :=
  keeps_next (.ite h (.ite h.helloSend (.ite h.hsStart h)))

theorem execYokeCloseReceive (h : s.Wf) {p path reason} : Keeps (Machine.execYokeCloseReceive p path reason s) := by
  unfold Machine.execYokeCloseReceive
  split
  · exact keeps_next h
  · extract_lets s' s1
    have hs' : s'.Wf := h.frameIn
    have hs1 : s1.Wf := .ite hs' hs'.wr.wr.wr.wr
    exact keeps_next (.ite hs' (.hsFail (.ite hs1.authFail hs1)))

theorem execKeygenRollover (h : s.Wf) {p} : Keeps (Machine.execKeygenRollover p s) := keeps_next (.ite h.hsStart h)

theorem pathKeysLost (h : s.Wf) : s.pathKeysLost.Wf := .twinLost (h.onYk fun _ hy => hy.of_length (List.length_map _))

theorem yokEnable (h : s.Wf) {on} : (s.yokEnable on).Wf := by
  unfold State.yokEnable
  extract_lets was s1 s2
  have hs1 : s1.Wf := h.wr
  have hs2 : s2.Wf := hs1.twinLost.onYk fun _ hy => hy.of_length (List.length_map _)
  exact .ite (hs1.wr.showPaths.foldl fun _ _ ht => ht.hsStart) (.ite hs2.wr.cond.showPaths hs1)

theorem healRsp (h : s.Wf) {p num st d} : (s.healRsp p num st d).Wf := h.ctlAll

theorem healAnswer (h : s.Wf) {q} : (s.healAnswer q).Wf := by
  unfold State.healAnswer
  extract_lets p
  split
  split
  · exact .ite h.yokeQueue h.healRsp
  · exact h.healRsp

theorem healPump (h : s.Wf) : s.healPump.Wf := by
  unfold State.healPump
  extract_lets go
  exact h.onYk.foldl fun _ _ ht => ht.healAnswer

theorem execHealReqReceive (h : s.Wf) {h' num page line g0 g1 n0 n1} : Keeps (Machine.execHealReqReceive h' num page line g0
    g1 n0 n1 s) := by
  unfold Machine.execHealReqReceive
  split
  · exact keeps_next h
  · extract_lets s'
    have hs' : s'.Wf := h.frameIn
    refine keeps_next (.ite hs'.authFail ?_)
    split
    · exact hs'
    · have ht := hs'.csnTake.fst ‹_›
      extract_lets s2
      have hs2 : s2.Wf := ht.pathAlive.takeAck
      exact .ite hs2.healRsp (.ite hs2 hs2.onYk.healPump)

theorem healPage (h : s.Wf) {h' d frame} : (s.healPage h' d frame).Wf := by
  unfold State.healPage
  extract_lets p e r key fill s1 st s2
  have hfill : ∀ t x, t.Wf → (fill t x).Wf := fun _ _ ht => ht.foldl fun _ _ hu => .ite hu hu.writeLine
  have hs1 : s1.Wf := h.onWin
  have hs2 : s2.Wf := (hfill _ _ hs1.setFrame.zeroFrame).setFur
  split
  · exact (hfill _ _ hs1).setTier.wakePage
  · exact hs2.setTier.dropHints.wakePage

theorem healOk (h : s.Wf) {h' d frame} : (s.healOk h' d frame).Wf := by
  unfold State.healOk
  extract_lets s1 s2 wait
  have hs1 : s1.Wf := h.healEnd.bump.onYk
  have hs2 : s2.Wf := .ite hs1.bump hs1
  split
  · exact hs2.healPage.drainSort.exclTidy.settle
  · exact hs2.healPage.drainSort.exclTidy.settle
  · exact hs2.healPage.drainSort.exclTidy.settle
  · exact hs2.healPage.drainSort.exclTidy.settle
  · split
    · exact hs2
    · extract_lets s3
      have hs3 : s3.Wf := by
        unfold s3
        refine hs2.foldl fun _ _ ht => ?_
        split
        · exact ht
        · exact ht.served
      exact .ite hs3.exclTidy.settle hs3.exclTidy.submit

theorem healBad (h : s.Wf) {h' code} : (s.healBad h' code).Wf := by
  unfold State.healBad
  extract_lets p s1 s2
  have hs1 : s1.Wf := h.healEnd.bump.raise.onYk
  have hs2 : s2.Wf := .ite hs1.bump hs1
  split
  · exact hs2
  · split
    · exact hs2.poisonWrite.wakePage.drainSort.exclTidy.settle
    · exact hs2.poisonStart
  · exact hs2.poisonStart
  · exact hs2.poisonStart
  · exact hs2.poisonStart

theorem healDrain (h : s.Wf) {frame} : (s.healDrain frame).Wf := by
  unfold State.healDrain
  refine h.foldl fun _ _ ht => ?_
  split
  · exact ht.onYk
  · exact .ite ht.onYk.healOk ht

theorem execHealRspReceive (h : s.Wf) {h' num status data frame} : Keeps (Machine.execHealRspReceive h' num status data frame
    s) := by
  unfold Machine.execHealRspReceive
  split
  · exact keeps_next h
  · extract_lets s'
    have hs' : s'.Wf := h.frameIn
    refine keeps_next (.ite hs'.authFail ?_)
    split
    · exact hs'
    · have ht := hs'.csnTake.fst ‹_›
      extract_lets s2
      have hs2 : s2.Wf := ht.pathAlive.takeAck.healDrain
      split
      · exact hs2
      · exact .ite (.ite hs2.healOk hs2.onYk) hs2.healBad

theorem execHealTimeout (h : s.Wf) {num} : Keeps (Machine.execHealTimeout num s) := by
  unfold Machine.execHealTimeout
  refine keeps_next ?_
  split
  · exact h
  · exact h.healBad

theorem missCount (h : s.Wf) {p fsn} : (s.missCount p fsn).Wf := by
  unfold State.missCount
  extract_lets old
  exact h.onPair.foldl fun _ _ ht => ht.bump

/-- Taking a Granary buffer at a time keeps the state well-formed. -/
theorem grnAllocs {α : Type} {l : List α} {owner} {bs : List Nat} (h : s.Wf) :
    (l.foldl (fun (a : State × List Nat) _ =>
      match a.1.grnAlloc owner with
      | (u, some b) => (u, a.2 ++ [b])
      | (u, none) => (u, a.2)) (s, bs)).1.Wf := by
  induction l generalizing s bs with
  | nil => exact h
  | cons x l ih =>
    have ha := h.grnAlloc (o := owner)
    rw [List.foldl_cons]
    split <;> rename_i e <;> exact ih (ha.fst e)

theorem rxRoom {p ents t x} (h : s.Wf) (e : s.rxRoom p ents = some (t, x)) : t.Wf := by
  unfold State.rxRoom at e
  extract_lets used n out at e
  split at e
  · cases e; exact h
  · split at e
    · cases e
    · split at e
      have hu := h.grnAllocs.fst ‹_›
      split at e
      · cases e; exact hu.bump
      · cases e; exact hu.foldl fun _ _ hv => hv.grnRelease

theorem execYokeDataReceive (h : s.Wf) {h' ents} : Keeps (Machine.execYokeDataReceive h' ents s) := by
  unfold Machine.execYokeDataReceive
  split
  · exact keeps_next h
  · extract_lets s' p y fsn sameGen dup s1 base
    have hs' : s'.Wf := h.frameIn
    have hs1 : s1.Wf := hs'.pathAlive.takeAck.missCount.onPair
    refine keeps_next (.ite hs'.onPair.ackSend (.ite hs'.authFail (.ite hs1.bump ?_)))
    split
    · exact hs1.bump
    · have ht := hs1.rxRoom ‹_›
      exact ht.bump
    · have ht := hs1.rxRoom ‹_›
      extract_lets t1 u
      have ht1 : t1.Wf := ht.onPair
      have hu : u.Wf := ht1.rxPump.settle.healPump
      exact .ite hu hu.healDrain

theorem roleLose (h : s.Wf) {r epoch} : (s.roleLose r epoch).Wf := by
  unfold State.roleLose
  extract_lets g s1
  have hs1 : s1.Wf := h.foldl fun _ _ ht => ht.dataLoss.mark
  exact hs1.wr.wr.setYok

theorem roleWin (h : s.Wf) {r marks} : (s.roleWin r marks).Wf := by
  unfold State.roleWin
  extract_lets s1 st s2
  have hs1 : s1.Wf := h.foldl fun _ _ ht => .ite ht ht.mark
  have hs2 : s2.Wf := hs1.setYok
  exact .ite hs2 hs2.onYk.rsvKick

theorem execRoleResolve (h : s.Wf) {r marks} : Keeps (Machine.execRoleResolve r marks s) := by
  unfold Machine.execRoleResolve
  refine keeps_next ?_
  split
  · exact h
  · extract_lets own me s0 ms
    have hs0 : s0.Wf := h.onYk
    exact .ite h (.ite (.ite hs0.roleLose hs0.roleWin) (.ite (.ite hs0.wr.roleWin hs0.wr.setYok) (.ite (.ite hs0.raise.roleWin
      hs0.raise.roleLose) hs0.raise)))

theorem execLagLimitResume (h : s.Wf) {req env} : Keeps (Machine.execLagLimitResume req env s) := by
  unfold Machine.execLagLimitResume
  refine keeps_next ?_
  split
  · exact h
  · extract_lets s1
    have hs1 : s1.Wf := h.showLag
    exact .ite hs1.proceed.exclTidy.settle hs1

theorem execGranuleClearTimer (h : s.Wf) {g} : Keeps (Machine.execGranuleClearTimer g s) := by
  unfold Machine.execGranuleClearTimer
  refine keeps_next ?_
  split
  · exact h
  · extract_lets st
    exact .ite h.mark.onYk h

theorem writeRsvGo (h : s.Wf) {a v} : (s.writeRsvGo a v).Wf := by
  unfold State.writeRsvGo
  refine .ite h.ignored ?_
  extract_lets r s1 st
  have hs1 : s1.Wf := h.wr.wr
  exact .ite hs1.rsvStart hs1

theorem execResilverGo (h : s.Wf) {a v} : Keeps (Machine.execResilverGo a v s) :=
  keeps_next (h.atReg fun _ ht => ht.writeRsvGo)

theorem writeRsvStop (h : s.Wf) : s.writeRsvStop.Wf := h.onYk

theorem execResilverStop (h : s.Wf) {a} : Keeps (Machine.execResilverStop a s) :=
  keeps_next (h.atReg fun _ ht => ht.writeRsvStop)

theorem writePairs (h : s.Wf) {a on} : (s.writePairs a on).Wf := .ite h.wr h.ignored

theorem execYokePairsWrite (h : s.Wf) {a on} : Keeps (Machine.execYokePairsWrite a on s) :=
  keeps_next (h.atReg fun _ ht => ht.writePairs)

theorem execYokeMbxReceive (h : s.Wf) {h' c hdr msg} : Keeps (Machine.execYokeMbxReceive h' c hdr msg s) := by
  unfold Machine.execYokeMbxReceive
  split
  · exact keeps_next h
  · extract_lets s' r
    have hs' : s'.Wf := h.frameIn
    refine keeps_next (.ite hs'.authFail ?_)
    split
    · exact hs'
    · have ht := hs'.csnTake.fst ‹_›
      extract_lets s2
      have hs2 : s2.Wf := ht.pathAlive.takeAck
      exact .ite hs2 (.ite hs2.ctlSend (.ite (.ite hs2 hs2.onMb) hs2.relayDeliver))

theorem execYokeMbxAckReceive (h : s.Wf) {h' csn} : Keeps (Machine.execYokeMbxAckReceive h' csn s) := by
  unfold Machine.execYokeMbxAckReceive
  split
  · exact keeps_next h
  · extract_lets s'
    have hs' : s'.Wf := h.frameIn
    refine keeps_next (.ite hs'.authFail ?_)
    split
    · exact hs'
    · have ht := hs'.csnTake.fst ‹_›
      extract_lets s2
      have hs2 : s2.Wf := ht.pathAlive.takeAck
      split
      · exact hs2
      · exact hs2.onYk.mbxEmpty

theorem execYokeMbxRepeat (h : s.Wf) {c} : Keeps (Machine.execYokeMbxRepeat c s) := keeps_next (.ite h.relaySend h)

/-! ## Machine/Cipher.lean: the cipher engine (chapter 13) -/

theorem showSlot (h : s.Wf) {cls idx v} : (s.showSlot cls idx v).Wf := .ite h.wr (.ite h.wrBit (.ite h.wrBit h.wrBit))

theorem putKey (h : s.Wf) {cls idx k v} : (s.putKey cls idx k v).Wf := by
  refine .showSlot (h.onCph fun _ hc => ?_)
  split
  · exact hc.withRkey
  · split
    · exact hc.withCkey
    · split
      · exact hc.withPkey
      · exact hc.withFkey

theorem clearStaging (h : s.Wf) {a} : (s.clearStaging a).Wf := h.foldl fun _ _ ht => ht.wr

theorem slotResult (h : s.Wf) {a r} : (s.slotResult a r).Wf := h.wr.wr

theorem replayOne (h : s.Wf) {l} : (s.replayOne l).Wf := .ite h (.ite (.ite h.modTier.healAsk h.poisonStart) h.submit)

theorem replaySlot (h : s.Wf) {slot} : (s.replaySlot slot).Wf := by
  unfold State.replaySlot
  extract_lets mine keep t s1
  have hs1 : s1.Wf := h.withHv
  exact hs1.wr.foldl fun _ _ ht => ht.replayOne

theorem regionKeyed (h : s.Wf) {idx} : (s.regionKeyed idx).Wf := by
  unfold State.regionKeyed
  extract_lets s1 s2
  have hs1 : s1.Wf := h.replaySlot
  have hs2 : s2.Wf := by
    unfold s2
    split
    · exact .ite hs1.wr hs1
    · exact hs1
  exact hs2.settle

theorem keyLoad (h : s.Wf) {a cls idx} : (s.keyLoad a cls idx).Wf := by
  unfold State.keyLoad
  extract_lets k r s1 s2
  have hs1 : s1.Wf := h.clearStaging.wr.slotResult
  have hs2 : s2.Wf := hs1.putKey.bump
  exact .ite hs1 (.ite hs2.wr.wr.regionKeyed (.ite hs2.wrBit.wrBit hs2))

theorem pathKeyGone (h : s.Wf) {idx} : (s.pathKeyGone idx).Wf := by
  unfold State.pathKeyGone
  extract_lets p
  exact .ite h.onPair.twinLost h

theorem keyErase (h : s.Wf) {a cls idx} : (s.keyErase a cls idx).Wf := by
  unfold State.keyErase
  refine .ite h.slotResult (.ite h.slotResult ?_)
  extract_lets s1
  have hs1 : s1.Wf := h.putKey.slotResult
  exact .ite hs1.pathKeyGone hs1

theorem keyForget (h : s.Wf) {a cls idx} : (s.keyForget a cls idx).Wf :=
  .ite h.slotResult (.ite h.slotResult (.ite h.slotResult h.putKey.wr.slotResult))

theorem slotCmd (h : s.Wf) {a op cls idx} : (s.slotCmd a op cls idx).Wf := by
  unfold State.slotCmd
  extract_lets s1
  have hs1 : s1.Wf := h.wr.wr.wr
  exact .ite hs1.keyLoad (.ite hs1.keyErase (.ite hs1.keyForget hs1))

theorem execKeySlotLoad (h : s.Wf) {a cls idx} : Keeps (Machine.execKeySlotLoad a cls idx s) :=
  keeps_next (h.atReg fun _ ht => ht.slotCmd)

theorem execKeySlotErase (h : s.Wf) {a cls idx} : Keeps (Machine.execKeySlotErase a cls idx s) :=
  keeps_next (h.atReg fun _ ht => ht.slotCmd)

theorem execKeySlotForget (h : s.Wf) {a cls idx} : Keeps (Machine.execKeySlotForget a cls idx s) :=
  keeps_next (h.atReg fun _ ht => ht.slotCmd)

theorem execSlotCmdNone (h : s.Wf) {a op cls idx} : Keeps (Machine.execSlotCmdNone a op cls idx s) :=
  keeps_next (h.atReg fun _ ht => ht.slotCmd)

theorem fwStart (h : s.Wf) : s.fwStart.Wf := by
  unfold State.fwStart
  split
  · exact h
  · exact .ite h h.onCph

theorem workWrite (h : s.Wf) {off d} : (s.workWrite off d).Wf := h.onCph fun _ hc => mwf_wrBytes _ _ hc

theorem fwEnd (h : s.Wf) {j r} : (s.fwEnd j r).Wf := h.onCph.wr.wr.fwStart

theorem fwGo (h : s.Wf) {a mode slot dec} : (s.fwGo a mode slot dec).Wf := by
  unfold State.fwGo
  extract_lets s1 j
  have hs1 : s1.Wf := h.wr.wr.wr
  exact .ite hs1 hs1.wr.onCph.fwStart

theorem execFirmwareJob (h : s.Wf) {a mode dec slot} : Keeps (Machine.execFirmwareJob a mode dec slot s) :=
  keeps_next (h.atReg fun _ ht => ht.fwGo)

theorem execFirmwareJobEnd (h : s.Wf) : Keeps (Machine.execFirmwareJobEnd s) := by
  unfold Machine.execFirmwareJobEnd
  refine keeps_next ?_
  split
  · exact h
  · refine .ite h.fwEnd (.ite h.fwEnd (.ite h.fwEnd ?_))
    split
    · refine .ite h.fwEnd ?_
      extract_lets na src s0
      have hs0 : s0.Wf := h.withFresh
      split
      refine .ite hs0.fwEnd ?_
      extract_lets s1 s2
      have hs1 : s1.Wf := hs0.workWrite
      have hs2 : s2.Wf := .ite hs1.wr.wr (.ite hs1.wr.wr hs1)
      exact hs2.fwEnd
    · exact h.keyLost.fwEnd

theorem showAlarm (h : s.Wf) : s.showAlarm.Wf := by
  unfold State.showAlarm
  extract_lets m s1
  have hs1 : s1.Wf := h.wr
  exact .ite hs1.wrBit (.ite hs1 hs1.wrBit.raiseAs)

theorem cbZero (h : s.Wf) : s.cbZero.Wf := by
  unfold State.cbZero
  extract_lets lines pages s1
  have hs1 : s1.Wf := h.foldl fun _ _ ht => ht.cbDrop.altMode.altTidy
  refine hs1.foldl fun _ _ ht => ?_
  extract_lets m
  exact ht.poisonStart

theorem rxDrop (h : s.Wf) : s.rxDrop.Wf := by
  unfold State.rxDrop
  refine h.foldl fun _ _ ht => ?_
  extract_lets y stays gone
  exact .onPair (ht.foldl fun _ _ hu => hu.foldl fun _ _ hv => hv.bufBack)

theorem zeroKeys (h : s.Wf) : s.zeroKeys.Wf := by
  unfold State.zeroKeys
  extract_lets s1 s2 s3 s4
  have hs1 : s1.Wf := h.onCph
  have hs2 : s2.Wf := hs1.foldl fun _ _ ht => .ite ht.wr ht
  have hs3 : s3.Wf := hs2.foldl fun _ _ ht => .ite ht ht.wr
  have hs4 : s4.Wf := hs3.wr.wr
  exact hs4.foldl fun _ _ ht => ht.clearStaging

theorem zeroise (h : s.Wf) : s.zeroise.Wf := by
  unfold State.zeroise
  extract_lets jobs s1 s2 s3 s4 s5
  have hs1 : s1.Wf := h.onCph.foldl fun _ _ ht => ht.bump.wr.wr
  have hs2 : s2.Wf := .ite hs1 hs1.raise
  have hs3 : s3.Wf := hs2.writeInvAll.wr.zeroKeys
  have hs4 : s4.Wf := hs3.foldl fun _ _ ht => ht.connClosed
  have hs5 : s5.Wf := hs4.rxDrop.pathKeysLost
  exact .settle (.exclTidy (.ite hs5.cbZero hs5))

theorem alarm (h : s.Wf) {src} : (s.alarm src).Wf := by
  unfold State.alarm
  extract_lets s1
  have hs1 : s1.Wf := h.wrBit.bump.cphLast.showAlarm
  exact .ite hs1 hs1.zeroise.wr

theorem execCipherAlarm (h : s.Wf) {src} : Keeps (Machine.execCipherAlarm src s) := keeps_next (.ite h.alarm h)

theorem execCipherForce (h : s.Wf) {a} : Keeps (Machine.execCipherForce a s) := keeps_next (h.atReg fun _ ht => ht.alarm)

theorem rederive (h : s.Wf) : s.rederive.Wf := .ite h.wr (.wr (h.onCph fun _ hc => hc.withDevKey))

theorem execDeviceKeyRederived (h : s.Wf) : Keeps (Machine.execDeviceKeyRederived s) := keeps_next (.ite h.rederive h)

theorem writeAlarmSts (h : s.Wf) {v present} : (s.writeAlarmSts v present).Wf := h.wr.showAlarm

theorem execAlarmStatusClear (h : s.Wf) {a v present} : Keeps (Machine.execAlarmStatusClear a v present s) :=
  keeps_next (h.atReg fun _ ht => ht.writeAlarmSts)

theorem showLanes (h : s.Wf) : s.showLanes.Wf := h.wr.wr.wr.wr.wr

theorem selfTest (h : s.Wf) : s.selfTest.Wf := .ite h.onCph.showLanes h

theorem execCipherSelftest (h : s.Wf) {a} : Keeps (Machine.execCipherSelftest a s) :=
  keeps_next (h.atReg fun _ ht => ht.selfTest)

theorem laneFence (h : s.Wf) {l} : (s.laneFence l).Wf := by
  unfold State.laneFence
  split
  extract_lets others
  exact .ite h (.ite h.holdFence (.ite h.onCph.fenceRec h.onCph.fenceRec))

theorem laneFail (h : s.Wf) {l} : (s.laneFail l).Wf := h.cphLast.raise.laneFence

theorem lanePass (h : s.Wf) {l} : (s.lanePass l).Wf := by
  unfold State.lanePass
  extract_lets s1
  have hs1 : s1.Wf := h.onCph
  exact .ite hs1.fenceRec hs1

theorem execLaneTestEnd (h : s.Wf) {pass} : Keeps (Machine.execLaneTestEnd pass s) := by
  unfold Machine.execLaneTestEnd
  refine keeps_next ?_
  split
  · exact h
  · extract_lets s1
    have hs1 : s1.Wf := h.onCph
    exact .showLanes (.ite hs1.lanePass hs1.laneFail)

/-! ## Machine/FurCmds.lean: Furrow's commands and events -/

theorem execGovernorAdmit (h : s.Wf) {page} : Keeps (Machine.execGovernorAdmit page s) := by
  unfold Machine.execGovernorAdmit
  refine keeps_next ?_
  extract_lets s1 s2
  have hs1 : s1.Wf := h.govAccrue.showGov
  have hs2 : s2.Wf := hs1.modMove.wr
  split
  · exact hs1
  · exact .ite hs2.onFur.bump.showGov hs1

theorem execGovernorRecompute (h : s.Wf) : Keeps (Machine.execGovernorRecompute s) := by
  unfold Machine.execGovernorRecompute
  refine keeps_next (.ite h ?_)
  extract_lets s1 week s2 left adm prog cap c d known xn xd g floor worn s3 s4
  have hs1 : s1.Wf := h.govAccrue
  have hs2 : s2.Wf := hs1.onFur
  have hs3 : s3.Wf := hs2.onFur.wr
  have hs4 : s4.Wf := hs3.cond.wr
  exact hs4.wr.showGov

theorem rewriteSlot (h : s.Wf) {st x loc} : (s.rewriteSlot st x loc).Wf := by
  unfold State.rewriteSlot
  extract_lets s1 s2
  have hs1 : s1.Wf := h.onFur
  have hs2 : s2.Wf := hs1.putSlot
  exact .ite (.ite hs2.setFur hs2) h

theorem execStripeProgramDone (h : s.Wf) {loc fails re} : Keeps (Machine.execStripeProgramDone loc fails re s) := by
  unfold Machine.execStripeProgramDone
  refine keeps_next ?_
  extract_lets l sb mem mine more s1 s2 bad st s3
  have hs1 : s1.Wf := h.onFur
  have hs2 : s2.Wf := hs1.bumpBy
  have hs3 : s3.Wf := hs2.foldl fun _ _ ht => ht.rewriteSlot
  refine .ite h (.ite hs2.onFur (hs3.foldl fun _ _ ht => ?_))
  extract_lets at_
  exact ht.bump.fcLast.raise.blockFailing

theorem readDone (h : s.Wf) {r ok} : (s.readDone r ok).Wf := h.onFur

theorem slotBad (h : s.Wf) {r re} : (s.slotBad r re).Wf := by
  unfold State.slotBad
  extract_lets s1 dropRead e s2
  have hs1 : s1.Wf := h.bump.raise.furLast
  have hdropRead : ∀ x, x.Wf → (dropRead x).Wf := fun _ ht => ht.onFur
  have hs2 : s2.Wf := hdropRead _ hs1
  refine .ite (.ite hs1.readDone (hdropRead _ hs1)) ?_
  split
  · exact .ite hs1.readDone (.ite hs2.modTier.healAsk hs2.poisonStart)
  · split
    · exact hdropRead _ hs1
    · exact .ite hs2.putSlot.setFur hs2.setFur.modTier
  · exact (hdropRead _ hs1).setFur.modTier
  · exact hdropRead _ hs1

theorem countReads (h : s.Wf) {blks} : (s.countReads blks).1.Wf := by
  unfold State.countReads
  extract_lets m
  exact h.onFur

theorem slotRead (h : s.Wf) {r x re} : (s.slotRead r x re).Wf := by
  unfold State.slotRead
  split
  · exact h.readDone
  · exact h.readDone
  · exact h.onFur
  · extract_lets st s4
    have hs4 : s4.Wf := h.onFur.putSlot
    exact .ite hs4 hs4.onFur

theorem execSlotReadReturn (h : s.Wf) {loc out re} : Keeps (Machine.execSlotReadReturn loc out re s) := by
  unfold Machine.execSlotReadReturn
  refine keeps_next ?_
  split
  · exact h
  · extract_lets sb out' hot
    split
    · refine .ite (.ite h.bump.slotRead h) ?_
      extract_lets y
      refine .ite h ?_
      split
      have ht := h.bump.countReads.fst ‹_›
      extract_lets s2 s3
      have hs2 : s2.Wf := .ite ht.refreshSb ht
      have hs3 : s3.Wf := .ite hs2.bump.raise.furLast.blockFailing hs2
      exact .ite hs3.slotBad hs3.slotRead
    · refine .ite h ?_
      split
      have ht := h.bump.countReads.fst ‹_›
      exact .slotBad (.ite ht.refreshSb ht)

theorem execDemandSuspend (h : s.Wf) {lun} : Keeps (Machine.execDemandSuspend lun s) := by
  unfold Machine.execDemandSuspend
  refine keeps_next (.ite ?_ h)
  extract_lets s1
  have hs1 : s1.Wf := h.onFur
  exact hs1.wr

theorem execSuspendedOpResume (h : s.Wf) {lun} : Keeps (Machine.execSuspendedOpResume lun s) :=
  keeps_next (.ite h h.onFur)

theorem execGcStart (h : s.Wf) {meta_} : Keeps (Machine.execGcStart meta_ s) := by
  unfold Machine.execGcStart
  refine keeps_next (.ite ?_ h)
  split
  · exact h
  · exact h.relocateSb

theorem execRelocationCas (h : s.Wf) {page} : Keeps (Machine.execRelocationCas page s) := by
  unfold Machine.execRelocationCas
  refine keeps_next ?_
  split
  · exact h
  · extract_lets s1
    have hs1 : s1.Wf := h.onFur
    exact .ite hs1.setFur hs1.onFur

theorem execSuperblockErase (h : s.Wf) {sb} : Keeps (Machine.execSuperblockErase sb s) := by
  unfold Machine.execSuperblockErase
  refine keeps_next ?_
  extract_lets b q new
  exact .ite h.modSb.onFur h

theorem execSuperblockEraseDone (h : s.Wf) {sb fails} : Keeps (Machine.execSuperblockEraseDone sb fails s) := by
  unfold Machine.execSuperblockEraseDone
  refine keeps_next ?_
  extract_lets b q s1 s2 s3 s4
  have hs1 : s1.Wf := h.modSb.onFur
  have hs2 : s2.Wf := by
    unfold s2
    refine hs1.foldl fun _ _ ht => ?_
    extract_lets at_ t1
    have ht1 : t1.Wf := ht.bump.fcLast.raise
    exact ht1.onFur
  have hs3 : s3.Wf := hs2.retireBlocks
  have hs4 : s4.Wf := .ite hs3.bump hs3
  exact .ite h hs4.showSb.showWear.showGov.showHarvest

theorem execWearLevel (h : s.Wf) : Keeps (Machine.execWearLevel s) := by
  unfold Machine.execWearLevel
  refine keeps_next (.ite ?_ h)
  extract_lets c
  split
  · exact h
  · exact h.relocateSb

theorem execRetentionScan (h : s.Wf) {need} : Keeps (Machine.execRetentionScan need s) := by
  unfold Machine.execRetentionScan
  refine keeps_next (.ite ?_ h)
  extract_lets closed s1
  have hs1 : s1.Wf := by
    unfold s1
    refine h.foldl fun _ _ ht => ?_
    extract_lets blks
    split
    have ht' := ht.countReads.fst ‹_›
    exact .ite ht'.refreshSb ht'
  exact hs1.foldl fun _ _ ht => .ite ht ht.refreshSb

theorem execLunReadyTimeout (h : s.Wf) {lun} : Keeps (Machine.execLunReadyTimeout lun s) := by
  unfold Machine.execLunReadyTimeout
  refine keeps_next ?_
  extract_lets c
  exact .ite h.bump.fcLast.raise.lunOut h

theorem writeLunFence (h : s.Wf) {c m} : (s.writeLunFence c m).Wf := h.foldl fun _ _ ht => .ite ht.lunOut ht

theorem execLunRetire (h : s.Wf) {a c m} : Keeps (Machine.execLunRetire a c m s) :=
  keeps_next (h.atReg fun _ ht => ht.writeLunFence)

theorem execRebuildDone (h : s.Wf) : Keeps (Machine.execRebuildDone s) := keeps_next h.showRebuild

theorem execFlashChannelFence (h : s.Wf) {a c} : Keeps (Machine.execFlashChannelFence a c s) :=
  keeps_next (h.atReg fun _ ht => ht.flashFence)

theorem showFlashUnits (h : s.Wf) {c} : (s.showFlashUnits c).Wf := h.wr.wr

theorem lunBack (h : s.Wf) {lun up} : (s.lunBack lun up).Wf := by
  unfold State.lunBack
  refine .ite ?_ h
  extract_lets s1
  have hs1 : s1.Wf := h.onFur
  exact .ite hs1.wrBit hs1

theorem writeFlashUnfence (h : s.Wf) {c} : (s.writeFlashUnfence c).Wf := by
  unfold State.writeFlashUnfence
  refine .ite ?_ h
  extract_lets s1 s2
  have hs1 : s1.Wf := h.foldl fun _ _ ht => ht.lunBack
  have hs2 : s2.Wf := hs1.wr.wr.fenceRec.showFlashUnits
  exact hs2.showGov.showRebuild.showHarvest

theorem execFlashChannelUnfence (h : s.Wf) {a c} : Keeps (Machine.execFlashChannelUnfence a c s) :=
  keeps_next (h.atReg fun _ ht => ht.writeFlashUnfence)

theorem writeLunUnfence (h : s.Wf) {c m} : (s.writeLunUnfence c m).Wf := by
  unfold State.writeLunUnfence
  refine .ite h ?_
  extract_lets s1
  have hs1 : s1.Wf := h.foldl fun _ _ ht => .ite ht.lunBack.fenceRec ht
  exact hs1.showFlashUnits.showGov.showRebuild.showHarvest

theorem execLunUnfence (h : s.Wf) {a c m} : Keeps (Machine.execLunUnfence a c m s) :=
  keeps_next (h.atReg fun _ ht => ht.writeLunUnfence)

theorem execSequencerSelfCheckFail (h : s.Wf) {c ok} : Keeps (Machine.execSequencerSelfCheckFail c ok s) :=
  keeps_next (.ite h.cond h.cond.flashFence)

theorem onfiStep (h : s.Wf) {a c v} {act : State → State} (hact : ∀ x, x.Wf → (act x).Wf) : (s.onfiStep a c v act).Wf :=
  .ite (hact _ h.wrW.wr) h.ignored

theorem execOnfiCommandByte (h : s.Wf) {a c ce b} : Keeps (Machine.execOnfiCommandByte a c ce b s) :=
  keeps_next (h.atReg fun _ ht => ht.onfiStep fun _ ht' => ht')

theorem execOnfiAddressByte (h : s.Wf) {a c ce b} : Keeps (Machine.execOnfiAddressByte a c ce b s) :=
  keeps_next (h.atReg fun _ ht => ht.onfiStep fun _ ht' => ht')

theorem execOnfiDataOut (h : s.Wf) {a c ce len} : Keeps (Machine.execOnfiDataOut a c ce len s) :=
  keeps_next (h.atReg fun _ ht => ht.onfiStep fun _ ht' => ht')

theorem xbufIn (h : s.Wf) {c len data} : (s.xbufIn c len data).Wf := by
  unfold State.xbufIn
  refine h.foldl fun _ _ ht => ?_
  extract_lets f n
  exact ht.wr

theorem execOnfiDataIn (h : s.Wf) {a c ce len data} : Keeps (Machine.execOnfiDataIn a c ce len data s) :=
  keeps_next (h.atReg fun _ ht => ht.onfiStep fun _ hu => hu.xbufIn)

theorem execOnfiWaitReady (h : s.Wf) {a c ce} : Keeps (Machine.execOnfiWaitReady a c ce s) :=
  keeps_next (h.atReg fun _ ht => ht.onfiStep fun _ ht' => ht')

theorem writeFlashDelay (h : s.Wf) {addr v} : (s.writeFlashDelay addr v).Wf := h.onFur

theorem writeFlashApply (h : s.Wf) {c} : (s.writeFlashApply c).Wf := .wr (h.foldl fun _ _ hu => hu.wrW)

theorem execOnfiDelayApply (h : s.Wf) {a c} : Keeps (Machine.execOnfiDelayApply a c s) :=
  keeps_next (h.atReg fun _ ht => ht.writeFlashApply)

theorem startChannels (h : s.Wf) : s.startChannels.Wf := by
  unfold State.startChannels
  refine h.foldl fun _ _ ht => .ite ht ?_
  extract_lets t0 t1
  have ht0 : t0.Wf := .ite ht ht.wr
  have ht1 : t1.Wf := ht0.wr
  exact ht1.wr

theorem format (h : s.Wf) : s.format.Wf := by
  unfold State.format
  extract_lets capF s1 sbRaw v s2 g s3
  have hs1 : s1.Wf := h.wr.onFur
  have hs2 : s2.Wf := hs1.onFur
  have hs3 : s3.Wf := hs2.onFur.wr.wr
  exact hs3.wr.wr

theorem furEnable (h : s.Wf) {ok} : (s.furEnable ok).Wf := by
  unfold State.furEnable
  extract_lets s1 s2
  have hs1 : s1.Wf := h.wr
  have hs2 : s2.Wf := .ite hs1.wr hs1.format
  exact .ite hs1 (.ite hs2.startChannels.wr.relocAgain.showSb.showChannels.showGov hs1)

theorem execFurrowFormat (h : s.Wf) {a ok} : Keeps (Machine.execFurrowFormat a ok s) :=
  keeps_next (h.atReg fun _ ht => ht.furEnable)

/-! ## Machine/HostPorts.lean: the CXL host ports (chapter 03) -/

theorem lsetState (h : s.Wf) {p q st} : (s.lsetState p q st).Wf := h.wrW

theorem showPort (h : s.Wf) {p} : (s.showPort p).Wf := h.cond

theorem showPortFence (h : s.Wf) {p} : (s.showPortFence p).Wf := by
  unfold State.showPortFence
  extract_lets all out
  exact h.wr.wr

theorem cfgReset (h : s.Wf) {p q} : (s.cfgReset p q).Wf := h.foldl fun _ _ ht => ht.onLd

theorem linkDown (h : s.Wf) {p q st reset} : (s.linkDown p q st reset).Wf := by
  unfold State.linkDown
  extract_lets s1 t s2
  have hs1 : s1.Wf := h.bump.raise.stamp
  have hs2 : s2.Wf := hs1.withHp.onFab.lsetState.showPort
  exact .ite hs2.cfgReset hs2

theorem fenceSub (h : s.Wf) {p q dev} : (s.fenceSub p q dev).Wf := by
  unfold State.fenceSub
  refine .ite h (.ite h.holdFence ?_)
  extract_lets s1
  have hs1 : s1.Wf := .ite h.linkDown h.lsetState
  exact hs1.showPortFence.fenceRec

theorem linkLimit (h : s.Wf) {p q} : (s.linkLimit p q).Wf := .ite h.fenceSub.unstamp h

theorem applyMode (h : s.Wf) {p} : (s.applyMode p).Wf := by
  unfold State.applyMode
  refine .ite h ?_
  extract_lets m t
  exact h.withHp.wr.showPortFence

theorem writeBifur (h : s.Wf) {a p m} : (s.writeBifur a p m).Wf := .ite h.ignored h.wr.wr.applyMode

theorem train (h : s.Wf) {p q} : (s.train p q).Wf := .ite h.lsetState (.ite h.lsetState h.lsetState)

theorem writeEnable (h : s.Wf) {p q on} : (s.writeEnable p q on).Wf := by
  unfold State.writeEnable
  extract_lets s1 s2
  have hs1 : s1.Wf := h.wr
  have hs2 : s2.Wf := .ite hs1.linkDown.linkLimit (.ite hs1 hs1.lsetState)
  exact .ite (.ite hs1.train hs1) hs2.applyMode

theorem linkAt (h : s.Wf) {p q rate width} : (s.linkAt p q rate width).Wf := by
  unfold State.linkAt
  extract_lets deg s1 s2 t
  have hs1 : s1.Wf := h.wr.wr.wr.wr
  have hs2 : s2.Wf := hs1.foldl fun _ _ ht => ht.onLd
  exact hs2.withHp.showPort

theorem execBifurModeWrite (h : s.Wf) {a p m} : Keeps (Machine.execBifurModeWrite a p m s) :=
  keeps_next (h.atReg fun _ ht => ht.writeBifur)

theorem execSublinkEnableChange (h : s.Wf) {a p q on} : Keeps (Machine.execSublinkEnableChange a p q on s) :=
  keeps_next (h.atReg fun _ ht => ht.writeEnable)

theorem writeRetrain (h : s.Wf) {p q} : (s.writeRetrain p q).Wf := .ite h.withHp h

theorem execLinkRetrain (h : s.Wf) {a p q} : Keeps (Machine.execLinkRetrain a p q s) :=
  keeps_next (h.atReg fun _ ht => ht.writeRetrain)

theorem execLinkTrainDone (h : s.Wf) {p q rate width peerSwitch mldOk} : Keeps (Machine.execLinkTrainDone p q rate width
    peerSwitch mldOk s) := by
  unfold Machine.execLinkTrainDone
  refine keeps_next (.ite ?_ h)
  extract_lets mld
  exact h.linkAt.wr.wr.wr

theorem execLinkModeFail (h : s.Wf) {p q} : Keeps (Machine.execLinkModeFail p q s) :=
  keeps_next (.ite h.lsetState.bump.raise.stamp.linkLimit h)

theorem execLinkTrainRetryTimer (h : s.Wf) {p q} : Keeps (Machine.execLinkTrainRetryTimer p q s) :=
  keeps_next (.ite h.train h)

theorem execLinkRecovery (h : s.Wf) {p q rate width replays} : Keeps (Machine.execLinkRecovery p q rate width replays s) :=
  keeps_next (.ite h.bumpBy.linkAt h)

theorem execLinkDown (h : s.Wf) {p q} : Keeps (Machine.execLinkDown p q s) := keeps_next (.ite h.linkDown.linkLimit h)

theorem writeSubFence (h : s.Wf) {p m} : (s.writeSubFence p m).Wf := h.foldl fun _ _ ht => ht.fenceSub

theorem writeSubUnfence (h : s.Wf) {p m} : (s.writeSubUnfence p m).Wf :=
  .showPortFence (h.foldl fun _ _ ht => .ite ht.lsetState.unstamp.fenceRec ht)

theorem execSublinkFence (h : s.Wf) {a p m} : Keeps (Machine.execSublinkFence a p m s) :=
  keeps_next (h.atReg fun _ ht => ht.writeSubFence)

theorem execSublinkUnfence (h : s.Wf) {a p m} : Keeps (Machine.execSublinkUnfence a p m s) :=
  keeps_next (h.atReg fun _ ht => ht.writeSubUnfence)

theorem writeDevload (h : s.Wf) {a p v} : (s.writeDevload a p v).Wf := by
  unfold State.writeDevload
  extract_lets t1 t2 t3
  exact .ite h.wr.wr.wr h.ignored

theorem execDevloadWrite (h : s.Wf) {a p v} : Keeps (Machine.execDevloadWrite a p v s) :=
  keeps_next (h.atReg fun _ ht => ht.writeDevload)

theorem writeLdmbx (h : s.Wf) {a n v} : (s.writeLdmbx a n v).Wf := .ite h.ignored h.wr.wr

theorem execLdmbxWrite (h : s.Wf) {a n v} : Keeps (Machine.execLdmbxWrite a n v s) :=
  keeps_next (h.atReg fun _ ht => ht.writeLdmbx)

theorem convReset (h : s.Wf) {p q st} : (s.convReset p q st).Wf :=
  .ite h.linkDown.linkLimit (.ite h.cfgReset h.lsetState.cfgReset)

theorem execPerstAssert (h : s.Wf) {p q} : Keeps (Machine.execPerstAssert p q s) := by
  unfold Machine.execPerstAssert
  refine keeps_next ?_
  extract_lets l t
  exact .ite h h.withHp.convReset

theorem execPerstRelease (h : s.Wf) {p q} : Keeps (Machine.execPerstRelease p q s) := by
  unfold Machine.execPerstRelease
  refine keeps_next ?_
  extract_lets l t s1
  have hs1 : s1.Wf := h.withHp
  exact .ite (.ite hs1.train hs1) h

theorem execHotReset (h : s.Wf) {p q} : Keeps (Machine.execHotReset p q s) := keeps_next (.ite h.convReset h)

theorem abortQueued (h : s.Wf) {k} : (s.abortQueued k).Wf := by
  unfold State.abortQueued
  extract_lets t s1
  have hs1 : s1.Wf := h.withMb
  exact hs1.onLd

theorem execFunctionLevelReset (h : s.Wf) {link ld} : Keeps (Machine.execFunctionLevelReset link ld s) :=
  keeps_next (.ite h.abortQueued.onLd h)

theorem execCxlReset (h : s.Wf) {link ld} : Keeps (Machine.execCxlReset link ld s) :=
  keeps_next (.ite h.abortQueued.onLd h)

theorem execCxlResetEnd (h : s.Wf) {link ld} : Keeps (Machine.execCxlResetEnd link ld s) := keeps_next (.ite h h.onLd)

theorem execGetLdInfo (h : s.Wf) {link} : Keeps (Machine.execGetLdInfo link s) := keeps_next (.ite h.emit h)

theorem execGetLdAllocations (h : s.Wf) {link} : Keeps (Machine.execGetLdAllocations link s) := keeps_next (.ite h.emit h)

theorem execFmApiUnsupported (h : s.Wf) {link op} : Keeps (Machine.execFmApiUnsupported link op s) :=
  keeps_next (.ite h.emit h)

theorem execHdmDecoderCommit (h : s.Wf) {link ld idx r} : Keeps (Machine.execHdmDecoderCommit link ld idx r s) := by
  unfold Machine.execHdmDecoderCommit
  refine keeps_next ?_
  extract_lets k d l
  refine .ite h ?_
  split
  · exact h
  · exact .ite h.onLd h.onLd

theorem execDcEventRaise (h : s.Wf) {n} : Keeps (Machine.execDcEventRaise n s) := by
  unfold Machine.execDcEventRaise
  refine keeps_next (.ite h ?_)
  extract_lets mine t s1 k s2
  have hs1 : s1.Wf := h.withHp
  have hs2 : s2.Wf := hs1.onLd
  exact .ite (.ite hs2 hs2.ldMsi) hs1

theorem execGpfPhase2 (h : s.Wf) {link ld} : Keeps (Machine.execGpfPhase2 link ld s) := keeps_next (.ite h.emit h)

/-! ## Machine/NetCmds.lean: the network ports -/

theorem showNpt (h : s.Wf) {n} : (s.showNpt n).Wf := by
  unfold State.showNpt
  extract_lets k up st
  exact h.wr.cond

theorem nptDown (h : s.Wf) {n k} : (s.nptDown n k).Wf := by
  unfold State.nptDown
  refine .ite ?_ h
  extract_lets s1 pair
  have hs1 : s1.Wf := .showNpt (.bump (h.wrBit.foldl fun _ _ ht => ht.wrBit))
  exact .ite hs1.pathDown hs1

theorem writeNpt (h : s.Wf) {a n v} : (s.writeNpt a n v).Wf := by
  unfold State.writeNpt
  extract_lets m en bad s0 s1 down s2
  have hs0 : s0.Wf := .ite h.ignored (.ite h h.wr)
  have hs1 : s1.Wf := hs0.wr.wr.wr.wr
  have hdown : ∀ x, x.Wf → (down x).Wf := fun _ ht => ht.foldl fun _ _ hu => hu.nptDown
  have hs2 : s2.Wf := hs1.wr
  exact .ite (hdown _ hs1).wr.showNpt (.showNpt (.ite (hdown _ hs2) hs2))

theorem execNetPortModeWrite (h : s.Wf) {a n v} : Keeps (Machine.execNetPortModeWrite a n v s) :=
  keeps_next (h.atReg fun _ ht => ht.writeNpt)

theorem writeNptRetrain (h : s.Wf) {n} : (s.writeNptRetrain n).Wf := h.foldl fun _ _ hu => hu.nptDown

theorem execNetPortRetrain (h : s.Wf) {a n} : Keeps (Machine.execNetPortRetrain a n s) :=
  keeps_next (h.atReg fun _ ht => ht.writeNptRetrain)

theorem execNetLinkUp (h : s.Wf) {n k lanes} : Keeps (Machine.execNetLinkUp n k lanes s) :=
  keeps_next (.ite (.showNpt (h.wrBit.foldl fun _ _ ht => ht.wrBit)) h)

theorem execNetLinkDown (h : s.Wf) {n k} : Keeps (Machine.execNetLinkDown n k s) := keeps_next h.nptDown

theorem execNetTrainFail (h : s.Wf) {n k} : Keeps (Machine.execNetTrainFail n k s) := keeps_next (.ite h.bump h)

theorem execPfcFrameReceive (h : s.Wf) {n pause resume} : Keeps (Machine.execPfcFrameReceive n pause resume s) := by
  unfold Machine.execPfcFrameReceive
  refine keeps_next (.ite h ?_)
  extract_lets s1 ps t s2
  have hs1 : s1.Wf := h.bump.bump
  have hs2 : s2.Wf := hs1.withNet
  exact hs2.foldl fun _ _ ht => .ite ht ht.netResume

theorem execAddressResolutionRx (h : s.Wf) {n sub vlan} : Keeps (Machine.execAddressResolutionRx n sub vlan s) := by
  unfold Machine.execAddressResolutionRx
  refine keeps_next (.ite h ?_)
  extract_lets s1 known
  have hs1 : s1.Wf := h.bump
  exact .ite hs1.emit hs1

theorem execMacFrameDiscard (h : s.Wf) {n why} : Keeps (Machine.execMacFrameDiscard n why s) := by
  unfold Machine.execMacFrameDiscard
  refine keeps_next ?_
  split
  · exact h.bump.raise
  · exact h.bump.raise
  · exact h.bump

theorem execFecUncorrectableCodeword (h : s.Wf) {n} : Keeps (Machine.execFecUncorrectableCodeword n s) :=
  keeps_next h.bump.raise

/-! ## Machine/Domains.lean: what a block keeps when its domain is off or its group is reset -/

theorem csrReset (h : s.Wf) {ws keep} : (s.csrReset ws keep).Wf := by
  unfold State.csrReset
  refine h.foldl fun _ _ ht => ?_
  split
  · exact ht
  · exact .ite ht.wrW ht

theorem journalPut (h : s.Wf) {key v} : (s.journalPut key v).Wf := by
  unfold State.journalPut
  extract_lets m
  exact h.wrW

theorem journalRestore (h : s.Wf) {j pick} : (s.journalRestore j pick).Wf := by
  unfold State.journalRestore
  extract_lets s1
  have hs1 : s1.Wf := h.foldl fun _ _ ht => .ite ht.journalPut ht
  exact hs1.foldl fun _ _ ht => .ite ht.journalPut ht

theorem recount (h : s.Wf) : s.recount.Wf := by
  unfold State.recount
  extract_lets view cnt s1 dirty s2
  have hs1 : s1.Wf := h.foldl fun _ _ ht => ht.wr.wr
  have hs2 : s2.Wf := hs1.wr.wr.wr
  exact hs2.showFrames.showMoves.showPins.showHarvest

theorem heatLost (h : s.Wf) : s.heatLost.Wf := h.foldl fun _ _ ht => ht.onWin.draw

theorem resetCore (h : s.Wf) {off} : (s.resetCore off).Wf := by
  unfold State.resetCore
  extract_lets s1 f lines fab t s2 s3
  have hs1 : s1.Wf := h.csrReset
  clear_value s1
  have hs2 : s2.Wf := hs1
  have hs3 : s3.Wf := .showAlt (hs2.foldl fun _ _ ht => ht.ncReset)
  exact hs3.foldl fun _ _ ht => ht.showCb

theorem resetCph (h : s.Wf) : s.resetCph.Wf := by
  unfold State.resetCph
  extract_lets s1
  have hs1 : s1.Wf := h.zeroise
  exact hs1.csrReset.onCph.showAlarm.wr.showLanes

theorem resetMem (h : s.Wf) : s.resetMem.Wf := by
  unfold State.resetMem
  extract_lets s1 s2 held s3
  have hs1 : s1.Wf := h.foldl fun _ _ ht => ht.abandonMove
  have hs2 : s2.Wf := hs1.onWin.onDr
  have hs3 : s3.Wf := hs2.csrReset.heatLost
  exact hs3.wr

theorem resetFur (h : s.Wf) {off} : (s.resetFur off).Wf := by
  unfold State.resetFur
  extract_lets keep s1
  have hs1 : s1.Wf := h.csrReset
  exact .ite hs1.onFur hs1.onFur.relocStop.relocAgain.showSb

theorem resetFc (h : s.Wf) {c0 off} : (s.resetFc c0 off).Wf := by
  unfold State.resetFc
  extract_lets keep
  exact h.csrReset

theorem resetYok (h : s.Wf) : s.resetYok.Wf := by
  unfold State.resetYok
  extract_lets again s1
  have hs1 : s1.Wf := h.onYk fun _ hy => hy.of_length (List.length_map _)
  exact hs1.csrReset

theorem resetDrl (h : s.Wf) : s.resetDrl.Wf := by
  unfold State.resetDrl
  extract_lets s1 s2 s3
  have hs1 : s1.Wf := h.foldl fun _ _ ht => ht.connClosed
  have hs2 : s2.Wf := hs1.withDl
  have hs3 : s3.Wf := hs2.csrReset
  exact hs3.onGrn

theorem resetHcore (h : s.Wf) {n} : (s.resetHcore n).Wf := by
  unfold State.resetHcore
  extract_lets a s1 s2 s3
  have hs1 : s1.Wf := h.foldl fun _ _ ht => .ite ht.wrW ht
  have hs2 : s2.Wf := hs1.foldl fun _ _ ht => .ite ht.semFree ht
  have hs3 : s3.Wf := hs2.onMb.wr
  exact .ite hs3 hs3.wr

theorem resetHp (h : s.Wf) {p} : (s.resetHp p).Wf := by
  unfold State.resetHp
  extract_lets s1
  have hs1 : s1.Wf := h.foldl fun _ _ ht => ht.convReset
  exact hs1.csrReset.applyMode

theorem resetDc (h : s.Wf) {c} : (s.resetDc c).Wf := by
  unfold State.resetDc
  extract_lets s1
  have hs1 : s1.Wf := h.onCh
  exact hs1.csrReset

theorem resetNet (h : s.Wf) {n0 quiet} : (s.resetNet n0 quiet).Wf := by
  unfold State.resetNet
  extract_lets ports s1 s2 t
  have hs1 : s1.Wf := .ite h (h.foldl fun _ _ ht => ht.foldl fun _ _ hu => hu.nptDown)
  have hs2 : s2.Wf := hs1.csrReset
  exact hs2.withNet

theorem resetDom (h : s.Wf) {d off} : (s.resetDom d off).Wf :=
  .ite h.resetCore (.ite h.resetCph (.ite h.resetMem (.ite h.resetFur (.ite h.resetYok (.ite h.resetDrl (.ite h.resetHcore
    (.ite h.resetHp (.ite h.resetDc (.ite h.resetNet (.ite h.resetFc h))))))))))

theorem showPowered (h : s.Wf) {d} : (s.showPowered d).Wf := .ite h.wr (h.foldl fun _ _ ht => ht.wr)

theorem domOff (h : s.Wf) {d retain} : (s.domOff d retain).Wf := by
  unfold State.domOff
  refine .ite h ?_
  extract_lets s1
  have hs1 : s1.Wf := h.resetDom.wr.showPowered
  exact .ite hs1.csrReset hs1

theorem domOn (h : s.Wf) {d} : (s.domOn d).Wf := by
  unfold State.domOn
  refine .ite h ?_
  extract_lets was s1 n
  have hs1 : s1.Wf := h.wr.wr.showPowered
  exact .ite (.ite hs1 hs1.wr) (.ite (.showLanes (.ite hs1.onCph hs1)) hs1)

theorem openWindow (h : s.Wf) : s.openWindow.Wf := by
  unfold State.openWindow
  extract_lets t t' t'' t'''
  have ht'' : t''.Wf := h.withCs.withEfl h.efl
  exact .ite (.wr (.wr (ht''.withEfl ht''.efl))) ht''

/-! ## Machine/Headland.lean: mailbox commands, semaphores, cores -/

theorem wakePds (h : s.Wf) {l} : (s.wakePds l).Wf := by
  unfold State.wakePds
  extract_lets asleep
  exact h.foldl fun _ _ ht => ht.domOn.bump

theorem mbxResult (h : s.Wf) {a op r c} : (s.mbxResult a op r c).Wf := h.wr.wr.wr

theorem writeMbxSend (h : s.Wf) {a out c} : (s.writeMbxSend a out c).Wf := by
  unfold State.writeMbxSend
  extract_lets w s0 kind dest msg hdr s1 s2 s3
  have hs0 : s0.Wf := h.wr.wr
  have hs1 : s1.Wf := hs0.mbxPut.foldl fun _ _ ht => ht.wr
  have hs2 : s2.Wf := hs1.mbxResult
  have hs3 : s3.Wf := hs2.wakePds
  exact .ite hs0.mbxResult.ignored (.ite hs0.mbxResult.ignored (.ite hs2 (.ite hs3.relayNew hs3)))

theorem execMbxSend (h : s.Wf) {a dir c} : Keeps (Machine.execMbxSend a dir c s) :=
  keeps_next (h.atReg fun _ ht => ht.writeMbxSend)

theorem writeMbxAck (h : s.Wf) {a out c seq} : (s.writeMbxAck a out c seq).Wf := by
  unfold State.writeMbxAck
  extract_lets s0
  have hs0 : s0.Wf := h.wr.wr.wr
  exact .ite hs0.mbxResult.badAccess (.ite hs0.mbxResult (.ite hs0.mbxResult hs0.mbxEmpty.mbxResult))

theorem execMbxAck (h : s.Wf) {a dir c seq} : Keeps (Machine.execMbxAck a dir c seq s) :=
  keeps_next (h.atReg fun _ ht => ht.writeMbxAck)

theorem execHwSenderPresent (h : s.Wf) {h'} : Keeps (Machine.execHwSenderPresent h' s) := by
  unfold Machine.execHwSenderPresent
  refine keeps_next (.ite h ?_)
  split
  · exact h.feNew
  · split
    · exact h
    · exact h.feTry
  · exact h.drlMbx
  · split
    · exact h
    · exact .ite h h.onMb.relayDeliver

theorem execOutSlotDeliver (h : s.Wf) {c} : Keeps (Machine.execOutSlotDeliver c s) := keeps_next (.ite h.outTake h)

theorem execMbxPollTimer (h : s.Wf) : Keeps (Machine.execMbxPollTimer s) := by
  unfold Machine.execMbxPollTimer
  extract_lets waits
  exact keeps_next h.onMb

theorem semRead (h : s.Wf) {a k} : (s.semRead a k).1.Wf := by
  unfold State.semRead
  split
  · exact h
  · exact h.wr.wr.wrBit

theorem execSemRead (h : s.Wf) {a k} : Keeps (Machine.execSemRead a k s) := by
  unfold Machine.execSemRead
  refine keeps_next (h.atRead fun _ ht => ?_)
  split
  have ht' := ht.semRead.fst ‹_›
  exact ht'.emit

theorem writeSem (h : s.Wf) {a k v} : (s.writeSem a k v).Wf := .ite h.semFree h.raise.ignored

theorem execSemRelease (h : s.Wf) {a k} : Keeps (Machine.execSemRelease a k s) :=
  keeps_next (h.atReg fun _ ht => ht.writeSem)

theorem writeSemForce (h : s.Wf) {a k} : (s.writeSemForce a k).Wf := .ite h.semFree.wr h.ignored

theorem execSemForce (h : s.Wf) {a k} : Keeps (Machine.execSemForce a k s) :=
  keeps_next (h.atReg fun _ ht => ht.writeSemForce)

theorem showOrphan (h : s.Wf) : s.showOrphan.Wf := h.cond

theorem showCores (h : s.Wf) : s.showCores.Wf := h.wr.showOrphan

theorem execCoreSleep (h : s.Wf) {n} : Keeps (Machine.execCoreSleep n s) := keeps_next (.ite h.wr.wr h)

theorem execCoreWake (h : s.Wf) {n} : Keeps (Machine.execCoreWake n s) := keeps_next (.ite h.onMb.wr.wr.bump.bump h)

theorem coreFence (h : s.Wf) {n cause} : (s.coreFence n cause).Wf := by
  unfold State.coreFence
  refine .ite h (.ite h.holdFence ?_)
  extract_lets s1 s2
  have hs1 : s1.Wf := h.wr.wr.onMb
  have hs2 : s2.Wf := by
    unfold s2
    split
    · exact hs1
    · extract_lets t
      have ht : t.Wf := hs1.foldl fun _ _ hu => .ite hu.wr hu
      exact ht.foldl fun _ _ hu => .ite hu.wr hu
  exact hs2.showCores.fenceRec

theorem writeCoreFence (h : s.Wf) {a n} : (s.writeCoreFence a n).Wf := .ite h.fenceRec.ignored h.coreFence

theorem execCoreFence (h : s.Wf) {a n} : Keeps (Machine.execCoreFence a n s) :=
  keeps_next (h.atReg fun _ ht => ht.writeCoreFence)

theorem execCoreSelfCheckFail (h : s.Wf) {n} : Keeps (Machine.execCoreSelfCheckFail n s) := by
  unfold Machine.execCoreSelfCheckFail
  refine keeps_next (.ite h ?_)
  extract_lets s1
  have hs1 : s1.Wf := h.raise
  exact .ite hs1 (.ite hs1.fenceRec hs1.coreFence)

theorem writeCoreUnfence (h : s.Wf) {a n} : (s.writeCoreUnfence a n).Wf := .ite h.ignored h.wr.fenceRec.showCores

theorem execCoreUnfence (h : s.Wf) {a n} : Keeps (Machine.execCoreUnfence a n s) :=
  keeps_next (h.atReg fun _ ht => ht.writeCoreUnfence)

/-! ## Machine/Fences.lean: fences that waited -/

theorem applyFence (h : s.Wf) {h'} : (s.applyFence h').Wf := by
  unfold State.applyFence
  extract_lets dev
  split
  · exact .ite h.clusterFence h.tineFence
  · exact .ite h h.ncFence
  · exact h.dramFence
  · exact .ite h.flashFence h.lunOut
  · exact h.laneFence
  · exact h.coreFence
  · exact h.fenceSub
  · exact h

theorem applyHeld (h : s.Wf) : s.applyHeld.Wf := by
  unfold State.applyHeld
  split
  exact h.withRs.foldl fun _ _ ht => ht.applyFence

/-! ## Machine/Power.lean: the power sequencer and its masters -/

theorem onPw (h : s.Wf) {f} : (s.onPw f).Wf := h.withPw

theorem onHv (h : s.Wf) {f} : (s.onHv f).Wf := h.withHv

theorem pwrEvt (h : s.Wf) {bit cause slot} : (s.pwrEvt bit cause slot).Wf := by
  unfold State.pwrEvt
  extract_lets w s1
  have hs1 : s1.Wf := .ite h h.wr.wr.wr.wr
  exact hs1.raiseAs

theorem reachOn (h : s.Wf) : s.reachOn.Wf := by
  unfold State.reachOn
  extract_lets s1 s2 t s3
  have hs1 : s1.Wf := h.wr.wr
  have hs2 : s2.Wf := .wr (hs1.foldl fun _ _ ht => ht.domOn)
  have hs3 : s3.Wf := hs2.withHp
  exact hs3.onHv.wr.recount

theorem enableStep (h : s.Wf) : s.enableStep.Wf := by
  unfold State.enableStep
  extract_lets go
  refine h.foldl fun _ _ ht => ?_
  extract_lets high
  exact ht.wr.wr.wr.onPw

theorem powerUp (h : s.Wf) : s.powerUp.Wf := by
  unfold State.powerUp
  extract_lets s1 s2 s3
  have hs1 : s1.Wf := h.wr.onPw.foldl fun _ _ ht => ht.wr
  have hs2 : s2.Wf := hs1.foldl fun _ _ ht => .ite ht ht.wr
  have hs3 : s3.Wf := hs2.enableStep
  exact .ite hs3.reachOn hs3

theorem pwrDone (h : s.Wf) : s.pwrDone.Wf := by
  unfold State.pwrDone
  refine .ite ?_ h
  split
  · exact h
  · exact h.onPw.wr.wr

theorem slotOut (h : s.Wf) {n st} : (s.slotOut n st).Wf := h.wr.onPw.pwrDone

theorem allOff (h : s.Wf) {fallow} : (s.allOff fallow).Wf := by
  unfold State.allOff
  refine h.foldl fun _ _ ht => ?_
  extract_lets d
  exact ht.domOff

theorem takeDown (h : s.Wf) {goal fallow} : (s.takeDown goal fallow).Wf := by
  unfold State.takeDown
  extract_lets s1 s2 s3 down busy
  have hs1 : s1.Wf := h.allOff.onHv
  have hs2 : s2.Wf := .ite hs1 hs1.wr
  have hs3 : s3.Wf := .wr (hs2.foldl fun _ _ ht => .ite ht.wr ht)
  exact hs3.wr.onPw.pwrDone

theorem powerAbort (h : s.Wf) {n bit cause} : (s.powerAbort n bit cause).Wf := h.wr.wr.pwrEvt.takeDown

theorem startHarvest (h : s.Wf) {r} : (s.startHarvest r).Wf := .ite h h.onHv

theorem powerGoes (h : s.Wf) {r goal} : (s.powerGoes r goal).Wf := .ite h.startHarvest h.takeDown

theorem writePwrOn (h : s.Wf) {a flt test} : (s.writePwrOn a flt test).Wf := by
  unfold State.writePwrOn
  extract_lets t e u
  have ht : t.Wf := h.wr
  have hu : u.Wf := ht.wr
  exact .ite ht.ignored (.ite (.ite hu.raise (.ite hu hu.powerUp)) ht)

theorem execPwrCtlOn (h : s.Wf) {a flt test} : Keeps (Machine.execPwrCtlOn a flt test s) :=
  keeps_next (h.atReg fun _ ht => ht.writePwrOn)

theorem writePwrOff (h : s.Wf) {a} : (s.writePwrOff a).Wf := .ite h.ignored (.ite h.powerGoes h)

theorem execPwrCtlOff (h : s.Wf) {a} : Keeps (Machine.execPwrCtlOff a s) :=
  keeps_next (h.atReg fun _ ht => ht.writePwrOff)

theorem execPlossDeglitched (h : s.Wf) : Keeps (Machine.execPlossDeglitched s) := by
  unfold Machine.execPlossDeglitched
  refine keeps_next ?_
  extract_lets t
  have ht : t.Wf := h.wr
  exact .ite ht.powerGoes (.ite ht.takeDown ht)

theorem execPlossRise (h : s.Wf) : Keeps (Machine.execPlossRise s) := by
  unfold Machine.execPlossRise
  refine keeps_next (.ite h ?_)
  extract_lets t
  have ht : t.Wf := h.wr
  exact .ite ht.powerUp ht

theorem execRailPgChange (h : s.Wf) {n level} : Keeps (Machine.execRailPgChange n level s) := by
  unfold Machine.execRailPgChange
  refine keeps_next (.ite h ?_)
  extract_lets t chat u
  have ht : t.Wf := h.wr
  have hu : u.Wf := ht.wr.bump.raise
  exact .ite (.ite ht.onPw (.ite hu.bump.powerAbort hu)) (.ite ht.slotOut ht)

theorem execRailStable (h : s.Wf) {n} : Keeps (Machine.execRailStable n s) := by
  unfold Machine.execRailStable
  refine keeps_next (.ite ?_ h)
  extract_lets t
  have ht : t.Wf := h.wr.enableStep
  exact .ite ht.reachOn ht

theorem execRailOnTimeout (h : s.Wf) {n} : Keeps (Machine.execRailOnTimeout n s) := keeps_next (.ite h.bump.powerAbort h)

theorem execRailPgLost (h : s.Wf) {n} : Keeps (Machine.execRailPgLost n s) := by
  unfold Machine.execRailPgLost
  refine keeps_next (.ite h ?_)
  extract_lets t u
  have ht : t.Wf := h.bump
  have hu : u.Wf := ht.pwrEvt.wr.wr
  exact .ite ht.powerAbort (.ite (.ite ht.pwrEvt.wr.onHv ht.pwrEvt) (.ite hu.takeDown (.ite hu.powerGoes hu)))

theorem execPwrFltNFall (h : s.Wf) : Keeps (Machine.execPwrFltNFall s) := by
  unfold Machine.execPwrFltNFall
  refine keeps_next ?_
  extract_lets t u
  have ht : t.Wf := h.wr
  have hu : u.Wf := ht.pwrEvt
  exact .ite ht (.ite hu.takeDown (.ite hu.powerGoes hu))

theorem execRailOffDelay (h : s.Wf) {n} : Keeps (Machine.execRailOffDelay n s) := by
  unfold Machine.execRailOffDelay
  refine keeps_next ?_
  extract_lets waits t
  have ht : t.Wf := h.wr
  exact .ite h (.ite ht.wr ht.slotOut)

theorem execRailOffTimeout (h : s.Wf) {n} : Keeps (Machine.execRailOffTimeout n s) :=
  keeps_next (.ite h.bump.pwrEvt.slotOut h)

theorem writePwrFault (h : s.Wf) : s.writePwrFault.Wf := .ite h.wr.wr.wr h

theorem execPwrFaultClear (h : s.Wf) {a} : Keeps (Machine.execPwrFaultClear a s) :=
  keeps_next (h.atReg fun _ ht => ht.writePwrFault)

theorem writePdOn (h : s.Wf) {a v} : (s.writePdOn a v).Wf := .ite (h.foldl fun _ _ ht => ht.domOn) h.badAccess

theorem writePdOff (h : s.Wf) {a v} : (s.writePdOff a v).Wf := by
  unfold State.writePdOff
  extract_lets bad ask t
  have hbad : ∀ x, x.Wf → (bad x).Wf := fun _ ht => ht.badAccess
  have ht : t.Wf := h.foldl fun _ _ hu => .ite hu hu.domOff.wr
  exact .ite (hbad _ h) (.ite ht (hbad _ ht))

theorem execPdOn (h : s.Wf) {a v} : Keeps (Machine.execPdOn a v s) := keeps_next (h.atReg fun _ ht => ht.writePdOn)

theorem execPdOff (h : s.Wf) {a v} : Keeps (Machine.execPdOff a v s) := keeps_next (h.atReg fun _ ht => ht.writePdOff)

theorem showOverCap (h : s.Wf) : s.showOverCap.Wf := by
  unfold State.showOverCap
  extract_lets b
  exact h.wr.cond

theorem execVoltageLoopStep (h : s.Wf) {want read} : Keeps (Machine.execVoltageLoopStep want read s) := by
  unfold Machine.execVoltageLoopStep
  refine keeps_next (.ite h (.ite h.wr.onPw (.ite h ?_)))
  extract_lets t v room
  have ht : t.Wf := h.wr
  split
  extract_lets goal next
  exact ht.onPw.showOverCap

theorem execPowerMeasure (h : s.Wf) {w floor} : Keeps (Machine.execPowerMeasure w floor s) := by
  unfold Machine.execPowerMeasure
  refine keeps_next (.ite ?_ h)
  extract_lets t
  have ht : t.Wf := h.wr.wr
  exact .ite ht.showOverCap ht

theorem pmbus (h : s.Wf) {v res data} : (s.pmbus v res data).Wf := by
  unfold State.pmbus
  extract_lets kind len addr code s1 core s2 n new
  have hs1 : s1.Wf := h.wr.wr.wr.wr
  have hs2 : s2.Wf := hs1.wr.emit
  exact .ite hs1.wr (.ite hs2.raise (.ite (hs2.foldl fun _ _ ht => ht.wr) hs2))

theorem execPmbusTransaction (h : s.Wf) {a v res data} : Keeps (Machine.execPmbusTransaction a v res data s) :=
  keeps_next (h.atReg fun _ ht => ht.pmbus)

theorem execVddioSbLow (h : s.Wf) : Keeps (Machine.execVddioSbLow s) := keeps_next h.onPw.wr.record

theorem execVddioSbReturn (h : s.Wf) : Keeps (Machine.execVddioSbReturn s) := keeps_next h.onPw

/-! ## Machine/Recorder.lean: the event recorder (chapter 20) -/

theorem showQueue (h : s.Wf) : s.showQueue.Wf := h.wr

theorem recPut (h : s.Wf) {r} : (s.recPut r).Wf := by
  unfold State.recPut
  extract_lets w
  have hq : ({ s.rcd with mem := wrBytes s.rcd.mem w (r.bytes (s.rd REC_SEQ_NEXT)), written := s.rcd.written + 1 } :
    Recorder).Wf :=
    mwf_wrBytes _ _ h.rcd
  exact .wr (.wr (h.withRcd hq))

theorem recPop (h : s.Wf) : s.recPop.Wf := by
  unfold State.recPop
  extract_lets drop
  exact h.onRec.showQueue

theorem execRecordWrite (h : s.Wf) : Keeps (Machine.execRecordWrite s) := by
  unfold Machine.execRecordWrite
  refine keeps_next ?_
  split
  · exact h
  · extract_lets t
    have ht : t.Wf := h.recPop
    exact .ite ht.bump (.ite ht.recPut.wr.bump.cond ht.recPut)

theorem writeRecClear (h : s.Wf) {a epoch} : (s.writeRecClear a epoch).Wf := by
  unfold State.writeRecClear
  extract_lets done r t
  have hdone : ∀ t x, t.Wf → (done t x).Wf := fun _ _ ht => ht.wr
  have ht : t.Wf := h.onRec.wr.wr.wr.wr.wr
  exact .ite (hdone _ _ h) (.ite (hdone _ _ h) (hdone _ _ ht.cond.recPut))

theorem execRecClear (h : s.Wf) {a epoch} : Keeps (Machine.execRecClear a epoch s) :=
  keeps_next (h.atReg fun _ ht => ht.writeRecClear)

theorem writeTimeSet (h : s.Wf) {a v} : (s.writeTimeSet a v).Wf := .ite h.badAccess h.wr.record

theorem execRecTimeSet (h : s.Wf) {a v} : Keeps (Machine.execRecTimeSet a v s) :=
  keeps_next (h.atReg fun _ ht => ht.writeTimeSet)

theorem writeFwCtl (h : s.Wf) {a ty len} : (s.writeFwCtl a ty len).Wf := by
  unfold State.writeFwCtl
  extract_lets t n pay u
  have ht : t.Wf := h.wr.wr
  have hu : u.Wf := ht.record
  exact .ite ht.ignored (hu.foldl fun _ _ hx => hx.wr)

theorem execRecFwRecord (h : s.Wf) {a ty len} : Keeps (Machine.execRecFwRecord a ty len s) :=
  keeps_next (h.atReg fun _ ht => ht.writeFwCtl)

theorem recCopy (h : s.Wf) : s.recCopy.1.Wf := by
  unfold State.recCopy
  extract_lets w r
  exact h.wr

/-! ## Machine/Harvest.lean: Harvest and Resow -/

theorem writeHrvStart (h : s.Wf) {a} : (s.writeHrvStart a).Wf := .ite h.startHarvest h.ignored

theorem execHarvestCommandStart (h : s.Wf) {a} : Keeps (Machine.execHarvestCommandStart a s) :=
  keeps_next (h.atReg fun _ ht => ht.writeHrvStart)

theorem hvLine (h : s.Wf) {l bad} : (s.hvLine l bad).Wf := by
  unfold State.hvLine
  extract_lets e mw stays
  split
  · exact .ite h.acceptDrain h.onHv
  · exact h.onHv

theorem furYield (h : s.Wf) : s.furYield.Wf := h.onFur.wr.relocStop

theorem flushQ (h : s.Wf) {c} : (s.flushQ c).Wf := h.onCh.bumpBy.showQ

theorem harvestBegin (h : s.Wf) {r bad} : (s.harvestBegin r bad).Wf := by
  unfold State.harvestBegin
  extract_lets s1 shed lost s2 t s3 s4 s5 s6 s7 s8
  have hs1 : s1.Wf := h.onHv.hvRecord.wr
  have hs2 : s2.Wf := hs1.onPw.onHv.wr.wr
  have hs3 : s3.Wf := hs2.withHp
  have hs4 : s4.Wf := .wr (hs3.foldl fun _ _ ht => ht.domOff)
  have hs5 : s5.Wf := .onWin (hs4.foldl fun _ _ ht => ht.abandonMove)
  have hs6 : s6.Wf := hs5.furYield
  have hs7 : s7.Wf := hs6.foldl fun _ _ ht => ht.hvLine
  have hs8 : s8.Wf := hs7.foldl fun _ _ ht => ht.flushQ
  exact hs8.onFab

theorem execHarvestStart (h : s.Wf) {bad} : Keeps (Machine.execHarvestStart bad s) := by
  unfold Machine.execHarvestStart
  refine keeps_next ?_
  split
  · exact h
  · exact .ite h.harvestBegin h

theorem fallowEnter (h : s.Wf) : s.fallowEnter.Wf := by
  unfold State.fallowEnter
  extract_lets pop
  exact .wr (h.foldl fun _ _ ht => ht.wr.onCh)

theorem deviceReset (h : s.Wf) {cause fallow} : (s.deviceReset cause fallow).Wf := by
  unfold State.deviceReset
  extract_lets s1 s2 t t' s3 s4 s5
  have hs1 : s1.Wf := h.allOff.onHv
  clear_value s1
  have hs2 : s2.Wf := hs1.wr.wr.wr.wr.bump
  clear_value s2
  have hs3 : s3.Wf := hs2
  clear_value s3
  have hs4 : s4.Wf := hs3.wr.wr.wr.record
  have hs5 : s5.Wf := .ite hs4 hs4.wr
  clear_value s5
  exact hs5.openWindow.onPw.wr.powerUp.applyHeld

theorem harvestEnd (h : s.Wf) {r} : (s.harvestEnd r).Wf := by
  unfold State.harvestEnd
  extract_lets fallow s1
  have hs1 : s1.Wf := h.onHv.wr
  exact .ite hs1.takeDown (.ite hs1.takeDown hs1.deviceReset)

theorem execHarvestSeal (h : s.Wf) {ue lost fails used} : Keeps (Machine.execHarvestSeal ue lost fails used s) := by
  unfold Machine.execHarvestSeal
  refine keeps_next ?_
  split
  · exact h
  · refine .ite h ?_
    extract_lets bad pages gone lines pois nUe losses out seq sbs
    split
    have ht := h.recCopy.fst ‹_›
    extract_lets d s1 s2 s3 s4 s5
    have hs1 : s1.Wf := ht.withFresh.onHv
    have hs2 : s2.Wf := hs1.foldl fun _ _ ht' => ht'.modSb
    have hs3 : s3.Wf := by
      unfold s3
      refine hs2.foldl fun _ _ ht' => ?_
      extract_lets sb
      exact ht'.onFur.retireBlocks
    have hs4 : s4.Wf := hs3.wr.bump.wr.wr.wr.wr.wr.wr.wr
    have hs5 : s5.Wf := .hvRecord (.ite hs4.raise hs4)
    exact .harvestEnd (.ite hs5.fallowEnter hs5)

theorem execHarvestStoreFail (h : s.Wf) {n saveOk used} : Keeps (Machine.execHarvestStoreFail n saveOk used s) := by
  unfold Machine.execHarvestStoreFail
  refine keeps_next ?_
  split
  · exact h
  · refine .ite h ?_
    extract_lets all pages sbs d s1 s2
    have hs1 : s1.Wf := h.onHv.foldl fun _ _ ht => ht.modSb
    have hs2 : s2.Wf := hs1.bump.wr.wr.wr.wr
    exact hs2.wr.wr.hvRecord.takeDown

theorem execFallowEnd (h : s.Wf) {a} : Keeps (Machine.execFallowEnd a s) := keeps_next (h.atReg fun _ ht => ht.wr)

theorem writeHrvCfg (h : s.Wf) {a addr v} : (s.writeHrvCfg a addr v).Wf := by
  unfold State.writeHrvCfg
  refine .ite h.ignored ?_
  extract_lets m t u
  have ht : t.Wf := h.wrW
  have hu : u.Wf := .ite ht.onHv.cond ht
  exact hu.showHarvest

theorem writeHrvCtl (h : s.Wf) {en fallow dg} : (s.writeHrvCtl en fallow dg).Wf := h.wr.wr.wr.showHarvest

theorem execHarvestConfigWrite (h : s.Wf) {a r v} : Keeps (Machine.execHarvestConfigWrite a r v s) := by
  unfold Machine.execHarvestConfigWrite
  extract_lets addr
  exact keeps_next (h.atReg fun _ ht => ht.writeHrvCfg)

theorem execStoreDeclarationStale (h : s.Wf) : Keeps (Machine.execStoreDeclarationStale s) := keeps_next h.cond

theorem applyWorld (h : s.Wf) : s.applyWorld.Wf := by
  unfold State.applyWorld
  split
  · exact h
  · extract_lets t
    have ht : t.Wf := by
      unfold t
      refine h.foldl fun _ _ ht => ?_
      extract_lets m
      exact ht.wrW
    exact ht.wr.wr

theorem resowLost (h : s.Wf) {p lines} : (s.resowLost p lines).Wf := .ite h.modTier.healAsk h.poisonStart

theorem resowPage (h : s.Wf) {d} : (s.resowPage d).Wf := by
  unfold State.resowPage
  extract_lets f
  clear_value f
  split
  · exact h
  · extract_lets s1
    have hs1 : s1.Wf := h.setFrame.putImg.setTier
    exact .ite hs1.onWin hs1

theorem mapRebuild (h : s.Wf) : s.mapRebuild.Wf := by
  unfold State.mapRebuild
  extract_lets best s1
  have hs1 : s1.Wf := h.onFur.onWin
  exact hs1.foldl fun _ _ ht => ht.setFur.setTier

theorem resowPages (h : s.Wf) {d bad scan} : (s.resowPages d bad scan).Wf := by
  unfold State.resowPages
  extract_lets held u s1 s2 s3 good s4 lost s5
  have hu : u.Wf := .ite h h.onFur
  have hs1 : s1.Wf := .onWin (hu.onDr fun r hr => (⟨rfl, rfl, hr.2.2⟩ : Dram.Wf { r with mem := [], key := [] }))
  have hs2 : s2.Wf := .ite hs1.mapRebuild hs1
  have hs3 : s3.Wf := hs2.onWin
  have hs4 : s4.Wf := hs3.foldl fun _ _ ht => ht.resowPage
  have hs5 : s5.Wf := hs4.foldl fun _ _ ht => ht.setTier.resowLost
  exact hs5.foldl fun _ _ ht => .ite ht.resowLost ht

theorem resowLines (h : s.Wf) {d ue} : (s.resowLines d ue).Wf := by
  unfold State.resowLines
  refine h.foldl fun _ _ ht => ?_
  split
  · exact .ite ht.resowLost ht.putLine
  · exact ht

theorem resowYoke (h : s.Wf) {recs} : (s.resowYoke recs).Wf := by
  unfold State.resowYoke
  extract_lets s1 s2
  have hs1 : s1.Wf := h.foldl fun _ _ ht => .ite ht ht.mark
  have hs2 : s2.Wf := by
    unfold s2
    refine hs1.foldl fun _ _ ht => ?_
    extract_lets st
    exact .ite ht.onYk.setYok ht
  exact .ite (hs2.wr.cond.showPaths.foldl fun _ _ ht => ht.hsStart) hs2

theorem dramWake (h : s.Wf) : s.dramWake.Wf := by
  unfold State.dramWake
  refine h.foldl fun _ _ ht => .ite ?_ ht
  extract_lets u
  have hu : u.Wf := ht.domOn
  exact .ite hu hu.wr.wr.wr.onCh

theorem execResowStart (h : s.Wf) {manifest tokens scan bad ue} : Keeps (Machine.execResowStart manifest tokens scan bad ue s)
    := by
  unfold Machine.execResowStart
  refine keeps_next (.ite h ?_)
  extract_lets path d s0 s1 s2 s3 s4 recs s5 s6 s7 s8 lossP s9
  have hs0 : s0.Wf := h.dramWake
  have hs1 : s1.Wf := .ite hs0 hs0.journalRestore
  have hs2 : s2.Wf := hs1.applyWorld.heatLost
  have hs3 : s3.Wf := .ite hs2.resowLines.bump (.ite hs2 hs2.resowPages)
  have hs4 : s4.Wf := .ite hs3.onHv.ldEventAll.raise hs3
  have hs5 : s5.Wf := hs4.onHv.wr.resowYoke
  have hs6 : s6.Wf := hs5.foldl fun _ _ ht => ht.startRelease
  have hs7 : s7.Wf := hs6.foldl fun _ _ ht => .ite ht.replaySlot ht
  have hs8 : s8.Wf := .ite hs7.onRec (.ite hs7 hs7.onRec)
  have hs9 : s9.Wf := hs8.wr.wr.wr.wr.wr
  exact hs9.hvRecord.recount

theorem execResowSweep (h : s.Wf) : Keeps (Machine.execResowSweep s) := by
  unfold Machine.execResowSweep
  refine keeps_next (.ite h ?_)
  extract_lets ps s1 rs
  have hs1 : s1.Wf := h.foldl fun _ _ ht => ht.setTier
  exact hs1.foldl fun _ _ ht => ht.startLoad

theorem releaseDump (h : s.Wf) : s.releaseDump.Wf := by
  unfold State.releaseDump
  extract_lets used
  exact .wr (.onHv (h.foldl fun _ _ ht => ht.modSb))

theorem execHarvestArmed (h : s.Wf) {sb} : Keeps (Machine.execHarvestArmed sb s) := by
  unfold Machine.execHarvestArmed
  refine keeps_next (.ite h ?_)
  extract_lets seq t v u
  have ht : t.Wf := h.wr.wr
  have hv : v.Wf := ht.onHv
  have hu : u.Wf := .ite ht hv.wr.wr.releaseDump
  exact hu.hvRecord.showArm.settle

/-! ## Machine/Reset.lean: the reset controller (chapter 18) -/

theorem onRs (h : s.Wf) {f} : (s.onRs f).Wf := h.withRs

theorem groupStart (h : s.Wf) {m cause} : (s.groupStart m cause).Wf := by
  unfold State.groupStart
  extract_lets l s1 s2
  have hs1 : s1.Wf := h.onRs.wr.wr.wr.wr.bump.record
  have hs2 : s2.Wf := .ite hs1.onFab hs1
  exact .ite hs2.twinLost hs2

theorem groupRequest (h : s.Wf) {m cause} : (s.groupRequest m cause).Wf := by
  unfold State.groupRequest
  refine .ite h (.ite h.onHv.wr.bump (.ite ?_ h.groupStart))
  extract_lets p
  exact h.onRs.wr

theorem writeGroups (h : s.Wf) {a v} : (s.writeGroups a v).Wf := by
  unfold State.writeGroups
  extract_lets no s1
  have hs1 : s1.Wf := h.foldl fun _ _ ht => ht.bump.raise.ignored
  exact hs1.groupRequest

theorem execGroupResetRequest (h : s.Wf) {a v} : Keeps (Machine.execGroupResetRequest a v s) :=
  keeps_next (h.atReg fun _ ht => ht.writeGroups)

theorem groupAfter (h : s.Wf) {grn g} : (s.groupAfter grn g).Wf := by
  unfold State.groupAfter
  refine .ite h.wr (.ite h.wr.recount (.ite ?_ (.ite ?_ h)))
  · extract_lets s1
    have hs1 : s1.Wf := .ite (h.wr.cond.foldl fun _ _ ht => ht.hsStart) h
    exact .ite hs1.wr.grnBuild hs1
  · extract_lets s1
    have hs1 : s1.Wf := h.csrReset
    exact .openWindow (hs1.foldl fun _ _ ht => .ite ht ht.wr)

theorem groupRelease (h : s.Wf) : s.groupRelease.Wf := by
  unfold State.groupRelease
  extract_lets l doms j s1 s2 s3 s4 m
  have hs1 : s1.Wf := h.onHv.foldl fun _ _ ht => .ite ht ht.resetDom
  have hs2 : s2.Wf := hs1.journalRestore
  have hs3 : s3.Wf := hs2.foldl fun _ _ ht => ht.groupAfter
  have hs4 : s4.Wf := hs3.onRs.wr.applyHeld.wr
  exact .ite hs4 hs4.onRs.wr.groupStart

theorem execGroupResetRelease (h : s.Wf) : Keeps (Machine.execGroupResetRelease s) := keeps_next (.ite h h.groupRelease)

theorem writeAdmit (h : s.Wf) : s.writeAdmit.Wf := by
  unfold State.writeAdmit
  refine .ite h ?_
  extract_lets s1 s2
  have hs1 : s1.Wf := h.journalRestore
  have hs2 : s2.Wf := hs1.onFab.wr
  exact .settle (hs2.foldl fun _ _ ht => ht.startRelease)

theorem execAdmitTines (h : s.Wf) {a} : Keeps (Machine.execAdmitTines a s) :=
  keeps_next (h.atReg fun _ ht => ht.writeAdmit)

theorem eflLost (h : s.Wf) {bank sector} : (s.eflLost bank sector).Wf := by
  unfold State.eflLost
  extract_lets base w
  have hw : mwf eflOnes w = true := mwf_foldl_mset _ _ _ h.efl.1
  clear_value w
  have hefl : ({ s.efl with words := w } : Efl).Wf := ⟨hw, h.efl.2⟩
  exact .withFresh (h.withEfl hefl)

theorem powerOn (h : s.Wf) : s.powerOn.Wf := by
  unfold State.powerOn
  extract_lets s1
  have hs1 : s1.Wf := by
    unfold s1
    split
    · exact h
    · exact h.eflLost
  exact (wf_iff _).2 ⟨rfl, ⟨rfl, rfl, rfl⟩, rfl, rfl, ⟨hs1.efl.1, h.efl.2⟩, rfl, rfl⟩

theorem execPowerOnReset (h : s.Wf) {aon} : Keeps (Machine.execPowerOnReset aon s) := keeps_next (.ite h.powerOn h)

theorem execAonResetRelease (h : s.Wf) {strap} : Keeps (Machine.execAonResetRelease strap s) := keeps_next h.onPw

theorem execDeviceReset (h : s.Wf) : Keeps (Machine.execDeviceReset s) :=
  keeps_next (.ite h (.ite h.startHarvest h.deviceReset))

theorem execTapReset (h : s.Wf) : Keeps (Machine.execTapReset s) := keeps_next h

theorem execMemoryActiveSet (h : s.Wf) : Keeps (Machine.execMemoryActiveSet s) := by
  unfold Machine.execMemoryActiveSet
  refine keeps_next (.ite h ?_)
  extract_lets t s1 s2
  have hs1 : s1.Wf := h.withHp
  have hs2 : s2.Wf := hs1.wr.wr
  exact hs2.foldl fun _ _ ht => ht.oweChange

theorem execPulseOverrun (h : s.Wf) {k} : Keeps (Machine.execPulseOverrun k s) := keeps_next h.wrW.raise

/-! ## Machine/Efl.lean: embedded flash, OTP, boot, watchdog -/

theorem eflPut (h : s.Wf) {b w v} : (s.eflPut b w v).Wf := h.onEfl fun _ ⟨hwords, hotp⟩ => ⟨mwf_mset _ _ hwords, hotp⟩

theorem setIncmp (h : s.Wf) {b sec v} : (s.setIncmp b sec v).Wf := h.wrBit

theorem eflErase (h : s.Wf) {b sec} : (s.eflErase b sec).Wf :=
  h.onEfl fun _ ⟨hwords, hotp⟩ => ⟨mwf_clearRange _ _ hwords, hotp⟩

theorem showEfl (h : s.Wf) : s.showEfl.Wf := by
  unfold State.showEfl
  split
  · exact h.wr
  · exact h.wr.wr.wr

theorem showErase (h : s.Wf) : s.showErase.Wf := by
  unfold State.showErase
  split
  · exact h
  · exact h.wr

theorem eflEnd (h : s.Wf) {func res} : (s.eflEnd func res).Wf := by
  unfold State.eflEnd
  extract_lets t
  have ht : t.Wf := h.wr.wr.showEfl
  exact .ite ht.raise ht

theorem eflRegs (h : s.Wf) {func bank word v} : (s.eflRegs func bank word v).Wf := by
  unfold State.eflRegs
  extract_lets t
  have ht : t.Wf := h.wr.wr.wr
  exact ht.foldl fun _ _ hu => hu.wr

theorem programWords {bank word bad l i} (h : s.Wf) : (s.programWords bank word bad l i).Wf := by
  induction l generalizing s i with
  | nil => exact h
  | cons v l ih => exact ih (.ite h.eflRegs.bump.eflPut.draw h.eflRegs.bump.eflPut)

theorem execEflProgram (h : s.Wf) {n bank word data bad} : Keeps (Machine.execEflProgram n bank word data bad s) := by
  unfold Machine.execEflProgram
  refine keeps_next (.ite h ?_)
  split
  · exact h.eflEnd
  · exact h.programWords.eflEnd

theorem eraseBegin (h : s.Wf) {bank sector} : (s.eraseBegin bank sector).Wf := by
  unfold State.eraseBegin
  extract_lets t
  have ht : t.Wf := h.eflRegs.onEfl
  exact ht.wr.wr.wr.wr.eflEnd

theorem execEflErase (h : s.Wf) {n self bank sector} : Keeps (Machine.execEflErase n self bank sector s) :=
  keeps_next (.ite h (.ite h.eflEnd (.ite h.eflEnd (.ite h.eflEnd h.eraseBegin))))

theorem execEflSuspend (h : s.Wf) {n} : Keeps (Machine.execEflSuspend n s) := by
  unfold Machine.execEflSuspend
  refine keeps_next (.ite h ?_)
  split
  · exact h.eflEnd
  · refine .ite h.eflEnd ?_
    extract_lets t
    have ht : t.Wf := h.wr.onEfl.bump.showErase
    exact .eflEnd (.ite ht.wr.cond ht)

theorem execEflResume (h : s.Wf) {n} : Keeps (Machine.execEflResume n s) := by
  unfold Machine.execEflResume
  refine keeps_next (.ite h ?_)
  split
  · exact h.eflEnd
  · exact .ite h.eflEnd h.wr.onEfl.showErase.eflEnd

theorem execEflStatus (h : s.Wf) {n} : Keeps (Machine.execEflStatus n s) := by
  unfold Machine.execEflStatus
  extract_lets a t
  have ht : t.Wf := h.showErase
  exact keeps_next (.ite h ht.emit.emit)

theorem eraseOver (h : s.Wf) : s.eraseOver.Wf := h.showErase.onEfl.wr.cond

theorem eraseAbort (h : s.Wf) {e} : (s.eraseAbort e).Wf := h.eraseOver.setIncmp.eflLost.bump

theorem execEflAbort (h : s.Wf) {n} : Keeps (Machine.execEflAbort n s) := by
  unfold Machine.execEflAbort
  refine keeps_next (.ite h ?_)
  split
  · exact h.eflEnd
  · exact h.wr.eraseAbort.eflEnd

theorem execErasePulseEnd (h : s.Wf) {pass} : Keeps (Machine.execErasePulseEnd pass s) := by
  unfold Machine.execErasePulseEnd
  refine keeps_next ?_
  split
  · exact h
  · refine .ite h ?_
    extract_lets t u
    have ht : t.Wf := h.wr
    have hu : u.Wf := ht.eraseOver.eflErase.setIncmp.bump
    exact .ite (.eflEnd (.ite hu.wr hu)) (.ite ht.eraseOver.setIncmp.eflLost.eflEnd ht.onEfl.showErase)

theorem otpPut (h : s.Wf) {w v} : (s.otpPut w v).Wf := h.onEfl fun _ ⟨hwords, hotp⟩ => ⟨hwords, mwf_mset _ _ hotp⟩

theorem showFloor (h : s.Wf) : s.showFloor.Wf := h.wr

theorem execOtpProgram (h : s.Wf) {n w v ok} : Keeps (Machine.execOtpProgram n w v ok s) := by
  unfold Machine.execOtpProgram
  refine keeps_next (.ite h ?_)
  split
  · exact h.eflEnd
  · extract_lets t x
    have ht : t.Wf := h.eflRegs
    exact .ite ht.otpPut.showFloor.eflEnd ht.otpPut.draw.showFloor.eflEnd

theorem execOtpGenRoot (h : s.Wf) {n} : Keeps (Machine.execOtpGenRoot n s) := by
  unfold Machine.execOtpGenRoot
  extract_lets a
  exact keeps_next (.ite h (.ite h.eflEnd (.ite h.eflEnd (.ite h.eflEnd (.eflEnd (h.wr.foldl fun _ _ ht => ht.otpPut.draw))))))

theorem otpBad (h : s.Wf) {w} : (s.otpBad w).Wf := .ite h h.otpPut.raiseQuiet.record

theorem bootTry {l} (h : s.Wf) : (s.bootTry l).1.Wf := by
  induction l generalizing s with
  | nil => exact h
  | cons b l ih =>
    unfold State.bootTry
    dsimp only
    split
    · exact h.wr
    · exact ih h.wr

theorem bootRun (h : s.Wf) {b cores first} : (s.bootRun b cores first).Wf := by
  unfold State.bootRun
  extract_lets s1 s2 s3 s4 s5
  have hs1 : s1.Wf := h.foldl fun _ _ ht => ht.wr
  have hs2 : s2.Wf := hs1.wr.cond.wr
  have hs3 : s3.Wf := hs2.onEfl
  have hs4 : s4.Wf := .ite hs3 hs3.raise
  have hs5 : s5.Wf := .ite hs4.wr hs4
  exact hs5.record

theorem popCheck (h : s.Wf) {dram nand core} : (s.popCheck dram nand core).Wf := by
  unfold State.popCheck
  extract_lets t t'
  have ht' : t'.Wf := h.withCs
  exact .ite ht' ht'.record

theorem execRomBoot (h : s.Wf) {otp dram nand} : Keeps (Machine.execRomBoot otp dram nand s) := by
  unfold Machine.execRomBoot
  refine keeps_next ?_
  extract_lets cores s1
  have hs1 : s1.Wf := .onEfl (.showFloor (h.foldl fun _ _ ht => ht.otpBad))
  refine .ite h ?_
  split
  have ht := hs1.bootTry.fst ‹_›
  split
  · exact ht.bootRun.popCheck
  · exact ht.wr.cond

theorem raiseFloor (h : s.Wf) {level} : (s.raiseFloor level).Wf := .showFloor (h.foldl fun _ _ ht => .ite ht.otpPut ht)

theorem execImageFlagActivation (h : s.Wf) : Keeps (Machine.execImageFlagActivation s) := by
  unfold Machine.execImageFlagActivation
  refine keeps_next ?_
  split
  · exact h
  · refine .ite h ?_
    extract_lets fl t
    have ht : t.Wf := .ite h.raiseFloor h
    exact .ite ht.otpPut ht

theorem kick (h : s.Wf) : s.kick.Wf := h.onEfl.wr.wr

theorem execWdtKick (h : s.Wf) {a} : Keeps (Machine.execWdtKick a s) := keeps_next (h.atReg fun _ ht => ht.kick)

theorem fwAbandon (h : s.Wf) : s.fwAbandon.Wf := by
  unfold State.fwAbandon
  split
  · exact h
  · extract_lets ends t
    exact h.withCs.foldl fun _ _ ht => ht.bgTell

theorem wdtCut (h : s.Wf) {cut} : (s.wdtCut cut).Wf := by
  unfold State.wdtCut
  extract_lets s1
  have hs1 : s1.Wf := by
    unfold s1
    split
    · exact h
    · exact h.eraseAbort.eflEnd
  split
  · exact hs1
  · extract_lets b w t u
    have ht : t.Wf := hs1.programWords
    have hu : u.Wf := ht.eflPut.draw
    exact .ite hs1 hu.setIncmp.bump.eflEnd

theorem execWdtExpiry (h : s.Wf) {cut} : Keeps (Machine.execWdtExpiry cut s) := by
  unfold Machine.execWdtExpiry
  refine keeps_next (.ite h ?_)
  extract_lets s1 s2
  have hs1 : s1.Wf := h.bump.raise.onEfl
  have hs2 : s2.Wf := by
    unfold s2
    split
    · exact hs1
    · exact .ite hs1 hs1.bump
  exact hs2.wdtCut.fwAbandon.groupRequest

theorem execWdtEscalation (h : s.Wf) : Keeps (Machine.execWdtEscalation s) := by
  unfold Machine.execWdtEscalation
  refine keeps_next (.ite h ?_)
  extract_lets t
  have ht : t.Wf := h.wr.wr.raise
  exact .ite ht (.ite ht.startHarvest ht.deviceReset)

/-! ## Machine/CmdBase.lean: how a command travels -/

theorem onCs (h : s.Wf) {f} : (s.onCs f).Wf := h.withCs

theorem fwRecord (h : s.Wf) {a ty pay} : (s.fwRecord a ty pay).Wf := h.record

theorem cmdDone (h : s.Wf) {m} : (s.cmdDone m).Wf := by
  unfold State.cmdDone
  extract_lets s1
  have hs1 : s1.Wf := by
    unfold s1
    split
    · exact h
    · exact .ite h h.fwRecord
  exact hs1.onCs.mbxEmpty

theorem replyMsg (h : s.Wf) {m status inline bulk} : (s.replyMsg m status inline bulk).Wf := by
  unfold State.replyMsg
  extract_lets msg hdr s1 s2
  have hs1 : s1.Wf := .ite h.fwRecord h
  have hs2 : s2.Wf := hs1.bulkPut.mbxPut.wakePds
  exact .cmdDone (.ite hs2.relayNew hs2)

theorem reply (h : s.Wf) {m status p d} : (s.reply m status p d).Wf := .ite h.replyMsg h.replyMsg

theorem replyCxl (h : s.Wf) {m status pay} : (s.replyCxl m status pay).Wf := h.replyMsg

theorem say (h : s.Wf) {m status} : (s.say m status).Wf := h.reply

theorem setStage (h : s.Wf) {c n} : (s.setStage c n).Wf := h.onCs

theorem geltia (h : s.Wf) {c op k twin dIn dOut used} {run : State → Cmd → State} (hrun : ∀ t x, t.Wf → (run t x).Wf) :
    (s.geltia c op k twin dIn dOut used run).Wf := by
  unfold State.geltia
  split
  · exact h
  · exact .ite h.say (.ite (hrun _ _ h) (.ite h.say (.ite h.say (.ite h.say (.ite h.say (hrun _ _ h))))))

theorem setBg (h : s.Wf) {c b} : (s.setBg c b).Wf := h.onCs

theorem bgSettle (h : s.Wf) {c} : (s.bgSettle c).Wf := by
  unfold State.bgSettle
  split
  · exact h
  · refine .ite h ?_
    split
    · exact h
    · exact h.setBg.bgTell

theorem bgStart (h : s.Wf) {m j} : (s.bgStart m j).Wf := h.setBg.say

theorem bgFinish (h : s.Wf) {c final} : (s.bgFinish c final).Wf := by
  unfold State.bgFinish
  split
  · exact h
  · exact h.setBg.bgTell

/-! ## Machine/CmdRegion.lean: region and binding commands -/

theorem execIdentify (h : s.Wf) {c} : Keeps (Machine.execIdentify c s) := keeps_next (h.geltia fun _ _ ht => ht.reply)

theorem execHealth (h : s.Wf) {c temp} : Keeps (Machine.execHealth c temp s) :=
  keeps_next (h.geltia fun _ _ ht => ht.reply)

theorem execBgStatus (h : s.Wf) {c} : Keeps (Machine.execBgStatus c s) := by
  unfold Machine.execBgStatus
  refine keeps_next (h.bgSettle.geltia fun _ _ ht => ?_)
  split
  · exact ht.reply
  · extract_lets ms
    exact ht.reply

theorem execAccessSet (h : s.Wf) {c} : Keeps (Machine.execAccessSet c s) :=
  keeps_next (h.geltia fun _ _ ht => ht.onCs.say)

theorem execWorldConfig (h : s.Wf) {c} : Keeps (Machine.execWorldConfig c s) := by
  unfold Machine.execWorldConfig
  refine keeps_next (h.geltia fun _ _ ht => .ite ht.say ?_)
  extract_lets w u
  have hu : u.Wf := ht.onHv.foldl fun _ _ hu => hu.wrW
  exact .ite (.say (.ite hu.wr hu)) (.ite ht.onHv.say (.ite ht.say ht.say))

theorem mapsClear (h : s.Wf) : s.mapsClear.Wf := by
  unfold State.mapsClear
  extract_lets s1
  have hs1 : s1.Wf := h.onWin
  exact hs1.onFur.recount

theorem execCapacitySet (h : s.Wf) {c} : Keeps (Machine.execCapacitySet c s) := by
  unfold Machine.execCapacitySet
  refine keeps_next (h.geltia fun _ _ ht => ?_)
  extract_lets cap
  exact .ite ht.say (.ite ht.say (.ite ht.say (.ite ht.say (.ite ht.say
    ht.writeGrnEnable.writeDpaLimit.mapsClear.writeGrnEnable.bgStart))))

theorem commitCmd (h : s.Wf) {m r n} : (s.commitCmd m r n).Wf := by
  unfold State.commitCmd
  split
  · exact h.rgnCommit.setStage
  · exact h.rgnResult.say

theorem stageMasks (h : s.Wf) {rd wr crd cwr} : (s.stageMasks rd wr crd cwr).Wf := h.wr.wr.wr.wr

theorem rgnCmd (h : s.Wf) {m} {run : State → State} (hrun : ∀ x, x.Wf → (run x).Wf) : (s.rgnCmd m run).Wf :=
  .ite h (.ite h.say (hrun _ h))

theorem createStage (h : s.Wf) {m} : (s.createStage m).Wf := by
  unfold State.createStage
  extract_lets u
  have hu : u.Wf := h.wr.wr.wr.wr.wr.wr.wr
  exact hu.stageMasks

theorem execRegionCreate (h : s.Wf) {c} : Keeps (Machine.execRegionCreate c s) := by
  unfold Machine.execRegionCreate
  refine keeps_next (h.geltia fun _ _ ht0 => ht0.rgnCmd fun _ ht => ?_)
  extract_lets r w slot base size
  exact .ite ht.say (.ite ht.say (.ite (.ite ht.say ht.say) (.ite ht.say ht.createStage.commitCmd)))

theorem execRegionRights (h : s.Wf) {c} : Keeps (Machine.execRegionRights c s) := by
  unfold Machine.execRegionRights
  refine keeps_next (h.geltia fun _ _ ht0 => ht0.rgnCmd fun _ ht => ?_)
  extract_lets r u
  have hu : u.Wf := ht.onCs
  exact .ite ht.say (.ite ht.say (.ite hu.say hu.rgnLoad.stageMasks.commitCmd))

theorem execRegionAttr (h : s.Wf) {c} : Keeps (Machine.execRegionAttr c s) := by
  unfold Machine.execRegionAttr
  refine keeps_next (h.geltia fun _ _ ht0 => ht0.rgnCmd fun _ ht => ?_)
  extract_lets r f place tenant
  exact .ite ht.say (.ite ht.say (.ite ht.say ht.rgnLoad.wr.wr.commitCmd))

theorem execRegionDestroy (h : s.Wf) {c} : Keeps (Machine.execRegionDestroy c s) := by
  unfold Machine.execRegionDestroy
  refine keeps_next (h.geltia fun _ _ ht0 => ht0.rgnCmd fun _ ht => ?_)
  extract_lets r
  refine .ite ht.say (.ite ht.say (.ite ht.say ?_))
  split
  · exact ht.rgnDestroy.setStage
  · exact ht.say

theorem execRegionInfo (h : s.Wf) {c} : Keeps (Machine.execRegionInfo c s) := by
  unfold Machine.execRegionInfo
  refine keeps_next (h.geltia fun _ _ ht => ?_)
  extract_lets r
  exact .ite ht.say ht.reply

theorem execLdBind (h : s.Wf) {c} : Keeps (Machine.execLdBind c s) := by
  unfold Machine.execLdBind
  refine keeps_next (h.geltia fun _ _ ht => ?_)
  extract_lets n link ld ch v u
  have hu : u.Wf := ht.wr.wr.wr
  exact .ite ht.say (.ite ht.say (.ite ht.say (.ite ht.say (.say (.ite hu.wr hu.wr.wr)))))

theorem execCgSet (h : s.Wf) {c} : Keeps (Machine.execCgSet c s) := by
  unfold Machine.execCgSet
  refine keeps_next (h.geltia fun _ _ ht => ?_)
  extract_lets g o mn others u
  have hu : u.Wf := ht.wr.wr
  exact .ite ht.say (.ite ht.say (.ite ht.say (.ite ht.say (.say (.ite hu hu.writeGrnMin)))))

theorem relayStep (h : s.Wf) {m p stage} : (s.relayStep m p stage).Wf := by
  unfold State.relayStep
  extract_lets tag core msg s1
  have hs1 : s1.Wf := h.onCs
  exact hs1.mbxPut.relayNew.setStage

theorem relayTake {c t x} (h : s.Wf) (e : s.relayTake c = some (t, x)) : t.Wf := by
  unfold State.relayTake at e
  split at e
  · cases e
  · split at e
    · cases e; exact h.onCs.mbxEmpty
    · cases e

theorem durFields (h : s.Wf) {m r} : (s.durFields m r).Wf := h.wr.wr.wr

theorem durCommit (h : s.Wf) {m r cls noWrite stage} : (s.durCommit m r cls noWrite stage).Wf := by
  unfold State.durCommit
  extract_lets t
  have ht : t.Wf := h.rgnLoad.wr
  exact .commitCmd (.ite ht.wr.wr ht)

theorem durNone (h : s.Wf) {r} : (s.durNone r).Wf := by
  unfold State.durNone
  extract_lets t
  have ht : t.Wf := h.foldl fun _ _ hu => hu.mark
  exact ht.setYok.onYk

theorem roleSend (h : s.Wf) {r action role} : (s.roleSend r action role).Wf := by
  unfold State.roleSend
  extract_lets e
  exact h.yokeQueue

theorem durAttach (h : s.Wf) {r} : (s.durAttach r).Wf := by
  unfold State.durAttach
  extract_lets t
  have ht : t.Wf := h.wr.wr.setYok
  exact ht.roleSend.onYk.rsvKick

theorem relayFailed (h : s.Wf) {m st} : (s.relayFailed m st).Wf := by
  unfold State.relayFailed
  extract_lets t stage
  have ht : t.Wf := h.onCs
  refine .ite ht.reply ?_
  split <;> exact ht.reply

theorem durLocal (h : s.Wf) {m} : (s.durLocal m).Wf := by
  unfold State.durLocal
  extract_lets r cls stage u
  have hu : u.Wf := h.durCommit
  refine .ite (.ite h.say (.ite h.say (.ite h.durFields.say (.ite h (.ite (.ite hu.durNone hu) (.ite h.say (.ite h.say (.ite h
    h.relayStep)))))))) (.ite ?_ (.ite (.ite h (.ite h.reply h.relayStep)) (.ite ?_ (.ite h h.say))))
  · split
    · exact .ite h h.relayFailed
    · have ht := h.relayTake ‹_›
      refine .ite h ?_
      extract_lets u'
      have hu' : u'.Wf := ht.durFields.durCommit
      exact .ite hu'.durAttach hu'
    · have ht := h.relayTake ‹_›
      exact ht.relayFailed
  · split
    · exact .ite h h.relayFailed
    · have ht := h.relayTake ‹_›
      exact .ite ht.say ht.reply

theorem durTwin (h : s.Wf) {m} : (s.durTwin m).Wf := by
  unfold State.durTwin
  extract_lets r cls
  refine h.rgnCmd fun _ ht => .ite ht.say (.ite ht.durFields.say (.ite ?_ (.ite (.ite ht.say ht.durFields.durCommit)
    ht.durFields.durCommit)))
  extract_lets u
  have hu : u.Wf := ht.durCommit
  exact .ite hu.durNone hu

theorem execDurabilitySet (h : s.Wf) {c} : Keeps (Machine.execDurabilitySet c s) :=
  keeps_next (h.geltia fun _ _ ht => .ite ht.say (.ite ht.durTwin ht.durLocal))

theorem execRelayReplyTimeout (h : s.Wf) : Keeps (Machine.execRelayReplyTimeout s) := by
  unfold Machine.execRelayReplyTimeout
  refine keeps_next ?_
  split
  · exact h
  · refine .ite h ?_
    split
    · exact h
    · exact h.relayFailed

theorem execPlacementSet (h : s.Wf) {c} : Keeps (Machine.execPlacementSet c s) := by
  unfold Machine.execPlacementSet
  refine keeps_next (h.geltia fun _ _ ht => ?_)
  extract_lets r b fl ce v
  exact .ite ht.say (.ite ht.say (.ite ht.say ht.writePol.say))

theorem execPinCommand (h : s.Wf) {c} : Keeps (Machine.execPinCommand c s) := by
  unfold Machine.execPinCommand
  refine keeps_next (h.geltia fun _ _ ht => ?_)
  extract_lets op base n u
  have hu : u.Wf := ht.wr.wr.writePin
  exact .ite ht.say (.ite ht.say (.ite ht (.ite ht.say (.ite hu.bgStart hu.say))))

/-! ## Machine/CmdKeys.lean: key and session commands -/

theorem cmdLoad (h : s.Wf) {a cls idx k} : (s.cmdLoad a cls idx k).Wf := .slotCmd (h.foldl fun _ _ ht => ht.wr)

theorem takeIv (h : s.Wf) {m ses} : (s.takeIv m ses).Wf := h.onCs

theorem sessionWith (h : s.Wf) {m key} : (s.sessionWith m key).Wf := by
  unfold State.sessionWith
  extract_lets re
  have hre : ∀ t x, t.Wf → (re t x).Wf := fun _ _ ht => ht.reply
  split
  · exact hre _ _ h
  · split
    · exact h.say
    · extract_lets t
      have ht : t.Wf := h.cmdLoad
      exact .ite (hre _ _ ht.onCs) ht.say

theorem execSessionOpen (h : s.Wf) {c} : Keeps (Machine.execSessionOpen c s) := by
  unfold Machine.execSessionOpen
  refine keeps_next (h.geltia fun _ _ ht => ?_)
  extract_lets wrapped key
  refine .ite ht.say (.ite ht.say (.ite ?_ (.ite ht.sessionWith ht.say)))
  split
  · exact ht.takeIv.sessionWith
  · exact ht.say

theorem sessionEnd (h : s.Wf) {m n} : (s.sessionEnd m n).Wf := h.slotCmd.onCs.say

theorem execSessionClose (h : s.Wf) {c} : Keeps (Machine.execSessionClose c s) :=
  keeps_next (h.geltia fun _ _ ht => .ite ht.say ht.sessionEnd)

theorem execKeyLoad (h : s.Wf) {c} : Keeps (Machine.execKeyLoad c s) := by
  unfold Machine.execKeyLoad
  refine keeps_next (h.geltia fun _ _ ht => ?_)
  extract_lets n
  split
  refine .ite ht.say (.ite ht.say (.ite ht.say ?_))
  split
  · extract_lets key u r same
    have hu : u.Wf := ht.takeIv.cmdLoad
    exact .ite hu.reply hu.say
  · exact ht.say

theorem execKeyErase (h : s.Wf) {c} : Keeps (Machine.execKeyErase c s) := by
  unfold Machine.execKeyErase
  refine keeps_next (h.geltia fun _ _ ht => ?_)
  extract_lets k idx cls u
  have hu : u.Wf := ht.slotCmd
  exact .ite ht.say (.ite ht.say (.ite ht.say (.ite ht.say (.ite ht.say (.ite ht.say (.ite ht.sessionEnd hu.say))))))

theorem execKeyStatus (h : s.Wf) {c} : Keeps (Machine.execKeyStatus c s) := by
  unfold Machine.execKeyStatus
  refine keeps_next (h.geltia fun _ _ ht => ?_)
  extract_lets k idx cls
  exact .ite ht.say (.ite ht.say ht.reply)

theorem sanitiseOn (h : s.Wf) {c k} : (s.sanitiseOn c k).Wf := by
  unfold State.sanitiseOn
  extract_lets a u
  have hu : u.Wf := h.slotCmd
  refine .ite h ?_
  split
  · split
    · exact h.rgnDestroy
    · exact h.rgnResult.bgFinish
  · exact .ite h hu.bgFinish

theorem execSanitise (h : s.Wf) {c} : Keeps (Machine.execSanitise c s) := by
  unfold Machine.execSanitise
  refine keeps_next ?_
  split
  · split
    · exact h.sanitiseOn
    · exact h
  · refine h.geltia fun _ _ ht => ?_
    extract_lets k
    exact .ite ht.say (.ite ht.say (.ite ht.say (.ite ht.say ht.bgStart)))

/-! ## Machine/CmdYoke.lean: pairing and mirroring commands -/

theorem putPaths (h : s.Wf) {m} : (s.putPaths m).Wf := h.foldl fun _ _ ht => ht.wr

theorem execPairSet (h : s.Wf) {c} : Keeps (Machine.execPairSet c s) := by
  unfold Machine.execPairSet
  refine keeps_next (h.geltia fun _ _ ht => ?_)
  extract_lets pairs en u
  have hu : u.Wf := ht.putPaths.onYk
  exact .ite ht.say (.ite ht.say (.ite ht.say (.ite ht.say (.ite ht.say hu.writePairs.yokEnable.say))))

theorem handOverRole (h : s.Wf) {r} : (s.handOverRole r).Wf := h.wr.wr.roleSend

theorem handoverCmd (h : s.Wf) {m} : (s.handoverCmd m).Wf := by
  unfold State.handoverCmd
  extract_lets r
  split
  · exact .ite h.say (.ite h.say (.ite h.say (.ite h h.rgnLoad.stageMasks.commitCmd)))
  · exact .ite h (.ite h.say (.ite h.say h.handOverRole.setStage))
  · exact .ite h.reply (.ite h h.relayStep)
  · split
    · exact .ite h h.relayFailed
    · have ht := h.relayTake ‹_›
      exact ht.say
    · have ht := h.relayTake ‹_›
      exact ht.relayFailed

theorem execRoleHandover (h : s.Wf) {c} : Keeps (Machine.execRoleHandover c s) :=
  keeps_next (h.geltia fun _ _ ht => ht.handoverCmd)

theorem execRoleTake (h : s.Wf) {c} : Keeps (Machine.execRoleTake c s) := by
  unfold Machine.execRoleTake
  refine keeps_next (h.geltia fun _ _ ht0 => ht0.rgnCmd fun _ ht => ?_)
  extract_lets r u v
  have hu : u.Wf := ht.rgnLoad.stageMasks
  have hv : v.Wf := hu.wr.wr.setYok
  refine .ite ht.say (.ite (.ite ht.say ht.rgnLoad.stageMasks.commitCmd) (.ite ht.say ?_))
  split
  · exact hv.onCs.commitCmd
  · exact hu.rgnResult.say

theorem execRoleSplit (h : s.Wf) {c} : Keeps (Machine.execRoleSplit c s) := by
  unfold Machine.execRoleSplit
  refine keeps_next (h.geltia fun _ _ ht => ?_)
  extract_lets r
  exact .ite ht.say (.ite ht.say (.ite ht.say ht.leaveMirror.exclTidy.settle.say))

theorem execResilver (h : s.Wf) {c} : Keeps (Machine.execResilver c s) := by
  unfold Machine.execResilver
  refine keeps_next (h.geltia fun _ _ ht => ?_)
  extract_lets r st u
  have hu : u.Wf := .ite ht ht.wr
  exact .ite ht.say (.ite ht.say (.ite ht.say (.ite (.say (.rsvKick (.ite hu hu.onYk))) (.say (.onYk (.ite hu.writeRsvStop
    hu))))))

theorem execYokeStatus (h : s.Wf) {c} : Keeps (Machine.execYokeStatus c s) := by
  unfold Machine.execYokeStatus
  refine keeps_next (h.geltia fun _ _ ht => ?_)
  extract_lets r
  exact .ite ht.reply (.ite ht.say ht.reply)

/-! ## Machine/CmdDrill.lean: connection and queue commands -/

theorem execPortSet (h : s.Wf) {c} : Keeps (Machine.execPortSet c s) := by
  unfold Machine.execPortSet
  refine keeps_next (h.geltia fun _ _ ht => ?_)
  extract_lets p f u ports v
  have hu : u.Wf := ht.foldl fun _ _ hu => hu.wr
  exact .ite ht.say hu.writeDrlCtl.wr.say

theorem execConnOpenCommand (h : s.Wf) {c} : Keeps (Machine.execConnOpenCommand c s) := by
  unfold Machine.execConnOpenCommand
  refine keeps_next (h.geltia fun _ _ ht => ?_)
  extract_lets n g u v
  have hu : u.Wf := ht.foldl fun _ _ hu => hu.wr
  have hv : v.Wf := hu.connCmd
  exact .ite ht.say (.ite ht.say (.ite ht.say hv.say))

theorem execConnCloseCommand (h : s.Wf) {c} : Keeps (Machine.execConnCloseCommand c s) := by
  unfold Machine.execConnCloseCommand
  refine keeps_next (h.geltia fun _ _ ht => ?_)
  extract_lets n
  exact .ite ht.say (.ite ht.say (.ite ht.say (.ite ht.connCmd.setStage ht)))

theorem execConnInfo (h : s.Wf) {c} : Keeps (Machine.execConnInfo c s) := by
  unfold Machine.execConnInfo
  refine keeps_next (h.geltia fun _ _ ht => ?_)
  extract_lets n u
  have hu : u.Wf := ht.connCmd
  exact .ite ht.say (.ite ht.say hu.reply)

theorem execJqBindCommand (h : s.Wf) {c} : Keeps (Machine.execJqBindCommand c s) := by
  unfold Machine.execJqBindCommand
  refine keeps_next (h.geltia fun _ _ ht => ?_)
  extract_lets q n u
  have hu : u.Wf := ht.jqCmd
  exact .ite ht.say (.ite ht.say (.ite ht (.ite ht.say hu.say)))

theorem execJqUnbindCommand (h : s.Wf) {c} : Keeps (Machine.execJqUnbindCommand c s) := by
  unfold Machine.execJqUnbindCommand
  refine keeps_next (h.geltia fun _ _ ht => ?_)
  extract_lets q
  exact .ite ht.say (.ite ht.say (.ite ht.say (.ite ht ht.jqCmd.setStage)))

theorem execJqInfo (h : s.Wf) {c} : Keeps (Machine.execJqInfo c s) := by
  unfold Machine.execJqInfo
  refine keeps_next (h.geltia fun _ _ ht => ?_)
  extract_lets q
  exact .ite ht.say (.ite ht.say ht.reply)

/-! ## Machine/Tithe.lean: the usage meter (chapter 21) -/

theorem onTh (h : s.Wf) {f} : (s.onTh f).Wf := h.withTh

theorem titheRegion (h : s.Wf) {r} : (s.titheRegion r).Wf := by
  unfold State.titheRegion
  extract_lets t res
  exact h.onTh

theorem execTitheCounterSample (h : s.Wf) {uj} : Keeps (Machine.execTitheCounterSample uj s) := by
  unfold Machine.execTitheCounterSample
  refine keeps_next (.ite h ?_)
  extract_lets t
  have ht : t.Wf := h.onTh
  exact .ite (ht.foldl fun _ _ hu => hu.titheRegion) ht

theorem titheClose (h : s.Wf) : s.titheClose.Wf := by
  unfold State.titheClose
  extract_lets ts t s1 fl h' s2 s3
  have hs1 : s1.Wf := h.withTh.titheFlush
  have hs2 : s2.Wf := hs1.foldl fun _ _ hu => hu.titheWrite
  have hs3 : s3.Wf := hs2.titheWrite
  exact .ite h.wr.cond hs3.onTh.wr.cond

theorem execTitheIntervalClose (h : s.Wf) : Keeps (Machine.execTitheIntervalClose s) := keeps_next (.ite h.titheClose h)

theorem writeTitheRel (h : s.Wf) {a upto} : (s.writeTitheRel a upto).Wf := by
  unfold State.writeTitheRel
  refine .ite h.ignored ?_
  extract_lets life t t'
  have ht : t.Wf := h.onTh.showTithe
  exact ht.withTh.titheFlush

theorem execTitheRelease (h : s.Wf) {a upto} : Keeps (Machine.execTitheRelease a upto s) :=
  keeps_next (h.atReg fun _ ht => ht.writeTitheRel)

theorem writeTitheCfg (h : s.Wf) {a v} : (s.writeTitheCfg a v).Wf := by
  unfold State.writeTitheCfg
  refine .ite h.ignored ?_
  extract_lets old new t
  have ht : t.Wf := h.wr
  exact .ite ht ht.titheClose.titheEvent

theorem execTitheCfgWrite (h : s.Wf) {a v} : Keeps (Machine.execTitheCfgWrite a v s) :=
  keeps_next (h.atReg fun _ ht => ht.writeTitheCfg)

theorem titheStart (h : s.Wf) : s.titheStart.Wf := by
  unfold State.titheStart
  extract_lets sat life own s1 s2 s3 s4 s5
  have hs1 : s1.Wf := h.foldl fun _ _ ht => .ite ht.wrW ht
  have hs2 : s2.Wf := hs1.onTh
  have hs3 : s3.Wf := hs2.wr.wr.wr.wr
  have hs4 : s4.Wf := hs3.foldl fun _ _ ht => ht.wr
  have hs5 : s5.Wf := hs4.foldl fun _ _ ht => ht.wr
  exact hs5.showTithe.cond.titheEvent

theorem execTitheLifeStart (h : s.Wf) : Keeps (Machine.execTitheLifeStart s) := keeps_next (.ite h h.titheStart)

theorem execTitheWatchdogRestart (h : s.Wf) : Keeps (Machine.execTitheWatchdogRestart s) :=
  keeps_next (.ite h.titheStart.raise h)

theorem execEnergyMonitorFail (h : s.Wf) : Keeps (Machine.execEnergyMonitorFail s) := keeps_next h.onTh.cond

/-! ## Machine/CmdHarvest.lean: Harvest, power, recorder and Tithe commands -/

theorem harvestSet (h : s.Wf) {m} : (s.harvestSet m).Wf := by
  unfold State.harvestSet
  extract_lets f t u
  have ht : t.Wf := h.writeHrvCtl.writeHrvCfg
  have hu : u.Wf := ht.writeHrvCfg.writeHrvCfg
  exact .ite hu hu.wr.showHarvest

theorem execHarvestSet (h : s.Wf) {c} : Keeps (Machine.execHarvestSet c s) :=
  keeps_next (h.geltia fun _ _ ht => .ite ht.reply (.ite ht.say ht.harvestSet.setStage))

theorem execStoreDeclare (h : s.Wf) {c} : Keeps (Machine.execStoreDeclare c s) := by
  unfold Machine.execStoreDeclare
  refine keeps_next (h.geltia fun _ _ ht => ?_)
  extract_lets j u
  have hu : u.Wf := ht.writeHrvCfg
  exact .ite ht.say hu.reply

theorem execHarvestStatus (h : s.Wf) {c} : Keeps (Machine.execHarvestStatus c s) :=
  keeps_next (h.geltia fun _ _ ht => ht.reply)

theorem execHarvestStartCommand (h : s.Wf) {c} : Keeps (Machine.execHarvestStartCommand c s) := by
  unfold Machine.execHarvestStartCommand
  refine keeps_next ?_
  split
  · exact .ite h (.ite h h.onCs.writeHrvStart)
  · exact h.geltia fun _ _ ht => .ite ht.say (.ite ht.say ht.say.onCs)

theorem execPowerCap (h : s.Wf) {c} : Keeps (Machine.execPowerCap c s) := by
  unfold Machine.execPowerCap
  refine keeps_next (h.geltia fun _ _ ht => ?_)
  extract_lets op w u
  have hu : u.Wf := .ite ht ht.wr.showOverCap
  exact .ite ht.say (.ite ht.say hu.reply)

theorem execRecorderRead (h : s.Wf) {c} : Keeps (Machine.execRecorderRead c s) := by
  unfold Machine.execRecorderRead
  refine keeps_next (h.geltia fun _ _ ht => ?_)
  extract_lets off n
  exact .ite ht.say ht.withFresh.reply

theorem execRecorderClear (h : s.Wf) {c} : Keeps (Machine.execRecorderClear c s) := by
  unfold Machine.execRecorderClear
  refine keeps_next (h.geltia fun _ _ ht => ?_)
  extract_lets u
  have hu : u.Wf := ht.writeRecClear
  exact hu.say

theorem execTitheRead (h : s.Wf) {c} : Keeps (Machine.execTitheRead c s) := by
  unfold Machine.execTitheRead
  refine keeps_next (h.geltia fun _ _ ht => ?_)
  extract_lets mine l next
  exact ht.reply

theorem execTitheInfo (h : s.Wf) {c} : Keeps (Machine.execTitheInfo c s) := by
  unfold Machine.execTitheInfo
  refine keeps_next (h.geltia fun _ _ ht => ?_)
  extract_lets tenants
  exact ht.reply

/-! ## Machine/Faults.lean: writes of a window's fault registers -/

theorem writeFltSts (h : s.Wf) {w v} : (s.writeFltSts w v).Wf := h.wrW

theorem execFltStsClear (h : s.Wf) {a w v} : Keeps (Machine.execFltStsClear a w v s) :=
  keeps_next (h.atReg fun _ ht => ht.writeFltSts)

theorem execFltInfoClear (h : s.Wf) {a w} : Keeps (Machine.execFltInfoClear a w s) :=
  keeps_next (h.atReg fun _ ht => ht.wr)

theorem writeFltInj (h : s.Wf) {w v} : (s.writeFltInj w v).Wf := h.foldl fun _ _ ht => ht.raise

theorem execFltInject (h : s.Wf) {a w v} : Keeps (Machine.execFltInject a w v s) :=
  keeps_next (h.atReg fun _ ht => ht.writeFltInj)

/-! ## Machine/CmdFaults.lean: fault, fence, training and heal commands -/

theorem execFaultList (h : s.Wf) {c} : Keeps (Machine.execFaultList c s) := by
  unfold Machine.execFaultList
  refine keeps_next (h.geltia fun _ _ ht => ?_)
  extract_lets w n
  exact .ite ht.say ht.reply

theorem fenceDo (h : s.Wf) {a w whole sub mode} : (s.fenceDo a w whole sub mode).Wf := by
  unfold State.fenceDo
  split
  · exact h.writeSubFence
  · exact .ite h.writeClusterFence h.writeTineFence
  · exact h.writeNcFence
  · exact h.wr.writeDramFence
  · exact .ite h.flashFence h.writeLunFence
  · exact h.writeCoreFence
  · exact h

theorem dramService (h : s.Wf) {c trained} : (s.dramService c trained).Wf := by
  unfold State.dramService
  extract_lets t
  have ht : t.Wf := .ite h.writeDrmCfg h
  exact .ite ht.onCh.writeActive ht

theorem flashService (h : s.Wf) {c} : (s.flashService c).Wf := by
  unfold State.flashService
  refine .ite h ?_
  extract_lets t
  have ht : t.Wf := h.wr.wr
  exact ht.showChannels.showGov.showRebuild

theorem unfenceDo (h : s.Wf) {a w whole sub} : (s.unfenceDo a w whole sub).Wf := by
  unfold State.unfenceDo
  split
  · exact h.writeSubUnfence
  · exact .ite h.writeClusterUnfence h.writeTineUnfence
  · exact h.writeNcUnfence
  · exact h.writeDramUnfence.dramService
  · exact .ite h.writeFlashUnfence h.writeLunUnfence
  · exact h.writeCoreUnfence
  · exact h

theorem unfenceOn (h : s.Wf) {w sub} : (s.unfenceOn w sub).Wf := by
  unfold State.unfenceOn
  split
  · exact h.dramService
  · exact .ite h.flashService h
  · exact h

theorem execFenceCommand (h : s.Wf) {c} : Keeps (Machine.execFenceCommand c s) := by
  unfold Machine.execFenceCommand
  refine keeps_next ?_
  split
  · split
    · exact h.unfenceOn.bgSettle
    · exact h.bgSettle
  · refine h.geltia fun _ _ ht => ?_
    extract_lets w un whole sub u
    have hu : u.Wf := .ite ht.unfenceDo ht.fenceDo
    exact .ite ht.say (.ite ht.say (.ite ht.say (.ite ht.say (.ite ht.say (.ite hu.bgStart hu.say)))))

theorem execFaultClear (h : s.Wf) {c} : Keeps (Machine.execFaultClear c s) := by
  unfold Machine.execFaultClear
  refine keeps_next (h.geltia fun _ _ ht => ?_)
  extract_lets w bits u left
  have hu : u.Wf := ht.writeFltSts
  exact .ite ht.say hu.reply

theorem trainStart (h : s.Wf) {nand ch} : (s.trainStart nand ch).Wf := .ite (.ite h.wr h) h.dramService

theorem trainEnd (h : s.Wf) {nand ch ok rate} : (s.trainEnd nand ch ok rate).Wf :=
  .ite (.ite h.wr (.ite h.wr h)) (.ite h.onCh h.trainFailed)

theorem execTrain (h : s.Wf) {c ok rate} : Keeps (Machine.execTrain c ok rate s) := by
  unfold Machine.execTrain
  refine keeps_next ?_
  split
  · split
    · exact h.trainEnd.bgFinish
    · exact h
  · refine h.geltia fun _ _ ht => ?_
    extract_lets nand ch
    exact .ite ht.say (.ite ht.say (.ite ht.say ht.trainStart.bgStart))

theorem execHeal (h : s.Wf) {c} : Keeps (Machine.execHeal c s) := by
  unfold Machine.execHeal
  refine keeps_next (h.geltia fun _ _ ht => ?_)
  extract_lets p
  split
  · exact .ite ht.say (.ite ht.say (.ite ht.say (.ite ht.say ht.healAsk.setStage)))
  · split
    · exact .ite ht ht.say
    · exact ht.onYk.say

theorem execCommandUnsupported (h : s.Wf) {c} : Keeps (Machine.execCommandUnsupported c s) := by
  unfold Machine.execCommandUnsupported
  refine keeps_next ?_
  split
  · exact h
  · exact .ite (.ite h h.say) (.ite h h.say)

/-! ## Machine/CxlCmds.lean: the standard CXL commands -/

theorem std (h : s.Wf) {c op len} {run : State → Cmd → State} (hrun : ∀ t x, t.Wf → (run t x).Wf) : (s.std c op len run).Wf
    := by
  unfold State.std
  split
  · exact h
  · exact .ite h (.ite h.replyCxl (hrun _ _ h))

theorem execCxlIdentify (h : s.Wf) {c} : Keeps (Machine.execCxlIdentify c s) :=
  keeps_next (h.std fun _ _ ht => ht.replyCxl)

theorem execBackgroundOperationStatus (h : s.Wf) {c} : Keeps (Machine.execBackgroundOperationStatus c s) := by
  unfold Machine.execBackgroundOperationStatus
  refine keeps_next (h.bgSettle.std fun _ _ ht => ?_)
  split <;> exact ht.replyCxl

theorem execGetEventRecords (h : s.Wf) {c} : Keeps (Machine.execGetEventRecords c s) := by
  unfold Machine.execGetEventRecords
  refine keeps_next (h.std fun _ _ ht => ?_)
  extract_lets log l rs overfl
  exact .ite ht.replyCxl ht.replyCxl

theorem execClearEventRecords (h : s.Wf) {c} : Keeps (Machine.execClearEventRecords c s) := by
  unfold Machine.execClearEventRecords
  refine keeps_next (h.std fun _ _ ht => ?_)
  extract_lets log n k l
  exact .ite ht.replyCxl (.ite ht.onLd.replyCxl (.ite ht.replyCxl (.ite ht.replyCxl ht.onLd.replyCxl)))

theorem execGetEventInterruptPolicy (h : s.Wf) {c} : Keeps (Machine.execGetEventInterruptPolicy c s) :=
  keeps_next (h.std fun _ _ ht => ht.replyCxl)

theorem execSetEventInterruptPolicy (h : s.Wf) {c} : Keeps (Machine.execSetEventInterruptPolicy c s) := by
  unfold Machine.execSetEventInterruptPolicy
  refine keeps_next (h.std fun _ _ ht => ?_)
  extract_lets n old v
  exact .ite ht.replyCxl ht.onLd.replyCxl

theorem execGetFwInfo (h : s.Wf) {c} : Keeps (Machine.execGetFwInfo c s) := keeps_next (h.std fun _ _ ht => ht.replyCxl)

theorem onFw (h : s.Wf) {f} : (s.onFw f).Wf := h.onCs

theorem fwProgram (h : s.Wf) {b off d bad} : (s.fwProgram b off d bad).1.Wf := by
  unfold State.fwProgram
  extract_lets ws fail
  split
  · exact h
  · split
    · exact h.eflEnd
    · exact h.programWords.eflEnd

theorem fwClose (h : s.Wf) : s.fwClose.Wf := h.onCs

theorem fwErase (h : s.Wf) {f bad} : (s.fwErase f bad).Wf := by
  unfold State.fwErase
  refine .ite h (.ite h.bgFinish.fwClose ?_)
  extract_lets n
  refine .ite h.eraseBegin.onFw ?_
  split
  have ht := h.onFw.fwProgram.fst ‹_›
  exact .ite ht.bgFinish.fwClose (.ite ht.bgFinish.fwClose ht.bgFinish)

theorem fwPart (h : s.Wf) {m bad} : (s.fwPart m bad).Wf := by
  unfold State.fwPart
  extract_lets act slot off d t
  have ht : t.Wf := h.onCs
  refine .ite h.replyCxl (.ite h.replyCxl ?_)
  split
  · exact .ite h.replyCxl (.ite h.replyCxl (.ite h.replyCxl (.ite h.replyCxl ht.setBg.replyCxl)))
  · refine .ite h.replyCxl (.ite (.ite h.bgFinish.fwClose.replyCxl h.fwClose.replyCxl) (.ite h.replyCxl (.ite h.replyCxl (.ite
    h.replyCxl (.ite h.replyCxl (.ite h ?_))))))
    split
    have ht' := h.fwProgram.fst ‹_›
    exact .ite ht'.fwClose.replyCxl (.ite ht'.onFw.replyCxl ht'.fwClose.replyCxl)

theorem execTransferFw (h : s.Wf) {c bad} : Keeps (Machine.execTransferFw c bad s) := by
  unfold Machine.execTransferFw
  refine keeps_next ?_
  split
  · split
    · exact .ite h.fwErase h
    · exact h
  · exact h.std fun _ _ ht => ht.fwPart

theorem stampPut (h : s.Wf) {b} : (s.stampPut b).Wf := by
  unfold State.stampPut
  extract_lets n t
  have ht : t.Wf := .ite h.eflErase.setIncmp.bump h
  exact ht.programWords.eflEnd

theorem execActivateFw (h : s.Wf) {c} : Keeps (Machine.execActivateFw c s) := by
  unfold Machine.execActivateFw
  refine keeps_next ?_
  split
  · split
    · exact .ite h.onCs.groupRequest h
    · exact h
  · refine h.std fun _ _ ht => ?_
    extract_lets slot u
    have hu : u.Wf := ht.stampPut.replyCxl
    exact .ite ht.replyCxl (.ite ht.replyCxl (.ite ht (.ite hu.onCs hu)))

theorem execGetTimestamp (h : s.Wf) {c} : Keeps (Machine.execGetTimestamp c s) :=
  keeps_next (h.std fun _ _ ht => ht.replyCxl)

theorem execSetTimestamp (h : s.Wf) {c} : Keeps (Machine.execSetTimestamp c s) :=
  keeps_next (h.std fun _ _ ht => ht.writeTimeSet.replyCxl)

theorem execGetSupportedLogs (h : s.Wf) {c} : Keeps (Machine.execGetSupportedLogs c s) :=
  keeps_next (h.std fun _ _ ht => ht.replyCxl)

theorem execGetLog (h : s.Wf) {c} : Keeps (Machine.execGetLog c s) := by
  unfold Machine.execGetLog
  refine keeps_next (h.std fun _ _ ht => ?_)
  extract_lets off len
  exact .ite ht.replyCxl (.ite ht.replyCxl ht.replyCxl)

theorem execIdentifyMemoryDevice (h : s.Wf) {c} : Keeps (Machine.execIdentifyMemoryDevice c s) :=
  keeps_next (h.std fun _ _ ht => ht.replyCxl)

theorem execGetHealthInfo (h : s.Wf) {c temp} : Keeps (Machine.execGetHealthInfo c temp s) :=
  keeps_next (h.std fun _ _ ht => ht.replyCxl)

theorem execGetAlertConfiguration (h : s.Wf) {c} : Keeps (Machine.execGetAlertConfiguration c s) := by
  unfold Machine.execGetAlertConfiguration
  refine keeps_next (h.std fun _ _ ht => ?_)
  extract_lets a
  exact ht.replyCxl

theorem execSetAlertConfiguration (h : s.Wf) {c} : Keeps (Machine.execSetAlertConfiguration c s) := by
  unfold Machine.execSetAlertConfiguration
  refine keeps_next (h.std fun _ _ ht => ?_)
  extract_lets v en k a0 a1 a2 a3 a4
  exact .ite ht.replyCxl ht.onLd.replyCxl

theorem execGetShutdownState (h : s.Wf) {c} : Keeps (Machine.execGetShutdownState c s) :=
  keeps_next (h.std fun _ _ ht => ht.replyCxl)

theorem execSetShutdownState (h : s.Wf) {c} : Keeps (Machine.execSetShutdownState c s) :=
  keeps_next (h.std fun _ _ ht => .ite ht.replyCxl ht.onLd.replyCxl)

theorem execGetPoisonList (h : s.Wf) {c} : Keeps (Machine.execGetPoisonList c s) := by
  unfold Machine.execGetPoisonList
  refine keeps_next (h.std fun _ _ ht => ?_)
  extract_lets l r
  exact ht.replyCxl

theorem execInjectPoison (h : s.Wf) {c} : Keeps (Machine.execInjectPoison c s) := by
  unfold Machine.execInjectPoison
  refine keeps_next (h.std fun _ _ ht => ?_)
  extract_lets line p
  exact .ite (.ite ht ht.replyCxl) (.ite ht.replyCxl (.ite ht.replyCxl (.ite ht.replyCxl ht.poisonStart.setStage)))

theorem execClearPoison (h : s.Wf) {c env} : Keeps (Machine.execClearPoison c env s) := by
  unfold Machine.execClearPoison
  refine keeps_next (h.std fun _ _ ht => ?_)
  extract_lets line k r
  exact .ite (.ite ht ht.replyCxl) (.ite ht.replyCxl ht.setStage.submit)

theorem execGetDcConfiguration (h : s.Wf) {c} : Keeps (Machine.execGetDcConfiguration c s) := by
  unfold Machine.execGetDcConfiguration
  refine keeps_next (h.std fun _ _ ht => ?_)
  extract_lets all first rs
  exact .ite ht.replyCxl ht.replyCxl

theorem execGetDcExtentList (h : s.Wf) {c} : Keeps (Machine.execGetDcExtentList c s) := by
  unfold Machine.execGetDcExtentList
  refine keeps_next (h.std fun _ _ ht => ?_)
  extract_lets all first rs
  exact .ite ht.replyCxl ht.replyCxl

theorem execAddDcResponse (h : s.Wf) {c} : Keeps (Machine.execAddDcResponse c s) := by
  unfold Machine.execAddDcResponse
  refine keeps_next (h.std fun _ _ ht => ?_)
  extract_lets k
  exact .ite ht.replyCxl (.ite ht.onLd.replyCxl (.ite ht.replyCxl ht.onLd.replyCxl))

theorem execReleaseDc (h : s.Wf) {c} : Keeps (Machine.execReleaseDc c s) := by
  unfold Machine.execReleaseDc
  refine keeps_next (h.std fun _ _ ht => ?_)
  extract_lets k
  exact .ite ht.replyCxl (.ite ht.replyCxl (.ite ht.replyCxl ht.onLd.replyCxl))

theorem idle (h : s.Wf) : s.idle.Wf := by
  unfold State.idle
  extract_lets t h'
  have ht : t.Wf := h.tick.foldl fun _ _ ht => ht.bgSettle
  exact .ite ht.onCs.ldEventAll ht

/-! ## Machine/Bus.lean: a write and a read of control space -/

theorem store (h : s.Wf) {w keep} : (s.store w keep).Wf := by
  unfold State.store
  extract_lets k v
  exact h.wrW

theorem put (h : s.Wf) {w} : (s.put w).Wf := h.store

theorem putOrder (h : s.Wf) {w lo n ok} : (s.putOrder w lo n ok).Wf := .ite h.put h.store

theorem putWorld (h : s.Wf) {w mask} : (s.putWorld w mask).Wf := by
  unfold State.putWorld
  refine .ite h.put ?_
  extract_lets x t
  have ht : t.Wf := h.store
  exact .ite ht ht.badAccess

theorem wrCommon (h : s.Wf) {i w} : (s.wrCommon i w).Wf := .ite h.writeFltSts (.ite h.writeFltInj h.put)

theorem wrHpt (h : s.Wf) {w} : (s.wrHpt w).Wf := by
  unfold State.wrHpt
  split
  · exact h.writeBifur
  · exact h.put.writeSubFence.writeSubUnfence
  · exact h.writeDevload
  · extract_lets t u
    have ht : t.Wf := h.store
    have hu : u.Wf := .ite ht.writeEnable ht
    exact .ite hu.writeRetrain hu
  · exact h.writeLdmbx
  · exact h.put

theorem wrNpt (h : s.Wf) {w} : (s.wrNpt w).Wf := by
  unfold State.wrNpt
  split
  · exact h.writeNpt
  · exact h.put

theorem wrTin (h : s.Wf) {w} : (s.wrTin w).Wf := by
  unfold State.wrTin
  split
  · exact h.writeDpaLimit
  · exact .ite h.wr h
  · exact h.putWorld
  · exact h.putWorld
  · exact h.putWorld
  · exact h.putWorld
  · exact h.putWorld
  · exact h.writeRgnCommit
  · exact h.writeChkLast
  · exact .ite h.wr h
  · exact h.put

theorem wrTc (h : s.Wf) {w} : (s.wrTc w).Wf := by
  unfold State.wrTc
  split
  · extract_lets t
    have ht : t.Wf := .ite h.writeClusterFence h
    exact .ite ht.writeClusterUnfence ht
  · exact h.writeTineFence
  · exact h.writeTineUnfence
  · exact .ite h.wr h
  · exact .ite h.writeFlush h
  · exact h.put

theorem wrNch (h : s.Wf) {w} : (s.wrNch w).Wf := by
  unfold State.wrNch
  split
  · extract_lets on
    exact .ite h.put.writeCacheEn h.put
  · extract_lets t
    have ht : t.Wf := .ite h.put.writeNcFence h.put
    exact .ite ht.writeNcUnfence ht
  · extract_lets t
    have ht : t.Wf := .ite h.writeInvGo h
    exact .ite ht.writeInvAll ht
  · exact h.writeWaydis
  · exact h.put

theorem wrDrm (h : s.Wf) {w} : (s.wrDrm w).Wf := by
  unfold State.wrDrm
  split
  · exact h.writeDrmCfg
  · extract_lets t
    exact h.putOrder
  · extract_lets t
    have ht : t.Wf := .ite h.put.writeSrEnter h.put
    exact .ite ht.writeSrExit ht
  · extract_lets t u
    have ht : t.Wf := h.put.foldl fun _ _ hu => hu.writeDramFence
    have hu : u.Wf := .ite ht.writeDramFence ht
    exact .ite hu.writeDramUnfence hu
  · extract_lets v
    refine .ite h.put ?_
    split
    · exact h.mrCommand.wr
    · exact h.trainCompare
    · exact h.mrCommand
  · exact h.put.showFrames.showPins
  · exact h.put.showFrames.showPins
  · exact h.put.showFrames.showPins
  · extract_lets t
    have ht : t.Wf := h.put
    exact ht.wr
  · exact h.put.reclass
  · exact .ite h.wr h
  · exact h.writeDelay
  · exact h.writeDelay
  · exact h.writeDelay
  · exact h.put

theorem wrWin (h : s.Wf) {w} : (s.wrWin w).Wf := by
  unfold State.wrWin
  split
  · extract_lets t
    exact h.putOrder
  · extract_lets t
    exact h.putOrder
  · exact .ite h.writePin h.put
  · exact h.writePol
  · exact h.put

theorem wrFur (h : s.Wf) {w} : (s.wrFur w).Wf := by
  unfold State.wrFur
  split
  · exact .ite h.put.furEnable h.put.showSb
  · exact .ite h h.put
  · exact .ite h h.put
  · exact .ite h h.put
  · extract_lets t
    exact h.putOrder.showSb
  · exact h.put

theorem wrFc (h : s.Wf) {w} : (s.wrFc w).Wf := by
  unfold State.wrFc
  split
  · extract_lets t t1 t2
    have ht : t.Wf := h.put
    have ht1 : t1.Wf := .ite ht.wr (.ite ht.wr ht)
    have ht2 : t2.Wf := .ite ht1.flashFence ht1
    exact .ite ht2.writeFlashUnfence ht2
  · exact h.writeLunFence.writeLunUnfence
  · refine .ite h.put ?_
    extract_lets v
    exact h.onfiStep fun _ hu => .ite hu.xbufIn hu
  · exact .ite h.writeFlashApply h
  · exact h.writeFlashDelay
  · exact h.writeFlashDelay
  · exact h.put

theorem wrHrv (h : s.Wf) {w} : (s.wrHrv w).Wf := by
  unfold State.wrHrv
  split
  · extract_lets t u
    have ht : t.Wf := h.writeHrvCtl
    have hu : u.Wf := .ite ht.wr ht
    exact .ite hu.writeHrvStart hu
  · exact h.writeHrvCfg
  · exact h.writeHrvCfg
  · exact h.writeHrvCfg
  · exact h.writeHrvCfg
  · exact h.put

theorem wrYok (h : s.Wf) {w} : (s.wrYok w).Wf := by
  unfold State.wrYok
  split
  · extract_lets t
    have ht : t.Wf := .ite h.writePairs h
    exact .ite ht.yokEnable ht
  · extract_lets t
    have ht : t.Wf := .ite h.writeRsvGo h.put
    exact .ite ht.writeRsvStop ht
  · exact h.put

theorem wrDrl (h : s.Wf) {w} : (s.wrDrl w).Wf := by
  unfold State.wrDrl
  split
  · exact h.writeDrlCtl
  · exact .ite h.connCmd h.put
  · exact .ite h.jqCmd h.put
  · exact h.put

theorem wrGrn (h : s.Wf) {w} : (s.wrGrn w).Wf := by
  unfold State.wrGrn
  split
  · exact .ite h.writeGrnEnable h
  · exact h.writeGrnCfg
  · exact .ite h h.writeGrnMin
  · exact h.put

theorem wrCph (h : s.Wf) {w} : (s.wrCph w).Wf := by
  unfold State.wrCph
  split
  · extract_lets t
    have ht : t.Wf := .ite h.put.selfTest h.put
    exact .ite ht.alarm ht
  · exact .ite h (.ite h.put.wrW h.put)
  · exact h.writeAlarmSts
  · exact .ite h.slotCmd h.put
  · exact h.wrW
  · exact .ite h.fwGo h.put
  · exact .ite h h.put
  · exact h.put

theorem wrHdl (h : s.Wf) {w} : (s.wrHdl w).Wf := by
  unfold State.wrHdl
  split
  · extract_lets t
    have ht : t.Wf := .ite h.put.writeCoreFence h.put
    exact .showOrphan (.ite ht.writeCoreUnfence ht)
  · exact h.put.showOrphan
  · exact h.put

theorem wrMbx (h : s.Wf) {w} : (s.wrMbx w).Wf := by
  unfold State.wrMbx
  split
  · exact .ite h.writeMbxSend h.put
  · extract_lets x
    exact .ite h.writeMbxAck h.put
  · exact h.writeSem
  · exact .ite h.writeSemForce h.put
  · exact h.put

theorem wrEfl (h : s.Wf) {w} : (s.wrEfl w).Wf := by
  unfold State.wrEfl
  split
  · exact h.ignored
  · exact h.ignored
  · exact h.badAccess
  · extract_lets t u
    have ht : t.Wf := .ite h h.put
    have hu : u.Wf := .ite ht.wr ht
    exact .ite hu.kick hu
  · exact h.put

theorem wrPwr (h : s.Wf) {w} : (s.wrPwr w).Wf := by
  unfold State.wrPwr
  split
  · extract_lets t
    have ht : t.Wf := .ite h.writePwrOn h
    exact .ite ht.writePwrOff ht
  · exact .ite h.writePwrFault h
  · exact .ite h.ignored h.put.showOverCap
  · exact .ite h.pmbus h.put
  · exact h.writePdOn
  · exact h.writePdOff
  · exact .ite h.put h.badAccess
  · exact h.put

theorem wrRst (h : s.Wf) {w} : (s.wrRst w).Wf := by
  unfold State.wrRst
  split
  · extract_lets t
    have ht : t.Wf := .ite h h.writeGroups
    exact .ite ht.writeAdmit ht
  · exact h.put

theorem wrRec (h : s.Wf) {w} : (s.wrRec w).Wf := by
  unfold State.wrRec
  split
  · exact h.writeRecClear
  · exact .ite h.writeTimeSet h.badAccess
  · exact .ite h.writeFwCtl h.put
  · exact h.put

theorem wrTth (h : s.Wf) {w} : (s.wrTth w).Wf := by
  unfold State.wrTth
  split
  · exact h.writeTitheCfg
  · exact h.writeTitheRel
  · exact h.put

theorem wrReg (h : s.Wf) {i w} : (s.wrReg i w).Wf := by
  unfold State.wrReg
  refine .ite h.wrCommon ?_
  split
  · exact h.wrHpt
  · exact h.wrNpt
  · exact h.wrTin
  · exact h.wrTc
  · exact h.wrNch
  · exact h.wrDrm
  · exact h.put
  · exact h.wrWin
  · exact h.wrFur
  · exact h.wrFc
  · exact h.wrHrv
  · exact h.wrYok
  · exact h.wrDrl
  · exact h.wrGrn
  · exact h.wrCph
  · exact h.wrHdl
  · exact h.wrMbx
  · exact h.wrEfl
  · exact h.wrPwr
  · exact h.wrRst
  · exact h.wrRec
  · exact h.wrTth

theorem aperWrite (h : s.Wf) {a i off wide addr v} : (s.aperWrite a i off wide addr v).Wf := by
  unfold State.aperWrite
  refine .ite ?_ h.badAccess
  extract_lets c o
  exact h.onMb

theorem wrRegAs (h : s.Wf) {i w wide addr v} : (s.wrRegAs i w wide addr v).Wf := by
  unfold State.wrRegAs
  extract_lets n t q t'
  have ht : t.Wf := h.wrReg
  exact .ite ht (.wr (ht.withRcd ht.rcd))

theorem ctrlWrite (h : s.Wf) {a addr wide v env} : (s.ctrlWrite a addr wide v env).Wf := by
  unfold State.ctrlWrite
  extract_lets t
  have ht : t.Wf := h.dropShadow
  split
  · exact ht.badAccess
  · exact ht
  · exact ht.aperWrite
  · extract_lets base m x
    exact ht.wrRegAs

theorem ctrlRead (h : s.Wf) {a addr wide} : (s.ctrlRead a addr wide).1.Wf := by
  unfold State.ctrlRead
  extract_lets t
  have ht : t.Wf := h.dropShadow
  split
  · exact ht.badAccess
  · exact ht
  · exact .ite ht.withFresh ht
  · split
    · split
      have ht' := ht.semRead.fst ‹_›
      exact ht'
    · extract_lets x
      split
      · exact ht
      · split
        · exact ht
        · split
          · exact ht.withShadow
          · split <;> exact ht

theorem coreRead (h : s.Wf) {a addr wide} : (s.coreRead a addr wide).Wf := by
  unfold State.coreRead
  split
  have ht := h.ctrlRead.fst ‹_›
  exact ht.emit

theorem execCtrlRegWrite (h : s.Wf) {a addr wide v env} : Keeps (Machine.execCtrlRegWrite a addr wide v env s) :=
  keeps_next h.ctrlWrite

theorem execBadWidthAccess (h : s.Wf) {a wr addr size v} : Keeps (Machine.execBadWidthAccess a wr addr size v s) := by
  unfold Machine.execBadWidthAccess
  refine keeps_next (.ite h ?_)
  extract_lets t
  have ht : t.Wf := h.dropShadow.badAccess
  exact .ite ht ht.emit

theorem execLowHalfRead (h : s.Wf) {a addr} : Keeps (Machine.execLowHalfRead a addr s) := keeps_next h.coreRead

theorem execHighHalfRead (h : s.Wf) {a addr} : Keeps (Machine.execHighHalfRead a addr s) := keeps_next h.coreRead

theorem turnedAway (h : s.Wf) {a wr addr wide v reason} : (s.turnedAway a wr addr wide v reason).Wf := by
  unfold State.turnedAway
  split
  · refine .ite ?_ h
    extract_lets t
    have ht : t.Wf := h.dropShadow.badAccess
    exact .ite ht ht.emit
  · exact h

theorem execUnassignedAccess (h : s.Wf) {a wr addr wide v} : Keeps (Machine.execUnassignedAccess a wr addr wide v s) :=
  keeps_next h.turnedAway

theorem execSidebandWindowDenied (h : s.Wf) {wr addr wide v} : Keeps (Machine.execSidebandWindowDenied wr addr wide v s) :=
  keeps_next h.turnedAway

theorem execPoweredOffWindowAccess (h : s.Wf) {a wr addr wide v} : Keeps (Machine.execPoweredOffWindowAccess a wr addr wide v
    s) :=
  keeps_next h.turnedAway

/-! ## Machine/Sideband.lean: the sideband and the reference clocks -/

theorem sbWrite (h : s.Wf) {pec addr wide v env} : (s.sbWrite pec addr wide v env).Wf := .ite h (.ite h.ctrlWrite h.emit)

theorem execSbWrite32 (h : s.Wf) {pec addr v env} : Keeps (Machine.execSbWrite32 pec addr v env s) := keeps_next h.sbWrite

theorem execSbWrite64 (h : s.Wf) {pec addr v env} : Keeps (Machine.execSbWrite64 pec addr v env s) := keeps_next h.sbWrite

theorem sbReadPhase (h : s.Wf) {wide} : (s.sbReadPhase wide).Wf := by
  unfold State.sbReadPhase
  extract_lets n t
  have ht : t.Wf := h.onPw
  split
  · refine .ite ht.emit ?_
    split
    have ht' := ht.ctrlRead.fst ‹_›
    exact ht'.emit
  · exact ht.emit
  · exact ht.emit

theorem sbReads (h : s.Wf) {wide w pec read} : (s.sbReads wide w pec read).Wf := by
  unfold State.sbReads
  refine .ite h ?_
  extract_lets t
  have ht : t.Wf := by
    unfold t
    split
    · exact h
    · extract_lets u
      have hu : u.Wf := h.onPw
      exact .ite hu hu.emit
  exact .ite ht.sbReadPhase ht

theorem execSbRead32 (h : s.Wf) {w pec read} : Keeps (Machine.execSbRead32 w pec read s) := keeps_next h.sbReads

theorem execSbRead64 (h : s.Wf) {w pec read} : Keeps (Machine.execSbRead64 w pec read s) := keeps_next h.sbReads

theorem execI3cDynamicAddress (h : s.Wf) {addr} : Keeps (Machine.execI3cDynamicAddress addr s) :=
  keeps_next (.ite h.onPw h)

theorem execI3cRstdaa (h : s.Wf) : Keeps (Machine.execI3cRstdaa s) := keeps_next (.ite h.onPw h)

theorem execSmbusSclTimeout (h : s.Wf) : Keeps (Machine.execSmbusSclTimeout s) := keeps_next h.onPw

theorem execAlertResponse (h : s.Wf) : Keeps (Machine.execAlertResponse s) := keeps_next (.ite h.emit h)

theorem refSwitch (h : s.Wf) {l} : (s.refSwitch l).Wf := h.onPw.record

theorem execDdrRefclkLoss (h : s.Wf) {h'} : Keeps (Machine.execDdrRefclkLoss h' s) := keeps_next (.ite h h.refSwitch)

theorem execDdrRefclkReturn (h : s.Wf) {h'} : Keeps (Machine.execDdrRefclkReturn h' s) := keeps_next (.ite h.refSwitch h)

/-! ## Every command, and the step -/

theorem exec (h : s.Wf) (i : Instr) : Keeps (Machine.exec i s) := by
  cases i with
  | ctrlRegWrite => exact h.execCtrlRegWrite
  | badWidthAccess => exact h.execBadWidthAccess
  | lowHalfRead => exact h.execLowHalfRead
  | highHalfRead => exact h.execHighHalfRead
  | unassignedAccess => exact h.execUnassignedAccess
  | sidebandWindowDenied => exact h.execSidebandWindowDenied
  | poweredOffWindowAccess => exact h.execPoweredOffWindowAccess
  | memWr => exact h.execMemWr
  | memWrPtl => exact h.execMemWrPtl
  | memRd => exact h.execMemRd
  | memInv => exact h.execMemInv
  | memClnEvct => exact h.execMemClnEvct
  | memSpecRd => exact h.execMemSpecRd
  | unsupportedM2sOpcode _ _ op => exact h.execUnsupportedM2sOpcode (op := op)
  | tierEntryReturn => exact h.execTierEntryReturn
  | specDataReturn => exact h.execSpecDataReturn
  | lockWayFreed => exact h.execLockWayFreed
  | modifyAfterReads => exact h.execModifyAfterReads
  | mirrorWaitReadResume => exact h.execMirrorWaitReadResume
  | cbLineFreedWrite => exact h.execCbLineFreedWrite
  | workSteal => exact h.execWorkSteal
  | drainAgeExpiry => exact h.execDrainAgeExpiry
  | frameReadyForDrain => exact h.execFrameReadyForDrain
  | writeQueueAccept => exact h.execWriteQueueAccept
  | tineFence => exact h.execTineFence
  | clusterFence => exact h.execClusterFence
  | fenceDrainEnd => exact h.execFenceDrainEnd
  | requestAbandon => exact h.execRequestAbandon
  | tineUnfence => exact h.execTineUnfence
  | clusterUnfence => exact h.execClusterUnfence
  | hintFlush => exact h.execHintFlush
  | altPeakClr => exact h.execAltPeakClr
  | cbUsePeakClr => exact h.execCbUsePeakClr
  | dpaLimitWrite => exact h.execDpaLimitWrite
  | worldLockSet => exact h.execWorldLockSet
  | chkLastClear => exact h.execChkLastClear
  | rgnOpNone => exact h.execRgnOpNone
  | rgnLoad => exact h.execRgnLoad
  | rgnCommit => exact h.execRgnCommit
  | rgnDestroy => exact h.execRgnDestroy
  | rgnDrainEnd => exact h.execRgnDrainEnd
  | rgnReleaseEnd => exact h.execRgnReleaseEnd
  | bifurModeWrite => exact h.execBifurModeWrite
  | sublinkEnableChange => exact h.execSublinkEnableChange
  | linkRetrain => exact h.execLinkRetrain
  | linkTrainDone => exact h.execLinkTrainDone
  | linkModeFail => exact h.execLinkModeFail
  | linkTrainRetryTimer => exact h.execLinkTrainRetryTimer
  | linkRecovery => exact h.execLinkRecovery
  | linkDown => exact h.execLinkDown
  | sublinkFence => exact h.execSublinkFence
  | sublinkUnfence => exact h.execSublinkUnfence
  | devloadWrite => exact h.execDevloadWrite
  | ldmbxWrite => exact h.execLdmbxWrite
  | perstAssert => exact h.execPerstAssert
  | hotReset => exact h.execHotReset
  | functionLevelReset => exact h.execFunctionLevelReset
  | cxlReset => exact h.execCxlReset
  | cxlResetEnd => exact h.execCxlResetEnd
  | getLdInfo => exact h.execGetLdInfo
  | getLdAllocations => exact h.execGetLdAllocations
  | fmApiUnsupported _ op => exact h.execFmApiUnsupported (op := op)
  | hdmDecoderCommit => exact h.execHdmDecoderCommit
  | dcEventRaise => exact h.execDcEventRaise
  | gpfPhase2 => exact h.execGpfPhase2
  | missFillReturn => exact h.execMissFillReturn
  | prefetchReturn => exact h.execPrefetchReturn
  | rangeInvalidate => exact h.execRangeInvalidate
  | wholeCacheInvalidate => exact h.execWholeCacheInvalidate
  | rangeInvEnd => exact h.execRangeInvEnd
  | zeroSweepEnd => exact h.execZeroSweepEnd
  | cacheEnWrite => exact h.execCacheEnWrite
  | ncBankFence => exact h.execNcBankFence
  | ncBankUnfence => exact h.execNcBankUnfence
  | dramReadReturn => exact h.execDramReadReturn
  | refreshInterval => exact h.execRefreshInterval
  | mr4Poll => exact h.execMr4Poll
  | refreshMakeupBurst => exact h.execRefreshMakeupBurst
  | requestAged => exact h.execRequestAged
  | rowIdlePrecharge => exact h.execRowIdlePrecharge
  | caParityAlert => exact h.execCaParityAlert
  | panicRaise => exact h.execPanicRaise
  | panicFall => exact h.execPanicFall
  | srEnterRequest => exact h.execSrEnterRequest
  | srIdleEntry => exact h.execSrIdleEntry
  | srExitRequest => exact h.execSrExitRequest
  | mrWrite => exact h.execMrWrite
  | mrRead => exact h.execMrRead
  | mpcCommand => exact h.execMpcCommand
  | trainingReadCompare => exact h.execTrainingReadCompare
  | delayApply => exact h.execDelayApply
  | delayShadowLoad => exact h.execDelayShadowLoad
  | channelActivate => exact h.execChannelActivate
  | oscillatorDriftCheck => exact h.execOscillatorDriftCheck
  | harrowPatrolRead => exact h.execHarrowPatrolRead
  | rankFence => exact h.execRankFence
  | channelFence => exact h.execChannelFence
  | evacuationEnd => exact h.execEvacuationEnd
  | dramUnfence => exact h.execDramUnfence
  | epochStart => exact h.execEpochStart
  | epochEnd => exact h.execEpochEnd
  | flashDataStaged => exact h.execFlashDataStaged
  | demotionStart => exact h.execDemotionStart
  | ceilingDemotion => exact h.execCeilingDemotion
  | cleaningStart => exact h.execCleaningStart
  | frameMoveStart => exact h.execFrameMoveStart
  | moveCopyDone => exact h.execMoveCopyDone
  | moveSwitch => exact h.execMoveSwitch
  | poisonPageFinalize => exact h.execPoisonPageFinalize
  | metaRebuildDone => exact h.execMetaRebuildDone
  | pinOp => exact h.execPinOp
  | unpinOp => exact h.execUnpinOp
  | pinOpNone => exact h.execPinOpNone
  | pinOpDone => exact h.execPinOpDone
  | pinLoadDone => exact h.execPinLoadDone
  | regionPolicyWrite => exact h.execRegionPolicyWrite
  | governorAdmit => exact h.execGovernorAdmit
  | governorRecompute => exact h.execGovernorRecompute
  | stripeProgramDone => exact h.execStripeProgramDone
  | slotReadReturn => exact h.execSlotReadReturn
  | demandSuspend => exact h.execDemandSuspend
  | suspendedOpResume => exact h.execSuspendedOpResume
  | gcStart => exact h.execGcStart
  | relocationCas => exact h.execRelocationCas
  | superblockErase => exact h.execSuperblockErase
  | wearLevel => exact h.execWearLevel
  | retentionScan => exact h.execRetentionScan
  | lunReadyTimeout => exact h.execLunReadyTimeout
  | lunRetire => exact h.execLunRetire
  | rebuildDone => exact h.execRebuildDone
  | flashChannelFence => exact h.execFlashChannelFence
  | flashChannelUnfence => exact h.execFlashChannelUnfence
  | lunUnfence => exact h.execLunUnfence
  | onfiCommandByte => exact h.execOnfiCommandByte
  | onfiAddressByte => exact h.execOnfiAddressByte
  | onfiDataOut => exact h.execOnfiDataOut
  | onfiDataIn => exact h.execOnfiDataIn
  | onfiWaitReady => exact h.execOnfiWaitReady
  | onfiDelayApply => exact h.execOnfiDelayApply
  | furrowFormat => exact h.execFurrowFormat
  | harvestStart => exact h.execHarvestStart
  | plossDeglitched => exact h.execPlossDeglitched
  | harvestCommandStart => exact h.execHarvestCommandStart
  | harvestSeal => exact h.execHarvestSeal
  | harvestStoreFail => exact h.execHarvestStoreFail
  | fallowEnd => exact h.execFallowEnd
  | harvestConfigWrite => exact h.execHarvestConfigWrite
  | harvestArmed => exact h.execHarvestArmed
  | resowStart => exact h.execResowStart
  | resowSweep => exact h.execResowSweep
  | yokeFrameSend => exact h.execYokeFrameSend
  | yokeDataReceive => exact h.execYokeDataReceive
  | yokeAckReceive => exact h.execYokeAckReceive
  | yokeGapTimer => exact h.execYokeGapTimer
  | yokeRtoExpiry => exact h.execYokeRtoExpiry
  | yokeHeartbeat => exact h.execYokeHeartbeat
  | pathDownTimer => exact h.execPathDownTimer
  | pathRejoin => exact h.execPathRejoin
  | yokeStallTimer => exact h.execYokeStallTimer
  | yokeHelloReceive => exact h.execYokeHelloReceive
  | yokeHelloRspReceive => exact h.execYokeHelloRspReceive
  | yokeConfirmReceive => exact h.execYokeConfirmReceive
  | yokeHelloRepeat => exact h.execYokeHelloRepeat
  | yokeCloseReceive => exact h.execYokeCloseReceive
  | keygenRollover => exact h.execKeygenRollover
  | healReqReceive => exact h.execHealReqReceive
  | healRspReceive => exact h.execHealRspReceive
  | healTimeout => exact h.execHealTimeout
  | yokeMbxReceive => exact h.execYokeMbxReceive
  | yokeMbxAckReceive => exact h.execYokeMbxAckReceive
  | yokeMbxRepeat => exact h.execYokeMbxRepeat
  | roleResolve => exact h.execRoleResolve
  | lagLimitResume => exact h.execLagLimitResume
  | granuleClearTimer => exact h.execGranuleClearTimer
  | resilverGo => exact h.execResilverGo
  | resilverStop => exact h.execResilverStop
  | yokePairsWrite => exact h.execYokePairsWrite
  | drlWrite => exact h.execDrlWrite
  | drlRead => exact h.execDrlRead
  | drlAtomic => exact h.execDrlAtomic
  | drlJob => exact h.execDrlJob
  | drlJqRead => exact h.execDrlJqRead
  | drlMbxReceive => exact h.execDrlMbxReceive
  | drlErrorReceive => exact h.execDrlErrorReceive
  | drlAckReceive => exact h.execDrlAckReceive
  | drlKeepaliveReceive => exact h.execDrlKeepaliveReceive
  | drlCloseReceive => exact h.execDrlCloseReceive
  | drlHelloReceive => exact h.execDrlHelloReceive
  | drlConfirmReceive => exact h.execDrlConfirmReceive
  | orderedPresent => exact h.execOrderedPresent
  | finalPresent => exact h.execFinalPresent
  | drlAckSend => exact h.execDrlAckSend
  | drlGapTimer => exact h.execDrlGapTimer
  | drlRtoExpiry => exact h.execDrlRtoExpiry
  | drlIdleTimeout => exact h.execDrlIdleTimeout
  | drlOpeningTimeout => exact h.execDrlOpeningTimeout
  | drlKeepaliveTimer => exact h.execDrlKeepaliveTimer
  | drlCloseRepeat => exact h.execDrlCloseRepeat
  | connOpen => exact h.execConnOpen
  | connCloseOp => exact h.execConnCloseOp
  | connSnapshot => exact h.execConnSnapshot
  | drillPortRemove => exact h.execDrillPortRemove
  | addressResolutionRx => exact h.execAddressResolutionRx
  | netPortModeWrite => exact h.execNetPortModeWrite
  | netPortRetrain => exact h.execNetPortRetrain
  | netLinkUp => exact h.execNetLinkUp
  | netLinkDown => exact h.execNetLinkDown
  | netTrainFail => exact h.execNetTrainFail
  | pfcFrameReceive => exact h.execPfcFrameReceive
  | jqBind => exact h.execJqBind
  | jqUnbind => exact h.execJqUnbind
  | jqUnboundReached => exact h.execJqUnboundReached
  | jobStart => exact h.execJobStart
  | jobComplete => exact h.execJobComplete
  | jobWaitTimeout => exact h.execJobWaitTimeout
  | jqReadTimeout => exact h.execJqReadTimeout
  | pushPacketSend => exact h.execPushPacketSend
  | jobAllocRetry => exact h.execJobAllocRetry
  | granaryAlloc => exact h.execGranaryAlloc
  | granaryAddref => exact h.execGranaryAddref
  | granaryRelease => exact h.execGranaryRelease
  | granaryEnable => exact h.execGranaryEnable
  | granaryReady => exact h.execGranaryReady
  | granaryCountWrite => exact h.execGranaryCountWrite
  | granaryMinWrite => exact h.execGranaryMinWrite
  | keySlotLoad => exact h.execKeySlotLoad
  | keySlotErase => exact h.execKeySlotErase
  | keySlotForget => exact h.execKeySlotForget
  | slotCmdNone => exact h.execSlotCmdNone
  | cipherAlarm => exact h.execCipherAlarm
  | cipherForce => exact h.execCipherForce
  | deviceKeyRederived => exact h.execDeviceKeyRederived
  | alarmStatusClear => exact h.execAlarmStatusClear
  | cipherSelftest => exact h.execCipherSelftest
  | laneTestEnd => exact h.execLaneTestEnd
  | firmwareJob => exact h.execFirmwareJob
  | firmwareJobEnd => exact h.execFirmwareJobEnd
  | mbxSend => exact h.execMbxSend
  | mbxAck => exact h.execMbxAck
  | hwSenderPresent => exact h.execHwSenderPresent
  | outSlotDeliver => exact h.execOutSlotDeliver
  | mbxPollTimer => exact h.execMbxPollTimer
  | semRead => exact h.execSemRead
  | semRelease => exact h.execSemRelease
  | semForce => exact h.execSemForce
  | coreSleep => exact h.execCoreSleep
  | coreWake => exact h.execCoreWake
  | coreFence => exact h.execCoreFence
  | coreSelfCheckFail => exact h.execCoreSelfCheckFail
  | coreUnfence => exact h.execCoreUnfence
  | identify => exact h.execIdentify
  | health => exact h.execHealth
  | bgStatus => exact h.execBgStatus
  | accessSet => exact h.execAccessSet
  | worldConfig => exact h.execWorldConfig
  | capacitySet => exact h.execCapacitySet
  | regionCreate => exact h.execRegionCreate
  | regionRights => exact h.execRegionRights
  | regionAttr => exact h.execRegionAttr
  | regionDestroy => exact h.execRegionDestroy
  | regionInfo => exact h.execRegionInfo
  | ldBind => exact h.execLdBind
  | cgSet => exact h.execCgSet
  | durabilitySet => exact h.execDurabilitySet
  | placementSet => exact h.execPlacementSet
  | pinCommand => exact h.execPinCommand
  | sessionOpen => exact h.execSessionOpen
  | sessionClose => exact h.execSessionClose
  | keyLoad => exact h.execKeyLoad
  | keyErase => exact h.execKeyErase
  | keyStatus => exact h.execKeyStatus
  | pairSet => exact h.execPairSet
  | roleHandover => exact h.execRoleHandover
  | roleTake => exact h.execRoleTake
  | roleSplit => exact h.execRoleSplit
  | resilver => exact h.execResilver
  | yokeStatus => exact h.execYokeStatus
  | portSet => exact h.execPortSet
  | connOpenCommand => exact h.execConnOpenCommand
  | connCloseCommand => exact h.execConnCloseCommand
  | connInfo => exact h.execConnInfo
  | jqBindCommand => exact h.execJqBindCommand
  | jqUnbindCommand => exact h.execJqUnbindCommand
  | jqInfo => exact h.execJqInfo
  | harvestSet => exact h.execHarvestSet
  | storeDeclare => exact h.execStoreDeclare
  | harvestStatus => exact h.execHarvestStatus
  | harvestStartCommand => exact h.execHarvestStartCommand
  | powerCap => exact h.execPowerCap
  | faultList => exact h.execFaultList
  | fenceCommand => exact h.execFenceCommand
  | faultClear => exact h.execFaultClear
  | train => exact h.execTrain
  | heal => exact h.execHeal
  | recorderRead => exact h.execRecorderRead
  | recorderClear => exact h.execRecorderClear
  | titheRead => exact h.execTitheRead
  | titheInfo => exact h.execTitheInfo
  | sanitise => exact h.execSanitise
  | commandUnsupported => exact h.execCommandUnsupported
  | cxlIdentify => exact h.execCxlIdentify
  | backgroundOperationStatus => exact h.execBackgroundOperationStatus
  | getEventRecords => exact h.execGetEventRecords
  | clearEventRecords => exact h.execClearEventRecords
  | getEventInterruptPolicy => exact h.execGetEventInterruptPolicy
  | setEventInterruptPolicy => exact h.execSetEventInterruptPolicy
  | getFwInfo => exact h.execGetFwInfo
  | transferFw => exact h.execTransferFw
  | activateFw => exact h.execActivateFw
  | getTimestamp => exact h.execGetTimestamp
  | setTimestamp => exact h.execSetTimestamp
  | getSupportedLogs => exact h.execGetSupportedLogs
  | getLog => exact h.execGetLog
  | identifyMemoryDevice => exact h.execIdentifyMemoryDevice
  | getHealthInfo => exact h.execGetHealthInfo
  | getAlertConfiguration => exact h.execGetAlertConfiguration
  | setAlertConfiguration => exact h.execSetAlertConfiguration
  | getShutdownState => exact h.execGetShutdownState
  | setShutdownState => exact h.execSetShutdownState
  | getPoisonList => exact h.execGetPoisonList
  | injectPoison => exact h.execInjectPoison
  | clearPoison => exact h.execClearPoison
  | getDcConfiguration => exact h.execGetDcConfiguration
  | getDcExtentList => exact h.execGetDcExtentList
  | addDcResponse => exact h.execAddDcResponse
  | releaseDc => exact h.execReleaseDc
  | eflProgram => exact h.execEflProgram
  | eflErase => exact h.execEflErase
  | eflSuspend => exact h.execEflSuspend
  | eflResume => exact h.execEflResume
  | eflStatus => exact h.execEflStatus
  | eflAbort => exact h.execEflAbort
  | otpProgram => exact h.execOtpProgram
  | otpGenRoot => exact h.execOtpGenRoot
  | erasePulseEnd => exact h.execErasePulseEnd
  | romBoot otp dram nand => exact h.execRomBoot (otp := otp) (dram := dram) (nand := nand)
  | wdtKick => exact h.execWdtKick
  | wdtExpiry => exact h.execWdtExpiry
  | wdtEscalation => exact h.execWdtEscalation
  | imageFlagActivation => exact h.execImageFlagActivation
  | pwrCtlOn => exact h.execPwrCtlOn
  | pwrCtlOff => exact h.execPwrCtlOff
  | plossRise => exact h.execPlossRise
  | railPgChange => exact h.execRailPgChange
  | railStable => exact h.execRailStable
  | railOnTimeout => exact h.execRailOnTimeout
  | railPgLost => exact h.execRailPgLost
  | pwrFltNFall => exact h.execPwrFltNFall
  | railOffDelay => exact h.execRailOffDelay
  | railOffTimeout => exact h.execRailOffTimeout
  | pwrFaultClear => exact h.execPwrFaultClear
  | pdOn => exact h.execPdOn
  | pdOff => exact h.execPdOff
  | voltageLoopStep => exact h.execVoltageLoopStep
  | powerMeasure => exact h.execPowerMeasure
  | pmbusTransaction => exact h.execPmbusTransaction
  | vddioSbLow => exact h.execVddioSbLow
  | groupResetRequest => exact h.execGroupResetRequest
  | groupResetRelease => exact h.execGroupResetRelease
  | admitTines => exact h.execAdmitTines
  | powerOnReset => exact h.execPowerOnReset
  | aonResetRelease => exact h.execAonResetRelease
  | deviceReset => exact h.execDeviceReset
  | tapReset => exact h.execTapReset
  | memoryActiveSet => exact h.execMemoryActiveSet
  | pulseOverrun => exact h.execPulseOverrun
  | fltStsClear => exact h.execFltStsClear
  | fltInfoClear => exact h.execFltInfoClear
  | fltInject => exact h.execFltInject
  | recordWrite => exact h.execRecordWrite
  | recClear => exact h.execRecClear
  | recTimeSet => exact h.execRecTimeSet
  | recFwRecord => exact h.execRecFwRecord
  | titheCounterSample => exact h.execTitheCounterSample
  | titheIntervalClose => exact h.execTitheIntervalClose
  | titheRelease => exact h.execTitheRelease
  | titheCfgWrite => exact h.execTitheCfgWrite
  | titheLifeStart => exact h.execTitheLifeStart
  | titheWatchdogRestart => exact h.execTitheWatchdogRestart
  | sbWrite32 => exact h.execSbWrite32
  | sbWrite64 => exact h.execSbWrite64
  | sbRead32 => exact h.execSbRead32
  | sbRead64 => exact h.execSbRead64
  | i3cDynamicAddress => exact h.execI3cDynamicAddress
  | i3cRstdaa => exact h.execI3cRstdaa
  | smbusSclTimeout => exact h.execSmbusSclTimeout
  | alertResponse => exact h.execAlertResponse
  | ddrRefclkLoss => exact h.execDdrRefclkLoss
  | ddrRefclkReturn => exact h.execDdrRefclkReturn
  | perstRelease => exact h.execPerstRelease
  | yokeHbReceive => exact h.execYokeHbReceive
  | pathProbationGap => exact h.execPathProbationGap
  | tineSelfCheckFail => exact h.execTineSelfCheckFail
  | sequencerSelfCheckFail => exact h.execSequencerSelfCheckFail
  | superblockEraseDone => exact h.execSuperblockEraseDone
  | macFrameDiscard => exact h.execMacFrameDiscard
  | fecUncorrectableCodeword => exact h.execFecUncorrectableCodeword
  | vddioSbReturn => exact h.execVddioSbReturn
  | storeDeclarationStale => exact h.execStoreDeclarationStale
  | energyMonitorFail => exact h.execEnergyMonitorFail
  | relayReplyTimeout => exact h.execRelayReplyTimeout

theorem step (h : s.Wf) : Keeps (Machine.step s) := by
  unfold Machine.step
  split
  · exact keeps_next h.idle
  · exact h.withPending.exec _

end State.Wf
end Sys2Proof.Machine

open Sys2Proof Sys2Proof.Machine

/-- Settles O59: the rule of each function gives the rule of each command, and those the rule of the step. -/
theorem everyStepAnswersANextStateAndKeepsTheCanonicalForm :
    Obligations.EveryStepAnswersANextStateAndKeepsTheCanonicalForm := by
  unfold Obligations.EveryStepAnswersANextStateAndKeepsTheCanonicalForm
  exact fun _ h => h.step

end
